-- ==== Sys2Proof/Word.lean ====
section
/-! DEFINITION. The word types of the model and their plainest arithmetic. -/

namespace Sys2Proof

/-- One byte (R3: multi-byte fields are little-endian bytes). -/
abbrev Byte := BitVec 8
/-- One vector-register lane or register word. -/
abbrev Word := BitVec 32
/-- One descriptor word (Table OPS-2: eight 64-bit words a descriptor). -/
abbrev Word64 := BitVec 64

/-- A sparse indexed collection: pairs of an index and a value, indices strictly rising. An index that is
not listed holds the collection's default, which the accessor of each collection names. -/
structure Bank (α : Type) where
  cells : List (Nat × α) := []
deriving DecidableEq, Repr

/-- The two cards, controllers, sensors or image slots that the spec calls A and B. -/
inductive Side where
  | a | b
deriving DecidableEq, Repr

/-- The chapters' tags (Table SCP-2) that carry fault codes (R11, R693). -/
inductive Tag where
  | try_ | die | clk | xng | spn | bru | img | til | ops | sel | ses | arb | pwr | nrg | hif | svc
deriving DecidableEq, Repr

/-- A fault code F-TAG-nn (R11). -/
structure FaultCode where
  tag : Tag
  nn : Nat
deriving DecidableEq, Repr

end Sys2Proof
end

