-- ==== Sys2Proof/Syntax.lean ====
section
/-! DEFINITION. The commands the block takes: one constructor of `Instr` per row of spec/opcode_table.json, with
the operands each needs. The table gives no operand fields; an operand is the instance the row names (a chip, a
region, a tile, a ring) or what the block reads from outside (a measurement, a pin, a bus access): log entry 5. -/

namespace Sys2Proof

/-- A tray slot, 0 to 7 (R13). -/
abbrev SlotId := Fin 8
/-- The chip in a slot (R13). -/
abbrev ChipId := Fin 8
/-- A region index (R60). -/
abbrev RegionId := Fin 72
/-- A logical tile, 0 to 14 (R63). -/
abbrev TileId := Fin 15
/-- A tile position, 0 to 15 (R63). -/
abbrev PosId := Fin 16
/-- A ring pair or partition, 0 to 15 (R613). -/
abbrev RingId := Fin 16
/-- A session-memory channel, 0 to 15 (R68). -/
abbrev ChanId := Fin 16
/-- A Spine endpoint, 0 to 93 (Table SPN-1). -/
abbrev EpId := Fin 94
/-- A crossing queue: endpoint e, lane l, direction d (0 injection, 1 ejection) is 8e + 2l + d (R211). -/
abbrev QueueId := Fin 752
/-- A meter-ring node, 0 to 16 (Table TRY-2). -/
abbrev NodeId := Fin 17
/-- A lamp element, 0 to 18 (chapter 16). -/
abbrev LampId := Fin 19

/-- What keeps an epoch counter: a chip (R94) or a TMC (R654). -/
inductive Place where
  | chip (k : ChipId)
  | tmc (s : Side)
deriving DecidableEq, Repr

/-- The measured conditions of R51. -/
inductive EnvKind where
  | inlet | air | busbar
deriving DecidableEq, Repr

/-- The lanes of the Spine (Table SPN-4), in the drain order of R214. -/
inductive Lane where
  | rsp | wr | evt | req
deriving DecidableEq, Repr

/-- The crossing mode an item is marked with (Table SPN-2, R157). -/
inductive XMode where
  | free | fixed | ganged
deriving DecidableEq, Repr

/-- A side of a router (R221), or its local port. -/
inductive OutPort where
  | east | west | north | south | home
deriving DecidableEq, Repr

/-- A Spine message: the fields of Tables SPN-2 and SPN-3, its payload bytes and byte enables (R196) and its
poison bit (R194). -/
structure Msg where
  lane : Lane
  src : Nat
  dst : Nat
  mode : XMode := .free
  len : Nat := 0
  stamp : Nat := 0
  tag : Nat := 0
  wseq : Nat := 0
  status : Nat := 0
  op : Nat := 0
  addr : Nat := 0
  rlen : Nat := 0
  arg : Nat := 0
  data : List Byte := []
  en : List Bool := []
  poison : Bool := false
deriving DecidableEq, Repr

/-- What happened to a burst's transfer under link ECC (R502). -/
inductive LinkErr where
  | clean | corrected | repeated | failed
deriving DecidableEq, Repr

/-- What read the tile-memory line on which an uncorrectable error was found (R319): the running item's operation, the
region endpoint for the READ at the head of its requests, or the scrub. -/
inductive LineReader where
  | item | endpoint | scrub
deriving DecidableEq, Repr

/-- The reset causes of R638. -/
inductive HifCause where
  | perst | hotReset | linkDown | functionReset
deriving DecidableEq, Repr

/-- A cycle of a domain: the tick of the epoch it falls in, and whether that tick's value is still on its way in the domain's tick feed
(R155: TV trails CLK.TICK by 2 to 3 cycles). -/
structure Moment where
  pos : Nat := 0
  trail : Bool := false
deriving DecidableEq, Repr

/-- A region's self-test result: bit q of the mask is 1 when position q failed (R248). -/
structure PosFail where
  region : Nat
  mask : Nat
deriving DecidableEq, Repr

/-- What the lamp driver measures in an on-time (R670, R719): current in µA, voltage in mV. -/
structure LampSense where
  ua : Nat
  mv : Nat
deriving DecidableEq, Repr

/-- A chip module's OTP (R240, R542, R568, chapter 06). -/
structure Otp where
  good : Bool := true                  -- no row with an uncorrectable error
  vf : Bank Nat := {}                  -- code of island i, point j at 32i + j
  repair : Bank Nat := {}              -- SRAM repair data of position q of region r at 16r + q (R241)
  keys : List Nat := []                -- SHA-384 hashes of the four key slots
  revoked : List Bool := []
  coef : Bank Nat := {}                -- NRG.COEF at 9r + k
  stat : Bank Nat := {}                -- NRG.STATIC at r
  lkg : List Nat := []                 -- NRG.LKG
  auxCoef : List Nat := []
  auxStat : List Nat := []
deriving DecidableEq, Repr

/-- What a chip module brings with it: its flash and its OTP. -/
structure ModuleNv where
  flash : List Host.Cell := []
  otp : Otp := {}
deriving DecidableEq, Repr

/-- The activity of an interval that depends on cycle timing (Tables NRG-1 and NRG-2, R592). -/
structure Activity where
  idle : Bank Nat := {}                -- idle engine cycles (R593) of engine e of tile 15r + p, at 4 (15r + p) + e
  sel : Bank Nat := {}                 -- busy selection cycles of tile 15r + p
  aux : List Nat := []                 -- further auxiliary events, by index of Table NRG-2
deriving DecidableEq, Repr

/-- How a management command arrives (R662, R664). -/
inductive MgmtPort where
  | switchPort | ethernet
deriving DecidableEq, Repr

/-- The frame of a management command: the TMC that takes it, its transport, its SEQ (Table SVC-3). -/
structure MgmtReq where
  tmc : Side
  port : MgmtPort
  seq : Nat
deriving DecidableEq, Repr

/-- The commands: one constructor per row of spec/opcode_table.json, in the table's order. -/
inductive Instr where
  /-- SLOT_OCCUPIED (R14). -/
  | slotOccupied (n : SlotId) (m : Option ModuleNv)
  /-- PRESENCE_LOST (R234). -/
  | presenceLost (n : SlotId) (early : Bool) (late : Bool)
  /-- SLOT_BYPASS_LEAVE (R20). -/
  | slotBypassLeave (n : SlotId)
  /-- SLOT_REQUEST_DELIVER (R21). -/
  | slotRequestDeliver (n : SlotId) (us : Nat)
  /-- BREAKER_TRIP (R40). -/
  | breakerTrip (n : SlotId)
  /-- BUSBAR_UNDERVOLTAGE (R717). -/
  | busbarUndervoltage (mv : Nat)
  /-- FACILITY_INPUT_LOST (R27). -/
  | facilityInputLost (c : Side) (ps : Int)
  /-- TRC_OUTPUT_ENABLE (R30). -/
  | trcOutputEnable (c : Side) (ns : Nat) (warm : Nat)
  /-- PPS_COMPARE (R32). -/
  | ppsCompare (ns : Nat)
  /-- NVM_CARD_INSERT (R35). -/
  | nvmCardInsert (c : Side) (card : List Host.Cell) (ok : Bool)
  /-- UPSTREAM_FAILOVER (R36). -/
  | upstreamFailover (ms : Nat)
  /-- P2P_WRITE_FORWARD (R37). -/
  | p2pWriteForward (k : ChipId)
  /-- COOLANT_STOP_ASSERT (R42). -/
  | coolantStopAssert (fa : Nat) (fb : Nat)
  /-- COOLANT_STOP_CLEAR (R43). -/
  | coolantStopClear (flow : Nat)
  /-- SLOT_POWERUP_REQUEST (R45). -/
  | slotPowerupRequest (n : SlotId) (flow : Nat) (ms : Nat)
  /-- FLOW_DISAGREE (R47). -/
  | flowDisagree (fa : Nat) (fb : Nat)
  /-- LAMP_BOARD_REMOVED (R48). -/
  | lampBoardRemoved
  /-- ENVIRONMENT_OUT_OF_RANGE (R51). -/
  | environmentOutOfRange (e : EnvKind) (v : Int)
  /-- I2C_SEGMENT_STUCK (R54). -/
  | i2cSegmentStuck (n : SlotId) (ms : Nat)
  /-- PHASE_MODULE_FAIL (R16). -/
  | phaseModuleFail (n : SlotId) (q : Fin 14)
  /-- TRAY_START (R58). -/
  | trayStart (ok : Bool)
  /-- POWER_UP_SEQUENCE (R226). -/
  | powerUpSequence (n : SlotId)
  /-- RAIL_NOT_GOOD (R227). -/
  | railNotGood (n : SlotId)
  /-- RAILS_STABLE (R231). -/
  | railsStable (n : SlotId)
  /-- POWER_DOWN_SEQUENCE (R228). -/
  | powerDownSequence (n : SlotId)
  /-- SLOT_FULLY_OFF (R231). -/
  | slotFullyOff (n : SlotId)
  /-- POWERUP_INHIBIT_END (R233). -/
  | powerupInhibitEnd (n : SlotId)
  /-- POWER_ON_RESET (R235). -/
  | powerOnReset (k : ChipId)
  /-- MOD_RST_ASSERT (R235). -/
  | modRstAssert (k : ChipId)
  /-- START_BEGIN (R239). -/
  | startBegin (k : ChipId)
  /-- START_PHASE_ADVANCE (R239). -/
  | startPhaseAdvance (k : ChipId)
  /-- SELFTEST_COMPLETE (R248). -/
  | selftestComplete (k : ChipId) (fails : List PosFail)
  /-- CHANNEL_TRAINING_FAIL (R262). -/
  | channelTrainingFail (k : ChipId) (c : ChanId)
  /-- READY_POINT (R254). -/
  | readyPoint (k : ChipId)
  /-- START_TIMEOUT (R257). -/
  | startTimeout (k : ChipId)
  /-- PERST_RELEASE (R252). -/
  | perstRelease (k : ChipId)
  /-- RESTART (R236). -/
  | restart (k : ChipId) (i2c : Bool)
  /-- EPOCH_BOUNDARY (R94). -/
  | epochBoundary (pl : Place) (cycles : List Nat)
  /-- FRAME_TICK (R103). -/
  | frameTick (k : ChipId)
  /-- PPS_EDGE (R100). -/
  | ppsEdge (pl : Place) (line : Side) (pos : Nat) (cycles : List Nat)
  /-- PPS_HOLD_END (R102). -/
  | ppsHoldEnd (pl : Place) (cycles : List Nat)
  /-- PPS_LOST (R101). -/
  | ppsLost (pl : Place)
  /-- EPOCH_LOAD_ARM (R96). -/
  | epochLoadArm (k : ChipId) (v : Word)
  /-- REF_SWITCH (R134). -/
  | refSwitch (k : ChipId)
  /-- REFERENCE_INVALID (R127). -/
  | referenceInvalid (k : ChipId) (line : Side) (ns : Nat) (duty : List Nat)
  /-- FREQ_WINDOW_END (R128). -/
  | freqWindowEnd (k : ChipId) (line : Side) (ppm : Int)
  /-- REFERENCE_QUALIFIED (R127). -/
  | referenceQualified (k : ChipId) (line : Side)
  /-- FREQ_HOLD_END (R129). -/
  | freqHoldEnd (k : ChipId)
  /-- REF_PLL_LOCKED (R130). -/
  | refPllLocked (k : ChipId)
  /-- HOLDOVER_EXIT (R132). -/
  | holdoverExit (k : ChipId)
  /-- HOLDOVER_TIMEOUT (R133). -/
  | holdoverTimeout (k : ChipId)
  /-- NO_REFERENCE_TIMEOUT (R143). -/
  | noReferenceTimeout (k : ChipId)
  /-- GUARD_CALIBRATE (R107). -/
  | guardCalibrate (k : ChipId)
  /-- GENERATOR_START (R108). -/
  | generatorStart (k : ChipId) (r : RegionId)
  /-- CAL_COMPLETE (R109). -/
  | calComplete (k : ChipId) (r : RegionId)
  /-- GENERATOR_LOCKED (R108). -/
  | generatorLocked (k : ChipId) (r : RegionId)
  /-- LOCK_LOST (R108). -/
  | lockLost (k : ChipId) (r : RegionId)
  /-- STRETCH_EVENT (R111). -/
  | stretchEvent (k : ChipId) (r : RegionId) (fs : Nat)
  /-- GENERATOR_JITTER_FAULT (R127). -/
  | generatorJitterFault (k : ChipId) (r : RegionId) (duty : List Nat) (changes : List Nat)
  /-- STEP_VOLTAGE_RAISE (R119). -/
  | stepVoltageRaise (k : ChipId)
  /-- STEP_RAIL_CHECK (R119). -/
  | stepRailCheck (k : ChipId) (uv : List Nat)
  /-- STEP_SLEW_START (R731). -/
  | stepSlewStart (k : ChipId)
  /-- STEP_SUBSTEP (R119). -/
  | stepSubstep (k : ChipId) (j : Nat)
  /-- STEP_SLEW_END (R119). -/
  | stepSlewEnd (k : ChipId)
  /-- STEP_LOWER_DONE (R118). -/
  | stepLowerDone (k : ChipId)
  /-- STEP_CANCEL_SETTLED (R733). -/
  | stepCancelSettled (k : ChipId)
  /-- GANG_SKEW_FAULT (R124). -/
  | gangSkewFault (k : ChipId) (r : RegionId) (ps : Nat) (cycles : Nat)
  /-- GANG_SKEW_HALT (R125). -/
  | gangSkewHalt (k : ChipId) (r : RegionId) (ps : Nat) (pos : Nat) (cycles : List Nat)
  /-- GANG_MEMBER_DESKEWED (R122). -/
  | gangMemberDeskewed (k : ChipId) (r : RegionId) (ps : Int) (steps : Int)
  /-- GANG_DISSOLVE_APPLY (R126). -/
  | gangDissolveApply (k : ChipId) (m : RegionId)
  /-- GANG_DISSOLVE_TIMEOUT (R126). -/
  | gangDissolveTimeout (k : ChipId) (m : RegionId)
  /-- TILE_FAILED (R79). -/
  | tileFailed (k : ChipId) (r : RegionId) (q : PosId)
  /-- MEMORY_UE (R319). -/
  | memoryUe (k : ChipId) (r : RegionId) (p : TileId) (off : Nat) (reader : LineReader) (rewriteOk residue : Bool)
  /-- RESIDUE_ERROR (R350). -/
  | residueError (k : ChipId) (r : RegionId) (p : TileId)
  /-- SEQUENCER_HANG (R349). -/
  | sequencerHang (k : ChipId) (r : RegionId) (p : TileId)
  /-- SCRUB_LINE (R320). -/
  | scrubLine (k : ChipId) (r : RegionId) (p : TileId) (corrected : Nat)
  /-- CE_RATE_FAULT (R352). -/
  | ceRateFault (k : ChipId) (r : RegionId) (p : TileId)
  /-- XNG_CALIBRATION (R167). -/
  | xngCalibration (k : ChipId) (trips : List Nat)
  /-- XNG_CALIBRATION_DONE (R168). -/
  | xngCalibrationDone (k : ChipId)
  /-- XNG_CALIBRATION_TIMEOUT (R187). -/
  | xngCalibrationTimeout (k : ChipId)
  /-- QUEUE_PUSH (R154). -/
  | queuePush (k : ChipId) (q : QueueId) (seen : Nat) (at_ : Moment)
  /-- QUEUE_POP (R154). -/
  | queuePop (k : ChipId) (q : QueueId) (seen : Nat) (at_ : Moment)
  /-- FIXED_ITEM_RELEASE (R162). -/
  | fixedItemRelease (k : ChipId) (r : RegionId) (lane : Lane) (src : EpId) (seen : Nat) (at_ : Moment)
  /-- REGION_ISOLATE (R173). -/
  | regionIsolate (k : ChipId) (r : RegionId)
  /-- ISOLATION_SINK_ACCEPT (R174). -/
  | isolationSinkAccept (k : ChipId) (r : RegionId) (lane : Lane)
  /-- QUEUE_RESET (R177). -/
  | queueReset (k : ChipId) (q : QueueId) (writer : Bool)
  /-- QUEUE_RIP_SEEN (R178). -/
  | queueRipSeen (k : ChipId) (q : QueueId) (writer : Bool)
  /-- QUEUE_ACK_SEEN (R179). -/
  | queueAckSeen (k : ChipId) (q : QueueId) (writer : Bool)
  /-- HANDSHAKE_TIMEOUT (R181). -/
  | handshakeTimeout (k : ChipId) (q : QueueId)
  /-- ISOLATION_END (R176). -/
  | isolationEnd (k : ChipId) (r : RegionId)
  /-- SPINE_START_CHECK (R223). -/
  | spineStartCheck (k : ChipId) (back : List Bool)
  /-- MESSAGE_INJECT (R209). -/
  | messageInject (k : ChipId) (m : Msg) (at_ : Moment)
  /-- ROUTER_FORWARD (R201). -/
  | routerForward (k : ChipId) (r : RegionId) (d : OutPort)
  /-- RSP_ARRIVE (R210). -/
  | rspArrive (k : ChipId) (e : EpId)
  /-- RSP_TIMEOUT (R216). -/
  | rspTimeout (k : ChipId) (e : EpId) (tag : Nat)
  /-- WSEQ_RESYNC (R739). -/
  | wseqResync (k : ChipId) (e : EpId)
  /-- FLIT_UNCORRECTABLE (R222). -/
  | flitUncorrectable (k : ChipId) (r : RegionId) (d : OutPort)
  /-- LANE_STALL_TIMEOUT (R222). -/
  | laneStallTimeout (k : ChipId) (r : RegionId) (d : OutPort) (lane : Lane)
  /-- LINK_CE_RATE (R222). -/
  | linkCeRate (k : ChipId) (r : RegionId) (d : OutPort) (n : Nat)
  /-- COMMIT (R277). -/
  | commit (k : ChipId)
  /-- COMMIT_CANCEL (R280). -/
  | commitCancel (k : ChipId)
  /-- STAGE (R297). -/
  | stage (k : ChipId)
  /-- STAGE_COMPLETE (R298). -/
  | stageComplete (k : ChipId)
  /-- ABANDON (R303). -/
  | abandon (k : ChipId)
  /-- COMMIT_APPLY (R281). -/
  | commitApply (k : ChipId) (programOk : Bool)
  /-- ROLL_STEP_START (R288). -/
  | rollStepStart (k : ChipId)
  /-- ROLL_STEP_APPLY (R289). -/
  | rollStepApply (k : ChipId) (copyUe : Bool)
  /-- ROLL_FORCED_DRAIN (R288). -/
  | rollForcedDrain (k : ChipId)
  /-- ROLL_SINGLE_TIMEOUT (R292). -/
  | rollSingleTimeout (k : ChipId)
  /-- ROLL_STEP_END (R291). -/
  | rollStepEnd (k : ChipId)
  /-- TILE_WRITE (R316). -/
  | tileWrite (k : ChipId) (r : RegionId)
  /-- TILE_READ (R314). -/
  | tileRead (k : ChipId) (r : RegionId)
  /-- START (R463). -/
  | start (k : ChipId) (r : RegionId)
  /-- MATRIX (R370). -/
  | matrix (k : ChipId) (r : RegionId) (p : TileId)
  /-- PRESCAN (R374). -/
  | prescan (k : ChipId) (r : RegionId) (p : TileId)
  /-- CONVERT (R343). -/
  | convert (k : ChipId) (r : RegionId) (p : TileId)
  /-- MOVE (R379). -/
  | move (k : ChipId) (r : RegionId) (p : TileId)
  /-- GATHER (R379). -/
  | gather (k : ChipId) (r : RegionId) (p : TileId)
  /-- SCATTER (R379). -/
  | scatter (k : ChipId) (r : RegionId) (p : TileId)
  /-- SELECT_SKEWER (R419). -/
  | selectSkewer (k : ChipId) (r : RegionId) (p : TileId)
  /-- SELECT_COLANDER (R426). -/
  | selectColander (k : ChipId) (r : RegionId) (p : TileId)
  /-- COLLECTIVE_ARM (R394). -/
  | collectiveArm (k : ChipId) (r : RegionId) (p : TileId)
  /-- COLLECTIVE_SEND (R397). -/
  | collectiveSend (k : ChipId) (r : RegionId) (p : TileId)
  /-- COLLECTIVE_WAIT (R398). -/
  | collectiveWait (k : ChipId) (r : RegionId) (p : TileId)
  /-- COLLECTIVE_DISARM (R398). -/
  | collectiveDisarm (k : ChipId) (r : RegionId) (p : TileId)
  /-- COLLECTIVE_TIMEOUT (R398). -/
  | collectiveTimeout (k : ChipId) (r : RegionId) (p : TileId)
  /-- COLLECT (R395). -/
  | collect (k : ChipId) (r : RegionId)
  /-- COLLECT_RESEND (R397). -/
  | collectResend (k : ChipId) (r : RegionId) (p : TileId)
  /-- SIGNAL_ADD (R385). -/
  | signalAdd (k : ChipId) (r : RegionId) (p : TileId)
  /-- SIGNAL_SET (R385). -/
  | signalSet (k : ChipId) (r : RegionId) (p : TileId)
  /-- WAIT (R391). -/
  | wait (k : ChipId) (r : RegionId) (p : TileId)
  /-- WAIT_RETRY (R391). -/
  | waitRetry (k : ChipId) (r : RegionId) (p : TileId)
  /-- WAIT_RESERVATION_TIMEOUT (R392). -/
  | waitReservationTimeout (k : ChipId) (r : RegionId) (p : TileId)
  /-- LOOP (R377). -/
  | loop (k : ChipId) (r : RegionId) (p : TileId)
  /-- CALL (R378). -/
  | call (k : ChipId) (r : RegionId) (p : TileId)
  /-- RET (R378). -/
  | ret (k : ChipId) (r : RegionId) (p : TileId)
  /-- FENCE (R382). -/
  | fence (k : ChipId) (r : RegionId) (p : TileId)
  /-- FLUSH (R381). -/
  | flush (k : ChipId) (e : EpId)
  /-- ITEM_END (R402). -/
  | itemEnd (k : ChipId) (r : RegionId) (p : TileId)
  /-- LD (R375). -/
  | ld (k : ChipId) (r : RegionId) (p : TileId)
  /-- ST (R375). -/
  | st (k : ChipId) (r : RegionId) (p : TileId)
  /-- IADD (R375). -/
  | iadd (k : ChipId) (r : RegionId) (p : TileId)
  /-- ISUB (R375). -/
  | isub (k : ChipId) (r : RegionId) (p : TileId)
  /-- IMUL (R375). -/
  | imul (k : ChipId) (r : RegionId) (p : TileId)
  /-- IMIN (R375). -/
  | imin (k : ChipId) (r : RegionId) (p : TileId)
  /-- IMAX (R375). -/
  | imax (k : ChipId) (r : RegionId) (p : TileId)
  /-- AND (R375). -/
  | and (k : ChipId) (r : RegionId) (p : TileId)
  /-- OR (R375). -/
  | or (k : ChipId) (r : RegionId) (p : TileId)
  /-- XOR (R375). -/
  | xor (k : ChipId) (r : RegionId) (p : TileId)
  /-- SHL (R375). -/
  | shl (k : ChipId) (r : RegionId) (p : TileId)
  /-- SHR (R375). -/
  | shr (k : ChipId) (r : RegionId) (p : TileId)
  /-- SAR (R375). -/
  | sar (k : ChipId) (r : RegionId) (p : TileId)
  /-- ICMPLT (R375). -/
  | icmplt (k : ChipId) (r : RegionId) (p : TileId)
  /-- FADD (R322). -/
  | fadd (k : ChipId) (r : RegionId) (p : TileId)
  /-- FSUB (R322). -/
  | fsub (k : ChipId) (r : RegionId) (p : TileId)
  /-- FMUL (R322). -/
  | fmul (k : ChipId) (r : RegionId) (p : TileId)
  /-- FMA (R322). -/
  | fma (k : ChipId) (r : RegionId) (p : TileId)
  /-- FMIN (R323). -/
  | fmin (k : ChipId) (r : RegionId) (p : TileId)
  /-- FMAX (R323). -/
  | fmax (k : ChipId) (r : RegionId) (p : TileId)
  /-- FCMPLT (R323). -/
  | fcmplt (k : ChipId) (r : RegionId) (p : TileId)
  /-- RECIP (R322). -/
  | recip (k : ChipId) (r : RegionId) (p : TileId)
  /-- RSQRT (R322). -/
  | rsqrt (k : ChipId) (r : RegionId) (p : TileId)
  /-- SQRT (R322). -/
  | sqrt (k : ChipId) (r : RegionId) (p : TileId)
  /-- EXP2 (R322). -/
  | exp2 (k : ChipId) (r : RegionId) (p : TileId)
  /-- LOG2 (R322). -/
  | log2 (k : ChipId) (r : RegionId) (p : TileId)
  /-- PERM (R375). -/
  | perm (k : ChipId) (r : RegionId) (p : TileId)
  /-- BCAST (R375). -/
  | bcast (k : ChipId) (r : RegionId) (p : TileId)
  /-- LSHIFT (R375). -/
  | lshift (k : ChipId) (r : RegionId) (p : TileId)
  /-- SEL (R375). -/
  | sel (k : ChipId) (r : RegionId) (p : TileId)
  /-- RSUM (R324). -/
  | rsum (k : ChipId) (r : RegionId) (p : TileId)
  /-- RMAX (R375). -/
  | rmax (k : ChipId) (r : RegionId) (p : TileId)
  /-- RMIN (R375). -/
  | rmin (k : ChipId) (r : RegionId) (p : TileId)
  /-- CVT (R375). -/
  | cvt (k : ChipId) (r : RegionId) (p : TileId)
  /-- SETA_IMM (R376). -/
  | setaImm (k : ChipId) (r : RegionId) (p : TileId)
  /-- SETA_V (R376). -/
  | setaV (k : ChipId) (r : RegionId) (p : TileId)
  /-- EVT_ADD (R385). -/
  | evtAdd (k : ChipId)
  /-- EVT_SET (R385). -/
  | evtSet (k : ChipId)
  /-- EVT_WAIT_GE (R385). -/
  | evtWaitGe (k : ChipId)
  /-- CTR_READ (R380). -/
  | ctrRead (k : ChipId)
  /-- WAITER_TIMEOUT (R389). -/
  | waiterTimeout (k : ChipId) (src : EpId) (tag : Nat)
  /-- EVT_OWNER_WRITE (R390). -/
  | evtOwnerWrite (k : ChipId) (n : Fin 1024) (v : Word)
  /-- OPEN (R450). -/
  | openSession (k : ChipId) (g : RingId)
  /-- ARM (R450). -/
  | arm (k : ChipId) (g : RingId)
  /-- ARM_PREDICT (R472). -/
  | armPredict (k : ChipId) (g : RingId)
  /-- CONFIRM (R450). -/
  | confirm (k : ChipId) (g : RingId)
  /-- CANCEL (R450). -/
  | cancel (k : ChipId) (g : RingId)
  /-- CLOSE (R450). -/
  | close (k : ChipId) (g : RingId)
  /-- SESSION_READ (R630). -/
  | sessionRead (k : ChipId) (g : RingId)
  /-- MODEL_LOAD (R626). -/
  | modelLoad (k : ChipId) (g : RingId)
  /-- MODEL_LOAD_COPY_DONE (R626). -/
  | modelLoadCopyDone (k : ChipId) (g : RingId) (ok : Bool)
  /-- TILE_RELOAD (R627). -/
  | tileReload (k : ChipId) (g : RingId)
  /-- RESIDENCY_READ (R630). -/
  | residencyRead (k : ChipId) (g : RingId)
  /-- ENERGY_READ (R628). -/
  | energyRead (k : ChipId) (g : RingId)
  /-- ENERGY_CAPTURE (R587). -/
  | energyCapture (k : ChipId)
  /-- ENERGY_READ_RESULT (R587). -/
  | energyReadResult (k : ChipId) (g : RingId)
  /-- COUNTER_ADD (R629). -/
  | counterAdd (k : ChipId) (g : RingId)
  /-- COUNTER_SET (R629). -/
  | counterSet (k : ChipId) (g : RingId)
  /-- COUNTER_WAIT_GE (R629). -/
  | counterWaitGe (k : ChipId) (g : RingId)
  /-- COUNTER_READ (R629). -/
  | counterRead (k : ChipId) (g : RingId)
  /-- NOP (R624). -/
  | nop (k : ChipId) (g : RingId)
  /-- ADMISSION (R459). -/
  | admission (k : ChipId) (p : RingId)
  /-- STAGE_START (R462). -/
  | stageStart (k : ChipId) (item : Nat)
  /-- ITEM_END_REPORT (R464). -/
  | itemEndReport (k : ChipId)
  /-- RUNAHEAD_DEADLINE (R450). -/
  | runaheadDeadline (k : ChipId) (n : Nat)
  /-- ARBITER_CYCLE (R508). -/
  | arbiterCycle (k : ChipId) (c : ChanId) (busy : Bool) (err : LinkErr)
  /-- MEMORY_WRITE (R498). -/
  | memoryWrite (k : ChipId) (c : ChanId)
  /-- MEMORY_READ (R498). -/
  | memoryRead (k : ChipId) (c : ChanId)
  /-- VOID (R515). -/
  | void (k : ChipId) (c : ChanId)
  /-- READ_GROUP_COMPLETE (R501). -/
  | readGroupComplete (k : ChipId) (c : ChanId)
  /-- ECS_READ (R503). -/
  | ecsRead (k : ChipId) (c : ChanId) (count : Nat)
  /-- REPEAT_RATE_FAULT (R526). -/
  | repeatRateFault (k : ChipId) (c : ChanId)
  /-- POWER_EVALUATION (R531). -/
  | powerEvaluation (k : ChipId) (act : Activity)
  /-- TEMP_SAMPLE (R546). -/
  | tempSample (k : ChipId) (temps : List Int) (pos : Nat) (cycles : List Nat)
  /-- TRIP_RESTART (R549). -/
  | tripRestart (k : ChipId) (r : RegionId)
  /-- COOLANT_STOP (R551). -/
  | coolantStop (k : ChipId) (ns : Nat) (pos : Nat) (cycles : List Nat)
  /-- COOLANT_STOP_RELEASE (R554). -/
  | coolantStopRelease (k : ChipId)
  /-- COOLANT_RESUME_START (R554). -/
  | coolantResumeStart (k : ChipId)
  /-- GRANT_EXCHANGE (R556). -/
  | grantExchange
  /-- GRANT_FALL_APPLY (R557). -/
  | grantFallApply (k : ChipId)
  /-- GRANT_RISE_APPLY (R557). -/
  | grantRiseApply (k : ChipId)
  /-- GRANT_STALE (R558). -/
  | grantStale (k : ChipId)
  /-- SWEEP_START (R574). -/
  | sweepStart
  /-- METER_FRAME_PASS (R574). -/
  | meterFramePass (node : NodeId) (rev : Bool) (meas : List Nat) (mv : List Nat) (crcOk : Bool)
  /-- SWEEP_BROKEN (R578). -/
  | sweepBroken
  /-- ENERGY_BOOKING (R583). -/
  | energyBooking (k : ChipId)
  /-- GAIN_UPDATE (R584). -/
  | gainUpdate (k : ChipId)
  /-- BAR0_WRITE (R606). -/
  | bar0Write (k : ChipId) (off : Nat) (wide : Bool) (v : Nat)
  /-- MGMT_I2C_ACCESS (R702). -/
  | mgmtI2cAccess (k : ChipId) (off : Nat) (v : Option Nat)
  /-- BAR2_WRITE (R607). -/
  | bar2Write (k : ChipId) (off : Nat) (data : List Byte) (en : List Bool)
  /-- BAR2_READ (R609). -/
  | bar2Read (k : ChipId) (off : Nat) (n : Nat)
  /-- CMD_TAIL_WRITE (R611). -/
  | cmdTailWrite (k : ChipId) (g : RingId) (v : Word)
  /-- CPL_HEAD_WRITE (R615). -/
  | cplHeadWrite (k : ChipId) (g : RingId) (v : Word)
  /-- COMMAND_FETCH (R622). -/
  | commandFetch (k : ChipId) (g : RingId) (entry : List Byte)
  /-- RING_ENABLE (R616). -/
  | ringEnable (k : ChipId) (g : RingId)
  /-- RING_DISABLE (R616). -/
  | ringDisable (k : ChipId) (g : RingId)
  /-- COMPLETION_WRITE (R620). -/
  | completionWrite (k : ChipId) (g : RingId)
  /-- HOLD_RELEASE (R621). -/
  | holdRelease (k : ChipId) (g : RingId)
  /-- RING_ACCESS_ERROR (R647). -/
  | ringAccessError (k : ChipId) (g : RingId)
  /-- MSIX_MESSAGE (R634). -/
  | msixMessage (k : ChipId) (v : Fin 128)
  /-- FLASH_PROGRAM (R631). -/
  | flashProgram (k : ChipId)
  /-- FLASH_READ (R631). -/
  | flashRead (k : ChipId)
  /-- FLASH_DONE (R631). -/
  | flashDone (k : ChipId) (ok : Bool)
  /-- XDMA_COLLECT (R636). -/
  | xdmaCollect (k : ChipId)
  /-- INBOX_WRITE (R637). -/
  | inboxWrite (k : ChipId) (data : List Byte)
  /-- INBOX_RESEND (R637). -/
  | inboxResend (k : ChipId) (n : Nat)
  /-- INBOX_EXPIRE (R637). -/
  | inboxExpire (k : ChipId) (n : Nat)
  /-- HIF_RESET (R638). -/
  | hifReset (k : ChipId) (cause : HifCause)
  /-- ROLE_GRANT (R652). -/
  | roleGrant (x : Side)
  /-- ROLE_FAILOVER (R661). -/
  | roleFailover (ok : Bool)
  /-- HEARTBEAT_SEND (R654). -/
  | heartbeatSend (x : Side)
  /-- HEARTBEAT_RECEIVE (R655). -/
  | heartbeatReceive (x : Side)
  /-- HEARTBEAT_LOST (R656). -/
  | heartbeatLost (x : Side)
  /-- HANDOVER (R659). -/
  | handover
  /-- HANDOVER_MESSAGE (R659). -/
  | handoverMessage
  /-- MGMT_DOORBELL (R663). -/
  | mgmtDoorbell (x : Side) (frame : List Byte) (samples : List LampSense) (reads : List Bool)
  /-- MGMT_CONNECT (R664). -/
  | mgmtConnect (x : Side) (chain : Option Nat)
  /-- FORWARD_TIMEOUT (R666). -/
  | forwardTimeout (x : Side)
  /-- TRAY_STATUS (R667). -/
  | trayStatus (q : MgmtReq)
  /-- FAULT_LOG (R695). -/
  | faultLog (q : MgmtReq) (from_ : Nat)
  /-- METER_STATUS (R580). -/
  | meterStatus (q : MgmtReq)
  /-- LAMP_STATUS (R672). -/
  | lampStatus (q : MgmtReq)
  /-- ROLE_SWAP (R657). -/
  | roleSwap (q : MgmtReq) (gen : Nat)
  /-- UNIT_PREPARE (R675). -/
  | unitPrepare (q : MgmtReq) (typ : Nat) (idx : Nat)
  /-- UNIT_READY_TO_REMOVE (R675). -/
  | unitReadyToRemove
  /-- PREPARE_TIMEOUT (R676). -/
  | prepareTimeout
  /-- UNIT_RESUME (R667). -/
  | unitResume (q : MgmtReq) (typ : Nat) (idx : Nat)
  /-- UNIT_INSERT (R678). -/
  | unitInsert (typ : Nat) (idx : Nat)
  /-- UNIT_JOIN (R678). -/
  | unitJoin (typ : Nat) (idx : Nat)
  /-- SLOT_POWER (R230). -/
  | slotPower (q : MgmtReq) (slot : Nat) (on : Nat)
  /-- SLOT_RESET (R235). -/
  | slotReset (q : MgmtReq) (slot : Nat)
  /-- CHIP_RESTART (R238). -/
  | chipRestart (q : MgmtReq) (slot : Nat)
  /-- TRAY_IMAGE_WRITE (R667). -/
  | trayImageWrite (q : MgmtReq) (off : Nat) (data : List Byte)
  /-- TRAY_IMAGE_ADOPT (R276). -/
  | trayImageAdopt (q : MgmtReq) (len : Nat) (reads : List Bool)
  /-- SWITCH_UPSTREAM (R36). -/
  | switchUpstream (q : MgmtReq) (port : Nat)
  /-- TIME_LOAD (R668). -/
  | timeLoad (q : MgmtReq) (ep : Nat)
  /-- LOCATE (R669). -/
  | locate (q : MgmtReq) (on : Nat)
  /-- LAMP_TEST (R674). -/
  | lampTest (q : MgmtReq) (samples : List LampSense)
  /-- LAMP_LEVEL (R670). -/
  | lampLevel (q : MgmtReq) (pct : Nat)
  /-- CA_INSTALL (R664). -/
  | caInstall (q : MgmtReq) (idx : Nat) (cert : List Byte)
  /-- CA_REMOVE (R664). -/
  | caRemove (q : MgmtReq) (idx : Nat)
  /-- LAMP_POLL (R669). -/
  | lampPoll
  /-- LAMP_DIAGNOSIS (R670). -/
  | lampDiagnosis (e : LampId) (sense : LampSense) (us : Nat)
  /-- PROOF_PULSE (R671). -/
  | proofPulse (e : LampId) (sense : LampSense) (ms : Nat)
  /-- MOD_ALERT (R703). -/
  | modAlert (n : SlotId)
  /-- VID_FRAME (R713). -/
  | vidFrame (n : SlotId) (frame : BitVec 16)
  /-- TILE_RELOAD_COPY_DONE (R627). -/
  | tileReloadCopyDone (k : ChipId) (g : RingId) (ok : Bool)
  /-- INVALID_OP (R369). -/
  | invalidOp (k : ChipId) (r : RegionId) (p : TileId)
  /-- READ_WITH_CLEAR (R9). -/
  | readWithClear (k : ChipId) (off : Nat) (wide : Bool)
  /-- D3HOT_TRANSITION (R603). -/
  | d3hotTransition (k : ChipId) (d3 : Bool)
  /-- METER_LINK_LOCK (R707). -/
  | meterLinkLock (node : NodeId) (rev : Bool) (lock : Bool)
  /-- ALIVE_TOGGLE (R650). -/
  | aliveToggle
  /-- TRC_SOURCE_GAINED (R29). -/
  | trcSourceGained (c : Side) (fac : Bool) (ps : Int)
  /-- TRC_PARTNER_LOST (R27). -/
  | trcPartnerLost (c : Side)
  /-- UNIT_REMOVED (R677). -/
  | unitRemoved (typ : Nat) (idx : Nat)
deriving DecidableEq, Repr

end Sys2Proof
end

