-- ==== Sys2Proof/Decode.lean ====
section
/-! DEFINITION. The commands that a word spells by the opcode table's bits. No row of the table gives bits: every
command is a register access, a message, a measurement or an event, so no word spells one. -/

namespace Sys2Proof

/-- The command that a word of `nbits` bits spells by the opcode table: none, for no row gives bits. -/
def decodeTableWord (_nbits _w : Nat) : Option Instr := none

end Sys2Proof
end

