-- ==== Sys2Proof/Config.lean ====
section
/-! DEFINITION. What the spec leaves open or gives no algorithm for: each constant has no body, so no proof can lean
on a value of it. Every use names its log entry. -/

namespace Sys2Proof

/-- A free value (log entry 6): the choice the spec leaves open at use `n` of the free-value counter. -/
opaque Config.free (n : Nat) : Nat

/-- The SHA-384 digest of a byte string, as a number (R243; FIPS 180-4, which the spec only names): log entry 7. -/
opaque Config.sha384 (bs : List Byte) : Nat

/-- ECDSA P-384 verification of a signature over a digest under a public key (R243; FIPS 186-5): log entry 7. -/
opaque Config.ecdsaP384 (pub : List Byte) (digest : Nat) (sig : List Byte) : Bool

/-- Whether a client certificate chain leads to an installed authority (R664; TLS 1.3 as RFC 8446): log entry 7. -/
opaque Config.chainsTo (chain : Nat) (authority : List Byte) : Bool

/-- The hash of a certificate store (Table SVC-1, CA): log entry 7. -/
opaque Config.caHash (authorities : List (List Byte)) : Nat

/-- The bits of an FP32 function at an operand for which the spec states no result (R322: RECIP and RSQRT of a zero,
RSQRT, SQRT and LOG2 of a negative number, LOG2 of a zero), by VOP and operand; equal operands give equal bits on every
chip (R348): log entry 11. -/
opaque Config.fpOpen (vop a : Nat) : Nat

/-- The sign of an exact zero result of an FP32 operation whose operands do not give it (R322: a cancelling sum, SQRT
of minus zero, LOG2 of one), by VOP and operands: log entry 12. -/
opaque Config.zeroSign (vop a b c : Nat) : Bool

/-- The module revision that the module identity area of the flash gives (Table HIF-1, Table IMG-1): the spec does not give the
area's layout: log entry 75. -/
opaque Config.moduleRevision (identity : List Byte) : Nat

/-- Which descriptor a full descriptor cache gives up (R444), by slot, tick and number of the eviction: log entry 9. -/
opaque Config.victimPick (slot tick n : Nat) : Nat

/-- Which unused ITEM number an admission takes (R459), by slot, tick and number of the admission: log entry 10. -/
opaque Config.itemPick (slot tick n : Nat) : Nat

end Sys2Proof
end

