-- ==== Sys2Proof/Machine/Bank.lean ====
section
/-! DEFINITION. Reading and writing the sparse collections (Bank): one read, one write, one update, a filter. -/

namespace Sys2Proof

/-- The value of the first pair of `l` at index `k`. -/
def Bank.look {α : Type} (l : List (Nat × α)) (k : Nat) : Option α :=
  match l with
  | [] => none
  | (j, v) :: t => if j = k then some v else Bank.look t k

/-- `l` with `v` at index `k`, indices kept rising. -/
def Bank.put {α : Type} (l : List (Nat × α)) (k : Nat) (v : α) : List (Nat × α) :=
  match l with
  | [] => [(k, v)]
  | (j, w) :: t =>
    if j = k then (k, v) :: t
    else if k < j then (k, v) :: (j, w) :: t
    else (j, w) :: Bank.put t k v

/-- What the collection holds at index `k`; `d` is the default of an index not listed. -/
def Bank.get {α : Type} (b : Bank α) (d : α) (k : Nat) : α :=
  match Bank.look b.cells k with
  | some v => v
  | none => d

/-- The collection with `v` at index `k`. -/
def Bank.set {α : Type} (b : Bank α) (k : Nat) (v : α) : Bank α :=
  { cells := Bank.put b.cells k v }

/-- The collection with index `k` back at its default. -/
def Bank.erase {α : Type} (b : Bank α) (k : Nat) : Bank α :=
  { cells := b.cells.filter (fun e => e.1 != k) }

/-- The collection with `f` applied to what index `k` holds. -/
def Bank.update {α : Type} (b : Bank α) (d : α) (k : Nat) (f : α → α) : Bank α :=
  b.set k (f (b.get d k))

/-- Index `k` is listed. -/
def Bank.has {α : Type} (b : Bank α) (k : Nat) : Bool :=
  (Bank.look b.cells k).isSome

/-- The collection whose indices 0 .. n − 1 hold `f` of the index and what stood there. -/
def Bank.mapTo {α : Type} (b : Bank α) (d : Nat → α) (n : Nat) (f : Nat → α → α) : Bank α :=
  { cells := ((List.range n).map (fun k => (k, f k (b.get (d k) k)))) ++ b.cells.filter (fun e => n ≤ e.1) }

/-- `f` applied to every index of `ks`, in order. -/
def Bank.updateMany {α : Type} (b : Bank α) (d : Nat → α) (ks : List Nat) (f : Nat → α → α) : Bank α :=
  ks.foldl (fun b k => b.update (d k) k (f k)) b

/-- The listed pairs that meet `p`, by index. -/
def Bank.pick {α : Type} (b : Bank α) (p : Nat → α → Bool) : List (Nat × α) :=
  b.cells.filter (fun e => p e.1 e.2)

/-- `f` applied to every listed index; what is not listed keeps its default. -/
def Bank.mapCells {α : Type} (b : Bank α) (f : Nat → α → α) : Bank α :=
  { cells := b.cells.map (fun e => (e.1, f e.1 e.2)) }

end Sys2Proof
end

