-- ==== Sys2Proof/Machine/Memory.lean ====
section
/-! DEFINITION. Byte-addressed memory: a list of (address, byte) pairs in one canonical form (addresses strictly
rising, no listed byte equal to what an unlisted address reads as), its reads, its writes and its byte order (R3). -/

namespace Sys2Proof

/-- What a byte reads as that nothing has written (log entry 4: zero, the value Table BRU-5 step 6 and R359 give
session and tile memory after a start). -/
def Memory.blank : Byte := 0

/-- The byte that the list `m` gives at address `a`. -/
def Memory.readByte (m : List Host.Cell) (a : Nat) : Byte :=
  match m with
  | [] => Memory.blank
  | (b, v) :: t => if b = a then v else Memory.readByte t a

/-- The list with byte `v` at address `a`: the entry leaves the list when `v` is the blank byte. -/
def Memory.writeByte (m : List Host.Cell) (a : Nat) (v : Byte) : List Host.Cell :=
  match m with
  | [] => if v = Memory.blank then [] else [(a, v)]
  | (b, w) :: t =>
    if b = a then (if v = Memory.blank then t else (a, v) :: t)
    else if a < b then (if v = Memory.blank then (b, w) :: t else (a, v) :: (b, w) :: t)
    else (b, w) :: Memory.writeByte t a v

/-- Every listed address lies above `lo`, rises, and lists no blank byte. -/
def Memory.wfFrom (lo : Nat) (m : List Host.Cell) : Bool :=
  match m with
  | [] => true
  | (a, v) :: t => decide (lo ≤ a) && (v != Memory.blank) && Memory.wfFrom (a + 1) t

/-- The canonical form. -/
def Memory.wf (m : List Host.Cell) : Bool := Memory.wfFrom 0 m

/-- `n` bytes from address `a` upward. -/
def Memory.read (m : List Host.Cell) (a n : Nat) : List Byte :=
  (List.range n).map (fun i => Memory.readByte m (a + i))

/-- The bytes `bs` stored from address `a` upward. -/
def Memory.write (m : List Host.Cell) (a : Nat) (bs : List Byte) : List Host.Cell :=
  match bs with
  | [] => m
  | b :: t => Memory.write (Memory.writeByte m a b) (a + 1) t

/-- The bytes of `bs` whose enable is set, stored from address `a` upward (R196). A missing enable is set. -/
def Memory.writeEnabled (m : List Host.Cell) (a : Nat) (bs : List Byte) (en : List Bool) : List Host.Cell :=
  match bs with
  | [] => m
  | b :: t => Memory.writeEnabled (if en.headD true then Memory.writeByte m a b else m) (a + 1) t en.tail

/-- `n` bytes of zero stored from address `a` upward: the entries of that range leave the list. -/
def Memory.clear (m : List Host.Cell) (a n : Nat) : List Host.Cell :=
  m.filter (fun e => e.1 < a || a + n ≤ e.1)

/-- A little-endian number from its bytes (R3). -/
def leNat (bs : List Byte) : Nat :=
  match bs with
  | [] => 0
  | b :: t => b.toNat + 256 * leNat t

/-- The `n` little-endian bytes of a number (R3). -/
def natLE (n v : Nat) : List Byte :=
  match n with
  | 0 => []
  | k + 1 => BitVec.ofNat 8 v :: natLE k (v / 256)

/-- A number of `n` bytes read little-endian at address `a`. -/
def Memory.readLE (m : List Host.Cell) (a n : Nat) : Nat := leNat (Memory.read m a n)

/-- A number of `n` bytes written little-endian at address `a`. -/
def Memory.writeLE (m : List Host.Cell) (a n v : Nat) : List Host.Cell := Memory.write m a (natLE n v)

/-- The canonical memory that a list of pairs spells, later pairs winning. -/
def Memory.ofCells (cs : List Host.Cell) : List Host.Cell :=
  cs.foldl (fun m e => Memory.writeByte m e.1 e.2) []

end Sys2Proof
end

