-- ==== Sys2Proof/Machine/State.lean ====
section
/-! DEFINITION. The state of the tray and its eight chips as plain data, the reasons a step can stop, and the
state after reset. Each field's docstring names the rule or table of the spec that gives it. A field marked "own"
is the model's bookkeeping of something the spec describes without naming a register. -/

namespace Sys2Proof.Machine

/-! ## Configuration classes (Table IMG-4) -/

/-- The class A fields (R283): one record serves the shadows, a commit snapshot and the fields in force. -/
structure ClassA where
  step : Nat := 64                     -- clock.region.step
  slotTable : Bank Nat := {}           -- arb.slot_table, index 256c + s, default 0x7F
  starveMode : Bank Nat := {}          -- arb.starve.mode[c], default 0 FLAG
  starveLimit : Bank Nat := {}         -- arb.starve.limit[c], default 1,024
  loserMode : Bank Nat := {}           -- arb.loser.mode[i], default 0 BACKOFF
  cap : Nat := 550                     -- power.cap.watts
  order : Nat := 0                     -- power.share.order
  floorHif : Nat := 15                 -- power.share.floor[0]
  floorMem : Nat := 60                 -- power.share.floor[1]
  floorSpine : Nat := 40               -- power.share.floor[2]
  stirMode : Nat := 1                  -- stirrer.mode
  stirPct : Nat := 70                  -- stirrer.floor.percent
  stirDecay : Nat := 50                -- stirrer.decay.permille
  deadline : Bank Nat := {}            -- seq.class.deadline[c], default 300,000
  checked : Bank Nat := {}             -- seq.partition.checked[p], default 0
  runahead : Bank Nat := {}            -- seq.partition.runahead[p], default 0
  selMode : Nat := 0                   -- sel.default.mode
  selTie : Nat := 0                    -- sel.default.tie
  coalesce : Nat := 10                 -- hif.irq.coalesce
deriving DecidableEq, Repr

/-- The class B fields of one region (R76, R158). -/
structure ClassB where
  partition : Nat
  gangMaster : Nat
  spareFor : Nat
  retire : Bool
  fixedTo : Nat                        -- 72-bit mask of XNG[s].FIXED_TO
deriving DecidableEq, Repr

/-- Region `r`'s class B fields at reset (Table DIE-5, Table XNG-5). -/
def ClassB.reset (r : Nat) : ClassB :=
  { partition := 31, gangMaster := r, spareFor := 15, retire := false, fixedTo := 0 }

/-- The class C fields (R295). -/
structure ClassC where
  frameEpochs : Nat := 10000           -- clock.frame.epochs
  prefer : Nat := 0                    -- clock.ref.prefer
  margin : Nat := 2                    -- xng.fixed.margin
  ageLimit : Nat := 32                 -- spine.lane.age_limit
  ringEntries : Nat := 4096            -- hif.ring.entries
deriving DecidableEq, Repr

/-- A whole image's values (R271), with its header generation. -/
structure ImageValues where
  generation : Nat := 0
  a : ClassA := {}
  b : Bank ClassB := {}
  c : ClassC := {}
deriving DecidableEq, Repr

/-! ## Time -/

/-- The epoch counter and its alignment to PPS (R92 to R104, Table CLK-8). Chips and TMCs each hold one (R654). -/
structure TimeBase where
  tick : Nat := 0                      -- CLK.TICK, 64 bits (R92)
  epoch : Nat := 0                     -- CLK.EPOCH, 56 bits (R94)
  pos : Nat := 0                       -- own: ticks gone of the current epoch
  len : Nat := 100                     -- own: ticks of the current epoch, 99 to 101 (R93)
  hold : Nat := 0                      -- own: ticks left of a hold (R102)
  corr : Int := 0                      -- own: correction of the next second boundary (Table CLK-1)
  secTick : Nat := 0                   -- own: CLK.TICK at the last second boundary
  aligned : Bool := false              -- CLK.STATUS.PPS_ALIGNED
  lost : Bool := false                 -- CLK.STATUS.PPS_LOST
  valid : Bool := false                -- CLK.STATUS.TIME_VALID
  missing : Nat := 0                   -- own: second boundaries without an accepted edge (R101)
  accepted : Bool := false             -- own: an edge was accepted for the boundary now open (R101)
  fresh : Bool := false                -- own: the missing count starts at the next second boundary (R101)
  load : Nat := 0                      -- CLK.EPOCH_LOAD, 56 bits
  arm : Bool := false                  -- CLK.EPOCH_LOAD_ARM
  offset : Int := 0                    -- CLK.PPS_OFFSET.D
  loadDue : Option Nat := none         -- own: the load value the next second boundary takes (R96)
  spurious : Nat := 0                  -- CLK.PPS_SPURIOUS, 32 bits RC
  runLen : Nat := 0                    -- own: edges of the run so far (R100)
  runOff : Int := 0                    -- own: offset of the run's last edge
  runSec : Nat := 0                    -- own: second boundary of the run's last edge
deriving DecidableEq, Repr

/-- One reference input's monitors (Table CLK-6). -/
structure RefMon where
  live : Bool := true                  -- own: the line toward the chip is driven (R26, Table TRY-5)
  valid : Bool := true                 -- the input is valid (Table CLK-6)
  clean : Nat := 0                     -- own: epochs since a monitor last failed, at most 10,000
  windows : Nat := 0                   -- own: clean frequency windows completed within those epochs
  badWindow : Bool := false            -- own: a window completed within those epochs was off frequency
  ok : Bool := false                   -- REFA_OK or REFB_OK
deriving DecidableEq, Repr

/-- A frequency step in progress (Table CLK-5, R733). -/
inductive StepPhase where
  | none                               -- no step
  | waiting                            -- accepted, E not reached
  | raised                             -- a raise whose rails have been commanded (step 2)
  | slewing                            -- E to E + 2 (steps 4 to 6)
  | lowering                           -- E + 2 to E + 52 (steps 7 and 8)
  | settling                           -- cancelled, rails going back (R733)
deriving DecidableEq, Repr

/-- The step's record. -/
structure FreqStep where
  phase : StepPhase := .none
  mOld : Nat := 64
  mNew : Nat := 64
  at_ : Nat := 0                       -- E
  start : Nat := 0                     -- own: CLK.TICK at the boundary of E (Table CLK-5)
  since : Nat := 0                     -- own: epochs counted in slewing, lowering or settling (R729)
  checked : Bool := false              -- own: step 3 done
  sub : Nat := 0                       -- own: last sub-step applied
deriving DecidableEq, Repr

/-- The reference path and the chip's clock status (Table CLK-8). -/
structure Clock where
  mNow : Nat := 64                     -- CLK.STEP_NOW.M_NOW
  stepBusy : Bool := false
  holdover : Bool := false
  freqHold : Bool := false
  refLocked : Bool := false
  refSel : Nat := 3                    -- 0 REFA, 1 REFB, 3 keeper
  refA : RefMon := {}
  refB : RefMon := {}
  holdEpochs : Nat := 0                -- own: epochs of the frequency hold so far (R129)
  relock : Bool := false               -- own: a relock is in progress (R130)
  leaving : Bool := false              -- own: a reference selected, the PLL locking from the keeper (R132, R142)
  commanded : Bool := false            -- own: the relock follows a commanded switch (R134)
  switchTo : Option Nat := none        -- own: a commanded switch awaiting its epoch boundary (R134)
  holdTick : Nat := 0                  -- own: CLK.TICK at holdover entry (R133)
  holdLong : Bool := false             -- own: F-CLK-14 raised in this holdover (R133)
  lockAged : Bool := false             -- own: an epoch boundary has passed since REF_LOCKED rose (R91, R132)
  guardAge : Nat := 0                  -- own: epochs since the guard lines were calibrated, at most 10,000 (R107)
  secEpochs : Nat := 0                 -- own: epochs of the running second of the counts per second (R729)
  noRefEpochs : Nat := 0               -- own: epochs without a qualified reference at start (R143)
  freq : FreqStep := {}
deriving DecidableEq, Repr

/-! ## Regional generators -/

/-- Table CLK-4. -/
inductive GenState where
  | off | cal | locking | locked | slew | frozen | slaved | halted
deriving DecidableEq, Repr

/-- Why a generator is HALTED. -/
inductive HaltCause where
  | none | skew | trip | coolant
deriving DecidableEq, Repr

/-- GEN[r] (Table CLK-9) with the internals of R109 to R114, R119 and R730. -/
structure Gen where
  state : GenState := .off
  code : Nat := 0                      -- 12 bits
  acc : Int := 0                       -- signed 16 bits
  lastDepth : Nat := 0                 -- 4 bits
  nominal8 : Nat := 0                  -- LEDGER_NOMINAL8, 64 bits
  actual : Nat := 0                    -- LEDGER_ACTUAL, 64 bits
  stretch : Nat := 0                   -- LEDGER_STRETCH, 64 bits
  deepest : Nat := 0                   -- LEDGER_DEEPEST, RC
  skew : Nat := 0                      -- SKEW_PS
  calBit : Nat := 12                   -- own: bit under test plus one; 0 search done (R109)
  calWait : Bool := false              -- own: waiting for the first boundary after entering CAL
  calAbandoned : Bool := false         -- own: search abandoned at E (R732)
  lockRun : Nat := 0                   -- own: run of R730 toward LOCKED
  lossRun : Nat := 0                   -- own: run of R730 toward a lost lock
  before : GenState := .off            -- own: state held before SLEW
  codeOld : Nat := 0                   -- code_old (R119)
  codeNew : Nat := 0                   -- code_new (R119)
  stretched : Bool := false            -- own: the epoch holds a stretch event (R111)
  part : Bool := false                 -- own: the epoch is partial (R110)
  slewEpoch : Bool := false            -- own: the epoch holds a slew (R110)
  guardFs : Nat := 1212122             -- guard setting: the shortest period, fs (R106, R107, Table CLK-5)
  guardCals : Nat := 0                 -- own: guard calibrations done (R107)
  deskewed : Bool := false             -- own: deskew loop within 20 ps since SLAVED (R122)
  delay : Int := 0                     -- own: delay of the deskew loop, in its 2 ps steps (R122)
  slavedCycles : Nat := 0              -- own: master cycles since SLAVED, by whole epochs (R122)
  skewFault : Bool := false            -- own: F-CLK-11 raised since the loop was last within 20 ps (R124)
  idle : Bank Nat := {}                -- own: idle slots of engine e of tile p since the generator started, at 4p + e (R593)
  ran : Nat := 0                       -- own: cycles of the region's clock since the generator started, j of R532
  stopped : Bool := true               -- own: its clock has been stopped for some time of this epoch (R113, R181)
  halt : HaltCause := .none
deriving DecidableEq, Repr

/-! ## Regions -/

/-- DIE.REGION[r].STATE.STATUS (Table DIE-6). -/
inductive RegionStatus where
  | serving | out | retired | isolated
deriving DecidableEq, Repr

/-- One region's registers of the DIE, XNG, TIL and PWR chapters and what the model keeps beside them. -/
structure Region where
  cfg : ClassB                         -- fields in force (Table DIE-6, FIXED_TO_NOW)
  status : RegionStatus := .out
  awaitTiles : List Nat := []          -- own: logical tiles that await a reload (R80, R291, R351)
  awaitModel : Bool := false           -- own: OUT until a model load (R291 row 3)
  awaitLock : Bool := false            -- own: returns to SERVING once its generator is LOCKED (R126, R554)
  retireLater : Bool := false          -- own: retires when its gang is dissolved (R81)
  isoSinkOn : Bool := false            -- own: the endpoint is an isolation sink (R173, R193)
  wdogAge : Nat := 0                   -- XNG.WDOG_AGE[r], 8 bits
  detViol : Nat := 0                   -- XNG[r].DET_VIOL, 64 bits RC
  discard : Nat := 0                   -- XNG[r].DISCARD, 64 bits RC
  isoSink : Nat := 0                   -- XNG[r].ISO_SINK, 64 bits RC
  detFault : Bool := false             -- own: F-XNG-02 raised this frame (R187)
  posFail : Nat := 0                   -- TIL[r].POS_FAIL, 16 bits
  addrErr : Nat := 0                   -- TIL[r].ADDR_ERR, 32 bits RC
  selfFailed : Nat := 0                -- BRU.SELFTEST[r].FAILED, 16 bits
  spareBad : Bool := false             -- BRU.SELFTEST[r].SPARE_BAD
  kCap : Nat := 16                     -- PWR.REGION[r].K_CAP
  kTherm : Nat := 16                   -- PWR.REGION[r].K_THERM
  kNow : Nat := 16                     -- PWR.REGION[r].K
  temp : Int := 0                      -- PWR.REGION[r].TEMP, signed, 0.25 °C
  tempPeak : Int := 0                  -- PWR.REGION[r].TEMP_PEAK, RC
  throttled : Nat := 0                 -- PWR.REGION[r].THROTTLED, 64 bits RC
  sensorBad : Bool := false            -- own: faulty sensor (R550)
  validRun : Nat := 0                  -- own: valid samples in a row (R550)
  sampled : Bool := false              -- own: a sample has been taken (R550)
  hotRun : Nat := 0                    -- own: samples in a row at or above 110 °C (R548)
  coldRun : Nat := 0                   -- own: samples in a row below 85 °C (R549)
  hotEvals : Nat := 0                  -- own: evaluations at or above the soft limit (R547)
  coolEvals : Nat := 0                 -- own: evaluations at or below 92 °C (R547)
  tripped : Bool := false              -- own: halted by R548
  flitEvents : Nat := 0                -- interval count, Table NRG-1 event 7
  cycleEvents : Nat := 0               -- interval count, Table NRG-1 event 8
  lineEvents : Nat := 0                -- interval count of endpoint line accesses, base tier
  lineSEvents : Nat := 0               -- interval count of endpoint line accesses, stacked tiers
  memBursts : List Nat := []           -- own: MEM bursts granted, newest interval first (R539)
  spineFlits : List Nat := []          -- own: flits injected by the endpoint, newest interval first (R539)
deriving DecidableEq, Repr

/-- Region `r` at reset (R88). -/
def Region.reset (r : Nat) : Region := { cfg := ClassB.reset r }

/-! ## Tiles -/

/-- A collective slot (R394, Table SEL-2). -/
structure Slot where
  armed : Bool := false
  done : Bool := false                 -- complete (R396)
  combine : Nat := 0                   -- 0 SUM_EXACT, 1 MAX_U32, 2 SEL_MERGE
  gen : Nat := 0
  n : Nat := 0                         -- N contributions
  r : Nat := 0                         -- R records
  area : Nat := 0                      -- offset in the tile's base tier
  form : Nat := 0                      -- FORM
  anchor : Int := 0                    -- ANCHOR
  kSel : Nat := 0                      -- K of a list form
  dir : Nat := 0
  keyFmt : Nat := 0
  accepted : Nat := 0                  -- own: records accepted
deriving DecidableEq, Repr

/-- One loop in progress (R377). -/
structure LoopFrame where
  start : Nat                          -- offset of the body's first descriptor
  stop : Nat                           -- offset after the body's last descriptor
  left : Nat                           -- iterations still to run, this one included
  regA : Nat
  regB : Nat
  strideA : Int
  strideB : Int
  saveA : Nat
  saveB : Nat
  level : Nat                          -- call depth at loop entry
deriving DecidableEq, Repr

/-- One accumulator (R328, R332): exact value, special bits, product count. -/
structure Accum where
  w : Int := 0
  nan : Bool := false
  posInf : Bool := false
  negInf : Bool := false
  inexact : Bool := false
  count : Nat := 0
  anchor : Int := 0
deriving DecidableEq, Repr

/-- One matrix engine: the bank a hold keeps (R372). -/
structure Engine where
  held : Bool := false
  family : Nat := 0                    -- 0 INT8, 1 FP8, 2 BF16
  accums : List Accum := []            -- the 64 accumulators of the held bank, row by row
deriving DecidableEq, Repr

/-- One COLLECT message of a SEND not yet delivered (R397): its TAG while it is in flight. -/
structure SendMsg where
  msg : Msg
  sent : Bool := false                 -- in flight: injected, its RSP not yet arrived
  resend : Bool := false               -- answered NOT_ARMED
deriving DecidableEq, Repr

/-- A REQ of a remote read (R379): its TAG, and for each of its lines the offset the line goes to. -/
structure InRead where
  tag : Nat
  dsts : List Nat
deriving DecidableEq, Repr

/-- What an issued operation still waits for (Table OPS-1). -/
inductive Pending where
  | wait (tag counter value timeout : Nat) (retry : Bool)            -- WAIT (R391, R392)
  | send (since timeout : Nat) (msgs : List SendMsg)                 -- COLLECTIVE SEND (R397)
  | collWait (slot since timeout : Nat)                              -- COLLECTIVE WAIT (R398)
  | fence (left : List Nat)                                          -- FENCE: tags of FLUSHes whose RSP is due
  | signalFence (left : List Nat) (msg : Msg)                        -- SIGNAL with FENCE_FIRST = 1
  | moveIn (reads : List InRead) (todo : List (Msg × List Nat))      -- remote reads whose RSPs are due, and not yet sent
  | out (msgs : List Msg)                                            -- messages not yet injected (Table OPS-1)
deriving DecidableEq, Repr

/-- An issued operation that has not completed (R362): its descriptor's offset, what it waits for, the byte intervals
of tile memory that it reads and writes. -/
structure Issued where
  off : Nat
  kind : Pending
  reads : List (Nat × Nat) := []
  writes : List (Nat × Nat) := []
deriving DecidableEq, Repr

/-- One logical tile: its registers (Tables TIL-8, OPS-10, SEL-4), its vector registers, its sequencer (R360) and
its interval event counts (Table NRG-1). -/
structure Tile where
  vreg : Bank Word := {}               -- v0 to v31: lane i of v at 64v + i
  engines : Bank Engine := {}          -- ME0 to ME3
  a : Bank Nat := {}                   -- a0 to a7, 40 bits
  running : Bool := false              -- an item runs (R360)
  pc : Nat := 0                        -- OPS.PC
  loops : List LoopFrame := []
  calls : List Nat := []
  item : Nat := 0
  gen : Nat := 0
  spec : Bool := false
  account : Nat := 0
  part : Nat := 31                     -- own: partition and class of the item (R572); 31 and 8 none
  cls : Nat := 8
  ended : Bool := false                -- a descriptor with END = 1 issued, or an error stopped issue
  err : Nat := 0                       -- error code of the item, 0 none
  itemFlags : Nat := 0                 -- flags raised during the item
  armedSlots : List Nat := []          -- slots the item armed (R402)
  written : List Nat := []             -- endpoints written since the last FENCE (R382)
  issued : List Issued := []           -- issued operations that have not completed, oldest first
  endFence : Bool := false             -- own: the FENCE of the item's end is under way or done (R402)
  seqIdle : Bool := true               -- own: idle as SEQ sees it (R462)
  dispMode : Nat := 0                  -- own: SEL.DEFAULT at the item's dispatch (R438)
  dispTie : Nat := 0
  flags : Nat := 0                     -- TIL.FLAGS, 6 bits W1C
  ceCount : Nat := 0                   -- TIL.CE_COUNT, 32 bits RC
  ceSecond : Nat := 0                  -- own: corrections in the current second (R352)
  ueCount : Nat := 0                   -- TIL.UE_COUNT, 16 bits RC
  ueAddr : Nat := 0                    -- TIL.UE_ADDR, 21 bits
  residueErr : Nat := 0                -- TIL.RESIDUE_ERR, 16 bits RC
  hang : Nat := 0                      -- own: epochs of a running clock without progress of what is issued (R349)
  hangSig : List Nat := []             -- own: the progress seen at the last boundary (R349)
  scrubLine : Nat := 0                 -- own: next line to scrub (R320)
  errOff : Nat := 0                    -- OPS.LAST_ERR.OFFSET
  errCode : Nat := 0                   -- OPS.LAST_ERR.CODE
  slots : Bank Slot := {}              -- 16 collective slots
  staleDrop : Nat := 0                 -- OPS.STALE_DROP, 32 bits RC
  retry : Nat := 0                     -- OPS.RETRY, 32 bits RC
  poolFault : Bool := false            -- own: F-OPS-05 raised this frame (R391)
  selPage : Nat := 0                   -- SEL.LAST.PAGE
  selColander : Bool := false          -- SEL.LAST.COLANDER
  selGuar : Nat := 0                   -- SEL.LAST.GUARANTEED
  selExact : Bool := false             -- SEL.LAST.EXACT
  selCount : Nat := 0                  -- SEL.LAST.COUNT
  selSegment : Nat := 0                -- SEL.LAST_SEGMENT
  selPasses : Nat := 0                 -- SEL.PASSES, 32 bits RC
  tagSkip : Nat := 0                   -- SEL.TAG_SKIP, 32 bits RC
  histSat : Bool := false              -- SEL.FLAGS.HIST_SAT, W1C
  tagFault : Bool := false             -- own: F-SEL-02 raised this frame (R416)
  kstep8 : Nat := 0                    -- interval counts, Table NRG-1 events 0, 1, 3, 4, 5, 6
  kstep16 : Nat := 0
  vop : Nat := 0
  selBusy : Nat := 0
  lineB : Nat := 0
  lineS : Nat := 0
deriving DecidableEq, Repr

/-- One tile position: its memory (Table TIL-1) and what the model keeps of its line faults. -/
structure Position where
  mem : List Host.Cell := []
  repair : Nat := 0                    -- own: the SRAM repair data applied at the start (R241)
  residueAt : Option Nat := none       -- own: epochs since the last residue error here (R349)
deriving DecidableEq, Repr

/-! ## Crossings and the Spine -/

/-- The two reset outputs of a side (R177). -/
structure Handshake where
  rip : Bool := false
  ack : Bool := false
deriving DecidableEq, Repr

/-- A flit (R194, R196): flit `ix` of its message, 0 the head. Each flit carries the message it is part of; what a receiver uses is
the head's fields and its own part of the payload. -/
structure Flit where
  msg : Msg
  ix : Nat
  poison : Bool := false               -- its poison bit (R194)
  late : Bool := false                 -- own: δ > L in the first cycle in which this fixed head was poppable (R163)
deriving DecidableEq, Repr

/-- A crossing queue (R149 to R154, R177 to R181). Its entries are flits (R211). -/
structure Queue where
  single : Bool := false               -- items between members of a gang cross in one clock (R165, R183)
  items : List Flit := []              -- oldest first
  ripe : Nat := 0                      -- own: how many of the items the reader's copy of the write pointer shows (R149)
  freed : Nat := 0                     -- own: popped items that the writer's copy of the read pointer does not show yet (R149)
  waiting : List Flit := []            -- what the writer holds to push, in order (R151)
  wHs : Handshake := { rip := true }   -- the writer's RIP and ACK (R189: reset runs the handshake)
  rHs : Handshake := { rip := true }   -- the reader's RIP and ACK
  wSeesRip : Bool := false             -- the partner's outputs as the writer has last seen them
  wSeesAck : Bool := false
  rSeesRip : Bool := false
  rSeesAck : Bool := false
  age : Nat := 0                       -- own: handshake age (R181)
deriving DecidableEq, Repr

/-- A domain's tick feed (R155): the depth-8 queue toward it, and its tick view. -/
structure TickFeed where
  items : List Nat := []               -- values not yet popped, oldest first
  tv : Nat := 0                        -- TV, 20 bits
  valid : Bool := false                -- own: a value has been popped (R189)
deriving DecidableEq, Repr

/-- A REQ whose RSP is awaited (R209, R216). -/
structure OutReq where
  tag : Nat
  dst : Nat
  flits : Nat                          -- reserved flits
  age : Nat := 0                       -- epochs since injection
  op : Nat := 0
  limit : Nat := 0                     -- own: TIMEOUT of a WAIT_GE (R392)
  wait_ : Bool := false                -- own: a WAIT_GE's reservation (R200, R392)
  void : Bool := false                 -- own: a reset has discarded its reservation: no RSP matches it (R219)
deriving DecidableEq, Repr

/-- A Spine endpoint (Tables SPN-1, SPN-5, SPN-8). -/
structure Endpoint where
  reserved : Nat := 0                  -- SPN.EP.RSP_RESERVED
  outstanding : List OutReq := []
  rsvStall : Nat := 0                  -- SPN.EP.RSV_STALL, 64 bits RC
  tagDrop : Nat := 0                   -- SPN.EP.TAG_DROP, 32 bits RC
  resync : Nat := 0                    -- SPN.EP.WSEQ_RESYNC, 32 bits RC
  sent : Bank Nat := {}                -- WSEQ per destination (R203, R738)
  got : Bank Nat := {}                 -- WR messages popped per source (R203, R738)
  delayed : List Nat := []             -- own: tags of the REQs that R209 delays, each counted once
  held : Nat := 0                      -- own: epochs the REQ at the head has been held (R739)
  out : List Msg := []                 -- own: messages the block has issued, not yet injected
  parts : List Flit := []              -- own: popped flits of messages whose last flit is still to come
  popRsp : List Msg := []              -- popped and not yet served, by class
  popWr : List Msg := []
  popEvt : List Msg := []
  popReq : List Msg := []
deriving DecidableEq, Repr

/-- A flit inside the router network: at router `at_`, in the buffer of its input side `side` and its lane. -/
structure Flying where
  flit : Flit
  at_ : Nat
  side : Nat                           -- 0 east, 1 west, 2 north, 3 south, 4 local
deriving DecidableEq, Repr

/-- One output of a router (R206 to R208, Table SPN-8); lists are by lane in the order RSP, WR, EVT, REQ. -/
structure OutLink where
  flits : Nat := 0                     -- SPN.LINK.FLITS, 64 bits RC
  corr : Nat := 0                      -- SPN.LINK.CORR, 32 bits RC
  uncorr : Nat := 0                    -- SPN.LINK.UNCORR, 32 bits RC
  lost : List Nat := [0, 0, 0, 0]      -- own: consecutive lost transfers of each lane (R207)
  turn : List Nat := [0, 0, 0, 0]      -- own: input side granted last in each lane (R208)
  busy : List Nat := [0, 0, 0, 0]      -- own: input whose message holds the lane (R206), plus one; 0 none
  drop : List Bool := [false, false, false, false]  -- own: that message lost its head to an error and is discarded (R222)
  stall : List Nat := [0, 0, 0, 0]     -- own: epochs that the lane has had a flit ready and sent nothing (R222)
  corrSec : Nat := 0                   -- own: corrected errors of the running second (R222)
  linkT : Nat := 0                     -- XNG.LINK_T, 16 bits
deriving DecidableEq, Repr

/-! ## Session memory -/

/-- One group in a request store (R498, R499). -/
structure Group where
  id : Nat                             -- pop order
  req : Nat                            -- requester ID
  src : Nat                            -- source endpoint
  tag : Nat
  write : Bool
  addr : Nat
  lines : Nat
  data : List Byte := []               -- write data, or the bytes read so far
  en : List Bool := []
  granted : Nat := 0                   -- bursts granted
  shelved : Bool := false
  backMark : Bool := false             -- marked BACKOFF by a full shelf (R514)
  poison : Bool := false
  moving : Bool := false               -- own: its latest burst was granted in the last cycle and has not transferred (R508, R515)
deriving DecidableEq, Repr

/-- One channel: arbiter, request store, warming shelf, counters (Table ARB-3). -/
structure Channel where
  cycle : Nat := 0                     -- arbiter cycle n
  slots : Bank Nat := {}               -- SLOT_NOW, default 0x7F
  slotNext : Option (Bank Nat) := none -- own: committed table that waits for the wrap (R517)
  mode : Nat := 0                      -- CTRL_NOW.MODE
  limit : Nat := 1024                  -- CTRL_NOW.LIMIT
  w : Bank Nat := {}
  nl : Bank Nat := {}
  bo : Bank Nat := {}
  last : Option Nat := none
  store : List Group := []             -- in pop order
  returning : List Group := []         -- own: READ groups whose last burst is granted, RSP due, in that order (R501)
  shelf : List Nat := []               -- group ids, oldest first
  nextId : Nat := 0                    -- own: next pop order
  forceBusy : Bool := false            -- own: the next cycle is unavailable for a repeat (R502)
  starve : List Nat := []              -- STARVE bits set, by requester
  shelfPeak : Nat := 0
  shelfFull : Nat := 0
  shelfFault : Bool := false           -- own: F-ARB-03 raised this frame (R514)
  grants : Bank Nat := {}
  forced : Nat := 0
  deadCount : Nat := 0
  unavail : Nat := 0
  linkCe : Nat := 0
  linkUe : Nat := 0
  ecs : Nat := 0
  repeats : Nat := 0                   -- own: repeats in the current second (R526)
  marked : List Nat := []              -- own: the arbiter cycles of the last eight rotations marked unavailable (R507)
  wrTaken : Bool := false              -- own: a WR popped in this arbiter cycle (R498)
  reqTaken : Bool := false             -- own: a REQ popped in this arbiter cycle (R498)
  ecsEpochs : Nat := 0                 -- own: epochs since the ECS count was read (R503)
  trained : Bool := false
  trainFails : Nat := 0                -- own: failed trainings (R262)
deriving DecidableEq, Repr

/-! ## SEQ: sessions, items, counters, completions -/

/-- Table SES-2. -/
inductive SessState where
  | free | open_ | armed | ready | running | ahead
deriving DecidableEq, Repr

/-- A session descriptor (Table SES-1) and what SEQ keeps of its pending frame. -/
structure Session where
  state : SessState := .free
  cls : Nat := 0
  partition : Nat := 0
  cur : Bool := false
  armPending : Bool := false
  held : Bool := false
  confirmed : Bool := false
  closePending : Bool := false
  account : Nat := 0
  gen : Nat := 0
  frame : Nat := 0
  outBytes : Nat := 0
  deadline : Nat := 0
  stateLine0 : Nat := 0
  stateLine1 : Nat := 0
  checkLine : Nat := 0
  audioLine : Nat := 0
  outLine : Nat := 0
  user : Nat := 0
  endEpoch : Nat := 0
  pendAudio : Nat := 0                 -- own: AUDIO_LINE of an ARM_PENDING (R625)
  inFlight : Bool := false             -- own: an item runs
  cancelled : Bool := false            -- own: a CANCEL or a deadline waits for the item's end
  heldLate : Bool := false             -- own: fields of the PROVISIONAL completion, for the DONE of CONFIRM
  heldFlags : Nat := 0
  dispChecked : Bool := false          -- own: CHECKED at dispatch (R284)
  dispMode : Nat := 0                  -- own: SEL.DEFAULT at dispatch (R284)
  dispTie : Nat := 0
  order : Nat := 0                     -- own: ARM order of a run-ahead candidate (R472)
  readmit : Bool := false              -- own: its item was returned by R466: counted and reserved already
  tickAt : Nat := 0                    -- own: the frame tick whose epoch its DEADLINE counts from, 0 once issued (R472)
deriving DecidableEq, Repr

/-- One lane of an item in flight. -/
structure LaneRun where
  used : Bool := false
  stage : Nat := 0                     -- stage started last
  started : Bool := false              -- that stage has started and not ended
  waitEnds : List Nat := []            -- tiles of the stage (15r + p) whose item-end is due
  finished : Bool := false             -- every stage of the lane has ended
deriving DecidableEq, Repr

/-- An item in flight (R459 to R467). -/
structure Item where
  session : Nat
  partition : Nat
  gen : Nat
  spec : Bool
  checked : Bool
  account : Nat
  cls : Nat
  audio : Nat
  lane0 : LaneRun := {}
  lane1 : LaneRun := {}
  err : Nat := 0
  flags : Nat := 0
  aborted : Bool := false
  seqNo : Nat := 0                     -- own: admission order (R462)
  begun : List Nat := []               -- own: tiles (15r + p) that have begun it (R466)
deriving DecidableEq, Repr

/-- One partition's registers (Table SES-8). -/
structure Part where
  model : Nat := 0                     -- MODEL.STATE: 0 none, 1 RESIDENT, 2 lost
  lanes : Nat := 0                     -- MODEL.LANES
  capacity : Nat := 0
  required : Nat := 0
  shortfall : Nat := 0
  overflow : Nat := 0
  spillSlots : Nat := 0
  admitReg : Nat := 0xFFFFFFFF
  liveOverflow : Nat := 0              -- own: OVERFLOW and ADMIT of the model in force (a refused load shows its own, R478)
  liveAdmit : Nat := 0xFFFFFFFF
  admitted : Nat := 0
  late : Nat := 0
  mismatch : Nat := 0
  lateFault : Bool := false            -- own: F-SES-02 raised this frame (R456)
  laneFault : Bool := false            -- own: F-SES-10 reported for the model loaded (R470)
  spillBase : Nat := 0                 -- ARB.SPILL[p].BASE, a line
  spillLimit : Nat := 0                -- ARB.SPILL[p].LIMIT, a line
deriving DecidableEq, Repr

/-- SEQ.TILE[r][t] (R457). -/
structure MapEntry where
  valid : Bool := false
  lane : Nat := 0
  stage : Nat := 0
  entry : Nat := 0                     -- ENTRY: offset bits [20:6]
deriving DecidableEq, Repr

/-- A parked waiter (R387). -/
structure Waiter where
  counter : Nat
  value : Nat
  src : Nat                            -- source endpoint
  tag : Nat
  timeout : Nat
  since : Nat := 0                     -- epochs since parking (R389)
  order : Nat := 0                     -- parking order (R388)
  ring : Option Nat := none            -- own: the ring whose COUNTER command waits (R629)
deriving DecidableEq, Repr

/-- A completion entry (Table HIF-5): TYPE 0 a frame completion, TYPE 1 a command completion. -/
structure Completion where
  typ : Nat
  status : Nat
  error : Nat := 0                     -- ERROR, or CODE
  word4 : Nat := 0                     -- SESSION, or TAG
  word8 : Nat := 0                     -- USER, or OPCODE
  frame : Nat := 0
  gen : Nat := 0
  flags : Nat := 0                     -- byte 0x11
  epoch : Nat := 0
  res0 : Nat := 0
  res1 : Nat := 0
  releases : Nat := 0                  -- own: hold entries of its item that it releases at the ring (R620)
deriving DecidableEq, Repr

/-- The Session Sequencer and its event counters. -/
structure Seq where
  sessions : Bank Session := {}
  cache : List Nat := []               -- cached descriptors (R444)
  cacheMiss : Nat := 0
  evictNo : Nat := 0                   -- own: evictions so far, for the free choice of the victim (R444)
  parts : Bank Part := {}
  tiles : Bank MapEntry := {}          -- index 15r + t
  items : Bank Item := {}
  itemNo : Nat := 0                    -- own: admission order
  ahead : Nat := 0                     -- own: ARM order of the next candidate
  ctr : Bank Nat := {}                 -- EVT.CTR
  owner : Bank Nat := {}               -- EVT.OWNER, default 31
  sat : List Nat := []                 -- EVT.SAT bits set
  waiters : List Waiter := []
  parkNo : Nat := 0
  waitPeak : Nat := 0
  poolFull : Nat := 0
  denied : Nat := 0
  compOut : Bank (List Completion) := {}  -- own: completions of each ring not yet written or held
  hold : List (Nat × Completion) := []    -- the completion hold: ring and entry (R620)
  reserved : Nat := 0                  -- hold entries reserved by items in flight (R620)
  holdFault : List Nat := []           -- own: rings with F-HIF-06 raised this frame
deriving DecidableEq, Repr

/-! ## Steward, Stirrer, energy -/

/-- Energies of the four classes in one interval, nJ (Table PWR-1). -/
structure ClassNj where
  hif : Nat := 0
  mem : Nat := 0
  spine : Nat := 0
  compute : Nat := 0
deriving DecidableEq, Repr

/-- One booking: a target account with its partition, class, SPEC, in raw 1/64 pJ units (R572, R573). -/
structure Booking where
  account : Nat
  partition : Nat                      -- 31 none
  cls : Nat                            -- 8 none
  spec : Bool
  group : Nat                          -- rail group 0 to 4
  raw : Nat
deriving DecidableEq, Repr

/-- The events that a tile counted for an item before it began another one (R572): counts of events 0, 1, 3, 4, 5, 6. -/
structure Tagged where
  region : Nat
  account : Nat
  partition : Nat
  cls : Nat
  spec : Bool
  counts : List Nat
deriving DecidableEq, Repr

/-- The staging of one sweep (R583): its boundary B, its bookings, the estimates latched at B in nJ, calibrated and
raw, and the energy read from the bank slot for each group, none while missing (R577). -/
structure Sweep where
  at_ : Nat
  age : Nat := 0                       -- epochs since B
  bookings : List Booking := []
  est : List Nat := [0, 0, 0, 0, 0]
  raw : List Nat := [0, 0, 0, 0, 0]
  got : List (Option Nat) := [none, none, none, none, none]
deriving DecidableEq, Repr

/-- A counter in µJ with its remainder below 1 µJ, in 1/64 pJ (R573). -/
structure Uj where
  uj : Nat := 0
  rem : Nat := 0
deriving DecidableEq, Repr

/-- An account (R586). -/
structure Account where
  total : Uj := {}
  est : Uj := {}
deriving DecidableEq, Repr

/-- A rail group (Table NRG-5, R584). -/
structure RailGroup where
  gain : Nat := 1048576                -- NRG.GAIN_NOW
  measured : Uj := {}
  booked : Uj := {}
  missing : Nat := 0
  estNow : Nat := 0                    -- own: calibrated 1/64 pJ since the last latch (R574)
  rawNow : Nat := 0                    -- own: raw 1/64 pJ since the last latch
  m : Nat := 0                         -- own: sums over the measured sweeps of the period (R584)
  r : Nat := 0
  ms : Nat := 0
deriving DecidableEq, Repr

/-- A capture asked for by ENERGY_READ (R587). -/
structure Capture where
  ring : Nat
  tag : Nat
  first : Nat
  count : Nat
  tick : Nat
  clear : Bool
  dest : Nat
  taken : Bool := false
  rows : List (Nat × Nat) := []        -- TOTAL, EST
deriving DecidableEq, Repr

/-- The Steward, the Stirrer and the energy accounting (Tables PWR-4, NRG-5). -/
structure Stew where
  evaluating : Bool := false           -- own: R567
  evalDue : Bool := false              -- own: the evaluation of this epoch boundary is due (R529)
  grant : Nat := 150                   -- PWR.GRANT_NOW
  effCap : Nat := 150                  -- PWR.EFF_CAP
  effDrop : Nat := 1000                -- own: epochs since P_EFF last fell (R541)
  urgency : Nat := 128                 -- PWR.URGENCY
  demand : Nat := 0                    -- PWR.DEMAND
  window : List ClassNj := []          -- own: the last 100 intervals, newest first (R530)
  needs : List Nat := []               -- own: demand energy of those intervals (R555)
  allow : List Nat := [0, 0, 0, 0]     -- PWR.CLASS.ALLOW
  overCount : Nat := 0                 -- PWR.OVER
  overFault : Bool := false            -- own: F-PWR-01 raised this frame
  softFault : Bool := false            -- own: F-PWR-02 raised this frame
  floorClipped : Bool := false
  grantStale : Bool := false
  coolantStop : Bool := false
  resuming : Bool := false             -- own: rails set, 50 µs running (R554)
  resumeAge : Nat := 0                 -- own: epochs of them
  islandV : List Nat := [100, 100, 100, 100]  -- PWR.ISLAND_V
  grantNew : Option (Nat × Nat) := none       -- own: received grant and its exchange epoch X (R557)
  grantAge : Nat := 0                  -- own: epochs since the last grant frame (R558)
  ack : Nat := 0                       -- own: ACK of the chip slot
  auxEvents : List Nat := [0, 0, 0, 0, 0]     -- interval counts, Table NRG-2
  stirFloor : Nat := 0                 -- STIR.FLOOR
  stirFill : Nat := 0                  -- STIR.FILL
  stirShort : Nat := 0                 -- STIR.SHORT
  frameNj : Nat := 0                   -- own: calibrated energy of the running frame
  pframe : Nat := 0                    -- own: calibrated energy of the last frame divided by its epochs
  frames : Nat := 0                    -- own: frames completed since READY (R601)
  frameLen : Nat := 0                  -- own: epochs of the running frame
  frameEnd : Bool := false             -- own: the frame ends with the interval whose evaluation is due
  groups : Bank RailGroup := {}
  accounts : Bank Account := {}
  classes : Bank Uj := {}              -- NRG.CLASS
  parts : Bank Uj := {}                -- NRG.PART
  spec : Uj := {}                      -- NRG.SPEC
  sweep : Nat := 0                     -- NRG.SWEEP
  tagged : List Tagged := []           -- own: this interval's events of items that tiles have left (R572)
  booking : List Booking := []         -- own: the intervals since the last sweep boundary
  staged : List Sweep := []            -- the staging table, oldest sweep first (R583)
  gainDue : Bool := false              -- own: a gain update is due (R584)
  captures : List Capture := []
deriving DecidableEq, Repr

/-! ## Start, image, host interface -/

/-- BRU.STATUS.PHASE (Table BRU-5). -/
inductive Phase where
  | held | otp | spine | image | ref | clocks | memory | selftest | config | ready | recovery | failed
deriving DecidableEq, Repr

/-- The code of a phase (Table BRU-5). -/
def Phase.code (p : Phase) : Nat :=
  match p with
  | .held => 0 | .otp => 1 | .spine => 2 | .image => 3 | .ref => 4 | .clocks => 5 | .memory => 6
  | .selftest => 7 | .config => 8 | .ready => 9 | .recovery => 14 | .failed => 15

/-- The start (Table BRU-7). -/
structure Bru where
  phase : Phase := .held
  ready : Bool := false
  fallback : Bool := false
  slot : Nat := 3                      -- 0 A, 1 B, 3 none
  cause : Nat := 0                     -- RESET_CAUSE
  rejA : Bool := false
  rejB : Bool := false
  readyEpoch : Nat := 0
  genA : Nat := 0                      -- BRU.IMAGE[0].GEN
  genB : Nat := 0
  resultA : Nat := 0
  resultB : Nat := 0
  image : ImageValues := {}            -- own: values of the accepted image
  epochs : Nat := 0                    -- own: epochs since MOD_RST_N released (R257)
  late : Bool := false                 -- own: F-BRU-06 raised
  memInit : Bool := false              -- own: session memory initialised (R254)
  restart : Bool := false              -- own: this start follows a chip restart (R236)
  selftested : Bool := false           -- own: self-test complete
  configured : Bool := false           -- own: CONFIG complete
  checked : Bool := false              -- own: the Spine's start check has ended (R223)
  stuck : Bool := false                -- own: FAILED by F-BRU-11: RESTART is ignored (R260)
deriving DecidableEq, Repr

/-- The leaving and applying phases of a roll (R285). -/
inductive RollPhase where
  | idle | leaving | applying
deriving DecidableEq, Repr

/-- Committed change (Table IMG-9). -/
structure Img where
  commitEpoch : Nat := 0               -- IMG.COMMIT_EPOCH.E
  stageSlot : Nat := 0                 -- IMG.STAGE_SLOT.SLOT
  rollRegion : Nat := 255              -- IMG.STATUS.ROLL_REGION
  useValid : Bool := false
  useSlot : Nat := 0
  cPending : Bool := false
  stagedSlot : Nat := 0
  staged : Bool := false
  rollActive : Bool := false
  pending : Bool := false
  result : Nat := 0                    -- IMG.RESULT
  appliedEpoch : Nat := 0
  commitCount : Nat := 0
  skipped : Nat := 0                   -- IMG.ROLL_SKIPPED, 72 bits
  shadowA : ClassA := {}
  shadowB : Bank ClassB := {}
  nowA : ClassA := {}
  nowC : ClassC := {}
  snapE : Nat := 0                     -- own: E of the pending commit
  snapA : ClassA := {}
  snapB : Bank ClassB := {}
  snapStaged : Bool := false           -- own: the pending commit takes the staged image (R301)
  rollB : Bank ClassB := {}            -- own: the active roll's snapshot
  rollPhase : RollPhase := .idle
  rollNext : Nat := 0                  -- own: regions of the phase still to pass
  rollEpochs : Nat := 0                -- own: drain timer (R288)
  rollApplied : Bool := false          -- own: the step's fields are applied
  rollForced : Bool := false           -- own: the forced drain took place
  rollCopyUe : Bool := false           -- own: the SPARE_FOR copy met an uncorrectable error (R291)
  rollMoved : Bool := false            -- own: the step has changed GANG_MASTER (Table IMG-7)
  rollParted : Bool := false           -- own: the step has changed PARTITION (R291)
  rollEnded : Bool := false            -- own: a step has ended in this epoch (Table IMG-6 step 5)
  rollTries : Nat := 0                 -- own: failed attempts (R292)
  rollWait : Bool := false             -- own: waits for the next frame tick (R292)
  rollCancel : Bool := false           -- own: ends after the step in progress (R280)
  staging : Bool := false              -- own: a stage command runs (R297)
  stagingSlot : Nat := 0               -- own: the slot that it reads
deriving DecidableEq, Repr

/-- A command entry handed to an executor: its 64 bytes (Table HIF-4). -/
structure Handed where
  bytes : List Byte
  begun : Bool := false                -- a background command already started
deriving DecidableEq, Repr

/-- One ring pair (R613 to R616). -/
structure Ring where
  cmdBase : Nat := 0
  cplBase : Nat := 0
  enable : Bool := false
  cmdHead : Nat := 0
  cmdTail : Nat := 0                   -- own: tail the driver last wrote
  cplTail : Nat := 0
  cplHead : Nat := 0                   -- own: head the driver last wrote
  phase : Bool := true                 -- PHASE of the pass (R615)
  handed : List Handed := []           -- commands handed to executors, oldest first
  background : List Handed := []       -- background commands that run (R622)
deriving DecidableEq, Repr

/-- One fault-log entry (R635). -/
structure FaultEntry where
  code : Nat
  inst : Nat
  epoch : Nat
deriving DecidableEq, Repr

/-- One MSI-X vector (R633, R634). -/
structure Vector_ where
  addr : Nat := 0
  data : Nat := 0
  mask : Bool := true
  pend : Bool := false                 -- pending bit
  cause : Bool := false                -- own: the vector's cause holds
  since : Nat := 0x10000               -- own: epochs since its last message
deriving DecidableEq, Repr

/-- One entry of the INBOX store (R637). -/
structure InboxEntry where
  bytes : List Byte
  age : Nat := 0
  waiting : Bool := false              -- answered NOT_ARMED, to be resent
  sent : Bool := false                 -- its COLLECT is in flight
  tag : Nat := 0
deriving DecidableEq, Repr

/-- What HIF has sent to the host: memory writes and completions of reads (R609). -/
inductive HostEvent where
  | msix (vector : Nat) (addr data : Nat)
  | readOk (bytes : List Byte)
  | readPoisoned (bytes : List Byte)
  | readAbort
  | regRead (v : Nat)
deriving DecidableEq, Repr

/-- A FLUSH that HIF has sent, or will send when a tag is free, and the rings whose fetches wait for it (R612). -/
structure HifFlush where
  ep : Nat
  tag : Option Nat := none
  rings : List Nat := []
deriving DecidableEq, Repr

/-- A BAR2 read in progress (R607, R609): the READs whose RSPs are due, as tag, address and lines. -/
structure HostRead where
  addr : Nat                           -- session-memory address of the first byte
  len : Nat
  due : List (Nat × Nat × Nat) := []
  data : List Host.Cell := []          -- bytes that have come, by session-memory address
  status : Nat := 0                    -- the worst STATUS so far
deriving DecidableEq, Repr

/-- The host interface (Table HIF-9). -/
structure Hif where
  rings : Bank Ring := {}
  winBase : Nat := 0                   -- HIF.WIN_BASE.GIB
  peers : Bank Nat := {}               -- HIF.P2P_PEER
  flashSlot : Nat := 0
  flashSector : Nat := 0
  flashCmd : Nat := 0                  -- own: the operation in progress: 0 none, 1 program, 2 read
  opSlot : Nat := 0                    -- own: its slot and sector
  opSector : Nat := 0
  flashReason : Nat := 0
  flashState : Nat := 0                -- 0 idle, 1 BUSY, 2 DONE, 3 FAILED
  flashBuf : List Host.Cell := []      -- HIF.FLASH_BUF, 64 KiB
  faultCount : Nat := 0
  log : List FaultEntry := []          -- HIF.FAULT_LOG, newest first, at most 256
  badAccess : Nat := 0
  dbDrop : Nat := 0
  p2pDrop : Nat := 0
  inbox : List InboxEntry := []
  p2pIn : List (List Byte) := []       -- own: INBOX writes the switch has delivered
  p2pOut : List (Nat × Nat × List Byte) := []  -- own: peer writes issued: slot, address, bytes
  vectors : Bank Vector_ := {}
  d3 : Bool := false
  perst : Bool := true                 -- own: PERST_N asserted
  lastHost : Option HostEvent := none  -- the last answer or message HIF gave the host
  latch : Bank Nat := {}               -- R140: BAR0 latches, by low-word offset
  i2cLatch : Bank Nat := {}            -- R140: management-I2C latches
  i2cOffset : Nat := 0                 -- R702
  i2cData : Nat := 0                   -- own: the word the last management-I2C read returned (R702)
  wrote : List Nat := []               -- own: memory ports with BAR2 writes that no FLUSH has covered (R612)
  flushes : List HifFlush := []        -- own: FLUSHes that a fetch waits for (R612)
  reads : List HostRead := []          -- own: BAR2 reads in progress, oldest first (R609, R638)
deriving DecidableEq, Repr

/-- The link times, calibration and fixed discards (Table XNG-5, SPN.STATUS). -/
structure Xng where
  latKnown : Bool := false             -- XNG[s].LAT[r] computed by R169 from LINK_T and MARGIN; 0 before
  margin : Nat := 2                    -- XNG.CAL.MARGIN
  done : Bool := false                 -- XNG.CAL.DONE
  ended : Bool := false                -- own: calibration ended, done or timed out
  probing : Bool := false              -- own: probes in flight
  epochs : Nat := 0                    -- own: epochs of calibration (R168)
  check : Nat := 0                     -- own: epochs of the Spine's start check (R223)
  feeds : Bank TickFeed := {}          -- the tick feed of each domain but REF (R155)
  northTurn : List Nat := [93, 93, 93, 93]  -- own: endpoint that the shared north link granted last, by lane (R192)
  northBusy : List Nat := [0, 0, 0, 0] -- own: endpoint whose message the link is taking, by lane; 0 none
  fixDiscard : Bank Nat := {}          -- XNG.FIX_DISCARD[f]
  up : Bool := false                   -- SPN.STATUS.UP
  ageLimit : Nat := 32                 -- SPN.CTRL.AGE_LIMIT
deriving DecidableEq, Repr

/-- A gang the G3 is dissolving (R126), by its master's index. -/
structure Dissolve where
  master : Nat
  members : List Nat
  epochs : Nat := 0                    -- epochs since step 1
  timedOut : Bool := false
deriving DecidableEq, Repr

/-- One G3 on its module. -/
structure Chip where
  powered : Bool := false              -- own: the module's rails are good
  held : Bool := true                  -- own: MOD_RST_N low or power-on detector set
  slotId : Nat := 0                    -- SLOT_ID read at release (R701)
  time : TimeBase := {}
  clk : Clock := {}
  tickDue : Bool := false              -- own: a frame tick is due (R103, R104)
  gens : Bank Gen := {}
  regions : Bank Region := {}
  tiles : Bank Tile := {}              -- logical tile p of region r at 15r + p
  posns : Bank Position := {}          -- position q of region r at 16r + q
  xng : Xng := {}
  queues : Bank Queue := {}
  eps : Bank Endpoint := {}
  flying : List Flying := []
  links : Bank OutLink := {}           -- output d of router r at 5r + d
  mem : List Host.Cell := []           -- session memory by its 36-bit address (R69)
  chans : Bank Channel := {}
  seq : Seq := {}
  stew : Stew := {}
  bru : Bru := {}
  img : Img := {}
  hif : Hif := {}
  dissolves : List Dissolve := []
  flash : List Host.Cell := []         -- module flash, 64 MiB (Table IMG-1)
  otp : Otp := {}
deriving DecidableEq, Repr

/-! ## The tray -/

/-- A slot hot-swap controller's sequence state (R226 to R234). -/
inductive SlotSeq where
  | off | poweringUp | on | poweringDown | inhibited
deriving DecidableEq, Repr

/-- One chip-module slot. Its rails (Table BRU-1) come on and go off in the order of Tables BRU-2 and BRU-3; each count
says how many of a group, in the order of its table, are on. -/
structure TraySlot where
  presEarly : Bool := true             -- MOD_PRES_EARLY_N, high when absent
  presLate : Bool := true              -- MOD_PRES_LATE_N
  occupied : Bool := false
  seq : SlotSeq := .off
  pendReq : Option Bool := none        -- the pending request: true on, false off (R230)
  offHeld : Bool := false              -- own: a power-down the TMC holds for the sweep gap (R21)
  resetHeld : Bool := false            -- own: a SLOT_RESET the TMC holds for the sweep gap (R21)
  switch_ : Bool := false              -- the slot switch is closed (Table BRU-2 step 1)
  vauxEn : Bool := false               -- the VAUX phase modules are enabled (step 2)
  auxEn : Bool := false                -- AUX_EN (step 3)
  modUp : Nat := 0                     -- rails on of V1P8, VFIX, VDD2H, VDD2L, VDDQ (step 3)
  auxPg : Bool := false                -- AUX_PG (step 4)
  coreUp : Nat := 0                    -- VCORE rails enabled of VCORE0 to VCORE3 (step 5)
  coreUv : List Nat := [0, 0, 0, 0]    -- level of each VCORE rail, µV (R711, R714)
  modRst : Bool := true                -- MOD_RST_N asserted
  perst : Bool := true                 -- PERST_N asserted
  breaker : Bool := false              -- own: tripped
  bypass : Bool := true
  i2c : Bool := false                  -- isolating buffer enabled
  i2cReady : Bool := false             -- own: rails stable for 10 ms: the buffer may be enabled (step 8)
  fanout : Bool := false               -- the slot's outputs of REFA, REFB, PPSA and PPSB are enabled (Table TRY-5)
  phases : List Bool := List.replicate 14 true
  shifted : List Bool := List.replicate 14 false  -- phase modules disabled by UNIT_PREPARE
  bankV : List Nat := [100, 100, 100, 100]        -- setpoint of the last applied frame (R713, R724)
  overridden : Bool := false           -- R553, R721
  retained : Bool := false             -- own: holds 0.60 V until the next valid frame (R721)
  coolantN : Bool := false             -- COOLANT_STOP_N driven low at this slot
  upstream : Nat := 0                  -- port that owns the slot
  lamp : Nat := 6                      -- pattern, by row of Table SVC-5 (1 to 6)
  alert : Bool := false                -- MOD_ALERT_N low as the TMC last saw it
  lastPhase : Nat := 0                 -- own: BRU.STATUS, PWR.STATUS and region states as last read (R669, R703)
  lastPower : Nat := 0
  lastReady : Bool := false
  lastBad : Bool := false              -- a region RETIRED or ISOLATED
  dem : Nat := 0                       -- last report: DEMAND, CAP, URGENCY (R556)
  capRep : Nat := 550
  urg : Nat := 128
  reported : Bool := false
  ackRep : Nat := 0                    -- ACK of the last report
  grant : Nat := 0                     -- the grant the TMC holds
  grantPrev : Nat := 0
  wantOn : Bool := false               -- own: the active TMC is to request its power-up (R39, R45, R678)
deriving DecidableEq, Repr

/-- What a TRC follows (R27). -/
inductive TrcSource where
  | facility | partner | own
deriving DecidableEq, Repr

/-- One tray reference card. -/
structure Trc where
  present : Bool := true
  facility : Bool := true              -- facility input present
  source : TrcSource := .facility
  enabled : Bool := false              -- outputs enabled
  phase : Int := 0                     -- own: ps from its output phase to its source's, slewed away (R29)
  prepared : Bool := false
deriving DecidableEq, Repr

/-- One tray NVM card. -/
structure Nvm where
  present : Bool := true
  valid : Bool := false
  generation : Nat := 0
  image : List Host.Cell := []
  prepared : Bool := false
deriving DecidableEq, Repr

/-- One flow sensor. -/
structure FlowSensor where
  present : Bool := true
  voting : Bool := true
  prepared : Bool := false
deriving DecidableEq, Repr

/-- A lamp element's status (R670, R672). -/
inductive LampStatus where
  | unproven | ok | open_ | short_
deriving DecidableEq, Repr

/-- One lamp element. -/
structure Lamp where
  lit : Bool := false                  -- commanded lit (steady or blinking)
  status : LampStatus := .unproven
  last : LampStatus := .unproven       -- LAST
  prev : Option LampStatus := none     -- own: the diagnosis before (R670)
  driven : Bool := true                -- R673
deriving DecidableEq, Repr

/-- The fields a heartbeat or HANDOVER message carries (Table SVC-1) that the tray does not hold in one place for
both TMCs. -/
structure Mirror where
  roleGen : Nat := 0                   -- ROLE_GEN
  active : Bool := false               -- ROLE
  trayGen : Option Nat := none         -- TRAY_GEN, none without an image in use
  nvmStep : Nat := 0                   -- NVM_STEP: the step of R34 in progress, 0 none
  prepared : Option (Nat × Nat) := none -- PREPARED, and whether it is ready to remove
  prepReady : Bool := false
  occ : List Bool := []                -- SLOTS: occupancy, sequence state, pending request, lamp pattern of each slot
  seqs : List SlotSeq := []
  reqs : List (Bool × Bool × Bool) := [] -- to request its power-up, its held power-down, its held SLOT_RESET
  lampPats : List Nat := []
  exch : Nat := 0                      -- GRANTS: exchange epoch, grants, DEMAND and URGENCY of each slot
  grants : List Nat := []
  dems : List Nat := []
  urgs : List Nat := []
  threshold : Nat := 0                 -- FLOW: stop threshold, stop-gate state, voting state of each sensor
  stop : Bool := false
  votes : List Bool := []
  half : Bool := false                 -- RING: mode, turn nodes, relay node, unreachable nodes
  turnF : Nat := 0
  turnR : Nat := 0
  relay : Nat := 0
  unreachable : List Nat := []
  timeValid : Bool := false            -- TIME: hall-time state, the sender's epoch, armed load
  epoch : Nat := 0
  arm : Bool := false
  load : Nat := 0
  caHash : Nat := 0                    -- CA
  wantStore : Bool := false            -- own: the request for the certificate store (R655)
deriving DecidableEq, Repr

/-- A management command with its parameters (Table SVC-4). -/
inductive SvcCmd where
  | trayStatus
  | faultLog (from_ : Nat)
  | meterStatus
  | lampStatus
  | roleSwap (gen : Nat)
  | unitPrepare (typ idx : Nat)
  | unitResume (typ idx : Nat)
  | slotPower (slot on : Nat)
  | slotReset (slot : Nat)
  | chipRestart (slot : Nat)
  | imageWrite (off : Nat) (data : List Byte)
  | imageAdopt (len : Nat) (reads : List Bool)
  | switchUpstream (port : Nat)
  | timeLoad (ep : Nat)
  | locate (on : Nat)
  | lampTest (samples : List LampSense)
  | lampLevel (pct : Nat)
  | caInstall (idx : Nat) (cert : List Byte)
  | caRemove (idx : Nat)
  | bad (opcode : Nat)                 -- an unknown OPCODE or a frame out of form (R667)
deriving DecidableEq, Repr

/-- A command that a standby TMC has forwarded, unanswered for `age` of its epochs (R666). -/
structure Forwarded where
  req : MgmtReq
  cmd : SvcCmd
  age : Nat := 0
deriving DecidableEq, Repr

/-- One TMC. -/
structure Tmc where
  present : Bool := true
  checked : Bool := false              -- self-check passed (R651)
  ready : Bool := false                -- READY to the latch
  roleGen : Nat := 0
  time : TimeBase := {}
  beats : Nat := 0                     -- own: consecutive heartbeats applied without F-SVC-08 (R651)
  sentAt : Option Nat := none          -- own: epoch of the last heartbeat sent (R654)
  missed : Nat := 0                    -- own: partner heartbeats missing in a row (R656)
  swapReq : Option Nat := none         -- SWAP_REQ of the current window
  rx : Option Mirror := none           -- own: the partner's heartbeat on the link
  mstatus : Nat := 0                   -- MSTATUS
  request : List Byte := []            -- request buffer
  response : List Byte := []           -- response buffer, or the last response frame of the management port
  signals : Nat := 0                   -- own: signals of the function's MSI-X vector (R663)
  cas : Bank (List Byte) := {}         -- certificate authorities 0 to 3
  conns : Nat := 0                     -- connections of the management port
  forwarded : List Forwarded := []     -- commands forwarded and unanswered, oldest first (R666)
  mirror : Option Mirror := none       -- own: the active TMC's last heartbeat as applied (R655, R661)
  wantStore : Bool := false            -- own: the certificate store is requested in the next heartbeat (R655)
  prepared : Bool := false             -- stopped by UNIT_PREPARE
  mismatch : Bool := false             -- own: F-SVC-08 holds (R655)
  keys : List Nat := []                -- OTP key hashes of the tray image's signers (R275)
  revoked : List Bool := []
deriving DecidableEq, Repr

/-- The tray image in use (Table IMG-5). -/
structure TrayImage where
  generation : Nat := 0
  enable : List Bool := List.replicate 8 true
  split : Bool := false
  slotPort : List Nat := List.replicate 8 0
  perModule : Nat := 900
  budget : Nat := 4400
deriving DecidableEq, Repr

/-- A tray-image write in progress (R34, R680, R681): the card written first is being written or read back, or, once
`second`, the other one. -/
structure NvmWrite where
  first : Side
  second : Bool := false
  image : List Host.Cell
  len : Nat
  req : MgmtReq
deriving DecidableEq, Repr

/-- The meter ring (R574 to R582). -/
structure MeterRing where
  begun : Bool := false                -- own: the root has started a sweep since it took the role (R24)
  half : Bool := false                 -- half-chain mode
  broken : Bool := false               -- the last sweep is marked broken
  sweeping : Bool := false             -- a frame is on the ring
  roleAt : Nat := 0                    -- own: epoch at which the root took the role (R24)
  boundary : Nat := 0                  -- B
  turnF : Nat := 0                     -- turn node of the forward half; 0 the root
  turnR : Nat := 0                     -- turn node of the reverse half; 17 the root
  unreachable : List Nat := []
  relay : Nat := 0                     -- RELAY_NODE
  streak : Nat := 0                    -- own: sweeps with lock at both turns (R582)
  passed : List Nat := []              -- own: nodes that the full or forward frame has passed outbound
  passedR : List Nat := []             -- own: nodes that the reverse frame has passed outbound
  backF : List Nat := []               -- own: nodes that the forward half's frame has passed on its way back
  backR : List Nat := []               -- own: nodes that the reverse half's frame has passed on its way back
  doneF : Bool := false                -- own: the full or forward frame has returned
  doneR : Bool := false                -- own: the reverse frame has returned, or there is none
  bank : Bank (List Nat) := {}         -- own: bank slots of the sweep: five energies, SPAN and four voltages
  bankOk : Bank Bool := {}             -- own: CRC of each bank slot
  mv : Bank (List Nat) := {}           -- MV of each bank slot
  chipSlots : Bank (List Nat) := {}    -- own: DEMAND, CAP, URGENCY, ACK, FLAGS and EST of each chip slot
  missed : Bank Nat := {}              -- own: sweeps since a bank node's last latch
  exch : Nat := 0                      -- EXCH of the header
  grants : List Nat := []              -- GRANT of the header
  unlocked : List Nat := []            -- links without lock: node, or 17 + node in reverse
  prevBank : Bank (List Nat) := {}     -- own: the last sweep's bank slots, for the relay (R581)
deriving DecidableEq, Repr

/-- A unit inserted and not yet joined (R678), with the epochs since it was detected, soft-started or last interrupted. -/
structure Joining where
  typ : Nat
  idx : Nat
  age : Nat := 0
deriving DecidableEq, Repr

/-- A handover's progress (Table SVC-2). -/
inductive HandPhase where
  | none | scheduled | checked | sent | acked | moved
deriving DecidableEq, Repr

/-- The tray. -/
structure Tray where
  standby : Bool := false              -- standby supply in range
  start : Nat := 0                     -- step of Table TRY-7 reached
  slots : Bank TraySlot := {}
  role : Option Side := none           -- the role latch (R649)
  everHeld : Bool := false             -- own: a TMC has held the role (R651)
  alive : Bool := false                -- ALIVE of the active TMC
  aliveAge : Nat := 0                  -- own: epochs since ALIVE last toggled (R652)
  tmcA : Tmc := {}
  tmcB : Tmc := {}
  trcA : Trc := {}
  trcB : Trc := {}
  nvmA : Nvm := {}
  nvmB : Nvm := {}
  image : TrayImage := {}
  haveImage : Bool := false
  imageBytes : List Host.Cell := []    -- the bytes of the image in use (R35)
  nvmWrite : Option NvmWrite := none   -- a TRAY_IMAGE_ADOPT whose write is in progress (R680, R681)
  modeInForce : Bool := false          -- switch mode in force: split
  activeUp : Nat := 0                  -- active upstream port
  flowA : FlowSensor := {}
  flowB : FlowSensor := {}
  threshold : Nat := 0                 -- stop threshold, mL/min
  stop : Bool := false                 -- stop gate asserted
  inletT : Int := 25                   -- last readings, for TRAY_STATUS: °C, °C, mV, mL/min
  airT : Int := 25
  busMv : Int := 54000
  flowNow : Nat := 0
  lampBoard : Bool := true
  lamps : Bank Lamp := {}
  lampLevel : Nat := 100
  locate : Bool := false
  locatePat : Nat := 0                 -- 0 off, 1 blinking, 2 steady
  trayPat : Nat := 0                   -- 1 amber, 2 green blinking, 3 green
  log : List FaultEntry := []          -- tray fault log, newest first, at most 1,024 (R695)
  logCount : Nat := 0
  inForce : List Nat := []             -- own: codes (× 65,536 + instance) of tray faults in force
  prepared : Option (Nat × Nat) := none
  prepReady : Bool := false
  prepAge : Nat := 0                   -- own: epochs since it was prepared, or since it became ready to remove (R675, R676)
  staging : List Host.Cell := []       -- 1 MiB staging buffer of TRAY_IMAGE_WRITE
  ring : MeterRing := {}
  exch : Nat := 0                      -- last exchange epoch X
  acked : Bool := false                -- own: every acknowledgement of that exchange came by X + 2,500 (R557)
  hand : HandPhase := .none
  handAt : Nat := 0                    -- H
  handDefer : Bool := false            -- own: the handover waits for the end of a tray-image write (R680)
  handMsg : Option Mirror := none      -- the HANDOVER message on the link
  swapWaiters : List MgmtReq := []     -- requests that joined the handover
  heldCmds : List (MgmtReq × SvcCmd) := []    -- commands held from H − 80 (Table SVC-2)
  joining : List Joining := []         -- own: units inserted and not yet joined
deriving DecidableEq, Repr

/-- The whole machine: the tray, its eight chips, the host memory HIF writes, the commands that wait (first in,
first out) and the free-value counter, which is the model's own field and not the spec's: each free value of
`Config` is applied to it, and every use advances it (log entry 6). -/
structure State where
  tray : Tray := {}
  chips : Bank Chip := {}
  hostMem : List Host.Cell := []
  pending : List Instr := []
  fresh : Nat := 0
deriving DecidableEq, Repr

/-- The reasons a step stops with a fault. The block has no such stop: every condition the spec reports is an
entry of a fault log, and the step goes on. The one constructor is raised by nothing and is safe. -/
inductive Fault where
  /-- Raised by no meaning; safe. -/
  | unused
deriving DecidableEq, Repr

/-- The reasons a step is refused. -/
inductive Refusal where
  /-- Raised by `exec` for a command that has no meaning yet; safe. -/
  | notModelled (mnemonic : String)
deriving DecidableEq, Repr

/-- The machine right after reset: before the tray start, every unit at the value the spec or log entry 3 names,
no command waiting. -/
def State.reset : State := {}

end Sys2Proof.Machine
end

