-- ==== Sys2Proof/Machine/Ops.lean ====
section
/-! DEFINITION. The named operations over the state that every family of commands shares: reading and updating a
chip, a region, a tile or a tray unit, saturating counters (R727), and raising a fault (R11, R635, R695). -/

namespace Sys2Proof

/-- The partner of a unit of a pair. -/
def Side.other (x : Side) : Side := match x with | .a => .b | .b => .a
/-- INDEX of a unit of a pair (Table SVC-6): 0 A, 1 B. -/
def Side.ix (x : Side) : Nat := match x with | .a => 0 | .b => 1
/-- The unit of a pair that INDEX names. -/
def Side.ofIx (n : Nat) : Side := if n = 0 then .a else .b

namespace Machine

/-- The outcome of a command. -/
abbrev Out := Host.Outcome State Fault Refusal

/-- A command whose event occurs exactly when `b` holds: the state becomes `t`; otherwise nothing changes (log
entry 2). -/
def occurs (b : Bool) (s t : State) : Out := .next (if b then t else s)

/-! ## Arithmetic -/

/-- A counter of width `w` that holds at all ones (R727). -/
def satAdd (w v n : Nat) : Nat := min (v + n) (2 ^ w - 1)

/-- Bits `[lo, lo + n)` of a number. -/
def field (v lo n : Nat) : Nat := v / 2 ^ lo % 2 ^ n

/-- Bit `i` of a number is 1. -/
def bit (v i : Nat) : Bool := field v i 1 = 1

/-- A Boolean as the number a register field holds. -/
def flag (b : Bool) : Nat := if b then 1 else 0

/-- The signed reading of an `n`-bit field. -/
def signed (n v : Nat) : Int := if v < 2 ^ (n - 1) then (v : Int) else (v : Int) - 2 ^ n

/-- The `n`-bit two's complement field of a signed number. -/
def unsigned (n : Nat) (v : Int) : Nat := (v % 2 ^ n).toNat

/-- A signed number limited to a signed range of `n` bits. -/
def clampSigned (n : Nat) (v : Int) : Int := max (-(2 ^ (n - 1))) (min v (2 ^ (n - 1) - 1))

/-- `n` divided by `d`, rounded up. -/
def ceilDiv (n d : Nat) : Nat := (n + d - 1) / d

/-- `x` added to a list that stands for a set. -/
def insertOnce (l : List Nat) (x : Nat) : List Nat := if l.contains x then l else l ++ [x]

/-- `x` taken out of a list that stands for a set. -/
def removeAll (l : List Nat) (x : Nat) : List Nat := l.filter (fun y => y != x)

/-! ## Fault codes (R11, R618) -/

/-- The file number of a tag's chapter (Table SCP-2). -/
def tagChapter (t : Tag) : Nat :=
  match t with
  | .try_ => 1 | .die => 2 | .clk => 3 | .xng => 4 | .spn => 5 | .bru => 6 | .img => 7 | .til => 8 | .ops => 9
  | .sel => 10 | .ses => 11 | .arb => 12 | .pwr => 13 | .nrg => 14 | .hif => 15 | .svc => 16

/-- The CODE of fault F-TAG-nn (R618). -/
def codeOf (t : Tag) (nn : Nat) : Nat := tagChapter t * 100 + nn

/-- INSTANCE of a fault that names none (R635). -/
def noInstance : Nat := 0xFFFF

/-! ## A chip of the tray -/

/-- The chip in slot `k`. -/
def State.chip (s : State) (k : Nat) : Chip := s.chips.get {} k

/-- The state with chip `k` replaced. -/
def State.setChip (s : State) (k : Nat) (c : Chip) : State := { s with chips := s.chips.set k c }

/-- The state with `f` applied to chip `k`. -/
def State.onChip (s : State) (k : Nat) (f : Chip → Chip) : State := s.setChip k (f (s.chip k))

/-- The state with `f` applied to the tray. -/
def State.onTray (s : State) (f : Tray → Tray) : State := { s with tray := f s.tray }

/-! ## Parts of a chip -/

/-- The index of logical tile `p` of region `r` (and of `EVT`, `SEQ.TILE` and the coefficient tables). -/
def tileIx (r p : Nat) : Nat := 15 * r + p

def Chip.gen (c : Chip) (r : Nat) : Gen := c.gens.get {} r
def Chip.setGen (c : Chip) (r : Nat) (g : Gen) : Chip := { c with gens := c.gens.set r g }
def Chip.onGen (c : Chip) (r : Nat) (f : Gen → Gen) : Chip := c.setGen r (f (c.gen r))

def Chip.region (c : Chip) (r : Nat) : Region := c.regions.get (Region.reset r) r
def Chip.setRegion (c : Chip) (r : Nat) (g : Region) : Chip := { c with regions := c.regions.set r g }
def Chip.onRegion (c : Chip) (r : Nat) (f : Region → Region) : Chip := c.setRegion r (f (c.region r))

/-- The tile of index `t` (`tileIx`). -/
def Chip.tile (c : Chip) (t : Nat) : Tile := c.tiles.get {} t
def Chip.setTile (c : Chip) (t : Nat) (x : Tile) : Chip := { c with tiles := c.tiles.set t x }
def Chip.onTile (c : Chip) (t : Nat) (f : Tile → Tile) : Chip := c.setTile t (f (c.tile t))

/-- The position that serves logical tile `p` of region `r` (R63). -/
def Chip.positionOf (c : Chip) (r p : Nat) : Nat := if (c.region r).cfg.spareFor = p then 15 else p

/-- Position `q` of region `r`. -/
def Chip.posn (c : Chip) (r q : Nat) : Position := c.posns.get {} (16 * r + q)
def Chip.setPosn (c : Chip) (r q : Nat) (x : Position) : Chip := { c with posns := c.posns.set (16 * r + q) x }
def Chip.onPosn (c : Chip) (r q : Nat) (f : Position → Position) : Chip := c.setPosn r q (f (c.posn r q))

def Chip.queue (c : Chip) (q : Nat) : Queue := c.queues.get {} q
def Chip.setQueue (c : Chip) (q : Nat) (x : Queue) : Chip := { c with queues := c.queues.set q x }
def Chip.onQueue (c : Chip) (q : Nat) (f : Queue → Queue) : Chip := c.setQueue q (f (c.queue q))

def Chip.ep (c : Chip) (e : Nat) : Endpoint := c.eps.get {} e
def Chip.setEp (c : Chip) (e : Nat) (x : Endpoint) : Chip := { c with eps := c.eps.set e x }
def Chip.onEp (c : Chip) (e : Nat) (f : Endpoint → Endpoint) : Chip := c.setEp e (f (c.ep e))

/-- Output `d` of router `r`. -/
def Chip.link (c : Chip) (r d : Nat) : OutLink := c.links.get {} (5 * r + d)
def Chip.onLink (c : Chip) (r d : Nat) (f : OutLink → OutLink) : Chip :=
  { c with links := c.links.set (5 * r + d) (f (c.link r d)) }

def Chip.chan (c : Chip) (h : Nat) : Channel := c.chans.get {} h
def Chip.setChan (c : Chip) (h : Nat) (x : Channel) : Chip := { c with chans := c.chans.set h x }
def Chip.onChan (c : Chip) (h : Nat) (f : Channel → Channel) : Chip := c.setChan h (f (c.chan h))

def Chip.session (c : Chip) (i : Nat) : Session := c.seq.sessions.get {} i
def Chip.setSession (c : Chip) (i : Nat) (x : Session) : Chip :=
  { c with seq := { c.seq with sessions := c.seq.sessions.set i x } }
def Chip.onSession (c : Chip) (i : Nat) (f : Session → Session) : Chip := c.setSession i (f (c.session i))

def Chip.part (c : Chip) (p : Nat) : Part := c.seq.parts.get {} p
def Chip.setPart (c : Chip) (p : Nat) (x : Part) : Chip := { c with seq := { c.seq with parts := c.seq.parts.set p x } }
def Chip.onPart (c : Chip) (p : Nat) (f : Part → Part) : Chip := c.setPart p (f (c.part p))

/-- `SEQ.TILE` of tile index `t` (R457). -/
def Chip.mapEntry (c : Chip) (t : Nat) : MapEntry := c.seq.tiles.get {} t

def Chip.item (c : Chip) (i : Nat) : Option Item := Bank.look c.seq.items.cells i
def Chip.setItem (c : Chip) (i : Nat) (x : Item) : Chip := { c with seq := { c.seq with items := c.seq.items.set i x } }
def Chip.dropItem (c : Chip) (i : Nat) : Chip := { c with seq := { c.seq with items := c.seq.items.erase i } }

def Chip.ring (c : Chip) (g : Nat) : Ring := c.hif.rings.get {} g
def Chip.setRing (c : Chip) (g : Nat) (x : Ring) : Chip := { c with hif := { c.hif with rings := c.hif.rings.set g x } }
def Chip.onRing (c : Chip) (g : Nat) (f : Ring → Ring) : Chip := c.setRing g (f (c.ring g))

def Chip.railGroup (c : Chip) (g : Nat) : RailGroup := c.stew.groups.get {} g
def Chip.onRailGroup (c : Chip) (g : Nat) (f : RailGroup → RailGroup) : Chip :=
  { c with stew := { c.stew with groups := c.stew.groups.set g (f (c.railGroup g)) } }

def Chip.onClk (c : Chip) (f : Clock → Clock) : Chip := { c with clk := f c.clk }
def Chip.onTime (c : Chip) (f : TimeBase → TimeBase) : Chip := { c with time := f c.time }
def Chip.onXng (c : Chip) (f : Xng → Xng) : Chip := { c with xng := f c.xng }
def Chip.onStew (c : Chip) (f : Stew → Stew) : Chip := { c with stew := f c.stew }
def Chip.onSeq (c : Chip) (f : Seq → Seq) : Chip := { c with seq := f c.seq }
def Chip.onHif (c : Chip) (f : Hif → Hif) : Chip := { c with hif := f c.hif }
def Chip.onImg (c : Chip) (f : Img → Img) : Chip := { c with img := f c.img }
def Chip.onBru (c : Chip) (f : Bru → Bru) : Chip := { c with bru := f c.bru }

/-- `n` more auxiliary events of index `i` of Table NRG-2 in this interval: 0 BURST, 1 HIF_LINE, 2 EDGE_FLIT, 3 SEQ_OP,
4 XDMA_LINE. -/
def Chip.countAux (c : Chip) (i n : Nat) : Chip :=
  c.onStew (fun w => { w with auxEvents := w.auxEvents.set i (w.auxEvents.getD i 0 + n) })

/-- `n` more in the running interval of a list of intervals, newest first. -/
def bumpHead (l : List Nat) (n : Nat) : List Nat := match l with | [] => [n] | x :: t => (x + n) :: t

/-- The 72 regions. -/
def allRegions : List Nat := List.range 72

/-- `f` applied to every region of `rs`, in order. -/
def Chip.forRegions (c : Chip) (rs : List Nat) (f : Chip → Nat → Chip) : Chip := rs.foldl f c

/-- The regions whose PARTITION_NOW is `p`. -/
def Chip.regionsOf (c : Chip) (p : Nat) : List Nat := allRegions.filter (fun r => (c.region r).cfg.partition = p)

/-- The members of the gang of region `r` (R75): every region that names the same master. -/
def Chip.gang (c : Chip) (r : Nat) : List Nat :=
  allRegions.filter (fun x => (c.region x).cfg.gangMaster = (c.region r).cfg.gangMaster)

/-- Region `r` is in a gang (R75): it and another region name one master. -/
def Chip.inGang (c : Chip) (r : Nat) : Bool := decide (1 < (c.gang r).length)

/-- The chip runs: its rails are good and no reset holds it. -/
def Chip.running (c : Chip) : Bool := c.powered && !c.held

/-! ## Faults of the chip (R11, R635) and interrupt causes (Table HIF-8) -/

/-- The cause of vector `v` arises: it holds until a message is sent on it (R634). -/
def Chip.cause (c : Chip) (v : Nat) : Chip :=
  c.onHif (fun h => { h with vectors := h.vectors.update {} v (fun x => { x with cause := true }) })

/-- HIF appends fault F-TAG-nn of `inst` to its log of 256 entries and counts it (R635). -/
def Chip.fault (c : Chip) (t : Tag) (nn inst : Nat) : Chip :=
  (c.onHif (fun h =>
    { h with
      log := (⟨codeOf t nn, inst, c.time.epoch⟩ :: h.log).take 256
      faultCount := satAdd 32 h.faultCount 1 })).cause 16

/-- The chip with a fault raised when `b` holds. -/
def Chip.faultIf (c : Chip) (b : Bool) (t : Tag) (nn inst : Nat) : Chip := if b then c.fault t nn inst else c

/-- PWR.STATUS (Table PWR-4). -/
def Chip.powerStatus (c : Chip) : Nat :=
  flag (allRegions.any (fun r => decide ((c.region r).kCap < 16))) +
  2 * flag (allRegions.any (fun r => decide ((c.region r).kTherm < 16))) + 4 * flag c.stew.coolantStop +
  8 * flag c.stew.grantStale + 16 * flag (allRegions.any (fun r => (c.region r).tripped)) + 32 * flag c.stew.floorClipped

/-- The chip `d` that comes of `c`, with the cause of vector 20 when PWR.STATUS has changed (R633). -/
def Chip.noting (c d : Chip) : Chip := if c.powerStatus = d.powerStatus then d else d.cause 20

/-! ## The tray -/

def Tray.slot (t : Tray) (n : Nat) : TraySlot := t.slots.get {} n
def Tray.setSlot (t : Tray) (n : Nat) (x : TraySlot) : Tray := { t with slots := t.slots.set n x }
def Tray.onSlot (t : Tray) (n : Nat) (f : TraySlot → TraySlot) : Tray := t.setSlot n (f (t.slot n))

def Tray.tmc (t : Tray) (x : Side) : Tmc := match x with | .a => t.tmcA | .b => t.tmcB
def Tray.setTmc (t : Tray) (x : Side) (m : Tmc) : Tray :=
  match x with | .a => { t with tmcA := m } | .b => { t with tmcB := m }
def Tray.onTmc (t : Tray) (x : Side) (f : Tmc → Tmc) : Tray := t.setTmc x (f (t.tmc x))

def Tray.trc (t : Tray) (x : Side) : Trc := match x with | .a => t.trcA | .b => t.trcB
def Tray.setTrc (t : Tray) (x : Side) (m : Trc) : Tray :=
  match x with | .a => { t with trcA := m } | .b => { t with trcB := m }

def Tray.nvm (t : Tray) (x : Side) : Nvm := match x with | .a => t.nvmA | .b => t.nvmB
def Tray.setNvm (t : Tray) (x : Side) (m : Nvm) : Tray :=
  match x with | .a => { t with nvmA := m } | .b => { t with nvmB := m }

def Tray.flow (t : Tray) (x : Side) : FlowSensor := match x with | .a => t.flowA | .b => t.flowB
def Tray.setFlow (t : Tray) (x : Side) (m : FlowSensor) : Tray :=
  match x with | .a => { t with flowA := m } | .b => { t with flowB := m }

/-- The epoch of the tray log's entries: the active TMC's, else TMC A's. -/
def Tray.epoch (t : Tray) : Nat := (t.tmc (t.role.getD .a)).time.epoch

/-- The key of a tray fault in force: its CODE and instance. -/
def faultKey (tag : Tag) (nn inst : Nat) : Nat := codeOf tag nn * 65536 + inst

/-- The active TMC appends fault F-TAG-nn of `inst` to the tray log of 1,024 entries (R695). -/
def Tray.fault (t : Tray) (tag : Tag) (nn inst : Nat) : Tray :=
  { t with
    log := (⟨codeOf tag nn, inst, t.epoch⟩ :: t.log).take 1024
    logCount := t.logCount + 1
    inForce := insertOnce t.inForce (faultKey tag nn inst) }

/-- The tray with a fault raised when `b` holds. -/
def Tray.faultIf (t : Tray) (b : Bool) (tag : Tag) (nn inst : Nat) : Tray := if b then t.fault tag nn inst else t

/-- The fault is no longer in force; the log keeps its entry. -/
def Tray.clearFault (t : Tray) (tag : Tag) (nn inst : Nat) : Tray :=
  { t with inForce := removeAll t.inForce (faultKey tag nn inst) }

/-- F-TAG-nn of `inst` is in force. -/
def Tray.faulty (t : Tray) (tag : Tag) (nn inst : Nat) : Bool := t.inForce.contains (faultKey tag nn inst)

/-- Slot `n` is powered or in a power sequence (R41). -/
def TraySlot.counted (x : TraySlot) : Bool :=
  match x.seq with
  | .off => false | .inhibited => false | .poweringUp => true | .on => true | .poweringDown => true

/-- Slot `n` counts for the stop threshold: it is powered or in a power sequence (R41), or its power-up has been requested,
with which the threshold rose (R45), and the controller has not accepted it yet. -/
def TraySlot.needsFlow (x : TraySlot) : Bool := x.counted || (x.seq == .off && x.pendReq == some true)

/-- The slots that count for the stop threshold (R41, R45). -/
def Tray.countedSlots (t : Tray) : Nat := ((List.range 8).filter (fun n => (t.slot n).needsFlow)).length

/-- The active TMC works: it is in its place and its ALIVE has toggled within the last 1 ms (R650, R652). -/
def Tray.tmcActs (t : Tray) : Bool :=
  match t.role with
  | some x => (t.tmc x).present && decide (t.aliveAge < 1000)
  | none => false

/-- The active TMC sets the stop threshold (R41): the per-module flow times the counted slots. With no TMC at work the last
threshold stays (R44). -/
def Tray.setThreshold (t : Tray) : Tray :=
  if t.tmcActs then { t with threshold := t.image.perModule * t.countedSlots } else t

/-! ## Resets of a whole chip (Table BRU-4) -/

/-- The chip held in reset with nothing kept but its flash, its OTP and the level of PERST_N (R235): RESET_CAUSE of
the start that will follow is `cause`. -/
def Chip.wholeReset (c : Chip) (cause : Nat) : Chip :=
  { powered := c.powered, held := true, flash := c.flash, otp := c.otp
    bru := { cause := cause }, hif := { perst := c.hif.perst } }

/-- The chip without power: it keeps its flash and its OTP only. -/
def Chip.unpowered (c : Chip) : Chip := { flash := c.flash, otp := c.otp }

/-- The driven level of MOD_ALERT_N (R703): true when the chip holds it low. -/
def Chip.alert (c : Chip) : Bool :=
  c.running && (c.bru.phase == .recovery || c.bru.phase == .failed ||
    allRegions.any (fun r => (c.region r).tripped) || c.stew.coolantStop)

end Machine

end Sys2Proof
end

