-- ==== Sys2Proof/Machine/Numerics.lean ====
section
/-! DEFINITION. The number formats (Table TIL-4), rounding to nearest-even (R322, R339), the FP32 operations of the
vector unit (R322 to R324) with the five functions, on bit patterns as naturals. Every finite value is a natural
times a power of two, so all but EXP2 and LOG2 are exact before their one rounding. -/

namespace Sys2Proof.Machine

/-! ## Formats -/

/-- A floating-point format: exponent and mantissa widths, bias, whether it has infinities, its largest finite
encoding and its canonical NaN (Table TIL-4). -/
structure FloatFmt where
  ebits : Nat
  mbits : Nat
  bias : Nat
  hasInf : Bool
  maxFin : Nat
  nanBits : Nat

def fp32 : FloatFmt := ⟨8, 23, 127, true, 0x7F7FFFFF, 0x7FC00000⟩
def bf16 : FloatFmt := ⟨8, 7, 127, true, 0x7F7F, 0x7FC0⟩
def e5m2 : FloatFmt := ⟨5, 2, 15, true, 0x7B, 0x7E⟩
def e4m3 : FloatFmt := ⟨4, 3, 7, false, 0x7E, 0x7F⟩

/-- The sign bit's weight. -/
def FloatFmt.signBit (f : FloatFmt) : Nat := 2 ^ (f.ebits + f.mbits)

/-- The encoding of infinity, in a format that has it. -/
def FloatFmt.infBits (f : FloatFmt) : Nat := (2 ^ f.ebits - 1) * 2 ^ f.mbits

/-- A decoded number: not a number, an infinity, or `mag × 2^exp` with a sign. -/
inductive Num where
  | nan
  | inf (neg : Bool)
  | fin (neg : Bool) (mag : Nat) (exp : Int)
deriving DecidableEq, Repr

/-- The value of an encoding (R330, R331). E4M3 has no infinity: only its all-ones patterns are NaN. -/
def decodeFloat (f : FloatFmt) (v : Nat) : Num :=
  let neg := decide (f.signBit ≤ v % (2 * f.signBit))
  let e := field v f.mbits f.ebits
  let m := field v 0 f.mbits
  let top := 2 ^ f.ebits - 1
  if f.hasInf && e == top then (if m = 0 then .inf neg else .nan)
  else if !f.hasInf && e == top && m == 2 ^ f.mbits - 1 then .nan
  else
    let base : Int := 1 - (f.bias : Int) - (f.mbits : Int)
    if e = 0 then .fin neg m base else .fin neg (2 ^ f.mbits + m) (base + (e : Int) - 1)

/-- Bits of a natural number. -/
def bitLen (n : Nat) : Nat := if n = 0 then 0 else Nat.log2 n + 1

/-- `mag × 2^exp` (a little more when `sticky`) rounded to nearest-even in format `f` with unbounded exponent range,
subnormals kept (R339 step 3): the encoding without its sign, which exceeds `maxFin` on overflow. -/
def roundMag (f : FloatFmt) (mag : Nat) (exp : Int) (sticky : Bool) : Nat :=
  if mag = 0 then 0
  else
    let emin : Int := 1 - (f.bias : Int) - (f.mbits : Int)
    let e : Int := max emin (exp + (bitLen mag : Int) - ((f.mbits : Int) + 1))
    let m : Nat :=
      if e ≤ exp then mag * 2 ^ (exp - e).toNat
      else
        let s := (e - exp).toNat
        let q := mag / 2 ^ s
        let twice := 2 * (mag % 2 ^ s)
        let up := decide (2 ^ s < twice) || (twice == 2 ^ s && (sticky || q % 2 == 1))
        if up then q + 1 else q
    (e - emin).toNat * 2 ^ f.mbits + m

/-- `mag × 2^exp` rounded to nearest-even to an integer. -/
def roundInt (mag : Nat) (exp : Int) : Nat :=
  if 0 ≤ exp then mag * 2 ^ exp.toNat
  else
    let s := (-exp).toNat
    let q := mag / 2 ^ s
    let twice := 2 * (mag % 2 ^ s)
    if 2 ^ s < twice || (twice == 2 ^ s && q % 2 == 1) then q + 1 else q

/-- Signed integer value of a finite number at scale `e`: `± mag × 2^(exp − e)` for `e ≤ exp`. -/
def scaled (neg : Bool) (mag : Nat) (exp e : Int) : Int :=
  let v : Int := ((mag * 2 ^ (exp - e).toNat : Nat) : Int)
  if neg then -v else v

/-! ## FP32 results (R322) -/

/-- A finite result in FP32: overflow gives the correctly signed infinity. -/
def fp32Of (neg : Bool) (mag : Nat) (exp : Int) (sticky : Bool) : Nat :=
  let b := roundMag fp32 mag exp sticky
  (if fp32.maxFin < b then fp32.infBits else b) + (if neg then fp32.signBit else 0)

/-- Any number as FP32 bits. -/
def fp32Bits (x : Num) : Nat :=
  match x with
  | .nan => fp32.nanBits
  | .inf neg => fp32.infBits + (if neg then fp32.signBit else 0)
  | .fin neg m e => fp32Of neg m e false

/-- The exact sum of two numbers; opposite infinities give NaN, and `zero` is the sign of a zero that cancellation
leaves. -/
def addNum (x y : Num) (zero : Bool) : Num :=
  match x, y with
  | .nan, _ => .nan
  | _, .nan => .nan
  | .inf a, .inf b => if a = b then .inf a else .nan
  | .inf a, .fin _ _ _ => .inf a
  | .fin _ _ _, .inf b => .inf b
  | .fin sa ma ea, .fin sb mb eb =>
    if ma = 0 && mb = 0 then .fin (if sa = sb then sa else zero) 0 0
    else
      let e := min ea eb
      let v := scaled sa ma ea e + scaled sb mb eb e
      if v = 0 then .fin zero 0 0 else .fin (decide (v < 0)) v.natAbs e

/-- The exact product of two numbers (R332 for its specials). -/
def mulNum (x y : Num) : Num :=
  match x, y with
  | .nan, _ => .nan
  | _, .nan => .nan
  | .inf a, .inf b => .inf (a != b)
  | .inf a, .fin b m _ => if m = 0 then .nan else .inf (a != b)
  | .fin a m _, .inf b => if m = 0 then .nan else .inf (a != b)
  | .fin a ma ea, .fin b mb eb => .fin (a != b) (ma * mb) (ea + eb)

/-- The number with its sign reversed. -/
def negNum (x : Num) : Num :=
  match x with | .nan => .nan | .inf s => .inf (!s) | .fin s m e => .fin (!s) m e

/-- An FP32 operand. -/
def num32 (v : Nat) : Num := decodeFloat fp32 v

def fadd (a b : Nat) : Nat := fp32Bits (addNum (num32 a) (num32 b) (Config.zeroSign 0x20 a b 0))
def fsub (a b : Nat) : Nat := fp32Bits (addNum (num32 a) (negNum (num32 b)) (Config.zeroSign 0x21 a b 0))
def fmul (a b : Nat) : Nat := fp32Bits (mulNum (num32 a) (num32 b))
def ffma (a b c : Nat) : Nat :=
  fp32Bits (addNum (mulNum (num32 a) (num32 b)) (num32 c) (Config.zeroSign 0x23 a b c))

/-- The place of an FP32 number in the order of R323, −0 below +0: its magnitude bits, counted down for negatives. -/
def order32 (v : Nat) : Int :=
  if v % 2 ^ 32 < 2 ^ 31 then (v : Int) else -1 - ((v % 2 ^ 31 : Nat) : Int)

def isNan32 (v : Nat) : Bool := num32 v == .nan

def fmin (a b : Nat) : Nat :=
  if isNan32 a || isNan32 b then fp32.nanBits else if order32 a ≤ order32 b then a else b
def fmax (a b : Nat) : Nat :=
  if isNan32 a || isNan32 b then fp32.nanBits else if order32 b ≤ order32 a then a else b

/-- FCMPLT (R323): zeros are equal, a NaN gives 0. -/
def fcmplt (a b : Nat) : Nat :=
  if isNan32 a || isNan32 b then 0
  else if a % 2 ^ 31 = 0 && b % 2 ^ 31 = 0 then 0
  else if order32 a < order32 b then 1 else 0

/-! ## Roots and quotients -/

/-- The integer square root of `n`, bit by bit from bit `i − 1` down. -/
def isqrtFrom (i n r : Nat) : Nat :=
  match i with
  | 0 => r
  | j + 1 => let t := r + 2 ^ j
             isqrtFrom j n (if t * t ≤ n then t else r)

def isqrt (n : Nat) : Nat := isqrtFrom (bitLen n / 2 + 1) n 0

/-- RECIP of an FP32 number (R322). -/
def frecip (a : Nat) : Nat :=
  match num32 a with
  | .nan => fp32.nanBits
  | .inf neg => fp32Of neg 0 0 false
  | .fin neg m e =>
    if m = 0 then Config.fpOpen 0x27 a % 2 ^ 32
    else fp32Of neg (2 ^ 100 / m) (-100 - e) (decide (2 ^ 100 % m ≠ 0))

/-- SQRT of an FP32 number (R322). -/
def fsqrt (a : Nat) : Nat :=
  match num32 a with
  | .nan => fp32.nanBits
  | .inf neg => if neg then Config.fpOpen 0x29 a % 2 ^ 32 else fp32.infBits
  | .fin neg m e =>
    if m = 0 then fp32Of (neg && Config.zeroSign 0x29 a 0 0) 0 0 false
    else if neg then Config.fpOpen 0x29 a % 2 ^ 32
    else
      let m1 := if e % 2 = 0 then m * 2 ^ 100 else m * 2 ^ 101
      let e1 := if e % 2 = 0 then e - 100 else e - 101
      let q := isqrt m1
      fp32Of false q (e1 / 2) (decide (q * q ≠ m1))

/-- RSQRT of an FP32 number (R322). -/
def frsqrt (a : Nat) : Nat :=
  match num32 a with
  | .nan => fp32.nanBits
  | .inf neg => if neg then Config.fpOpen 0x28 a % 2 ^ 32 else 0
  | .fin neg m e =>
    if m = 0 || neg then Config.fpOpen 0x28 a % 2 ^ 32
    else
      let m1 := if e % 2 = 0 then m else 2 * m
      let e1 := if e % 2 = 0 then e else e - 1
      let n := 2 ^ 160 / m1
      let q := isqrt n
      fp32Of false q (-80 - e1 / 2) (decide (q * q * m1 ≠ 2 ^ 160))

/-! ## EXP2 and LOG2 (R322), to 200 fractional bits before their rounding (log entry 13) -/

/-- Fractional bits of the working precision. -/
def fracBits : Nat := 200

/-- ln 2 × 2^200, rounded down. -/
def ln2Fixed : Nat := 0xB17217F7D1CF79ABC9E3B39803F2F6AF40F343267298B62D8A

/-- The sum of `t × y^j / j!` from term `j` on, in fixed point, `fuel` terms. -/
def expTerms (fuel j t y : Nat) : Nat :=
  match fuel with
  | 0 => 0
  | n + 1 => t + expTerms n (j + 1) (t * y / 2 ^ fracBits / (j + 1)) y

/-- 2^f in fixed point for the fraction f = `x` / 2^200, x below 2^200. -/
def exp2Fixed (x : Nat) : Nat := expTerms 64 0 (2 ^ fracBits) (x * ln2Fixed / 2 ^ fracBits)

/-- EXP2 of an FP32 number: a whole exponent is exact, every other result is irrational. -/
def fexp2 (a : Nat) : Nat :=
  match num32 a with
  | .nan => fp32.nanBits
  | .inf neg => if neg then 0 else fp32.infBits
  | .fin neg m e =>
    if m = 0 then fp32Of false 1 0 false
    else
      let x : Int := if 8 ≤ e then (if neg then -1000 else 1000) * 2 ^ fracBits
        else scaled neg m (max e (-180)) (-(fracBits : Int))
      if e < -180 then fp32Of false 1 0 false
      else
        let k := x / 2 ^ fracBits
        let f := (x % 2 ^ fracBits).toNat
        if 200 ≤ k then fp32.infBits
        else if k ≤ -200 then 0
        else if f = 0 then fp32Of false 1 k false
        else fp32Of false (exp2Fixed f) (k - (fracBits : Int)) true

/-- The binary digits of log2 of the mantissa `x` / 2^400 in [1, 2), by repeated squaring: `n` digits after `acc`. -/
def log2Digits (n x acc : Nat) : Nat :=
  match n with
  | 0 => acc
  | k + 1 =>
    let s := x * x / 2 ^ 400
    if s < 2 ^ 401 then log2Digits k s (2 * acc) else log2Digits k (s / 2) (2 * acc + 1)

/-- LOG2 of an FP32 number: a power of two is exact, every other result is irrational. -/
def flog2 (a : Nat) : Nat :=
  match num32 a with
  | .nan => fp32.nanBits
  | .inf neg => if neg then Config.fpOpen 0x2B a % 2 ^ 32 else fp32.infBits
  | .fin neg m e =>
    if m = 0 || neg then Config.fpOpen 0x2B a % 2 ^ 32
    else
      let n := bitLen m - 1
      let k : Int := e + (n : Int)
      if m = 2 ^ n then
        (if k = 0 then fp32Of (Config.zeroSign 0x2B a 0 0) 0 0 false else fp32Of (decide (k < 0)) k.natAbs 0 false)
      else
        let d := log2Digits 128 (m * 2 ^ (400 - n)) 0
        let v : Int := k * 2 ^ 128 + (d : Int)
        let w : Int := if v < 0 then v + 1 else v
        fp32Of (decide (v < 0)) (if v < 0 then (2 * w.natAbs + 1) else 2 * v.natAbs + 1) (-129) true

/-! ## Lane reductions (R324) -/

/-- One round of pairing: element 2i with element 2i + 1. -/
def pairUp (f : Nat → Nat → Nat) (l : List Nat) : List Nat :=
  match l with
  | a :: b :: t => f a b :: pairUp f t
  | [a] => [a]
  | [] => []

/-- The reduction of 64 lanes in six rounds. -/
def reduceLanes (f : Nat → Nat → Nat) (l : List Nat) : Nat :=
  (pairUp f (pairUp f (pairUp f (pairUp f (pairUp f (pairUp f l)))))).headD 0

end Sys2Proof.Machine
end

