-- ==== Sys2Proof/Machine/Flags.lean ====
section
/-! DEFINITION. Every flag computation of the tile (Table TIL-8): output formation with its special values (R339 to
R342, Table TIL-5), conversions (R343, Table TIL-6), accumulators (R328, R332 to R338) and exact records with their
combines (R344 to R346, R740). -/

namespace Sys2Proof.Machine

/-! ## TIL.FLAGS -/

def flInexact : Nat := 1
def flNan : Nat := 2
def flOverflow : Nat := 4
def flIntSat : Nat := 8
def flAccRange : Nat := 16
def flMismatch : Nat := 32

/-- The OR of two flag sets. -/
def orFlags (a b : Nat) : Nat := Nat.lor a b

/-- A value with the flags its output raised. -/
structure Outcome where
  bits : Nat
  flags : Nat := 0
deriving DecidableEq, Repr

/-- A number written in a floating-point format (R339 to R342). -/
def outFloat (f : FloatFmt) (sat : Bool) (x : Num) : Outcome :=
  match x with
  | .nan => ⟨f.nanBits, flNan⟩
  | .inf neg => ⟨(if f.hasInf then f.infBits else f.maxFin) + (if neg then f.signBit else 0), 0⟩
  | .fin neg m e =>
    let s := if neg then f.signBit else 0
    let b := roundMag f m e false
    if f.maxFin < b then ⟨(if sat || !f.hasInf then f.maxFin else f.infBits) + s, flOverflow⟩ else ⟨b + s, 0⟩

/-- A number written as an `n`-bit integer (R341, R343): clamped, INT_SAT for a clamp, an infinity or a NaN. -/
def outInt (n : Nat) (x : Num) : Outcome :=
  let top : Int := 2 ^ (n - 1) - 1
  let low : Int := -(2 ^ (n - 1))
  match x with
  | .nan => ⟨0, flIntSat⟩
  | .inf neg => ⟨unsigned n (if neg then low else top), flIntSat⟩
  | .fin neg m e =>
    let v : Int := if neg then -((roundInt m e : Nat) : Int) else ((roundInt m e : Nat) : Int)
    if top < v then ⟨unsigned n top, flIntSat⟩ else if v < low then ⟨unsigned n low, flIntSat⟩ else ⟨unsigned n v, 0⟩

/-! ## Conversions (R343): format codes of CONVERT -/

/-- Bytes of an element: 0 INT8, 1 E4M3, 2 E5M2, 3 BF16, 4 FP32, 5 INT32. -/
def elemBytes (fmt : Nat) : Nat := if fmt ≤ 2 then 1 else if fmt = 3 then 2 else 4

/-- An integer as a number. -/
def numOfInt (v : Int) : Num := .fin (decide (v < 0)) v.natAbs 0

/-- An element decoded. -/
def decodeElem (fmt v : Nat) : Num :=
  match fmt with
  | 0 => numOfInt (signed 8 (v % 256))
  | 1 => decodeFloat e4m3 v
  | 2 => decodeFloat e5m2 v
  | 3 => decodeFloat bf16 v
  | 4 => decodeFloat fp32 v
  | _ => numOfInt (signed 32 (v % 2 ^ 32))

/-- An element encoded. -/
def encodeElem (fmt : Nat) (sat : Bool) (x : Num) : Outcome :=
  match fmt with
  | 0 => outInt 8 x
  | 1 => outFloat e4m3 sat x
  | 2 => outFloat e5m2 sat x
  | 3 => outFloat bf16 sat x
  | 4 => outFloat fp32 sat x
  | _ => outInt 32 x

/-- The pairs of Table TIL-6. -/
def convertible (src dst : Nat) : Bool :=
  match src, dst with
  | 1, 4 => true | 2, 4 => true | 3, 4 => true
  | 1, 3 => true | 2, 3 => true
  | 0, 5 => true | 0, 4 => true | 0, 3 => true
  | 4, 3 => true | 4, 2 => true | 4, 1 => true
  | 3, 2 => true | 3, 1 => true
  | 2, 1 => true | 1, 2 => true
  | 4, 0 => true | 4, 5 => true
  | 5, 4 => true
  | _, _ => false

/-- One conversion. -/
def convertElem (src dst : Nat) (sat : Bool) (v : Nat) : Outcome := encodeElem dst sat (decodeElem src v)

/-! ## Accumulators -/

/-- The family of a matrix format (R325): 0 INT8, 1 FP8, 2 BF16. -/
def familyOf (fmt : Nat) : Nat := if fmt = 0 then 0 else if fmt = 3 then 2 else 1

/-- The cleared accumulator with its anchor (R337). -/
def Accum.clear (anchor : Int) : Accum := { anchor := anchor }

/-- One more product counted (R328, R740). -/
def Accum.counted (a : Accum) : Accum := { a with count := satAdd 32 a.count 1 }

/-- A product that R332 diverts: NaN or an infinity of its sign. -/
def Accum.special (a : Accum) (x : Num) : Accum :=
  match x with
  | .nan => { a with nan := true }
  | .inf neg => if neg then { a with negInf := true } else { a with posInf := true }
  | .fin _ _ _ => a

/-- The adjusted exponent ê of a BF16 number decoded with `exp` (Table TIL-4): ê − 134 is the exponent. -/
def adjExp (exp : Int) : Int := exp + 134

/-- One product enters the accumulator of a family (R332 to R334, R338); `ma` and `mb` are the maxima of R336. -/
def Accum.add (acc : Accum) (family : Nat) (ma mb : Int) (x y : Num) : Accum :=
  match x, y with
  | .fin sa pa ea, .fin sb pb eb =>
    if family = 0 then { acc.counted with w := acc.w + scaled (sa != sb) (pa * pb) (ea + eb) 0 }
    else if family = 1 then { acc.counted with w := acc.w + scaled (sa != sb) (pa * pb) (ea + eb) (-32) }
    else
      let p := pa * pb
      let sh := (ma - adjExp ea) + (mb - adjExp eb) - 208
      let m := if sh ≤ 0 then p * 2 ^ (-sh).toNat else p / 2 ^ sh.toNat
      let lost := decide (0 < sh) && decide (p % 2 ^ sh.toNat ≠ 0)
      { acc.counted with
        w := if sa != sb then acc.w - (m : Int) else acc.w + (m : Int), inexact := acc.inexact || lost }
  | _, _ => acc.counted.special (mulNum x y)

/-- The value of an accumulator (R339 steps 1 and 2, R328, R340) times 2^scale. -/
def Accum.num (a : Accum) (family : Nat) (scale : Int) : Num :=
  if a.nan || (a.posInf && a.negInf) || decide (2 ^ 31 < a.count) then .nan
  else if a.posInf then .inf false
  else if a.negInf then .inf true
  else
    let l : Int := if family = 0 then 0 else if family = 1 then -32 else a.anchor - 476
    .fin (decide (a.w < 0)) a.w.natAbs (l + scale)

/-- A MATRIX output in OUT_FMT 0 FP32, 1 BF16, 2 E5M2, 3 E4M3, 4 INT8 (Table OPS-5). -/
def Accum.output (a : Accum) (family outFmt : Nat) (scale : Int) (sat : Bool) : Outcome :=
  let x := a.num family scale
  match outFmt with
  | 0 => outFloat fp32 sat x
  | 1 => outFloat bf16 sat x
  | 2 => outFloat e5m2 sat x
  | 3 => outFloat e4m3 sat x
  | _ => outInt 8 x

/-! ## Exact records (R344 to R346, R740) -/

/-- An exact record's fields (Table TIL-7); `high` is SPECIAL [7:4] and `tail` the number in bytes 40 to 63. -/
structure Rec where
  value : Int := 0
  anchor : Int := 0
  form : Nat := 0
  nan : Bool := false
  posInf : Bool := false
  negInf : Bool := false
  inexact : Bool := false
  high : Nat := 0
  count : Nat := 0
  tail : Nat := 0
deriving DecidableEq, Repr

/-- The record in 64 bytes. -/
def Rec.ofBytes (bs : List Byte) : Rec :=
  let f := fun (o n : Nat) => leNat ((bs.drop o).take n)
  let sp := f 35 1
  { value := signed 256 (f 0 32), anchor := signed 16 (f 32 2), form := f 34 1
    nan := bit sp 0, posInf := bit sp 1, negInf := bit sp 2, inexact := bit sp 3, high := sp / 16
    count := f 36 4, tail := f 40 24 }

/-- The 64 bytes of a record. -/
def Rec.bytes (x : Rec) : List Byte :=
  natLE 32 (unsigned 256 x.value) ++ natLE 2 (unsigned 16 x.anchor) ++ natLE 1 x.form ++
  natLE 1 (flag x.nan + 2 * flag x.posInf + 4 * flag x.negInf + 8 * flag x.inexact + 16 * x.high) ++
  natLE 4 x.count ++ natLE 24 x.tail

/-- A record in the form the spec defines: FORM 0 to 2, no reserved bit (R345). -/
def Rec.clean (x : Rec) : Bool := decide (x.form ≤ 2) && x.high == 0 && x.tail == 0

/-- A combine of `inc` into `area` (R345, R740) with the flags it raises. -/
def combineRec (area inc : Rec) : Rec × Nat :=
  let count := satAdd 32 area.count inc.count
  let tooMany := decide (2 ^ 31 < count)
  let good := area.form == inc.form && area.anchor == inc.anchor && area.clean && inc.clean
  let out : Rec :=
    { area with
      value := if good then area.value + inc.value else area.value
      nan := area.nan || inc.nan || tooMany || !good, posInf := area.posInf || inc.posInf, negInf := area.negInf || inc.negInf
      inexact := area.inexact || inc.inexact, high := 0, count := count, tail := 0 }
  (out, (if good then 0 else flMismatch) + (if tooMany then flAccRange else 0))

/-- The record an accumulator writes (R344, R328, R740). -/
def Accum.toRec (a : Accum) (family : Nat) : Rec :=
  { value := a.w, anchor := if family = 2 then a.anchor else 0, form := family
    nan := a.nan || decide (2 ^ 31 < a.count), posInf := a.posInf, negInf := a.negInf, inexact := a.inexact, count := a.count }

/-- A record loaded into an accumulator of a family with the operation's anchor (R346): whole when it matches, else
the cleared state with the record's count and special bits, NAN set, and COMBINE_MISMATCH. -/
def Rec.load (x : Rec) (family : Nat) (anchor : Int) : Accum × Nat :=
  if x.clean && x.form == family && (family != 2 || x.anchor == anchor) then
    ({ w := x.value, nan := x.nan, posInf := x.posInf, negInf := x.negInf, inexact := x.inexact, count := x.count, anchor := anchor }, 0)
  else
    ({ nan := true, posInf := x.posInf, negInf := x.negInf, inexact := x.inexact, count := x.count, anchor := anchor }, flMismatch)

/-- MAX_U32 of two records (R396): the unsigned maximum of each 32-bit word. -/
def maxWords (n : Nat) (a b : List Byte) : List Byte :=
  match n with
  | 0 => []
  | k + 1 => natLE 4 (max (leNat (a.take 4)) (leNat (b.take 4))) ++ maxWords k (a.drop 4) (b.drop 4)

end Sys2Proof.Machine
end

