-- ==== Sys2Proof/Machine/TimeOps.lean ====
section
/-! DEFINITION. The epoch counter of a chip or a TMC (R92 to R104, R144, R728): an epoch boundary, a PPS edge, an epoch
load. -/

namespace Sys2Proof.Machine

/-- Epochs between two second boundaries (R95). -/
def second : Nat := 1000000

/-- An epoch boundary (R93, R94): the ticks of the epoch pass, the number advances by one. A second boundary takes the
length that Table CLK-1 scheduled and a load that waits for it (R96); the second number is the shift of that load
(R728). Two epochs later the boundary's PPS edge is judged (R101), when `counts` holds. -/
def TimeBase.boundary (t : TimeBase) (counts : Bool) : TimeBase × Nat :=
  let tick := t.tick + (t.len - t.pos)
  let e := t.epoch + 1
  let isSecond := e % second = 0
  let e' := if isSecond then t.loadDue.getD e else e
  let t1 : TimeBase :=
    if isSecond then
      { t with
        tick := tick, epoch := e', pos := 0, hold := 0, len := (100 + t.corr).toNat, corr := 0
        secTick := tick, loadDue := none, fresh := false }
    else { t with tick := tick, epoch := e', pos := 0, hold := 0, len := 100 }
  let t2 :=
    if e % second = 2 then
      { t1 with
        missing := if counts && t1.aligned && !t1.fresh then (if t1.accepted then 0 else t1.missing + 1) else 0
        accepted := false }
    else t1
  (t2, e' - e)

/-- What a PPS edge does to the counter. -/
structure EdgeEffect where
  time : TimeBase
  stepped : Bool := false              -- a forward step (R102, R144)
  moved : Nat := 0                     -- the shift of a load that applies at the edge (R728)
  realigned : Bool := false            -- F-CLK-06
  refused : Bool := false              -- F-CLK-12

/-- The counter stepped forward so that the edge starts epoch `e` (R102, R144). -/
def TimeBase.stepTo (t : TimeBase) (e : Nat) : TimeBase :=
  { t with epoch := e, pos := 0, len := 100, corr := 0, secTick := t.tick, loadDue := none, fresh := false }

/-- The edge is accepted (R101): the run ends and the count of missing boundaries restarts from zero. `open_` says that the second
boundary that the edge belongs to is still to be judged: it is not missing. -/
def TimeBase.accept (t : TimeBase) (open_ : Bool) : TimeBase :=
  { t with runLen := 0, missing := 0, accepted := open_, lost := false }

/-- An armed load at an accepted edge measured from second boundary `sn` (R96, R97, R98). -/
def TimeBase.tryLoad (t : TimeBase) (sn : Nat) (stepped realigned : Bool) : EdgeEffect :=
  if !t.arm then { time := t, stepped := stepped, realigned := realigned }
  else if t.load % second ≠ 0 || t.load < sn then
    { time := { t with arm := false }, stepped := stepped, realigned := realigned, refused := true }
  else if t.epoch < sn then
    { time := { t with arm := false, valid := true, loadDue := some t.load }, stepped := stepped, realigned := realigned }
  else
    { time := { t with arm := false, valid := true, epoch := t.epoch + (t.load - sn) }
      stepped := stepped, realigned := realigned, moved := t.load - sn }

/-- The offset d of an edge now and the second boundary it is measured from: the nearest, the earlier when halfway. -/
def TimeBase.offsetNow (t : TimeBase) : Int × Nat :=
  let lo := t.epoch / second * second
  let toHi : Nat := (t.len - t.pos) + (lo + second - t.epoch - 1) * 100
  let dl := t.tick - t.secTick
  if dl ≤ toHi then ((dl : Int), lo) else (-(toHi : Int), lo + second)

/-- A rising edge of the selected PPS line at tick `pos` of the epoch (R100, R102, R137, R144, Table CLK-1). The offset is computed
for each edge, the one that aligns the counter too (DEDUCED: Table CLK-1 is that of an aligned counter, log entry 36). -/
def TimeBase.edge (t : TimeBase) (pos : Nat) : EdgeEffect :=
  if 0 < t.hold then { time := t }
  else
    let t0 := { t with tick := t.tick + (pos - t.pos), pos := pos }
    if !t.aligned then
      let sn := (t0.epoch / second + 1) * second
      let d := t0.offsetNow.1
      ((({ t0 with aligned := true, offset := max (-32767) (min 32767 d) }).stepTo sn).accept true).tryLoad sn true true
    else
      let (d, sn) := t0.offsetNow
      let t1 := { t0 with offset := max (-32767) (min 32767 d) }
      if -100 ≤ d && d ≤ 100 then
        let t2 := { t1 with corr := if 2 ≤ d then 1 else if d ≤ -2 then -1 else t1.corr }
        (t2.accept true).tryLoad sn false false
      else
        let cont := decide (0 < t1.runLen) && sn == t1.runSec + second && decide ((d - t1.runOff).natAbs ≤ 1)
        let n := if cont then t1.runLen + 1 else 1
        if n < 3 then
          { time := { t1 with runLen := n, runSec := sn, runOff := d, spurious := satAdd 32 t1.spurious 1 } }
        else if d < 0 then ((t1.stepTo sn).accept true).tryLoad sn true true
        else
          let t2 := { t1 with hold := d.toNat, len := t1.len + d.toNat, corr := 0 }
          (t2.accept (decide (t2.epoch % second < 2))).tryLoad sn false true

/-- A write of 1 to the arm bit (R96, R98): true when it is refused. -/
def TimeBase.armLoad (t : TimeBase) : TimeBase × Bool :=
  if t.valid || t.load % second ≠ 0 then ({ t with arm := false }, true) else ({ t with arm := true }, false)

end Sys2Proof.Machine
end

