-- ==== Sys2Proof/Machine/ClockOps.lean ====
section
/-! DEFINITION. The reference selection (R129 to R134) and the regional generators (R108 to R114, R119, R730): the
operations that the clock commands share. -/

namespace Sys2Proof.Machine

/-! ## References -/

/-- REFA or REFB. -/
def Clock.refOf (c : Clock) (x : Side) : RefMon := match x with | .a => c.refA | .b => c.refB
def Clock.setRef (c : Clock) (x : Side) (m : RefMon) : Clock :=
  match x with | .a => { c with refA := m } | .b => { c with refB := m }

/-- REF_SEL names reference `x`. -/
def Clock.selects (c : Clock) (x : Side) : Bool := c.refSel == x.ix

/-- Reference `n` (a REF_SEL code) is qualified. -/
def Clock.qualified (c : Clock) (n : Nat) : Bool := if n = 0 then c.refA.ok else if n = 1 then c.refB.ok else false

/-- Reference `n` is selected and the ref PLL relocks to it (R129, R130, R134): REF_LOCKED falls until it has locked. -/
def Clock.select (c : Clock) (n : Nat) (commanded leaving : Bool) : Clock :=
  { c with refSel := n, refLocked := false, relock := true, commanded := commanded, leaving := leaving
           switchTo := none, freqHold := false, holdEpochs := 0 }

/-- The 100-epoch frequency hold starts (R129). A hold in progress goes on. -/
def Clock.beginHold (c : Clock) : Clock :=
  if c.freqHold then c else { c with freqHold := true, holdEpochs := 0, relock := false, switchTo := none }

/-- The preferred reference of the two when it is qualified, else the other when that is qualified (R142, R132). -/
def Clock.candidate (c : Clock) (prefer : Nat) : Option Nat :=
  if c.qualified prefer then some prefer else if c.qualified (1 - prefer) then some (1 - prefer) else none

/-- 64 periods in a row, newest first, with a high time outside 45 to 55 % of the period, in permille (Table CLK-6). -/
def dutyFails (duty : List Nat) : Bool :=
  decide (64 ≤ duty.length) && (duty.take 64).all (fun p => decide (p < 450) || decide (550 < p))

/-- Eight epochs in a row, newest first, each with more than 16 period changes above 1/32 of nominal (Table CLK-6). -/
def jitterFails (changes : List Nat) : Bool := decide (8 ≤ changes.length) && (changes.take 8).all (fun n => decide (16 < n))

/-- No reference is qualified while the start waits for one (R143, R257): in phase REF, and later while a generator that is to
start is OFF. -/
def Chip.seeking (c : Chip) : Bool :=
  let waits := match c.bru.phase with
    | .ref => true
    | .clocks => true | .memory => true | .selftest => true | .config => true
    | .held => false | .otp => false | .spine => false | .image => false | .ready => false | .recovery => false | .failed => false
  waits && !c.clk.refA.ok && !c.clk.refB.ok &&
    (c.bru.phase == .ref || allRegions.any (fun r => (c.gen r).state == .off && !(c.region r).cfg.retire))

/-- Reference `line` is no longer valid (R127, R129, R134): F-CLK-01 or 02, its qualification lost. When it is the selected one
the frequency hold starts, or, on the way out of holdover, the other reference is taken if it is qualified. -/
def Chip.referenceInvalid (c : Chip) (line : Side) : Chip :=
  let m := c.clk.refOf line
  let c1 := c.onClk (fun q => q.setRef line { m with valid := false, ok := false, clean := 0, windows := 0, badWindow := false })
  let c2 := c1.faultIf m.valid .clk (match line with | .a => 1 | .b => 2) noInstance
  let c3 := c2.onClk (fun q =>
    if !(q.selects line) then q
    else if q.leaving then { q with refSel := 3, refLocked := false, relock := false, leaving := false }
    else q.beginHold)
  let again := c.clk.leaving && c3.clk.refSel == 3
  let c4 := match c3.clk.candidate c3.img.nowC.prefer with
    | some n => if again then c3.onClk (fun q => q.select n false true) else c3
    | none => c3
  if c4.clk.refSel = c.clk.refSel then c4 else c4.cause 19

/-- The line of reference `x` toward the chip is driven or no longer driven (R26, Table TRY-5). A line that goes dead is found
within 40 ns (Table CLK-6); one that comes back has clean time from then on. -/
def Chip.setLine (c : Chip) (x : Side) (on : Bool) : Chip :=
  let m := c.clk.refOf x
  if m.live = on then c
  else if on then c.onClk (fun q => q.setRef x { m with live := true, clean := 0, windows := 0, badWindow := false })
  else (c.onClk (fun q => q.setRef x { m with live := false })).referenceInvalid x

/-! ## Generator cycles and ledgers -/

/-- The state whose clock region `r` receives: its own generator's, or its gang master's while it is SLAVED (R113). -/
def Chip.clockState (c : Chip) (r : Nat) : GenState :=
  if (c.gen r).state = .slaved then (c.gen (c.region r).cfg.gangMaster).state else (c.gen r).state

/-- The generator whose output clocks region `r`: its own, or its gang master's while it is SLAVED (R120). -/
def Chip.clockGen (c : Chip) (r : Nat) : Gen :=
  if (c.gen r).state = .slaved then c.gen (c.region r).cfg.gangMaster else c.gen r

/-- Region `r`'s clock runs (R113). -/
def Chip.clockRuns (c : Chip) (r : Nat) : Bool :=
  match c.clockState r with
  | .off => false | .halted => false | .slaved => false
  | .cal => true | .locking => true | .locked => true | .slew => true | .frozen => true

/-- The generator of `r`, or its master's, is LOCKED; FROZEN in holdover counts (R734). -/
def Chip.lockedFor (c : Chip) (r : Nat) : Bool :=
  match c.clockState r with
  | .locked => true | .frozen => c.clk.holdover
  | .off => false | .halted => false | .slaved => false | .cal => false | .locking => false | .slew => false

/-- Region `r`'s clock has run throughout the epoch that ends (R181). -/
def Chip.ranThroughout (c : Chip) (r : Nat) : Bool := c.clockRuns r && !(c.gen r).stopped && !(c.clockGen r).stopped

/-- The guard minimum 80/(M + 2) ns in femtoseconds, rounded toward the longer period (R106, R107). -/
def guardFor (m : Nat) : Nat := ceilDiv 80000000 (m + 2)

/-- The cycles that a generator gives in `ticks` ticks: the `n` counted, and never more than its guard lets through (R106). -/
def Gen.guarded (g : Gen) (ticks n : Nat) : Nat := min n (10000000 * ticks / g.guardFs)

/-- The ledger over `ticks` ticks in which the clock came from a generator in state `st` and produced `n` cycles (R113). -/
def Gen.ledger (g : Gen) (st : GenState) (m ticks n : Nat) : Gen :=
  match st with
  | .off => g
  | .halted => g
  | .slaved => g
  | .cal => { g with nominal8 := satAdd 64 g.nominal8 (8 * n), actual := satAdd 64 g.actual n }
  | .slew => { g with nominal8 := satAdd 64 g.nominal8 (8 * n), actual := satAdd 64 g.actual n }
  | .locking => { g with nominal8 := satAdd 64 g.nominal8 (m * ticks), actual := satAdd 64 g.actual n }
  | .locked => { g with nominal8 := satAdd 64 g.nominal8 (m * ticks), actual := satAdd 64 g.actual n }
  | .frozen => { g with nominal8 := satAdd 64 g.nominal8 (m * ticks), actual := satAdd 64 g.actual n }

/-- Twice the cycle count less 25 M: the error in half-cycles (R110). -/
def halfCycles (m n : Nat) : Int := 2 * (n : Int) - 25 * (m : Int)

/-- The FLL update of R110 on an epoch that is not blind. -/
def Gen.fll (g : Gen) (m n : Nat) : Gen :=
  let acc := clampSigned 16 (g.acc + halfCycles m n)
  if 4 ≤ acc then { g with code := min (g.code + 1) 4095, acc := acc - 4 }
  else if acc ≤ -4 then { g with code := g.code - 1, acc := acc + 4 }
  else { g with acc := acc }

/-- The runs of Table CLK-4 over epochs that the FLL does not skip (R730). -/
def Gen.runs (g : Gen) (m n : Nat) : Gen :=
  let err := (halfCycles m n).natAbs
  match g.state with
  | .locking => { g with lockRun := if err ≤ 4 then g.lockRun + 1 else 0 }
  | .locked => { g with lossRun := if m < 2 * err then g.lossRun + 1 else 0 }
  | .off => g | .cal => g | .slew => g | .frozen => g | .slaved => g | .halted => g

/-- The decision of CAL at a boundary (R109): the bit under test is kept when 2n > 25M, and the next bit is set. An
abandoned search decides nothing (R732). Each whole epoch decides, of whatever length it is (DEDUCED, log entry 34). -/
def Gen.calStep (g : Gen) (m n : Nat) : Gen :=
  if g.calAbandoned || g.calBit = 0 then g
  else if g.calWait then { g with calWait := false, calBit := 12, code := 2 ^ 11 }
  else
    let b := g.calBit - 1
    let code := if 0 < halfCycles m n then g.code else g.code - 2 ^ b
    { g with code := if 0 < b then code + 2 ^ (b - 1) else code, calBit := b }

/-- A generator at an epoch boundary: `st` is the state its region's clock came from, `len` the length of the epoch
just ended, `n` its cycle count. -/
def Gen.epochEnd (g : Gen) (st : GenState) (m len n : Nat) : Gen :=
  let g1 := g.ledger st m len n
  let blind := g.stretched || len != 100 || g.slewEpoch || g.part
  let g2 := match g.state with
    | .cal => g1.calStep m n
    | .locking => if blind then g1 else (g1.fll m n).runs m n
    | .locked => if blind then g1 else (g1.fll m n).runs m n
    | .slaved => { g1 with slavedCycles := g1.slavedCycles + n }
    | .off => g1 | .slew => g1 | .frozen => g1 | .halted => g1
  { g2 with stretched := false, part := false, slewEpoch := decide (g.state = .slew) }

/-- The generator enters CAL (R109): the part of an epoch before the first boundary gives no decision. -/
def Gen.enterCal (g : Gen) : Gen :=
  { g with state := .cal, calBit := 12, calWait := true, calAbandoned := false, acc := 0, lockRun := 0, lossRun := 0
           halt := .none, before := .off, idle := {}, ran := 0, skew := 0, deskewed := false, delay := 0, slavedCycles := 0, skewFault := false }

/-- The deskew loop of a SLAVED member starts again, its clock having stopped. -/
def Gen.reloop (g : Gen) : Gen := { g with deskewed := false, slavedCycles := 0, skewFault := false }

/-- The generator becomes SLAVED (R120, R123): its deskew loop starts. -/
def Gen.enterSlaved (g : Gen) : Gen :=
  { g.reloop with state := .slaved, skew := 0, delay := 0 }

/-- The generator enters LOCKING; the epoch in which it does is partial (R110). -/
def Gen.enterLocking (g : Gen) : Gen := { g with state := .locking, lockRun := 0, lossRun := 0, part := true }

/-- The generator halts (Table CLK-4). -/
def Gen.haltFor (g : Gen) (h : HaltCause) : Gen := { g with state := .halted, halt := h, stopped := true }

/-- Region `r`'s clock stops `pos` ticks into the epoch, after `n` cycles of it (R113): they are in its ledger, and they are its
CYCLE events (Table NRG-1). -/
def Chip.closeLedger (c : Chip) (r pos n : Nat) : Chip :=
  if c.clockRuns r then
    let m := (c.clockGen r).guarded pos n
    (c.onGen r (fun g => { g.ledger (c.clockState r) c.clk.mNow pos m with stopped := true, ran := g.ran + m })).onRegion r (fun x =>
      { x with cycleEvents := x.cycleEvents + m })
  else c

/-- The region whose generator clocks region `r`. -/
def Chip.clockOwner (c : Chip) (r : Nat) : Nat :=
  if (c.gen r).state = .slaved then (c.region r).cfg.gangMaster else r

/-- The regions that generator `m` clocks. -/
def Chip.clockedBy (c : Chip) (m : Nat) : List Nat :=
  allRegions.filter (fun r => r == m || ((c.gen r).state == .slaved && (c.region r).cfg.gangMaster == m))

/-- The generator of region `m` halts `pos` ticks into the epoch, and with it the SLAVED members that it clocks (R139). -/
def Chip.haltGen (c : Chip) (m pos : Nat) (cycles : List Nat) (h : HaltCause) : Chip :=
  ((c.clockedBy m).foldl (fun d x => d.closeLedger x pos (cycles.getD x 0)) c).onGen m (fun g => g.haltFor h)

/-- Generators go to FROZEN at holdover (R131); one that slews returns to FROZEN at its end. -/
def Gen.freeze (g : Gen) : Gen :=
  match g.state with
  | .locking => { g with state := .frozen }
  | .locked => { g with state := .frozen }
  | .slew => { g with before := .frozen }
  | .off => g | .cal => g | .frozen => g | .slaved => g | .halted => g

/-- Generators return to LOCKING when holdover ends (R132). -/
def Gen.thaw (g : Gen) : Gen :=
  match g.state with
  | .frozen => g.enterLocking
  | .slew => { g with before := if g.before = .frozen then .locking else g.before, lockRun := 0 }
  | .off => g | .cal => g | .locking => g | .locked => g | .slaved => g | .halted => g

/-- `f` applied to every generator that is not at its reset value (the others are OFF). -/
def Chip.mapGens (c : Chip) (f : Nat → Gen → Gen) : Chip := { c with gens := c.gens.mapCells f }

/-- Holdover is entered (R131, R101): F-CLK-03, the keeper clocks REF, generators FROZEN. -/
def Chip.enterHoldover (c : Chip) : Chip :=
  let c1 := c.onClk (fun k =>
    { k with holdover := true, freqHold := false, holdEpochs := 0, refSel := 3, refLocked := false, relock := false
             commanded := false, leaving := false, switchTo := none, holdTick := c.time.tick, holdLong := false })
  let c2 := c1.onTime (fun t => { t with runLen := 0, missing := 0, accepted := false })
  ((c2.mapGens (fun _ g => g.freeze)).fault .clk 3 noInstance).cause 19

/-- The code of a sub-step (R119): `code_old + trunc((code_new − code_old) × j / 16)`, in the 12 bits of the code. -/
def subCode (old new j : Nat) : Nat := min 4095 ((old : Int) + (((new : Int) - (old : Int)) * (j : Int)).tdiv 16).toNat

/-- `code_new` of R119. -/
def slewCode (old mOld mNew : Nat) : Nat := (old * mOld + mNew / 2) / mNew

/-- The tick of sub-step `j`, counted from the boundary of E (Table CLK-5). -/
def subTick (j : Nat) : Nat := 25 * j / 2

/-- CLK.TICK at the boundary that began the epoch in progress. -/
def TimeBase.epochTick (t : TimeBase) : Nat := t.tick - t.pos

/-- The V/F point for step `m` (R542). -/
def vfPoint (m : Nat) : Nat := ceilDiv (m - 62) 4

/-- The Steward commands every island to its OTP point for step `m` (R542, R545). -/
def Chip.setIslands (c : Chip) (m : Nat) : Chip :=
  c.onStew (fun w => { w with islandV := (List.range 4).map (fun i => c.otp.vf.get 0 (32 * i + vfPoint m)) })

/-- A step that is in force no more: STEP_BUSY clears (R118). -/
def Clock.stepDone (c : Clock) : Clock := { c with stepBusy := false, freq := {} }

/-- An accepted commit carries a step to `m` at epoch `e` (R118, Table CLK-5 step 1). -/
def Clock.stepAccepted (c : Clock) (m e : Nat) : Clock :=
  { c with stepBusy := true, freq := { phase := .waiting, mOld := c.mNow, mNew := m, at_ := e } }

/-- The step of a cancelled commit ends (R733): rails that have moved go back and STEP_BUSY waits 50 epochs. -/
def Chip.cancelStep (c : Chip) : Chip :=
  match c.clk.freq.phase with
  | .waiting => c.onClk Clock.stepDone
  | .raised => (c.setIslands c.clk.mNow).onClk (fun k => { k with freq := { k.freq with phase := .settling, since := 0 } })
  | .none => c | .slewing => c | .lowering => c | .settling => c

/-- The shift of an applied epoch load moves every epoch number held as a target (R728): a pending commit's E with
IMG.COMMIT_EPOCH, every DEADLINE, the tick of a pending capture, the exchange epoch of a grant not yet applied, a step's
E. -/
def Chip.renumber (c : Chip) (d : Nat) : Chip :=
  if d = 0 then c
  else
    let c1 := c.onImg (fun i => if i.pending then { i with snapE := i.snapE + d, commitEpoch := i.commitEpoch + d } else i)
    let c2 := c1.onSeq (fun q => { q with sessions := q.sessions.mapCells (fun _ x =>
      match x.state with
      | .ready => { x with deadline := x.deadline + d }
      | .running => { x with deadline := x.deadline + d }
      | .ahead => { x with deadline := x.deadline + d, tickAt := if x.tickAt = 0 then 0 else x.tickAt + d }
      | .free => x | .open_ => x | .armed => x) })
    let c3 := c2.onStew (fun w => { w with
      captures := w.captures.map (fun x => if x.taken then x else { x with tick := x.tick + d })
      staged := w.staged.map (fun x => { x with at_ := x.at_ + d })
      grantNew := w.grantNew.map (fun x => (x.1, x.2 + d)) })
    c3.onClk (fun k => match k.freq.phase with
      | .waiting => { k with freq := { k.freq with at_ := k.freq.at_ + d } }
      | .raised => { k with freq := { k.freq with at_ := k.freq.at_ + d } }
      | .none => k | .slewing => k | .lowering => k | .settling => k)

end Sys2Proof.Machine
end

