-- ==== Sys2Proof/Machine/SpineOps.lean ====
section
/-! DEFINITION. Crossing queues (R149 to R154, R177 to R182), endpoints (Tables SPN-1, SPN-5), crossing modes (R156),
fixed latencies (R169) and the message paths of the Spine (R201 to R208): the operations that the crossing and Spine
commands share. -/

namespace Sys2Proof

/-- The number of a lane in the drain order RSP, WR, EVT, REQ. -/
def Lane.ix (l : Lane) : Nat := match l with | .rsp => 0 | .wr => 1 | .evt => 2 | .req => 3
def Lane.ofIx (n : Nat) : Lane := match n with | 0 => .rsp | 1 => .wr | 2 => .evt | _ => .req

/-- The lanes in drain order (R207, R214). -/
def allLanes : List Lane := [.rsp, .wr, .evt, .req]

/-- A side of a router as a number (R167): 0 east, 1 west, 2 north, 3 south, 4 its local port. -/
def OutPort.ix (d : OutPort) : Nat := match d with | .east => 0 | .west => 1 | .north => 2 | .south => 3 | .home => 4

/-- A message is 1 + 2 × LEN flits (R196). -/
def Msg.flits (m : Msg) : Nat := 1 + 2 * m.len

/-- The message with the fields that its class does not use at zero (Table SPN-3), and those at zero that the endpoint fills in at
injection (MODE, STAMP, WSEQ). -/
def Msg.normal (m : Msg) : Msg :=
  { m with
    mode := .free, stamp := 0, wseq := 0
    tag := match m.lane with | .req => m.tag | .rsp => m.tag | .wr => 0 | .evt => 0
    status := match m.lane with | .rsp => m.status | .req => 0 | .wr => 0 | .evt => 0
    rlen := match m.lane with | .req => m.rlen | .rsp => 0 | .wr => 0 | .evt => 0 }

/-- Two messages are one, but for what the endpoint fills in at injection. -/
def Msg.sameAs (a b : Msg) : Bool := a.normal == b.normal

/-- The tag of the RSP that a message asks for: TAG, or the WAIT_TAG of a WAIT_GE (R386, Table OPS-8). -/
def Msg.reqTag (m : Msg) : Nat := match m.lane with | .evt => m.arg / 2 ^ 88 % 2 ^ 8 | .req => m.tag | .rsp => m.tag | .wr => m.tag

/-- The flits of a message, the head first (R196). -/
def Msg.toFlits (m : Msg) : List Machine.Flit := (List.range m.flits).map (fun i => { msg := m, ix := i })

namespace Machine

/-! ## Endpoints -/

/-- Endpoint numbers of the fixed blocks (Table SPN-1). -/
def epHif : Nat := 88
def epSeq : Nat := 89
def epXdma : Nat := 90
def epStew : Nat := 91
def epMgt : Nat := 92
def epDbg : Nat := 93

/-- The endpoint of channel `h`'s memory port (R191). -/
def epMem (h : Nat) : Nat := 72 + h

/-- The endpoint is a region's. -/
def isRegionEp (e : Nat) : Bool := decide (e < 72)

/-- The endpoint is a channel's memory port. -/
def isMemoryEp (e : Nat) : Bool := decide (72 ≤ e) && decide (e < 88)

/-- The router that endpoint `e` attaches to (Table SPN-1). -/
def routerOf (e : Nat) : Nat :=
  if e < 72 then e else if e < 80 then 9 * (e - 72) else if e < 88 then 9 * (e - 80) + 8
  else if e = 88 then 2 else if e = 89 then 4 else if e = 90 then 6 else 67

/-- The port of that router that leads to the endpoint: a side for a fixed domain's edge port, 4 for a region. -/
def edgeSide (e : Nat) : Nat :=
  if e < 72 then 4 else if e < 80 then 1 else if e < 88 then 0 else if e < 91 then 3 else 2

/-- The domain number of a fixed endpoint (Table DIE-3). -/
def domainOf (e : Nat) : Nat :=
  if e < 80 then 74 else if e < 88 then 75 else if e = 88 then 73 else if e = 89 then 76 else if e = 90 then 77
  else if e = 91 then 78 else if e = 92 then 79 else 80

/-- The depth in flits of an ejection queue (Table SPN-5). -/
def ejectDepth (e : Nat) (l : Lane) : Nat :=
  if e < 72 then (match l with | .rsp => 72 | .wr => 8 | .evt => 0 | .req => 8)
  else if e < 88 then (match l with | .rsp => 0 | .wr => 64 | .evt => 0 | .req => 32)
  else if e = 88 then (match l with | .rsp => 288 | .wr => 64 | .evt => 0 | .req => 16)
  else if e = 89 then (match l with | .rsp => 144 | .wr => 32 | .evt => 64 | .req => 16)
  else if e = 90 then (match l with | .rsp => 288 | .wr => 32 | .evt => 0 | .req => 8)
  else (match l with | .rsp => 18 | .wr => 8 | .evt => 0 | .req => 8)

/-- The injection queue (R211: 8 flits per lane) and the ejection queue of endpoint `e` on lane `l`. -/
def injQ (e : Nat) (l : Lane) : Nat := 8 * e + 2 * l.ix
def ejQ (e : Nat) (l : Lane) : Nat := 8 * e + 2 * l.ix + 1

/-- The endpoint, lane and direction of queue `q`. -/
def queueEp (q : Nat) : Nat := q / 8
def queueLane (q : Nat) : Lane := Lane.ofIx (q % 8 / 2)
def isEject (q : Nat) : Bool := decide (q % 2 = 1)

/-- The side by which a message of endpoint `e` enters its router (Table SPN-1): the shared north service port for STEW, MGT and DBG
(R192). -/
def inputSide (e : Nat) : Nat := edgeSide e

/-- Router `r` has a neighbour on side `d` (Table DIE-1). -/
def hasLink (r d : Nat) : Bool :=
  decide (r < 72) && (match d with
    | 0 => decide (r % 9 < 8) | 1 => decide (0 < r % 9) | 2 => decide (r / 9 < 7) | 3 => decide (0 < r / 9) | _ => false)

/-- Router `r` has an edge port on side `d` (Table SPN-1). -/
def hasEdge (r d : Nat) : Bool := ((List.range 22).map (fun i => 72 + i)).any (fun e => routerOf e == r && edgeSide e == d)

/-- The domain in which endpoint `e` runs (R67, Table SPN-1). -/
def domainOfEp (e : Nat) : Nat := if e < 72 then e else domainOf e

/-- The depth of queue `q` in flits. -/
def queueDepth (q : Nat) : Nat := if isEject q then ejectDepth (queueEp q) (queueLane q) else 8

/-! ## The tick feed (R155) -/

/-- The ticks `a + 1` to `b` reach a domain. A receiver that runs pops each but the last, which is still in its queue; the queue of one
whose clock is stopped fills to 8, and what comes then is discarded. -/
def TickFeed.push (f : TickFeed) (runs : Bool) (a b : Nat) : TickFeed :=
  if b ≤ a then f
  else if runs then
    { items := [b % 2 ^ 20]
      tv := if a + 1 < b then (b - 1) % 2 ^ 20 else f.items.getLast?.getD f.tv
      valid := f.valid || decide (a + 1 < b) || !f.items.isEmpty }
  else { f with items := (f.items ++ (List.range (min 8 (b - a))).map (fun i => (a + 1 + i) % 2 ^ 20)).take 8 }

/-- The receiver has popped what its queue holds. -/
def TickFeed.pop (f : TickFeed) : TickFeed :=
  match f.items.getLast? with
  | some v => { items := [], tv := v, valid := true }
  | none => f

/-- The domains with a tick feed: all but REF. -/
def feedDomains : List Nat := (List.range 81).filter (fun d => d != 72)

/-- CLK.TICK runs on to `b`: every tick feed takes the ticks. -/
def Chip.feedTo (c : Chip) (b : Nat) : Chip :=
  if b ≤ c.time.tick then c
  else { c with xng := { c.xng with feeds := { cells := feedDomains.map (fun d =>
    (d, (c.xng.feeds.get {} d).push (!(decide (d < 72)) || c.clockRuns d) c.time.tick b)) } } }

/-- Domain `d` has popped what its tick feed holds, if its clock runs. -/
def Chip.popFeed (c : Chip) (d : Nat) : Chip :=
  if d = 72 || (decide (d < 72) && !c.clockRuns d) then c
  else { c with xng := { c.xng with feeds := c.xng.feeds.update {} d TickFeed.pop } }

/-- The tick view TV of domain `d`. -/
def Chip.tv (c : Chip) (d : Nat) : Nat := (c.xng.feeds.get {} d).tv

/-- The chip in cycle `x` of domain `d`: REF has run on to that tick of the epoch. -/
def Chip.at_ (c : Chip) (x : Moment) (d : Nat) : Chip :=
  let b := c.time.tick + (x.pos - c.time.pos)
  let c1 := if c.time.pos < x.pos && x.pos < c.time.len then
      { c.feedTo b with time := { c.time with tick := b, pos := x.pos } } else c
  if x.trail then c1 else c1.popFeed d

/-! ## Queues -/

/-- The last flit of its message. -/
def Flit.last (f : Flit) : Bool := f.ix + 1 == f.msg.flits

/-- The head flit of its message. -/
def Flit.head (f : Flit) : Bool := f.ix == 0

/-- The handshake is complete: no RIP or ACK is up or seen (R177, R179). -/
def Queue.isOpen (q : Queue) : Bool :=
  !q.wHs.rip && !q.wHs.ack && !q.rHs.rip && !q.rHs.ack && !q.wSeesRip && !q.wSeesAck && !q.rSeesRip && !q.rSeesAck

/-- One side of the queue is open (R179): its own RIP and ACK are 0 and it sees its partner's as 0. -/
def Queue.openFor (q : Queue) (writer : Bool) : Bool :=
  if writer then !q.wHs.rip && !q.wHs.ack && !q.wSeesRip && !q.wSeesAck
  else !q.rHs.rip && !q.rHs.ack && !q.rSeesRip && !q.rSeesAck

/-- The item crosses the queue in one clock (R165): both ends of its way are members of one gang. -/
def Queue.inOneClock (q : Queue) (f : Flit) : Bool := q.single && f.msg.mode == .ganged

/-- How many of the items the reader sees (R149, R153): those its copy of the write pointer shows, and what follows them in one clock. -/
def Queue.seenLen (q : Queue) : Nat := q.ripe + ((q.items.drop q.ripe).takeWhile q.inOneClock).length

/-- The items that the reader sees. -/
def Queue.seen (q : Queue) : List Flit := q.items.take q.seenLen

/-- The writer sees a free slot in a queue of depth `d` (R149): slots popped and not yet seen count as taken. -/
def Queue.room (q : Queue) (d : Nat) : Bool := q.openFor true && decide (q.items.length + q.freed < d)

/-- A push of one item (Table XNG-2): refused when no room is seen. -/
def Queue.push (q : Queue) (d : Nat) (f : Flit) : Queue × Bool :=
  if q.room d then ({ q with items := q.items ++ [f] }, true) else (q, false)

/-- The writer comes to see `n` more freed slots, the reader `n` more items (R150). -/
def Queue.seeFreed (q : Queue) (n : Nat) : Queue := { q with freed := q.freed - n }
def Queue.seeItems (q : Queue) (n : Nat) : Queue := { q with ripe := min q.items.length (q.seenLen + n) }

/-- The reader takes the item at place `i`, which it sees (R150, R153). -/
def Queue.take (q : Queue) (i : Nat) : Queue :=
  match q.items[i]? with
  | some f => { q with
      items := q.items.eraseIdx i
      ripe := if i < q.ripe then q.ripe - 1 else q.ripe
      freed := if q.inOneClock f then q.freed else q.freed + 1 }
  | none => q

/-- One side's handshake outputs. -/
def Queue.side (q : Queue) (writer : Bool) : Handshake := if writer then q.wHs else q.rHs
def Queue.setSide (q : Queue) (writer : Bool) (h : Handshake) : Queue := if writer then { q with wHs := h } else { q with rHs := h }
def Queue.seesRip (q : Queue) (writer : Bool) : Bool := if writer then q.wSeesRip else q.rSeesRip
def Queue.seesAck (q : Queue) (writer : Bool) : Bool := if writer then q.wSeesAck else q.rSeesAck
def Queue.setSeesRip (q : Queue) (writer v : Bool) : Queue := if writer then { q with wSeesRip := v } else { q with rSeesRip := v }
def Queue.setSeesAck (q : Queue) (writer v : Bool) : Queue := if writer then { q with wSeesAck := v } else { q with rSeesAck := v }

/-- The queue without its items and its pointers at zero (R177, R178). -/
def Queue.empty_ (q : Queue) : Queue := { q with items := [], ripe := 0, freed := 0 }

/-- One more WR of source `src` counts as popped at endpoint `e` (R203, R738). -/
def Chip.gotWr (c : Chip) (e src : Nat) : Chip :=
  c.onEp e (fun x => { x with got := x.got.update 0 src (fun v => (v + 1) % 4096) })

/-- `n` items that a reset discards at endpoint `e`'s end (Table XNG-5). -/
def Chip.countDiscard (c : Chip) (e n : Nat) : Chip :=
  if n = 0 then c
  else if isRegionEp e then c.onRegion e (fun x => { x with discard := satAdd 64 x.discard n })
  else c.onXng (fun x => { x with fixDiscard := x.fixDiscard.update 0 (domainOf e) (fun v => satAdd 64 v n) })

/-- The issue list without its first message that is `m`. -/
def Endpoint.issued (x : Endpoint) (m : Msg) : Endpoint :=
  match x.out.findIdx? (fun y => y.sameAs m) with
  | some i => { x with out := x.out.eraseIdx i }
  | none => x

/-- The tile's messages that have left the endpoint's issue list `out` no longer hold their operation incomplete (Table
OPS-1: MOVE, SCATTER and SIGNAL complete when their last message is injected). -/
def Tile.dropInjected (x : Tile) (out : List Msg) : Tile :=
  { x with issued := x.issued.filterMap (fun i => match i.kind with
      | .out ms =>
        let left := ms.filter (fun m => out.any (fun y => y.sameAs m))
        if left.isEmpty then none else some { i with kind := .out left }
      | .wait _ _ _ _ _ => some i | .send _ _ _ => some i | .collWait _ _ _ => some i | .fence _ => some i
      | .signalFence _ _ => some i | .moveIn _ _ => some i) }

/-- Endpoint `m.src` has injected `m`, or has lost it to a reset: it leaves the issue list. -/
def Chip.injected (c : Chip) (m : Msg) : Chip :=
  let c1 := c.onEp m.src (fun x =>
    { x.issued m with delayed := if m.lane == .req then x.delayed.filter (fun t => t != m.tag) else x.delayed })
  if isRegionEp m.src then
    let out := (c1.ep m.src).out
    (List.range 15).foldl (fun c p =>
      if (c.tile (tileIx m.src p)).issued.isEmpty then c else c.onTile (tileIx m.src p) (fun x => x.dropInjected out)) c1
  else c1

/-- What a reset takes from injection queue `q`, its writer's side when `writer` (R177, R178, R182): the items, and the message that the
writer was offering. The last flit of a message whose head has gone stands in its router, poisoned, and ends it there (DESIGN CHOICE, log
entry 64). -/
def Chip.discardOut (c : Chip) (q : Nat) (writer : Bool) : Chip :=
  let x := c.queue q
  let e := queueEp q
  let held := match x.waiting with
    | [] => []
    | f :: _ => if writer || (!x.items.isEmpty && !f.head) then x.waiting else []
  let gone := x.items ++ held
  let c1 := (c.countDiscard e gone.length).onQueue q (fun y => { y with waiting := if held.isEmpty then y.waiting else [] })
  let c2 := match held with
    | [] => c1
    | f :: _ => c1.injected f.msg
  match gone with
  | [] => c2
  | f :: _ => if f.head then c2 else { c2 with flying := c2.flying ++
      [{ flit := { msg := f.msg, ix := f.msg.flits - 1, poison := true }, at_ := routerOf e, side := inputSide e }] }

/-- What a reset takes from ejection queue `q`, its reader's side when `reader`: each discarded WR counts as popped (R738), the messages
of which a part had been popped are lost, and a requester discards its reservations (R219). -/
def Chip.discardIn (c : Chip) (q : Nat) (reader : Bool) : Chip :=
  let e := queueEp q
  let l := queueLane q
  let x := c.queue q
  let cut := if reader then (c.ep e).parts.filter (fun f => f.msg.lane == l) else []
  let lostWr := (x.items ++ cut).filter (fun f => l == .wr && f.head)
  let c1 := lostWr.foldl (fun c f => c.gotWr e f.msg.src) (c.countDiscard e x.items.length)
  if reader then
    c1.onEp e (fun y => { y with
      parts := y.parts.filter (fun f => !(f.msg.lane == l))
      outstanding := if l == .rsp then y.outstanding.map (fun o => { o with flits := 0, void := true }) else y.outstanding
      reserved := if l == .rsp then 0 else y.reserved })
  else c1

/-- One side of queue `q`, its writer's when `writer`, discards and counts what it holds (R177, R178). -/
def Chip.discardAt (c : Chip) (q : Nat) (writer : Bool) : Chip :=
  (if isEject q then c.discardIn q (!writer) else c.discardOut q writer).onQueue q Queue.empty_

/-- One side of queue `q` resets (R177, R182): its items are discarded and counted, RIP rises. -/
def Chip.resetSide (c : Chip) (q : Nat) (writer : Bool) : Chip :=
  (c.discardAt q writer).onQueue q (fun x => x.setSide writer { x.side writer with rip := true })

/-- Both sides of queue `q` reset together (R180). -/
def Chip.resetQueue (c : Chip) (q : Nat) : Chip :=
  ((c.resetSide q true).resetSide q false).onQueue q (fun x => { x with age := 0 })

/-- The queues with an end in region `r` (Table SPN-5): a region has no EVT ejection queue. -/
def queuesOf (r : Nat) : List Nat := ((List.range 8).map (fun i => 8 * r + i)).filter (fun q => decide (0 < queueDepth q))

/-- MGT resets the queues of the members `rs` of a gang and switches them to or from single-clock operation (R165, R183). -/
def Chip.switchQueues (c : Chip) (rs : List Nat) (single : Bool) : Chip :=
  rs.foldl (fun c r => (queuesOf r).foldl (fun c q => (c.resetQueue q).onQueue q (fun x => { x with single := single })) c) c

/-- The clock of one side of queue `q` runs: a region's own side by R171, the Spine's and a fixed domain's always. -/
def Chip.sideRuns (c : Chip) (q : Nat) (writer : Bool) : Bool :=
  let regionSide := writer != isEject q
  !(isRegionEp (queueEp q) && regionSide) || c.clockRuns (queueEp q)

/-- The clocks of both sides have run throughout the epoch that ends (R181). -/
def Chip.bothRan (c : Chip) (q : Nat) : Bool := !isRegionEp (queueEp q) || c.ranThroughout (queueEp q)

/-! ## Crossing modes and latencies -/

/-- The column and row of router `r` (R60). -/
def colOf (r : Nat) : Nat := r % 9
def rowOf (r : Nat) : Nat := r / 9

/-- The router beyond side `d` of router `r`. -/
def neighbour (r d : Nat) : Nat := match d with | 0 => r + 1 | 1 => r - 1 | 2 => r + 9 | _ => r - 9

/-- The side on which a flit from side `d` enters the next router. -/
def opposite (d : Nat) : Nat := match d with | 0 => 1 | 1 => 0 | 2 => 3 | _ => 2

/-- The side by which a message at router `r` for router `t` leaves (R201); 4 when it has arrived. -/
def routeSide (r t : Nat) : Nat :=
  if colOf r < colOf t then 0 else if colOf t < colOf r then 1
  else if rowOf r < rowOf t then 2 else if rowOf t < rowOf r then 3 else 4

/-- The sum of LINK_T along the X-then-Y path from router `s` to router `t` (R169), in at most `fuel` links. -/
def Chip.pathPs (c : Chip) (fuel s t : Nat) : Nat :=
  match fuel with
  | 0 => 0
  | n + 1 =>
    let d := routeSide s t
    if d = 4 then 0 else (c.link s d).linkT + c.pathPs n (neighbour s d) t

/-- The arithmetic of R169. -/
def latOf (p margin : Nat) : Nat :=
  let pd := (p * 25 + 15) / 16
  let lat := (pd + 11250 + 9999) / 10000 + margin
  if 255 < lat then 0 else lat

/-- XNG[s].LAT[r] (R169): 0 before it is computed and for a region to itself. -/
def Chip.lat (c : Chip) (s r : Nat) : Nat :=
  if c.xng.latKnown && s != r then latOf (c.pathPs 15 s r) c.xng.margin else 0

/-- The mode of an item from endpoint `s` to endpoint `r` (R156, R159, R170, R188). -/
def Chip.modeOf (c : Chip) (s r : Nat) : XMode :=
  if isRegionEp s && isRegionEp r then
    if s != r && c.inGang s && (c.region s).cfg.gangMaster == (c.region r).cfg.gangMaster then .ganged
    else if s != r && bit (c.region s).cfg.fixedTo r && c.xng.done && c.lat s r != 0 then .fixed
    else .free
  else .free

/-- F-XNG-03 once for each pair whose bit takes effect with LAT 0 while calibration is done (R170). INSTANCE is the source region `s`
(DEDUCED, log entry 66). -/
def Chip.reportUnfixed (c : Chip) (s old new : Nat) : Chip :=
  if c.xng.done then
    allRegions.foldl (fun c r => c.faultIf (s != r && bit new r && !bit old r && c.lat s r == 0) .xng 3 s) c
  else c

/-! ## Reservations -/

/-- Flits reserved in the endpoint's RSP ejection queue (R209). -/
def Endpoint.reservedFlits (x : Endpoint) : Nat := (x.outstanding.map (fun o => o.flits)).sum

/-- A request that waits for its RSP is forgotten and its reservation freed (R210, R216). -/
def Endpoint.release (x : Endpoint) (tag : Nat) : Endpoint :=
  let rest := x.outstanding.filter (fun o => o.tag != tag)
  { x with outstanding := rest, reserved := (rest.map (fun o => o.flits)).sum }

/-- A new request with its reservation. -/
def Endpoint.reserve (x : Endpoint) (o : OutReq) : Endpoint :=
  { x with outstanding := x.outstanding ++ [o], reserved := x.reservedFlits + o.flits }

/-- The tags of endpoint `e` that no request uses, lowest first. -/
def Chip.freeTags (c : Chip) (e : Nat) : List Nat :=
  let x := c.ep e
  let used := x.outstanding.map (fun o => o.tag) ++
    (x.out.filter (fun m => m.lane == .req || (m.lane == .evt && m.op == 3))).map (fun m => m.reqTag)
  (List.range 256).filter (fun t => !used.contains t)

/-- The lowest of them. -/
def Chip.freeTag (c : Chip) (e : Nat) : Nat := (c.freeTags e).headD 0

/-! ## Injection -/

/-- The block behind endpoint `m.src` issues a message: it waits in the endpoint's issue list until it is injected. -/
def Chip.send (c : Chip) (m : Msg) : Chip := c.onEp m.src (fun x => { x with out := x.out ++ [m] })

/-- R209 delays the REQ with `tag`: RSV_STALL counts it once, however often it is offered. -/
def Endpoint.delay (x : Endpoint) (tag : Nat) : Endpoint :=
  if x.delayed.contains tag then x else { x with delayed := x.delayed ++ [tag], rsvStall := satAdd 64 x.rsvStall 1 }

/-- A flit that a region's endpoint injects, for the Steward (R539). -/
def Chip.countInjected (c : Chip) (e : Nat) : Chip :=
  if isRegionEp e then c.onRegion e (fun g => { g with spineFlits := bumpHead g.spineFlits 1 }) else c

/-- The reply of endpoint `src` to a REQ (R198): STATUS, LEN and data. -/
def rspTo (src : Nat) (q : Msg) (status len : Nat) (data : List Byte) (arg : Nat := 0) : Msg :=
  { lane := .rsp, src := src, dst := q.src, tag := q.tag, status := status, len := len, data := data, arg := arg }

/-- A message that an endpoint refuses to inject (R196, R199, R737, Table SPN-9). -/
def injectable (m : Msg) : Bool :=
  decide (m.dst < 94) && decide (m.len ≤ 4) && !(m.lane == .req && decide (4 < m.rlen)) && !(m.lane == .evt && m.dst != 89)

/-- The first message of its lane in the issue list is `m`, or the list holds none of its lane. -/
def Endpoint.offers (x : Endpoint) (m : Msg) : Bool :=
  match x.out.find? (fun y => y.lane == m.lane) with
  | some y => y.sameAs m
  | none => true

/-- Whether the message needs a reservation, and of how many flits (R200, R209). -/
def reserveFlits (m : Msg) : Option Nat :=
  match m.lane with
  | .req => some (1 + 2 * m.rlen)
  | .evt => if m.op = 3 then some 1 else none
  | .rsp => none
  | .wr => none

/-- The writer of injection queue `q` offers the flit that it holds (R151, R154). With the head the endpoint chooses the message's mode
(R156, R157) and stamps a fixed one with its TV (R161); with the last flit the message is injected. -/
def Chip.pushNext (c : Chip) (q : Nat) : Chip :=
  let x := c.queue q
  let e := queueEp q
  match x.waiting with
  | [] => c
  | f :: rest =>
    let mode := c.modeOf e f.msg.dst
    let m := if f.head then { f.msg with mode := mode, stamp := if mode = .fixed then c.tv (domainOfEp e) else 0 } else f.msg
    match x.push (queueDepth q) { f with msg := m } with
    | (_, false) => c
    | (y, true) =>
      let c1 := (c.setQueue q { y with waiting := rest.map (fun g => { g with msg := m }) }).countInjected e
      if rest.isEmpty then c1.injected m else c1

/-- The writer offers up to `n` flits, one after another. -/
def Chip.pushMany (n : Nat) (c : Chip) (q : Nat) : Chip :=
  match n with
  | 0 => c
  | k + 1 => Chip.pushMany k (c.pushNext q) q

/-- Endpoint `m0.src` offers `m0` for injection (R161, R195, R197, R199, R209, R224): refused with F-SPN-03 and, for a REQ, a local
TARGET_ERROR RSP; held, and counted, while its reservation finds no space; else the writer of its injection queue takes its flits and
pushes those for which the queue has room. -/
def Chip.inject (c : Chip) (m0 : Msg) : Chip :=
  let m := m0.normal
  let x := c.ep m.src
  let q := injQ m.src m.lane
  if !c.xng.up || !x.offers m then c
  else if !injectable m then
    let c1 := (c.injected m).fault .spn 3 m.src
    if m.lane == .req then
      c1.onEp m.src (fun x => { x with
        outstanding := x.outstanding ++ [{ tag := m.tag, dst := m.dst, flits := 0, op := m.op }]
        popRsp := x.popRsp ++ [{ lane := .rsp, src := m.src, dst := m.src, tag := m.tag, status := 3 }] })
    else c1
  else
    let c1 := if x.out.any (fun y => y.sameAs m) then c else c.send m
    let depth := ejectDepth m.src .rsp
    let fits := match reserveFlits m with | some n => decide (x.reservedFlits + n ≤ depth) | none => true
    if !(c.queue q).waiting.isEmpty then c1
    else if !fits then (if m.lane == .req then c1.onEp m.src (fun x => x.delay m.tag) else c1)
    else
      let c2 := match reserveFlits m with
        | some n => c1.onEp m.src (fun x => x.reserve
            { tag := m.reqTag, dst := m.dst, flits := n, op := m.op, wait_ := m.lane == Lane.evt, limit := field m.arg 64 24 })
        | none => c1
      Chip.pushMany m.flits (c2.onQueue q (fun y => { y with waiting := m.toFlits })) q

/-! ## Routers -/

/-- A candidate for an output: the input it comes from, the flit, and its place in `flying`. -/
structure Candidate where
  input : Nat
  flit : Flit
  place : Nat
deriving DecidableEq, Repr

/-- The port of router `r` by which a message leaves: a side toward its router, its edge port, or the local port. -/
def outSide (r : Nat) (m : Msg) : Nat :=
  let d := routeSide r (routerOf m.dst)
  if d = 4 then edgeSide m.dst else d

/-- What the buffer of input `side` of router `r` holds on lane `l`, oldest first, each flit with its place. -/
def Chip.buffer (c : Chip) (r side : Nat) (l : Lane) : List (Flying × Nat) :=
  (c.flying.zipIdx).filter (fun e => e.1.at_ == r && e.1.side == side && e.1.flit.msg.lane == l)

/-- A buffer holds 4 flits (R205). -/
def Chip.bufferRoom (c : Chip) (r side : Nat) (l : Lane) : Bool := decide ((c.buffer r side l).length < 4)

/-- Input `i` may use lane `l` of an output (R206): the message that holds the lane comes from it, or none holds it. -/
def OutLink.admits (k : OutLink) (l : Lane) (i : Nat) (f : Flit) : Bool :=
  if k.busy.getD l.ix 0 = 0 then f.head else k.busy.getD l.ix 0 == i + 1

/-- The flits of lane `l` ready at router `r` for its port `d`: the first of each input's buffer. -/
def Chip.ready (c : Chip) (r d : Nat) (l : Lane) : List Candidate :=
  (List.range 5).filterMap (fun i =>
    match c.buffer r i l with
    | [] => none
    | (f, n) :: _ =>
      if outSide r f.flit.msg = d && (c.link r d).admits l i f.flit then some { input := i, flit := f.flit, place := n } else none)

/-- The sink of region `e` takes every message that arrives (R173, R193). -/
def Chip.sinks (c : Chip) (e : Nat) : Bool :=
  isRegionEp e && ((c.region e).isoSinkOn || (c.region e).status == .retired)

/-- A message that entered router `r` by `side` on lane `l` has not ended there. -/
def Chip.midMessage (c : Chip) (r side : Nat) (l : Lane) : Bool :=
  match (c.buffer r side l).getLast? with
  | some f => !f.1.flit.last
  | none => (List.range 5).any (fun d => (c.link r d).busy.getD l.ix 0 == side + 1)

/-- The sink of region `e` may take the flit (R174): for the last flit of a REQ its router's local port has room for the RSP (DESIGN
CHOICE, log entry 64); all else it takes at once. -/
def Chip.sinkRoom (c : Chip) (e : Nat) (f : Flit) : Bool :=
  !(f.msg.lane == .req && f.last) || (c.bufferRoom (routerOf e) 4 .rsp && !c.midMessage (routerOf e) 4 .rsp)

/-- There is room downstream of port `d` of router `r` for a flit (R205): a slot in the next router's buffer, or one that the ejection
queue's writer sees; a sink has it (R174). What a lane discards needs none. -/
def Chip.roomFor (c : Chip) (r d : Nat) (f : Flit) : Bool :=
  let m := f.msg
  if (c.link r d).drop.getD m.lane.ix false then true
  else if routeSide r (routerOf m.dst) = 4 then
    if c.sinks m.dst then c.sinkRoom m.dst f else (c.queue (ejQ m.dst m.lane)).room (ejectDepth m.dst m.lane)
  else c.bufferRoom (neighbour r d) (opposite d) m.lane

/-- The next candidate in round-robin order after input `turn` (R208). -/
def nextOf (turn : Nat) (cs : List Candidate) : Option Candidate :=
  ((List.range 5).map (fun i => (turn + 1 + i) % 5)).findSome? (fun i => cs.find? (fun x => x.input == i))

/-- What port `d` of router `r` sends next (R207): the first lane of the drain order with a flit and downstream space, unless a ready
lane has lost AGE_LIMIT transfers in a row. -/
def Chip.chosen (c : Chip) (r d : Nat) : Option Candidate :=
  let link := c.link r d
  let pick := fun (l : Lane) => nextOf (link.turn.getD l.ix 0) ((c.ready r d l).filter (fun x => c.roomFor r d x.flit))
  let aged := allLanes.filter (fun l => decide (c.xng.ageLimit ≤ link.lost.getD l.ix 0))
  match aged.findSome? pick with
  | some x => some x
  | none => allLanes.findSome? pick

/-- The queue of region `r` on lane `l` has refused its router's push (R151, R171): a flit is ready for it and finds no room. -/
def Chip.refuses (c : Chip) (r : Nat) (l : Lane) : Bool :=
  !c.sinks r && (c.ready r 4 l).any (fun x => !c.roomFor r 4 x.flit)

/-- What a transfer of `x` leaves at the output (R206 to R208, R222): the lane is held until the message's last flit, the winner's input
has had its turn, and each other lane that was ready has lost a transfer. -/
def Chip.afterTransfer (c : Chip) (r d : Nat) (x : Candidate) : Chip :=
  let l := x.flit.msg.lane
  let lost := allLanes.map (fun y =>
    if y = l then 0 else if (c.ready r d y).isEmpty then 0 else (c.link r d).lost.getD y.ix 0 + 1)
  c.onLink r d (fun k => { k with
    lost := lost
    turn := k.turn.set l.ix x.input
    busy := k.busy.set l.ix (if x.flit.last then 0 else x.input + 1)
    drop := k.drop.set l.ix (k.drop.getD l.ix false && !x.flit.last)
    stall := k.stall.set l.ix 0
    flits := if d < 4 then satAdd 64 k.flits 1 else k.flits })

/-- Port `d` of router `r` sends candidate `x` (R201, R221), and `take` receives it. -/
def Chip.passFlit (c : Chip) (r d : Nat) (x : Candidate) (take : Chip → Flit → Chip) : Chip :=
  let m := x.flit.msg
  let c1 := { c.afterTransfer r d x with flying := c.flying.eraseIdx x.place }
  let c2 := (if d < 4 && routeSide r (routerOf m.dst) = 4 then c1.countAux 2 1 else c1).onRegion r (fun g =>
    { g with flitEvents := g.flitEvents + 1 })
  if (c.link r d).drop.getD m.lane.ix false then c2 else take c2 x.flit

/-- The isolation sink of region `e` takes a flit (R174, R193, R218): a WR counts as popped with its head (R738); with its last flit the
message is counted, and a REQ is answered ISOLATED, by an RSP that enters the router at its local port. -/
def Chip.sinkFlit (c : Chip) (e : Nat) (f : Flit) : Chip :=
  let c1 := if f.head && f.msg.lane == .wr then c.gotWr e f.msg.src else c
  if f.last then
    let c2 := c1.onRegion e (fun g => { g with isoSink := satAdd 64 g.isoSink 1 })
    if f.msg.lane == .req then
      { c2 with flying := c2.flying ++ [{ flit := { msg := rspTo e f.msg 1 0 [], ix := 0 }, at_ := routerOf e, side := 4 }] }
    else c2
  else c1

/-- The next stage takes the flit: an isolation sink, an ejection queue, or the next router's buffer. -/
def Chip.takeFlit (r d : Nat) (c : Chip) (f : Flit) : Chip :=
  if routeSide r (routerOf f.msg.dst) = 4 then
    if c.sinks f.msg.dst then c.sinkFlit f.msg.dst f
    else c.onQueue (ejQ f.msg.dst f.msg.lane) (fun q => (q.push (ejectDepth f.msg.dst f.msg.lane) f).1)
  else { c with flying := c.flying ++ [{ flit := f, at_ := neighbour r d, side := opposite d }] }

/-- Port `d` of router `r` sends candidate `x`, its poison bit set when `poison` (R194, R201). -/
def Chip.transfer (c : Chip) (r d : Nat) (x : Candidate) (poison : Bool) : Chip :=
  c.passFlit r d x (fun c f => Chip.takeFlit r d c { f with poison := f.poison || poison })

/-! ## Popping -/

/-- The signed 12-bit difference of a REQ's WSEQ and the WR messages popped from its source (R203). -/
def wseqAhead (w got : Nat) : Int := signed 12 ((w + 4096 - got) % 4096)

/-- The REQ waits for WR messages of its source (R203). -/
def Endpoint.holds (x : Endpoint) (m : Msg) : Bool := decide (0 < wseqAhead m.wseq (x.got.get 0 m.src))

/-- A flit is held for a fixed release (R162, R164): it is a fixed head, or an earlier item of its source is. -/
def heldFixed (before : List Flit) (f : Flit) : Bool :=
  (f.head && f.msg.mode == .fixed) || before.any (fun y => y.msg.src == f.msg.src && y.head && y.msg.mode == .fixed)

/-- The place of the oldest item that the reader sees and may pop. -/
def Chip.poppable (c : Chip) (q : Nat) : Option Nat :=
  let x := c.queue q
  let e := queueEp q
  if !x.openFor false then none
  else if isEject q && isRegionEp e then (x.seen.zipIdx).findSome? (fun y =>
    if heldFixed (x.seen.take y.2) y.1 then none else some y.2)
  else if x.seen.isEmpty then none else some 0

/-- The message joins its endpoint's list of its class; a WR counts as popped from its source (R203, R738). -/
def Endpoint.arrive (x : Endpoint) (m : Msg) : Endpoint :=
  match m.lane with
  | .rsp => { x with popRsp := x.popRsp ++ [m] }
  | .wr => { x with popWr := x.popWr ++ [m], got := x.got.update 0 m.src (fun v => (v + 1) % 4096) }
  | .evt => { x with popEvt := x.popEvt ++ [m] }
  | .req => { x with popReq := x.popReq ++ [m], held := 0 }

/-- The endpoint pops flit `f` (R196): with its last flit a message has arrived, poisoned when a flit of it was. A flit whose head a
reset has discarded belongs to no message and is dropped (log entry 64). -/
def Endpoint.popFlit (x : Endpoint) (f : Flit) : Endpoint :=
  let mine := fun (g : Flit) => g.msg.lane == f.msg.lane && g.msg.src == f.msg.src
  let have_ := x.parts.filter mine ++ [f]
  let rest := x.parts.filter (fun g => !mine g)
  match have_ with
  | [] => x
  | h :: _ =>
    if !h.head then { x with parts := rest }
    else if !f.last then { x with parts := rest ++ have_ }
    else if have_.length = h.msg.flits then
      { x with parts := rest }.arrive { h.msg with poison := h.msg.poison || have_.any (fun g => g.poison) }
    else { x with parts := rest }

/-- The reader of ejection queue `q` pops the item at place `i`. -/
def Chip.popAt (c : Chip) (q i : Nat) : Chip :=
  match (c.queue q).items[i]? with
  | none => c
  | some f => (c.onQueue q (fun x => x.take i)).onEp (queueEp q) (fun x => x.popFlit f)

/-- The flit at place `i` is the head of a REQ whose source still owes WR messages (R203). -/
def Chip.reqHeld (c : Chip) (q i : Nat) : Bool :=
  match (c.queue q).items[i]? with
  | some f => isEject q && f.head && f.msg.lane == .req && (c.ep (queueEp q)).holds f.msg
  | none => false

/-- δ of a fixed item (R162): (TV − t) modulo 2^20, read as signed. -/
def fixedDelta (tv stamp : Nat) : Int := signed 20 ((tv % 2 ^ 20 + 2 ^ 20 - stamp % 2 ^ 20) % 2 ^ 20)

/-- The reader of queue `q` comes to see `n` more items. A fixed head of a region's ejection queue is late when its δ exceeds L in this
cycle, the first in which it is poppable (R163). -/
def Chip.seeAt (c : Chip) (q n : Nat) : Chip :=
  let e := queueEp q
  let x := c.queue q
  let y := x.seeItems n
  let mark := fun (p : Flit × Nat) =>
    if x.seenLen ≤ p.2 && p.2 < y.seenLen && p.1.head && p.1.msg.mode == .fixed then
      { p.1 with late := decide ((c.lat p.1.msg.src e : Int) < fixedDelta (c.tv e) p.1.msg.stamp) }
    else p.1
  c.setQueue q (if isEject q && isRegionEp e then { y with items := y.items.zipIdx.map mark } else y)

/-! ## Leaving an injection queue -/

/-- The shared north service link takes a flit of endpoint `e` on lane `l` (R192): it is taking a message of that endpoint, or takes
none and `e` is the next in round-robin order that has one ready. -/
def Chip.northAdmits (c : Chip) (e : Nat) (l : Lane) : Bool :=
  let b := c.xng.northBusy.getD l.ix 0
  let last := c.xng.northTurn.getD l.ix 93
  let hasOne := fun (x : Nat) => let q := c.queue (injQ x l); q.openFor false && !q.seen.isEmpty
  if b ≠ 0 then b == e
  else ((List.range 3).map (fun i => 91 + (last - 91 + 1 + i) % 3)).find? hasOne == some e

/-- The north link has taken a flit of `e`. -/
def Xng.northTook (x : Xng) (e : Nat) (f : Flit) : Xng :=
  let l := f.msg.lane.ix
  { x with northTurn := x.northTurn.set l e, northBusy := x.northBusy.set l (if f.last then 0 else e) }

/-- The router takes the oldest flit of injection queue `q` into the buffer of its input port (R205, R192). A WR whose head leaves is
counted toward WSEQ (R738), and the head of a REQ takes that count (R203). -/
def Chip.popInjection (c : Chip) (q : Nat) : Chip :=
  let e := queueEp q
  let l := queueLane q
  let x := c.queue q
  match x.seen with
  | [] => c
  | f :: _ =>
    if !x.openFor false || !c.bufferRoom (routerOf e) (inputSide e) l || (decide (91 ≤ e) && !c.northAdmits e l) then c
    else
      let c1 := if f.head && l == .wr then
          c.onEp e (fun y => { y with sent := y.sent.update 0 f.msg.dst (fun v => (v + 1) % 4096) }) else c
      let f1 := if f.head && l == .req then { f with msg := { f.msg with wseq := (c.ep e).sent.get 0 f.msg.dst } } else f
      let c2 := (if isRegionEp e then c1 else c1.countAux 2 1).onQueue q (fun y => y.take 0)
      let c3 := if 91 ≤ e then c2.onXng (fun y => y.northTook e f) else c2
      { c3 with flying := c3.flying ++ [{ flit := f1, at_ := routerOf e, side := inputSide e }] }

end Machine

end Sys2Proof
end

