-- ==== Sys2Proof/Machine/Operands.lean ====
section
/-! DEFINITION. Operands of the operation sequencer (R360 to R368, R741): descriptors, address words and their checks,
vector operands, and the issue of an operation with its hazards. -/

namespace Sys2Proof.Machine

/-! ## Item errors (Table OPS-9) -/

def eInvalid : Nat := 1
def eReserved : Nat := 2
def eFormat : Nat := 3
def eAddress : Nat := 4
def eCount : Nat := 5
def eStack : Nat := 6
def eDenied : Nat := 7
def eWait : Nat := 8
def eCollective : Nat := 9
def eRemote : Nat := 10
def ePoison : Nat := 11
def eResidue : Nat := 12

/-- The code of the first check that fails; 0 when none does. -/
def firstError (l : List (Bool × Nat)) : Nat :=
  match l.find? (fun e => e.1) with | some e => e.2 | none => 0

/-! ## Descriptors -/

/-- The memory of logical tile `p` of region `r`: that of the position that serves it (R63). -/
def Chip.tileMem (c : Chip) (r p : Nat) : List Host.Cell := (c.posn r (c.positionOf r p)).mem
def Chip.onTileMem (c : Chip) (r p : Nat) (f : List Host.Cell → List Host.Cell) : Chip :=
  c.onPosn r (c.positionOf r p) (fun x => { x with mem := f x.mem })

/-- The first offset beyond tile memory (Table TIL-1). -/
def tileTop : Nat := 0x180000

/-- The descriptor at the PC: eight 64-bit words (R361). -/
def Chip.desc (c : Chip) (r p : Nat) : List Nat :=
  let m := c.tileMem r p
  let pc := (c.tile (tileIx r p)).pc
  (List.range 8).map (fun i => Memory.readLE m (pc + 8 * i) 8)

/-- Word `i` of a descriptor. -/
def word (d : List Nat) (i : Nat) : Nat := d.getD i 0

/-- Fields of W0 (Table OPS-2). -/
def descOp (d : List Nat) : Nat := field (word d 0) 0 8
def descBarrier (d : List Nat) : Bool := bit (word d 0) 8
def descEnd (d : List Nat) : Bool := bit (word d 0) 9
def descSat (d : List Nat) : Bool := bit (word d 0) 10

/-- W0 holds a reserved bit, or a word from `n` on is not zero (R366). -/
def reservedFrom (d : List Nat) (n : Nat) : Bool :=
  decide (2 ^ 11 ≤ word d 0) || (List.range 8).any (fun i => decide (n ≤ i) && word d i != 0)

/-- Some bit of `w` outside its low `n` bits is 1. -/
def above (w n : Nat) : Bool := decide (2 ^ n ≤ w)

/-! ## Address words (Table OPS-3) -/

def awAddr (w : Nat) : Nat := field w 0 40
def awRegion (w : Nat) : Nat := field w 40 7
def awSpace (w : Nat) : Nat := field w 48 2
def awReg (w : Nat) : Nat := field w 51 4

/-- The effective address (R367). -/
def Tile.eff (x : Tile) (w : Nat) : Nat :=
  let n := awReg w
  if n = 0 then awAddr w else (awAddr w + x.a.get 0 (n - 1)) % 2 ^ 40

/-- A reserved bit of an address word is 1, or REGION is not zero outside SPACE 1 (R366, R741). -/
def awReserved (w : Nat) : Bool :=
  bit w 47 || bit w 50 || above w 55 || (awSpace w != 1 && awRegion w != 0)

/-- The end of the tier that holds offset `o` (Table TIL-1). -/
def tierEnd (o : Nat) : Nat := if o < 0x40000 then 0x40000 else if o < 0xE0000 then 0xE0000 else tileTop

/-- `len` bytes from offset `o` lie in one tier. -/
def inTier (o len : Nat) : Bool := decide (o < tileTop) && decide (o + len ≤ tierEnd o)

/-- A SPACE 0 operand of `len` bytes whose offset must be a multiple of `al` breaks R368. An AREG above 8 names no
register (log entry 15). -/
def Tile.badLocal (x : Tile) (w len al : Nat) : Bool :=
  awSpace w != 0 || decide (8 < awReg w) || x.eff w % al != 0 || !inTier (x.eff w) len

/-- An operand in any SPACE breaks R368. -/
def Tile.badAny (x : Tile) (w len : Nat) : Bool :=
  let e := x.eff w
  let sp := awSpace w
  decide (8 < awReg w) || e % 64 != 0 || sp == 3 ||
  (sp == 0 && !inTier e len) ||
  (sp == 1 && (decide (2 ^ 25 ≤ e) || e / 2 ^ 21 == 15 || decide (71 < awRegion w) || !inTier (e % 2 ^ 21) len)) ||
  (sp == 2 && decide (2 ^ 36 < e + len))

/-! ## Vector registers -/

/-- The 64 lanes of v`n`. -/
def Tile.vec (x : Tile) (n : Nat) : List Nat := (List.range 64).map (fun i => (x.vreg.get 0 (64 * n + i)).toNat)

/-- v`n` written with lanes. -/
def Tile.setVec (x : Tile) (n : Nat) (ls : List Nat) : Tile :=
  { x with vreg := (List.range 64).foldl (fun b i => b.set (64 * n + i) (BitVec.ofNat 32 (ls.getD i 0))) x.vreg }

/-- Fields of a VECTOR's W2 (Table OPS-6). -/
def vop (d : List Nat) : Nat := field (word d 2) 0 8
def vd (d : List Nat) : Nat := field (word d 2) 8 5
def va (d : List Nat) : Nat := field (word d 2) 13 5
def vb (d : List Nat) : Nat := field (word d 2) 18 5
def vc (d : List Nat) : Nat := field (word d 2) 23 5
def useImm (d : List Nat) : Bool := bit (word d 2) 28
def imm (d : List Nat) : Nat := field (word d 2) 32 32

/-- The VOPs of Table OPS-7. -/
def knownVop (v : Nat) : Bool :=
  decide (v ≤ 1) || (decide (0x10 ≤ v) && decide (v ≤ 0x1B)) || (decide (0x20 ≤ v) && decide (v ≤ 0x2B)) ||
  (decide (0x30 ≤ v) && decide (v ≤ 0x33)) || (decide (0x38 ≤ v) && decide (v ≤ 0x3A)) || v == 0x40 || v == 0x50 || v == 0x51

/-- The lanes of VA, of VB or IMM, and of VC. -/
def Tile.vecA (x : Tile) (d : List Nat) : List Nat := x.vec (va d)
def Tile.vecB (x : Tile) (d : List Nat) : List Nat := if useImm d then List.replicate 64 (imm d) else x.vec (vb d)
def Tile.vecC (x : Tile) (d : List Nat) : List Nat := x.vec (vc d)

/-! ## Hazards and issue (R361, R362) -/

/-- Two byte intervals meet. -/
def meets (a b : Nat × Nat) : Bool := decide (a.1 < b.2) && decide (b.1 < a.2)

/-- The interval of `len` bytes at `o`, widened to whole lines. -/
def span (o len : Nat) : Nat × Nat := (o / 64 * 64, (o + len + 63) / 64 * 64)

/-- No incomplete operation stands against an operation that reads and writes these intervals (R362). -/
def Tile.clear (x : Tile) (reads writes : List (Nat × Nat)) : Bool :=
  x.issued.all (fun i =>
    i.writes.all (fun w => reads.all (fun y => !meets w y) && writes.all (fun y => !meets w y)) &&
    i.reads.all (fun w => writes.all (fun y => !meets w y)))

/-- Logical tile `p` of region `r` may fetch and issue a descriptor: an item runs, nothing has ended it, its clock runs,
the PC is in tile memory. -/
def Chip.canFetch (c : Chip) (r p : Nat) : Bool :=
  let x := c.tile (tileIx r p)
  c.running && x.running && !x.ended && c.clockRuns r && decide (x.pc < tileTop)

/-- The descriptor at the PC is of opcode `op` and may issue now: BARRIER waits for every earlier operation, and at most
16 are incomplete (R361, R362, Table OPS-2). -/
def Chip.atOp (c : Chip) (r p op : Nat) : Bool :=
  let x := c.tile (tileIx r p)
  let d := c.desc r p
  c.canFetch r p && descOp d == op && (!descBarrier d || x.issued.isEmpty) && decide (x.issued.length < 16)

/-- An operation of the move engine has messages that still wait for their injection: the next operation of that engine follows
them (R364, Table OPS-4). -/
def Tile.moveBusy (x : Tile) : Bool :=
  x.issued.any (fun i => match i.kind with
    | .send _ _ ms => ms.any (fun m => !m.sent && !m.resend)
    | .moveIn _ todo => !todo.isEmpty
    | .wait _ _ _ _ _ => false | .collWait _ _ _ => false | .fence _ => false | .signalFence _ _ => false | .out _ => false)

/-- The address registers `n` (1 to 8; 0 none) plus a signed stride, modulo 2^40 (R377). -/
def stepReg (a : Bank Nat) (n : Nat) (stride : Int) : Bank Nat :=
  if n = 0 then a else a.set (n - 1) (((a.get 0 (n - 1) : Int) + stride) % 2 ^ 40).toNat

/-- A register of a loop put back to its value at entry (R377). -/
def restoreReg (a : Bank Nat) (n v : Nat) : Bank Nat := if n = 0 then a else a.set (n - 1) v

/-- The PC comes to `pc`: loops of this call level whose body ends there run again or end (R377, R378). -/
def Tile.goTo (x : Tile) (ls : List LoopFrame) (pc : Nat) : Tile :=
  match ls with
  | [] => { x with pc := pc, loops := [] }
  | f :: t =>
    if f.stop = pc && f.level = x.calls.length then
      if 1 < f.left then
        { x with pc := f.start, loops := { f with left := f.left - 1 } :: t
                 a := stepReg (stepReg x.a f.regA f.strideA) f.regB f.strideB }
      else ({ x with a := restoreReg (restoreReg x.a f.regA f.saveA) f.regB f.saveB }).goTo t pc
    else { x with pc := pc, loops := f :: t }

/-- The operation at the PC has issued: the sequencer goes on at `pc`; END stops issue (R402). -/
def Tile.issuedTo (x : Tile) (d : List Nat) (pc : Nat) : Tile :=
  { (x.goTo x.loops pc) with ended := descEnd d }

/-- The next descriptor in order. -/
def Tile.issuedNext (x : Tile) (d : List Nat) : Tile := x.issuedTo d (x.pc + 64)

/-- Flags raised by an operation of logical tile `p` of region `r`: sticky in TIL.FLAGS, and the item's (R342, R464);
F-TIL-04 for a mismatch (R345). -/
def Chip.raiseFlags (c : Chip) (r p fl : Nat) : Chip :=
  if fl = 0 then c
  else (c.onTile (tileIx r p) (fun x => { x with
      flags := orFlags x.flags fl, itemFlags := if x.running then orFlags x.itemFlags fl else x.itemFlags })).faultIf
    (bit fl 5) .til 4 r

/-- Line accesses of `len` bytes at offset `o` counted for the Steward (Table NRG-1, log entry 14). -/
def Tile.countLines (x : Tile) (o len : Nat) : Tile :=
  let s := span o len
  let n := (s.2 - s.1) / 64
  if o < 0x40000 then { x with lineB := x.lineB + n } else { x with lineS := x.lineS + n }

/-- An error of Table OPS-9 stops the item of logical tile `p` of region `r` (R403, R406): code and descriptor offset
recorded, a pending WAIT and resends abandoned, F-OPS-01 for codes 1 to 6. -/
def Chip.itemErrorAt (c : Chip) (r p code off : Nat) : Chip :=
  let keep := fun (i : Issued) => match i.kind with
    | .wait _ _ _ _ _ => none
    | .collWait _ _ _ => none
    | .send since tmo ms =>
      let left := ms.filter (fun m => !m.resend)
      if left.isEmpty then none else some { i with kind := .send since tmo left }
    | .fence _ => some i
    | .signalFence _ _ => some i
    | .moveIn _ _ => some i
    | .out _ => some i
  let c1 := c.onTile (tileIx r p) (fun x => { x with
    ended := true, err := if x.err = 0 then code else x.err, errOff := off, errCode := code
    issued := x.issued.filterMap keep
    slots := x.armedSlots.foldl (fun b n => b.erase n) x.slots, armedSlots := [] })
  c1.faultIf (decide (code ≤ 6)) .ops 1 r

/-- An error at the descriptor that the PC names. -/
def Chip.itemError (c : Chip) (r p code : Nat) : Chip := c.itemErrorAt r p code (c.tile (tileIx r p)).pc

/-- What an operation that has passed its checks does to the chip, or the item's error: the sequencer goes on to the next
descriptor when `err` is 0. -/
def Chip.issueOp (c : Chip) (r p err : Nat) (d : List Nat) (f : Chip → Chip) : Chip :=
  if err ≠ 0 then c.itemError r p err else (f c).onTile (tileIx r p) (fun x => x.issuedNext d)

end Sys2Proof.Machine
end

