-- ==== Sys2Proof/Machine/Move.lean ====
section
/-! DEFINITION. MOVE, GATHER and SCATTER (R363 to R368, R379), and the requests of the sequencer on the Spine. -/

namespace Sys2Proof.Machine

/-! ## Messages of the region endpoint -/

/-- The region endpoint issues `m`. A message for its own region does not enter the router (R379): it stands at once
among the region's popped messages, in order. -/
def Chip.issueMsg (c : Chip) (m : Msg) : Chip :=
  if m.dst ≠ m.src then c.send m
  else
    c.onEp m.src (fun x =>
      let y := if m.lane = .wr then { x with sent := x.sent.update 0 m.src (fun v => (v + 1) % 4096) } else x
      let z := if m.lane = .req then
          { y with outstanding := y.outstanding ++ [{ tag := m.tag, dst := m.dst, flits := 0, op := m.op }] } else y
      z.arrive m)

/-- Requests of a SEND that wait for their first injection or a tag (R397): each is issued while a tag is free. -/
def pumpSend (c : Chip) (ms : List SendMsg) : Chip × List SendMsg :=
  ms.foldl (fun acc x =>
    if x.sent || x.resend then (acc.1, acc.2 ++ [x])
    else match acc.1.freeTags x.msg.src with
      | [] => (acc.1, acc.2 ++ [x])
      | t :: _ =>
        let m := { x.msg with tag := t }
        (acc.1.issueMsg m, acc.2 ++ [{ x with msg := m, sent := true }])) (c, [])

/-- Remote reads that wait for a tag: each is issued while a tag is free. -/
def pumpReads (c : Chip) (todo : List (Msg × List Nat)) : Chip × List InRead × List (Msg × List Nat) :=
  todo.foldl (fun acc x =>
    match acc.1.freeTags x.1.src with
    | [] => (acc.1, acc.2.1, acc.2.2 ++ [x])
    | t :: _ => (acc.1.issueMsg { x.1 with tag := t }, acc.2.1 ++ [⟨t, x.2⟩], acc.2.2)) (c, [], [])

/-- The operations of logical tile `p` of region `r` issue what waits for a tag. -/
def Chip.pump (c : Chip) (r p : Nat) : Chip :=
  let t := tileIx r p
  let out := (c.tile t).issued.foldl (fun (acc : Chip × List Issued) i =>
    match i.kind with
    | .send since tmo ms =>
      let (c1, ms1) := pumpSend acc.1 ms
      (c1, acc.2 ++ [{ i with kind := .send since tmo ms1 }])
    | .moveIn rs todo =>
      let (c1, more, left) := pumpReads acc.1 todo
      (c1, acc.2 ++ [{ i with kind := .moveIn (rs ++ more) left }])
    | .wait _ _ _ _ _ => (acc.1, acc.2 ++ [i])
    | .collWait _ _ _ => (acc.1, acc.2 ++ [i])
    | .fence _ => (acc.1, acc.2 ++ [i])
    | .signalFence _ _ => (acc.1, acc.2 ++ [i])
    | .out _ => (acc.1, acc.2 ++ [i])) (c, [])
  out.1.onTile t (fun x => { x with issued := out.2 })

/-- The tile holds one more incomplete operation. -/
def Tile.hold (x : Tile) (k : Pending) (reads writes : List (Nat × Nat)) : Tile :=
  { x with issued := x.issued ++ [{ off := x.pc, kind := k, reads := reads, writes := writes }] }

/-! ## Copies -/

/-- The channel of session-memory address `a` (R68). -/
def channelOf (a : Nat) : Nat := Nat.xor (field a 8 4) (field a 12 4)

/-- The endpoint behind an address word's SPACE, for effective address `a` (Table OPS-3). -/
def spaceEp (w a : Nat) : Nat := if awSpace w = 1 then awRegion w else epMem (channelOf a)

/-- `n` lines from address `a`, cut where a message of at most four lines must end (R379): address and lines. -/
def cuts (fuel a n : Nat) : List (Nat × Nat) :=
  match fuel with
  | 0 => []
  | f + 1 =>
    if n = 0 then []
    else
      let m := min n (4 - a / 64 % 4)
      (a, m) :: cuts f (a + 64 * m) (n - m)

/-- One run of lines of a move: the source and destination address words and their effective addresses. -/
structure Run where
  src : Nat
  srcAt : Nat
  dst : Nat
  dstAt : Nat
  lines : Nat

/-- Lines copied within a tile: all read first, or one after another in order. Where a run overlaps itself the spec
does not say which, and `seq` is a free choice (log entry 17). -/
def copyLines (m : List Host.Cell) (seq : Bool) (ps : List (Nat × Nat)) : List Host.Cell :=
  ps.foldl (fun acc p => Memory.write acc p.2 (Memory.read (if seq then acc else m) p.1 64)) m

/-- The line pairs of a run within the tile. -/
def Run.pairs (x : Run) : List (Nat × Nat) := (List.range x.lines).map (fun i => (x.srcAt + 64 * i, x.dstAt + 64 * i))

/-- The WR messages of a run to a remote place, its data read from tile memory `m` (Table OPS-8). -/
def Run.writes (x : Run) (r : Nat) (m : List Host.Cell) : List Msg :=
  (cuts (x.lines + 1) x.dstAt x.lines).map (fun q =>
    { lane := .wr, src := r, dst := spaceEp x.dst q.1, op := 0x01, addr := q.1, len := q.2
      data := Memory.read m (x.srcAt + (q.1 - x.dstAt)) (64 * q.2) })

/-- The REQ messages of a run from a remote place, with the offsets their lines go to. -/
def Run.reads (x : Run) (r : Nat) : List (Msg × List Nat) :=
  (cuts (x.lines + 1) x.srcAt x.lines).map (fun q =>
    ({ lane := .req, src := r, dst := spaceEp x.src q.1, op := 0x02, addr := q.1, rlen := q.2 },
     (List.range q.2).map (fun i => x.dstAt + (q.1 - x.srcAt) + 64 * i)))

/-- The interval of the run's source or destination when it lies in the tile. -/
def Run.localReads (x : Run) : List (Nat × Nat) := if awSpace x.src = 0 then [span x.srcAt (64 * x.lines)] else []
def Run.localWrites (x : Run) : List (Nat × Nat) := if awSpace x.dst = 0 then [span x.dstAt (64 * x.lines)] else []

/-- The move engine carries the runs out (R379): copies within the tile at once, WRs issued with their data, REQs issued
as tags are free. The operation stays incomplete until its last message is injected or its last line is written. -/
def Chip.doRuns (c : Chip) (r p : Nat) (seq : Bool) (runs : List Run) (reads writes : List (Nat × Nat)) : Chip :=
  let t := tileIx r p
  let m := c.tileMem r p
  let inTile := (runs.filter (fun x => awSpace x.src == 0 && awSpace x.dst == 0)).flatMap Run.pairs
  let wrs := (runs.filter (fun x => awSpace x.src == 0 && awSpace x.dst != 0)).flatMap (fun x => x.writes r m)
  let rds := (runs.filter (fun x => awSpace x.src != 0)).flatMap (fun x => x.reads r)
  let c1 := c.onTileMem r p (fun m => copyLines m seq inTile)
  let c2 := wrs.foldl (fun c m => c.issueMsg m) c1
  let c3 := c2.onTile t (fun x =>
    let y := { x with written := wrs.foldl (fun l m => insertOnce l m.dst) x.written }
    let z := (reads ++ writes).foldl (fun y s => y.countLines s.1 (s.2 - s.1)) y
    let away := wrs.filter (fun m => m.dst != r)
    let z1 := if away.isEmpty then z else z.hold (.out away) [] []
    if rds.isEmpty then z1 else z1.hold (.moveIn [] rds) [] writes)
  c3.pump r p

/-! ## MOVE -/

/-- LINES. -/
def mvLines (d : List Nat) : Nat := field (word d 3) 0 24

/-- The run of a MOVE. -/
def Tile.moveRun (x : Tile) (d : List Nat) : Run :=
  { src := word d 1, srcAt := x.eff (word d 1), dst := word d 2, dstAt := x.eff (word d 2), lines := mvLines d }

/-- The error of a MOVE descriptor (R366, R368, Table OPS-6). -/
def Tile.moveError (x : Tile) (d : List Nat) : Nat :=
  let n := mvLines d
  firstError
    [(reservedFrom d 4 || above (word d 3) 24 || awReserved (word d 1) || awReserved (word d 2), eReserved),
     (n == 0 || decide (24576 < n), eCount),
     (awSpace (word d 1) != 0 && awSpace (word d 2) != 0, eAddress),
     (x.badAny (word d 1) (64 * n) || x.badAny (word d 2) (64 * n), eAddress)]

/-- MOVE (R379): whole lines copied between the tile and itself, another tile or session memory. -/
def execMove (k : ChipId) (r : RegionId) (p : TileId) (s : State) : Out :=
  let c := s.chip k
  let x := c.tile (tileIx r p)
  let d := c.desc r p
  let run := x.moveRun d
  let seq := decide (Config.free s.fresh % 2 = 1)
  let f := fun (c : Chip) => c.doRuns r p seq [run] run.localReads run.localWrites
  occurs (c.atOp r p 0x04 && !x.moveBusy && x.clear run.localReads run.localWrites) s
    { (s.setChip k (c.issueOp r p (x.moveError d) d f)) with fresh := s.fresh + 1 }

/-! ## GATHER and SCATTER -/

/-- ENTRIES and LINES. -/
def tbEntries (d : List Nat) : Nat := field (word d 3) 0 16 + 1
def tbLines (d : List Nat) : Nat := field (word d 3) 16 4 + 1

/-- The address words of the table. -/
def Tile.table (x : Tile) (m : List Host.Cell) (d : List Nat) : List Nat :=
  (List.range (tbEntries d)).map (fun i => Memory.readLE m (x.eff (word d 1) + 8 * i) 8)

/-- The runs of a GATHER or SCATTER: entry i and lines i × LINES of the local run. -/
def Tile.tableRuns (x : Tile) (m : List Host.Cell) (d : List Nat) (gather : Bool) : List Run :=
  ((x.table m d).zipIdx).map (fun e =>
    let here := x.eff (word d 2) + 64 * tbLines d * e.2
    if gather then { src := e.1, srcAt := x.eff e.1, dst := word d 2, dstAt := here, lines := tbLines d }
    else { src := word d 2, srcAt := here, dst := e.1, dstAt := x.eff e.1, lines := tbLines d })

/-- The error of a GATHER or SCATTER descriptor; the table's entries are address words (R367) and are all checked before
the first line moves (log entry 18). -/
def Tile.tableError (x : Tile) (m : List Host.Cell) (d : List Nat) : Nat :=
  let head := firstError
    [(reservedFrom d 4 || above (word d 3) 20 || awReserved (word d 1) || awReserved (word d 2), eReserved),
     (x.badLocal (word d 1) (8 * tbEntries d) 64 || x.badLocal (word d 2) (64 * tbLines d * tbEntries d) 64, eAddress)]
  if head ≠ 0 then head
  else firstError
    [((x.table m d).any awReserved, eReserved),
     ((x.table m d).any (fun w => x.badAny w (64 * tbLines d)), eAddress)]

/-- The intervals that a GATHER or SCATTER reads: its table and the local sources. -/
def Tile.tableReads (x : Tile) (d : List Nat) (runs : List Run) : List (Nat × Nat) :=
  span (x.eff (word d 1)) (8 * tbEntries d) :: runs.flatMap Run.localReads

/-- GATHER and SCATTER share all but the direction of their runs. -/
def tableMove (k : ChipId) (r : RegionId) (p : TileId) (op : Nat) (gather : Bool) (s : State) : Out :=
  let c := s.chip k
  let x := c.tile (tileIx r p)
  let d := c.desc r p
  let m := c.tileMem r p
  let runs := x.tableRuns m d gather
  let reads := x.tableReads d runs
  let writes := runs.flatMap Run.localWrites
  let seq := decide (Config.free s.fresh % 2 = 1)
  let f := fun (c : Chip) => c.doRuns r p seq runs reads writes
  occurs (c.atOp r p op && !x.moveBusy && x.clear reads writes) s
    { (s.setChip k (c.issueOp r p (x.tableError m d) d f)) with fresh := s.fresh + 1 }

/-- GATHER (R379): lines from the table's addresses into one local run. -/
def execGather (k : ChipId) (r : RegionId) (p : TileId) (s : State) : Out := tableMove k r p 0x05 true s

/-- SCATTER (R379): one local run to the table's addresses. -/
def execScatter (k : ChipId) (r : RegionId) (p : TileId) (s : State) : Out := tableMove k r p 0x06 false s

end Sys2Proof.Machine
end

