-- ==== Sys2Proof/Machine/Select.lean ====
section
/-! DEFINITION. Selection (R410 to R438): ordinals, skewer and colander passes, and the SEL_MERGE combines. -/

namespace Sys2Proof.Machine

/-- The tag of an empty entry (R416). -/
def emptyTag : Nat := 0xFFFFFFFF

/-- The ordinal of a 32-bit key of format 0 FP32, 2 INT32 or 3 UINT32 for direction `dir` (R413). -/
def ordinal (fmt dir x : Nat) : Nat :=
  let o :=
    if fmt ≤ 1 then
      (if field x 23 8 = 255 && field x 0 23 != 0 then 0xFFFFFFFF
       else if x = 0x80000000 then 0x80000000
       else if bit x 31 then 0xFFFFFFFF - x
       else x + 0x80000000)
    else if fmt = 2 then (x + 0x80000000) % 2 ^ 32
    else x
  if dir = 1 then 0xFFFFFFFF - o else o

/-- The encoding in which a selected key is written (R414). -/
def keyOut (fmt x : Nat) : Nat :=
  if fmt ≤ 1 && field x 23 8 = 255 && field x 0 23 != 0 then 0x7FC00000 else x

/-- One key of a pass or entry of a list. -/
structure Entry where
  o : Nat
  key : Nat
  tag : Nat
deriving DecidableEq, Repr

/-- The entry of a key and its tag. -/
def Entry.of (fmt dir key tag : Nat) : Entry := { o := ordinal fmt dir key, key := keyOut fmt key, tag := tag }

/-- `a`, which arrived before `b`, ranks ahead of it (R417). -/
def Entry.ahead (byTag : Bool) (a b : Entry) : Bool :=
  decide (b.o < a.o) || (a.o == b.o && (!byTag || decide (a.tag ≤ b.tag)))

/-- `e`, the last to arrive, put into a list in rank order. -/
def rankIn (byTag : Bool) (l : List Entry) (e : Entry) : List Entry :=
  match l with
  | [] => [e]
  | x :: t => if Entry.ahead byTag x e then x :: rankIn byTag t e else e :: x :: t

/-- The first `k` of the entries in rank order. -/
def best (byTag : Bool) (k : Nat) (es : List Entry) : List Entry :=
  es.foldl (fun l e => (rankIn byTag l e).take k) []

/-! ## The SELECT descriptor (Table OPS-6) -/

def slN (d : List Nat) : Nat := field (word d 3) 0 24
def slK (d : List Nat) : Nat := field (word d 3) 24 7
def slMode (d : List Nat) : Nat := field (word d 3) 31 2
def slTie (d : List Nat) : Nat := field (word d 3) 33 2
def slDir (d : List Nat) : Nat := field (word d 3) 35 1
def slFmt (d : List Nat) : Nat := field (word d 3) 36 2
def slCont (d : List Nat) : Bool := bit (word d 3) 38
def slVd (d : List Nat) : Nat := field (word d 3) 39 5
def slBits (d : List Nat) : Nat := field (word d 3) 44 4
def slBase (d : List Nat) : Nat := field (word d 4) 0 32
def slSegment (d : List Nat) : Nat := field (word d 4) 32 16

/-- Bytes of a key. -/
def keyElem (fmt : Nat) : Nat := if fmt = 1 then 2 else 4

/-- The pass runs in colander mode (R411). -/
def Tile.colander (x : Tile) (d : List Nat) : Bool := slMode d == 2 || (slMode d == 0 && x.dispMode == 1)

/-- The pass breaks ties by tag (R411). -/
def Tile.byTag (x : Tile) (d : List Nat) : Bool := slTie d == 2 || (slTie d == 0 && x.dispTie == 1)

/-- The keys of the pass in arrival order, skipped ones included (R412, R415). -/
def Tile.keys (x : Tile) (m : List Host.Cell) (d : List Nat) : List Entry :=
  let es := keyElem (slFmt d)
  (List.range (slN d)).map (fun i =>
    let raw := Memory.readLE m (x.eff (word d 1) + es * i) es
    let key := if slFmt d = 1 then raw * 65536 else raw
    let tag := if word d 2 = 0 then slBase d + i else Memory.readLE m (x.eff (word d 2) + 4 * i) 4
    Entry.of (slFmt d) (slDir d) key tag)

/-- The keys whose tag is not that of an empty entry (R419). -/
def Tile.eligible (x : Tile) (m : List Host.Cell) (d : List Nat) : List Entry :=
  (x.keys m d).filter (fun e => e.tag != emptyTag)

/-- The histogram registers of `b` bits, as a list of buckets (R425). -/
def Tile.histogram (x : Tile) (d : List Nat) : List Nat :=
  (List.range (2 ^ (slBits d - 6))).flatMap (fun h => x.vec (slVd d + 2 + h))

/-- The error of a SELECT descriptor, 0 for none (R366, R368, R415, R422, R425). MODE 3, TIE 3 and a VD of 31, to which
the spec gives no meaning, are BAD_FORMAT (log entry 19). -/
def Tile.selectError (x : Tile) (d : List Nat) : Nat :=
  let es := keyElem (slFmt d)
  let b := slBits d
  firstError
    [(reservedFrom d 5 || above (word d 3) 48 || above (word d 4) 48 || awReserved (word d 1) || awReserved (word d 2), eReserved),
     (slN d == 0 || slK d == 0 || decide (64 < slK d), eCount),
     (slMode d == 3 || slTie d == 3 || slVd d == 31, eFormat),
     (!x.colander d && b != 0, eFormat),
     (x.colander d && (decide (b < 6) || decide (10 < b) || decide (31 < slVd d + 1 + 2 ^ (b - 6))), eFormat),
     (!x.colander d && slCont d && !x.byTag d && word d 2 != 0, eFormat),
     (!x.colander d && slCont d && x.selPage == 63, eCount),
     (word d 2 == 0 && decide (0xFFFFFFFE < slBase d + slN d - 1), eCount),
     (x.badLocal (word d 1) (es * slN d) 64, eAddress),
     (word d 2 != 0 && x.badLocal (word d 2) (4 * slN d) 64, eAddress)]

/-- Entries written to VD and VD + 1, empty ones after them (R420). -/
def Tile.writeEntries (x : Tile) (v : Nat) (es : List Entry) : Tile :=
  (x.setVec v (es.map (fun e => e.key))).setVec (v + 1)
    (es.map (fun e => e.tag) ++ List.replicate (64 - es.length) emptyTag)

/-- What a finished pass reports (Table SEL-4). -/
def Tile.report (x : Tile) (d : List Nat) (page : Nat) (coll : Bool) (g : Nat) (exact : Bool) (count : Nat) : Tile :=
  { x with
    selPage := page, selColander := coll, selGuar := g, selExact := exact, selCount := count, selSegment := slSegment d
    selPasses := satAdd 32 x.selPasses 1 }

/-- The entries of a skewer pass (R419, R421). -/
def Tile.skewer (x : Tile) (m : List Host.Cell) (d : List Nat) : List Entry :=
  let es := x.eligible m d
  let key := (x.vec (slVd d)).getD 63 0
  let tag := (x.vec (slVd d + 1)).getD 63 0
  let ob := ordinal (if slFmt d = 1 then 0 else slFmt d) (slDir d) key
  let after := fun (e : Entry) => tag != emptyTag && (decide (e.o < ob) || (e.o == ob && decide (tag < e.tag)))
  best (x.byTag d) (slK d) (if slCont d then es.filter after else es)

/-- The threshold bucket and the count above it (R426), from bucket `u` downward. -/
def threshold (h : List Nat) (k u c : Nat) : Nat × Nat :=
  match u with
  | 0 => (0, c)
  | n + 1 => if c + h.getD (n + 1) 0 < k then threshold h k n (c + h.getD (n + 1) 0) else (n + 1, c)

/-- The histogram of the pass's own keys (R426, first loop). -/
def histogramOf (b : Nat) (es : List Entry) : List Nat :=
  let counts := es.foldl (fun (acc : Bank Nat) e => acc.update 0 (e.o / 2 ^ (32 - b)) (fun n => n + 1)) {}
  (List.range (2 ^ b)).map (fun u => counts.get 0 u)

/-- The second loop of R426: the emitted entries. -/
def emitFrom (b t r taken : Nat) (es : List Entry) : List Entry :=
  match es with
  | [] => []
  | e :: rest =>
    let q := e.o / 2 ^ (32 - b)
    if t < q then e :: emitFrom b t r taken rest
    else if q = t && taken < r then e :: emitFrom b t r (taken + 1) rest
    else emitFrom b t r taken rest

/-- A colander pass (R425 to R427). -/
def Tile.doColander (x : Tile) (m : List Host.Cell) (d : List Nat) : Tile :=
  let b := slBits d
  let es := x.eligible m d
  let h := if slCont d then x.histogram d else histogramOf b es
  let (t, up) := threshold h (slK d) (2 ^ b - 1) 0
  let r := slK d - up
  let ht := h.getD t 0
  let out := best (x.byTag d) 64 (emitFrom b t r 0 es)
  let x1 := if slCont d then x else (List.range (2 ^ (b - 6))).foldl
    (fun y i => y.setVec (slVd d + 2 + i) ((h.drop (64 * i)).take 64)) x
  (x1.writeEntries (slVd d) out).report d (if slCont d then x.selPage else 0) true
    (up + min ht (2 * r - ht)) (decide (ht ≤ r)) out.length

/-- A skewer pass (R419 to R422). -/
def Tile.doSkewer (x : Tile) (m : List Host.Cell) (d : List Nat) : Tile :=
  let out := x.skewer m d
  (x.writeEntries (slVd d) out).report d (if slCont d then x.selPage + 1 else 0) false out.length true out.length

/-- A pass and the keys it skips (R416): counted, with F-SEL-02 for the first in a frame. -/
def Chip.doSelect (c : Chip) (r p : Nat) (d : List Nat) : Chip :=
  let t := tileIx r p
  let m := c.tileMem r p
  let x := c.tile t
  let skipped := slN d - (x.eligible m d).length
  let y := if x.colander d then x.doColander m d else x.doSkewer m d
  let lines := fun (y : Tile) => (if word d 2 = 0 then y else y.countLines (y.eff (word d 2)) (4 * slN d)).countLines
    (y.eff (word d 1)) (keyElem (slFmt d) * slN d)
  (c.setTile t { (lines y) with tagSkip := satAdd 32 x.tagSkip skipped, tagFault := x.tagFault || decide (0 < skipped) }).faultIf
    (decide (0 < skipped) && !x.tagFault) .sel 2 r

/-- SELECT in one of its modes. -/
def selectIn (k : ChipId) (r : RegionId) (p : TileId) (colander : Bool) (s : State) : Out :=
  let c := s.chip k
  let x := c.tile (tileIx r p)
  let d := c.desc r p
  let reads := [span (x.eff (word d 1)) (keyElem (slFmt d) * slN d)] ++
    (if word d 2 = 0 then [] else [span (x.eff (word d 2)) (4 * slN d)])
  occurs (c.atOp r p 0x07 && x.colander d == colander && x.clear reads []) s
    (s.setChip k (c.issueOp r p (x.selectError d) d (fun c => c.doSelect r p d)))

/-- SELECT_SKEWER (R410 to R424). -/
def execSelectSkewer (k : ChipId) (r : RegionId) (p : TileId) (s : State) : Out := selectIn k r p false s

/-- SELECT_COLANDER (R425 to R428). -/
def execSelectColander (k : ChipId) (r : RegionId) (p : TileId) (s : State) : Out := selectIn k r p true s

/-! ## SEL_MERGE (R429 to R433) -/

/-- The entries of a list record, empty ones left out (R430). -/
def listEntries (fmt dir : Nat) (bs : List Byte) : List Entry :=
  ((List.range (bs.length / 8)).map (fun e =>
    let key := leNat ((bs.drop (8 * e)).take 4)
    ({ o := ordinal (if fmt = 1 then 0 else fmt) dir key, key := key, tag := leNat ((bs.drop (8 * e + 4)).take 4) } : Entry))).filter
      (fun e => e.tag != emptyTag)

/-- The bytes of an area of `n` entries. -/
def listBytes (n : Nat) (es : List Entry) : List Byte :=
  (List.range n).flatMap (fun i => match es[i]? with
    | some e => natLE 4 e.key ++ natLE 4 e.tag
    | none => natLE 4 0 ++ natLE 4 emptyTag)

/-- The area after a list record is merged into it (R431): equal ordinals by ascending tag. Entries equal in both whose keys differ
in their bits stand in the order of their arrival (log entry 19). -/
def mergeList (s : Slot) (area rec_ : List Byte) : List Byte :=
  listBytes (8 * s.r) (best true s.kSel (listEntries s.keyFmt s.dir area ++ listEntries s.keyFmt s.dir rec_))

/-- Two histogram records added word by word; true when a sum saturates (R432). -/
def addWords (n : Nat) (a b : List Byte) : List Byte × Bool :=
  match n with
  | 0 => ([], false)
  | k + 1 =>
    let v := leNat (a.take 4) + leNat (b.take 4)
    let rest := addWords k (a.drop 4) (b.drop 4)
    (natLE 4 (min v 0xFFFFFFFF) ++ rest.1, decide (0xFFFFFFFF < v) || rest.2)

/-- W3 and R of a SEL_MERGE ARM are of Table SEL-2 (R429). -/
def mergeArmOk (w3 r : Nat) : Bool :=
  let k := field w3 8 7
  if field w3 0 8 = 0x10 then decide (1 ≤ k) && decide (k ≤ 64) && field w3 18 6 == 0 && r == ceilDiv k 8
  else if field w3 0 8 = 0x11 then field w3 8 16 == 0 && [4, 8, 16, 32, 64].contains r
  else false

end Sys2Proof.Machine
end

