-- ==== Sys2Proof/Machine/Collect.lean ====
section
/-! DEFINITION. Collectives (R394 to R401, R429 to R433): ARM, SEND, WAIT, DISARM, the root endpoint's COLLECT. -/

namespace Sys2Proof.Machine

/-! ## The COLLECTIVE descriptor (Table OPS-6) -/

def clSub (d : List Nat) : Nat := field (word d 1) 0 2
def clSlot (d : List Nat) : Nat := field (word d 1) 2 4
def clCombine (d : List Nat) : Nat := field (word d 1) 6 2
def clPeer (d : List Nat) : Nat := field (word d 1) 17 4
def clRecords (d : List Nat) : Nat := field (word d 1) 32 16
def clContrib (d : List Nat) : Nat := field (word d 1) 48 16
def clTimeout (d : List Nat) : Nat := field (word d 4) 0 24

/-- GEN of the descriptor, or the item's when GEN_IMM is 0. -/
def Tile.clGen (x : Tile) (d : List Nat) : Nat := if bit (word d 1) 16 then field (word d 1) 8 8 else x.gen

/-- Reserved bits that every SUB shares. -/
def clReserved (d : List Nat) : Bool := reservedFrom d 5 || field (word d 1) 21 11 != 0 || above (word d 4) 24

/-- Slot `n` of a tile. -/
def Tile.slot (x : Tile) (n : Nat) : Slot := x.slots.get {} n

/-- Slot `n` returns to idle (R398). -/
def Tile.disarm (x : Tile) (n : Nat) : Tile :=
  { x with slots := x.slots.erase n, armedSlots := removeAll x.armedSlots n }

/-- The waits on slot `n` complete (R398). -/
def Tile.wakeSlot (x : Tile) (n : Nat) : Tile :=
  { x with issued := x.issued.filter (fun i => match i.kind with
      | .collWait slot _ _ => slot != n
      | .wait _ _ _ _ _ => true | .send _ _ _ => true | .fence _ => true | .signalFence _ _ => true
      | .moveIn _ _ => true | .out _ => true) }

/-- The COLLECTIVE descriptor at the PC has SUB `sub` and may issue. -/
def Chip.atCollective (c : Chip) (r p sub : Nat) : Bool := c.atOp r p 0x08 && clSub (c.desc r p) == sub

/-! ## ARM -/

/-- The error of an ARM (R394, R429, Table OPS-6). -/
def Tile.armError (x : Tile) (d : List Nat) : Nat :=
  let w3 := word d 3
  let n := clRecords d
  firstError
    [(clReserved d || above w3 24 || awReserved (word d 2), eReserved),
     (n == 0 || decide (1024 < n) || clContrib d == 0 || decide (4096 < clContrib d), eCount),
     (clCombine d == 3, eFormat),
     (clCombine d == 0 && (decide (2 < field w3 0 8) || (decide (field w3 0 8 < 2) && field w3 8 16 != 0)), eFormat),
     (clCombine d == 2 && !mergeArmOk w3 n, eFormat),
     (x.badLocal (word d 2) (64 * n) 64 || decide (0x40000 < x.eff (word d 2) + 64 * n), eAddress)]

/-- The slot that an ARM sets up. -/
def Tile.armedSlot (x : Tile) (d : List Nat) : Slot :=
  let w3 := word d 3
  { armed := true, combine := clCombine d, gen := x.clGen d, n := clContrib d, r := clRecords d, area := x.eff (word d 2)
    form := field w3 0 8, anchor := signed 16 (field w3 8 16), kSel := field w3 8 7, dir := field w3 15 1, keyFmt := field w3 16 2 }

/-- The bytes that an ARM writes into its area (R394, R430). -/
def Slot.blankArea (s : Slot) : List Byte :=
  if s.combine = 0 then (List.range s.r).flatMap (fun _ => ({ anchor := s.anchor, form := s.form } : Rec).bytes)
  else if s.combine = 2 && s.form == 0x10 then listBytes (8 * s.r) []
  else natLE (64 * s.r) 0

/-- COLLECTIVE_ARM (R394, R430). -/
def execCollectiveArm (k : ChipId) (r : RegionId) (p : TileId) (s : State) : Out :=
  let c := s.chip k
  let t := tileIx r p
  let x := c.tile t
  let d := c.desc r p
  let a := x.armedSlot d
  let f := fun (c : Chip) => (c.onTileMem r p (fun m => Memory.write m a.area a.blankArea)).onTile t (fun x =>
    ({ x with slots := x.slots.set (clSlot d) a, armedSlots := insertOnce x.armedSlots (clSlot d) }).countLines a.area (64 * a.r))
  occurs (c.atCollective r p 0 && x.clear [] [span a.area (64 * a.r)]) s
    (s.setChip k (c.issueOp r p (x.armError d) d f))

/-! ## SEND -/

/-- The error of a SEND (R366, R368, R397, R399). A ROOT offset other than zero and a PEER that names no slot are
BAD_ADDRESS (log entry 20). -/
def Tile.sendError (x : Tile) (d : List Nat) : Nat :=
  firstError
    [(clReserved d || awReserved (word d 2) || awReserved (word d 3), eReserved),
     (clRecords d == 0 || clTimeout d == 0, eCount),
     (clCombine d == 3, eFormat),
     (x.badLocal (word d 2) (64 * clRecords d) 64, eAddress),
     (awSpace (word d 3) != 1 || x.badAny (word d 3) 64 || x.eff (word d 3) % 2 ^ 21 != 0, eAddress),
     (decide (7 < clPeer d) && clPeer d != 15, eAddress)]

/-- The COLLECT messages of a SEND (R397, R399, Table OPS-8): up to three records each, in ascending RECORD_INDEX. -/
def Tile.collectMsgs (x : Tile) (r : Nat) (m : List Host.Cell) (d : List Nat) : List Msg :=
  let n := clRecords d
  let root := x.eff (word d 3)
  let here := clPeer d = 15
  (List.range (ceilDiv n 3)).map (fun i =>
    let len := min 3 (n - 3 * i)
    { lane := .req, src := r, dst := if here then awRegion (word d 3) else epXdma, op := 0x03, len := len
      addr := if here then root else awRegion (word d 3) * 2 ^ 25 + root
      arg := clSlot d + x.clGen d * 2 ^ 4 + (3 * i) * 2 ^ 12 + clCombine d * 2 ^ 28 + (if here then 0 else clPeer d * 2 ^ 30)
      data := Memory.read m (x.eff (word d 2) + 192 * i) (64 * len) })

/-- COLLECTIVE_SEND (R397, R399): the source is read and its COLLECTs are issued as tags are free. -/
def execCollectiveSend (k : ChipId) (r : RegionId) (p : TileId) (s : State) : Out :=
  let c := s.chip k
  let t := tileIx r p
  let x := c.tile t
  let d := c.desc r p
  let src := x.eff (word d 2)
  let ms := x.collectMsgs r (c.tileMem r p) d
  let f := fun (c : Chip) => (c.onTile t (fun x =>
    (({ x with written := ms.foldl (fun l (m : Msg) => insertOnce l m.dst) x.written }).countLines src (64 * clRecords d)).hold
      (.send 0 (clTimeout d) (ms.map (fun (m : Msg) => ({ msg := m } : SendMsg)))) [] [])).pump r p
  occurs (c.atCollective r p 1 && !x.moveBusy && x.clear [span src (64 * clRecords d)] []) s
    (s.setChip k (c.issueOp r p (x.sendError d) d f))

/-- The messages of a SEND that wait for their resend. -/
def Pending.resends (k : Pending) : Nat :=
  match k with
  | .send _ _ ms => (ms.filter (fun m => m.resend)).length
  | .wait _ _ _ _ _ => 0 | .collWait _ _ _ => 0 | .fence _ => 0 | .signalFence _ _ => 0
  | .moveIn _ _ => 0 | .out _ => 0

/-- COLLECT_RESEND (R397): a message answered NOT_ARMED goes out again, 256 tile cycles later. -/
def execCollectResend (k : ChipId) (r : RegionId) (p : TileId) (s : State) : Out :=
  let c := s.chip k
  let t := tileIx r p
  let n := ((c.tile t).issued.map (fun i => i.kind.resends)).sum
  let c1 := c.onTile t (fun x => { x with
    retry := satAdd 32 x.retry n
    issued := x.issued.map (fun i => match i.kind with
      | .send a b ms => { i with kind := .send a b (ms.map (fun m => if m.resend then { m with resend := false, sent := false } else m)) }
      | .wait _ _ _ _ _ => i | .collWait _ _ _ => i | .fence _ => i | .signalFence _ _ => i | .moveIn _ _ => i | .out _ => i) })
  occurs (c.running && c.clockRuns r && (c.tile t).err == 0 && decide (0 < n)) s (s.setChip k (c1.pump r p))

/-! ## WAIT, DISARM and their timeouts -/

/-- The error of a WAIT on a slot. -/
def waitSlotError (d : List Nat) : Nat := firstError [(clReserved d, eReserved), (clTimeout d == 0, eCount)]

/-- COLLECTIVE_WAIT (R398): complete at once on a complete slot; else the slot's area counts as written until it is, so
that a later operation on the area waits (R362, log entry 21). -/
def execCollectiveWait (k : ChipId) (r : RegionId) (p : TileId) (s : State) : Out :=
  let c := s.chip k
  let t := tileIx r p
  let d := c.desc r p
  let a := (c.tile t).slot (clSlot d)
  let f := fun (c : Chip) =>
    if a.done then c
    else c.onTile t (fun x => x.hold (.collWait (clSlot d) 0 (clTimeout d)) [] (if a.armed then [span a.area (64 * a.r)] else []))
  occurs (c.atCollective r p 2) s (s.setChip k (c.issueOp r p (waitSlotError d) d f))

/-- COLLECTIVE_DISARM (R398, R400). -/
def execCollectiveDisarm (k : ChipId) (r : RegionId) (p : TileId) (s : State) : Out :=
  let c := s.chip k
  let d := c.desc r p
  let err := firstError [(clReserved d, eReserved)]
  occurs (c.atCollective r p 3) s
    (s.setChip k (c.issueOp r p err d (fun c => c.onTile (tileIx r p) (fun x => x.disarm (clSlot d)))))

/-- The operation of a tile that has outlived its TIMEOUT (R397, R398), and the slot that it waits on. -/
def Tile.expired (x : Tile) : Option (Issued × Option Nat) :=
  x.issued.findSome? (fun i => match i.kind with
    | .send since tmo _ => if tmo ≤ since then some (i, none) else none
    | .collWait slot since tmo => if tmo ≤ since then some (i, some slot) else none
    | .wait _ _ _ _ _ => none | .fence _ => none | .signalFence _ _ => none | .moveIn _ _ => none | .out _ => none)

/-- COLLECTIVE_TIMEOUT (R397, R398, R400): the SEND or WAIT ends the item with COLLECTIVE_TIMEOUT and F-OPS-07; a WAIT's
slot is disarmed. -/
def execCollectiveTimeout (k : ChipId) (r : RegionId) (p : TileId) (s : State) : Out :=
  let c := s.chip k
  let t := tileIx r p
  match (c.tile t).expired with
  | none => occurs false s s
  | some (i, slot) =>
    let c1 := c.onTile t (fun x =>
      let y := { x with issued := x.issued.erase i }
      match slot with | some n => y.disarm n | none => y)
    occurs c.running s (s.setChip k ((c1.itemErrorAt r p eCollective i.off).fault .ops 7 r))

/-! ## COLLECT at the root's region endpoint -/

/-- The REQ at the head of region `r`'s popped requests, once every WR popped before it is written (R316). -/
def Chip.headReq (c : Chip) (r : Nat) : Option Msg :=
  if (c.ep r).popWr.isEmpty then (c.ep r).popReq.head? else none

/-- The head REQ is served with `rsp`. -/
def Chip.answer (c : Chip) (e : Nat) (rsp : Msg) : Chip :=
  (c.onEp e (fun x => { x with popReq := x.popReq.tail })).issueMsg rsp

/-- The logical tile and the offset of an address at a region endpoint; none when R315 turns it away. -/
def tileAddr (a lines : Nat) : Option (Nat × Nat) :=
  if a < 2 ^ 25 && decide (a / 2 ^ 21 < 15) && a % 64 == 0 && decide (a % 2 ^ 21 + 64 * lines ≤ tileTop) then
    some (a / 2 ^ 21, a % 2 ^ 21)
  else none

/-- RESULT of R395 for slot state `s` and a message's GEN, COMBINE, RECORD_INDEX and LEN: 0 ACCEPTED, 1 NOT_ARMED,
2 STALE, 3 EXCESS. -/
def Slot.result (s : Slot) (gen combine ix len : Nat) : Nat :=
  let diff := signed 8 ((gen + 256 - s.gen) % 256)
  if !s.armed || 0 < diff then 1
  else if diff < 0 then 2
  else if combine ≠ s.combine || s.r < ix + len || s.done then 3
  else 0

/-- One record combines into record `i` of the slot's area (R396, R431, R432): memory, item flags, HIST_SAT. -/
def combineInto (s : Slot) (m : List Host.Cell) (i : Nat) (rec_ : List Byte) : List Host.Cell × Nat × Bool :=
  let at_ := s.area + 64 * i
  if s.combine = 0 then
    let (x, fl) := combineRec (Rec.ofBytes (Memory.read m at_ 64)) (Rec.ofBytes rec_)
    (Memory.write m at_ x.bytes, fl, false)
  else if s.combine = 1 then (Memory.write m at_ (maxWords 16 (Memory.read m at_ 64) rec_), 0, false)
  else if s.form = 0x10 then (Memory.write m s.area (mergeList s (Memory.read m s.area (64 * s.r)) rec_), 0, false)
  else
    let (x, sat) := addWords 16 (Memory.read m at_ 64) rec_
    (Memory.write m at_ x, 0, sat)

/-- The records of an accepted COLLECT combine (R396); the slot is complete at N × R records and its waits end. -/
def Chip.combineMsg (c : Chip) (r p n : Nat) (q : Msg) : Chip :=
  let t := tileIx r p
  let s := (c.tile t).slot n
  let ix := field q.arg 12 16
  let out := (List.range q.len).foldl (fun (acc : List Host.Cell × Nat × Bool) i =>
    let (m, fl, sat) := combineInto s acc.1 (ix + i) ((q.data.drop (64 * i)).take 64)
    (m, orFlags acc.2.1 fl, acc.2.2 || sat)) (c.tileMem r p, 0, false)
  let acc := s.accepted + q.len
  let s1 := { s with accepted := acc, done := decide (s.n * s.r ≤ acc) }
  let c1 := (c.onTileMem r p (fun _ => out.1)).onTile t (fun x =>
    let y := { x with slots := x.slots.set n s1, histSat := x.histSat || out.2.2 }
    if s1.done then y.wakeSlot n else y)
  ((c1.raiseFlags r p out.2.1).faultIf out.2.2 .sel 1 r).onRegion r (fun g => { g with lineEvents := g.lineEvents + 2 * q.len })

/-- COLLECT (R315, R395, R396, Table OPS-8). A poisoned REQ is answered POISONED (Table SPN-9); a root whose offset is not
zero, or a LEN outside 1 to 3, is answered TARGET_ERROR (log entry 22). -/
def execCollect (k : ChipId) (r : RegionId) (s : State) : Out :=
  let c := s.chip k
  match c.headReq r with
  | none => occurs false s s
  | some q =>
    let n := field q.arg 0 4
    let c1 :=
      if q.poison then c.answer r (rspTo r q 2 0 [])
      else match tileAddr q.addr 1 with
        | none => (c.answer r (rspTo r q 3 0 [])).fault .til 5 r
        | some (p, off) =>
          if off ≠ 0 || q.len = 0 || 3 < q.len then c.answer r (rspTo r q 3 0 [])
          else
            let res := ((c.tile (tileIx r p)).slot n).result (field q.arg 4 8) (field q.arg 28 2) (field q.arg 12 16) q.len
            let c2 := c.answer r (rspTo r q 0 0 [] res)
            if res = 0 then c2.combineMsg r p n q
            else if res = 1 then c2
            else (c2.onTile (tileIx r p) (fun x => { x with staleDrop := satAdd 32 x.staleDrop 1 })).faultIf (res == 3) .ops 8 r
    occurs (c.running && c.clockRuns r && q.op == 0x03) s (s.setChip k c1)

end Sys2Proof.Machine
end

