-- ==== Sys2Proof/Machine/Image.lean ====
section
/-! DEFINITION. The Quilux image (chapter 07): its header and records as bytes of flash or of a staging buffer, the
checks of R243, R267, R270 and R275, the values it carries, and the ranges of Tables IMG-4 and IMG-5. -/

namespace Sys2Proof.Machine

/-! ## CRC-32 (R268) -/

/-- One bit of the reflected CRC-32. -/
def crcBit (v : Nat) : Nat := if v % 2 = 1 then Nat.xor (v / 2) 0xEDB88320 else v / 2

/-- One byte of the reflected CRC-32. -/
def crcByte (v : Nat) (b : Byte) : Nat :=
  crcBit (crcBit (crcBit (crcBit (crcBit (crcBit (crcBit (crcBit (Nat.xor v b.toNat))))))))

/-- CRC-32 with the IEEE 802.3 polynomial (R268). -/
def crc32 (bs : List Byte) : Nat := Nat.xor (bs.foldl crcByte 0xFFFFFFFF) 0xFFFFFFFF

/-! ## Layout -/

/-- The first byte of image slot `s` in module flash (Table IMG-1): 0 slot A, 1 slot B. -/
def slotBase (s : Nat) : Nat := if s = 0 then 0x100000 else 0x1100000

/-- The size of an image slot. -/
def slotSize : Nat := 0x1000000

/-- The header of Table IMG-2. -/
structure ImgHeader where
  format : Nat
  target : Nat
  stepping : Nat
  generation : Nat
  length : Nat
  records : Nat
  commit : Nat
  hcrc : Nat
deriving DecidableEq, Repr

/-- The header at byte `b` of `m` (R266). -/
def readHeader (m : List Host.Cell) (b : Nat) : ImgHeader :=
  { format := Memory.readLE m (b + 4) 2
    target := Memory.readLE m (b + 6) 1
    stepping := Memory.readLE m (b + 7) 1
    generation := Memory.readLE m (b + 8) 4
    length := Memory.readLE m (b + 12) 4
    records := Memory.readLE m (b + 16) 4
    commit := Memory.readLE m (b + 20) 4
    hcrc := Memory.readLE m (b + 60) 4 }

/-- The bytes 0x00 to 0x3B with COMMIT taken as zero. -/
def headerCommitted (m : List Host.Cell) (b : Nat) : List Byte :=
  Memory.read m b 20 ++ natLE 4 0 ++ Memory.read m (b + 24) 36

/-- HCRC over the bytes as they read (R267). -/
def headerCrcOk (m : List Host.Cell) (b : Nat) : Bool := decide (crc32 (Memory.read m b 60) = (readHeader m b).hcrc)

/-- HCRC with COMMIT taken as zero (R297 check 1). -/
def stagedCrcOk (m : List Host.Cell) (b : Nat) : Bool := decide (crc32 (headerCommitted m b) = (readHeader m b).hcrc)

/-- A record (Table IMG-3). -/
structure ImgRecord where
  typ : Nat
  key : Nat
  index : Nat
  size : Nat
  payload : List Byte
  start : Nat
  crcOk : Bool
deriving DecidableEq, Repr

/-- SIZE rounded up to a 4-byte boundary. -/
def padded (n : Nat) : Nat := (n + 3) / 4 * 4

/-- The records of `m` from byte `p` to byte `stop`. A record that would pass `stop` has a bad CRC. -/
def readRecords (fuel : Nat) (m : List Host.Cell) (p stop : Nat) : List ImgRecord :=
  match fuel with
  | 0 => []
  | n + 1 =>
    if stop ≤ p then []
    else
      let size := Memory.readLE m (p + 6) 2
      let last := p + 8 + padded size
      let rec_ : ImgRecord :=
        { typ := Memory.readLE m p 1
          key := Memory.readLE m (p + 2) 2
          index := Memory.readLE m (p + 4) 2
          size := size
          payload := Memory.read m (p + 8) size
          start := p
          crcOk := decide (last + 4 ≤ stop) && decide (crc32 (Memory.read m p (8 + padded size)) = Memory.readLE m last 4) }
      rec_ :: readRecords n m (last + 4) stop

/-- The records of the image at byte `b`. -/
def imageRecords (m : List Host.Cell) (b : Nat) : List ImgRecord :=
  let len := min (readHeader m b).length slotSize
  readRecords (len / 12) m (b + 64) (b + len)

/-! ## The key catalogue (Tables IMG-4 and IMG-5) -/

/-- One key: its number, instances and payload bytes. -/
structure KeyRow where
  key : Nat
  count : Nat
  size : Nat
deriving DecidableEq, Repr

/-- Table IMG-4. -/
def moduleKeys : List KeyRow :=
  [⟨0x0101, 1, 1⟩, ⟨0x0102, 1, 2⟩, ⟨0x0103, 1, 1⟩, ⟨0x0201, 72, 1⟩, ⟨0x0202, 72, 1⟩, ⟨0x0203, 72, 1⟩, ⟨0x0204, 72, 1⟩,
   ⟨0x0301, 72, 12⟩, ⟨0x0302, 1, 1⟩, ⟨0x0401, 1, 1⟩, ⟨0x0501, 16, 256⟩, ⟨0x0502, 16, 1⟩, ⟨0x0503, 16, 2⟩, ⟨0x0504, 76, 1⟩,
   ⟨0x0601, 1, 2⟩, ⟨0x0602, 1, 1⟩, ⟨0x0603, 3, 2⟩, ⟨0x0701, 1, 1⟩, ⟨0x0702, 1, 1⟩, ⟨0x0703, 1, 1⟩, ⟨0x0801, 8, 4⟩,
   ⟨0x0802, 16, 1⟩, ⟨0x0803, 16, 1⟩, ⟨0x0901, 1, 1⟩, ⟨0x0902, 1, 1⟩, ⟨0x0A01, 1, 2⟩, ⟨0x0A02, 1, 2⟩]

/-- Table IMG-5. -/
def trayKeys : List KeyRow := [⟨0x8001, 8, 1⟩, ⟨0x8002, 1, 1⟩, ⟨0x8003, 8, 1⟩, ⟨0x8004, 1, 2⟩, ⟨0x8005, 1, 2⟩]

/-- A record is a known FIELD or the SIGNATURE, with an INDEX and a SIZE its key has (R270). -/
def recordKnown (keys : List KeyRow) (r : ImgRecord) : Bool :=
  match r.typ with
  | 1 => keys.any (fun k => k.key == r.key && decide (r.index < k.count) && k.size == r.size)
  | 2 => r.key == 0 && r.index == 0 && r.size == 193
  | _ => false

/-- No pair of KEY and INDEX occurs twice among FIELD records, and one SIGNATURE record stands last (R269, R270). -/
def recordsDistinct (rs : List ImgRecord) : Bool :=
  (rs.map (fun r => (r.typ, r.key, r.index))).Nodup

/-- The signature record: the last of the image (R269). -/
def signatureOf (rs : List ImgRecord) : Option ImgRecord :=
  match rs.getLast? with
  | some r => if r.typ = 2 then some r else none
  | none => none

/-- Check 2 of R243: the key hash is in a key slot that is not revoked. -/
def keyAccepted (keys : List Nat) (revoked : List Bool) (rs : List ImgRecord) : Bool :=
  match signatureOf rs with
  | some r => (keys.zipIdx).any (fun e => e.1 == Config.sha384 (r.payload.take 97) && !(revoked.getD e.2 false))
  | none => false

/-- Check 3 of R243: the signature over the digest of every byte before the SIGNATURE record, COMMIT taken as zero. -/
def signatureOk (m : List Host.Cell) (b : Nat) (rs : List ImgRecord) : Bool :=
  match signatureOf rs with
  | some r =>
    let msg := headerCommitted m b ++ Memory.read m (b + 60) (r.start - (b + 60))
    Config.ecdsaP384 (r.payload.take 97) (Config.sha384 msg) ((r.payload.drop 97).take 96)
  | none => false

/-- Check 4 of R243 as R270 states it, for target `target`. -/
def contentKnown (h : ImgHeader) (target : Nat) (keys : List KeyRow) (rs : List ImgRecord) : Bool :=
  h.format == 1 && h.target == target && h.stepping == 0xB0 && h.records == rs.length && decide (h.length ≤ slotSize) &&
  rs.all (recordKnown keys) && recordsDistinct rs

/-- The first failing check of R243 as a RESULT code, 1 when all pass (Table BRU-7). -/
def checkImage (m : List Host.Cell) (b target : Nat) (catalogue : List KeyRow) (keys : List Nat) (revoked : List Bool) :
    Nat :=
  let h := readHeader m b
  let rs := imageRecords m b
  if !rs.all (fun r => r.crcOk) then 3
  else if !keyAccepted keys revoked rs then 4
  else if !signatureOk m b rs then 5
  else if !contentKnown h target catalogue rs then 6
  else 1

/-! ## Values -/

/-- The payload of FIELD record `key`, instance `i`, as a number; `d` when the image does not carry it (R271). -/
def keyVal (rs : List ImgRecord) (key i d : Nat) : Nat :=
  match rs.find? (fun r => r.typ == 1 && r.key == key && r.index == i) with
  | some r => leNat r.payload
  | none => d

/-- The instances `0 .. n − 1` of `key` that the image carries, as a collection. -/
def keyBank (rs : List ImgRecord) (key n d : Nat) : Bank Nat :=
  (List.range n).foldl (fun b i => let v := keyVal rs key i d; if v = d then b else b.set i v) {}

/-- The slot tables: entry `s` of channel `c` at index 256c + s. -/
def slotTables (rs : List ImgRecord) : Bank Nat :=
  (List.range 16).foldl (fun b c =>
    match rs.find? (fun r => r.typ == 1 && r.key == 0x0501 && r.index == c) with
    | some r => (r.payload.zipIdx).foldl (fun b e => if e.1 = 0x7F#8 then b else b.set (256 * c + e.2) e.1.toNat) b
    | none => b) {}

/-- The 72-bit mask of xng.fixed_to (Table IMG-4). -/
def fixedMask (v : Nat) : Nat := v % 2 ^ 72

/-- The image's values, with the default of every key instance it does not carry (R271). -/
def imageValues (generation : Nat) (rs : List ImgRecord) : ImageValues :=
  { generation := generation
    a :=
      { step := keyVal rs 0x0101 0 64
        slotTable := slotTables rs
        starveMode := keyBank rs 0x0502 16 0
        starveLimit := keyBank rs 0x0503 16 1024
        loserMode := keyBank rs 0x0504 76 0
        cap := keyVal rs 0x0601 0 550
        order := keyVal rs 0x0602 0 0
        floorHif := keyVal rs 0x0603 0 15
        floorMem := keyVal rs 0x0603 1 60
        floorSpine := keyVal rs 0x0603 2 40
        stirMode := keyVal rs 0x0701 0 1
        stirPct := keyVal rs 0x0702 0 70
        stirDecay := keyVal rs 0x0703 0 50
        deadline := keyBank rs 0x0801 8 300000
        checked := keyBank rs 0x0802 16 0
        runahead := keyBank rs 0x0803 16 0
        selMode := keyVal rs 0x0901 0 0
        selTie := keyVal rs 0x0902 0 0
        coalesce := keyVal rs 0x0A02 0 10 }
    b := (List.range 72).foldl (fun b r => b.set r
      { partition := keyVal rs 0x0201 r 31
        gangMaster := keyVal rs 0x0202 r r
        spareFor := keyVal rs 0x0203 r 15
        retire := decide (keyVal rs 0x0204 r 0 = 1)
        fixedTo := fixedMask (keyVal rs 0x0301 r 0) }) {}
    c :=
      { frameEpochs := keyVal rs 0x0102 0 10000
        prefer := keyVal rs 0x0103 0 0
        margin := keyVal rs 0x0302 0 2
        ageLimit := keyVal rs 0x0401 0 32
        ringEntries := keyVal rs 0x0A01 0 4096 } }

/-! ## Ranges (Table IMG-4) -/

def ClassA.slotAt (a : ClassA) (c s : Nat) : Nat := a.slotTable.get 0x7F (256 * c + s)
def ClassA.modeAt (a : ClassA) (c : Nat) : Nat := a.starveMode.get 0 c
def ClassA.limitAt (a : ClassA) (c : Nat) : Nat := a.starveLimit.get 1024 c
def ClassA.loserAt (a : ClassA) (i : Nat) : Nat := a.loserMode.get 0 i
def ClassA.deadlineAt (a : ClassA) (c : Nat) : Nat := a.deadline.get 300000 c
def ClassA.checkedAt (a : ClassA) (p : Nat) : Nat := a.checked.get 0 p
def ClassA.runaheadAt (a : ClassA) (p : Nat) : Nat := a.runahead.get 0 p

/-- Region `r`'s class B fields in a shadow or a snapshot. -/
def classB (b : Bank ClassB) (r : Nat) : ClassB := b.get (ClassB.reset r) r

/-- A slot table owner: a requester 0 to 75, or 0x7F. -/
def slotOwnerOk (v : Nat) : Bool := decide (v ≤ 75) || v == 0x7F

/-- Every class A value but the step lies in its range. -/
def ClassA.inRange (a : ClassA) : Bool :=
  (a.slotTable.cells.all (fun e => slotOwnerOk e.2)) &&
  (a.starveMode.cells.all (fun e => decide (e.2 ≤ 1))) &&
  (a.starveLimit.cells.all (fun e => decide (16 ≤ e.2) && decide (e.2 ≤ 65535))) &&
  (a.loserMode.cells.all (fun e => decide (e.2 ≤ 1))) &&
  decide (150 ≤ a.cap) && decide (a.cap ≤ 700) && decide (a.order ≤ 23) &&
  decide (a.floorHif + a.floorMem + a.floorSpine ≤ a.cap) &&
  decide (a.stirMode ≤ 2) && decide (a.stirPct ≤ 100) && decide (1 ≤ a.stirDecay) && decide (a.stirDecay ≤ 50) &&
  (a.deadline.cells.all (fun e => decide (1000 ≤ e.2) && decide (e.2 ≤ 10000000))) &&
  (a.checked.cells.all (fun e => decide (e.2 ≤ 1))) && (a.runahead.cells.all (fun e => decide (e.2 ≤ 1))) &&
  decide (a.selMode ≤ 1) && decide (a.selTie ≤ 1) && decide (a.coalesce ≤ 1000)

/-- A step code in its range (R105). -/
def stepOk (m : Nat) : Bool := decide (64 ≤ m) && decide (m ≤ 176)

/-- A partition number that is 0 to 15 or 31 (Table DIE-5). -/
def partitionOk (p : Nat) : Bool := decide (p ≤ 15) || p == 31

/-- Every class B value lies in its range. -/
def classBInRange (b : Bank ClassB) : Bool :=
  allRegions.all (fun r => partitionOk (classB b r).partition && decide ((classB b r).gangMaster ≤ 71) &&
    decide ((classB b r).spareFor ≤ 15))

/-- Every class C value lies in its range. -/
def ClassC.inRange (c : ClassC) : Bool :=
  [5000, 8000, 10000, 20000, 25000, 40000].contains c.frameEpochs && decide (c.prefer ≤ 1) && decide (c.margin ≤ 15) &&
  decide (1 ≤ c.ageLimit) && decide (c.ageLimit ≤ 63) &&
  [64, 128, 256, 512, 1024, 2048, 4096, 8192, 16384, 32768].contains c.ringEntries

/-- The payload ranges that the parsed values no longer show: RETIRE is 0 or 1, FIXED_TO word 2 has no bit above 7. -/
def rawInRange (rs : List ImgRecord) : Bool :=
  rs.all (fun r => !(r.typ == 1 && r.key == 0x0204) || decide (leNat r.payload ≤ 1)) &&
  rs.all (fun r => !(r.typ == 1 && r.key == 0x0301) || decide (leNat r.payload < 2 ^ 72))

/-- The ranges of Table IMG-4 hold for the whole image (R273). -/
def imageInRange (rs : List ImgRecord) (v : ImageValues) : Bool :=
  rawInRange rs && v.a.inRange && stepOk v.a.step && classBInRange v.b && v.c.inRange

/-! ## The region map (R71, R74, R75, R77) -/

/-- The members of the gang whose master is `g` in the map `b`. -/
def gangOf (b : Nat → ClassB) (g : Nat) : List Nat := allRegions.filter (fun r => (b r).gangMaster = g)

/-- Gang `g` of the map meets R75, or is a single region that names itself. -/
def gangOk (b : Nat → ClassB) (g : Nat) : Bool :=
  let ms := gangOf b g
  match ms with
  | [] => true
  | m :: t =>
    if t = [] then m == g
    else
      decide (ms.length ≤ 4) && m == g &&
      (ms.zipIdx).all (fun e => e.1 == g + e.2) && decide (g % 9 + ms.length ≤ 9) &&
      ms.all (fun r => (b r).partition == (b g).partition && (b r).partition != 31 && !(b r).retire)

/-- Every region's partition lies in its range, the first check of R77. -/
def partitionsOk (b : Nat → ClassB) : Bool := allRegions.all (fun r => partitionOk (b r).partition)

/-- The checks of R77: partition range, R71, R74 and R75 for the whole map. -/
def mapOk (b : Nat → ClassB) : Bool :=
  allRegions.all (fun r => partitionOk (b r).partition && decide ((b r).gangMaster ≤ 71) &&
    (!(b r).retire || (b r).partition == 31)) &&
  allRegions.all (fun g => gangOk b g)

/-! ## The tray image (Table IMG-5) -/

/-- The values of a tray image. -/
def trayImageValues (m : List Host.Cell) : TrayImage :=
  let rs := imageRecords m 0
  { generation := (readHeader m 0).generation
    enable := (List.range 8).map (fun n => keyVal rs 0x8001 n 1 == 1)
    split := keyVal rs 0x8002 0 0 == 1
    slotPort := (List.range 8).map (fun n => keyVal rs 0x8003 n 0)
    perModule := keyVal rs 0x8004 0 900
    budget := keyVal rs 0x8005 0 4400 }

/-- The ranges of Table IMG-5. -/
def trayInRange (m : List Host.Cell) : Bool :=
  let rs := imageRecords m 0
  (List.range 8).all (fun n => decide (keyVal rs 0x8001 n 1 ≤ 1)) && decide (keyVal rs 0x8002 0 0 ≤ 1) &&
  (List.range 8).all (fun n => decide (keyVal rs 0x8003 n 0 ≤ 1)) &&
  decide (600 ≤ keyVal rs 0x8004 0 900) && decide (keyVal rs 0x8004 0 900 ≤ 1200) &&
  decide (1200 ≤ keyVal rs 0x8005 0 4400) && decide (keyVal rs 0x8005 0 4400 ≤ 5600)

/-- A tray image passes the header CRC, the checks of R243 with Table IMG-5, and the ranges (R33, R275). -/
def trayImageOk (m : List Host.Cell) (keys : List Nat) (revoked : List Bool) : Bool :=
  headerCrcOk m 0 && checkImage m 0 2 trayKeys keys revoked == 1 && trayInRange m

end Sys2Proof.Machine
end

