-- ==== Sys2Proof/Machine/RingOps.lean ====
section
/-! DEFINITION. The completion path (R613 to R621): rings, the completion hold and its reservations, command
completions and the commands a ring has handed over. -/

namespace Sys2Proof.Machine

/-- N, the entries of a ring in force. -/
def Chip.ringN (c : Chip) : Nat := c.img.nowC.ringEntries

/-- The ring is enabled as HIF treats it (R603, R616). -/
def Chip.ringOn (c : Chip) (g : Nat) : Bool := (c.ring g).enable && !c.hif.d3

/-- The completions of ring `g` on their way to the ring. -/
def Chip.compQueue (c : Chip) (g : Nat) : List Completion := c.seq.compOut.get [] g

/-- Entries of completion ring `g` that are free, those on their way counted as taken (R615). -/
def Chip.ringRoom (c : Chip) (g : Nat) : Nat :=
  let n := c.ringN
  let x := c.ring g
  if c.ringOn g then n - 1 - (x.cplTail + n - x.cplHead) % n - (c.compQueue g).length else 0

/-- The hold keeps an entry of ring `g`. -/
def Chip.holdsFor (c : Chip) (g : Nat) : Bool := c.seq.hold.any (fun e => e.1 == g)

/-- Hold entries neither taken nor reserved (R620: 8,192). -/
def Chip.holdFree (c : Chip) : Nat := 8192 - c.seq.reserved - (c.seq.hold.filter (fun e => e.2.releases == 0)).length

/-- A ring entry or a hold entry is free for each of `n` completions of ring `g` (R620). -/
def Chip.roomForCompletions (c : Chip) (g n : Nat) : Bool :=
  decide (n ≤ c.holdFree) || (!c.holdsFor g && decide (n ≤ c.ringRoom g))

/-- A completion goes to ring `g`, or enters the hold when the ring is full or disabled or the hold keeps an earlier
entry of it (R620, R621); F-HIF-06 for the first hold entry of each ring in a frame. -/
def Chip.post (c : Chip) (g : Nat) (x : Completion) : Chip :=
  if !c.holdsFor g && decide (0 < c.ringRoom g) then
    c.onSeq (fun q => { q with compOut := q.compOut.update [] g (fun l => l ++ [x]) })
  else
    (c.onSeq (fun q => { q with hold := q.hold ++ [(g, x)], holdFault := insertOnce q.holdFault g })).faultIf
      (!c.seq.holdFault.contains g) .hif 6 g

/-- The 64 bytes of a completion entry (Table HIF-5). -/
def Completion.bytes (x : Completion) (phase : Bool) (cmdHead : Nat) : List Byte :=
  natLE 1 (flag phase + 2 * x.typ) ++ natLE 1 x.status ++ natLE 2 x.error ++ natLE 4 x.word4 ++ natLE 4 x.word8 ++
  natLE 4 x.frame ++ natLE 1 x.gen ++ natLE 1 x.flags ++ natLE 2 cmdHead ++ natLE 4 0 ++ natLE 8 x.epoch ++
  natLE 8 x.res0 ++ natLE 8 x.res1 ++ natLE 16 0

/-- HIF writes a completion at CPL_TAIL of ring `g` (R615): PHASE flips on a wrap, the item's reservation is
released (R620). -/
def State.writeCompletion (s : State) (k g : Nat) (x : Completion) : State :=
  let c := s.chip k
  let r := c.ring g
  let n := c.ringN
  let tail := (r.cplTail + 1) % n
  let c1 := (c.setRing g { r with cplTail := tail, phase := if tail = 0 then !r.phase else r.phase }).onSeq
    (fun q => { q with reserved := q.reserved - x.releases })
  { (s.setChip k c1) with
    hostMem := Memory.write s.hostMem (r.cplBase + 64 * r.cplTail) (x.bytes r.phase r.cmdHead) }

/-! ## Commands of a ring -/

/-- A field of a command entry. -/
def entryField (bs : List Byte) (off n : Nat) : Nat := leNat ((bs.drop off).take n)

/-- OPCODE, BARRIER and TAG of a command entry (Table HIF-4). -/
def entryOp (bs : List Byte) : Nat := entryField bs 0 1
def entryBarrier (bs : List Byte) : Bool := bit (entryField bs 1 1) 0
def entryTag (bs : List Byte) : Nat := entryField bs 4 4

/-- The oldest command that ring `g` has handed over, when it is of opcode `op` and may start (R622): after a BARRIER's
predecessors, and after the running background command of its opcode. -/
def Chip.front (c : Chip) (g op : Nat) : Option (List Byte) :=
  match (c.ring g).handed.head? with
  | some h =>
    let bg := (c.ring g).background
    if entryOp h.bytes = op && !(entryBarrier h.bytes && !bg.isEmpty) && bg.all (fun b => entryOp b.bytes != op)
    then some h.bytes else none
  | none => none

/-- The command at the front of ring `g` leaves it. -/
def Chip.popCommand (c : Chip) (g : Nat) : Chip := c.onRing g (fun r => { r with handed := r.handed.tail })

/-- The command at the front of ring `g` goes on in the background (R622). -/
def Chip.toBackground (c : Chip) (g : Nat) : Chip :=
  c.onRing g (fun r => { r with handed := r.handed.tail, background := r.background ++ r.handed.head?.toList })

/-- The background command of opcode `op` on ring `g`. -/
def Chip.background (c : Chip) (g op : Nat) : Option (List Byte) :=
  ((c.ring g).background.find? (fun h => entryOp h.bytes == op)).map (fun h => h.bytes)

/-- The background command of opcode `op` on ring `g` is done. -/
def Chip.endBackground (c : Chip) (g op : Nat) : Chip :=
  c.onRing g (fun r => { r with background := r.background.filter (fun h => entryOp h.bytes != op) })

/-- The command completion of entry `bs` (Table HIF-5): STATUS 0 OK, 1 REFUSED, 2 FAILED. -/
def Chip.complete (c : Chip) (g : Nat) (bs : List Byte) (status code : Nat) (res0 res1 : Nat := 0) : Chip :=
  c.post g { typ := 1, status := status, error := code, word4 := entryTag bs, word8 := entryOp bs,
             epoch := c.time.epoch, res0 := res0, res1 := res1 }

/-- Refusal of the command at the front of ring `g` with fault F-TAG-nn of `inst` (R624). -/
def Chip.refuse (c : Chip) (g : Nat) (bs : List Byte) (tag : Tag) (nn inst : Nat) : Chip :=
  ((c.popCommand g).fault tag nn inst).complete g bs 1 (codeOf tag nn)

/-- The parameter bytes of each opcode, as (offset, size) (Table HIF-6). -/
def entryParams (op : Nat) : Option (List (Nat × Nat)) :=
  match op with
  | 0x01 => some [(8, 4), (12, 1), (13, 1), (14, 2), (16, 2), (20, 4), (24, 4), (28, 4), (32, 4), (36, 4), (40, 4)]
  | 0x02 => some [(8, 4), (12, 1), (16, 4)]
  | 0x03 => some [(8, 4)]
  | 0x04 => some [(8, 4)]
  | 0x05 => some [(8, 4)]
  | 0x06 => some [(8, 4), (16, 8)]
  | 0x10 => some [(8, 1), (9, 1), (12, 4), (16, 4), (20, 4), (24, 8), (32, 8), (40, 4)]
  | 0x11 => some [(8, 1), (9, 1), (32, 8), (40, 4)]
  | 0x12 => some [(8, 1), (16, 8)]
  | 0x20 => some [(8, 4), (12, 4), (16, 8), (24, 1), (32, 8)]
  | 0x40 => some [(8, 2), (10, 1), (12, 4), (16, 8)]
  | 0x50 => some []
  | _ => none

/-- The entry has a known opcode, no nonzero reserved byte or flag, and every field in its range (R617, R624, R628):
sessions below 262,144, classes below 8, partitions below 16, aligned addresses, known regions, tiles, counters. -/
def entryValid (bs : List Byte) : Bool :=
  let op := entryOp bs
  match entryParams op with
  | none => false
  | some ps =>
    let used := fun (i : Nat) => i == 0 || i == 1 || (decide (4 ≤ i) && decide (i < 8)) ||
      ps.any (fun p => decide (p.1 ≤ i) && decide (i < p.1 + p.2))
    let clean := (List.range 64).all (fun i => used i || (bs.getD i 0) == 0) && decide (entryField bs 1 1 < 2)
    let f := entryField bs
    let session := decide (op < 1 || 6 < op) || decide (f 8 4 < 262144)
    let aligned := fun (o : Nat) => decide (f o 8 % 64 = 0)
    clean && session &&
    (match op with
     | 0x01 => decide (f 12 1 < 8) && decide (f 13 1 < 16)
     | 0x02 => decide (f 12 1 < 2)
     | 0x06 => aligned 16
     | 0x10 => decide (f 8 1 < 16) && aligned 24 && aligned 32 && decide (f 24 8 + 4320 ≤ 2 ^ 36) &&
               decide (f 32 8 + 16 * f 40 4 ≤ 2 ^ 36)
     | 0x11 => decide (f 8 1 < 72) && decide (f 9 1 < 15) && aligned 32 && decide (f 32 8 + 16 * f 40 4 ≤ 2 ^ 36)
     | 0x12 => decide (f 8 1 < 16) && aligned 16
     | 0x20 => decide (1 ≤ f 12 4) && decide (f 8 4 + f 12 4 ≤ 65561) && decide (f 24 1 < 2) && aligned 32
     | 0x40 => decide (f 8 2 < 1024) && decide (f 10 1 < 4) && !(f 10 1 == 0 && decide (2 ^ 32 ≤ f 16 8))
     | _ => true)

end Sys2Proof.Machine
end

