-- ==== Sys2Proof/Machine/SeqOps.lean ====
section
/-! DEFINITION. The Session Sequencer's shared operations (chapter 11): descriptors and their cache, the deadline
heaps, completions of frames, admission, stages, the end, return and abort of items, residency and ADMIT. -/

namespace Sys2Proof.Machine

/-! ## Descriptors (R442 to R445) -/

/-- The code of a session state (Table SES-2). -/
def SessState.code (x : SessState) : Nat :=
  match x with | .free => 0 | .open_ => 1 | .armed => 2 | .ready => 3 | .running => 4 | .ahead => 5

/-- The 64 bytes of a descriptor (Table SES-1). -/
def Session.bytes (x : Session) : List Byte :=
  natLE 1 x.state.code ++ natLE 1 x.cls ++ natLE 1 x.partition ++
  natLE 1 (flag x.cur + 2 * flag x.armPending + 4 * flag x.held + 8 * flag x.confirmed + 16 * flag x.closePending) ++
  natLE 2 x.account ++ natLE 1 x.gen ++ natLE 1 0 ++ natLE 4 x.frame ++ natLE 2 x.outBytes ++ natLE 2 0 ++
  natLE 8 x.deadline ++ natLE 4 x.stateLine0 ++ natLE 4 x.stateLine1 ++ natLE 4 x.checkLine ++
  natLE 4 x.audioLine ++ natLE 4 x.outLine ++ natLE 4 x.user ++ natLE 8 x.endEpoch ++ natLE 8 0

/-- The descriptor that a full cache gives up: the spec does not say which, so the choice is free (log entry 9). -/
def Chip.victim (c : Chip) : Nat :=
  c.seq.cache.getD (Config.victimPick c.slotId c.time.tick c.seq.evictNo % c.seq.cache.length) 0

/-- SEQ uses descriptor `i` (R444): a miss fetches it and is counted; when 8,192 are cached, one of them is written back
to the session table and leaves the cache. -/
def Chip.cacheSession (c : Chip) (i : Nat) : Chip :=
  if c.seq.cache.contains i then c
  else if c.seq.cache.length < 8192 then
    c.onSeq (fun q => { q with cache := q.cache ++ [i], cacheMiss := satAdd 64 q.cacheMiss 1 })
  else
    let j := c.victim
    ({ c with mem := Memory.write c.mem (64 * j) (c.session j).bytes }).onSeq (fun q => { q with
      cache := q.cache.erase j ++ [i], cacheMiss := satAdd 64 q.cacheMiss 1, evictNo := q.evictNo + 1 })

/-- SEQ changes descriptor `i`. -/
def Chip.useSession (c : Chip) (i : Nat) (f : Session → Session) : Chip := (c.cacheSession i).onSession i f

/-! ## Values in force -/

/-- CHECKED and RUNAHEAD of partition `p` in force (R470). -/
def Chip.checkedNow (c : Chip) (p : Nat) : Bool := c.img.nowA.checked.get 0 p == 1
def Chip.runaheadNow (c : Chip) (p : Nat) : Bool := c.img.nowA.runahead.get 0 p == 1

/-- The class deadline in force (R453). -/
def Chip.classDeadline (c : Chip) (cls : Nat) : Nat := c.img.nowA.deadline.get 300000 cls

/-! ## Heaps (R458, R472) -/

/-- The sessions of partition `p` that are READY. -/
def Chip.heap (c : Chip) (p : Nat) : List (Nat × Session) :=
  c.seq.sessions.pick (fun _ x => x.state == .ready && x.partition == p)

/-- A heap entry comes before another: DEADLINE, then CLASS, then session index. -/
def heapBefore (a b : Nat × Session) : Bool :=
  decide (a.2.deadline < b.2.deadline) || (a.2.deadline == b.2.deadline &&
    (decide (a.2.cls < b.2.cls) || (a.2.cls == b.2.cls && decide (a.1 ≤ b.1))))

/-- The head of a heap. -/
def heapHead (l : List (Nat × Session)) : Option Nat :=
  match l with
  | [] => none
  | x :: t => some ((t.foldl (fun a b => if heapBefore a b then a else b) x).1)

/-- The queued AHEAD sessions of partition `p`. -/
def Chip.queuedAhead (c : Chip) (p : Nat) : List (Nat × Session) :=
  c.seq.sessions.pick (fun _ x => x.state == .ahead && !x.inFlight && !x.held && x.partition == p)

/-- The candidate armed first (R472). -/
def firstArmed (l : List (Nat × Session)) : Option Nat :=
  match l with
  | [] => none
  | x :: t => some ((t.foldl (fun a b => if a.2.order ≤ b.2.order then a else b) x).1)

/-- The session that partition `p` admits next (R459, R472). -/
def Chip.nextToAdmit (c : Chip) (p : Nat) : Option Nat :=
  match heapHead (c.heap p) with
  | some i => some i
  | none => firstArmed (c.queuedAhead p)

/-! ## Frame completions (R468) -/

/-- The completion of a frame of session `i`. -/
def Chip.frameCompletion (c : Chip) (i : Nat) (status gen : Nat) (err flags : Nat) (late spec : Bool) (epoch releases : Nat) :
    Chip :=
  let x := c.session i
  c.post x.partition
    { typ := 0, status := status, error := err, word4 := i, word8 := x.user, frame := x.frame, gen := gen
      flags := flags % 64 + 64 * flag late + 128 * flag spec, epoch := epoch, releases := releases }

/-- Hold entries that a session's item still has reserved: two, less one once its PROVISIONAL is posted (R620). -/
def Session.reservedEntries (x : Session) : Nat :=
  if x.held then 1 else if x.inFlight || x.readmit then 2 else 0

/-- CLOSE with no item in flight (Table SES-4): CANCELLED for the frame pending and for ARM_PENDING, then FREE. -/
def Chip.closeNow (c : Chip) (i : Nat) (releases : Nat) : Chip :=
  let x := c.session i
  let c1 := match x.state with
    | .armed => c.frameCompletion i 2 x.gen 0 0 false false c.time.epoch releases
    | .ready => c.frameCompletion i 2 x.gen 0 0 false false c.time.epoch (if x.armPending then releases - 1 else releases)
    | .ahead => c.frameCompletion i 2 (if x.held then (x.gen + 255) % 256 else x.gen) 0 (if x.held then x.heldFlags else 0)
        (x.held && x.heldLate) true c.time.epoch releases
    | .free => c | .open_ => c | .running => c
  let c2 := if x.armPending && x.state == .ready then c1.frameCompletion i 2 x.gen 0 0 false false c.time.epoch (min releases 1) else c1
  c2.setSession i { x with
    state := .free, armPending := false, held := false, confirmed := false, closePending := false, inFlight := false
    cancelled := false, readmit := false }

/-- How many completions CLOSE of an idle session posts. -/
def Session.closeCount (x : Session) : Nat :=
  match x.state with
  | .armed => 1 | .ready => if x.armPending then 2 else 1 | .ahead => 1
  | .free => 0 | .open_ => 0 | .running => 0

/-- After the final completion of an item: a CLOSE_PENDING is carried out (R486) with what the item still has reserved. -/
def Chip.afterFinal (c : Chip) (i : Nat) (releases : Nat) : Chip :=
  if (c.session i).closePending then c.closeNow i releases else c

/-- CONFIRM of a HELD frame (Table SES-4): CUR flips, DONE, OPEN. -/
def Chip.confirmHeld (c : Chip) (i : Nat) (late : Bool) : Chip :=
  let c1 := c.onSession i (fun x => { x with cur := !x.cur, frame := (x.frame + 1) % 2 ^ 32 })
  let x := c1.session i
  let c2 := c1.frameCompletion i 0 ((x.gen + 255) % 256) 0 x.heldFlags (x.heldLate || late) true x.endEpoch 1
  c2.onSession i (fun x => { x with state := .open_, held := false, confirmed := false })

/-! ## Item ends (R465, R467, R471, Table SES-4) -/

/-- The output bytes of both lanes give unequal CRCs (R471). -/
def Chip.lanesDiffer (c : Chip) (i : Nat) : Bool :=
  let x := c.session i
  let a := x.outLine * 64
  crc32 (Memory.read c.mem a x.outBytes) != crc32 (Memory.read c.mem (a + x.outBytes) x.outBytes)

/-- The end of item `n` and its completion (Table SES-4, Table SES-6, R456). -/
def Chip.finishItem (c : Chip) (n : Nat) : Chip :=
  match c.item n with
  | none => c
  | some it =>
    let i := it.session
    let now := c.time.epoch
    let x0 := c.session i
    let late := decide (x0.deadline ≤ now)
    let p := it.partition
    let c1 := (c.dropItem n).useSession i (fun x => { x with endEpoch := now, inFlight := false, readmit := false })
    let c2 := if late then
        ((c1.onPart p (fun q => { q with late := satAdd 64 q.late 1, lateFault := true })).faultIf (!(c.part p).lateFault) .ses 2 p)
      else c1
    let mismatch := it.checked && !it.aborted && it.err == 0 && c2.lanesDiffer i
    let c3 := if mismatch then
        (c2.onPart p (fun q => { q with mismatch := satAdd 32 q.mismatch 1 })).fault .ses 3 p
      else c2
    let status := if it.aborted then 5 else if it.err ≠ 0 then 3 else if mismatch then 4 else 0
    let err := if status = 3 then it.err else 0
    if it.spec then
      if x0.cancelled then
        let c4 := c3.frameCompletion i 2 it.gen err it.flags late true now 2
        (c4.onSession i (fun x => { x with state := .open_, cancelled := false, confirmed := false })).afterFinal i 0
      else if status = 0 then
        let c4 := c3.frameCompletion i 1 it.gen 0 it.flags late true now 1
        let c5 := c4.onSession i (fun x => { x with held := true, heldLate := late, heldFlags := it.flags })
        if x0.confirmed then (c5.confirmHeld i x0.heldLate).afterFinal i 0 else c5.afterFinal i 1
      else
        let c4 := c3.frameCompletion i status it.gen err it.flags late true now 2
        (c4.onSession i (fun x => { x with state := .open_, confirmed := false })).afterFinal i 0
    else
      let closes := x0.closePending && x0.armPending
      let c4 := if status = 0 then c3.onSession i (fun x => { x with cur := !x.cur, frame := (x.frame + 1) % 2 ^ 32 }) else c3
      let c5 := c4.frameCompletion i status it.gen err it.flags late false now (if closes then 1 else 2)
      let c6 := c5.onSession i (fun x =>
        if x.armPending then
          { x with state := .armed, armPending := false
                   audioLine := if x.pendAudio = 0 then x.audioLine else x.pendAudio, pendAudio := 0 }
        else { x with state := .open_ })
      c6.afterFinal i (if closes then 1 else 0)

/-! ## Lanes and stages -/

/-- Lane `l` of the item. -/
def Item.lane (x : Item) (l : Nat) : LaneRun := if l = 0 then x.lane0 else x.lane1
def Item.setLane (x : Item) (l : Nat) (y : LaneRun) : Item := if l = 0 then { x with lane0 := y } else { x with lane1 := y }

/-- The tiles (15r + t) of stage `st` of lane `l` of partition `p`'s map (R457). -/
def Chip.stageTiles (c : Chip) (p l st : Nat) : List Nat :=
  (c.seq.tiles.pick (fun t e => e.valid && e.lane == l && e.stage == st && (c.region (t / 15)).cfg.partition == p)).map (fun e => e.1)

/-- The stages of lane `l` of partition `p`'s map. -/
def Chip.stageCount (c : Chip) (p l : Nat) : Nat :=
  (c.seq.tiles.pick (fun t e => e.valid && e.lane == l && (c.region (t / 15)).cfg.partition == p)).foldl
    (fun n e => max n (e.2.stage + 1)) 0

/-- Every tile of the stage is idle and every region of it is SERVING (R459, R462). -/
def Chip.stageReady (c : Chip) (ts : List Nat) : Bool :=
  !ts.isEmpty && ts.all (fun t => (c.tile t).seqIdle && (c.region (t / 15)).status == .serving)

/-- The lane runs no stage: it has not started, or its stage has ended. -/
def LaneRun.quiet (l : LaneRun) : Bool := !l.used || l.finished || !l.started || l.waitEnds.isEmpty

/-- The lane's state after an item-end report: its stage may have ended, and with the last stage or an error the lane
has (R462, R465, R467). -/
def LaneRun.settle (l : LaneRun) (stages : Nat) (stop : Bool) : LaneRun :=
  if !l.used || l.finished then l
  else if l.started && !l.waitEnds.isEmpty then l
  else if stop then { l with finished := true, started := false }
  else if !l.started then l
  else if l.stage + 1 < stages then { l with stage := l.stage + 1, started := false }
  else { l with finished := true, started := false }

/-- Item `n` after a change of what it waits for: its lanes settle, and it ends when every lane it uses has. -/
def Chip.settleItem (c : Chip) (n : Nat) : Chip :=
  match c.item n with
  | none => c
  | some it =>
    let stop := it.aborted || it.err != 0
    let it1 := { it with
      lane0 := it.lane0.settle (c.stageCount it.partition 0) stop
      lane1 := it.lane1.settle (c.stageCount it.partition 1) stop }
    let c1 := c.setItem n it1
    if (!it1.lane0.used || it1.lane0.finished) && (!it1.lane1.used || it1.lane1.finished) then c1.finishItem n else c1

/-- The START payload of a stage for lane `l` and mask `mask` (Tables SES-3, SES-5). -/
def Chip.startPayload (c : Chip) (n : Nat) (it : Item) (l mask : Nat) : List Byte :=
  let x := c.session it.session
  let committed := if x.cur then x.stateLine1 else x.stateLine0
  let shadow := if x.cur then x.stateLine0 else x.stateLine1
  let a2 := if l = 0 then shadow else x.checkLine
  let a3 := if l = 0 then x.outLine * 64 else x.outLine * 64 + x.outBytes
  natLE 8 (it.audio * 64) ++ natLE 8 (committed * 64) ++ natLE 8 (a2 * 64) ++ natLE 8 a3 ++
  natLE 2 mask ++ natLE 1 it.gen ++ natLE 1 (flag it.spec) ++ natLE 2 it.account ++ natLE 2 n ++ natLE 24 0

/-- The regions of a list of tiles. -/
def regionsOfTiles (ts : List Nat) : List Nat := ts.foldl (fun rs t => insertOnce rs (t / 15)) []

/-- The tile mask of region `r` in a list of tiles. -/
def tileMask (ts : List Nat) (r : Nat) : Nat := ((ts.filter (fun t => t / 15 == r)).map (fun t => 2 ^ (t % 15))).sum

/-- SEQ starts the lane's next stage of item `n` (R462, R463): one START to each region of the stage. -/
def Chip.startStage (c : Chip) (n l : Nat) : Chip :=
  match c.item n with
  | none => c
  | some it =>
    let lane := it.lane l
    let ts := c.stageTiles it.partition l lane.stage
    let c1 := (c.countAux 3 1).setItem n (it.setLane l { lane with started := true, waitEnds := ts })
    let c2 := ts.foldl (fun c t => c.onTile t (fun x => { x with seqIdle := false })) c1
    (regionsOfTiles ts).foldl (fun c r => c.send
      { lane := .wr, src := epSeq, dst := r, op := 0x10, len := 1, data := c.startPayload n it l (tileMask ts r) }) c2

/-! ## Admission (R459 to R461, R470, R472) -/

/-- The lanes that an item of session `i` would take now (R459, R488). -/
def Chip.admitLanes (c : Chip) (p i : Nat) : Option (Bool × Bool) :=
  let lanes := (c.part p).lanes
  let ok0 := c.stageReady (c.stageTiles p 0 0)
  let ok1 := decide (lanes = 2) && c.stageReady (c.stageTiles p 1 0)
  if (c.session i).dispChecked then (if ok0 && ok1 then some (true, true) else none)
  else if ok0 then some (true, false) else if ok1 then some (false, true) else none

/-- Partition `p` may take session `i` (R459, R466, R470, R482, R552, R620, R621). -/
def Chip.mayAdmit (c : Chip) (p i : Nat) : Bool :=
  let q := c.part p
  c.bru.ready && !c.stew.coolantStop && q.model == 1 && !(c.checkedNow p && q.lanes == 1) && !c.holdsFor p &&
  decide (0 < q.liveAdmit) && ((c.session i).readmit || decide (q.admitted < q.liveAdmit)) &&
  decide (c.seq.items.cells.length < 4096) &&
  ((c.session i).readmit || decide (2 ≤ c.holdFree))

/-- An ITEM number that no item in flight uses: the spec does not say which, so the choice is free (log entry 10). -/
def Chip.freeItem (c : Chip) : Nat :=
  let free := (List.range 4096).filter (fun n => (c.item n).isNone)
  free.getD (Config.itemPick c.slotId c.time.tick c.seq.itemNo % free.length) 0

/-- SEQ admits session `i` on the lanes given (R461, R463): the item takes the descriptor's GEN, two hold entries are
reserved, stage 0 starts. -/
def Chip.admitItem (c : Chip) (i : Nat) (lanes : Bool × Bool) : Chip :=
  let c0 := c.cacheSession i
  let x := c0.session i
  let n := c0.freeItem
  let it : Item :=
    { session := i, partition := x.partition, gen := x.gen, spec := x.state == .ahead, checked := x.dispChecked
      account := x.account, cls := x.cls, audio := x.audioLine
      lane0 := { used := lanes.1 }, lane1 := { used := lanes.2 }, seqNo := c.seq.itemNo }
  let c1 := c0.setSession i { x with
    gen := (x.gen + 1) % 256, inFlight := true, state := if x.state = .ready then .running else x.state, readmit := false
    heldLate := false, heldFlags := 0 }
  let c2 := (c1.setItem n it).onSeq (fun q => { q with
    itemNo := q.itemNo + 1, reserved := if x.readmit then q.reserved else q.reserved + 2 })
  let c3 := if x.readmit then c2 else c2.onPart x.partition (fun q => { q with admitted := satAdd 32 q.admitted 1 })
  let c4 := if lanes.1 then (c3.countAux 3 1).startStage n 0 else c3.countAux 3 1
  if lanes.2 then c4.startStage n 1 else c4

/-! ## Returns and aborts (R466, R467) -/

/-- The tiles of item `it` to which a START went that has not begun. -/
def Item.unbegun (it : Item) : List Nat :=
  (it.lane0.waitEnds ++ it.lane1.waitEnds).filter (fun t => !it.begun.contains t)

/-- Item `n` is queued in region `r` (R466). -/
def Item.queuedIn (it : Item) (r : Nat) : Bool := it.unbegun.any (fun t => t / 15 == r)

/-- Item `n` is running a stage in region `r`. -/
def Item.runsIn (it : Item) (r : Nat) : Bool :=
  (it.lane0.waitEnds ++ it.lane1.waitEnds).any (fun t => t / 15 == r && it.begun.contains t)

/-- SEQ returns item `n` to its partition's heap (R466): outstanding starts cancelled, DEADLINE kept, not counted in
ADMITTED again. A run-ahead item is queued again; a CANCEL or CLOSE decided meanwhile takes effect. -/
def Chip.returnItem (c : Chip) (n : Nat) : Chip :=
  match c.item n with
  | none => c
  | some it =>
    let i := it.session
    let c1 := it.unbegun.foldl (fun c t => c.onTile t (fun x => { x with seqIdle := true })) (c.dropItem n)
    let c2 := c1.useSession i (fun x => { x with
      inFlight := false, readmit := true, state := if x.state = .running then .ready else x.state })
    let x := c2.session i
    if it.spec && x.cancelled then
      let c3 := c2.frameCompletion i 2 it.gen 0 0 false true c.time.epoch 2
      (c3.onSession i (fun x => { x with state := .open_, cancelled := false, confirmed := false, readmit := false })).afterFinal i 0
    else if x.closePending then c2.closeNow i 2
    else c2

/-- SEQ returns every item queued in region `r` (R79, Table IMG-6 step 3). -/
def Chip.returnQueued (c : Chip) (r : Nat) : Chip :=
  (c.seq.items.pick (fun _ it => it.queuedIn r && !it.aborted)).foldl (fun c e => c.returnItem e.1) c

/-- The tile without its item: its sequencer is idle and waits for nothing (R360, R552). -/
def Tile.stopped (x : Tile) : Tile :=
  { x with running := false, ended := false, endFence := false, issued := [], loops := [], calls := []
           slots := x.armedSlots.foldl (fun b n => b.erase n) x.slots, armedSlots := [], written := [], err := 0
           itemFlags := 0, seqIdle := true }

/-- The tiles of region `r` stop. -/
def Chip.stopTiles (c : Chip) (r : Nat) : Chip :=
  (List.range 15).foldl (fun c p => if (c.tile (tileIx r p)).running || !(c.tile (tileIx r p)).seqIdle
    then c.onTile (tileIx r p) Tile.stopped else c) c

/-- Items that run a stage in region `r` will end ABORTED once their other started stages end; items queued there go
back (R467). -/
def Chip.abortRegion (c : Chip) (r : Nat) : Chip :=
  let c1 := (c.seq.items.pick (fun _ it => it.runsIn r)).foldl (fun c e =>
    match c.item e.1 with
    | none => c
    | some it =>
      let cut := fun (l : LaneRun) => { l with waitEnds := l.waitEnds.filter (fun t => t / 15 != r) }
      (c.setItem e.1 { it with aborted := true, lane0 := cut it.lane0, lane1 := cut it.lane1 }).settleItem e.1) c
  (c1.returnQueued r).stopTiles r

/-- Every item in flight ends ABORTED, and every tile sequencer goes idle (R552). -/
def Chip.abortAll (c : Chip) : Chip :=
  let c1 := c.seq.items.cells.foldl (fun c e =>
    match c.item e.1 with
    | none => c
    | some it => (c.setItem e.1 { it with aborted := true }).finishItem e.1) c
  { c1 with tiles := c1.tiles.mapCells (fun _ x => if x.running || !x.seqIdle then x.stopped else x) }

/-! ## Residency (R476 to R483) -/

/-- CAPACITY of partition `p` (R476). -/
def Chip.capacityOf (c : Chip) (p : Nat) : Nat :=
  23592960 * ((c.regionsOf p).filter (fun r => match (c.region r).status with
    | .serving => true | .out => true | .retired => false | .isolated => false)).length

/-- SPILL_SLOTS of partition `p` (R479): slots in force that name a region of it. -/
def Chip.spillSlotsOf (c : Chip) (p : Nat) : Nat :=
  let rs := c.regionsOf p
  ((List.range 16).map (fun h => ((c.chan h).slots.pick (fun _ id => rs.contains id)).length)).sum

/-- The arithmetic of R480. -/
def admitOf (spill frameEpochs lanes overflow : Nat) : Nat :=
  if overflow = 0 then 0xFFFFFFFF else min 0xFFFFFFFF (spill * 58 * frameEpochs / (lanes * overflow))

/-- SEQ recomputes CAPACITY, SHORTFALL, SPILL_SLOTS and ADMIT of partition `p` (R476, R479, R482); F-SES-06 when the
ADMIT of a loaded model becomes 0. -/
def Chip.refreshPart (c : Chip) (p : Nat) : Chip :=
  if 16 ≤ p then c
  else
    let q := c.part p
    let cap := c.capacityOf p
    let sp := c.spillSlotsOf p
    let adm := admitOf sp c.img.nowC.frameEpochs q.lanes q.liveOverflow
    let q1 := { q with capacity := cap, shortfall := q.required - cap, spillSlots := sp }
    if q.model = 0 then c.setPart p q1
    else (c.setPart p { q1 with admitReg := adm, liveAdmit := adm }).faultIf
      (q.model == 1 && adm == 0 && q.liveAdmit != 0) .ses 6 p

/-- Every partition is recomputed (R482: a commit of slot tables). -/
def Chip.refreshAll (c : Chip) : Chip := (List.range 16).foldl (fun c p => c.refreshPart p) c

/-- Region `r` holds a valid tile of its partition's map. -/
def Chip.mapped (c : Chip) (r : Nat) : Bool := (List.range 15).any (fun t => (c.mapEntry (tileIx r t)).valid)

/-- The model of partition `p` stops being RESIDENT (R483): F-SES-07. -/
def Chip.loseModel (c : Chip) (p : Nat) : Chip :=
  if (c.part p).model = 1 then (c.onPart p (fun q => { q with model := 2 })).fault .ses 7 p else c

/-- F-SES-10 once for a one-lane model under CHECKED (R470). -/
def Chip.checkLanes (c : Chip) (p : Nat) : Chip :=
  let q := c.part p
  let bad := q.model == 1 && q.lanes == 1 && c.checkedNow p
  (c.onPart p (fun x => { x with laneFault := bad })).faultIf (bad && !q.laneFault) .ses 10 p

/-- Region `r`'s STATUS changes to RETIRED or ISOLATED, or leaves it, or its partition changes: the model that maps it
is lost (R483), the capacities follow (R476), an empty partition is reported (R82: F-DIE-04). `f` is the change. -/
def Chip.changeRegion (c : Chip) (r : Nat) (f : Region → Region) : Chip :=
  let x := c.region r
  let y := f x
  let p := x.cfg.partition
  let p' := y.cfg.partition
  let gone := y.status == .retired || y.status == .isolated
  let c1 := if (gone || p != p') && decide (p < 16) && c.mapped r then c.loseModel p else c
  let c2 := c1.setRegion r y
  let c3 := (c2.refreshPart p).refreshPart p'
  c3.faultIf (decide (p < 16) && p != p' && (c3.regionsOf p).isEmpty) .die 4 p

end Sys2Proof.Machine
end

