-- ==== Sys2Proof/Machine/RegionOps.lean ====
section
/-! DEFINITION. What happens to a whole region: draining, stalling, isolation (R173), hardware changes of class B
fields (R78, R282), tile failures (R79 to R81), retirement, gang dissolution (R126) and the return to SERVING. -/

namespace Sys2Proof.Machine

/-- The logical tile that position `q` of region `r` serves (R63): none for an unused spare and a replaced position. -/
def Chip.logicalAt (c : Chip) (r q : Nat) : Option Nat :=
  let sp := (c.region r).cfg.spareFor
  if q = 15 then (if sp < 15 then some sp else none) else if sp = q then none else some q

/-- Region `r` is drained (R287, R184). -/
def Chip.drained (c : Chip) (r : Nat) : Bool :=
  (c.region r).status == .isolated ||
  ((List.range 15).all (fun p => (c.tile (tileIx r p)).seqIdle && !(c.tile (tileIx r p)).running) &&
   (queuesOf r).all (fun q => (c.queue q).items.isEmpty && (c.queue q).waiting.isEmpty) &&
   decide ((c.ep r).reservedFlits = 0))

/-- Region `r` is stalled (R171): a queue that it reads holds an item, or has refused a push. -/
def Chip.stalled (c : Chip) (r : Nat) : Bool :=
  (queuesOf r).any (fun q => isEject q && (!(c.queue q).items.isEmpty || c.refuses r (queueLane q)))

/-- A class B change that the hardware makes on its own (R78, R282): in force, in the shadow, in a pending commit's
snapshot and in an active roll's. -/
def Chip.hwSetB (c : Chip) (r : Nat) (f : ClassB → ClassB) : Chip :=
  let d := ClassB.reset r
  c.onImg (fun i => { i with
    shadowB := i.shadowB.update d r f
    snapB := if i.pending then i.snapB.update d r f else i.snapB
    rollB := if i.rollActive then i.rollB.update d r f else i.rollB })

/-- Every logical tile of region `r` runs on a position that has not failed (R64). -/
def Chip.tilesWork (c : Chip) (r : Nat) : Bool := (List.range 15).all (fun p => !bit (c.region r).posFail (c.positionOf r p))

/-- Every SLAVED member of the gang of region `r` is within 20 ps (R122, R554). -/
def Chip.gangTight (c : Chip) (r : Nat) : Bool :=
  (c.gang r).all (fun x => (c.gen x).state != .slaved || (c.gen x).deskewed)

/-- Region `r` may serve: OUT, in a partition, with 15 working logical tiles (R64), its clock LOCKED and its gang within 20 ps, no tile to reload, no model to
load (R126, R554, R627). -/
def Chip.servable (c : Chip) (r : Nat) : Bool :=
  let x := c.region r
  x.status == .out && decide (x.cfg.partition < 16) && c.tilesWork r && !x.retireLater && !x.isoSinkOn && c.lockedFor r && c.gangTight r && x.awaitTiles.isEmpty && !x.awaitModel &&
  c.bru.ready && !c.stew.coolantStop && c.img.rollRegion != r && c.dissolves.all (fun d => !d.members.contains r)

/-- The region returns to SERVING. -/
def Chip.serve (c : Chip) (r : Nat) : Chip :=
  c.onRegion r (fun x => { x with status := .serving, awaitLock := false })

/-- The region returns to SERVING when it may. -/
def Chip.serveIfReady (c : Chip) (r : Nat) : Chip := if c.servable r then c.serve r else c

/-- Every region that waits for its clock returns to SERVING when it may (R124, R126, R554, R734). -/
def Chip.serveWaiting (c : Chip) : Chip :=
  (allRegions.filter (fun r => (c.region r).awaitLock)).foldl (fun c r => c.serveIfReady r) c

/-- The region leaves SERVING for OUT and SEQ redistributes its queued items (R79). -/
def Chip.goOut (c : Chip) (r : Nat) : Chip :=
  ((c.onRegion r (fun x => { x with status := if x.status = .serving then .out else x.status })).returnQueued r)

/-! ## Isolation (R173 to R175) -/

/-- The REQ of endpoint `e` with `tag` is still on its way: before or in its injection queue, or in the routers. -/
def Chip.reqOnItsWay (c : Chip) (e tag : Nat) : Bool :=
  let here := fun (f : Flit) => (f.msg.lane == .req || f.msg.lane == .evt) && f.msg.src == e && f.msg.reqTag == tag
  let q := c.queue (injQ e .req)
  q.items.any here || q.waiting.any here || c.flying.any (fun f => here f.flit)

/-- Live-side requests that wait for an RSP from region `r` receive ISOLATED (R175). -/
def Chip.answerIsolated (c : Chip) (r : Nat) : Chip :=
  let due := fun (x : Endpoint) (e : Nat) => x.outstanding.filter (fun o => o.dst == r && !o.void && !c.reqOnItsWay e o.tag)
  { c with eps := c.eps.mapCells (fun e x => { x with
      popRsp := x.popRsp ++ (due x e).map (fun o => { lane := .rsp, src := r, dst := e, tag := o.tag, status := 1 }) }) }

/-- MGT isolates region `r` (R173, R219, R393, R467, R483): STATUS ISOLATED, the endpoint a sink, both sides of its
queues reset, F-XNG-01; SEQ aborts what runs there, returns what is queued and frees the region's parked waiters. A
retired region stays RETIRED (R736). -/
def Chip.isolate (c : Chip) (r : Nat) : Chip :=
  let c1 := c.changeRegion r (fun x =>
    { x with status := if x.status = .retired then .retired else .isolated, isoSinkOn := true, awaitLock := false })
  let c2 := (queuesOf r).foldl (fun c q => c.resetQueue q) c1
  let c3 := (c2.answerIsolated r).onEp r (fun x =>
    { x with outstanding := [], reserved := 0, delayed := [], out := [], popRsp := [], popWr := [], popEvt := [], popReq := [] })
  let c4 := (c3.fault .xng 1 r).abortRegion r
  c4.onSeq (fun q => { q with waiters := q.waiters.filter (fun w => w.src != r) })

/-! ## Retirement and tile failure (R79 to R81, R735, R736) -/

/-- The gang of region `r` in a snapshot is dissolved there: every member its own master (R282). -/
def dissolveIn (b : Bank ClassB) (r : Nat) : Bank ClassB :=
  (gangOf (classB b) (classB b r).gangMaster).foldl (fun b x =>
    b.update (ClassB.reset x) x (fun f => { f with gangMaster := x })) b

/-- The roll's step of region `r` is over: the roll moves on behind it (R285, R306). -/
def Img.passRegion (i : Img) (r : Nat) : Img :=
  { i with rollRegion := 255, rollTries := 0, rollApplied := false, rollEnded := true
           rollNext := match i.rollPhase with | .applying => r + 1 | .leaving => r | .idle => i.rollNext }

/-- Region `r` is retired (R81, R282, R306): RETIRE and PARTITION 31 in one cycle; its gang in a snapshot is dissolved,
and a roll's step of it ends. -/
def Chip.retire (c0 : Chip) (r : Nat) : Chip :=
  let c := (c0.onImg (fun i => if i.rollActive && i.rollRegion == r then i.passRegion r else i)).onImg (fun i => { i with
    snapB := if i.pending then dissolveIn i.snapB r else i.snapB
    rollB := if i.rollActive then dissolveIn i.rollB r else i.rollB })
  let f := fun (b : ClassB) => { b with retire := true, partition := 31 }
  let c1 := (c.hwSetB r f).changeRegion r (fun x => { x with cfg := f x.cfg, status := .retired, retireLater := false, awaitLock := false })
  c1.abortRegion r

/-- The G3 begins to dissolve the gang of region `r` (R126 step 1). -/
def Chip.startDissolve (c : Chip) (r : Nat) : Chip :=
  let m := (c.region r).cfg.gangMaster
  if c.dissolves.any (fun d => d.master == m) then c
  else
    let ms := c.gang r
    let c1 := ms.foldl (fun c x => (c.goOut x).onRegion x (fun g => { g with awaitLock := true })) c
    { c1 with dissolves := c1.dissolves ++ [{ master := m, members := ms }] }

/-- Position `q` of region `r` has failed (R79 to R81, R263, R735). The failure of an idle position, the unused spare or the one that
the spare replaces, sets its bit in POS_FAIL and leaves the region as it is; an unused spare whose own position has failed is not free
for R80 (DEDUCED, log entry 57). -/
def Chip.failTile (c : Chip) (r q : Nat) : Chip :=
  let x := c.region r
  let c1 := c.onRegion r (fun x => { x with posFail := if bit x.posFail q then x.posFail else x.posFail + 2 ^ q })
  if x.status == .retired then c1
  else match c.logicalAt r q with
    | none => c1
    | some p =>
      let c2 := c1.goOut r
      let free := x.cfg.spareFor == 15 && !x.spareBad && !bit x.posFail 15
      if free then
        let f := fun (b : ClassB) => { b with spareFor := p }
        ((c2.hwSetB r f).onRegion r (fun x => { x with
          cfg := f x.cfg, awaitTiles := if c.bru.ready then insertOnce x.awaitTiles p else x.awaitTiles })).fault .die 2 r
      else
        let c3 := c2.fault .die 3 r
        if c.inGang r then (c3.onRegion r (fun x => { x with retireLater := true })).startDissolve r else c3.retire r

/-- The apply cycle of a dissolution (R126 steps 3 to 5, R81). In a snapshot the gangs of all its members are dissolved (R282; DEDUCED
from R286 for a member that is not retired, log entry 65). -/
def Chip.applyDissolve (c : Chip) (d : Dissolve) : Chip :=
  let own := fun (c : Chip) (r : Nat) =>
    let f := fun (b : ClassB) => { b with gangMaster := r }
    let slaved := (c.gen r).state == .slaved
    let c1 := (c.hwSetB r f).onRegion r (fun x => { x with cfg := f x.cfg })
    if slaved then c1.onGen r Gen.enterCal else c1
  let snap := fun (b : Bank ClassB) => d.members.foldl dissolveIn b
  let c0 := ({ c with dissolves := c.dissolves.filter (fun x => x.master != d.master) } : Chip).onImg (fun i => { i with
    snapB := if i.pending then snap i.snapB else i.snapB
    rollB := if i.rollActive then snap i.rollB else i.rollB })
  let c1 := (d.members.foldl own c0).switchQueues d.members false
  let c2 := (d.members.filter (fun r => (c.region r).retireLater)).foldl (fun c r => c.retire r) c1
  d.members.foldl (fun c r => if (c.region r).awaitLock then c.serveIfReady r else c) c2

end Sys2Proof.Machine
end

