-- ==== Sys2Proof/Machine/Counters.lean ====
section
/-! DEFINITION. The 1,024 event counters of SEQ (R384 to R393, R404, R405): ADD, SET, WAIT_GE, CTR_READ, the parked
waiters and the counters' owners. -/

namespace Sys2Proof.Machine

/-! ## Admission (R390) -/

/-- Owner `o` admits an operation from endpoint `src`: a fixed block of the table always, a tile by its region's
partition. -/
def Chip.ownerAdmits (c : Chip) (o src : Nat) : Bool :=
  if isRegionEp src then (o == 30 || (decide (o < 16) && (c.region src).cfg.partition == o))
  else src == epHif || src == epXdma || src == epSeq || src == epMgt || src == epDbg

/-- The operation from `src` on counter `n` is admitted. -/
def Chip.admitsCounter (c : Chip) (n src : Nat) : Bool := c.ownerAdmits (c.seq.owner.get 31 n) src

/-- An operation that is not admitted: counted, F-OPS-03. -/
def Chip.denyCounter (c : Chip) : Chip :=
  (c.onSeq (fun q => { q with denied := satAdd 32 q.denied 1 })).fault .ops 3 noInstance

/-! ## Waiters -/

/-- SEQ answers the waiter `w` with `outcome` and the counter's value (R386): an RSP to its endpoint, or the completion of
the ring's COUNTER command (R629). -/
def Chip.answerWaiter (c : Chip) (w : Waiter) (outcome : Nat) : Chip :=
  let v := c.seq.ctr.get 0 w.counter
  match w.ring with
  | none => c.issueMsg { lane := .rsp, src := epSeq, dst := w.src, tag := w.tag, arg := outcome + v * 2 ^ 4 }
  | some g =>
    match c.background g 0x40 with
    | some bs => (c.endBackground g 0x40).complete g bs 0 0 outcome v
    | none => c

/-- A waiter in wake order: ascending VALUE, ties in parking order (R388). -/
def wakeBefore (a b : Waiter) : Bool := decide (a.value < b.value) || (a.value == b.value && decide (a.order ≤ b.order))

/-- Waiters sorted in wake order. -/
def wakeSort (ws : List Waiter) : List Waiter := ws.foldl insertW []
where
  insertW (l : List Waiter) (w : Waiter) : List Waiter :=
    match l with
    | [] => [w]
    | x :: t => if wakeBefore x w then x :: insertW t w else w :: x :: t

/-- SEQ wakes every parked waiter on counter `n` whose VALUE the counter meets (R388). -/
def Chip.wakeCounter (c : Chip) (n : Nat) : Chip :=
  let v := c.seq.ctr.get 0 n
  let met := fun (w : Waiter) => w.counter == n && decide (w.value ≤ v)
  let ws := wakeSort (c.seq.waiters.filter met)
  let c1 := c.onSeq (fun q => { q with waiters := q.waiters.filter (fun w => !met w) })
  ws.foldl (fun c w => c.answerWaiter w 0) c1

/-- The rings whose COUNTER command a change of counter `n` to `v` would complete: each needs room (R620). -/
def Chip.ringsWoken (c : Chip) (n v : Nat) : List Nat :=
  (c.seq.waiters.filter (fun w => w.counter == n && decide (w.value ≤ v))).filterMap (fun w => w.ring)

/-- Room for one completion on each ring of the list. -/
def Chip.roomForAll (c : Chip) (gs : List Nat) : Bool := gs.all (fun g => c.roomForCompletions g (gs.count g))

/-! ## The operations (R385) -/

/-- The counter's value after ADD of `v`. -/
def Chip.sumCounter (c : Chip) (n v : Nat) : Nat := min (c.seq.ctr.get 0 n + v) (2 ^ 64 - 1)

/-- ADD: saturates at 2^64 − 1 with EVT.SAT and F-OPS-04; the waiters wake. -/
def Chip.addCounter (c : Chip) (n v : Nat) : Chip :=
  let tooBig := decide (2 ^ 64 ≤ c.seq.ctr.get 0 n + v)
  let c1 := (c.countAux 3 1).onSeq (fun q => { q with
    ctr := q.ctr.set n (c.sumCounter n v), sat := if tooBig then insertOnce q.sat n else q.sat })
  (c1.faultIf tooBig .ops 4 noInstance).wakeCounter n

/-- SET: writes the value; the waiters wake. -/
def Chip.setCounter (c : Chip) (n v : Nat) : Chip :=
  ((c.countAux 3 1).onSeq (fun q => { q with ctr := q.ctr.set n v })).wakeCounter n

/-- WAIT_GE (R385 to R387): answered at once when the counter meets VALUE or the pool is full, else parked. -/
def Chip.waitCounter (c0 : Chip) (w : Waiter) : Chip :=
  let c := c0.countAux 3 1
  if w.value ≤ c.seq.ctr.get 0 w.counter then c.answerWaiter w 0
  else if 4096 ≤ c.seq.waiters.length then
    (c.onSeq (fun q => { q with poolFull := satAdd 32 q.poolFull 1 })).answerWaiter w 2
  else c.onSeq (fun q => { q with
    waiters := q.waiters ++ [{ w with order := q.parkNo }], parkNo := q.parkNo + 1
    waitPeak := max q.waitPeak (q.waiters.length + 1) })

/-! ## EVT messages at SEQ -/

/-- The counter of a message. -/
def evtCounter (m : Msg) : Nat := field m.addr 0 10

/-- The EVT at the head of SEQ's popped messages. -/
def Chip.headEvt (c : Chip) (op : Nat) : Option Msg :=
  match (c.ep epSeq).popEvt.head? with
  | some m => if m.op = op then some m else none
  | none => none

/-- The head EVT leaves SEQ's queue. -/
def Chip.dropEvt (c : Chip) : Chip := c.onEp epSeq (fun x => { x with popEvt := x.popEvt.tail })

/-- The head EVT has an OP that SEQ does not define (Table OPS-8). -/
def Chip.oddEvt (c : Chip) : Bool :=
  match (c.ep epSeq).popEvt.head? with
  | some m => m.op == 0 || decide (3 < m.op)
  | none => false

/-- EVT_ADD (R385, R388, R390, Table OPS-8). An EVT of an OP that SEQ does not define is dropped. -/
def execEvtAdd (k : ChipId) (s : State) : Out :=
  let c := s.chip k
  match c.headEvt 1 with
  | none => occurs (c.running && c.oddEvt) s (s.setChip k c.dropEvt)
  | some m =>
    let n := evtCounter m
    let v := field m.arg 0 32
    let c1 := if c.admitsCounter n m.src then c.dropEvt.addCounter n v else c.dropEvt.denyCounter
    occurs (c.running && c.roomForAll (c.ringsWoken n (c.sumCounter n v))) s (s.setChip k c1)

/-- EVT_SET (R385, R388, R390). -/
def execEvtSet (k : ChipId) (s : State) : Out :=
  let c := s.chip k
  match c.headEvt 2 with
  | none => occurs false s s
  | some m =>
    let n := evtCounter m
    let v := field m.arg 0 64
    let c1 := if c.admitsCounter n m.src then c.dropEvt.setCounter n v else c.dropEvt.denyCounter
    occurs (c.running && c.roomForAll (c.ringsWoken n v)) s (s.setChip k c1)

/-- The waiter that a WAIT_GE message stands for (Table OPS-8). -/
def waiterOf (m : Msg) : Waiter :=
  { counter := evtCounter m, value := field m.arg 0 64, src := m.src, tag := field m.arg 88 8, timeout := field m.arg 64 24 }

/-- EVT_WAIT_GE (R385 to R387, R390). -/
def execEvtWaitGe (k : ChipId) (s : State) : Out :=
  let c := s.chip k
  match c.headEvt 3 with
  | none => occurs false s s
  | some m =>
    let w := waiterOf m
    let c1 := if c.admitsCounter w.counter m.src then c.dropEvt.waitCounter w
      else (c.dropEvt.denyCounter).answerWaiter w 3
    occurs c.running s (s.setChip k c1)

/-- CTR_READ (R384, R390, Table OPS-8). A REQ of an OP that SEQ does not define is answered TARGET_ERROR, a poisoned one
POISONED. EVT messages come first (R384). -/
def execCtrRead (k : ChipId) (s : State) : Out :=
  let c := s.chip k
  match c.headReq epSeq with
  | none => occurs false s s
  | some q =>
    let n := field q.addr 0 10
    let v := c.seq.ctr.get 0 n
    let c1 :=
      if q.poison then c.answer epSeq (rspTo epSeq q 2 0 [])
      else if q.op ≠ 0x08 then c.answer epSeq (rspTo epSeq q 3 0 [])
      else if c.admitsCounter n q.src then c.answer epSeq (rspTo epSeq q 0 0 [] (v * 2 ^ 4))
      else (c.answer epSeq (rspTo epSeq q 0 0 [] (3 + v * 2 ^ 4))).denyCounter
    occurs (c.running && q.op != 0x04 && (c.ep epSeq).popEvt.isEmpty) s (s.setChip k c1)

/-- WAITER_TIMEOUT (R389): a waiter that has been parked for more than TIMEOUT epochs. -/
def execWaiterTimeout (k : ChipId) (src : EpId) (tag : Nat) (s : State) : Out :=
  let c := s.chip k
  match c.seq.waiters.find? (fun w => w.src == src.val && w.tag == tag && decide (w.timeout < w.since)) with
  | none => occurs false s s
  | some w =>
    let c1 := c.onSeq (fun q => { q with waiters := q.waiters.erase w })
    occurs (c.running && c.roomForAll w.ring.toList) s (s.setChip k (c1.answerWaiter w 1))

/-- A write of EVT.OWNER[i] (R390): 16 to 29 are refused with F-HIF-01 and counted in HIF.BAD_ACCESS. -/
def Chip.writeOwner (c : Chip) (i v : Nat) : Chip :=
  let o := v % 32
  if 16 ≤ o && o ≤ 29 then
    (c.onHif (fun h => { h with badAccess := satAdd 32 h.badAccess 1 })).fault .hif 1 noInstance
  else c.onSeq (fun q => { q with owner := q.owner.set i o })

/-- EVT_OWNER_WRITE (R390). -/
def execEvtOwnerWrite (k : ChipId) (i : Fin 1024) (v : Word) (s : State) : Out :=
  let c := s.chip k
  occurs c.running s (s.setChip k (c.writeOwner i v.toNat))

end Sys2Proof.Machine
end

