-- ==== Sys2Proof/Machine/Sync.lean ====
section
/-! DEFINITION. SIGNAL, WAIT, LOOP, CALL, FENCE and the end of an item (R376 to R378, R381 to R383, R391, R392, R402,
R403, R464). -/

namespace Sys2Proof.Machine

/-! ## FENCE and SIGNAL (R381, R382) -/

/-- The FLUSHes of a FENCE: one to each endpoint written since the last, with its tag. -/
def Chip.flushes (c : Chip) (r : Nat) (x : Tile) : List Msg :=
  (x.written.zip (c.freeTags r)).map (fun e => { lane := .req, src := r, dst := e.1, op := 0x04, tag := e.2 })

/-- There is a tag for each FLUSH. -/
def Chip.canFlush (c : Chip) (r : Nat) (x : Tile) : Bool := decide (x.written.length ≤ (c.freeTags r).length)

/-- The FENCE's messages go out and the tile keeps what waits for their RSPs. -/
def Chip.fenceFor (c : Chip) (r p : Nat) (k : List Nat → Pending) : Chip :=
  let t := tileIx r p
  let ms := c.flushes r (c.tile t)
  let c1 := c.onTile t (fun x => ({ x with written := [] }).hold (k (ms.map (fun (m : Msg) => m.tag))) [] [])
  ms.foldl (fun c m => c.issueMsg m) c1

/-- FENCE (R382): it starts when every earlier operation has completed (log entry 23). -/
def execFence (k : ChipId) (r : RegionId) (p : TileId) (s : State) : Out :=
  let c := s.chip k
  let x := c.tile (tileIx r p)
  let d := c.desc r p
  let err := firstError [(reservedFrom d 1, eReserved)]
  let f := fun (c : Chip) => if x.written.isEmpty then c else c.fenceFor r p .fence
  occurs (c.atOp r p 0x0D && x.issued.isEmpty && c.canFlush r x) s (s.setChip k (c.issueOp r p err d f))

def sgCounter (d : List Nat) : Nat := field (word d 1) 0 10
def sgFence (d : List Nat) : Bool := bit (word d 1) 11

/-- The error of a SIGNAL (Table OPS-6, R741). -/
def signalError (d : List Nat) : Nat :=
  firstError [(reservedFrom d 3 || above (word d 1) 12 || (!bit (word d 1) 10 && above (word d 2) 32), eReserved)]

/-- The EVT of a SIGNAL: OP 1 ADD, 2 SET. -/
def signalMsg (r : Nat) (d : List Nat) : Msg :=
  { lane := .evt, src := r, dst := epSeq, op := if bit (word d 1) 10 then 2 else 1, addr := sgCounter d, arg := word d 2 }

/-- The tile issues an EVT and is incomplete until it is injected (Table OPS-1). -/
def Chip.issueEvt (c : Chip) (r p : Nat) (m : Msg) : Chip :=
  (c.issueMsg m).onTile (tileIx r p) (fun x => x.hold (.out [m]) [] [])

/-- SIGNAL with OPC 0 ADD or 1 SET. -/
def signalWith (k : ChipId) (r : RegionId) (p : TileId) (set_ : Bool) (s : State) : Out :=
  let c := s.chip k
  let x := c.tile (tileIx r p)
  let d := c.desc r p
  let m := signalMsg r d
  let f := fun (c : Chip) =>
    if sgFence d && !x.written.isEmpty then c.fenceFor r p (fun ts => .signalFence ts m) else c.issueEvt r p m
  occurs (c.atOp r p 0x09 && !x.moveBusy && bit (word d 1) 10 == set_ && (!sgFence d || (x.issued.isEmpty && c.canFlush r x))) s
    (s.setChip k (c.issueOp r p (signalError d) d f))

/-- SIGNAL_ADD (R382, R385). -/
def execSignalAdd (k : ChipId) (r : RegionId) (p : TileId) (s : State) : Out := signalWith k r p false s

/-- SIGNAL_SET (R382, R385). -/
def execSignalSet (k : ChipId) (r : RegionId) (p : TileId) (s : State) : Out := signalWith k r p true s

/-! ## WAIT (R391, R392) -/

def wtTimeout (d : List Nat) : Nat := field (word d 1) 10 24

/-- The error of a WAIT. -/
def waitError (d : List Nat) : Nat :=
  firstError [(reservedFrom d 3 || above (word d 1) 34, eReserved), (wtTimeout d == 0, eCount)]

/-- The WAIT_GE message (Table OPS-8). -/
def waitMsg (r tag counter value timeout : Nat) : Msg :=
  { lane := .evt, src := r, dst := epSeq, op := 3, addr := counter
    arg := value + timeout * 2 ^ 64 + tag * 2 ^ 88 }

/-- WAIT (R365, R391): the WAIT_GE goes out and the operation is incomplete until its wake. -/
def execWait (k : ChipId) (r : RegionId) (p : TileId) (s : State) : Out :=
  let c := s.chip k
  let d := c.desc r p
  let t := c.freeTag r
  let f := fun (c : Chip) =>
    (c.issueMsg (waitMsg r t (sgCounter d) (word d 2) (wtTimeout d))).onTile (tileIx r p) (fun x =>
      x.hold (.wait t (sgCounter d) (word d 2) (wtTimeout d) false) [] [])
  occurs (c.atOp r p 0x0A && !(c.tile (tileIx r p)).moveBusy && !(c.freeTags r).isEmpty) s (s.setChip k (c.issueOp r p (waitError d) d f))

/-- The oldest WAIT of the tile that POOL_FULL turned away. -/
def Tile.retrying (x : Tile) : Option Issued :=
  x.issued.find? (fun i => match i.kind with
    | .wait _ _ _ _ retry => retry
    | .send _ _ _ => false | .collWait _ _ _ => false | .fence _ => false | .signalFence _ _ => false
    | .moveIn _ _ => false | .out _ => false)

/-- WAIT_RETRY (R391): 256 tile cycles after POOL_FULL the WAIT_GE is sent again and the retry is counted. -/
def execWaitRetry (k : ChipId) (r : RegionId) (p : TileId) (s : State) : Out :=
  let c := s.chip k
  let t := tileIx r p
  match (c.tile t).retrying with
  | none => occurs false s s
  | some i =>
    let tag := c.freeTag r
    let c1 := match i.kind with
      | .wait _ n v tmo _ =>
        (c.issueMsg (waitMsg r tag n v tmo)).onTile t (fun x => { x with
          retry := satAdd 32 x.retry 1
          issued := x.issued.map (fun j => if j = i then { i with kind := .wait tag n v tmo false } else j) })
      | .send _ _ _ => c | .collWait _ _ _ => c | .fence _ => c | .signalFence _ _ => c | .moveIn _ _ => c | .out _ => c
    occurs (c.running && c.clockRuns r && !(c.freeTags r).isEmpty) s (s.setChip k c1)

/-- The tile's WAIT whose tag is `tag`. -/
def Tile.waitOf (x : Tile) (tag : Nat) : Option Issued :=
  x.issued.find? (fun i => match i.kind with
    | .wait t _ _ _ retry => t == tag && !retry
    | .send _ _ _ => false | .collWait _ _ _ => false | .fence _ => false | .signalFence _ _ => false
    | .moveIn _ _ => false | .out _ => false)

/-- A WAIT ends the item with `code` (R391). -/
def Chip.waitFails (c : Chip) (r p : Nat) (i : Issued) (code : Nat) : Chip :=
  (c.onTile (tileIx r p) (fun x => { x with issued := x.issued.erase i })).itemErrorAt r p code i.off

/-- WAIT_RESERVATION_TIMEOUT (R392): TIMEOUT + 1,000 epochs after its injection a WAIT_GE has no wake: the reservation is
freed, and the wait of tile `p` that it belongs to is handled as TIMEOUT. One that its item abandoned (R403) only frees
the reservation. -/
def execWaitReservationTimeout (k : ChipId) (r : RegionId) (p : TileId) (s : State) : Out :=
  let c := s.chip k
  let late := (c.ep r).outstanding.filter (fun o => o.wait_ && decide (o.limit + 1000 ≤ o.age))
  let mine := late.find? (fun o => ((c.tile (tileIx r p)).waitOf o.tag).isSome)
  let orphan := late.find? (fun o => (List.range 15).all (fun q => ((c.tile (tileIx r q)).waitOf o.tag).isNone))
  match mine with
  | some o =>
    let c1 := c.onEp r (fun x => x.release o.tag)
    let c2 := match (c.tile (tileIx r p)).waitOf o.tag with
      | some i => (c1.waitFails r p i eWait).fault .ops 6 r
      | none => c1
    occurs c.running s (s.setChip k c2)
  | none =>
    match orphan with
    | some o => occurs c.running s (s.setChip k (c.onEp r (fun x => x.release o.tag)))
    | none => occurs false s s

/-! ## LOOP and CALL (R377, R378) -/

def lpBody (d : List Nat) : Nat := field (word d 1) 16 8
def lpRegA (d : List Nat) : Nat := field (word d 1) 24 4
def lpRegB (d : List Nat) : Nat := field (word d 1) 28 4

/-- The frame of a LOOP at the PC. -/
def Tile.loopFrame (x : Tile) (d : List Nat) : LoopFrame :=
  { start := x.pc + 64, stop := x.pc + 64 + 64 * lpBody d, left := field (word d 1) 0 16 + 1
    regA := lpRegA d, regB := lpRegB d
    strideA := signed 32 (field (word d 2) 0 32), strideB := signed 32 (field (word d 2) 32 32)
    saveA := x.a.get 0 (lpRegA d - 1), saveB := x.a.get 0 (lpRegB d - 1), level := x.calls.length }

/-- The body of a LOOP ends within the body that encloses it at the same call level (R378). -/
def Tile.bodyFits (x : Tile) (d : List Nat) : Bool :=
  match x.loops with
  | [] => true
  | f :: _ => f.level != x.calls.length || decide ((x.loopFrame d).stop ≤ f.stop)

/-- The error of a LOOP (R378, Table OPS-6). -/
def Tile.loopError (x : Tile) (d : List Nat) : Nat :=
  firstError
    [(reservedFrom d 3 || above (word d 1) 32, eReserved),
     (lpBody d == 0 || decide (8 < lpRegA d) || decide (8 < lpRegB d), eCount),
     (decide (4 ≤ x.loops.length) || !x.bodyFits d, eStack)]

/-- LOOP (R377, R378). -/
def execLoop (k : ChipId) (r : RegionId) (p : TileId) (s : State) : Out :=
  let c := s.chip k
  let x := c.tile (tileIx r p)
  let d := c.desc r p
  let f := fun (c : Chip) => c.onTile (tileIx r p) (fun x => { x with loops := x.loopFrame d :: x.loops })
  occurs (c.atOp r p 0x0B) s (s.setChip k (c.issueOp r p (x.loopError d) d f))

def caRet (d : List Nat) : Bool := bit (word d 1) 32

/-- Reserved bits of CALL. -/
def callReserved (d : List Nat) : Bool := reservedFrom d 2 || field (word d 1) 21 11 != 0 || above (word d 1) 33

/-- CALL (R378): a TARGET that is not 64-byte aligned is BAD_ADDRESS. -/
def execCall (k : ChipId) (r : RegionId) (p : TileId) (s : State) : Out :=
  let c := s.chip k
  let t := tileIx r p
  let x := c.tile t
  let d := c.desc r p
  let target := field (word d 1) 0 21
  let err := firstError
    [(callReserved d, eReserved), (target % 64 != 0, eAddress), (decide (8 ≤ x.calls.length), eStack)]
  let c1 := if err ≠ 0 then c.itemError r p err
    else c.onTile t (fun x => ({ x with calls := (x.pc + 64) :: x.calls }).issuedTo d target)
  occurs (c.atOp r p 0x0C && !caRet d) s (s.setChip k c1)

/-- RET (R378): with an empty call stack, or inside a loop body begun at the same call level, it ends with STACK. -/
def execRet (k : ChipId) (r : RegionId) (p : TileId) (s : State) : Out :=
  let c := s.chip k
  let t := tileIx r p
  let x := c.tile t
  let d := c.desc r p
  let inLoop := match x.loops with | f :: _ => f.level == x.calls.length | [] => false
  let err := firstError [(callReserved d, eReserved), (x.calls.isEmpty || inLoop, eStack)]
  let c1 := if err ≠ 0 then c.itemError r p err
    else c.onTile t (fun x => ({ x with calls := x.calls.tail }).issuedTo d (x.calls.headD 0))
  occurs (c.atOp r p 0x0C && caRet d) s (s.setChip k c1)

/-! ## The end of an item (R402, R403, R464, Table OPS-9) -/

/-- INVALID_OP (R369, Table OPS-9): an OP of no opcode or a VOP of no operation; a fetch past 0x17_FFC0 is STACK. -/
def execInvalidOp (k : ChipId) (r : RegionId) (p : TileId) (s : State) : Out :=
  let c := s.chip k
  let x := c.tile (tileIx r p)
  let d := c.desc r p
  let past := decide (tileTop ≤ x.pc)
  let bad := descOp d == 0 || decide (0x0D < descOp d) || (descOp d == 0x02 && !knownVop (vop d))
  occurs (c.running && x.running && !x.ended && c.clockRuns r && (past || bad)) s
    (s.setChip k (c.itemError r p (if past then eStack else eInvalid)))

/-- The item-end report (R464). -/
def endReport (r p : Nat) (x : Tile) : Msg :=
  { lane := .wr, src := r, dst := epSeq, op := 0x11
    arg := x.item + p * 2 ^ 12 + r * 2 ^ 16 + x.err * 2 ^ 23 + x.itemFlags * 2 ^ 27 }

/-- The sequencer is idle again; what SEQ has not yet heard of stays. -/
def Tile.finished (x : Tile) : Tile :=
  { x with running := false, ended := false, endFence := false, loops := [], calls := [], err := 0, itemFlags := 0
           slots := x.armedSlots.foldl (fun b n => b.erase n) x.slots, armedSlots := [], written := [] }

/-- ITEM_END (R402, R403, R464): when every operation has completed the sequencer performs a FENCE, then disarms the
item's slots and reports; after an error it reports without one. -/
def execItemEnd (k : ChipId) (r : RegionId) (p : TileId) (s : State) : Out :=
  let c := s.chip k
  let t := tileIx r p
  let x := c.tile t
  let fence := x.err == 0 && !x.endFence && !x.written.isEmpty
  let c1 :=
    if fence then (c.fenceFor r p .fence).onTile t (fun x => { x with endFence := true })
    else (c.issueMsg (endReport r p x)).onTile t Tile.finished
  occurs (c.running && c.clockRuns r && x.running && x.ended && x.issued.isEmpty && (!fence || c.canFlush r x)) s
    (s.setChip k c1)

/-! ## FLUSH (R380, R381) -/

/-- The endpoint has no write left that it popped before the FLUSH (R316, R381); what a memory port has in its request
store is visible (R500). -/
def Chip.writesDone (c : Chip) (e : Nat) : Bool := (c.ep e).popWr.isEmpty

/-- A memory port refuses the FLUSH (R495, R496): its source has no requester ID, or its LEN or RLEN is not 0. -/
def flushRefused (e : Nat) (q : Msg) : Bool := isMemoryEp e && (decide (90 < q.src && q.src < 93) || q.len != 0 || q.rlen != 0)

/-- The endpoint's block has no other request of its own: every REQ it does not define is answered TARGET_ERROR. -/
def answersAll (e : Nat) : Bool := decide (e = epHif) || decide (epXdma < e)

/-- FLUSH (R380, R381): answered OK once every earlier WR is visible; a poisoned one is answered POISONED. Blocks with no
operation of Table OPS-8 but FLUSH drop their WRs and answer every other REQ TARGET_ERROR (log entry 24). A memory port
answers it while its request store has room (R498). -/
def execFlush (k : ChipId) (e : EpId) (s : State) : Out :=
  let c0 := s.chip k
  let c := if answersAll e || e.val = epXdma then c0.onEp e (fun x => { x with popWr := [] }) else c0
  match (c.ep e).popReq.head? with
  | none => occurs false s s
  | some q =>
    let bad := flushRefused e q
    let status := if bad then 3 else if q.poison then 2 else if q.op = 0x04 then 0 else 3
    let full := isMemoryEp e && (decide (128 ≤ (c.chan (e - 72)).store.length) || (c.chan (e - 72)).reqTaken)
    let c1 := (c.answer e (rspTo e q status 0 [])).faultIf bad .arb 6 (e - 72)
    let c2 := if isMemoryEp e then c1.onChan (e - 72) (fun x => { x with reqTaken := true }) else c1
    occurs (c.running && (q.op == 0x04 || answersAll e) && c.writesDone e && !(isRegionEp e && !c.clockRuns e) && !full) s
      (s.setChip k c2)

end Sys2Proof.Machine
end

