-- ==== Sys2Proof/Machine/TileMem.lean ====
section
/-! DEFINITION. The region endpoint's writes, reads and starts (R314 to R316, R360, R380, R463), and the errors of tile
memory and of the engines (R318 to R320, R349 to R355). -/

namespace Sys2Proof.Machine

/-- The WR at the head of region `r`'s popped writes. -/
def Chip.headWr (c : Chip) (e : Nat) : Option Msg := (c.ep e).popWr.head?

/-- The head WR is served. -/
def Chip.dropWr (c : Chip) (e : Nat) : Chip := c.onEp e (fun x => { x with popWr := x.popWr.tail })

/-- Line accesses by region `r`'s endpoint at offset `off` (Table NRG-1, log entry 14). -/
def Chip.countEndpoint (c : Chip) (r off n : Nat) : Chip :=
  c.onRegion r (fun g => if off < 0x40000 then { g with lineEvents := g.lineEvents + n } else { g with lineSEvents := g.lineSEvents + n })

/-- TILE_WRITE (R314 to R316, Table OPS-8): the enabled bytes of the lines are written; a poisoned WR writes nothing
(Table SPN-9); one for an invalid address is dropped with F-TIL-05; one of another OP, or of a LEN that WRITE does not
have, is dropped. -/
def execTileWrite (k : ChipId) (r : RegionId) (s : State) : Out :=
  let c := s.chip k
  match c.headWr r with
  | none => occurs false s s
  | some m =>
    let c0 := c.dropWr r
    let c1 :=
      if m.poison || m.op ≠ 0x01 || m.len = 0 || 4 < m.len then c0
      else match tileAddr m.addr m.len with
        | none => (c0.onRegion r (fun g => { g with addrErr := satAdd 32 g.addrErr 1 })).fault .til 5 r
        | some (p, off) =>
          (c0.onTileMem r p (fun mem => Memory.writeEnabled mem off m.data m.en)).countEndpoint r off m.len
    occurs (c.running && c.clockRuns r && m.op != 0x10) s (s.setChip k c1)

/-- TILE_READ (R314 to R316, Table OPS-8): the lines as they stand after every WR popped before. An invalid address is
answered TARGET_ERROR with F-TIL-05; a request that no operation of Table OPS-8 is, TARGET_ERROR; a poisoned one,
POISONED. -/
def execTileRead (k : ChipId) (r : RegionId) (s : State) : Out :=
  let c := s.chip k
  match c.headReq r with
  | none => occurs false s s
  | some q =>
    let c1 :=
      if q.poison then c.answer r (rspTo r q 2 0 [])
      else if q.op ≠ 0x02 || q.rlen = 0 || 4 < q.rlen || q.len ≠ 0 then c.answer r (rspTo r q 3 0 [])
      else match tileAddr q.addr q.rlen with
        | none => (c.answer r (rspTo r q 3 0 [])).fault .til 5 r
        | some (p, off) =>
          (c.answer r (rspTo r q 0 q.rlen (Memory.read (c.tileMem r p) off (64 * q.rlen)))).countEndpoint r off q.rlen
    occurs (c.running && c.clockRuns r && q.op != 0x03 && q.op != 0x04) s (s.setChip k c1)

/-! ## START (R360, R463) -/

/-- The START reaches an item that still waits for the tile to begin: same ITEM, same GEN (R466: a returned item's
outstanding starts are cancelled). -/
def Item.awaits (it : Item) (gen t : Nat) : Bool := it.gen == gen && it.unbegun.contains t

/-- The events that tile `t` still holds of the item before are set aside for it (R572). -/
def Chip.flushTile (c : Chip) (t : Nat) : Chip :=
  let x := c.tile t
  let counts := [x.kstep8, x.kstep16, x.vop, x.selBusy, x.lineB, x.lineS]
  if counts.all (fun n => n == 0) then c
  else
    (c.setTile t { x with kstep8 := 0, kstep16 := 0, vop := 0, selBusy := 0, lineB := 0, lineS := 0 }).onStew (fun w =>
      { w with tagged := w.tagged ++
          [{ region := t / 15, account := x.account, partition := x.part, cls := x.cls, spec := x.spec, counts := counts }] })

/-- Logical tile `p` of region `r` starts its work item (R360): a0 to a3 and GEN as delivered, a4 to a7 zero, empty
stacks, the PC at the entry offset. -/
def Tile.begin_ (x : Tile) (entry : Nat) (bs : List Byte) (x0 : Session) : Tile :=
  { x with
    running := true, ended := false, endFence := false, pc := 64 * entry, loops := [], calls := [], err := 0, itemFlags := 0
    a := (List.range 4).foldl (fun b i => b.set i (entryField bs (8 * i) 8 % 2 ^ 40)) {}
    item := entryField bs 38 2 % 4096, gen := entryField bs 34 1, spec := bit (entryField bs 35 1) 0
    account := entryField bs 36 2, dispMode := x0.dispMode, dispTie := x0.dispTie, written := [], armedSlots := []
    issued := [] }

/-- START (R360, R463): every masked logical tile of the region begins the item. -/
def execStart (k : ChipId) (r : RegionId) (s : State) : Out :=
  let c := s.chip k
  match c.headWr r with
  | none => occurs false s s
  | some m =>
    let bs := m.data
    let n := entryField bs 38 2 % 4096
    let gen := entryField bs 34 1
    let mask := entryField bs 32 2
    let go := fun (c : Chip) (p : Nat) =>
      let t := tileIx r p
      match c.item n with
      | none => c
      | some it =>
        if bit mask p && it.awaits gen t && (c.mapEntry t).valid then
          ((c.setItem n { it with begun := insertOnce it.begun t }).flushTile t).onTile t (fun x =>
            { x.begin_ (c.mapEntry t).entry bs (c.session it.session) with part := it.partition, cls := it.cls })
        else c
    let c1 := if m.poison then c.dropWr r else (List.range 15).foldl go (c.dropWr r)
    occurs (c.running && c.clockRuns r && m.op == 0x10) s (s.setChip k c1)

/-! ## Errors of a tile -/

/-- The item running on tile `p` ends with `code` (R319, R350); nothing when none runs. -/
def Chip.itemStops (c : Chip) (r p code : Nat) : Chip :=
  if (c.tile (tileIx r p)).running && !(c.tile (tileIx r p)).ended then c.itemError r p code else c

/-- A residue error of logical tile `p` (R350): the item ends with RESIDUE, F-TIL-02. -/
def Chip.residue (c : Chip) (r p : Nat) : Chip :=
  let c1 := (c.onTile (tileIx r p) (fun x => { x with residueErr := satAdd 16 x.residueErr 1 })).itemStops r p eResidue
  (c1.onPosn r (c.positionOf r p) (fun y => { y with residueAt := some 0 })).fault .til 2 r

/-- A residue error now would be the second of the position of tile `p` within 1,000,000 epochs (R349). -/
def Chip.secondResidue (c : Chip) (r p : Nat) : Bool :=
  match (c.posn r (c.positionOf r p)).residueAt with | some n => decide (n ≤ 1000000) | none => false

/-- What an uncorrectable error at line `off` of logical tile `p` does on the reader's side (R319). -/
def Chip.poisoned (c : Chip) (r p off : Nat) (reader : LineReader) : Chip :=
  let c1 := c.onTile (tileIx r p) (fun x => { x with ueAddr := off % 2 ^ 21, ueCount := satAdd 16 x.ueCount 1 })
  match reader with
  | .item => c1.itemStops r p ePoison
  | .endpoint => match c1.headReq r with | some m => c1.answer r (rspTo r m 2 0 []) | none => c1
  | .scrub => c1

/-- The line at `off` passes the rewrite test (R351): it reads zero, F-TIL-01, and the region is OUT until the tile is reloaded. -/
def Chip.lineZeroed (c : Chip) (r p off : Nat) : Chip :=
  let c1 := (c.onTileMem r p (fun m => Memory.clear m (off / 64 * 64) 64)).fault .til 1 r
  (c1.goOut r).onRegion r (fun x => if x.status = .out then { x with awaitTiles := insertOnce x.awaitTiles p } else x)

/-- An uncorrectable error at line `off` of logical tile `p`, with a residue error of the tile in the same cycle when `res` (R319, R349
to R351, R354): R349 decides first whether the position has failed; R351 applies only when it has not. When both would end the item,
`resFirst`, a free value, says whose error code it takes (log entry 68). -/
def Chip.lineError (c : Chip) (r p off : Nat) (reader : LineReader) (rewriteOk res resFirst : Bool) : Chip :=
  let q := c.positionOf r p
  let c1 := if !res then c.poisoned r p off reader
    else if resFirst then (c.residue r p).poisoned r p off reader else (c.poisoned r p off reader).residue r p
  if !rewriteOk || (res && c.secondResidue r p) then c1.failTile r q
  else if bit (c1.region r).posFail q then c1
  else c1.lineZeroed r p off

/-- The REQ at the head of the region's requests reads line `off` of tile `p`. -/
def Chip.readsLine (c : Chip) (r p off : Nat) : Bool :=
  match c.headReq r with
  | none => false
  | some m => m.op == 0x02 && !m.poison && (match tileAddr m.addr m.rlen with
    | some (q, o) => q == p && decide (o ≤ off) && decide (off < o + 64 * m.rlen)
    | none => false)

/-- MEMORY_UE (R319, R349, R351, R354): a read by the item, the endpoint or the scrub finds an uncorrectable error in the
line at `off`; `rewriteOk` is the result of the rewrite test, and `residue` says that a residue error strikes the tile in the same
cycle. -/
def execMemoryUe (k : ChipId) (r : RegionId) (p : TileId) (off : Nat) (reader : LineReader) (rewriteOk residue : Bool) (s : State) : Out :=
  let c := s.chip k
  let runs := (c.tile (tileIx r p)).running
  let may := match reader with
    | .item => runs
    | .endpoint => c.readsLine r p off
    | .scrub => c.bru.ready
  let s1 := s.setChip k (c.lineError r p off reader rewriteOk residue (decide (Config.free s.fresh % 2 = 1)))
  occurs (c.running && may && (!residue || runs) && decide (off < tileTop)) s (if residue then { s1 with fresh := s1.fresh + 1 } else s1)

/-- RESIDUE_ERROR (R349, R350): the item ends with RESIDUE and F-TIL-02; the second at one position within 1,000,000
epochs fails it. -/
def execResidueError (k : ChipId) (r : RegionId) (p : TileId) (s : State) : Out :=
  let c := s.chip k
  let c1 := c.residue r p
  occurs (c.running && (c.tile (tileIx r p)).running) s
    (s.setChip k (if c.secondResidue r p then c1.failTile r (c.positionOf r p) else c1))

/-- SEQUENCER_HANG (R349): an issued operation has stood for 100 epochs of a running clock without progress. -/
def execSequencerHang (k : ChipId) (r : RegionId) (p : TileId) (s : State) : Out :=
  let c := s.chip k
  occurs (c.running && c.clockRuns r && (c.tile (tileIx r p)).running && decide (100 ≤ (c.tile (tileIx r p)).hang)) s
    (s.setChip k ((c.failTile r (c.positionOf r p)).onTile (tileIx r p) (fun x => { x with hang := 0 })))

/-- A reload of a tile of region `r` runs (R355): a TILE_RELOAD or MODEL_LOAD in progress. -/
def Chip.reloading (c : Chip) (r : Nat) : Bool :=
  (List.range 16).any (fun g =>
    (match c.background g 0x11 with | some bs => entryField bs 8 1 == r | none => false) ||
    (match c.background g 0x10 with | some bs => entryField bs 8 1 == (c.region r).cfg.partition | none => false))

/-- SCRUB_LINE (R318, R320, R355): the next line is scrubbed; `corrected` of its words had a single-bit error. -/
def execScrubLine (k : ChipId) (r : RegionId) (p : TileId) (corrected : Nat) (s : State) : Out :=
  let c := s.chip k
  let n := min corrected 8
  let c1 := c.onTile (tileIx r p) (fun x => { x with
    scrubLine := (x.scrubLine + 1) % 24576, ceCount := satAdd 32 x.ceCount n, ceSecond := x.ceSecond + n })
  occurs (c.running && c.bru.ready && c.clockRuns r && !c.reloading r && c.img.rollRegion != r.val) s (s.setChip k c1)

/-- CE_RATE_FAULT (R352): more than 1,000 corrections of one tile within a second. -/
def execCeRateFault (k : ChipId) (r : RegionId) (p : TileId) (s : State) : Out :=
  let c := s.chip k
  let c1 := (c.onTile (tileIx r p) (fun x => { x with ceSecond := 0 })).fault .til 3 r
  occurs (c.running && decide (1000 < (c.tile (tileIx r p)).ceSecond)) s (s.setChip k c1)

end Sys2Proof.Machine
end

