-- ==== Sys2Proof/Machine/Arbiter.lean ====
section
/-! DEFINITION. Session memory and its arbiters (R493 to R527): the memory port, the request store, the arbitration of
R508, the warming shelf, withdrawal, link ECC and ECS. -/

namespace Sys2Proof.Machine

/-! ## The memory port (R495 to R501) -/

/-- The requester ID of source endpoint `e` (R495). -/
def requesterOf (e : Nat) : Option Nat :=
  if e < 72 then some e else if e = epSeq then some 72 else if e = epXdma then some 73 else if e = epHif then some 74
  else if e = epDbg then some 75 else none

/-- The lines of a WRITE or READ that channel `h` may serve (R496). -/
def portAddrOk (h a lines : Nat) : Bool :=
  a % 64 == 0 && decide (a < 2 ^ 36) && decide (a / 64 % 4 + lines ≤ 4) && channelOf a == h

/-- A WRITE of another requester than SEQ into the session table (R497). -/
def intoTable (req a : Nat) : Bool := req != 72 && decide (a < 0x1000000)

/-- The two groups share a line, and one of them writes (R500). -/
def Group.overlaps (a b : Group) : Bool :=
  (a.write || b.write) && decide (a.addr < b.addr + 64 * b.lines) && decide (b.addr < a.addr + 64 * a.lines)

/-- A group enters the store in pop order (R498). -/
def Channel.enter (x : Channel) (g : Group) : Channel :=
  { x with store := x.store ++ [{ g with id := x.nextId }], nextId := x.nextId + 1 }

/-- The request store has room (R498). -/
def Channel.hasRoom (x : Channel) : Bool := decide (x.store.length < 128)

/-- In this arbiter cycle the port may still pop a WR, or a REQ (R498). -/
def Channel.popsWr (x : Channel) : Bool := x.hasRoom && !x.wrTaken
def Channel.popsReq (x : Channel) : Bool := x.hasRoom && !x.reqTaken

/-- The port of channel `h` has popped a WR, or a REQ, in this arbiter cycle. -/
def Chip.tookWr (c : Chip) (h : Nat) : Chip := c.onChan h (fun x => { x with wrTaken := true })
def Chip.tookReq (c : Chip) (h : Nat) : Chip := c.onChan h (fun x => { x with reqTaken := true })

/-- MEMORY_WRITE (R495 to R498): a WRITE enters the store with its data; a poisoned one writes nothing (Table SPN-9); a
malformed one, or one into the session table, is dropped with F-ARB-06. -/
def execMemoryWrite (k : ChipId) (h : ChanId) (s : State) : Out :=
  let c := s.chip k
  match c.headWr (epMem h) with
  | none => occurs false s s
  | some m =>
    let c0 := c.dropWr (epMem h)
    let c1 := match requesterOf m.src with
      | none => c0.fault .arb 6 h
      | some i =>
        if m.op ≠ 0x01 || m.len = 0 || 4 < m.len || !portAddrOk h m.addr m.len || intoTable i m.addr then c0.fault .arb 6 h
        else if m.poison then c0
        else c0.onChan h (fun x => x.enter
          { id := 0, req := i, src := m.src, tag := m.tag, write := true, addr := m.addr, lines := m.len, data := m.data, en := m.en })
    occurs (c.running && m.op != 0x05 && (c.chan h).popsWr) s (s.setChip k (c1.tookWr h))

/-- MEMORY_READ (R495, R496, R498): a READ enters the store; a poisoned REQ is answered POISONED (Table SPN-9), a malformed
one TARGET_ERROR with F-ARB-06. -/
def execMemoryRead (k : ChipId) (h : ChanId) (s : State) : Out :=
  let c := s.chip k
  let e := epMem h
  match c.headReq e with
  | none => occurs false s s
  | some q =>
    let refuse := (c.answer e (rspTo e q 3 0 [])).fault .arb 6 h
    let c1 := match requesterOf q.src with
      | none => refuse
      | some i =>
        if q.op ≠ 0x02 || q.len ≠ 0 || q.rlen = 0 || 4 < q.rlen || !portAddrOk h q.addr q.rlen then refuse
        else if q.poison then c.answer e (rspTo e q 2 0 [])
        else (c.onEp e (fun x => { x with popReq := x.popReq.tail })).onChan h (fun x => x.enter
          { id := 0, req := i, src := q.src, tag := q.tag, write := false, addr := q.addr, lines := q.rlen })
    occurs (c.running && q.op != 0x04 && (c.chan h).popsReq) s (s.setChip k (c1.tookReq h))

/-! ## Withdrawal (R515, R520) -/

/-- The VOID reaches the group: a READ of the same requester and TAG, none of whose bursts has transferred. -/
def Group.voidable (g : Group) (req tag : Nat) : Bool :=
  !g.write && g.req == req && g.tag == tag && (g.granted == 0 || (g.granted == 1 && g.moving))

/-- The channel without the group that a VOID of `req` and `tag` withdraws: one granted in the last cycle costs a dead
transfer slot. -/
def Channel.withdraw (x : Channel) (req tag : Nat) : Channel :=
  match (x.store ++ x.returning).find? (fun g => g.voidable req tag) with
  | none => x
  | some g =>
    { x with
      store := x.store.filter (fun y => y.id != g.id)
      returning := x.returning.filter (fun y => y.id != g.id)
      shelf := removeAll x.shelf g.id
      deadCount := satAdd 64 x.deadCount g.granted }

/-- VOID (R495, R496, R515): a malformed one is dropped with F-ARB-06; one that matches no group is dropped. -/
def execVoid (k : ChipId) (h : ChanId) (s : State) : Out :=
  let c := s.chip k
  match c.headWr (epMem h) with
  | none => occurs false s s
  | some m =>
    let c0 := c.dropWr (epMem h)
    let c1 := match requesterOf m.src with
      | none => c0.fault .arb 6 h
      | some i =>
        if m.len ≠ 0 then c0.fault .arb 6 h
        else if m.poison then c0
        else c0.onChan h (fun x => x.withdraw i (field m.arg 0 8))
    occurs (c.running && m.op == 0x05 && (c.chan h).popsWr) s (s.setChip k (c1.tookWr h))

/-! ## Candidates (R500, R504 to R506) -/

/-- The group waits for an older one (R500). -/
def Channel.blocked (x : Channel) (g : Group) : Bool := x.store.any (fun o => decide (o.id < g.id) && o.overlaps g)

/-- The group is a spill group (R505). -/
def Chip.isSpill (c : Chip) (g : Group) : Bool :=
  !g.write && isRegionEp g.src &&
  (let p := (c.region g.req).cfg.partition
   decide (p < 16) && decide (64 * (c.part p).spillBase ≤ g.addr) && decide (g.addr < 64 * (c.part p).spillLimit))

/-- The rank of a group (R506): 0 in progress, 1 shelved, 2 spill, 3 other. -/
def Chip.rank (c : Chip) (g : Group) : Nat :=
  if 0 < g.granted then 0 else if g.shelved then 1 else if c.isSpill g then 2 else 3

/-- The candidate of requester `i` on channel `h` (R506): of its groups that are not blocked, the oldest of the lowest
rank. -/
def Chip.cand (c : Chip) (h i : Nat) : Option Group :=
  let x := c.chan h
  let gs := x.store.filter (fun g => g.req == i && !x.blocked g)
  [0, 1, 2, 3].findSome? (fun n => gs.find? (fun g => c.rank g == n))

/-- best() of R508: the largest wait, the lowest ID on ties. -/
def bestOf (w : Bank Nat) (l : List Nat) : Option Nat :=
  l.foldl (fun acc i => match acc with
    | none => some i
    | some b => if w.get 0 b < w.get 0 i then some i else some b) none

/-- Requester `i` placed in the order of best(). -/
def rankInsert (w : Bank Nat) (i : Nat) (l : List Nat) : List Nat :=
  match l with
  | [] => [i]
  | j :: t => if w.get 0 j < w.get 0 i || (w.get 0 j = w.get 0 i && i < j) then i :: j :: t else j :: rankInsert w i t

/-- The requesters in the order of best(). -/
def rankAll (w : Bank Nat) (l : List Nat) : List Nat := l.foldr (fun i acc => rankInsert w i acc) []

/-! ## The arbiter cycle (R508 to R514, R517) -/

/-- The wait limit of a forced win in force (R508). -/
def Channel.lim (x : Channel) : Nat := if x.mode = 1 then x.limit else 65535

/-- The requesters with a group in the store. -/
def Channel.heads (x : Channel) : List Nat := (List.range 76).filter (fun i => x.store.any (fun g => g.req == i))

/-- The slot in force of cycle `n` owns its cycle (R504): a requester ID that no retired region has. -/
def Chip.slotOwner (c : Chip) (h : Nat) : Option Nat :=
  let x := c.chan h
  let i := x.slots.get 0x7F (x.cycle % 256)
  if i < 76 && !(decide (i < 72) && (c.region i).status == .retired) then some i else none

/-- The winner of the cycle (R508), and whether it is forced. -/
def Chip.winner (c : Chip) (h : Nat) : Option (Nat × Bool) :=
  let x := c.chan h
  let able := x.heads.filter (fun i => (c.cand h i).isSome)
  match bestOf x.w (able.filter (fun i => decide (x.lim ≤ x.w.get 0 i))) with
  | some i => some (i, true)
  | none =>
    match (c.slotOwner h).filter (fun i => able.contains i) with
    | some i => some (i, false)
    | none =>
      match x.last.filter (fun i => x.store.any (fun g => g.req == i && decide (0 < g.granted))) with
      | some i => some (i, false)
      | none => (bestOf x.w (able.filter (fun i => x.bo.get 0 i == 0))).map (fun i => (i, false))

/-- The requester backs off for 2^nl cycles (R508). -/
def Channel.backOff (x : Channel) (i : Nat) : Channel :=
  let n := min (x.nl.get 0 i + 1) 10
  { x with nl := x.nl.set i n, bo := x.bo.set i (2 ^ n) }

/-- The group with `f` applied. -/
def Channel.onGroup (x : Channel) (id : Nat) (f : Group → Group) : Channel :=
  { x with store := x.store.map (fun g => if g.id = id then f g else g) }

/-- What a loss does (R508 lose, R512, R514): the channel, whether the cycle's push is used, whether a full shelf was met. -/
def Channel.lose (x : Channel) (i : Nat) (g : Group) (park pushed : Bool) : Channel × Bool × Bool :=
  if x.store.any (fun y => y.req == i && y.shelved) then (x, pushed, false)
  else if park && !g.backMark then
    if x.shelf.length < 64 && !pushed then
      ({ x.onGroup g.id (fun y => { y with shelved := true }) with
         shelf := x.shelf ++ [g.id], shelfPeak := max x.shelfPeak (x.shelf.length + 1) }, true, false)
    else if x.shelf.length = 64 then
      ({ (x.onGroup g.id (fun y => { y with backMark := true })).backOff i with shelfFull := satAdd 32 x.shelfFull 1 }, pushed, true)
    else (x, pushed, false)
  else (x.backOff i, pushed, false)

/-- The progress of the losers' walk: the channel, the push used, a full shelf met, the requesters newly starving. -/
structure LoseWalk where
  chan : Channel
  pushed : Bool := false
  full : Bool := false
  starving : List Nat := []

/-- One loser's turn (R508, R509). `cand` is the candidate, none also in an unavailable cycle. -/
def LoseWalk.turn (a : LoseWalk) (i : Nat) (cand : Option Group) (park : Bool) : LoseWalk :=
  let x := a.chan
  let w := min (x.w.get 0 i + 1) 65535
  let x1 := { x with w := x.w.set i w }
  let bo := x.bo.get 0 i
  let (x2, pushed, full) :=
    if 0 < bo then ({ x1 with bo := x1.bo.set i (bo - 1) }, a.pushed, false)
    else match cand with
      | some g => x1.lose i g park a.pushed
      | none => (x1, a.pushed, false)
  let star := x.mode == 0 && decide (x.limit ≤ w) && !x.starve.contains i
  { chan := if star then { x2 with starve := insertOnce x2.starve i } else x2
    pushed := pushed, full := a.full || full, starving := if star then a.starving ++ [i] else a.starving }

/-- The burst of the candidate `g` is granted (R502, R508): memory is written or read, the group leaves the store with its
last burst. `err` is what its transfer meets. -/
def Chip.grantBurst (c : Chip) (h : Nat) (g : Group) (err : LinkErr) : Chip :=
  let a := g.addr + 64 * g.granted
  let c1 := if g.write then
      { c with mem := Memory.writeEnabled c.mem a ((g.data.drop (64 * g.granted)).take 64) ((g.en.drop (64 * g.granted)).take 64) }
    else c
  let bad := !g.write && err == LinkErr.failed
  let again := !g.write && (err == LinkErr.repeated || err == LinkErr.failed)
  let g1 := { g with
    granted := g.granted + 1, moving := true, poison := g.poison || bad
    data := if g.write then g.data else g.data ++ Memory.read c.mem a 64 }
  let last := decide (g.lines ≤ g1.granted)
  let c2 := c1.onChan h (fun x =>
    let y := { x with
      w := x.w.set g.req 0, nl := x.nl.set g.req 0, bo := x.bo.set g.req 0, last := some g.req
      grants := x.grants.update 0 g.req (fun n => satAdd 64 n 1)
      linkCe := if !g.write && err == LinkErr.corrected then satAdd 32 x.linkCe 1 else x.linkCe
      linkUe := if bad then satAdd 32 x.linkUe 1 else x.linkUe
      repeats := if again then x.repeats + 1 else x.repeats
      forceBusy := again }
    if last then { y with
      store := y.store.filter (fun z => z.id != g.id), shelf := removeAll y.shelf g.id
      returning := if g.write then y.returning else y.returning ++ [g1] }
    else y.onGroup g.id (fun _ => g1))
  let c3 := (if bad then c2.fault .arb 5 h else c2).countAux 0 1
  if isRegionEp g.src then c3.onRegion g.req (fun z => { z with memBursts := bumpHead z.memBursts 1 }) else c3

/-- The marked cycles that still count: those of this rotation and the seven before it (R507). -/
def Channel.recent (x : Channel) : List Nat := x.marked.filter (fun n => decide (x.cycle / 256 < n / 256 + 8))

/-- The controller may mark this cycle unavailable (R507): at most 32 cycles of a rotation, and a slot position once in eight
rotations. A cycle that a repeat takes is not marked. -/
def Channel.mayMark (x : Channel) : Bool :=
  x.forceBusy || (decide ((x.recent.filter (fun n => n / 256 == x.cycle / 256)).length < 32) &&
    x.recent.all (fun n => n % 256 != x.cycle % 256))

/-- The committed slot table comes into force at the wrap (R517, R482). -/
def Chip.switchTable (c : Chip) (h : Nat) : Chip :=
  let x := c.chan h
  if x.cycle % 256 = 0 then
    match x.slotNext with
    | some t => (c.setChan h { x with slots := t, slotNext := none }).refreshAll
    | none => c
  else c

/-- One arbiter cycle (R508). -/
def Chip.arbitrate (c0 : Chip) (h : Nat) (busy : Bool) (err : LinkErr) : Chip :=
  let c := c0.switchTable h
  let x := c.chan h
  let off := busy || x.forceBusy
  let win := if off then none else c.winner h
  let gid := win.map (fun y => y.1)
  let g := win.bind (fun y => c.cand h y.1)
  -- the burst granted in the cycle before has transferred (R508, R515); the shelf gives up a group with its last burst first (R512)
  let x0 := { x with
    store := x.store.map (fun y => { y with moving := false }), returning := x.returning.map (fun y => { y with moving := false })
    forceBusy := false, cycle := x.cycle + 1, wrTaken := false, reqTaken := false
    marked := if busy && !x.forceBusy then x.recent ++ [x.cycle] else x.recent
    unavail := if off then satAdd 64 x.unavail 1 else x.unavail
    shelf := match g with | some y => if y.lines ≤ y.granted + 1 then removeAll x.shelf y.id else x.shelf | none => x.shelf }
  let walk := (rankAll x.w x.heads).foldl (fun (a : LoseWalk) i =>
    if gid = some i then a
    else a.turn i (if off then none else c.cand h i) (c.img.nowA.loserAt i == 1)) { chan := x0 }
  let forced := match win with | some (_, b) => b | none => false
  let x1 := { walk.chan with
    forced := if forced then satAdd 32 walk.chan.forced 1 else walk.chan.forced
    shelfFault := walk.chan.shelfFault || walk.full }
  let c1 := (walk.starving.foldl (fun c _ => c.fault .arb 1 h) (c.setChan h x1)).faultIf (walk.full && !x.shelfFault) .arb 3 h
  let c2 := c1.faultIf (forced && x.mode == 0) .arb 2 h
  match g with
  | some y => c2.grantBurst h y err
  | none => c2

/-- ARBITER_CYCLE (R500 to R514, R517 to R523): `busy` says that the controller marks the cycle unavailable, which R507 limits; `err`
is the link-ECC outcome of the burst that the cycle grants. -/
def execArbiterCycle (k : ChipId) (h : ChanId) (busy : Bool) (err : LinkErr) (s : State) : Out :=
  let c := s.chip k
  occurs (c.running && (c.chan h).trained && (!busy || (c.chan h).mayMark)) s (s.setChip k (c.arbitrate h busy err))

/-! ## Replies and the controller's own readings -/

/-- READ_GROUP_COMPLETE (R501, R502, R508, R524): the RSP of the READ group whose bursts have returned first. -/
def execReadGroupComplete (k : ChipId) (h : ChanId) (s : State) : Out :=
  let c := s.chip k
  match (c.chan h).returning with
  | [] => occurs false s s
  | g :: t =>
    let rsp : Msg := { lane := .rsp, src := epMem h, dst := g.src, tag := g.tag, status := if g.poison then 2 else 0, len := g.lines, data := g.data }
    occurs (c.running && !g.moving) s (s.setChip k ((c.onChan h (fun x => { x with returning := t })).send rsp))

/-- ECS_READ (R503): the device's count is read every 8,640,000,000,000 ref ticks, which are 86,400,000,000 epochs; F-ARB-07 when it
has risen by more than 64. -/
def execEcsRead (k : ChipId) (h : ChanId) (count : Nat) (s : State) : Out :=
  let c := s.chip k
  let n := count % 2 ^ 32
  occurs (c.running && (c.chan h).trained && decide (86400000000 ≤ (c.chan h).ecsEpochs)) s
    (s.setChip k ((c.onChan h (fun x => { x with ecs := n, ecsEpochs := 0 })).faultIf (decide ((c.chan h).ecs + 64 < n)) .arb 7 h))

/-- REPEAT_RATE_FAULT (R526): more than 100 repeats on the channel within a second. -/
def execRepeatRateFault (k : ChipId) (h : ChanId) (s : State) : Out :=
  let c := s.chip k
  occurs (c.running && decide (100 < (c.chan h).repeats)) s
    (s.setChip k ((c.onChan h (fun x => { x with repeats := 0 })).fault .arb 4 h))

end Sys2Proof.Machine
end

