-- ==== Sys2Proof/Machine/Commit.lean ====
section
/-! DEFINITION. The commands of chapter 07 in service: the commit (R277 to R284), the roll (R285 to R294) and the staged
image path (R296 to R303). -/

namespace Sys2Proof.Machine

/-! ## The commit -/

/-- The class B snapshots of two maps are equal. -/
def sameB (a b : Bank ClassB) : Bool := allRegions.all (fun r => classB a r == classB b r)

/-- The fault with which a commit is refused, by its tag and number (R117, R279, R311); none when it is accepted. The STEP_BUSY of R117
is judged with the lead (DEDUCED, log entry 67). -/
def Chip.commitFault (c : Chip) : Option (Tag × Nat) :=
  let i := c.img
  let lead : Int := (i.commitEpoch : Int) - c.time.epoch
  let m := i.shadowA.step
  let steps := m != c.clk.mNow
  if !c.bru.ready then some (.img, 3)
  else if steps && (decide (lead < 20) || (decide (c.clk.mNow < m) && decide (lead < 60))) then some (.clk, 7)
  else if lead < 20 || 60000000 < lead then some (.img, 2)
  else if steps && c.clk.stepBusy then some (.clk, 7)
  else if !stepOk m || !i.shadowA.inRange || !classBInRange i.shadowB then some (.img, 2)
  else if !mapOk (classB i.shadowB) then some (.die, 1)
  else if i.pending then some (.img, 3)
  else if i.rollActive && !sameB i.shadowB i.rollB then some (.img, 3)
  else none

/-- An accepted commit: the snapshot is taken and PENDING set (R277); a step begins its timeline (Table CLK-5). -/
def Chip.acceptCommit (c : Chip) : Chip :=
  let c1 := c.onImg (fun i => { i with
    pending := true, snapE := i.commitEpoch, snapA := i.shadowA, snapB := i.shadowB, snapStaged := i.staged })
  if c.img.shadowA.step ≠ c.clk.mNow then c1.onClk (fun k => k.stepAccepted c.img.shadowA.step c.img.commitEpoch) else c1

/-- COMMIT (R277 to R279, R116, R117, R311): the write of 0x01 to IMG.CTRL.CMD. -/
def execCommit (k : ChipId) (s : State) : Out :=
  let c := s.chip k
  occurs c.running s (s.setChip k (match c.commitFault with
    | some (t, n) => c.fault t n noInstance
    | none => c.acceptCommit))

/-! ## The roll: which region steps next (R285) -/

/-- Region `r` takes part in the leaving phase. -/
def Chip.leaves (c : Chip) (r : Nat) : Bool :=
  let now := (c.region r).cfg
  let new := classB c.img.rollB r
  let m := now.gangMaster
  m != r && (new.gangMaster != m || new.partition != now.partition ||
    (classB c.img.rollB m).partition != (c.region m).cfg.partition)

/-- Region `r`'s fields in force still differ from the snapshot. -/
def Chip.differs (c : Chip) (r : Nat) : Bool := (c.region r).cfg != classB c.img.rollB r

/-- The next step of the roll: its phase and its region. -/
def Chip.nextStep (c : Chip) : Option (RollPhase × Nat) :=
  let i := c.img
  let leave := (allRegions.reverse).find? (fun r => decide (r < i.rollNext) && c.leaves r)
  let apply_ := fun (from_ : Nat) => (allRegions.find? (fun r => decide (from_ ≤ r) && c.differs r)).map (fun r => (RollPhase.applying, r))
  match i.rollPhase with
  | .idle => none
  | .leaving => match leave with | some r => some (.leaving, r) | none => apply_ 0
  | .applying => apply_ i.rollNext

/-- The roll ends (R280, R294). -/
def Chip.endRoll (c : Chip) : Chip :=
  (c.onImg (fun i => { i with
    rollActive := false, rollRegion := 255, rollPhase := .idle, rollNext := 0, rollCancel := false, rollWait := false
    rollTries := 0, rollApplied := false, commitCount := satAdd 32 i.commitCount 1 })).cause 17

/-- The roll ends when a cancel asks for it or no region is left. -/
def Chip.endRollIfDone (c : Chip) : Chip :=
  if c.img.rollCancel || c.nextStep.isNone then c.endRoll else c

/-- Class B fields in force of some region differ from the pending snapshot. -/
def Chip.rollNeeded (c : Chip) : Bool := allRegions.any (fun r => (c.region r).cfg != classB c.img.snapB r)

/-- COMMIT_CANCEL (R280, R733): the write of 0x02 to IMG.CTRL.CMD. A pending commit whose E the epoch counter has reached applies. -/
def execCommitCancel (k : ChipId) (s : State) : Out :=
  let c := s.chip k
  let c1 := if c.img.pending && decide (c.time.epoch < c.img.snapE) then
      (if c.img.snapA.step ≠ c.clk.mNow then c.cancelStep else c).onImg (fun i => { i with pending := false, snapStaged := false })
    else c
  let c2 := if !c.img.rollActive then c1
    else if c.img.rollRegion = 255 then c1.endRoll
    else c1.onImg (fun i => { i with rollCancel := true })
  occurs c.running s (s.setChip k c2)

/-! ## Applying a commit (R281, R283, R301, R302) -/

/-- The slot table of channel `h` in a snapshot. -/
def ClassA.tableOf (a : ClassA) (h : Nat) : Bank Nat :=
  (List.range 256).foldl (fun b n => if a.slotAt h n = 0x7F then b else b.set n (a.slotAt h n)) {}

/-- The class A fields take effect (R283); a changed slot table waits for its channel's wrap (R517). -/
def Chip.applyA (c : Chip) (a : ClassA) : Chip :=
  let c1 := c.onImg (fun i => { i with nowA := a })
  (List.range 16).foldl (fun c h => c.onChan h (fun x =>
    let t := a.tableOf h
    { x with mode := a.modeAt h, limit := a.limitAt h, slotNext := if x.slots = t then none else some t })) c1

/-- The class C values of the image in the slot in use (R295, R302). -/
def Chip.committedC (c : Chip) : ClassC :=
  if c.img.useValid then
    let b := slotBase c.img.useSlot
    (imageValues (readHeader c.flash b).generation (imageRecords c.flash b)).c
  else c.img.nowC

/-- MGT programs the staged slot's COMMIT word (R301, R302); F-IMG-08 when the read-back fails. C_PENDING follows the image that is
committed then (R295). -/
def Chip.programCommitWord (c : Chip) (ok : Bool) : Chip :=
  let i := c.img
  let b := slotBase i.stagedSlot
  let c1 := c.onImg (fun i => { i with staged := false, snapStaged := false })
  let c0 := if ok then
    let gen := (readHeader c.flash b).generation
    let c2 := { c1 with flash := Memory.write c1.flash (b + 20) (natLE 4 0) }
    let c3 := c2.onImg (fun j => { j with useValid := true, useSlot := i.stagedSlot })
    c3.onBru (fun x => if i.stagedSlot = 0 then { x with genA := gen } else { x with genB := gen })
  else c1.fault .img 8 noInstance
  c0.onImg (fun j => { j with cPending := c0.committedC != j.nowC })

/-- COMMIT_APPLY (R281, R283, R285, R301, R308): the epoch counter has reached E. -/
def execCommitApply (k : ChipId) (programOk : Bool) (s : State) : Out :=
  let c := s.chip k
  let i := c.img
  let c1 := (c.applyA i.snapA).onImg (fun j => { j with pending := false, appliedEpoch := i.snapE })
  let c2 := if i.snapStaged then c1.programCommitWord programOk else c1
  let c3 := (List.range 16).foldl (fun c p => c.checkLanes p) c2
  let c4 := if i.rollActive || !c.rollNeeded then c3.onImg (fun j => { j with commitCount := satAdd 32 j.commitCount 1 })
    else c3.onImg (fun j => { j with
      rollActive := true, rollB := i.snapB, rollPhase := .leaving, rollNext := 72, rollRegion := 255, skipped := 0
      rollTries := 0, rollWait := false, rollCancel := false, rollApplied := false })
  occurs (c.running && i.pending && decide (i.snapE ≤ c.time.epoch)) s (s.setChip k (c4.cause 17))

/-! ## Roll steps (R287 to R292) -/

/-- A generator is halted by COOLANT_STOP_N or a thermal trip (R293). -/
def Chip.safetyHalt (c : Chip) : Bool :=
  allRegions.any (fun r => (c.gen r).state == .halted && ((c.gen r).halt == .trip || (c.gen r).halt == .coolant))

/-- ROLL_STEP_START (R285, R293, Table IMG-6 steps 1 and 5): in an epoch in which no step has ended, SEQ stops dispatch to the next
region; it goes OUT with its queued items. The applying phase begins with its first region. -/
def execRollStepStart (k : ChipId) (s : State) : Out :=
  let c := s.chip k
  let c1 := match c.nextStep with
    | none => c.endRoll
    | some (ph, r) =>
      (c.onRegion r (fun x => { x with status := if x.status = .serving then .out else x.status })).onImg (fun i => { i with
        rollPhase := ph, rollNext := if ph = .applying then r else i.rollNext, rollRegion := r, rollEpochs := 0, rollApplied := false
        rollForced := false, rollCopyUe := false, rollMoved := false, rollParted := false })
  occurs (c.running && c.img.rollActive && c.img.rollRegion == 255 && !c.img.rollWait && !c.img.rollEnded && !c.safetyHalt) s
    (s.setChip k c1)

/-- The step leaves region `r` in a partition of which it is the only region (R292). -/
def Chip.stepSingle (c : Chip) (r : Nat) : Bool :=
  let p := (c.region r).cfg.partition
  c.img.rollPhase == .applying && decide (p < 16) && (classB c.img.rollB r).partition == p && c.regionsOf p == [r]

/-- Region `r` is stepping and its fields are not applied yet. -/
def Chip.stepping (c : Chip) : Option Nat :=
  if c.img.rollActive && decide (c.img.rollRegion < 72) && !c.img.rollApplied then some c.img.rollRegion else none

/-- The master that a step gives region `r`. -/
def Chip.stepMaster (c : Chip) (r : Nat) : Nat :=
  if c.img.rollPhase = .leaving then r else (classB c.img.rollB r).gangMaster

/-- Region `r` leaves its gang (Table IMG-7, R183): its own master again; out of SLAVED into CAL. The queues of the whole gang are reset;
those of the members that stay run in one clock as long as there are two. -/
def Chip.leaveGang (c : Chip) (r : Nat) : Chip :=
  let others := removeAll (c.gang r) r
  let c1 := c.onRegion r (fun x => { x with cfg := { x.cfg with gangMaster := r } })
  let c2 := (c1.switchQueues [r] false).switchQueues others (decide (1 < others.length))
  if (c.gen r).state = .slaved then c2.onGen r Gen.enterCal else c2

/-- Region `r` joins the gang of `m` (Table IMG-7, R120, R183): its generator stops and it is SLAVED; the queues of the whole gang are
reset and run in one clock. -/
def Chip.joinGang (c : Chip) (r m : Nat) : Chip :=
  let c1 := c.onRegion r (fun x => { x with cfg := { x.cfg with gangMaster := m } })
  (c1.switchQueues (c1.gang r) true).onGen r Gen.enterSlaved

/-- The tiers of the logical tiles whose position SPARE_FOR changes move to their new position (Table IMG-7, R63). -/
def Chip.moveSpare (c : Chip) (r new : Nat) : Chip :=
  let old := (c.region r).cfg.spareFor
  if old = new then c
  else
    let fromSpare := (c.posn r 15).mem
    let fromNew := (c.posn r new).mem
    let c1 := if old < 15 then c.onPosn r old (fun x => { x with mem := fromSpare }) else c
    let c2 := if new < 15 then c1.onPosn r 15 (fun x => { x with mem := fromNew }) else c1
    c2.onRegion r (fun x => { x with cfg := { x.cfg with spareFor := new } })

/-- MGT applies the fields of the stepping region `r` (Table IMG-7, R286). -/
def Chip.applyStep (c : Chip) (r : Nat) (copyUe : Bool) : Chip :=
  let now := (c.region r).cfg
  let new := classB c.img.rollB r
  let m := c.stepMaster r
  let moved := m != now.gangMaster
  let c1 := if moved && now.gangMaster != r then c.leaveGang r else c
  let c2 :=
    if c.img.rollPhase = .leaving then c1
    else
      let partMoved := new.partition != now.partition
      let ca := c1.changeRegion r (fun x => { x with
        cfg := { x.cfg with partition := new.partition, retire := new.retire, fixedTo := new.fixedTo }
        awaitModel := x.awaitModel || (partMoved && decide (new.partition < 16))
        status := if new.retire then .retired else x.status })
      let cb := ca.reportUnfixed r now.fixedTo new.fixedTo
      let cc := if m ≠ r && m ≠ (cb.region r).cfg.gangMaster then cb.joinGang r m else cb
      let spared := new.spareFor != now.spareFor
      let cd := cc.moveSpare r new.spareFor
      if spared && copyUe then
        (cd.onRegion r (fun x => { x with
          awaitTiles := insertOnce x.awaitTiles (if new.spareFor < 15 then new.spareFor else now.spareFor) })).onImg
            (fun i => { i with rollCopyUe := true })
      else cd
  c2.onImg (fun i => { i with
    rollApplied := true, rollMoved := moved
    rollParted := i.rollPhase == .applying && new.partition != now.partition })

/-- ROLL_STEP_APPLY (R289, R290, R305): the region has drained. -/
def execRollStepApply (k : ChipId) (copyUe : Bool) (s : State) : Out :=
  let c := s.chip k
  match c.stepping with
  | none => occurs false s s
  | some r =>
    let moved := c.stepMaster r != (c.region r).cfg.gangMaster
    occurs (c.running && c.drained r && !(moved && c.clk.stepBusy)) s (s.setChip k (c.applyStep r copyUe))

/-- ROLL_FORCED_DRAIN (Table IMG-6 step 3): 50,000 epochs without draining; F-IMG-05. -/
def execRollForcedDrain (k : ChipId) (s : State) : Out :=
  let c := s.chip k
  match c.stepping with
  | none => occurs false s s
  | some r =>
    occurs (c.running && !c.drained r && !c.stepSingle r && !c.img.rollForced && decide (50000 ≤ c.img.rollEpochs)) s
      (s.setChip k (((c.returnQueued r).onImg (fun i => { i with rollForced := true })).fault .img 5 r))

/-- Dispatch to region `r` resumes (R291 row 6, R292): SERVING, unless it awaits a reload, a model or its lock, or has fewer than 15
working tiles (R64). -/
def Chip.resume (c : Chip) (r : Nat) : Chip :=
  c.onRegion r (fun x =>
    if x.status = .out && x.cfg.partition < 16 && c.tilesWork r && !x.retireLater && !x.isoSinkOn && x.awaitTiles.isEmpty &&
      !x.awaitModel && !x.awaitLock && !c.stew.coolantStop
    then { x with status := .serving } else x)

/-- ROLL_SINGLE_TIMEOUT (R292): 4,000 epochs without draining; dispatch resumes, F-IMG-06, a retry at the next frame
tick; after the eighth attempt the step is skipped, F-IMG-07. -/
def execRollSingleTimeout (k : ChipId) (s : State) : Out :=
  let c := s.chip k
  match c.stepping with
  | none => occurs false s s
  | some r =>
    let c1 := (c.resume r).fault .img 6 r
    let last := decide (8 ≤ c.img.rollTries + 1)
    let c2 :=
      if last then
        ((c1.onImg (fun i => { (i.passRegion r) with skipped := if bit i.skipped r then i.skipped else i.skipped + 2 ^ r })).fault
          .img 7 r).endRollIfDone
      else if c.img.rollCancel then c1.endRoll
      else c1.onImg (fun i => { i with rollRegion := 255, rollWait := true, rollTries := i.rollTries + 1 })
    occurs (c.running && !c.drained r && c.stepSingle r && decide (4000 ≤ c.img.rollEpochs)) s (s.setChip k c2)

/-- The STATUS of region `r` at the end of its step, its rows in order (R291), and F-IMG-09. -/
def Chip.stepStatus (c : Chip) (r : Nat) : Chip :=
  let x := c.region r
  let as := fun (c : Chip) (t : RegionStatus) => c.onRegion r (fun x => { x with status := t })
  let c1 := c.faultIf (c.img.rollCopyUe && !x.cfg.retire) .img 9 r
  if x.cfg.retire then as c1 .retired
  else if decide (15 < x.cfg.partition) || c.img.rollParted || c.img.rollCopyUe then as c1 .out
  else if x.isoSinkOn then as c1 .isolated
  else (as c1 .out).resume r

/-- ROLL_STEP_END (R291, R294, Table IMG-7): the apply is done; a region whose master changed resumes when its clock is
LOCKED, or within 20 ps of its new master. -/
def execRollStepEnd (k : ChipId) (s : State) : Out :=
  let c := s.chip k
  let r := c.img.rollRegion
  let x := c.region r
  let clocked := if (c.gen r).state = .slaved then (c.gen r).deskewed else c.lockedFor r
  let c1 := ((c.stepStatus r).onImg (fun i => i.passRegion r)).endRollIfDone
  occurs (c.running && c.img.rollActive && c.img.rollApplied && decide (r < 72) &&
    (!c.img.rollMoved || x.cfg.retire || x.isoSinkOn || clocked)) s (s.setChip k c1)

/-! ## The staged image path (R296 to R303) -/

/-- STAGE (R297, R299, R311): the write of 0x03 to IMG.CTRL.CMD. -/
def execStage (k : ChipId) (s : State) : Out :=
  let c := s.chip k
  let i := c.img
  let busy := i.pending || i.rollActive || i.staged || i.staging || !c.bru.ready
  occurs c.running s (s.setChip k
    (if busy then c.fault .img 3 noInstance else c.onImg (fun i => { i with staging := true, stagingSlot := i.stageSlot })))

/-- The RESULT of staging the image in slot `n` (R297): 1 when every check passes. -/
def Chip.stageResult (c : Chip) (n : Nat) : Nat :=
  let b := slotBase n
  let h := readHeader c.flash b
  let rs := imageRecords c.flash b
  let code := checkImage c.flash b 1 moduleKeys c.otp.keys c.otp.revoked
  let used := if c.img.useSlot = 0 then c.bru.genA else c.bru.genB
  let v := imageValues h.generation rs
  if !stagedCrcOk c.flash b then 2
  else if code ≠ 1 then code
  else if c.img.useValid && h.generation ≤ used then 8
  else if !imageInRange rs v || !mapOk (classB v.b) then 7
  else 1

/-- STAGE_COMPLETE (R295, R297, R298): the checks are done. A map that fails R77 raises F-DIE-01 too (Table DIE-9). -/
def execStageComplete (k : ChipId) (s : State) : Out :=
  let c := s.chip k
  let n := c.img.stagingSlot
  let code := c.stageResult n
  let v := imageValues (readHeader c.flash (slotBase n)).generation (imageRecords c.flash (slotBase n))
  let c1 := c.onImg (fun i => { i with staging := false, result := code })
  let c2 :=
    if code = 1 then
      c1.onImg (fun i => { i with
        shadowA := v.a, shadowB := v.b, staged := true, stagedSlot := n
        cPending := v.c != i.nowC || c.committedC != i.nowC })
    else (c1.faultIf (decide (code = 7) && !mapOk (classB v.b)) .die 1 noInstance).fault .img (if code = 8 then 4 else 1) noInstance
  occurs (c.running && c.img.staging) s (s.setChip k (c2.cause 17))

/-- ABANDON (R303): the write of 0x04 to IMG.CTRL.CMD: a staged image that no commit has taken is given up. -/
def execAbandon (k : ChipId) (s : State) : Out :=
  let c := s.chip k
  occurs (c.running && c.img.staged && !(c.img.pending && c.img.snapStaged)) s
    (s.setChip k (c.onImg (fun i => { i with staged := false, cPending := false })))

end Sys2Proof.Machine
end

