-- ==== Sys2Proof/Machine/Budget.lean ====
section
/-! DEFINITION. The tray budget exchange (R556, R558, R559): the procedure that divides the budget among the powered
slots, and its application to the tray. -/

namespace Sys2Proof.Machine

/-- What the exchange reads of one powered slot. -/
structure Share where
  slot : Nat
  dem : Nat
  cap : Nat
  urg : Nat
  g : Nat := 150
deriving DecidableEq, Repr

/-- `lim(n, demand)` and `lim(n, cap)` of R556. -/
def Share.lim (x : Share) (demandPass : Bool) : Nat := if demandPass then min x.cap (max 150 x.dem) else x.cap

/-- The inner `for n in act` of R556: each active slot in ascending order takes its part of `r0`. -/
def shareRound (demandPass : Bool) (r0 ws : Nat) (xs : List Share) (rest : Nat) : List Share × Nat :=
  match xs with
  | [] => ([], rest)
  | x :: t =>
    if x.g < x.lim demandPass then
      let a := max 1 (r0 * (x.urg + 1) / ws)
      let a := min a (min (x.lim demandPass - x.g) rest)
      let (t', rest') := shareRound demandPass r0 ws t (rest - a)
      ({ x with g := x.g + a } :: t', rest')
    else
      let (t', rest') := shareRound demandPass r0 ws t rest
      (x :: t', rest')

/-- The `while rest > 0` of R556. Each round moves at least one watt or ends, so `fuel = rest` suffices. -/
def sharePass (fuel : Nat) (demandPass : Bool) (xs : List Share) (rest : Nat) : List Share × Nat :=
  match fuel with
  | 0 => (xs, rest)
  | n + 1 =>
    let act := xs.filter (fun x => decide (x.g < x.lim demandPass))
    if rest = 0 || act.isEmpty then (xs, rest)
    else
      let ws := (act.map (fun x => x.urg + 1)).sum
      let (xs', rest') := shareRound demandPass rest ws xs rest
      if rest' = rest then (xs, rest) else sharePass n demandPass xs' rest'

/-- The grants of R556 for the powered slots `xs` and the budget `budget`. -/
def grants (budget : Nat) (xs : List Share) : List Share :=
  let rest := budget - 150 * xs.length
  let (ys, rest) := sharePass rest true xs rest
  (sharePass rest false ys rest).1

/-- The grant that the header carries for slot `n`, and that the TMC holds to be in force there (R557): a rise goes out once every
acknowledgement has come, and until then its previous grant. -/
def Tray.headerGrant (t : Tray) (n : Nat) : Nat :=
  let x := t.slot n
  if x.grantPrev < x.grant && !t.acked then x.grantPrev else x.grant

/-- The share of powered slot `n`: its last report, or by R558 its grant in force when the report is missing. -/
def Tray.share (t : Tray) (n : Nat) : Share :=
  let x := t.slot n
  { slot := n, dem := if x.reported then x.dem else t.headerGrant n, cap := x.capRep, urg := x.urg }

/-- The exchange at epoch `e` over the powered slots `ns` (R556): each slot's grant in force is kept as its previous one (R557), and
the slots not powered return theirs (R559); the acknowledgements are awaited anew. -/
def Tray.exchange (t : Tray) (e : Nat) (ns : List Nat) : Tray :=
  let gs := grants t.image.budget (ns.map t.share)
  let grantOf := fun n => ((gs.find? (fun x => x.slot == n)).map (fun x => x.g)).getD 0
  { t with
    exch := e, acked := false
    slots := t.slots.updateMany (fun _ => {}) (List.range 8) (fun n x =>
      { x with grantPrev := t.headerGrant n, grant := grantOf n, reported := false }) }

/-- The slots that count as powered for an exchange (R41's count: powered or in a power sequence). -/
def Tray.poweredSlots (t : Tray) : List Nat := (List.range 8).filter (fun n => (t.slot n).counted)

end Sys2Proof.Machine
end

