-- ==== Sys2Proof/Machine/SlotOps.lean ====
section
/-! DEFINITION. The slot operations that several commands share: what a module that goes down does to its slot's
interfaces (Table TRY-5), power-up and power-down (Tables BRU-2 and BRU-3), removal of power (R234), requests to the
hot-swap controller (R230), the coolant override (R553) and the choice of a TRC's source (R27). -/

namespace Sys2Proof.Machine

/-- The interfaces of a slot whose module is in reset or loses power: ring bypass at once (R19, R20), the I2C segment
disconnected, the reference outputs toward it disabled (R52, Table TRY-5). -/
def TraySlot.isolate (x : TraySlot) : TraySlot := { x with bypass := true, i2c := false, fanout := false }

/-! ## Rails (Tables BRU-1 to BRU-3, ELE-4) -/

/-- The rails of a slot (Table BRU-1). -/
inductive Rail where
  | vaux | v1p8 | vfix | vdd2h | vdd2l | vddq
  | vcore (i : Fin 4)
deriving DecidableEq, Repr

/-- A rail's nominal value in µV (Table BRU-1); that of a VCORE rail at start. -/
def Rail.nominal (r : Rail) : Nat :=
  match r with
  | .vaux => 3300000 | .v1p8 => 1800000 | .vfix => 750000 | .vdd2h => 1050000 | .vdd2l => 900000 | .vddq => 500000
  | .vcore _ => 750000

/-- The level of a rail in µV: its nominal value while it is on (R225), the bank's level for a VCORE rail. -/
def TraySlot.railUv (x : TraySlot) (r : Rail) : Nat :=
  match r with
  | .vaux => if x.vauxEn then r.nominal else 0
  | .v1p8 => if 1 ≤ x.modUp then r.nominal else 0
  | .vfix => if 2 ≤ x.modUp then r.nominal else 0
  | .vdd2h => if 3 ≤ x.modUp then r.nominal else 0
  | .vdd2l => if 4 ≤ x.modUp then r.nominal else 0
  | .vddq => if 5 ≤ x.modUp then r.nominal else 0
  | .vcore i => x.coreUv.getD i 0

/-- The setpoint in µV that a code stands for (Table ELE-4). -/
def setpointUv (code : Nat) : Nat := 500000 + 2500 * code

/-- VCORE_PGi as the module reads it (R714, Table ELE-2): released while island `i` lies within 5 % of the setpoint of the
last applied frame, and toward an unpowered module. -/
def TraySlot.vcorePg (x : TraySlot) (i : Nat) : Bool :=
  let set := setpointUv (x.bankV.getD i 100)
  let now := x.coreUv.getD i 0
  !x.vauxEn || decide (20 * (max now set - min now set) ≤ set)

/-- The bank's island `i` takes code `code` and its rail goes there (R713). -/
def TraySlot.setCore (x : TraySlot) (i code : Nat) : TraySlot :=
  { x with bankV := x.bankV.set i code
           coreUv := if i < x.coreUp then x.coreUv.set i (setpointUv code) else x.coreUv }

/-- The next event of steps 1 to 5 of Table BRU-2: the slot switch, the VAUX phase modules, AUX_EN, the module's five rails
one after another, AUX_PG once all five are good, and only then (R715) the VCORE rails one after another at code 100. -/
def TraySlot.railUp (x : TraySlot) : TraySlot :=
  if !x.switch_ then { x with switch_ := true }
  else if !x.vauxEn then { x with vauxEn := true }
  else if !x.auxEn then { x with auxEn := true }
  else if x.modUp < 5 then { x with modUp := x.modUp + 1 }
  else if !x.auxPg then { x with auxPg := true }
  else if x.coreUp < 4 then { x with coreUp := x.coreUp + 1, coreUv := x.coreUv.set x.coreUp (setpointUv (x.bankV.getD x.coreUp 100)) }
  else x

/-- The next event of steps 2 to 5 of Table BRU-3: the VCORE rails from VCORE3 down to VCORE0, then (R715) AUX_EN, the
module's rails in the opposite order, the VAUX phase modules, the slot switch. -/
def TraySlot.railDown (x : TraySlot) : TraySlot :=
  if 0 < x.coreUp then { x with coreUp := x.coreUp - 1, coreUv := x.coreUv.set (x.coreUp - 1) 0 }
  else if x.auxEn then { x with auxEn := false, auxPg := false }
  else if 0 < x.modUp then { x with modUp := x.modUp - 1, auxPg := false }
  else if x.vauxEn then { x with vauxEn := false }
  else { x with switch_ := false }

/-- `n` events of a power-up. -/
def TraySlot.railsUp (n : Nat) (x : TraySlot) : TraySlot :=
  match n with
  | 0 => x
  | k + 1 => TraySlot.railsUp k x.railUp

/-- `n` events of a power-down. -/
def TraySlot.railsDown (n : Nat) (x : TraySlot) : TraySlot :=
  match n with
  | 0 => x
  | k + 1 => TraySlot.railsDown k x.railDown

/-- The events of a whole power-up, and of a whole power-down. -/
def railEvents : Nat := 13

/-- Every rail of the slot is on and good (Table BRU-2, step 6). -/
def TraySlot.railsGood (x : TraySlot) : Bool :=
  x.switch_ && x.vauxEn && x.auxEn && x.modUp == 5 && x.auxPg && x.coreUp == 4

/-- Every rail off in one step (R234): every phase module disabled, AUX_EN cleared, the slot switch open. -/
def TraySlot.railsOff (x : TraySlot) : TraySlot :=
  { x with switch_ := false, vauxEn := false, auxEn := false, modUp := 0, auxPg := false, coreUp := 0, coreUv := [0, 0, 0, 0] }

/-- The slot with its power gone (R52, R53, R231): buffers released, the TMC's reports of its chip forgotten. -/
def TraySlot.dark (x : TraySlot) : TraySlot :=
  { x.isolate.railsOff with
    modRst := true, perst := true, i2cReady := false, coolantN := false, overridden := false, retained := false
    bankV := [100, 100, 100, 100], lastPhase := 0, lastReady := false, lastBad := false, alert := false
    dem := 0, capRep := 550, urg := 128, reported := false, ackRep := 0 }

/-- Slot `n` is enabled by the tray image in use (R15). -/
def Tray.slotEnabled (t : Tray) (n : Nat) : Bool := t.haveImage && t.image.enable.getD n true

/-- Slot `n` may be powered: occupied, enabled (R15), the busbar at or above 44 V (Table ELE-6). -/
def Tray.mayPower (t : Tray) (n : Nat) : Bool :=
  (t.slot n).occupied && t.slotEnabled n && decide (44000 ≤ t.busMv)

/-- A power request reaches the hot-swap controller (R230): it replaces a pending one; one whose target is the state
already reached, with no sequence running, is dropped (R231). -/
def TraySlot.request (x : TraySlot) (on : Bool) : TraySlot :=
  match x.seq with
  | .poweringUp => { x with pendReq := some on }
  | .poweringDown => { x with pendReq := some on }
  | .on => { x with pendReq := if on then none else some false }
  | .off => { x with pendReq := if on then some true else none }
  | .inhibited => { x with pendReq := if on then some true else none }

/-- The controller accepts a power-up of slot `n` (Table BRU-2, step 1): the slot switch closes, and COOLANT_STOP_N follows
the gate once the slot is powered. The slot is in a power sequence from now on, so the active TMC sets the threshold (R41). -/
def Tray.beginPowerUp (t : Tray) (n : Nat) : Tray :=
  (t.onSlot n (fun x => { x.railsOff.railUp with seq := .poweringUp, pendReq := none, coolantN := t.stop })).setThreshold

/-- The controller starts a power-down of slot `n` (Table BRU-3, step 1): MOD_RST_N and PERST_N asserted, the ring
bypassed. The rails follow by `TraySlot.railDown`. -/
def Tray.beginPowerDown (t : Tray) (n : Nat) : Tray :=
  t.onSlot n (fun x => { x.isolate with seq := .poweringDown, modRst := true, perst := true, i2cReady := false })

/-- Slot `n`'s power is removed in one step (R234): the pending request is discarded, the threshold follows (R46), and
a later power-up waits 200 ms (R233). -/
def State.removePower (s : State) (n : Nat) : State :=
  let wasPowered := (s.tray.slot n).counted
  let s := s.onChip n Chip.unpowered
  s.onTray (fun t => ((t.onSlot n (fun x =>
    { x.dark with
      seq := if wasPowered then .inhibited else x.seq
      pendReq := none, offHeld := false, resetHeld := false, wantOn := false })).setThreshold))

/-- Every powered slot's VCORE rails are held at 0.60 V, code 40 (R553, R721). Without an active TMC nobody
overrides. -/
def Tray.overrideCores (t : Tray) : Tray :=
  if t.tmcActs then
    (List.range 8).foldl (fun t n =>
      if (t.slot n).counted then
        t.onSlot n (fun x => { (List.range 4).foldl (fun y i => y.setCore i 40) x with overridden := true })
      else t) t
  else t

/-- A flow sensor counts for the gate (R42, Table SVC-7): present, voting and not prepared. -/
def FlowSensor.counts (x : FlowSensor) : Bool := x.present && x.voting && !x.prepared

/-! ## Reference cards (R26 to R30) -/

/-- The order of R27: 0 its own facility input, 1 the partner's outputs, 2 its own oscillator. -/
def TrcSource.rank (x : TrcSource) : Nat := match x with | .facility => 0 | .partner => 1 | .own => 2

/-- TRC `x`'s outputs are driven. -/
def Tray.trcDrives (t : Tray) (x : Side) : Bool := (t.trc x).present && (t.trc x).enabled

/-- The reference and PPS line `x` of slot `n` is driven (R26, Table TRY-5): TRC A drives REFA and PPSA, TRC B REFB and PPSB,
through the slot's fan-out outputs. -/
def Tray.lineDriven (t : Tray) (n : Nat) (x : Side) : Bool := t.trcDrives x && (t.slot n).fanout

/-- What a tray event does to the chips through the reference lines (R26, R59, R127, R705): the chips whose line has gone dead find its
loss, those that a line reaches again see its edges. `s` is the state before the event, `u` the one after it. -/
def State.followLines (s u : State) : State :=
  [Side.a, Side.b].foldl (fun (u : State) x =>
    (List.range 8).foldl (fun (v : State) n =>
      let on := u.tray.lineDriven n x
      if s.tray.lineDriven n x != on && (v.chip n).running then v.onChip n (fun c => c.setLine x on) else v) u) u

/-- The source that R27 gives TRC `x`: with no facility input at either card, B follows A and A free-runs. -/
def Tray.bestSource (t : Tray) (x : Side) : TrcSource :=
  let partner := t.trc x.other
  if (t.trc x).facility then .facility
  else if t.trcDrives x.other && (partner.facility || x == .b) then .partner
  else .own

/-- TRC `x` takes the source of R27, `ps` picoseconds from its output phase. Its outputs never step: the difference is
slewed away (R29). A card that free-runs follows nothing, and one whose outputs are disabled has none to slew. -/
def Tray.takeSource (t : Tray) (x : Side) (ps : Int) : Tray :=
  let best := t.bestSource x
  if best = (t.trc x).source then t
  else t.setTrc x { t.trc x with source := best, phase := if best = .own || !(t.trc x).enabled then 0 else ps }

/-- One picosecond nearer to the source (R29): at every 100th epoch boundary, which is 10 ns per second. -/
def Trc.slew (x : Trc) : Trc := { x with phase := if 0 < x.phase then x.phase - 1 else if x.phase < 0 then x.phase + 1 else 0 }

/-! ## Standing conditions of the active TMC (R48, R56, R57) -/

/-- F-TRY-09 while the lamp board is absent and F-TRY-13 of every slot that holds a module and is disabled by the image in use
(R48, R56): raised when not in force yet, as often as the active TMC comes to look. -/
def Tray.noteStanding (t : Tray) : Tray :=
  if t.role.isSome then
    let t1 := t.faultIf (!t.lampBoard && !t.faulty .try_ 9 noInstance) .try_ 9 noInstance
    (List.range 8).foldl (fun t n =>
      if (t.slot n).occupied && t.haveImage && !t.slotEnabled n then t.faultIf (!t.faulty .try_ 13 n) .try_ 13 n
      else t.clearFault .try_ 13 n) t1
  else t

end Sys2Proof.Machine
end

