-- ==== Sys2Proof/Machine/BringUp.lean ====
section
/-! DEFINITION. Resets of a chip and its start (R235 to R264, Tables BRU-4 to BRU-8). -/

namespace Sys2Proof.Machine

/-! ## Resets (Table BRU-4, R235 to R238) -/

/-- POWER_ON_RESET (R235): the module's power-on detector holds the whole chip; nothing is kept. -/
def execPowerOnReset (k : ChipId) (s : State) : Out :=
  let s1 := s.onChip k (fun c => { c.wholeReset 0 with hif := { perst := (s.tray.slot k).perst } })
  occurs (s.chip k).powered s (s1.onTray (fun t => t.onSlot k (fun x => x.isolate)))

/-- MOD_RST_ASSERT (R235, R19, R52): MOD_RST_N goes low at a powered slot. -/
def execModRstAssert (k : ChipId) (s : State) : Out :=
  let s1 := s.onTray (fun t => t.onSlot k (fun x => { x.isolate with modRst := true }))
  occurs (s.chip k).powered s (s1.onChip k (fun c => c.wholeReset 1))

/-- Every WRITE that a memory port has accepted is completed (R236), in pop order. -/
def Chip.drainWrites (c : Chip) : Chip :=
  (List.range 16).foldl (fun c h =>
    (c.chan h).store.foldl (fun (c : Chip) (g : Group) =>
      if g.write then { c with mem := Memory.writeEnabled c.mem g.addr (g.data.take (64 * g.lines)) g.en } else c) c) c

/-- A chip restart (R236 to R238, R246): the whole chip resets and starts from step 1; session memory and the REJECTED flags
stay. -/
def Chip.restart (c : Chip) (cause : Nat) : Chip :=
  let d := c.drainWrites
  let r := { d.wholeReset cause with
    held := false, slotId := c.slotId, mem := d.mem
    bru := { cause := cause, phase := .otp, restart := true, rejA := c.bru.rejA, rejB := c.bru.rejB } }
  (r.setLine .a c.clk.refA.live).setLine .b c.clk.refB.live

/-- RESTART (R236, R238, R259, R260): the write of 0xA5 to BRU.CTRL.RESTART, over the management I2C or through BAR0. A chip
that COOLANT_STOP_N has stopped before READY ignores it. -/
def execRestart (k : ChipId) (i2c : Bool) (s : State) : Out :=
  let c := s.chip k
  occurs (c.running && !c.bru.stuck) s (s.setChip k (c.restart (if i2c then 2 else 3)))

/-- START_BEGIN (R239, R701, Table BRU-2 step 7): MOD_RST_N is released with the power-on detector clear; the slot's reference outputs
are enabled (Table TRY-5), and the chip finds a line that no card drives dead. A segment whose buffer step 8 has enabled is connected
again. -/
def execStartBegin (k : ChipId) (s : State) : Out :=
  let c := s.chip k
  let s1 := s.onTray (fun t => t.onSlot k (fun x => { x with modRst := false, fanout := true, i2c := x.i2cReady }))
  let c1 := { c with held := false, slotId := k, bru := { c.bru with phase := .otp } }
  let c2 := (c1.setLine .a (s1.tray.lineDriven k .a)).setLine .b (s1.tray.lineDriven k .b)
  occurs (c.powered && c.held && (s.tray.slot k).seq == .on) s (s1.setChip k c2)

/-- PERST_RELEASE (R252, Table BRU-2 steps 8 and 9): 100 ms after MOD_RST_N PERST_N is released, the I2C buffer being enabled by
then; HIF trains its link. -/
def execPerstRelease (k : ChipId) (s : State) : Out :=
  let s1 := s.onTray (fun t => t.onSlot k (fun x =>
    { x with perst := false, i2cReady := true, i2c := x.i2c || !x.i2cReady }))
  occurs ((s.chip k).powered && !(s.tray.slot k).modRst && (s.tray.slot k).seq == .on) s
    (s1.onChip k (fun c => c.onHif (fun h => { h with perst := false })))

/-! ## Image selection (R242 to R245) -/

/-- The start enters phase `p`. -/
def Chip.enter (c : Chip) (p : Phase) : Chip := c.onBru (fun b => { b with phase := p })

/-- The start stops in FAILED with F-BRU-nn (Table BRU-8). -/
def Chip.startFails (c : Chip) (nn inst : Nat) : Chip := ((c.enter .failed).fault .bru nn inst).cause 18

/-- RESULT of slot `n` (Table BRU-7). -/
def Bru.setResult (b : Bru) (n code : Nat) : Bru := if n = 0 then { b with resultA := code } else { b with resultB := code }
def Bru.setGen (b : Bru) (n g : Nat) : Bru := if n = 0 then { b with genA := g } else { b with genB := g }
def Bru.rejected (b : Bru) (n : Nat) : Bool := if n = 0 then b.rejA else b.rejB

/-- The slots that the start tries, in order (R242): those not rejected whose header CRC holds, the higher generation
first, slot A when equal. -/
def Chip.slotOrder (c : Chip) : List Nat :=
  let able := fun (n : Nat) => !c.bru.rejected n && headerCrcOk c.flash (slotBase n)
  let gen := fun (n : Nat) => (readHeader c.flash (slotBase n)).generation
  (if gen 0 < gen 1 then [1, 0] else [0, 1]).filter able

/-- What the header check leaves in the registers of slot `n`: a rejected slot is not tried, a bad header CRC is RESULT 2. -/
def Chip.readSlot (c : Chip) (n : Nat) : Chip :=
  let ok := headerCrcOk c.flash (slotBase n)
  c.onBru (fun b =>
    let b1 := if ok then b.setGen n (readHeader c.flash (slotBase n)).generation else b
    if b.rejected n then b1 else if ok then b1 else b1.setResult n 2)

/-- The slots `ns` are tried in turn (R243): the chip with each RESULT and F-BRU-02, and the accepted slot. -/
def Chip.trySlots (c : Chip) (ns : List Nat) : Chip × Option Nat :=
  match ns with
  | [] => (c, none)
  | n :: t =>
    let code := checkImage c.flash (slotBase n) 1 moduleKeys c.otp.keys c.otp.revoked
    let c1 := c.onBru (fun b => b.setResult n code)
    if code = 1 then (c1, some n) else (c1.fault .bru 2 n).trySlots t

/-- An accepted image is rejected while it is applied (R245, R273): its slot is flagged and the chip restarts. -/
def Chip.rejectImage (c : Chip) : Chip :=
  let c1 := c.onBru (fun b => if b.slot = 0 then { b with rejA := true, resultA := 7 } else { b with rejB := true, resultB := 7 })
  (c1.fault .bru 4 c.bru.slot).restart 4

/-- The reference that the start selects at once, when one is qualified (R142). -/
def Chip.selectReference (c : Chip) : Chip :=
  match c.clk.candidate c.img.nowC.prefer with
  | some n => if c.clk.refSel = 3 then (c.onClk (fun q => q.select n false true)).cause 19 else c
  | none => c

/-- Step 4 of Table BRU-5: the class C fields apply (R169, R295). -/
def Chip.applyC (c : Chip) (v : ClassC) : Chip :=
  (c.onImg (fun i => { i with nowC := v })).onXng (fun x => { x with margin := v.margin, ageLimit := v.ageLimit })

/-- Step 3 ends (R242 to R244, R273, R302): the accepted image's class C fields apply, or RECOVERY. A partition out of range fails R77
too (Table DIE-9). -/
def Chip.selectImage (c : Chip) : Chip :=
  let order := c.slotOrder
  let (c1, found) := ((c.readSlot 0).readSlot 1).trySlots order
  match found with
  | none => ((c1.enter .recovery).fault .bru 3 noInstance).cause 18
  | some n =>
    let rs := imageRecords c.flash (slotBase n)
    let v := imageValues (readHeader c.flash (slotBase n)).generation rs
    let c2 := (c1.onBru (fun b => { b with slot := n, image := v, fallback := order.head? != some n })).onImg (fun i =>
      { i with useValid := true, useSlot := n })
    if imageInRange rs v then ((c2.applyC v.c).enter .ref).selectReference
    else (c2.faultIf (!partitionsOk (classB v.b)) .die 1 noInstance).rejectImage

/-! ## Clocks and configuration (Table BRU-5 steps 5 and 8, Table BRU-6) -/

/-- Step 5 (R91, R142, R145, R107): REF has moved to the ref PLL; the step in force is the image's; each island is set to
its OTP point for it (R542); the guards are calibrated for it. -/
def Chip.enterClocks (c : Chip) : Chip :=
  let m := c.bru.image.a.step
  let c1 := (c.onClk (fun q => { q with mNow := m, leaving := false, guardAge := 0 })).setIslands m
  (c1.forRegions allRegions (fun c r => c.onGen r (fun g => { g with guardFs := guardFor m, guardCals := g.guardCals + 1 }))).enter .clocks

/-- Every region that is not retired has a LOCKED clock (R239, R734). -/
def Chip.allLocked (c : Chip) : Bool := allRegions.all (fun r => (c.region r).cfg.retire || c.lockedFor r)

/-- Step 6 is done (R236, R262): every channel is trained and session memory initialised; after a chip restart only the
session table is cleared. -/
def Chip.initMemory (c : Chip) : Chip :=
  let c1 := (List.range 16).foldl (fun c h => c.onChan h (fun x => { x with trained := true })) c
  let c2 := { c1 with mem := if c.bru.restart then Memory.clear c.mem 0 0x1000000 else [] }
  c2.onBru (fun b => { b with memInit := true })

/-- The map that results from the image and the self-test (R89). -/
def Chip.startMap (c : Chip) (r : Nat) : ClassB :=
  let now := (c.region r).cfg
  let im := classB c.bru.image.b r
  { im with
    retire := im.retire || now.retire
    spareFor := if now.spareFor < 15 then now.spareFor else if (c.region r).spareBad then 15 else im.spareFor }

/-- Table BRU-6: every block takes its image fields, in force and staged (R247, R89, R145, R188). -/
def Chip.configure (c : Chip) : Chip :=
  if !mapOk c.startMap then (c.fault .die 1 noInstance).rejectImage
  else
    let v := c.bru.image
    let shadow : Bank ClassB := allRegions.foldl (fun b r => b.set r (c.startMap r)) {}
    let c1 := c.forRegions allRegions (fun d r => d.onRegion r (fun x =>
      { x with cfg := { c.startMap r with gangMaster := r }
               status := if (c.startMap r).retire then .retired else x.status }))
    let c2 := c1.forRegions allRegions (fun d r => if (c.startMap r).gangMaster = r then d else d.joinGang r (c.startMap r).gangMaster)
    let c3 := c2.forRegions allRegions (fun d r => d.reportUnfixed r 0 (c.startMap r).fixedTo)
    let c4 := (List.range 16).foldl (fun d h => d.onChan h (fun x =>
      { x with slots := v.a.tableOf h, slotNext := none, mode := v.a.modeAt h, limit := v.a.limitAt h })) c3
    let c5 := (c4.onImg (fun i => { i with nowA := v.a, shadowA := v.a, shadowB := shadow })).onBru (fun b => { b with configured := true })
    c5.refreshAll

/-! ## The start's commands -/

/-- Step 1 ends well (R240, R241): the SRAM repair data of OTP is applied to every tile. -/
def Chip.applyRepair (c : Chip) : Chip :=
  { c with posns := c.otp.repair.cells.foldl (fun b e => b.update {} e.1 (fun x => { x with repair := e.2 })) c.posns }

/-- START_PHASE_ADVANCE (R239 to R245, R247, Table BRU-5): the condition of the phase holds and the next one is entered; in
CONFIG the blocks are configured, and READY_POINT leads out of it. -/
def execStartPhaseAdvance (k : ChipId) (s : State) : Out :=
  let c := s.chip k
  let put := fun (b : Bool) (d : Chip) => occurs (c.running && b) s (s.setChip k d)
  match c.bru.phase with
  | .otp => put true (if c.otp.good then c.applyRepair.enter .spine else c.startFails 1 noInstance)
  | .spine => put (c.xng.up && c.xng.ended) (c.enter .image)
  | .image => put true c.selectImage
  | .ref => put (c.clk.refLocked && c.clk.lockAged && c.time.pos == 0) c.enterClocks
  | .clocks => put c.allLocked ((c.enter .memory).onStew (fun w => { w with evaluating := true }))
  | .memory => put true (c.initMemory.enter .selftest)
  | .selftest => put c.bru.selftested (c.enter .config)
  | .config => put (c.allLocked && !c.bru.configured) c.configure
  | .held => occurs false s s
  | .ready => occurs false s s
  | .recovery => occurs false s s
  | .failed => occurs false s s

/-- Active positions of a region that failed self-test. -/
def activeFails (mask : Nat) : List Nat := (List.range 15).filter (fun q => bit mask q)

/-- The self-test result of one region (R248 to R251). -/
def Chip.selfTested (c : Chip) (f : PosFail) : Chip :=
  let r := f.region
  let m := f.mask % 2 ^ 16
  let spare := bit m 15
  let c1 := c.onRegion r (fun x => { x with selfFailed := m, posFail := m, spareBad := spare })
  match activeFails m with
  | [] => c1
  | [p] =>
    if spare then (c1.retire r).fault .bru 9 r
    else
      let g := fun (b : ClassB) => { b with spareFor := p }
      ((c1.hwSetB r g).onRegion r (fun x => { x with cfg := g x.cfg })).fault .bru 8 r
  | _ :: _ :: _ => (c1.retire r).fault .bru 9 r

/-- SELFTEST_COMPLETE (R248 to R251): every position is tested and its memory left zero; `fails` lists the regions with a
failed position. -/
def execSelftestComplete (k : ChipId) (fails : List PosFail) (s : State) : Out :=
  let c := s.chip k
  let c1 := fails.foldl (fun c f => if f.region < 72 then c.selfTested f else c)
    { c with posns := c.posns.mapCells (fun _ x => { repair := x.repair }) }
  occurs (c.running && (c.bru.phase == .memory || c.bru.phase == .selftest) && !c.bru.selftested) s
    (s.setChip k (c1.onBru (fun b => { b with selftested := true })))

/-- CHANNEL_TRAINING_FAIL (R262): the third failure of one channel stops the start. -/
def execChannelTrainingFail (k : ChipId) (h : ChanId) (s : State) : Out :=
  let c := s.chip k
  let n := (c.chan h).trainFails + 1
  let c1 := c.onChan h (fun x => { x with trainFails := n })
  occurs (c.running && c.bru.phase == .memory && !(c.chan h).trained) s (s.setChip k (if 3 ≤ n then c1.startFails 7 h else c1))

/-- The conditions of R254. R261 counts a generator frozen in holdover as LOCKED; REF_LOCKED must be 1 all the same (DEDUCED, log entry
41). -/
def Chip.mayBeReady (c : Chip) : Bool :=
  c.bru.phase == .config && c.bru.configured && c.clk.refLocked &&
  c.xng.up && c.xng.ended && allRegions.all (fun r => (c.region r).cfg.retire || (c.gen r).state == .slaved || c.lockedFor r) &&
  c.bru.memInit && c.bru.selftested && c.seq.ctr.cells.all (fun e => e.2 == 0) && c.stew.evaluating

/-- READY_POINT (R254, R255, R263): READY, its epoch, and every region of partitions 0 to 15 SERVING, but for one with fewer than 15
working tiles (R64) and the members of a gang that is being dissolved, which R126 keeps OUT. -/
def execReadyPoint (k : ChipId) (s : State) : Out :=
  let c := s.chip k
  let c1 := c.onBru (fun b => { b with phase := .ready, ready := true, readyEpoch := c.time.epoch })
  let leaving := fun (r : Nat) => c.dissolves.any (fun d => d.members.contains r)
  let c2 := c1.forRegions allRegions (fun c r => c.onRegion r (fun x =>
    { x with
      awaitTiles := [], awaitModel := false, awaitLock := leaving r
      status := if x.status = .out && x.cfg.partition < 16 && c.tilesWork r && !x.retireLater && !leaving r then .serving
        else x.status }))
  occurs (c.running && c.mayBeReady) s (s.setChip k (c2.cause 18))

/-- START_TIMEOUT (R257): 2 s without READY, the wait of F-CLK-13 not counted; F-BRU-06, and the start continues. -/
def execStartTimeout (k : ChipId) (s : State) : Out :=
  let c := s.chip k
  occurs (c.running && !c.bru.ready && !c.bru.late && decide (2000000 ≤ c.bru.epochs)) s
    (s.setChip k ((c.onBru (fun b => { b with late := true })).fault .bru 6 noInstance))

end Sys2Proof.Machine
end

