-- ==== Sys2Proof/Machine/Clock.lean ====
section
/-! DEFINITION. The commands of chapter 03 on references, generators and frequency steps. -/

namespace Sys2Proof.Machine

/-- PPS_LOST (R101): three second boundaries without an accepted edge; F-CLK-05 on a chip. -/
def execPpsLost (pl : Place) (s : State) : Out :=
  match pl with
  | .chip k =>
    let t := (s.chip k).time
    occurs ((s.chip k).running && decide (3 ≤ t.missing) && !t.lost) s
      (s.onChip k (fun c => (c.onTime (fun t => { t with lost := true })).fault .clk 5 noInstance))
  | .tmc x =>
    let t := (s.tray.tmc x).time
    occurs ((s.tray.tmc x).present && decide (3 ≤ t.missing) && !t.lost) s
      (s.onTray (fun y => y.onTmc x (fun m => { m with time := { m.time with lost := true } })))

/-- EPOCH_LOAD_ARM (R96, R98): a write of `v` to CLK.EPOCH_LOAD_ARM. -/
def execEpochLoadArm (k : ChipId) (v : Word) (s : State) : Out :=
  let c := s.chip k
  let (t, refused) := c.time.armLoad
  occurs c.running s (s.setChip k
    (if v.toNat % 2 = 1 then { c with time := t }.faultIf refused .clk 12 noInstance
     else { c with time := { c.time with arm := false } }))

/-- REF_SWITCH (R134): a write to CLK.REF_CTRL.SWITCH. The other reference, when qualified, is selected at the next
epoch boundary; a write during a hold, a relock or holdover is ignored. -/
def execRefSwitch (k : ChipId) (s : State) : Out :=
  let c := s.chip k
  let q := c.clk
  let ok := decide (q.refSel < 2) && !q.freqHold && !q.relock && !q.holdover && !q.leaving && q.qualified (1 - q.refSel)
  occurs (c.running && ok) s (s.setChip k (c.onClk (fun q => { q with switchTo := some (1 - q.refSel) })))

/-- REFERENCE_INVALID (R127 to R129, R705, Table CLK-6): `ns` without a rising edge, or the high times `duty` of the last periods,
newest first, fail the input. F-CLK-01 or F-CLK-02; the selected reference starts the frequency hold. While REF runs from the keeper
the selection is abandoned, for the other reference when that is qualified (R132, R142). The input is valid again once it is
qualified again (DEDUCED, log entry 35). -/
def execReferenceInvalid (k : ChipId) (line : Side) (ns : Nat) (duty : List Nat) (s : State) : Out :=
  let c := s.chip k
  occurs (c.running && (decide (40 ≤ ns) || dutyFails duty)) s (s.setChip k (c.referenceInvalid line))

/-- FREQ_WINDOW_END (R128): a window within 100 ppm of the keeper counts toward qualification; one beyond it costs the
qualification, and a relock to that reference after a commanded switch is treated by R129 (R134). -/
def execFreqWindowEnd (k : ChipId) (line : Side) (ppm : Int) (s : State) : Out :=
  let c := s.chip k
  let m := c.clk.refOf line
  let good := decide (ppm.natAbs ≤ 100)
  let m' : RefMon :=
    if good then { m with windows := m.windows + 1 }
    else { m with ok := false, clean := 0, windows := 0, badWindow := false }
  let c1 := c.onClk (fun q =>
    let q1 := q.setRef line m'
    if !good && q1.selects line && q1.relock && q1.commanded then q1.beginHold else q1)
  occurs c.running s (s.setChip k c1)

/-- REFERENCE_QUALIFIED (R127, R132, R142): the monitors have been clean for 10,000 epochs with at least one window.
The start or holdover then selects it. -/
def execReferenceQualified (k : ChipId) (line : Side) (s : State) : Out :=
  let c := s.chip k
  let m := c.clk.refOf line
  let ready := m.live && !m.ok && decide (10000 ≤ m.clean) && decide (1 ≤ m.windows) && !m.badWindow
  let c1 := c.onClk (fun q => q.setRef line { m with valid := true, ok := true })
  let waits := c1.clk.refSel == 3 && (c1.clk.holdover || c1.bru.phase == .ref)
  let c2 := match c1.clk.candidate c1.img.nowC.prefer with
    | some n => if waits then (c1.onClk (fun q => q.select n false true)).cause 19 else c1
    | none => c1
  occurs (c.running && ready) s (s.setChip k c2)

/-- FREQ_HOLD_END (R91, R129, R131): 100 epochs of hold are over; the other reference is selected when qualified, else
holdover, at the epoch boundary. -/
def execFreqHoldEnd (k : ChipId) (s : State) : Out :=
  let c := s.chip k
  let other := 1 - c.clk.refSel
  occurs (c.running && c.clk.freqHold && decide (100 ≤ c.clk.holdEpochs) && c.time.pos == 0) s
    (s.setChip k (if c.clk.qualified other then (c.onClk (fun q => q.select other false false)).cause 19
      else c.enterHoldover.serveWaiting))

/-- REF_PLL_LOCKED (R130): the relock sets REF_LOCKED. -/
def execRefPllLocked (k : ChipId) (s : State) : Out :=
  let c := s.chip k
  occurs (c.running && c.clk.relock && !c.clk.freqHold) s
    (s.setChip k (c.onClk (fun q => { q with refLocked := true, lockAged := false, relock := false, commanded := false })))

/-- HOLDOVER_EXIT (R91, R101, R132): at the first epoch boundary after REF_LOCKED the REF domain returns to the ref
PLL; F-CLK-04, FROZEN generators go to LOCKING, the PPS count starts afresh. -/
def execHoldoverExit (k : ChipId) (s : State) : Out :=
  let c := s.chip k
  let c1 := c.onClk (fun q => { q with holdover := false, leaving := false })
  let c2 := c1.onTime (fun t => { t with missing := 0, accepted := false, fresh := true, runLen := 0 })
  occurs (c.running && c.clk.holdover && c.clk.refLocked && c.clk.leaving && c.clk.lockAged && c.time.pos == 0) s
    (s.setChip k (((c2.mapGens (fun _ g => g.thaw)).fault .clk 4 noInstance).cause 19))

/-- HOLDOVER_TIMEOUT (R133): more than 10^12 ticks of holdover clear TIME_VALID; F-CLK-14, once in a holdover. -/
def execHoldoverTimeout (k : ChipId) (s : State) : Out :=
  let c := s.chip k
  let d := ((c.onTime (fun t => { t with valid := false })).onClk (fun q => { q with holdLong := true })).fault .clk 14 noInstance
  occurs (c.running && c.clk.holdover && !c.clk.holdLong && decide (1000000000000 < c.time.tick - c.clk.holdTick)) s
    (s.setChip k (if c.time.valid then d.cause 19 else d))

/-- NO_REFERENCE_TIMEOUT (R143): 2 s of the start without a qualified reference; F-CLK-13, repeated every 2 s. The 2 s count from the
moment at which the start waits for one (DEDUCED, log entry 35). -/
def execNoReferenceTimeout (k : ChipId) (s : State) : Out :=
  let c := s.chip k
  occurs (c.running && c.seeking && decide (2000000 ≤ c.clk.noRefEpochs)) s
    (s.setChip k ((c.onClk (fun q => { q with noRefEpochs := 0 })).fault .clk 13 noInstance))

/-- GUARD_CALIBRATE (R107): 10,000 epochs after the last calibration MGT calibrates every guard line for the step in force; one
that a step is moving keeps its setting until the step sets it (Table CLK-5). -/
def execGuardCalibrate (k : ChipId) (s : State) : Out :=
  let c := s.chip k
  let moving := c.clk.freq.phase == .slewing
  let c1 := c.forRegions allRegions (fun c r => c.onGen r (fun g =>
    { g with guardCals := g.guardCals + 1, guardFs := if moving then g.guardFs else guardFor c.clk.mNow }))
  occurs (c.running && decide (10000 ≤ c.clk.guardAge)) s (s.setChip k (c1.onClk (fun q => { q with guardAge := 0 })))

/-- GENERATOR_START (R108, R142, R143, R145): a generator leaves OFF for CAL once its island rail is good (R61, R714), REF_LOCKED is 1
and a reference is qualified. -/
def execGeneratorStart (k : ChipId) (r : RegionId) (s : State) : Out :=
  let c := s.chip k
  let started := match c.bru.phase with
    | .clocks => true | .memory => true | .selftest => true | .config => true | .ready => true
    | .held => false | .otp => false | .spine => false | .image => false | .ref => false | .recovery => false
    | .failed => false
  occurs (c.running && started && (c.gen r).state == .off && c.clk.refLocked && (c.clk.refA.ok || c.clk.refB.ok) &&
    (s.tray.slot k).vcorePg (r.val / 18) && !(c.region r).cfg.retire) s (s.setChip k (c.onGen r Gen.enterCal))

/-- CAL_COMPLETE (R109, R131, R734): the 12-epoch search is done; LOCKING, or in holdover FROZEN, which counts as LOCKED. -/
def execCalComplete (k : ChipId) (r : RegionId) (s : State) : Out :=
  let c := s.chip k
  let g := c.gen r
  let g1 := { g with acc := 0 }
  occurs (c.running && g.state == .cal && g.calBit == 0 && !g.calAbandoned) s
    (s.setChip k (if c.clk.holdover then (c.setGen r { g1 with state := .frozen }).serveWaiting else c.setGen r g1.enterLocking))

/-- LOCK_LOST (R108, R730): 16 epochs in a row more than M/2 half-cycles off; LOCKING, F-CLK-09. -/
def execLockLost (k : ChipId) (r : RegionId) (s : State) : Out :=
  let c := s.chip k
  let g := c.gen r
  occurs (c.running && g.state == .locked && decide (16 ≤ g.lossRun)) s
    (s.setChip k ((c.setGen r { g with state := .locking, lockRun := 0, lossRun := 0 }).fault .clk 9 r))

/-- A stretch event of depth `d` in one region's ledger (R114). -/
def Gen.recordStretch (g : Gen) (d : Nat) : Gen :=
  { g with stretch := satAdd 64 g.stretch 1, deepest := max g.deepest d, lastDepth := d }

/-- The M whose nominal period a cycle is judged by (R111): the one in force, and from tick 0 of E until the end of step 6 of Table
CLK-5 that of the longer period. -/
def Clock.judgedM (q : Clock) : Nat := if q.freq.phase = .slewing then min q.freq.mOld q.freq.mNew else q.mNow

/-- The depth of a cycle of `fs` femtoseconds (R114): the largest k for which it reaches (16 + k)/16 of the nominal period 80/M ns;
0 for a cycle that is no stretch event. -/
def stretchDepth (m fs : Nat) : Nat := min 15 (16 * m * fs / 80000000 - 16)

/-- STRETCH_EVENT (R111, R114): a cycle of generator `r` that lasts `fs` femtoseconds reaches 17/16 of nominal; the master and every
SLAVED member that it clocks record it. -/
def execStretchEvent (k : ChipId) (r : RegionId) (fs : Nat) (s : State) : Out :=
  let c := s.chip k
  let d := stretchDepth c.clk.judgedM fs
  let judged := match (c.gen r).state with
    | .locking => true | .locked => true | .slew => true | .frozen => true
    | .off => false | .cal => false | .slaved => false | .halted => false
  let slaves := (c.gang r).filter (fun x => x != r.val && (c.gen x).state == .slaved && (c.region x).cfg.gangMaster == r.val)
  let c1 := c.onGen r (fun g => { g.recordStretch d with stretched := true })
  occurs (c.running && judged && decide (1 ≤ d)) s
    (s.setChip k (c1.forRegions slaves (fun c x => c.onGen x (fun g => g.recordStretch d))))

/-- GENERATOR_JITTER_FAULT (R127, Table CLK-6): the duty of the last cycles, newest first, or the period changes of the last epochs are
out of bounds; F-CLK-10, a report only. -/
def execGeneratorJitterFault (k : ChipId) (r : RegionId) (duty changes : List Nat) (s : State) : Out :=
  let c := s.chip k
  occurs (c.running && c.clockRuns r && (c.gen r).state != .slaved && (dutyFails duty || jitterFails changes)) s
    (s.setChip k (c.fault .clk 10 r))

/-- STEP_VOLTAGE_RAISE (R119 step 2, R136): from E − 50 the Steward raises every island to its point for the new M. -/
def execStepVoltageRaise (k : ChipId) (s : State) : Out :=
  let c := s.chip k
  let f := c.clk.freq
  occurs (c.running && f.phase == .waiting && decide (f.mOld < f.mNew) && decide (f.at_ ≤ c.time.epoch + 50)) s
    (s.setChip k ((c.setIslands f.mNew).onClk (fun q => { q with freq := { q.freq with phase := .raised } })))

/-- STEP_RAIL_CHECK (R119 step 3, R714): the banks' islands stand at `uv` µV, and the Steward reads VCORE_PG of each; F-CLK-08 for
each that is not good. The step proceeds. -/
def execStepRailCheck (k : ChipId) (uv : List Nat) (s : State) : Out :=
  let c := s.chip k
  let f := c.clk.freq
  let s1 := s.onTray (fun t => t.onSlot k (fun x => { x with coreUv := uv }))
  let c1 := (List.range 4).foldl (fun c i => c.faultIf (!(s1.tray.slot k).vcorePg i) .clk 8 i) c
  occurs (c.running && f.phase == .raised && !f.checked && decide (f.at_ ≤ c.time.epoch + 1)) s
    (s1.setChip k (c1.onClk (fun q => { q with freq := { q.freq with checked := true } })))

/-- A generator at tick 0 of E (R731, R732). -/
def Gen.startSlew (g : Gen) (mOld mNew : Nat) : Gen :=
  let slew := fun (g : Gen) =>
    { g with before := g.state, state := .slew, codeOld := g.code, codeNew := slewCode g.code mOld mNew }
  let g1 := match g.state with
    | .locking => slew g | .locked => slew g | .frozen => slew g
    | .cal => { g with calAbandoned := true }
    | .off => g | .slew => g | .slaved => g | .halted => g
  if mOld < mNew then { g1 with guardFs := guardFor mNew } else g1

/-- STEP_SLEW_START (R119 step 4, R731, R732): at tick 0 of E. -/
def execStepSlewStart (k : ChipId) (s : State) : Out :=
  let c := s.chip k
  let f := c.clk.freq
  let issued := f.phase == .raised || (f.phase == .waiting && decide (f.mNew < f.mOld))
  let c1 := c.mapGens (fun _ g => g.startSlew f.mOld f.mNew)
  occurs (c.running && issued && decide (f.at_ ≤ c.time.epoch)) s
    (s.setChip k (c1.onClk (fun q =>
      { q with mNow := f.mNew, freq := { f with phase := .slewing, start := c.time.epochTick, since := 0, sub := 0 } })))

/-- STEP_SUBSTEP (R119 step 5): the next sub-step of every slewing generator, counted from 1 to 15, no earlier than the epoch that
holds its tick. -/
def execStepSubstep (k : ChipId) (j : Nat) (s : State) : Out :=
  let c := s.chip k
  let f := c.clk.freq
  let c1 := c.mapGens (fun _ g => if g.state = .slew then { g with code := subCode g.codeOld g.codeNew j } else g)
  let due := decide (f.start + subTick j < c.time.epochTick + c.time.len)
  occurs (c.running && f.phase == .slewing && j == f.sub + 1 && decide (j ≤ 15) && due) s
    (s.setChip k (c1.onClk (fun q => { q with freq := { q.freq with sub := j } })))

/-- A generator at the boundary of E + 2 (R119 step 6, R731, R732). -/
def Gen.endSlew (g : Gen) (mNew : Nat) : Gen :=
  let g1 := match g.state with
    | .slew => { g with state := g.before, code := min 4095 g.codeNew, before := .off, slewEpoch := false }
    | .cal => if g.calAbandoned then { g.enterCal with calWait := false, code := 2 ^ 11 } else g
    | .off => g | .locking => g | .locked => g | .frozen => g | .slaved => g | .halted => g
  { g1 with guardFs := guardFor mNew }

/-- STEP_SLEW_END (R118, R119 steps 6 and 7): at the boundary of E + 2, every sub-step whose tick has passed applied: codes at
`code_new`, states restored, and a region that waits for its lock serves again; a raise clears STEP_BUSY, a lowering step lowers the
islands. -/
def execStepSlewEnd (k : ChipId) (s : State) : Out :=
  let c := s.chip k
  let f := c.clk.freq
  let due := ((List.range 16).filter (fun j => decide (1 ≤ j) && decide (f.start + subTick j < c.time.epochTick))).length
  let c1 := c.mapGens (fun _ g => g.endSlew f.mNew)
  let c2 := if f.mOld < f.mNew then c1.onClk Clock.stepDone
    else (c1.setIslands f.mNew).onClk (fun q => { q with freq := { f with phase := .lowering } })
  occurs (c.running && f.phase == .slewing && decide (due ≤ f.sub) && decide (2 ≤ f.since)) s (s.setChip k c2.serveWaiting)

/-- STEP_LOWER_DONE (R118, R119 step 8): at E + 52 a lowering step clears STEP_BUSY. -/
def execStepLowerDone (k : ChipId) (s : State) : Out :=
  let c := s.chip k
  occurs (c.running && c.clk.freq.phase == .lowering && decide (52 ≤ c.clk.freq.since)) s (s.setChip k (c.onClk Clock.stepDone))

/-- STEP_CANCEL_SETTLED (R733): 50 epochs after the rails were commanded back, STEP_BUSY clears. -/
def execStepCancelSettled (k : ChipId) (s : State) : Out :=
  let c := s.chip k
  occurs (c.running && c.clk.freq.phase == .settling && decide (50 ≤ c.clk.freq.since)) s (s.setChip k (c.onClk Clock.stepDone))

/-- GANG_SKEW_HALT (R125, R139): a member's skew above 50 ps in a cycle, `pos` ticks into the epoch, halts the gang's master, and the
gang with it. `cycles` are the cycles of each region in the epoch until then. -/
def execGangSkewHalt (k : ChipId) (r : RegionId) (ps pos : Nat) (cycles : List Nat) (s : State) : Out :=
  let c := s.chip k
  let m := (c.region r).cfg.gangMaster
  occurs (c.running && (c.gen r).state == .slaved && decide (50 < ps) && c.clockRuns r) s
    (s.setChip k ((c.haltGen m pos cycles .skew).onGen r (fun g => { g with skew := min 255 ps, deskewed := false })))

end Sys2Proof.Machine
end

