-- ==== Sys2Proof/Machine/Crossing.lean ====
section
/-! DEFINITION. The commands of chapter 04: calibration, queues and their handshake, fixed releases, isolation. -/

namespace Sys2Proof.Machine

/-- XNG_CALIBRATION (R167, R168): MGT sends 256 probe flits around every directed link between two routers and its reverse. `trips`
holds, at 4r + d, the longest round trip that the timer of router `r`'s side `d` has measured, in its steps of 5 ps; LINK_T is half of
it, rounded up. Each link carries its own probes and its reverse's. The epochs of R168 count from here (DEDUCED, log entry 66). -/
def execXngCalibration (k : ChipId) (trips : List Nat) (s : State) : Out :=
  let c := s.chip k
  let measure := fun (c : Chip) (i : Nat) =>
    if hasLink (i / 4) (i % 4) then
      c.onLink (i / 4) (i % 4) (fun l => { l with linkT := min 65535 (ceilDiv (5 * trips.getD i 0) 2), flits := satAdd 64 l.flits 512 })
    else c
  occurs (c.running && c.xng.up && !c.xng.ended && !c.xng.probing) s
    (s.setChip k (((List.range 288).foldl measure c).onXng (fun x => { x with probing := true, epochs := 0 })))

/-- A region's fixed crossings that cannot run fixed are reported for every bit in force (R170). -/
def Chip.reportAllUnfixed (c : Chip) : Chip :=
  c.forRegions allRegions (fun c r => c.reportUnfixed r 0 (c.region r).cfg.fixedTo)

/-- XNG_CALIBRATION_DONE (R168, R169): DONE, and every LAT by R169 with the margin in force. -/
def execXngCalibrationDone (k : ChipId) (s : State) : Out :=
  let c := s.chip k
  occurs (c.running && c.xng.probing && decide (c.xng.epochs ≤ 100)) s
    (s.setChip k (c.onXng (fun x => { x with done := true, ended := true, probing := false, latKnown := true })).reportAllUnfixed)

/-- XNG_CALIBRATION_TIMEOUT (R187): 100 epochs of calibration; F-XNG-05, DONE stays 0, and every LAT with it (DEDUCED from R170 and
R188, log entry 66). -/
def execXngCalibrationTimeout (k : ChipId) (s : State) : Out :=
  let c := s.chip k
  occurs (c.running && c.xng.probing && decide (100 ≤ c.xng.epochs)) s
    (s.setChip k ((c.onXng (fun x => { x with ended := true, probing := false })).fault .xng 5 noInstance))

/-- The router's push into ejection queue `q` (R151): the flit that its output sends next, when that is one for the queue. -/
def Chip.deliver (c : Chip) (q : Nat) : Chip :=
  let e := queueEp q
  let d := edgeSide e
  match c.chosen (routerOf e) d with
  | some x => if x.flit.msg.dst = e && x.flit.msg.lane = queueLane q && !c.sinks e then c.transfer (routerOf e) d x false else c
  | none => c

/-- The endpoint's push into injection queue `q` (R151, R224): the flit that it holds from a refused push, else the first message of the
lane that its block has issued. -/
def Chip.offer (c : Chip) (q : Nat) : Chip :=
  if !c.xng.up then c
  else if !(c.queue q).waiting.isEmpty then c.pushNext q
  else match (c.ep (queueEp q)).out.find? (fun m => m.lane == queueLane q) with
    | some m => c.inject m
    | none => c

/-- QUEUE_PUSH (R149 to R154, R161, R177): in the cycle `at_`, in which its copy of the read pointer shows `seen` more freed slots, the
writer of queue `q` offers what it has. -/
def execQueuePush (k : ChipId) (q : QueueId) (seen : Nat) (at_ : Moment) (s : State) : Out :=
  let c := s.chip k
  let c1 := (c.at_ at_ (if isEject q then 72 else domainOfEp (queueEp q))).onQueue q (fun x => x.seeFreed seen)
  occurs (c.running && c.sideRuns q true && decide (0 < queueDepth q)) s
    (s.setChip k (if isEject q then c1.deliver q else c1.offer q))

/-- QUEUE_POP (R150, R152 to R154, R162, R164, R203): in the cycle `at_`, in which its copy of the write pointer shows `seen` more
items, the reader of queue `q` pops the oldest flit that it may. From an injection queue the flit goes to the router (R192, R194, R738);
from an ejection queue to its endpoint. The head of a REQ whose source owes WR messages is held. A memory port takes one message of a
class at a time, while its request store has room (R498). -/
def execQueuePop (k : ChipId) (q : QueueId) (seen : Nat) (at_ : Moment) (s : State) : Out :=
  let c := s.chip k
  let e := queueEp q
  let c1 := (c.at_ at_ (if isEject q then domainOfEp e else 72)).seeAt q seen
  let idle := !(isEject q && isMemoryEp e) || (decide ((c.chan (e - 72)).store.length < 128) && (match queueLane q with
    | .wr => (c.ep e).popWr.isEmpty | .req => (c.ep e).popReq.isEmpty | .rsp => true | .evt => true))
  let c2 := if !isEject q then c1.popInjection q
    else match c1.poppable q with
      | some i => if idle && !c1.reqHeld q i then c1.popAt q i else c1
      | none => c1
  occurs (c.running && c.sideRuns q false && decide (0 < queueDepth q)) s (s.setChip k c2)

/-- The first fixed head of source `src` among the flits that the region sees on a lane, with nothing of that source ahead of it. -/
def firstFixed (seen : List Flit) (src : Nat) : Option (Flit × Nat) :=
  match (seen.zipIdx).find? (fun y => y.1.msg.src == src) with
  | some y => if y.1.head && y.1.msg.mode == .fixed then some y else none
  | none => none

/-- FIXED_ITEM_RELEASE (R162 to R164, R187): in the receiving cycle `at_`, in which `seen` more items show, the region releases the
first fixed item of `src` on `lane` when δ ≥ L by its tick view; one whose δ exceeded L in its first poppable cycle is late. -/
def execFixedItemRelease (k : ChipId) (r : RegionId) (lane : Lane) (src : EpId) (seen : Nat) (at_ : Moment) (s : State) : Out :=
  let c0 := s.chip k
  let q := ejQ r lane
  let c := (c0.at_ at_ r).seeAt q seen
  let x := c.queue q
  match firstFixed x.seen src with
  | none => occurs false s s
  | some (f, i) =>
    let c1 := c.popAt q i
    let c2 := if f.late then
        ((c1.onRegion r (fun g => { g with detViol := satAdd 64 g.detViol 1, detFault := true })).faultIf
          (!(c.region r).detFault) .xng 2 r)
      else c1
    occurs (c0.running && c0.clockRuns r && x.openFor false && decide ((c.lat src r : Int) ≤ fixedDelta (c.tv r) f.msg.stamp) &&
      !c.reqHeld q i) s (s.setChip k c2)

/-- REGION_ISOLATE (R172, R173, R736): the age of a region that is stalled with its clock stopped has reached 100. -/
def execRegionIsolate (k : ChipId) (r : RegionId) (s : State) : Out :=
  let c := s.chip k
  let g := c.region r
  occurs (c.running && decide (100 ≤ g.wdogAge) && !g.isoSinkOn) s (s.setChip k (c.isolate r))

/-- ISOLATION_SINK_ACCEPT (R174, R175, R193, R218, R738): the sink of region `r` takes the flit of `lane` that its router's local port
sends next. -/
def execIsolationSinkAccept (k : ChipId) (r : RegionId) (lane : Lane) (s : State) : Out :=
  let c := s.chip k
  match c.chosen r 4 with
  | none => occurs false s s
  | some x => occurs (c.running && c.sinks r && x.flit.msg.lane == lane) s (s.setChip k (c.transfer r 4 x false))

/-- QUEUE_RESET (R177, R182): one side of queue `q` resets. -/
def execQueueReset (k : ChipId) (q : QueueId) (writer : Bool) (s : State) : Out :=
  let c := s.chip k
  occurs (c.running && c.sideRuns q writer && decide (0 < queueDepth q)) s (s.setChip k ((c.resetSide q writer).onQueue q (fun x => { x with age := 0 })))

/-- QUEUE_RIP_SEEN (R178, R179): a side sees a change of its partner's RIP: at a rise it discards, counts, clears and
raises ACK; at a fall it lowers ACK. -/
def execQueueRipSeen (k : ChipId) (q : QueueId) (writer : Bool) (s : State) : Out :=
  let c := s.chip k
  let x := c.queue q
  let rip := (x.side (!writer)).rip
  let c1 := if rip then
      (c.discardAt q writer).onQueue q (fun x => (x.setSide writer { x.side writer with ack := true }).setSeesRip writer true)
    else c.onQueue q (fun x => (x.setSide writer { x.side writer with ack := false }).setSeesRip writer false)
  occurs (c.running && c.sideRuns q writer && decide (0 < queueDepth q) && rip != x.seesRip writer) s (s.setChip k c1)

/-- QUEUE_ACK_SEEN (R179): a side sees a change of its partner's ACK: at a rise it lowers RIP. -/
def execQueueAckSeen (k : ChipId) (q : QueueId) (writer : Bool) (s : State) : Out :=
  let c := s.chip k
  let x := c.queue q
  let ack := (x.side (!writer)).ack
  let x1 := x.setSeesAck writer ack
  let x2 := if ack then x1.setSide writer { x1.side writer with rip := false } else x1
  occurs (c.running && c.sideRuns q writer && decide (0 < queueDepth q) && ack != x.seesAck writer) s
    (s.setChip k (c.setQueue q { x2 with age := if x2.isOpen then 0 else x2.age }))

/-- HANDSHAKE_TIMEOUT (R181): 1,000 epochs with both clocks running; F-XNG-04, both sides reset again. INSTANCE is the
region of a region's endpoint. -/
def execHandshakeTimeout (k : ChipId) (q : QueueId) (s : State) : Out :=
  let c := s.chip k
  let x := c.queue q
  occurs (c.running && !x.isOpen && decide (1000 ≤ x.age)) s
    (s.setChip k ((c.resetQueue q).fault .xng 4 (if isRegionEp (queueEp q) then queueEp q else noInstance)))

/-- ISOLATION_END (R176, R734, R736): the generator runs LOCKED again and every queue of the region has completed its
handshake: the sink ends; OUT, or RETIRED as it was. -/
def execIsolationEnd (k : ChipId) (r : RegionId) (s : State) : Out :=
  let c := s.chip k
  let g := c.region r
  let was := g.status == RegionStatus.isolated
  let g2 : Region :=
    { g with isoSinkOn := false, wdogAge := 0, awaitModel := was || g.awaitModel, status := if was then .out else g.status }
  let ends := if was then c.changeRegion r (fun _ => g2) else c.setRegion r g2
  occurs (c.running && g.isoSinkOn && c.lockedFor r && (queuesOf r).all (fun q => (c.queue q).isOpen)) s (s.setChip k ends)

end Sys2Proof.Machine
end

