-- ==== Sys2Proof/Machine/EnergyOps.lean ====
section
/-! DEFINITION. The activity estimate of an interval (R568 to R571), its attribution (R572), the counters in µJ (R573)
and the latch at a sweep boundary (R574): what the evaluation and the bookings share. -/

namespace Sys2Proof.Machine

/-- The island of region `r` (R61). -/
def islandOf (r : Nat) : Nat := r / 18

/-- The voltage factor of R569. -/
def voltageFactor (code : Nat) : Nat := ((2000 + 10 * code) ^ 2 * 65536) / 9000000

/-- The coefficient of event `k` in region `r`, from OTP (R568). -/
def Chip.coefOf (c : Chip) (r k : Nat) : Nat := c.otp.coef.get 0 (9 * r + k)

/-- The bin of R569. -/
def lkgBin (temp : Int) : Nat := (max 0 (min 15 ((temp + 80) / 40))).toNat

/-- The static term of R569, before the voltage factor. -/
def Chip.staticOf (c : Chip) (r : Nat) : Nat :=
  (c.otp.stat.get 0 r * 640000 * c.otp.lkg.getD (lkgBin (c.region r).temp) 0) / 256

/-- The target of a booking (Table NRG-3). -/
structure Target where
  account : Nat
  partition : Nat := 31
  cls : Nat := 8
  spec : Bool := false
deriving DecidableEq, Repr

/-- Who a tile's events and its share of the region's energy go to: its item, or account 65,534 while it is idle. -/
def Tile.target (x : Tile) : Target :=
  if x.running then { account := x.account, partition := x.part, cls := x.cls, spec := x.spec } else { account := 65534 }

/-- Raw energy `raw` of group `g` for target `t`. -/
def Target.book (t : Target) (g raw : Nat) : Booking :=
  { account := t.account, partition := t.partition, cls := t.cls, spec := t.spec, group := g, raw := raw }

/-- Two bookings are of one target and group. -/
def Booking.sameTarget (a b : Booking) : Bool := { a with raw := 0 } == { b with raw := 0 }

/-- A booking added to a list; bookings of one target and group are summed. -/
def addBooking (l : List Booking) (b : Booking) : List Booking :=
  if b.raw = 0 then l
  else match l with
    | [] => [b]
    | x :: t => if x.sameTarget b then { x with raw := x.raw + b.raw } :: t else x :: addBooking t b

/-- `raw` shared by the fifteen tiles of region `r` (Table NRG-3): the remainder goes to logical tile 0's target. -/
def Chip.shareRegion (c : Chip) (r g raw : Nat) : List Booking :=
  (List.range 15).map (fun p =>
    ((c.tile (tileIx r p)).target).book g (if p = 0 then raw / 15 + raw % 15 else raw / 15))

/-- The counts of events 0, 1, 3, 4, 5, 6 of a tile in the interval, `sel` more busy selection cycles. -/
def Tile.counts (x : Tile) (sel : Nat) : List Nat := [x.kstep8, x.kstep16, x.vop, x.selBusy + sel, x.lineB, x.lineS]

/-- The energy of such counts in region `r`, before the voltage factor. -/
def Chip.eventEnergy (c : Chip) (r : Nat) (counts : List Nat) : Nat :=
  ((counts.zip [0, 1, 3, 4, 5, 6]).map (fun e => c.coefOf r e.2 * e.1)).sum

/-- The estimate of one region in one interval, raw (R569). -/
structure RegionEst where
  region : Nat
  total : Nat
  spine : Nat                          -- the part of class SPINE
  filler : Nat                         -- the part of KFILL
  bookings : List Booking
deriving DecidableEq, Repr

/-- Region `r` is eligible for filler (R591, R596). -/
def Chip.fillable (c : Chip) (r : Nat) : Bool :=
  let x := c.region r
  c.clockRuns r && (x.status == .serving || x.status == .out) && x.kCap == 16 && x.kTherm == 16 && !c.stew.coolantStop

/-- Of `n` cycles or slots from number `j` on, how many a step of `k` sixteenths permits (R532, R593): those numbered i with
(i + 1) k div 16 > i k div 16. -/
def permitted (k j n : Nat) : Nat := (j + n) * k / 16 - j * k / 16

/-- The cycles of the interval in which an engine of region `r` may start a K step (R532). -/
def Chip.issueCycles (c : Chip) (r : Nat) : Nat :=
  let n := min (c.region r).cycleEvents (c.gen r).ran
  permitted (c.region r).kNow ((c.gen r).ran - n) n

/-- The idle slots that region `r` had in the interval, engine by engine: issue cycles without a work K step, none when it is not
eligible (R591, R593). -/
def Chip.idleSlots (c : Chip) (act : Activity) (r : Nat) : List (Nat × Nat) :=
  if c.fillable r then (List.range 60).map (fun e => (e, min (act.idle.get 0 (60 * r + e)) (c.issueCycles r))) else []

/-- The filler K steps of region `r` in the interval (R593), at the fill step that the last evaluation set. -/
def Chip.fillOf (c : Chip) (act : Activity) (r : Nat) : Nat :=
  ((c.idleSlots act r).map (fun e => permitted c.stew.stirFill ((c.gen r).idle.get 0 e.1) e.2)).sum

/-- The idle slots of the interval are counted (R593). -/
def Chip.countIdle (c : Chip) (act : Activity) : Chip :=
  allRegions.foldl (fun d r =>
    let slots := (c.idleSlots act r).filter (fun e => e.2 != 0)
    if slots.isEmpty then d
    else d.onGen r (fun g => { g with idle := slots.foldl (fun b e => b.update 0 e.1 (fun v => v + e.2)) g.idle })) c

/-- The raw estimate of region `r` and its attribution (R569, R572). -/
def Chip.regionEst (c : Chip) (act : Activity) (r : Nat) : RegionEst :=
  let i := islandOf r
  let x := c.region r
  let scale := fun (n : Nat) => n * voltageFactor (c.stew.islandV.getD i 100) / 65536
  let tiles := (List.range 15).map (fun p => tileIx r p)
  let tagged := c.stew.tagged.filter (fun g => g.region == r)
  let own :=
    (tagged.map (fun g =>
      ({ account := g.account, partition := g.partition, cls := g.cls, spec := g.spec : Target }, c.eventEnergy r g.counts))) ++
    (tiles.map (fun t =>
      let y := c.tile t
      ({ account := y.account, partition := y.part, cls := y.cls, spec := y.spec : Target },
        c.eventEnergy r (y.counts (act.sel.get 0 t)))))
  let fill := c.coefOf r 2 * c.fillOf act r
  let flits := c.coefOf r 7 * x.flitEvents
  let shared := flits + c.coefOf r 8 * x.cycleEvents + c.coefOf r 5 * x.lineEvents + c.coefOf r 6 * x.lineSEvents
  let dyn := (own.map (fun e => e.2)).sum + fill + shared
  let total := scale (dyn + c.staticOf r)
  let ownB := own.map (fun e => e.1.book i (scale e.2))
  let fillB := ({ account := 65535 : Target }).book i (scale fill)
  let rest := total - (ownB.map (fun b => b.raw)).sum - fillB.raw
  { region := r, total := total, spine := scale flits, filler := scale fill
    bookings := ownB ++ [fillB] ++ c.shareRegion r i rest }

/-- The auxiliary events of the interval (Table NRG-2). -/
def Chip.auxCounts (c : Chip) (act : Activity) : List Nat :=
  (List.range 5).map (fun k => c.stew.auxEvents.getD k 0 + act.aux.getD k 0)

/-- The class of an auxiliary event (Table NRG-2). -/
def auxClass (k : Nat) : Nat := match k with | 0 => 1 | 1 => 0 | 2 => 2 | _ => 3

/-- The raw estimate of the auxiliary group by class (R570). -/
def Chip.auxEst (c : Chip) (act : Activity) : List Nat :=
  let n := c.auxCounts act
  (List.range 4).map (fun x =>
    ((List.range 5).map (fun k => if auxClass k = x then c.otp.auxCoef.getD k 0 * n.getD k 0 else 0)).sum +
      c.otp.auxStat.getD x 0 * 640000)

/-- The attribution of the auxiliary group (Table NRG-3): a burst granted to a region is shared in that region, the rest
is account 65,534's. -/
def Chip.auxBookings (c : Chip) (total : Nat) : List Booking :=
  let bursts := allRegions.map (fun r => (r, c.otp.auxCoef.getD 0 0 * (c.region r).memBursts.headD 0))
  let shared := (bursts.filter (fun e => e.2 != 0)).flatMap (fun e => c.shareRegion e.1 4 e.2)
  shared ++ [({ account := 65534 : Target }).book 4 (total - (bursts.map (fun e => e.2)).sum)]

/-- The calibrated estimate of `raw` in group `g` (R571). -/
def Chip.calibrated (c : Chip) (g raw : Nat) : Nat := raw * (c.railGroup g).gain / 2 ^ 20

/-- Units of 1/64 pJ in one nJ. -/
def unitsPerNj : Nat := 64000

/-- cap_fill (R592): what filling every eligible idle engine cycle of the interval would have cost, in nJ. -/
def Chip.capFill (c : Chip) (act : Activity) : Nat :=
  (allRegions.map (fun r =>
    let n := ((c.idleSlots act r).map (fun e => e.2)).sum
    let i := islandOf r
    c.calibrated i (c.coefOf r 2 * n * voltageFactor (c.stew.islandV.getD i 100) / 65536))).sum / unitsPerNj

/-- What an evaluation reads of the interval just ended (R529, R539, R592), in nJ but for the bookings and sums. -/
structure Interval where
  nj : ClassNj                         -- energy of each class
  ec : List Nat                        -- each region's COMPUTE energy
  work : Nat                           -- the chip's energy without filler
  raws : List Nat                      -- raw sum of each rail group, 1/64 pJ
  cals : List Nat                      -- calibrated sum of each rail group, 1/64 pJ
  bookings : List Booking
deriving DecidableEq, Repr

/-- The chip's energy of an interval. -/
def ClassNj.total (x : ClassNj) : Nat := x.hif + x.mem + x.spine + x.compute

/-- The estimate of the interval just ended (R529). -/
def Chip.interval (c : Chip) (act : Activity) : Interval :=
  let es := allRegions.map (fun r => c.regionEst act r)
  let aux := c.auxEst act
  let cal := fun (e : RegionEst) (n : Nat) => c.calibrated (islandOf e.region) n
  let spine := (es.map (fun e => cal e e.spine)).sum + c.calibrated 4 (aux.getD 2 0)
  let ec := es.map (fun e => cal e (e.total - e.spine))
  let fill := (es.map (fun e => cal e e.filler)).sum
  let compute := ec.sum + c.calibrated 4 (aux.getD 3 0)
  let hif := c.calibrated 4 (aux.getD 0 0)
  let mem := c.calibrated 4 (aux.getD 1 0)
  let group := fun (i : Nat) => ((es.filter (fun e => islandOf e.region == i)).map (fun e => e.total)).sum
  let raws := [group 0, group 1, group 2, group 3, aux.sum]
  { nj := { hif := hif / unitsPerNj, mem := mem / unitsPerNj, spine := spine / unitsPerNj, compute := compute / unitsPerNj }
    ec := ec.map (fun n => n / unitsPerNj)
    work := (hif + mem + spine + compute - fill) / unitsPerNj
    raws := raws
    cals := (raws.zipIdx).map (fun e => c.calibrated e.2 e.1)
    bookings := (es.flatMap (fun e => e.bookings)) ++ c.auxBookings aux.sum }

/-- The counts of the interval start again, and the interval's lists of R539 move on. -/
def Chip.clearInterval (c : Chip) : Chip :=
  let next := fun (l : List Nat) => 0 :: l.take 99
  let c1 := { c with
    tiles := c.tiles.mapCells (fun _ x => { x with kstep8 := 0, kstep16 := 0, vop := 0, selBusy := 0, lineB := 0, lineS := 0 })
    regions := c.regions.mapCells (fun _ x => { x with
      flitEvents := 0, cycleEvents := 0, lineEvents := 0, lineSEvents := 0
      memBursts := next x.memBursts, spineFlits := next x.spineFlits }) }
  c1.onStew (fun w => { w with auxEvents := [0, 0, 0, 0, 0], tagged := [] })

/-- The interval's energy joins the sums of its sweep (R574) and the bookings that wait for it (R583). -/
def Chip.addInterval (c : Chip) (v : Interval) : Chip :=
  let c1 := (List.range 5).foldl (fun c g => c.onRailGroup g (fun x =>
    { x with rawNow := x.rawNow + v.raws.getD g 0, estNow := x.estNow + v.cals.getD g 0 })) c
  c1.onStew (fun w => { w with booking := v.bookings.foldl addBooking w.booking, frameNj := w.frameNj + v.nj.total })

/-- At B the estimates are latched (R574) and the sweep's bookings enter the staging table (R583). -/
def Chip.latchSweep (c : Chip) : Chip :=
  let sum := fun (f : RailGroup → Nat) => (List.range 5).map (fun g => f (c.railGroup g) / unitsPerNj)
  let sweep : Sweep :=
    { at_ := c.time.epoch, bookings := c.stew.booking, est := sum (fun x => x.estNow), raw := sum (fun x => x.rawNow) }
  let c1 := c.onStew (fun w => { w with staged := w.staged ++ [sweep], booking := [] })
  (List.range 5).foldl (fun c g => c.onRailGroup g (fun x => { x with rawNow := 0, estNow := 0 })) c1

/-- The running frame ends: its mean power (R592, R594), and the count of frames since READY (R601). -/
def Chip.closeFrame (c : Chip) : Chip :=
  c.onStew (fun w => { w with
    pframe := if w.frameLen = 0 then 0 else w.frameNj / w.frameLen
    frameNj := 0, frameLen := 0, frameEnd := false
    frames := if c.bru.ready then w.frames + 1 else w.frames })

/-! ## Counters in µJ (R573) -/

/-- Units of 1/64 pJ in one µJ. -/
def unitsPerUj : Nat := 64000000

/-- A counter with `n` units of 1/64 pJ more, the remainder carried (R573); it holds at all ones (R727). -/
def Uj.add (x : Uj) (n : Nat) : Uj :=
  { uj := satAdd 64 x.uj ((x.rem + n) / unitsPerUj), rem := (x.rem + n) % unitsPerUj }

end Sys2Proof.Machine
end

