-- ==== Sys2Proof/Machine/Sessions.lean ====
section
/-! DEFINITION. The session commands, admission, stages, item ends, model loads and reloads, and the counter commands of
the rings (chapter 11, R622 to R630). -/

namespace Sys2Proof.Machine

/-! ## Session commands (Table SES-4) -/

/-- A ring command of opcode `op` at the front of ring `g`: `f` is what it does to the chip once `n` completions have
room (R620). -/
def ringCommand (k : ChipId) (g : RingId) (op n : Nat) (s : State) (f : Chip → List Byte → Chip) : Out :=
  let c := s.chip k
  match c.front g op with
  | none => occurs false s s
  | some bs => occurs (c.running && c.bru.ready && c.roomForCompletions g n) s (s.setChip k (f c bs))

/-- SESSION of a command, and the ring it must stand on (R623): a FREE session has none. -/
def entrySession (bs : List Byte) : Nat := entryField bs 8 4
def Chip.wrongRing (c : Chip) (g i : Nat) : Bool :=
  (c.session i).state != .free && (c.session i).partition != g

/-- The command is accepted and its OK completion posted. -/
def Chip.accept (c : Chip) (g : Nat) (bs : List Byte) (res0 : Nat := 0) : Chip := (c.popCommand g).complete g bs 0 0 res0

/-- Refusal by R450 or R446. -/
def Chip.refuseSession (c : Chip) (g : Nat) (bs : List Byte) : Chip := c.refuse g bs .ses 1 g

/-- A line of the session table (R446). -/
def lineInTable (l : Nat) : Bool := decide (l < 262144)

/-- The lines of an OPEN. -/
def openLines (bs : List Byte) : List Nat := [20, 24, 28, 32, 36].map (fun o => entryField bs o 4)

/-- An OPEN that R446 refuses. -/
def openBad (bs : List Byte) : Bool :=
  let n := entryField bs 16 2
  decide (65533 < entryField bs 14 2) || decide (15 < entryField bs 13 1) || decide (n < 64) || decide (4096 < n) ||
  n % 64 != 0 || (openLines bs).any lineInTable

/-- The descriptor that an OPEN leaves (Table SES-4): DEADLINE and END_EPOCH stay as they were (log entry 25). -/
def Session.opened (x : Session) (bs : List Byte) : Session :=
  let f := entryField bs
  { state := .open_, cls := f 12 1, partition := f 13 1, account := f 14 2, outBytes := f 16 2
    stateLine0 := f 20 4, stateLine1 := f 24 4, checkLine := f 28 4, audioLine := f 32 4, outLine := f 36 4, user := f 40 4
    deadline := x.deadline, endEpoch := x.endEpoch }

/-- OPEN (R446, R450). -/
def execOpenSession (k : ChipId) (g : RingId) (s : State) : Out :=
  ringCommand k g 0x01 1 s (fun c bs =>
    let i := entrySession bs
    if entryField bs 13 1 ≠ g then c.refuse g bs .hif 3 g
    else if (c.session i).state ≠ .free || openBad bs then c.refuseSession g bs
    else (c.useSession i (fun x => x.opened bs)).accept g bs)

/-- The values that a session's dispatch fixes (R284, R453). -/
def Chip.dispatch (c : Chip) (x : Session) : Session :=
  { x with dispChecked := c.checkedNow x.partition, dispMode := c.img.nowA.selMode, dispTie := c.img.nowA.selTie }

/-- The epoch of the first frame tick after now. -/
def Chip.nextTick (c : Chip) : Nat := (c.time.epoch / c.img.nowC.frameEpochs + 1) * c.img.nowC.frameEpochs

/-- ARM of an OPEN session takes it to ARMED. -/
def Session.armed (x : Session) (audio : Nat) : Session :=
  { x with state := .armed, audioLine := if audio = 0 then x.audioLine else audio }

/-- ARM of a session in flight sets ARM_PENDING (R625). -/
def Session.armLater (x : Session) (audio : Nat) : Session := { x with armPending := true, pendAudio := audio }

/-- A run-ahead candidate (R472): its DEADLINE counts from the first frame tick after its ARM. -/
def Chip.aheadSession (c : Chip) (x : Session) (audio : Nat) : Session :=
  { (c.dispatch x) with
    state := .ahead, audioLine := if audio = 0 then x.audioLine else audio, held := false, confirmed := false
    deadline := c.nextTick + c.classDeadline x.cls, tickAt := c.nextTick, order := c.seq.ahead }

/-- An ARM with PREDICT as given (Table SES-4); an accepted one posts no command completion (R624). -/
def Chip.armWith (c : Chip) (g : Nat) (bs : List Byte) (predict : Bool) : Chip :=
  let i := entrySession bs
  let audio := entryField bs 16 4
  let x := c.session i
  if c.wrongRing g i then c.refuse g bs .hif 3 g
  else match x.state with
    | .open_ =>
      if predict && c.runaheadNow x.partition then
        (((c.popCommand g).useSession i (fun x => c.aheadSession x audio)).onSeq (fun q => { q with ahead := q.ahead + 1 }))
      else (c.popCommand g).useSession i (fun x => x.armed audio)
    | .running => if x.armPending then c.refuseSession g bs else (c.popCommand g).useSession i (fun x => x.armLater audio)
    | .free => c.refuseSession g bs
    | .armed => c.refuseSession g bs
    | .ready => c.refuseSession g bs
    | .ahead => c.refuseSession g bs

/-- The ARM at the front of ring `g` has this PREDICT. -/
def armOf (k : ChipId) (g : RingId) (predict : Bool) (s : State) : Out :=
  let c := s.chip k
  match c.front g 0x02 with
  | none => occurs false s s
  | some bs =>
    occurs (c.running && c.bru.ready && c.roomForCompletions g 1 && (entryField bs 12 1 == 1) == predict) s
      (s.setChip k (c.armWith g bs predict))

/-- ARM with PREDICT 0 (Table SES-4, R451). -/
def execArm (k : ChipId) (g : RingId) (s : State) : Out := armOf k g false s

/-- ARM with PREDICT 1 (Table SES-4, R472). -/
def execArmPredict (k : ChipId) (g : RingId) (s : State) : Out := armOf k g true s

/-- CONFIRM (Table SES-4, R484): a deadline that passes now is overtaken, with LATE set. -/
def execConfirm (k : ChipId) (g : RingId) (s : State) : Out :=
  ringCommand k g 0x03 1 s (fun c bs =>
    let i := entrySession bs
    let x := c.session i
    let late := decide (x.deadline ≤ c.time.epoch)
    if c.wrongRing g i then c.refuse g bs .hif 3 g
    else if x.state ≠ .ahead then c.refuseSession g bs
    else
      let c1 := (c.popCommand g).cacheSession i
      if x.held then c1.confirmHeld i late
      else if x.inFlight then c1.onSession i (fun x => { x with confirmed := true, heldLate := x.heldLate || late })
      else c1.onSession i (fun x => { x with state := .armed, confirmed := false, tickAt := 0 }))

/-- The CANCELLED of a run-ahead frame with no item in flight (Table SES-4, R469). -/
def Chip.cancelAhead (c : Chip) (i : Nat) : Chip :=
  let x := c.session i
  let c1 := c.frameCompletion i 2 (if x.held then (x.gen + 255) % 256 else x.gen) 0 (if x.held then x.heldFlags else 0)
    (x.held && x.heldLate) true c.time.epoch x.reservedEntries
  c1.onSession i (fun x => { x with state := .open_, held := false, confirmed := false, cancelled := false, readmit := false })

/-- A decided cancel: at once, or after the item's end (R485). -/
def Chip.decideCancel (c : Chip) (i : Nat) : Chip :=
  let c1 := c.cacheSession i
  if (c.session i).inFlight then c1.onSession i (fun x => { x with cancelled := true }) else c1.cancelAhead i

/-- CANCEL (Table SES-4). -/
def execCancel (k : ChipId) (g : RingId) (s : State) : Out :=
  ringCommand k g 0x04 1 s (fun c bs =>
    let i := entrySession bs
    if c.wrongRing g i then c.refuse g bs .hif 3 g
    else if (c.session i).state ≠ .ahead then c.refuseSession g bs
    else (c.popCommand g).decideCancel i)

/-- CLOSE (Table SES-4, R486): with an item in flight it waits for that item's completion. -/
def execClose (k : ChipId) (g : RingId) (s : State) : Out :=
  ringCommand k g 0x05 3 s (fun c bs =>
    let i := entrySession bs
    let x := c.session i
    if c.wrongRing g i then c.refuse g bs .hif 3 g
    else if x.state = .free then c.refuseSession g bs
    else if x.inFlight then (c.useSession i (fun x => { x with closePending := true })).accept g bs
    else ((c.cacheSession i).closeNow i x.reservedEntries).accept g bs)

/-- SESSION_READ (R444, R630): the descriptor at DEST, then the completion. -/
def execSessionRead (k : ChipId) (g : RingId) (s : State) : Out :=
  let c := s.chip k
  match c.front g 0x06 with
  | none => occurs false s s
  | some bs =>
    let i := entrySession bs
    let t := if c.wrongRing g i then s.setChip k (c.refuse g bs .hif 3 g)
      else { (s.setChip k (((c.cacheSession i).countAux 1 1).accept g bs)) with
             hostMem := Memory.write s.hostMem (entryField bs 16 8) (c.session i).bytes }
    occurs (c.running && c.bru.ready && c.roomForCompletions g 1) s t

/-- RUNAHEAD_DEADLINE (Table SES-4, R484): the DEADLINE of a run-ahead frame without CONFIRMED passes. -/
def execRunaheadDeadline (k : ChipId) (i : Nat) (s : State) : Out :=
  let c := s.chip k
  let x := c.session i
  let due := x.state == .ahead && !x.confirmed && !x.cancelled && decide (x.deadline ≤ c.time.epoch)
  occurs (c.running && due && (decide (0 < x.reservedEntries) || c.roomForCompletions x.partition 1)) s
    (s.setChip k ((c.fault .ses 8 x.partition).decideCancel i))

/-- RESIDENCY_READ's record (R630). -/
def Chip.residency (c : Chip) (p : Nat) : List Byte :=
  let q := c.part p
  natLE 8 q.capacity ++ natLE 8 q.required ++ natLE 8 q.shortfall ++ natLE 8 q.overflow ++ natLE 4 q.admitReg ++
  natLE 2 q.spillSlots ++ natLE 1 q.lanes ++ natLE 1 q.model ++ natLE 4 q.admitted ++ natLE 4 (c.heap p).length ++ natLE 16 0

/-- RESIDENCY_READ (R630). -/
def execResidencyRead (k : ChipId) (g : RingId) (s : State) : Out :=
  let c := s.chip k
  match c.front g 0x12 with
  | none => occurs false s s
  | some bs =>
    occurs (c.running && c.bru.ready && c.roomForCompletions g 1) s
      { (s.setChip k ((c.countAux 1 1).accept g bs)) with
        hostMem := Memory.write s.hostMem (entryField bs 16 8) (c.residency (entryField bs 8 1)) }

/-- NOP (Table HIF-6): RESULT0 is the epoch counter. -/
def execNop (k : ChipId) (g : RingId) (s : State) : Out :=
  ringCommand k g 0x50 1 s (fun c bs => c.accept g bs c.time.epoch)

/-! ## Admission and stages -/

/-- ADMISSION (R459 to R461, R472, R552, R620, R621): partition `p` admits the session that comes next. -/
def execAdmission (k : ChipId) (p : RingId) (s : State) : Out :=
  let c := s.chip k
  match c.nextToAdmit p with
  | none => occurs false s s
  | some i =>
    match c.admitLanes p i with
    | none => occurs false s s
    | some lanes => occurs (c.running && c.mayAdmit p i) s (s.setChip k (c.admitItem i lanes))

/-- Lane `l` of item `it` waits to start its next stage. -/
def Item.waits (it : Item) (l : Nat) : Bool :=
  let x := it.lane l
  x.used && !x.finished && !x.started && !it.aborted && it.err == 0

/-- No item admitted earlier has yet to start that stage of the lane (R462). -/
def Chip.firstInLane (c : Chip) (it : Item) (l : Nat) : Bool :=
  c.seq.items.cells.all (fun e =>
    let x := e.2.lane l
    !(e.2.partition == it.partition && decide (e.2.seqNo < it.seqNo) && x.used && !x.finished &&
      !e.2.aborted && e.2.err == 0 &&
      (decide (x.stage < (it.lane l).stage) || (x.stage == (it.lane l).stage && !x.started))))

/-- The lane of item `n` whose next stage may start (R462). -/
def Chip.readyLane (c : Chip) (it : Item) : Option Nat :=
  [0, 1].find? (fun l => it.waits l && c.firstInLane it l && c.stageReady (c.stageTiles it.partition l (it.lane l).stage))

/-- STAGE_START (R462, R463). -/
def execStageStart (k : ChipId) (item : Nat) (s : State) : Out :=
  let c := s.chip k
  match c.item item with
  | none => occurs false s s
  | some it =>
    match c.readyLane it with
    | none => occurs false s s
    | some l => occurs c.running s (s.setChip k (c.startStage item l))

/-- The report of tile `t` for item `n` (R464, R465): the tile is idle, the first error and the flags join the item. -/
def Chip.reported (c : Chip) (n t err fl : Nat) : Chip :=
  let c1 := c.onTile t (fun x => { x with seqIdle := true })
  match c.item n with
  | none => c1
  | some it =>
    if it.begun.contains t && (it.lane0.waitEnds ++ it.lane1.waitEnds).contains t then
      let cut := fun (l : LaneRun) => { l with waitEnds := removeAll l.waitEnds t }
      (c1.setItem n { it with
        lane0 := cut it.lane0, lane1 := cut it.lane1, begun := removeAll it.begun t
        err := if it.err = 0 then err else it.err, flags := orFlags it.flags fl }).settleItem n
    else c1

/-- ITEM_END_REPORT (R464, R465, R471): SEQ takes the next WR popped; one of another OP, or a poisoned one, has no
effect. -/
def execItemEndReport (k : ChipId) (s : State) : Out :=
  let c := s.chip k
  match c.headWr epSeq with
  | none => occurs false s s
  | some m =>
    let f := field m.arg
    let c1 := c.dropWr epSeq
    let c2 := if m.poison || m.op ≠ 0x11 then c1 else c1.reported (f 0 12) (tileIx (f 16 7) (f 12 4)) (f 23 4) (f 27 6)
    occurs c.running s (s.setChip k c2)

/-! ## Model loads (R476 to R483, R626) -/

/-- Entry 15r + t of a tile map at session-memory address `a`. -/
def mapEntryAt (m : List Host.Cell) (a t : Nat) : MapEntry :=
  let v := Memory.readLE m (a + 4 * t) 4
  { valid := bit v 31, lane := field v 30 1, stage := field v 24 6, entry := field v 0 15 }

/-- The valid entries of a tile map. -/
def mapAt (m : List Host.Cell) (a : Nat) : List (Nat × MapEntry) :=
  ((List.range 1080).map (fun t => (t, mapEntryAt m a t))).filter (fun e => e.2.valid)

/-- Stages of lane `l`: numbered from 0 without gaps, at least one (R457). -/
def laneOk (es : List (Nat × MapEntry)) (l : Nat) : Bool :=
  let st := (es.filter (fun e => e.2.lane == l)).map (fun e => e.2.stage)
  !st.isEmpty && (List.range (st.foldl max 0 + 1)).all (fun n => st.contains n)

/-- The map meets R457 for partition `p`. -/
def Chip.mapOk (c : Chip) (p lanes : Nat) (es : List (Nat × MapEntry)) : Bool :=
  (lanes == 1 || lanes == 2) && (List.range lanes).all (laneOk es) &&
  es.all (fun e => decide (e.2.lane < lanes) && (c.region (e.1 / 15)).cfg.partition == p)

/-- A copy entry (R626). -/
structure CopyEntry where
  src : Nat
  tile : Nat
  off : Nat
  region : Nat
  lines : Nat
  ok : Bool

/-- The copy entries at `a`; one is well formed when its source and destination are lines that exist (R314, R626). -/
def copiesAt (m : List Host.Cell) (a n : Nat) : List CopyEntry :=
  (List.range n).map (fun i =>
    let f := fun (o k : Nat) => Memory.readLE m (a + 16 * i + o) k
    let dst := f 8 4
    let lines := f 14 2
    { src := f 0 8, tile := dst / 2 ^ 21, off := dst % 2 ^ 21, region := f 12 1, lines := lines
      ok := f 13 1 == 0 && decide (1 ≤ lines) && decide (lines ≤ 24576) && (tileAddr dst lines).isSome && decide (f 12 1 < 72) &&
            f 0 8 % 64 == 0 && decide (f 0 8 + 64 * lines ≤ 2 ^ 36) })

/-- Partition `p` has an item in flight, a READY session or a queued AHEAD session (R478). -/
def Chip.busyPart (c : Chip) (p : Nat) : Bool :=
  c.seq.items.cells.any (fun e => e.2.partition == p) || !(c.heap p).isEmpty || !(c.queuedAhead p).isEmpty

/-- The parameters of a MODEL_LOAD. -/
def mlPart (bs : List Byte) : Nat := entryField bs 8 1
def mlLanes (bs : List Byte) : Nat := entryField bs 9 1
def mlOverflow (bs : List Byte) : Nat := entryField bs 20 4
def mlBytes (bs : List Byte) : Nat := entryField bs 12 4 + entryField bs 16 4
def mlMap (bs : List Byte) : Nat := entryField bs 24 8
def mlCopies (m : List Host.Cell) (bs : List Byte) : List CopyEntry := copiesAt m (entryField bs 32 8) (entryField bs 40 4)

/-- A load's residency figures (R476, R477, R479, R480): shown even when it is refused (R478). -/
def Chip.showResidency (c : Chip) (bs : List Byte) : Chip :=
  let p := mlPart bs
  let cap := c.capacityOf p
  let req := mlLanes bs * mlBytes bs
  let sp := c.spillSlotsOf p
  c.onPart p (fun q => { q with
    capacity := cap, required := req, shortfall := req - cap, overflow := mlOverflow bs, spillSlots := sp
    admitReg := admitOf sp c.img.nowC.frameEpochs (mlLanes bs) (mlOverflow bs) })

/-- The model load of partition `p` is already under way on some ring. -/
def Chip.loading (c : Chip) (p : Nat) : Bool :=
  (List.range 16).any (fun g => match c.background g 0x10 with | some bs => mlPart bs == p | none => false)

/-- Why SEQ refuses a load, if it does (R478, R481, R626; a load of the same partition in progress: log entry 26). -/
def Chip.loadRefusal (c : Chip) (bs : List Byte) : Option (Tag × Nat) :=
  let p := mlPart bs
  let lanes := mlLanes bs
  let resident := (lanes : Int) * ((mlBytes bs : Int) - (mlOverflow bs : Int))
  let copies := mlCopies c.mem bs
  if (c.capacityOf p : Int) < resident || !c.mapOk p lanes (mapAt c.mem (mlMap bs)) || c.busyPart p || c.loading p then some (.ses, 4)
  else if 0 < mlOverflow bs && admitOf (c.spillSlotsOf p) c.img.nowC.frameEpochs lanes (mlOverflow bs) == 0 then some (.ses, 5)
  else if copies.any (fun e => !e.ok || (c.region e.region).cfg.partition != p) then some (.hif, 3)
  else none

/-- MODEL_LOAD (R477, R478, R481, R626): refused, or STATE 0 and its copies under way. -/
def execModelLoad (k : ChipId) (g : RingId) (s : State) : Out :=
  ringCommand k g 0x10 1 s (fun c bs =>
    let c1 := c.showResidency bs
    match c.loadRefusal bs with
    | some (tag, nn) => c1.refuse g bs tag nn (mlPart bs)
    | none => (c1.onPart (mlPart bs) (fun q => { q with model := 0 })).toBackground g)

/-- XDMA performs copies in list order, from session memory to tile memory. -/
def Chip.doCopies (c : Chip) (es : List CopyEntry) : Chip :=
  es.foldl (fun c e =>
    (c.onTileMem e.region e.tile (fun m => Memory.write m e.off (Memory.read c.mem e.src (64 * e.lines)))).countAux 4 e.lines) c

/-- The map applied (R626): the tiles of the partition's old map leave it. -/
def Chip.applyMap (c : Chip) (p : Nat) (es : List (Nat × MapEntry)) : Chip :=
  c.onSeq (fun q =>
    let kept := { q.tiles with cells := q.tiles.cells.filter (fun e => (c.region (e.1 / 15)).cfg.partition != p) }
    { q with tiles := es.foldl (fun b e => b.set e.1 e.2) kept })

/-- A load that has copied everything (R626): RESIDENT, and the regions that may serve do. Where a region of its map has left the
partition while it copied, the model is lost at once (R483, log entry 26). -/
def Chip.finishLoad (c : Chip) (bs : List Byte) : Chip :=
  let p := mlPart bs
  let es := mapAt c.mem (mlMap bs)
  let c1 := (c.applyMap p es).onPart p (fun q => { q with
    model := 1, lanes := mlLanes bs, liveOverflow := mlOverflow bs
    liveAdmit := admitOf (c.spillSlotsOf p) c.img.nowC.frameEpochs (mlLanes bs) (mlOverflow bs)
    overflow := mlOverflow bs, required := mlLanes bs * mlBytes bs, laneFault := false })
  let c2 := ((c1.regionsOf p).foldl (fun c r => (c.onRegion r (fun x => { x with awaitModel := false })).serveIfReady r) c1)
  let c3 := (c2.refreshPart p).checkLanes p
  if es.any (fun e => (c.region (e.1 / 15)).cfg.partition != p) then c3.loseModel p else c3

/-- The copies that took place before one met an RSP error: the spec does not say which it was, and the number is a free
value (log entry 27). -/
def copiesBefore (es : List CopyEntry) (fresh : Nat) : List CopyEntry := es.take (Config.free fresh % (es.length + 1))

/-- MODEL_LOAD_COPY_DONE (R626): the copies are done, or one met an RSP error (FAILED, STATE 0, F-HIF-08). -/
def execModelLoadCopyDone (k : ChipId) (g : RingId) (ok : Bool) (s : State) : Out :=
  let c := s.chip k
  match c.background g 0x10 with
  | none => occurs false s s
  | some bs =>
    let es := mlCopies c.mem bs
    let c0 := c.endBackground g 0x10
    let c1 := if ok then ((c0.doCopies es).finishLoad bs).complete g bs 0 0
      else ((c0.doCopies (copiesBefore es s.fresh)).fault .hif 8 (mlPart bs)).complete g bs 2 (codeOf .hif 8)
    occurs (c.running && c.roomForCompletions g 1) s { (s.setChip k c1) with fresh := s.fresh + 1 }

/-- TILE_RELOAD (R627): refused unless the region awaits that tile and every copy names it. -/
def execTileReload (k : ChipId) (g : RingId) (s : State) : Out :=
  ringCommand k g 0x11 1 s (fun c bs =>
    let r := entryField bs 8 1
    let t := entryField bs 9 1
    let ok := (c.region r).awaitTiles.contains t &&
      (mlCopies c.mem bs).all (fun e => e.ok && e.region == r && e.tile == t)
    if ok then c.toBackground g else c.refuse g bs .hif 3 r)

/-- TILE_RELOAD_COPY_DONE (R627, R80): on success the tile is no longer awaited and the region returns to SERVING. -/
def execTileReloadCopyDone (k : ChipId) (g : RingId) (ok : Bool) (s : State) : Out :=
  let c := s.chip k
  match c.background g 0x11 with
  | none => occurs false s s
  | some bs =>
    let r := entryField bs 8 1
    let es := mlCopies c.mem bs
    let c0 := c.endBackground g 0x11
    let c1 := if ok then
        (((c0.doCopies es).onRegion r (fun x => { x with awaitTiles := removeAll x.awaitTiles (entryField bs 9 1) })).serveIfReady r).complete g bs 0 0
      else ((c0.doCopies (copiesBefore es s.fresh)).fault .hif 8 r).complete g bs 2 (codeOf .hif 8)
    occurs (c.running && c.roomForCompletions g 1) s { (s.setChip k c1) with fresh := s.fresh + 1 }

/-! ## COUNTER (R629) -/

def cnIndex (bs : List Byte) : Nat := entryField bs 8 2
def cnValue (bs : List Byte) : Nat := entryField bs 16 8

/-- The COUNTER at the front of ring `g` has OPC `opc`; `f` completes it, `woken` are the rings its change completes. -/
def counterOp (k : ChipId) (g : RingId) (opc : Nat) (s : State) (woken : Chip → List Byte → List Nat)
    (f : Chip → List Byte → Chip) : Out :=
  let c := s.chip k
  match c.front g 0x40 with
  | none => occurs false s s
  | some bs =>
    occurs (c.running && c.bru.ready && entryField bs 10 1 == opc && c.roomForAll (g.val :: woken c bs)) s (s.setChip k (f c bs))

/-- The completion of a COUNTER (Table HIF-6): OUTCOME MET and the value. -/
def Chip.counterDone (c : Chip) (g : Nat) (bs : List Byte) (v : Nat) : Chip := (c.popCommand g).complete g bs 0 0 0 v

/-- COUNTER ADD (R385, R629). -/
def execCounterAdd (k : ChipId) (g : RingId) (s : State) : Out :=
  counterOp k g 0 s (fun c bs => c.ringsWoken (cnIndex bs) (c.sumCounter (cnIndex bs) (cnValue bs))) (fun c bs =>
    let v := c.sumCounter (cnIndex bs) (cnValue bs)
    (c.counterDone g bs v).addCounter (cnIndex bs) (cnValue bs))

/-- COUNTER SET (R385, R629). -/
def execCounterSet (k : ChipId) (g : RingId) (s : State) : Out :=
  counterOp k g 1 s (fun c bs => c.ringsWoken (cnIndex bs) (cnValue bs)) (fun c bs =>
    (c.counterDone g bs (cnValue bs)).setCounter (cnIndex bs) (cnValue bs))

/-- COUNTER WAIT_GE (R385 to R389, R629): the command waits in the background for SEQ's answer. -/
def execCounterWaitGe (k : ChipId) (g : RingId) (s : State) : Out :=
  counterOp k g 2 s (fun _ _ => []) (fun c bs =>
    (c.toBackground g).waitCounter
      { counter := cnIndex bs, value := cnValue bs, src := epHif, tag := g, timeout := entryField bs 12 4, ring := some g.val })

/-- COUNTER READ (R629). -/
def execCounterRead (k : ChipId) (g : RingId) (s : State) : Out :=
  counterOp k g 3 s (fun _ _ => []) (fun c bs => c.counterDone g bs (c.seq.ctr.get 0 (cnIndex bs)))

end Sys2Proof.Machine
end

