-- ==== Sys2Proof/Machine/Energy.lean ====
section
/-! DEFINITION. The bookings of a sweep (R572, R573, R583), the gains (R584, R585) and the energy reads (R586 to R588,
R628). -/

namespace Sys2Proof.Machine

/-! ## Bookings -/

/-- One booking with the gains in force (R572, R573): account, partition, class and SPEC counters, and EST for a missing
group (R583). -/
def Chip.bookOne (c : Chip) (missing : Nat → Bool) (b : Booking) : Chip :=
  let n := c.calibrated b.group b.raw
  let c1 := c.onStew (fun w => { w with
    accounts := w.accounts.update {} b.account (fun a => { total := a.total.add n, est := if missing b.group then a.est.add n else a.est })
    parts := if b.partition < 16 then w.parts.update {} b.partition (fun u => u.add n) else w.parts
    classes := if b.cls < 8 then w.classes.update {} b.cls (fun u => u.add n) else w.classes
    spec := if b.spec then w.spec.add n else w.spec })
  c1.onRailGroup b.group (fun g => { g with booked := g.booked.add n })

/-- The sweep `x` of group `g`: measured, with its sums for the gain, or missing (R577, R584). -/
def RailGroup.close (g : RailGroup) (got : Option Nat) (raw : Nat) : RailGroup :=
  match got with
  | some m => { g with measured := g.measured.add (m * unitsPerNj), m := g.m + m, r := g.r + raw, ms := g.ms + 1 }
  | none => { g with missing := satAdd 32 g.missing 1 }

/-- The sweep `x` is booked (R583). -/
def Chip.bookSweep (c : Chip) (x : Sweep) : Chip :=
  let missing := fun (g : Nat) => (x.got.getD g none).isNone
  let c1 := x.bookings.foldl (fun c b => c.bookOne missing b) c
  let c2 := (List.range 5).foldl (fun c g => c.onRailGroup g (fun y => y.close (x.got.getD g none) (x.raw.getD g 0))) c1
  c2.onStew (fun w => { w with staged := w.staged.tail, gainDue := w.gainDue || decide (x.at_ % 10000 = 0) })

/-- An energy read waits for its capture at a tick before `e` (R587). -/
def Stew.captureBefore (w : Stew) (e : Nat) : Bool := w.captures.any (fun x => !x.taken && decide (x.tick < e))

/-- ENERGY_BOOKING (R583, R597): at B + 200 the Steward books the sweep that ended at B. -/
def execEnergyBooking (k : ChipId) (s : State) : Out :=
  let c := s.chip k
  match c.stew.staged.head? with
  | none => occurs false s s
  | some x =>
    occurs (c.running && decide (200 ≤ x.age) && !c.stew.captureBefore x.at_ && !c.stew.gainDue) s (s.setChip k (c.bookSweep x))

/-- The gain of R584 before its limits; the quotient by a raw estimate of zero is open (log entry 28). -/
def rawGain (m r free : Nat) : Nat := if r = 0 then free else (m * 1048576 + r / 2) / r

/-- The update of one gain (R584): the faults it raises and its new value. -/
def Chip.updateGain (c : Chip) (i free : Nat) : Chip :=
  let g := c.railGroup i
  let clear := fun (y : RailGroup) => { y with m := 0, r := 0, ms := 0 }
  if g.ms < 50 then (c.onRailGroup i clear).fault .nrg 3 i
  else
    let g0 := rawGain g.m g.r free
    let out := decide (g0 < 786432) || decide (1310720 < g0)
    let g1 := min (max g0 786432) 1310720
    let jump := decide (g.gain < (if g1 < g.gain then g.gain - g1 else g1 - g.gain) * 400)
    ((c.onRailGroup i (fun y => clear { y with gain := g1 })).faultIf out .nrg 4 i).faultIf jump .nrg 5 i

/-- GAIN_UPDATE (R584, R585): after the sweep ending at X has been booked. -/
def execGainUpdate (k : ChipId) (s : State) : Out :=
  let c := s.chip k
  let c1 := (List.range 5).foldl (fun c i => c.updateGain i (Config.free (s.fresh + i))) c
  occurs (c.running && c.stew.gainDue) s
    { (s.setChip k (c1.onStew (fun w => { w with gainDue := false }))) with fresh := s.fresh + 5 }

/-! ## Energy reads -/

/-- TOTAL and EST of counter `i` (R628). -/
def Stew.counter (w : Stew) (i : Nat) : Nat × Nat :=
  if i < 65536 then let a := w.accounts.get {} i; (a.total.uj, a.est.uj)
  else if i < 65552 then ((w.parts.get {} (i - 65536)).uj, 0)
  else if i < 65560 then ((w.classes.get {} (i - 65552)).uj, 0)
  else (w.spec.uj, 0)

/-- The counters `first .. first + count − 1` at zero (R588). -/
def Stew.zero (w : Stew) (first count : Nat) : Stew :=
  let inside := fun (i : Nat) => decide (first ≤ i) && decide (i < first + count)
  { w with
    accounts := { cells := w.accounts.cells.filter (fun e => !inside e.1) }
    parts := { cells := w.parts.cells.filter (fun e => !inside (65536 + e.1)) }
    classes := { cells := w.classes.cells.filter (fun e => !inside (65552 + e.1)) }
    spec := if inside 65560 then {} else w.spec }

/-- ENERGY_READ (R587, R628): TICK 0 is the next frame tick; a TICK that is no future frame tick is refused. -/
def execEnergyRead (k : ChipId) (g : RingId) (s : State) : Out :=
  ringCommand k g 0x20 1 s (fun c bs =>
    let f := entryField bs
    let tick := if f 16 8 = 0 then c.nextTick else f 16 8
    if tick ≤ c.time.epoch || tick % c.img.nowC.frameEpochs ≠ 0 then c.refuse g bs .hif 3 g
    else (c.toBackground g).onStew (fun w => { w with captures := w.captures ++
      [{ ring := g, tag := entryTag bs, first := f 8 4, count := f 12 4, tick := tick, clear := decide (f 24 1 = 1), dest := f 32 8 }] }))

/-- The earliest tick of the captures not yet taken. -/
def Stew.nextCapture (w : Stew) : Option Nat :=
  ((w.captures.filter (fun x => !x.taken)).map (fun x => x.tick)).foldl
    (fun o t => match o with | none => some t | some u => some (min u t)) none

/-- The captures of tick `t` are taken, and then its clears apply (R587, R588, R628). -/
def Stew.take (w : Stew) (t : Nat) : Stew :=
  let due := fun (x : Capture) => !x.taken && x.tick == t
  let w1 := { w with captures := w.captures.map (fun x =>
    if due x then { x with taken := true, rows := (List.range x.count).map (fun i => w.counter (x.first + i)) } else x) }
  ((w.captures.filter (fun x => due x && x.clear)).foldl (fun w x => w.zero x.first x.count) w1)

/-- ENERGY_CAPTURE (R587, R588, R598): every interval that ends at or before the tick has been booked, 200 epochs after
it. -/
def execEnergyCapture (k : ChipId) (s : State) : Out :=
  let c := s.chip k
  match c.stew.nextCapture with
  | none => occurs false s s
  | some t =>
    occurs (c.running && decide (t + 200 ≤ c.time.epoch) && c.stew.staged.all (fun x => decide (t < x.at_))) s
      (s.setChip k (c.onStew (fun w => w.take t)))

/-- One 24-byte record (R587, R628). -/
def energyRecord (row : Nat × Nat) : List Byte :=
  natLE 8 row.1 ++ natLE 8 row.2 ++ natLE 4 (if row.1 = 0 then 0 else row.2 * 1000000 / row.1) ++ natLE 4 0

/-- ENERGY_READ_RESULT (R587, R628): HIF writes the records at DEST and completes the command with the tick. -/
def execEnergyReadResult (k : ChipId) (g : RingId) (s : State) : Out :=
  let c := s.chip k
  match c.stew.captures.find? (fun x => x.taken && x.ring == g.val), c.background g 0x20 with
  | some x, some bs =>
    let c1 := (c.onStew (fun w => { w with captures := w.captures.erase x })).endBackground g 0x20
    let data := x.rows.flatMap energyRecord
    occurs (c.running && c.roomForCompletions g 1) s
      { (s.setChip k ((c1.countAux 1 (ceilDiv data.length 64)).complete g bs 0 0 x.tick)) with
        hostMem := Memory.write s.hostMem x.dest data }
  | _, _ => occurs false s s

end Sys2Proof.Machine
end

