-- ==== Sys2Proof/Machine/Epoch.lean ====
section
/-! DEFINITION. The epoch boundary, the frame tick, PPS edges and holds (R93 to R104, R109 to R113, R144, R172, R181,
R454, R728, R729): what the passing of one boundary does to everything that counts epochs. -/

namespace Sys2Proof.Machine

/-! ## What counts boundaries (R729) -/

/-- The generators at the end of an epoch of `len` ticks (R106, R109, R110, R113): region `r`'s clock has produced `cycles[r]`
cycles, as far as its guard lets them through, which count as its CYCLE events too (Table NRG-1). -/
def Chip.endGenerators (c : Chip) (len : Nat) (cycles : List Nat) : Chip :=
  let count := fun (r : Nat) => (c.clockGen r).guarded len (cycles.getD r 0)
  let c1 := c.mapGens (fun r g =>
    { g.epochEnd (c.clockState r) c.clk.mNow len (count r) with
      stopped := !c.clockRuns r, ran := g.ran + (if c.clockRuns r then count r else 0) })
  (c.gens.cells.filter (fun e => c.clockRuns e.1)).foldl (fun d e =>
    d.onRegion e.1 (fun x => { x with cycleEvents := x.cycleEvents + count e.1 })) c1

/-- One more boundary of an age that stops at its limit. -/
def older (limit n : Nat) : Nat := min limit (n + 1)

/-- One reference input's clean time: the 10,000 epochs of Table CLK-6. -/
def RefMon.older (m : RefMon) : RefMon := { m with clean := if m.live then Machine.older 10000 m.clean else 0 }

/-- The clock's counts (R107, R129, R132, R143, R729, Table CLK-5, Table CLK-6). -/
def Clock.older (q : Clock) (seeking : Bool) : Clock :=
  { q with
    refA := q.refA.older, refB := q.refB.older
    holdEpochs := if q.freqHold then q.holdEpochs + 1 else q.holdEpochs
    noRefEpochs := if seeking then q.noRefEpochs + 1 else 0
    lockAged := q.refLocked
    guardAge := Machine.older 10000 q.guardAge
    secEpochs := if second ≤ q.secEpochs + 1 then 0 else q.secEpochs + 1
    freq := match q.freq.phase with
      | .slewing => { q.freq with since := q.freq.since + 1 }
      | .lowering => { q.freq with since := q.freq.since + 1 }
      | .settling => { q.freq with since := q.freq.since + 1 }
      | .none => q.freq | .waiting => q.freq | .raised => q.freq }

/-- A commanded switch takes place at the boundary while its reference is still qualified (R134). -/
def Chip.switchNow (c : Chip) : Chip :=
  match c.clk.switchTo with
  | none => c
  | some n =>
    if c.clk.qualified n then (c.onClk (fun q => q.select n true false)).cause 19
    else c.onClk (fun q => { q with switchTo := none })

/-- XNG.WDOG_AGE of every region (R172): one more while it is stalled with its clock stopped, else zero. -/
def Chip.ageWatchdogs (c : Chip) : Chip :=
  c.forRegions allRegions (fun d r =>
    if c.stalled r && !c.clockRuns r then d.onRegion r (fun x => { x with wdogAge := Machine.older 255 x.wdogAge })
    else if (c.region r).wdogAge = 0 then d else d.onRegion r (fun x => { x with wdogAge := 0 }))

/-- Queue `q` of the chip is in a handshake that ages (R181): it is not open, and both sides' clocks have run throughout the epoch. -/
def Chip.handshakeAges (c : Chip) (q : Nat) (x : Queue) : Bool :=
  !x.isOpen && decide (0 < queueDepth q) && c.bothRan q

/-- Handshakes in progress age (R181). -/
def Chip.ageHandshakes (c : Chip) : Chip :=
  { c with queues := { cells := (List.range 752).filterMap (fun q =>
      match Bank.look c.queues.cells q with
      | some x => some (q, if c.handshakeAges q x then { x with age := x.age + 1 } else x)
      | none => if c.handshakeAges q {} then some (q, { age := 1 }) else none) } }

/-- The REQ at the head of endpoint `e`'s REQ queue waits for WRs of its source (R203, R739). -/
def Chip.headHeld (c : Chip) (e : Nat) : Bool :=
  let q := c.queue (ejQ e .req)
  match q.items.head? with
  | some f => decide (0 < q.seenLen) && f.head && (c.ep e).holds f.msg
  | none => false

/-- How long each lane of the routers' outputs has had a flit ready and sent nothing (R222). -/
def Chip.ageLanes (c : Chip) : Chip :=
  let next := fun (i : Nat) (k : OutLink) =>
    { k with stall := allLanes.map (fun l => if (c.ready (i / 5) (i % 5) l).isEmpty then 0 else k.stall.getD l.ix 0 + 1) }
  let outs := c.flying.map (fun f => 5 * f.at_ + outSide f.at_ f.flit.msg)
  { c with links := outs.foldl (fun b i => if Bank.has c.links i then b else b.set i (next i {})) (c.links.mapCells next) }

/-- The endpoints' counts: outstanding REQs (R216) and the held REQ (R739). -/
def Chip.ageEndpoints (c : Chip) : Chip :=
  { c with eps := { cells := (List.range 94).filterMap (fun e =>
      let held := c.headHeld e
      match Bank.look c.eps.cells e with
      | some x => some (e, { x with
          outstanding := x.outstanding.map (fun o => { o with age := o.age + 1 }), held := if held then x.held + 1 else 0 })
      | none => if held then some (e, { held := 1 }) else none) } }

/-- What a tile has done in the running interval: K steps, vector operations, selection and tile-memory accesses. -/
def Tile.work (x : Tile) : List Nat := [x.kstep8, x.kstep16, x.vop, x.selBusy, x.lineB, x.lineS]

/-- The tile has made progress since the boundary that left `sig` (R349): the sequencer has moved, an operation has completed, or one
has done some work. -/
def Tile.progressed (x : Tile) : Bool :=
  x.hangSig.take 2 != [x.pc, x.issued.length] || (x.work.zip (x.hangSig.drop 2)).any (fun e => decide (e.2 < e.1))

/-- The TIMEOUTs of a tile's operations (R397, R398), and how long what is issued has stood while the clock `ran` (R349). -/
def Tile.older (x : Tile) (ran : Bool) : Tile :=
  { x with
    hang := if x.running && !x.progressed then (if ran then x.hang + 1 else x.hang) else 0
    hangSig := [x.pc, x.issued.length] ++ x.work
    issued := x.issued.map (fun i => match i.kind with
      | .send since tmo ms => { i with kind := .send (since + 1) tmo ms }
      | .collWait slot since tmo => { i with kind := .collWait slot (since + 1) tmo }
      | .wait _ _ _ _ _ => i | .fence _ => i | .signalFence _ _ => i | .moveIn _ _ => i | .out _ => i) }

/-- The Steward's counts (R541, R554, R558, R583) and the length of the running frame. -/
def Stew.older (w : Stew) : Stew :=
  { w with
    resumeAge := if w.resuming then w.resumeAge + 1 else w.resumeAge
    grantAge := w.grantAge + 1
    effDrop := Machine.older 1000 w.effDrop
    staged := w.staged.map (fun x => { x with age := x.age + 1 })
    frameLen := w.frameLen + 1 }

/-- HIF's counts (R634, R637). -/
def Hif.older (h : Hif) : Hif :=
  { h with
    inbox := h.inbox.map (fun x => { x with age := x.age + 1 })
    vectors := h.vectors.mapCells (fun _ v => { v with since := Machine.older 0x10000 v.since }) }

/-- Everything that counts boundaries counts one (R729). -/
def Chip.older (c : Chip) : Chip :=
  let seeking := c.seeking
  let c1 := ((c.ageWatchdogs.ageHandshakes).ageEndpoints).ageLanes
  { c1 with
    clk := c1.clk.older seeking
    tiles := c1.tiles.mapCells (fun t x => x.older (c.ranThroughout (t / 15)))
    posns := c1.posns.mapCells (fun _ x => { x with residueAt := x.residueAt.map (fun n => n + 1) })
    chans := c1.chans.mapCells (fun _ x => if x.trained then { x with ecsEpochs := x.ecsEpochs + 1 } else x)
    seq := { c1.seq with waiters := c1.seq.waiters.map (fun w => { w with since := w.since + 1 }) }
    stew := c1.stew.older
    bru := { c1.bru with epochs := if seeking then c1.bru.epochs else c1.bru.epochs + 1 }
    xng := { c1.xng with
      epochs := if c1.xng.probing then c1.xng.epochs + 1 else c1.xng.epochs
      check := if c1.bru.phase = .spine then c1.xng.check + 1 else c1.xng.check }
    img := { c1.img with
      rollEnded := false
      rollEpochs := if c1.img.rollRegion = 255 || c1.safetyHalt then c1.img.rollEpochs else c1.img.rollEpochs + 1 }
    dissolves := c1.dissolves.map (fun d => { d with epochs := d.epochs + 1 })
    hif := c1.hif.older }

/-- The counts that restart each second (R222, R352, R526), a second being 1,000,000 boundaries (R729). -/
def Chip.newSecond (c : Chip) : Chip :=
  { c with
    tiles := c.tiles.mapCells (fun _ x => { x with ceSecond := 0 })
    links := c.links.mapCells (fun _ x => { x with corrSec := 0 })
    chans := c.chans.mapCells (fun _ x => { x with repeats := 0 }) }

/-! ## The boundary -/

/-- The chip passes a boundary that ends an epoch of `len` ticks: `t` is the counter after it and `shift` what an epoch load
moves (R728). -/
def Chip.passBoundary (c : Chip) (t : TimeBase) (len shift : Nat) (cycles : List Nat) : Chip :=
  let c1 := ((c.feedTo t.tick).endGenerators len cycles).older
  let c2 := { c1 with time := t, tickDue := c1.tickDue || decide (t.epoch % c1.img.nowC.frameEpochs = 0) }
  let c3 := if c2.clk.secEpochs = 0 then c2.newSecond else c2
  let c4 := c3.onStew (fun w => { w with evalDue := w.evaluating && (w.evalDue || decide (t.epoch % 10 = 0)) })
  (c4.renumber shift).switchNow

/-- TIME_VALID has changed between two states of the chip: the cause of vector 19 (Table HIF-8). -/
def Chip.notingTime (c d : Chip) : Chip := if c.time.valid = d.time.valid then d else d.cause 19

/-- The boundary that ends the epoch in progress on a chip. -/
def Chip.epochBoundary (c : Chip) (cycles : List Nat) : Chip :=
  let (t, shift) := c.time.boundary (c.clk.refSel != 3 && !c.clk.holdover)
  c.passBoundary t c.time.len shift cycles

/-- The TRC whose outputs the TMCs follow: A, else B (R654's preface). -/
def Tray.timeSource (t : Tray) : Option Side :=
  if t.trcDrives .a then some .a else if t.trcDrives .b then some .b else none

/-- What the active TMC counts (R29, R676, R678): the prepared unit's time, that of each unit that joins, and at each 100th
boundary 1 ps of the TRCs' slew. -/
def Tray.older (t : Tray) (ep : Nat) : Tray :=
  let t1 := { t with
    prepAge := if t.prepared.isSome then t.prepAge + 1 else t.prepAge
    joining := t.joining.map (fun u => { u with age := u.age + 1 }) }
  if ep % 100 = 0 then { t1 with trcA := t1.trcA.slew, trcB := t1.trcB.slew } else t1

/-- The boundary on a TMC: at a heartbeat epoch the partner's heartbeat is missing until it comes (R656); the latch's 1 ms
without a toggle of ALIVE (R652) is counted by the TMC that is not active; each counts the commands that it forwarded (R666). -/
def Tray.epochBoundary (t : Tray) (x : Side) : Tray :=
  let t1 := t.onTmc x (fun m =>
    let time := (m.time.boundary t.timeSource.isSome).1
    { m with
      time := time, forwarded := m.forwarded.map (fun f => { f with age := f.age + 1 })
      missed := if time.epoch % 10000 = 5000 then m.missed + 1 else m.missed })
  let t2 := if t.role == some x then t1 else { t1 with aliveAge := Machine.older 1000 t1.aliveAge }
  if x == t.role.getD .a then t2.older (t1.tmc x).time.epoch else t2

/-- A TMC runs. -/
def Tray.tmcRuns (t : Tray) (x : Side) : Bool := t.standby && (t.tmc x).present

/-- The boundary at a place: `held` says whether a hold of R102 must be in progress. -/
def boundaryAt (pl : Place) (cycles : List Nat) (held : Bool) (s : State) : Out :=
  match pl with
  | .chip k =>
    let c := s.chip k
    occurs (c.running && decide (0 < c.time.hold) == held) s (s.setChip k (c.epochBoundary cycles))
  | .tmc x =>
    let m := s.tray.tmc x
    occurs (s.tray.tmcRuns x && decide (0 < m.time.hold) == held) s { s with tray := s.tray.epochBoundary x }

/-- EPOCH_BOUNDARY (R93, R94, R109, R110, R113, R172, R729): an epoch ends; while a hold lasts no boundary occurs (R102). -/
def execEpochBoundary (pl : Place) (cycles : List Nat) (s : State) : Out := boundaryAt pl cycles false s

/-- PPS_HOLD_END (R102, R104): the hold is over and the next boundary occurs. -/
def execPpsHoldEnd (pl : Place) (cycles : List Nat) (s : State) : Out := boundaryAt pl cycles true s

/-! ## PPS edges -/

/-- A PPS edge on a chip (R95 to R98, R100 to R102, R144, R728). A forward step is a boundary (R729). -/
def Chip.ppsEdge (c : Chip) (pos : Nat) (cycles : List Nat) : Chip :=
  let e := c.time.edge pos
  let c1 := if e.stepped then c.passBoundary e.time pos 0 cycles else { c.feedTo e.time.tick with time := e.time }
  c.notingTime (((c1.renumber e.moved).faultIf e.realigned .clk 6 noInstance).faultIf e.refused .clk 12 noInstance)

/-- PPS_EDGE (R90, R100, R131, R137): a rising edge of line `line` at tick `pos` of the epoch. A chip takes the line of the
reference it has selected, none in holdover; a TMC takes that of the TRC it follows. -/
def execPpsEdge (pl : Place) (line : Side) (pos : Nat) (cycles : List Nat) (s : State) : Out :=
  match pl with
  | .chip k =>
    let c := s.chip k
    occurs (c.running && c.clk.selects line && (c.clk.refOf line).live && !c.clk.holdover && c.time.hold == 0 && decide (c.time.pos ≤ pos) &&
      decide (pos < c.time.len)) s (s.setChip k (c.ppsEdge pos cycles))
  | .tmc x =>
    let m := s.tray.tmc x
    occurs (s.tray.tmcRuns x && s.tray.timeSource == some line && m.time.hold == 0 && decide (m.time.pos ≤ pos) &&
      decide (pos < m.time.len)) s
      (s.onTray (fun t => t.onTmc x (fun m => { m with time := (m.time.edge pos).time })))

/-! ## Frame ticks -/

/-- The faults reported once in a frame may be reported again (R187, R391, R416, R456, R514, R541, R547, R621). -/
def Chip.newFrame (c : Chip) : Chip :=
  { c with
    tiles := c.tiles.mapCells (fun _ x => { x with poolFault := false, tagFault := false })
    regions := c.regions.mapCells (fun _ x => { x with detFault := false })
    chans := c.chans.mapCells (fun _ x => { x with shelfFault := false })
    stew := { c.stew with overFault := false, softFault := false }
    seq := { c.seq with
      holdFault := [], parts := c.seq.parts.mapCells (fun _ q => { q with lateFault := false, admitted := 0 }) }
    img := { c.img with rollWait := false } }

/-- A session at a frame tick (R454, R472): an ARMED one becomes READY with its deadline; a run-ahead candidate's deadline
counts from the first tick after its ARM. -/
def Chip.tickSession (c : Chip) (x : Session) : Session :=
  let e := c.time.epoch
  match x.state with
  | .armed => { (c.dispatch x) with state := .ready, deadline := e + c.classDeadline x.cls, tickAt := 0 }
  | .ahead => if x.tickAt = 0 then x else { x with deadline := x.deadline + e - x.tickAt, tickAt := 0 }
  | .free => x | .open_ => x | .ready => x | .running => x

/-- The indices of the sessions that a tick takes to READY, ascending (R454). -/
def Chip.armedSessions (c : Chip) : List Nat := (c.seq.sessions.pick (fun _ x => x.state == .armed)).map (fun e => e.1)

/-- The frame tick (R103, R454, R460): SEQ uses each descriptor that it changes (R444). -/
def Chip.frameTick (c : Chip) : Chip :=
  let c1 := c.armedSessions.foldl (fun c i => c.cacheSession i) c.newFrame
  let c2 := c1.onSeq (fun q => { q with sessions := q.sessions.mapCells (fun _ x => c1.tickSession x) })
  if c2.stew.evalDue then c2.onStew (fun w => { w with frameEnd := true }) else c2.closeFrame

/-- FRAME_TICK (R103, R104, R454, R460, R601, R729): the boundary was one of a frame. The frame's energy closes with the
evaluation that the boundary owes. -/
def execFrameTick (k : ChipId) (s : State) : Out :=
  let c := s.chip k
  occurs (c.running && c.tickDue) s (s.setChip k { c.frameTick with tickDue := false })

end Sys2Proof.Machine
end

