-- ==== Sys2Proof/Machine/HifOps.lean ====
section
/-! DEFINITION. The messages that HIF sends and the replies it takes (R607 to R612, R637), and its rings' disabling (R616):
the operations that the host interface's commands share. -/

namespace Sys2Proof.Machine

/-- HIF serves memory accesses of the host: the chip is out of reset, PERST_N is released, the function is in D0 (R252, R603). -/
def Chip.linkUp (c : Chip) : Bool := c.running && !c.hif.perst && !c.hif.d3

/-! ## FLUSHes before a fetch (R612) -/

/-- HIF's FLUSHes that wait for a tag are sent while one is free. -/
def Chip.pumpFlush (c : Chip) : Chip :=
  let out := c.hif.flushes.foldl (fun (acc : Chip × List HifFlush) x =>
    match x.tag with
    | some _ => (acc.1, acc.2 ++ [x])
    | none =>
      match acc.1.freeTags epHif with
      | [] => (acc.1, acc.2 ++ [x])
      | t :: _ => (acc.1.send { lane := .req, src := epHif, dst := x.ep, op := 0x04, tag := t }, acc.2 ++ [{ x with tag := some t }]))
    (c, [])
  out.1.onHif (fun h => { h with flushes := out.2 })

/-- A doorbell of ring `g` (R612): what BAR2 has written so far must be visible before a command fetched for it is handed
over. -/
def Chip.flushFor (c : Chip) (g : Nat) : Chip :=
  (c.onHif (fun h => { h with
    flushes := h.flushes.map (fun x => { x with rings := insertOnce x.rings g }) ++ h.wrote.map (fun e => { ep := e, rings := [g] })
    wrote := [] })).pumpFlush

/-- The RSP to a FLUSH: OK ends it; after any other STATUS it is sent again. -/
def Chip.flushRsp (c : Chip) (tag status : Nat) : Chip :=
  if status = 0 then c.onHif (fun h => { h with flushes := h.flushes.filter (fun x => x.tag != some tag) })
  else (c.onHif (fun h => { h with
    flushes := h.flushes.map (fun x => if x.tag = some tag then { x with tag := none } else x) })).pumpFlush

/-! ## BAR2 (R607 to R610) -/

/-- The pieces of `n` bytes from session-memory address `a`, cut at 256-byte boundaries: first byte and bytes (R607). -/
def pieces256 (fuel a n : Nat) : List (Nat × Nat) :=
  match fuel with
  | 0 => []
  | f + 1 =>
    if n = 0 then []
    else
      let m := min n (256 - a % 256)
      (a, m) :: pieces256 f (a + m) (n - m)

/-- The pieces of one TLP. -/
def tlpPieces (a n : Nat) : List (Nat × Nat) := pieces256 (n / 256 + 2) a n

/-- The first line and the number of lines of a piece. -/
def pieceLine (a : Nat) : Nat := a / 64 * 64
def pieceLines (a n : Nat) : Nat := (a + n - 1) / 64 - a / 64 + 1

/-- The WR of one piece of a BAR2 write (R196, R607): `at_` is the TLP's first byte, `data` and `en` its bytes. -/
def bar2Wr (at_ : Nat) (data : List Byte) (en : List Bool) (p : Nat × Nat) : Msg :=
  let la := pieceLine p.1
  let n := pieceLines p.1 p.2
  let here := fun (i : Nat) => decide (p.1 ≤ la + i) && decide (la + i < p.1 + p.2)
  { lane := .wr, src := epHif, dst := epMem (channelOf la), op := 0x01, addr := la, len := n
    data := (List.range (64 * n)).map (fun i => if here i then data.getD (la + i - at_) 0 else 0)
    en := (List.range (64 * n)).map (fun i => here i && en.getD (la + i - at_) true) }

/-- A BAR2 read whose RSPs have all come is answered (R609). -/
def Chip.answerReads (c : Chip) : Chip :=
  match c.hif.reads.find? (fun x => x.due.isEmpty) with
  | none => c
  | some x =>
    let bytes := Memory.read x.data x.addr x.len
    let ev : HostEvent := if x.status = 2 then .readPoisoned bytes else if x.status = 0 then .readOk bytes else .readAbort
    (c.onHif (fun h => { h with reads := h.reads.erase x, lastHost := some ev })).countAux 1 (ceilDiv x.len 64)

/-- The RSP to a READ of a BAR2 access joins the read: a poisoned one poisons it, another STATUS aborts it (R609). -/
def HostRead.take (x : HostRead) (tag : Nat) (m : Msg) : HostRead :=
  match x.due.find? (fun d => d.1 == tag) with
  | none => x
  | some (_, a, n) =>
    let status := if m.poison && m.status = 0 then 2 else m.status
    { x with
      due := x.due.filter (fun d => d.1 != tag)
      data := Memory.write x.data a (m.data.take (64 * n))
      status := if x.status = 0 || (x.status = 2 && status != 0) then status else x.status }

/-! ## The contribution inbox (R637) -/

/-- The COLLECT of an INBOX entry (Table HIF-7, Table OPS-8). -/
def InboxEntry.collect (x : InboxEntry) (tag : Nat) : Msg :=
  let f := fun (o n : Nat) => leNat ((x.bytes.drop o).take n)
  { lane := .req, src := epHif, dst := f 0 1, tag := tag, op := 0x03, len := f 7 1, addr := f 1 1 * 2 ^ 21
    arg := f 2 1 + f 3 1 * 2 ^ 4 + f 4 2 * 2 ^ 12 + f 6 1 * 2 ^ 28, data := (x.bytes.drop 64).take (64 * f 7 1) }

/-- INBOX entries that are neither in flight nor waiting are sent while a tag is free. -/
def Chip.pumpInbox (c : Chip) : Chip :=
  let out := c.hif.inbox.foldl (fun (acc : Chip × List InboxEntry) x =>
    if x.sent || x.waiting then (acc.1, acc.2 ++ [x])
    else match acc.1.freeTags epHif with
      | [] => (acc.1, acc.2 ++ [x])
      | t :: _ => (acc.1.send (x.collect t), acc.2 ++ [{ x with sent := true, tag := t }])) (c, [])
  out.1.onHif (fun h => { h with inbox := out.2 })

/-- The RSP to an INBOX entry's COLLECT: NOT_ARMED makes it wait for its resend; any other answer ends it (R637, R645). -/
def Chip.inboxRsp (c : Chip) (m : Msg) : Chip :=
  let again := m.status = 0 && field m.arg 0 4 = 1
  c.onHif (fun h => { h with
    inbox := if again then h.inbox.map (fun x => if x.sent && x.tag == m.tag then { x with sent := false, waiting := true } else x)
      else h.inbox.filter (fun x => !(x.sent && x.tag == m.tag)) })

/-- HIF takes an RSP (R609, R612, R637): it belongs to a FLUSH, a BAR2 read or an INBOX entry. -/
def Chip.hifRsp (c : Chip) (m : Msg) : Chip :=
  let c1 :=
    if c.hif.flushes.any (fun x => x.tag == some m.tag) then c.flushRsp m.tag m.status
    else if c.hif.inbox.any (fun x => x.sent && x.tag == m.tag) then c.inboxRsp m
    else (c.onHif (fun h => { h with reads := h.reads.map (fun x => x.take m.tag m) })).answerReads
  c1.pumpFlush.pumpInbox

/-! ## Rings (R616, R620) -/

/-- Completions of ring `g` on their way enter the hold, ahead of what it keeps (R620); F-HIF-06 for the first of the ring in
a frame. -/
def Chip.holdAll (c : Chip) (g : Nat) : Chip :=
  let xs := c.compQueue g
  if xs.isEmpty then c
  else
    (c.onSeq (fun q => { q with
      compOut := q.compOut.erase g, hold := xs.map (fun x => (g, x)) ++ q.hold, holdFault := insertOnce q.holdFault g })).faultIf
      (!c.seq.holdFault.contains g) .hif 6 g

/-- Ring `g` is disabled (R616): what it fetched and has not handed to an executor is discarded. -/
def Chip.disableRing (c : Chip) (g : Nat) : Chip :=
  (c.holdAll g).onRing g (fun r => { r with enable := false, handed := [] })

/-! ## Resets (R638) -/

/-- BAR2 reads are withdrawn (R516, R638): a READ not yet injected is forgotten; a VOID follows each of the others. -/
def Chip.voidReads (c : Chip) : Chip :=
  let due := c.hif.reads.flatMap (fun x => x.due)
  let waiting := fun (t : Nat) => (c.ep epHif).out.any (fun m => m.lane == .req && m.tag == t)
  let sent := due.filter (fun d => !waiting d.1)
  let gone := due.filter (fun d => waiting d.1)
  let c1 := (c.onEp epHif (fun x =>
    gone.foldl (fun x d => x.release d.1) { x with
      out := x.out.filter (fun m => !(m.lane == .req && due.any (fun d => d.1 == m.tag))) })).onQueue (injQ epHif .req) (fun q =>
        { q with waiting := q.waiting.filter (fun f => !gone.any (fun d => d.1 == f.msg.tag)) })
  let c2 := sent.foldl (fun (c : Chip) d =>
    (c.onEp epHif (fun x => x.release d.1)).send { lane := .wr, src := epHif, dst := epMem (channelOf d.2.1), op := 0x05, arg := d.1 }) c1
  c2.onHif (fun h => { h with reads := [] })

/-- What every event of R638 does at HIF. -/
def Chip.resetHif (c : Chip) : Chip :=
  let c1 := (List.range 16).foldl (fun (c : Chip) g => (c.disableRing g).onRing g (fun r =>
    { r with cmdBase := 0, cplBase := 0, cmdHead := 0, cmdTail := 0, cplTail := 0, cplHead := 0, phase := true })) c
  c1.voidReads.onHif (fun h => { h with
    winBase := 0, peers := {}, d3 := false, lastHost := none
    vectors := h.vectors.mapCells (fun _ x => { cause := x.cause, since := x.since })
    flushes := h.flushes.map (fun x => { x with rings := [] }) })

end Sys2Proof.Machine
end

