-- ==== Sys2Proof/Machine/Meter.lean ====
section
/-! DEFINITION. The meter ring (R574 to R582): the root's sweeps and half-chains, the pass of a frame by a bank node, a
chip node or the root, a broken sweep, and the bytes of the frame (R575). -/

namespace Sys2Proof.Machine

/-- The forward link out of node `n`, or the reverse one, has lock. -/
def MeterRing.locked (r : MeterRing) (n : Nat) (rev : Bool) : Bool :=
  !r.unlocked.contains (if rev then 17 + n % 17 else n)

/-- The turn node of a forward half: the first node whose outbound link has no lock, at most the turn node so far. -/
def MeterRing.forwardTurn (r : MeterRing) : Nat :=
  ((List.range 17).find? (fun n => n == r.turnF || !r.locked n false)).getD 16

/-- The turn node of a reverse half, 17 for the root itself: the first node on the way down from 16 whose outbound link
has no lock, at least the turn node so far. -/
def MeterRing.reverseTurn (r : MeterRing) : Nat :=
  (((List.range 17).map (fun i => 17 - i)).find? (fun n => n == r.turnR || !r.locked n true)).getD 1

/-- The bank nodes. -/
def bankNodes : List Nat := (List.range 8).map (fun n => 2 * n + 1)

/-- SWEEP_START (R24, R574, R579, R581, R582): at a boundary B that is a multiple of 100 the root sends SYNC and the
frame on each direction the sweep uses. -/
def Tray.startSweep (t : Tray) (b : Nat) : Tray :=
  let r0 := t.ring
  let half := r0.half && decide (r0.streak < 10000)
  let r : MeterRing := { r0 with
    turnF := if half then r0.forwardTurn else 0
    turnR := if half then r0.reverseTurn else 0 }
  let relay := if half && r.turnR == r.turnF + 1 && decide (r.turnF % 2 = 1) then r.turnF else 0
  { t with ring := { r with
      begun := true, half := half, broken := false, sweeping := true, boundary := b, relay := relay
      streak := if half then r.streak else 0
      unreachable := if half then r.unreachable else []
      passed := [], passedR := [], backF := [], backR := [], doneF := false, doneR := !half
      bank := {}, bankOk := {}, chipSlots := {}
      missed := r.missed.updateMany (fun _ => 0) bankNodes (fun _ n => n + 1)
      exch := t.exch, grants := (List.range 8).map (fun n => t.headerGrant n) } }

/-- SWEEP_START: a new root's first sweep is that of the first boundary after it took the role (R24), and no sweep starts before a
hot-swap controller has acted on the power-down sent to it in the gap (R21). -/
def execSweepStart (s : State) : Out :=
  match s.tray.role with
  | none => occurs false s s
  | some x =>
    let e := (s.tray.tmc x).time.epoch
    let r := s.tray.ring
    let acted := (List.range 8).all (fun n => !((s.tray.slot n).seq == .on && (s.tray.slot n).pendReq == some false))
    occurs (decide (e % 100 = 0) && !r.sweeping && (if r.begun then r.boundary != e else decide (r.roleAt < e)) && acted) s
      (s.onTray (fun t => t.startSweep e))

/-- How a node sees a frame: on its way out, on its way back after a turn, or not at all. -/
inductive PassKind where
  | out | back | none
deriving DecidableEq, Repr

/-- The pass of node `n` (1 to 16) that comes next on the frame of a direction (R18, R579): outbound in the order of the ring, and after
its turn the half's frame passes the same nodes in the opposite order. -/
def MeterRing.passKind (r : MeterRing) (n : Nat) (rev : Bool) : PassKind :=
  if !r.sweeping then .none
  else if !rev then
    if !r.doneF && n == r.passed.length + 1 && (!r.half || decide (n ≤ r.turnF)) && r.locked (n - 1) false then .out
    else if r.half && !r.doneR && r.passedR.length == 17 - r.turnR && n == r.turnR + 1 + r.backR.length && r.locked (n - 1) false then .back
    else .none
  else
    if r.half && !r.doneR && n + r.passedR.length == 16 && decide (r.turnR ≤ n) && r.locked (n + 1) true then .out
    else if r.half && !r.doneF && r.passed.length == r.turnF && n + 1 + r.backF.length == r.turnF && r.locked (n + 1) true then .back
    else .none

/-- The frame has passed node `n`, outbound or on its way back. -/
def MeterRing.mark (r : MeterRing) (n : Nat) (rev out : Bool) : MeterRing :=
  match rev, out with
  | true, true => { r with passedR := r.passedR ++ [n] }
  | false, true => { r with passed := r.passed ++ [n] }
  | true, false => { r with backF := r.backF ++ [n] }
  | false, false => { r with backR := r.backR ++ [n] }

/-- DEMAND of the chip (R555). -/
def Chip.demandNow (c : Chip) : Nat := min (c.stew.needs.sum / 1000000) c.img.nowA.cap

/-- The estimate of the five rail groups that the chip latched at B (R574), in nJ. -/
def Chip.latchedEst (c : Chip) (b : Nat) : List Nat :=
  ((c.stew.staged.find? (fun x => x.at_ == b)).map (fun x => x.est)).getD [0, 0, 0, 0, 0]

/-- The report of a chip node in the sweep of boundary `b` (Table NRG-4): DEMAND, CAP, URGENCY, ACK, FLAGS and EST. -/
def Chip.report (c : Chip) (b : Nat) : List Nat :=
  [c.demandNow, c.img.nowA.cap, c.stew.urgency, c.stew.ack,
   flag c.clk.holdover + 2 * flag c.stew.coolantStop + 4 * flag c.bru.ready] ++ c.latchedEst b

/-- The measured energies of a bank slot join the staged sweep that ends at B (R577): a valid slot of SPAN 1. -/
def Chip.takeBank (c : Chip) (b : Nat) (slot : List Nat) : Chip :=
  if slot.getD 5 0 = 1 then
    c.onStew (fun w => { w with staged := w.staged.map (fun x =>
      if x.at_ / 100 % 2 ^ 32 = b / 100 % 2 ^ 32 then { x with got := (List.range 5).map (fun g => some (slot.getD g 0)) }
      else x) })
  else c

/-- The header's grant frame reaches the chip in slot `n` (R557, R558). -/
def Chip.takeGrant (c : Chip) (g x b : Nat) : Chip :=
  c.noting (c.onStew (fun w => { w with
    grantAge := 0, grantStale := false, sweep := b / 100 % 2 ^ 32
    grantNew := if g = w.grant then none else some (g, x) }))

/-- What the chip of node `node` reads of the frame (R576): its bank's slot, or the relay section. -/
def Chip.readFrame (c : Chip) (r : MeterRing) (node : Nat) : Chip :=
  let n := (node - 2) / 2
  let c1 := c.takeGrant (r.grants.getD n 0) r.exch r.boundary
  match Bank.look r.bank.cells (node - 1) with
  | some slot => if r.bankOk.get true (node - 1) then c1.takeBank r.boundary slot else c1.fault .nrg 6 noInstance
  | none =>
    if r.relay = node - 1 then
      match Bank.look r.prevBank.cells (node - 1) with
      | some slot => c1.takeBank (r.boundary - 100) slot
      | none => c1
    else c1

/-- The frame passes node `node`, which is no root. A bypassed module lets it through (R19). -/
def State.passNode (s : State) (node : Nat) (rev out : Bool) (meas mv : List Nat) (crcOk : Bool) : State :=
  let r := s.tray.ring
  let r1 := r.mark node rev out
  if node % 2 = 1 then
    s.onTray (fun t => { t with ring := if out then { r1 with
      bank := r1.bank.set node (meas.take 5 ++ [r1.missed.get 0 node] ++ mv.take 4)
      bankOk := r1.bankOk.set node crcOk, mv := r1.mv.set node mv, missed := r1.missed.set node 0 } else r1 })
  else
    let n := (node - 2) / 2
    let c := s.chip n
    if (s.tray.slot n).bypass || !c.running then s.onTray (fun t => { t with ring := r1 })
    else
      let c1 := if out then c.onStew (fun w => { w with demand := c.demandNow }) else c
      let c2 := if crcOk then c1.readFrame r node else c1.fault .nrg 6 noInstance
      (s.setChip n c2).onTray (fun t => { t with ring :=
        if out then { r1 with chipSlots := r1.chipSlots.set n (c.report r.boundary) } else r1 })

/-! ## The bytes of the frame (R575, Table NRG-4) -/

/-- One bit of CRC-16 with polynomial 0x1021. -/
def crc16Bit (v : Nat) : Nat := if v / 32768 % 2 = 1 then Nat.xor (v * 2 % 65536) 0x1021 else v * 2 % 65536

/-- One byte of CRC-16. -/
def crc16Byte (v : Nat) (b : Byte) : Nat :=
  crc16Bit (crc16Bit (crc16Bit (crc16Bit (crc16Bit (crc16Bit (crc16Bit (crc16Bit (Nat.xor v (b.toNat * 256)))))))))

/-- CRC-16 with polynomial 0x1021 and initial value 0xFFFF (R575). -/
def crc16 (bs : List Byte) : Nat := bs.foldl crc16Byte 0xFFFF

/-- A part of 32 bytes: 30 bytes and their CRC (R575). -/
def framePart (bs : List Byte) : List Byte := bs ++ natLE 2 (crc16 bs)

/-- TURN of the frame on direction `rev` when it has turned: the turn node and the lock of its outbound link; 0 in a full sweep. -/
def MeterRing.turnByte (r : MeterRing) (rev : Bool) : Nat :=
  if !r.half then 0
  else if rev then r.turnR % 32 + 128 * flag (r.locked r.turnR true) else r.turnF % 32 + 128 * flag (r.locked r.turnF false)

/-- The header. -/
def MeterRing.header (r : MeterRing) (rev : Bool) : List Byte :=
  framePart (natLE 4 (r.boundary / 100 % 2 ^ 32) ++ natLE 1 (if !r.half then 0 else if rev then 2 else 1) ++ natLE 1 (r.turnByte rev) ++
    natLE 1 r.relay ++ natLE 7 r.exch ++ (List.range 8).flatMap (fun n => natLE 2 (r.grants.getD n 0)))

/-- A bank slot: five energies, four voltages and SPAN. A slot that no bank node has filled holds zeros. -/
def bankSlot (x : List Nat) : List Byte :=
  framePart ((List.range 5).flatMap (fun i => natLE 4 (x.getD i 0)) ++ (List.range 4).flatMap (fun i => natLE 2 (x.getD (6 + i) 0)) ++
    natLE 1 (x.getD 5 0) ++ natLE 1 0)

/-- A chip slot: DEMAND, CAP, URGENCY, ACK, FLAGS and EST. A slot that no chip has filled holds zeros. -/
def chipSlot (x : List Nat) : List Byte :=
  framePart (natLE 2 (x.getD 0 0) ++ natLE 2 (x.getD 1 0) ++ natLE 1 (x.getD 2 0) ++ natLE 1 (x.getD 3 0) ++ natLE 1 (x.getD 4 0) ++
    natLE 1 0 ++ (List.range 5).flatMap (fun i => natLE 4 (x.getD (5 + i) 0)) ++ natLE 2 0)

/-- The 576 bytes of the frame on direction `rev` as its parts are sent with its slots as they stand (Table NRG-4): the header, the relay section and the slots of
nodes 1 to 16. -/
def MeterRing.frame (r : MeterRing) (rev : Bool) : List Byte :=
  r.header rev ++ bankSlot (if r.relay = 0 then [] else r.prevBank.get [] r.relay) ++
  (List.range 8).flatMap (fun n => bankSlot (r.bank.get [] (2 * n + 1)) ++ chipSlot (r.chipSlots.get [] n))

/-- Every falling grant of the exchange has been acknowledged (R557). -/
def Tray.allAcked (t : Tray) : Bool :=
  (List.range 8).all (fun n =>
    let x := t.slot n
    !(decide (x.grant < x.grantPrev) && x.counted) || x.ackRep == t.exch / 10000 % 256)

/-- The chip reports that came back to the root (R555, R556). -/
def Tray.takeReports (t : Tray) : Tray :=
  t.ring.chipSlots.cells.foldl (fun t e => t.onSlot e.1 (fun x => { x with
    dem := e.2.getD 0 0, capRep := e.2.getD 1 0, urg := e.2.getD 2 0, ackRep := e.2.getD 3 0, reported := true })) t

/-- A sweep has ended: every frame of it has returned. The turn bytes count toward a return to full sweeps (R582), the
nodes between the turn nodes are unreachable (R580: F-NRG-02). -/
def Tray.endSweep (t : Tray) (epoch : Nat) : Tray :=
  let r := t.ring
  let gone := if r.half then (List.range 17).filter (fun n => decide (r.turnF < n) && decide (n < r.turnR)) else []
  let lock := r.half && r.locked r.turnF false && r.locked r.turnR true
  let t1 := { t with ring := { r with
    sweeping := false, prevBank := { cells := r.bank.cells.filter (fun e => r.bankOk.get true e.1) }
    unreachable := gone, streak := if lock then r.streak + 1 else 0 } }
  let t2 := if gone.isEmpty then t1.clearFault .nrg 2 noInstance
    else if gone = r.unreachable then t1 else t1.fault .nrg 2 noInstance
  { t2 with acked := t2.acked || (decide (epoch ≤ t2.exch + 2500) && t2.allAcked) }

/-- The frame returns to the root on direction `rev` (R18, R574, R579), once it has passed every node of its way: none when it is not
due. -/
def MeterRing.return_ (r : MeterRing) (rev : Bool) : Option MeterRing :=
  if !r.sweeping then none
  else if !r.half then
    if !rev && !r.doneF && r.passed.length == 16 && r.locked 16 false then some { r with doneF := true } else none
  else if rev then
    if !r.doneF && r.passed.length == r.turnF && r.backF.length == r.turnF - 1 && (r.turnF == 0 || r.locked 1 true)
    then some { r with doneF := true } else none
  else
    if !r.doneR && r.passedR.length == 17 - r.turnR && r.backR.length == 16 - r.turnR && (r.turnR == 17 || r.locked 16 false)
    then some { r with doneR := true } else none

/-- METER_FRAME_PASS (R574 to R582, R555, R600): the frame on direction `rev` passes node `node`; node 0 is its return
to the root. `meas` and `mv` are what a bank node has latched; `crcOk` says that the parts arrive unharmed. -/
def execMeterFramePass (node : NodeId) (rev : Bool) (meas mv : List Nat) (crcOk : Bool) (s : State) : Out :=
  match s.tray.role with
  | none => occurs false s s
  | some x =>
    if node.val = 0 then
      match s.tray.ring.return_ rev with
      | none => occurs false s s
      | some r =>
        let t0 := { s.tray with ring := r }
        let t1 := if crcOk then t0.takeReports else t0.fault .nrg 6 noInstance
        let t2 := if r.doneF && r.doneR then t1.endSweep (t1.tmc x).time.epoch else t1
        .next { s with tray := t2 }
    else
      match s.tray.ring.passKind node rev with
      | .none => occurs false s s
      | .out => .next (s.passNode node rev true meas mv crcOk)
      | .back => .next (s.passNode node rev false meas mv crcOk)

/-- SWEEP_BROKEN (R578, R579): a frame has not returned within 20 µs of B. F-NRG-01, half-chains from the next sweep. -/
def execSweepBroken (s : State) : Out :=
  match s.tray.role with
  | none => occurs false s s
  | some x =>
    let r := s.tray.ring
    let lastF := r.passed.length
    let lastR := 17 - r.passedR.length
    let r1 : MeterRing := { r with
      half := true, broken := true, sweeping := false, streak := 0
      turnF := if r.doneF then r.turnF else if r.half then min r.turnF lastF else lastF
      turnR := if r.half then (if r.doneR then r.turnR else max r.turnR lastR) else lastF + 1
      prevBank := {} }
    occurs (r.sweeping && decide (r.boundary + 20 ≤ (s.tray.tmc x).time.epoch)) s
      { s with tray := ({ s.tray with ring := r1 }).fault .nrg 1 noInstance }

end Sys2Proof.Machine
end

