-- ==== Sys2Proof/Machine/Power.lean ====
section
/-! DEFINITION. The commands of chapter 13: the evaluation of the cap (R529 to R541), heat (R546 to R550), the coolant
stop (R551 to R554), the grants (R556 to R558), and the Stirrer's evaluation that follows the Steward's (R592). -/

namespace Sys2Proof.Machine

/-! ## Sharing the cap (R536, R537) -/

/-- The order that code `n` names (R536), highest first: classes 0 HIF, 1 MEM, 2 SPINE, 3 COMPUTE. -/
def orderOf (n : Nat) : List Nat :=
  let l := [0, 1, 2, 3]
  let a := l.getD (n / 6) 0
  let l1 := removeAll l a
  let b := l1.getD (n % 6 / 2) 0
  let l2 := removeAll l1 b
  let d := l2.getD (n % 2) 0
  [a, b, d] ++ removeAll l2 d

/-- The procedure of R537 over the classes still to serve, with `rest` W left: each class with its allowance. -/
def allowances (floor d : Nat → Nat) (order : List Nat) (rest : Nat) : List (Nat × Nat) :=
  match order with
  | [] => []
  | x :: t =>
    let lf0 := (t.map floor).sum
    let lf := if rest < lf0 + floor x then rest - floor x else lf0
    let a := if x = 3 then rest - lf else max (min (floor x) rest) (min (d x) (rest - lf))
    (x, a) :: allowances floor d t (rest - a)

/-- The allowance of class `x` in the answer of R537. -/
def allowOf (l : List (Nat × Nat)) (x : Nat) : Nat := ((l.find? (fun e => e.1 == x)).map (fun e => e.2)).getD 0

/-- The energy of class `x` in an interval. -/
def ClassNj.ofClass (n : ClassNj) (x : Nat) : Nat := match x with | 0 => n.hif | 1 => n.mem | 2 => n.spine | _ => n.compute

/-- The window energy of class `x` (PWR.CLASS[x].WINDOW). -/
def Stew.windowOf (w : Stew) (x : Nat) : Nat := (w.window.map (fun n => n.ofClass x)).sum

/-- The window's total energy. -/
def Stew.windowTotal (w : Stew) : Nat := (w.window.map ClassNj.total).sum

/-- The interval that leaves the window next; intervals before the start count as zero (R530). -/
def Stew.oldest (w : Stew) : Nat := if w.window.length < 100 then 0 else ((w.window.getLast?).map ClassNj.total).getD 0

/-- The floor of class `x` in force. -/
def ClassA.floorOf (a : ClassA) (x : Nat) : Nat := match x with | 0 => a.floorHif | 1 => a.floorMem | 2 => a.floorSpine | _ => 0

/-! ## K_CAP (R539) -/

/-- What R539 reads of one running region. -/
structure CapRegion where
  region : Nat
  full : Nat
  shareMem : Nat
  shareSpine : Nat
  charge : Nat := 0
deriving DecidableEq, Repr

/-- The regions whose generators run, with `full` and the counts of the window. -/
def Chip.capRegions (c : Chip) (ec : List Nat) : List CapRegion :=
  (allRegions.filter (fun r => c.clockRuns r)).map (fun r =>
    let x := c.region r
    { region := r, full := ec.getD r 0 * 16 / x.kNow
      shareMem := (x.memBursts.take 100).sum, shareSpine := (x.spineFlits.take 100).sum })

/-- The count of class `x` (1 MEM, 2 SPINE) of a region. -/
def CapRegion.share (x : CapRegion) (cls : Nat) : Nat := match cls with | 1 => x.shareMem | 2 => x.shareSpine | _ => 0

/-- One class after COMPUTE takes its part of the cut (R539). -/
def takeCut (d a : Nat → Nat) (acc : Nat × List CapRegion) (x : Nat) : Nat × List CapRegion :=
  let tot := (acc.2.map (fun r => r.share x)).sum
  let take := if a x < d x && 0 < tot then min acc.1 ((d x - a x) * 10000) else 0
  (acc.1 - take, acc.2.map (fun r => { r with charge := r.charge + (take * r.share x) / tot }))

/-- The classes ranked after COMPUTE, without HIF. -/
def afterCompute (order : List Nat) : List Nat := ((order.dropWhile (fun x => x != 3)).drop 1).filter (fun x => x != 0)

/-- The charges of R539 for a budget and a need. -/
def charges (order : List Nat) (d a : Nat → Nat) (budget : Int) (rs : List CapRegion) : List CapRegion :=
  let need : Nat := (rs.map (fun r => r.full)).sum
  if budget < (need : Int) then
    let cut : Nat := need - budget.toNat
    let (rest, rs1) := (afterCompute order).foldl (takeCut d a) (cut, rs)
    rs1.map (fun r => { r with charge := r.charge + (rest * r.full) / need })
  else rs

/-- The step that R539 gives a region before the limit of R535. -/
def CapRegion.step (r : CapRegion) : Nat :=
  if r.full = 0 then 16 else max 1 (min 16 ((16 * (r.full - r.charge)) / r.full))

/-! ## Heat in the evaluation (R547) -/

/-- What R547 reads of a region: its temperature, or 95.0 °C while its sensor is faulty (R550). -/
def Region.heat (x : Region) : Int := if x.sensorBad then 380 else x.temp

/-- K_THERM at an evaluation (R547). -/
def Region.heatStep (x : Region) : Region :=
  if 380 ≤ x.heat then
    let n := x.hotEvals + 1
    { x with hotEvals := n % 10, kTherm := if n % 10 = 0 then max 1 (x.kTherm - 1) else x.kTherm }
  else if x.heat ≤ 368 then
    let n := x.coolEvals + 1
    { x with coolEvals := n % 100, kTherm := if n % 100 = 0 then min 16 (x.kTherm + 1) else x.kTherm }
  else x

/-! ## The Steward's and the Stirrer's evaluation -/

/-- P_EFF at an evaluation (R530, R560); a decrease starts the 1 ms of R541. -/
def Chip.takeCap (c : Chip) : Chip :=
  let p := min c.img.nowA.cap c.stew.grant
  c.onStew (fun w => { w with effCap := p, effDrop := if p < w.effCap then 0 else w.effDrop })

/-- The window after the interval `v` (R530). -/
def Chip.pushWindow (c : Chip) (v : Interval) : Chip :=
  c.onStew (fun w => { w with window := (v.nj :: w.window).take 100 })

/-- The allowances and K_CAP (R537 to R541), with the demand of R555 for the window. -/
def Chip.capStep (c : Chip) (v : Interval) : Chip :=
  let w := c.stew
  let a := c.img.nowA
  let order := orderOf a.order
  let d := fun (x : Nat) => w.windowOf x / 1000000
  let al := allowances a.floorOf d order w.effCap
  let clipped := decide (w.effCap < a.floorHif + a.floorMem + a.floorSpine)
  let rs := c.capRegions v.ec
  let need := (rs.map (fun r => r.full)).sum
  let other := v.nj.hif + v.nj.mem + v.nj.spine
  let budget : Int := (w.effCap * 1000000 : Nat) - ((w.windowTotal - w.oldest : Nat) : Int) - other
  let out := charges order d (allowOf al) budget rs
  let c1 := out.foldl (fun c r => c.onRegion r.region (fun x => { x with kCap := min r.step (x.kCap + 1) })) c
  let above := !out.isEmpty && out.all (fun r => (c1.region r.region).kCap == 1) &&
    decide (w.effCap * 1000000 < w.windowTotal) && decide (1000 ≤ w.effDrop)
  let c2 := c1.onStew (fun w => { w with
    allow := (List.range 4).map (fun x => allowOf al x)
    floorClipped := clipped
    needs := ((other + need) :: w.needs).take 100
    overCount := if above then satAdd 32 w.overCount 1 else w.overCount
    overFault := w.overFault || above })
  (c2.faultIf (clipped && !w.floorClipped) .pwr 7 noInstance).faultIf (above && !w.overFault) .pwr 1 noInstance

/-- The heat of every region (R547), the issue steps (R534) and the throttled intervals (Table PWR-4). -/
def Chip.heatAll (c : Chip) : Chip :=
  let c1 := c.forRegions allRegions (fun c r => c.onRegion r (fun x =>
    let y := if x.kNow < 16 then { x with throttled := satAdd 64 x.throttled 1 } else x
    let z := y.heatStep
    { z with kNow := min z.kCap z.kTherm }))
  let hot := allRegions.any (fun r => decide (380 ≤ (c.region r).heat))
  (c1.onStew (fun w => { w with softFault := w.softFault || hot })).faultIf (hot && !c.stew.softFault) .pwr 2 noInstance

/-- The Stirrer after the Steward (R592, R595, R596, R601). -/
def Chip.stir (c : Chip) (v : Interval) (capFill : Nat) : Chip :=
  let w := c.stew
  let a := c.img.nowA
  if a.stirMode = 0 || w.coolantStop then c.onStew (fun w => { w with stirFloor := 0, stirFill := 0 })
  else
    let tgt := if a.stirMode = 1 then a.stirPct * w.pframe / 100 else a.stirPct * (w.windowTotal / 1000) / 100
    let fl := min (max tgt (w.stirFloor - a.stirDecay * a.cap / 100)) (900 * w.effCap)
    let deficit := fl * 10 - v.work
    let f := if deficit = 0 || capFill = 0 then 0 else min 16 ((16 * deficit + capFill - 1) / capFill)
    let f1 := if w.frames = 0 then 0 else f
    c.onStew (fun w => { w with
      stirFloor := fl, stirFill := f1
      stirShort := if f1 = 16 && capFill < deficit then satAdd 32 w.stirShort 1 else w.stirShort })

/-- POWER_EVALUATION (R529, R531, R567, R574, R592): the interval that ends at this epoch boundary. -/
def execPowerEvaluation (k : ChipId) (act : Activity) (s : State) : Out :=
  let c := s.chip k
  let v := c.interval act
  let c1 := ((c.addInterval v).countIdle act).onStew (fun w => { w with evalDue := false })
  let c2 := ((c1.takeCap).pushWindow v).capStep v
  let c3 := if c2.stew.frameEnd then c2.closeFrame else c2
  let c4 := (c3.heatAll.stir v (c.capFill act)).clearInterval
  let c5 := if c.time.epoch % 100 = 0 then c4.latchSweep else c4
  occurs (c.running && c.stew.evaluating && c.stew.evalDue) s (s.setChip k (c.noting c5))

/-! ## Temperature samples and trips (R546 to R550) -/

/-- One sample of a region's sensor (R548 to R550), in quarters of a degree; the Boolean: the sensor becomes faulty. -/
def Region.sample (x : Region) (t : Int) : Region × Bool :=
  let ok := decide (-80 ≤ t) && decide (t ≤ 600) && (!x.sampled || decide ((t - x.temp).natAbs ≤ 80))
  let reading := max (-2048) (min 2047 t)
  let y := { x with temp := reading, tempPeak := max x.tempPeak reading, sampled := true }
  if !ok then ({ y with sensorBad := true, validRun := 0, hotRun := 0, coldRun := 0 }, !x.sensorBad)
  else if x.sensorBad then
    let n := x.validRun + 1
    ({ y with validRun := n, sensorBad := decide (n < 1000), hotRun := 0, coldRun := 0 }, false)
  else
    ({ y with hotRun := if 440 ≤ t then x.hotRun + 1 else 0, coldRun := if t < 340 then x.coldRun + 1 else 0 }, false)

/-- The G3 trips region `r` (R548, R563): its generator, or its gang's master, halts, `pos` ticks into the epoch and after `cycles` of
it, and MGT isolates every halted region. A generator that is OFF stays OFF. -/
def Chip.trip (c : Chip) (r pos : Nat) (cycles : List Nat) : Chip :=
  let m := c.clockOwner r
  let rs := c.clockedBy m
  let c1 := if (c.gen m).state = .off then c else c.haltGen m pos cycles .trip
  let c2 := c1.forRegions rs (fun c x => c.onRegion x (fun y => { y with tripped := true }))
  let c3 := c2.forRegions rs (fun c x => if (c.region x).isoSinkOn then c else c.isolate x)
  c3.fault .pwr 3 r

/-- TEMP_SAMPLE (R546, R548, R550): `pos` and `cycles` are the tick of the epoch and the cycles of each region until then. -/
def execTempSample (k : ChipId) (temps : List Int) (pos : Nat) (cycles : List Nat) (s : State) : Out :=
  let c := s.chip k
  let c1 := c.forRegions allRegions (fun c r =>
    let (x, bad) := (c.region r).sample (temps.getD r (c.region r).temp)
    (c.setRegion r x).faultIf bad .pwr 6 r)
  let c2 := c1.forRegions allRegions (fun c r =>
    if 2 ≤ (c.region r).hotRun && !(c.region r).tripped then c.trip r pos cycles else c)
  occurs c.running s (s.setChip k (c.noting c2))

/-- TRIP_RESTART (R549): every region that generator `r` clocks has read below 85.0 °C for 100,000 samples, and
COOLANT_STOP_N is high. -/
def execTripRestart (k : ChipId) (r : RegionId) (s : State) : Out :=
  let c := s.chip k
  let rs := c.clockedBy r
  let cold := rs.all (fun x => decide (100000 ≤ (c.region x).coldRun))
  let c1 := c.forRegions rs (fun c x => (c.onRegion x (fun y => { y with tripped := false })).onGen x Gen.reloop)
  let c2 := c1.onGen r (fun g => if g.state = .halted then g.enterCal else g)
  occurs (c.running && (c.region r).tripped && c.clockOwner r == r.val && cold && !c.stew.coolantStop && !c.stew.resuming &&
    !(s.tray.slot k).coolantN) s (s.setChip k (c.noting c2))

/-! ## The coolant stop (R551 to R554) -/

/-- A generator at a coolant stop (R551, R139): one that runs halts; one that a trip holds stays so (R563). -/
def Gen.coolantHalt (g : Gen) : Gen :=
  match g.state with
  | .cal => g.haltFor .coolant | .locking => g.haltFor .coolant | .locked => g.haltFor .coolant
  | .slew => g.haltFor .coolant | .frozen => g.haltFor .coolant
  | .off => g | .slaved => g | .halted => g

/-- COOLANT_STOP (R260, R551, R552, R596): COOLANT_STOP_N has been low for 1 µs, `pos` ticks into the epoch and after
`cycles` of it. Before READY the chip enters FAILED. -/
def execCoolantStop (k : ChipId) (ns pos : Nat) (cycles : List Nat) (s : State) : Out :=
  let c := s.chip k
  let c0 := c.forRegions allRegions (fun d r => d.closeLedger r pos (cycles.getD r 0))
  let c1 := (c0.mapGens (fun _ g => g.coolantHalt)).onStew (fun w => { w with
    coolantStop := true, resuming := false, stirFloor := 0, stirFill := 0 })
  let c2 := (c1.fault .pwr 4 noInstance).abortAll
  let c3 := c2.forRegions allRegions (fun c r => c.onRegion r (fun x =>
    match x.status with
    | .serving => { x with status := .out, awaitLock := true }
    | .out => { x with awaitLock := true }
    | .retired => x | .isolated => x))
  let c4 := if c.bru.ready then c3
    else ((c3.onBru (fun b => { b with phase := .failed, stuck := true })).fault .bru 11 noInstance).cause 18
  occurs (c.running && (s.tray.slot k).coolantN && decide (1000 ≤ ns) && !c.stew.coolantStop) s (s.setChip k (c.noting c4))

/-- COOLANT_STOP_RELEASE (R554, R545): COOLANT_STOP_N is high again; the Steward sets each island to its point for the M
in force. A chip that FAILED before READY resumes nothing (R260). -/
def execCoolantStopRelease (k : ChipId) (s : State) : Out :=
  let c := s.chip k
  let c1 := c.onStew (fun w => { w with coolantStop := false })
  let c2 := if c.bru.ready then (c1.setIslands c.clk.mNow).onStew (fun w => { w with resuming := true, resumeAge := 0 }) else c1
  occurs (c.running && c.stew.coolantStop && !(s.tray.slot k).coolantN) s (s.setChip k (c.noting c2))

/-- COOLANT_RESUME_START (R554, R562): 50 µs later every generator leaves HALTED for CAL, but for those that a trip
holds. -/
def execCoolantResumeStart (k : ChipId) (s : State) : Out :=
  let c := s.chip k
  let c1 := c.mapGens (fun _ g =>
    match g.state with
    | .halted => if g.halt = .trip then g else g.enterCal
    | .slaved => g.reloop
    | .off => g | .cal => g | .locking => g | .locked => g | .slew => g | .frozen => g)
  occurs (c.running && c.stew.resuming && decide (50 ≤ c.stew.resumeAge)) s
    (s.setChip k (c1.onStew (fun w => { w with resuming := false, resumeAge := 0 })))

/-! ## The tray budget exchange (R556 to R558) -/

/-- GRANT_EXCHANGE (R556, R558, R559): the active TMC divides the budget at an epoch that is a multiple of 10,000. -/
def execGrantExchange (s : State) : Out :=
  match s.tray.role with
  | none => occurs false s s
  | some x =>
    let e := (s.tray.tmc x).time.epoch
    occurs (decide (e % 10000 = 0) && (s.tray.exch != e || e == 0) && !s.tray.poweredSlots.isEmpty) s
      (s.onTray (fun t => t.exchange e t.poweredSlots))

/-- GRANT_FALL_APPLY (R557 step 1): at X + 2,000 a falling grant applies; ACK is the low 8 bits of X div 10,000. -/
def execGrantFallApply (k : ChipId) (s : State) : Out :=
  let c := s.chip k
  match c.stew.grantNew with
  | none => occurs false s s
  | some (g, x) =>
    occurs (c.running && decide (g < c.stew.grant) && decide (x + 2000 ≤ c.time.epoch)) s
      (s.setChip k (c.onStew (fun w => { w with grant := g, grantNew := none, ack := x / 10000 % 256 })))

/-- GRANT_RISE_APPLY (R557 step 2): at X + 3,000 a rising grant applies. The TMC sends no rise while an acknowledgement
is missing (step 3). -/
def execGrantRiseApply (k : ChipId) (s : State) : Out :=
  let c := s.chip k
  match c.stew.grantNew with
  | none => occurs false s s
  | some (g, x) =>
    occurs (c.running && decide (c.stew.grant ≤ g) && decide (x + 3000 ≤ c.time.epoch)) s
      (s.setChip k (c.onStew (fun w => { w with grant := g, grantNew := none })))

/-- GRANT_STALE (R558): no grant frame for 30 ms; the chip keeps its grant, F-PWR-05. -/
def execGrantStale (k : ChipId) (s : State) : Out :=
  let c := s.chip k
  occurs (c.running && decide (30000 ≤ c.stew.grantAge) && !c.stew.grantStale) s
    (s.setChip k (c.noting ((c.onStew (fun w => { w with grantStale := true })).fault .pwr 5 noInstance)))

end Sys2Proof.Machine
end

