-- ==== Sys2Proof/Machine/HifRegs.lean ====
section
/-! DEFINITION. BAR0: the register map of R604 and R605 over every register table of the spec, and the value that each
register reads as (R6, R10, R140). -/

namespace Sys2Proof.Machine

/-- The registers of BAR0, in the order of R605. -/
inductive Reg where
  | dieConfig | dieState | dieIdent
  | bruStatus | bruBoot | bruCtrl | bruReadyEpoch | bruGen | bruResult | bruSelftest
  | clkStep | clkStepNow | clkStatus | clkRefCtrl | clkFrame | clkEpoch | clkTick | clkEpochLoad | clkEpochLoadArm
  | clkPpsOffset | clkPpsSpurious
  | genState | genNominal8 | genActual | genStretch | genDeepest | genSkew
  | xngFixedTo | xngFixedToNow | xngLat | xngLinkT | xngCal | xngWdogAge | xngDetViol | xngDiscard | xngIsoSink
  | xngFixDiscard
  | spnStatus | spnCtrl | spnFlits | spnCorr | spnUncorr | spnReserved | spnRsvStall | spnTagDrop | spnResync
  | imgCtrl | imgCommitEpoch | imgStageSlot | imgStatus | imgResult | imgAppliedEpoch | imgCommitCount
  | imgRollSkipped
  | tilFlags | tilCe | tilUe | tilUeAddr | tilResidue | tilPosFail | tilAddrErr
  | opsPc | opsLastErr | opsSlotState | opsStaleDrop | opsRetry
  | evtCtr | evtOwner | evtSat | evtWaiters | evtWaitPeak | evtPoolFull | evtDenied
  | selDefault | selDefaultNow | selLast | selLastSegment | selPasses | selTagSkip | selFlags
  | seqClass | seqClassNow | seqCtrl | seqCtrlNow | seqModel | seqCapacity | seqRequired | seqShortfall | seqOverflow
  | seqSpillSlots | seqAdmit | seqAdmitted | seqReady | seqLate | seqMismatch | seqHeapDepth | seqItems
  | seqCacheMiss | seqTile
  | arbSlot | arbSlotNow | arbCtrl | arbCtrlNow | arbLoser | arbLoserNow | arbSpillBase | arbSpillLimit | arbWait
  | arbBackoff | arbStarve | arbStore | arbShelf | arbShelfPeak | arbShelfFull | arbGrants | arbForced | arbDead
  | arbUnavail
  | memLinkCe | memLinkUe | memEcs
  | pwrCap | pwrCapNow | pwrOrder | pwrOrderNow | pwrFloor | pwrFloorNow | pwrGrantNow | pwrEffCap | pwrUrgency
  | pwrDemand | pwrWindow | pwrAllow | pwrK | pwrTemp | pwrTempPeak | pwrThrottled | pwrOver | pwrStatus | pwrVf
  | pwrIslandV
  | stirCtrl | stirCtrlNow | stirFloor | stirFill | stirShort
  | nrgGainNow | nrgCoef | nrgStatic | nrgLkg | nrgAuxCoef | nrgAuxStatic | nrgMeasured | nrgBooked | nrgMissing
  | nrgPart | nrgClass | nrgSpec | nrgSweep
  | hifRingEntries | hifIrqCoalesce | hifIrqCoalesceNow | hifCmdBase | hifCplBase | hifRingCtrl | hifCmdHead
  | hifCplTail | hifHold | hifWinBase | hifP2pPeer | hifFlashCtrl | hifFlashStatus | hifFaultCount | hifFaultLog
  | hifBadAccess | hifDbDrop | hifP2pDrop
  | flashBuf
  | msixTable
  | msixPba
deriving DecidableEq, Repr

/-- A register's place in its block: the number of its instances, the bytes of one (R605). -/
structure RegRow where
  reg : Reg
  count : Nat
  size : Nat

/-- Tables DIE-5 to DIE-7. -/
def rowsDie : List RegRow :=
  [⟨.dieConfig, 72, 4⟩, ⟨.dieState, 72, 4⟩, ⟨.dieIdent, 1, 4⟩]

/-- Table BRU-7. -/
def rowsBru : List RegRow :=
  [⟨.bruStatus, 1, 4⟩, ⟨.bruBoot, 1, 4⟩, ⟨.bruCtrl, 1, 4⟩, ⟨.bruReadyEpoch, 1, 8⟩, ⟨.bruGen, 2, 4⟩,
   ⟨.bruResult, 2, 4⟩, ⟨.bruSelftest, 72, 4⟩]

/-- Table CLK-8. -/
def rowsClk : List RegRow :=
  [⟨.clkStep, 1, 4⟩, ⟨.clkStepNow, 1, 4⟩, ⟨.clkStatus, 1, 4⟩, ⟨.clkRefCtrl, 1, 4⟩, ⟨.clkFrame, 1, 4⟩,
   ⟨.clkEpoch, 1, 8⟩, ⟨.clkTick, 1, 8⟩, ⟨.clkEpochLoad, 1, 8⟩, ⟨.clkEpochLoadArm, 1, 4⟩, ⟨.clkPpsOffset, 1, 4⟩,
   ⟨.clkPpsSpurious, 1, 4⟩]

/-- Table CLK-9. -/
def rowsGen : List RegRow :=
  [⟨.genState, 72, 4⟩, ⟨.genNominal8, 72, 8⟩, ⟨.genActual, 72, 8⟩, ⟨.genStretch, 72, 8⟩, ⟨.genDeepest, 72, 4⟩,
   ⟨.genSkew, 72, 4⟩]

/-- Table XNG-5. -/
def rowsXng : List RegRow :=
  [⟨.xngFixedTo, 216, 4⟩, ⟨.xngFixedToNow, 216, 4⟩, ⟨.xngLat, 5184, 4⟩, ⟨.xngLinkT, 288, 4⟩, ⟨.xngCal, 1, 4⟩,
   ⟨.xngWdogAge, 72, 4⟩, ⟨.xngDetViol, 72, 8⟩, ⟨.xngDiscard, 72, 8⟩, ⟨.xngIsoSink, 72, 8⟩, ⟨.xngFixDiscard, 8, 8⟩]

/-- Table SPN-8. -/
def rowsSpn : List RegRow :=
  [⟨.spnStatus, 1, 4⟩, ⟨.spnCtrl, 1, 4⟩, ⟨.spnFlits, 288, 8⟩, ⟨.spnCorr, 288, 4⟩, ⟨.spnUncorr, 288, 4⟩,
   ⟨.spnReserved, 94, 4⟩, ⟨.spnRsvStall, 94, 8⟩, ⟨.spnTagDrop, 94, 4⟩, ⟨.spnResync, 94, 4⟩]

/-- Table IMG-9. -/
def rowsImg : List RegRow :=
  [⟨.imgCtrl, 1, 4⟩, ⟨.imgCommitEpoch, 1, 8⟩, ⟨.imgStageSlot, 1, 4⟩, ⟨.imgStatus, 1, 4⟩, ⟨.imgResult, 1, 4⟩,
   ⟨.imgAppliedEpoch, 1, 8⟩, ⟨.imgCommitCount, 1, 4⟩, ⟨.imgRollSkipped, 3, 4⟩]

/-- Table TIL-8. -/
def rowsTil : List RegRow :=
  [⟨.tilFlags, 1080, 4⟩, ⟨.tilCe, 1080, 4⟩, ⟨.tilUe, 1080, 4⟩, ⟨.tilUeAddr, 1080, 4⟩, ⟨.tilResidue, 1080, 4⟩,
   ⟨.tilPosFail, 72, 4⟩, ⟨.tilAddrErr, 72, 4⟩]

/-- Table OPS-10. -/
def rowsOps : List RegRow :=
  [⟨.opsPc, 1080, 4⟩, ⟨.opsLastErr, 1080, 4⟩, ⟨.opsSlotState, 1080, 4⟩, ⟨.opsStaleDrop, 1080, 4⟩, ⟨.opsRetry, 1080, 4⟩]

/-- Table OPS-10. -/
def rowsEvt : List RegRow :=
  [⟨.evtCtr, 1024, 8⟩, ⟨.evtOwner, 1024, 4⟩, ⟨.evtSat, 32, 4⟩, ⟨.evtWaiters, 1, 4⟩, ⟨.evtWaitPeak, 1, 4⟩,
   ⟨.evtPoolFull, 1, 4⟩, ⟨.evtDenied, 1, 4⟩]

/-- Table SEL-4. -/
def rowsSel : List RegRow :=
  [⟨.selDefault, 1, 4⟩, ⟨.selDefaultNow, 1, 4⟩, ⟨.selLast, 1080, 4⟩, ⟨.selLastSegment, 1080, 4⟩,
   ⟨.selPasses, 1080, 4⟩, ⟨.selTagSkip, 1080, 4⟩, ⟨.selFlags, 1080, 4⟩]

/-- Table SES-8. -/
def rowsSeq : List RegRow :=
  [⟨.seqClass, 8, 4⟩, ⟨.seqClassNow, 8, 4⟩, ⟨.seqCtrl, 16, 4⟩, ⟨.seqCtrlNow, 16, 4⟩, ⟨.seqModel, 16, 4⟩,
   ⟨.seqCapacity, 16, 8⟩, ⟨.seqRequired, 16, 8⟩, ⟨.seqShortfall, 16, 8⟩, ⟨.seqOverflow, 16, 8⟩,
   ⟨.seqSpillSlots, 16, 4⟩, ⟨.seqAdmit, 16, 4⟩, ⟨.seqAdmitted, 16, 4⟩, ⟨.seqReady, 16, 4⟩, ⟨.seqLate, 16, 8⟩,
   ⟨.seqMismatch, 16, 4⟩, ⟨.seqHeapDepth, 1, 4⟩, ⟨.seqItems, 1, 4⟩, ⟨.seqCacheMiss, 1, 8⟩, ⟨.seqTile, 1080, 4⟩]

/-- Table ARB-3. -/
def rowsArb : List RegRow :=
  [⟨.arbSlot, 4096, 4⟩, ⟨.arbSlotNow, 4096, 4⟩, ⟨.arbCtrl, 16, 4⟩, ⟨.arbCtrlNow, 16, 4⟩, ⟨.arbLoser, 76, 4⟩,
   ⟨.arbLoserNow, 76, 4⟩, ⟨.arbSpillBase, 16, 8⟩, ⟨.arbSpillLimit, 16, 8⟩, ⟨.arbWait, 1216, 4⟩,
   ⟨.arbBackoff, 1216, 4⟩, ⟨.arbStarve, 48, 4⟩, ⟨.arbStore, 16, 4⟩, ⟨.arbShelf, 16, 4⟩, ⟨.arbShelfPeak, 16, 4⟩,
   ⟨.arbShelfFull, 16, 4⟩, ⟨.arbGrants, 1216, 8⟩, ⟨.arbForced, 16, 4⟩, ⟨.arbDead, 16, 8⟩, ⟨.arbUnavail, 16, 8⟩]

/-- Table ARB-3. -/
def rowsMem : List RegRow :=
  [⟨.memLinkCe, 16, 4⟩, ⟨.memLinkUe, 16, 4⟩, ⟨.memEcs, 16, 4⟩]

/-- Table PWR-4. -/
def rowsPwr : List RegRow :=
  [⟨.pwrCap, 1, 4⟩, ⟨.pwrCapNow, 1, 4⟩, ⟨.pwrOrder, 1, 4⟩, ⟨.pwrOrderNow, 1, 4⟩, ⟨.pwrFloor, 3, 4⟩,
   ⟨.pwrFloorNow, 3, 4⟩, ⟨.pwrGrantNow, 1, 4⟩, ⟨.pwrEffCap, 1, 4⟩, ⟨.pwrUrgency, 1, 4⟩, ⟨.pwrDemand, 1, 4⟩,
   ⟨.pwrWindow, 4, 4⟩, ⟨.pwrAllow, 4, 4⟩, ⟨.pwrK, 72, 4⟩, ⟨.pwrTemp, 72, 4⟩, ⟨.pwrTempPeak, 72, 4⟩,
   ⟨.pwrThrottled, 72, 8⟩, ⟨.pwrOver, 1, 4⟩, ⟨.pwrStatus, 1, 4⟩, ⟨.pwrVf, 128, 4⟩, ⟨.pwrIslandV, 4, 4⟩]

/-- Table NRG-5. -/
def rowsStir : List RegRow :=
  [⟨.stirCtrl, 1, 4⟩, ⟨.stirCtrlNow, 1, 4⟩, ⟨.stirFloor, 1, 4⟩, ⟨.stirFill, 1, 4⟩, ⟨.stirShort, 1, 4⟩]

/-- Table NRG-5. -/
def rowsNrg : List RegRow :=
  [⟨.nrgGainNow, 5, 4⟩, ⟨.nrgCoef, 648, 4⟩, ⟨.nrgStatic, 72, 4⟩, ⟨.nrgLkg, 16, 4⟩, ⟨.nrgAuxCoef, 5, 4⟩,
   ⟨.nrgAuxStatic, 4, 4⟩, ⟨.nrgMeasured, 5, 8⟩, ⟨.nrgBooked, 5, 8⟩, ⟨.nrgMissing, 5, 4⟩, ⟨.nrgPart, 16, 8⟩,
   ⟨.nrgClass, 8, 8⟩, ⟨.nrgSpec, 1, 8⟩, ⟨.nrgSweep, 1, 4⟩]

/-- Table HIF-9. -/
def rowsHif : List RegRow :=
  [⟨.hifRingEntries, 1, 4⟩, ⟨.hifIrqCoalesce, 1, 4⟩, ⟨.hifIrqCoalesceNow, 1, 4⟩, ⟨.hifCmdBase, 16, 8⟩,
   ⟨.hifCplBase, 16, 8⟩, ⟨.hifRingCtrl, 16, 4⟩, ⟨.hifCmdHead, 16, 4⟩, ⟨.hifCplTail, 16, 4⟩, ⟨.hifHold, 16, 4⟩,
   ⟨.hifWinBase, 1, 8⟩, ⟨.hifP2pPeer, 8, 8⟩, ⟨.hifFlashCtrl, 1, 4⟩, ⟨.hifFlashStatus, 1, 4⟩, ⟨.hifFaultCount, 1, 4⟩,
   ⟨.hifFaultLog, 256, 16⟩, ⟨.hifBadAccess, 1, 4⟩, ⟨.hifDbDrop, 1, 4⟩, ⟨.hifP2pDrop, 1, 4⟩]

/-- Table HIF-2. -/
def rowsBuf : List RegRow :=
  [⟨.flashBuf, 16384, 4⟩]

/-- Table HIF-2. -/
def rowsMsix : List RegRow :=
  [⟨.msixTable, 512, 4⟩]

/-- Table HIF-2. -/
def rowsPba : List RegRow :=
  [⟨.msixPba, 4, 4⟩]

/-- `n` rounded up to a multiple of `a`. -/
def alignUp (n a : Nat) : Nat := ceilDiv n a * a

/-- The first byte of a register that follows byte `cur` (R605). -/
def RegRow.start (x : RegRow) (cur : Nat) : Nat := alignUp cur (if x.size = 4 then 4 else 8)

/-- The byte after the last register of a block that starts at byte `cur`. -/
def blockEnd (rows : List RegRow) (cur : Nat) : Nat :=
  rows.foldl (fun cur x => x.start cur + x.size * x.count) cur

/-- What stands at a BAR0 offset: the register, its instance, the byte in it, its size. -/
structure RegPlace where
  reg : Reg
  inst : Nat
  byte : Nat
  size : Nat
deriving DecidableEq, Repr

/-- The register that stands at byte `off` of a block that starts at `cur`. -/
def findReg (rows : List RegRow) (cur off : Nat) : Option RegPlace :=
  match rows with
  | [] => none
  | x :: t =>
    let a := x.start cur
    let e := a + x.size * x.count
    if off < a then none
    else if off < e then some ⟨x.reg, (off - a) / x.size, (off - a) % x.size, x.size⟩
    else findReg t e off

/-- The windows of Table HIF-2 with their blocks; a second block starts at the next 4 KiB boundary (R604). -/
def windows : List (Nat × List RegRow × List RegRow) :=
  [(0x0000000, rowsDie, rowsBru),
   (0x0100000, rowsClk, rowsGen),
   (0x0200000, rowsXng, []),
   (0x0300000, rowsSpn, []),
   (0x0400000, rowsImg, []),
   (0x0500000, rowsTil, []),
   (0x0600000, rowsOps, rowsEvt),
   (0x0700000, rowsSel, []),
   (0x0800000, rowsSeq, []),
   (0x0900000, rowsArb, rowsMem),
   (0x0A00000, rowsPwr, []),
   (0x0B00000, rowsStir, rowsNrg),
   (0x0C00000, rowsHif, []),
   (0x0D00000, rowsBuf, []),
   (0x0E00000, rowsMsix, []),
   (0x0E10000, rowsPba, [])]

/-- The register at BAR0 offset `off`; none for an offset that is not assigned. -/
def regAt (off : Nat) : Option RegPlace :=
  windows.findSome? (fun w =>
    if off < w.1 then none
    else
      let o := off - w.1
      match findReg w.2.1 0 o with
      | some x => some x
      | none => findReg w.2.2 (alignUp (blockEnd w.2.1 0) 4096) o)


/-! ## Values -/

def RegionStatus.code (x : RegionStatus) : Nat := match x with | .serving => 0 | .out => 1 | .retired => 2 | .isolated => 3

/-- The code of a generator's state (Table CLK-4). -/
def GenState.code (x : GenState) : Nat :=
  match x with
  | .off => 0 | .cal => 1 | .locking => 2 | .locked => 3 | .slew => 4 | .frozen => 5 | .slaved => 6 | .halted => 7

/-- The class B fields of a region as DIE.REGION[r].CONFIG shows them (Table DIE-5). -/
def ClassB.config (b : ClassB) : Nat := b.partition % 32 + b.gangMaster % 128 * 2 ^ 8 + flag b.retire * 2 ^ 16 + b.spareFor % 16 * 2 ^ 20

/-- STIR.CTRL of a class A record. -/
def ClassA.stirCtrl (a : ClassA) : Nat := a.stirMode % 4 + a.stirDecay % 64 * 2 ^ 8 + a.stirPct % 128 * 2 ^ 16

/-- The words of a set of numbers: bit b of word w is number 32w + b. -/
def maskWord (l : List Nat) (w : Nat) : Nat :=
  ((List.range 32).map (fun b => if l.contains (32 * w + b) then 2 ^ b else 0)).sum

/-- CLK.STATUS (Table CLK-8). -/
def Chip.clockStatus (c : Chip) : Nat :=
  let q := c.clk
  q.refSel + 4 * flag q.refA.ok + 8 * flag q.refB.ok + 16 * flag q.refLocked + 32 * flag q.freqHold + 64 * flag q.holdover +
  128 * flag c.time.aligned + 256 * flag c.time.lost + 512 * flag c.time.valid + 1024 * flag q.stepBusy

/-- IMG.STATUS (Table IMG-9). -/
def Img.statusWord (i : Img) : Nat :=
  2 * flag i.pending + 4 * flag i.rollActive + 8 * flag i.staged + 16 * i.stagedSlot + 32 * flag i.cPending + 64 * i.useSlot +
  128 * flag i.useValid + i.rollRegion * 2 ^ 8

/-- BRU.STATUS (Table BRU-7). -/
def Bru.statusWord (b : Bru) : Nat := b.phase.code + 16 * flag b.ready + b.slot * 2 ^ 8 + flag b.fallback * 2 ^ 10

/-- Two bits for each collective slot (Table OPS-10). -/
def Tile.slotState (x : Tile) : Nat :=
  ((List.range 16).map (fun n =>
    let s := x.slots.get {} n
    (if s.done then 2 else if s.armed then 1 else 0) * 4 ^ n)).sum

/-- Entry `n` of the circular fault log (R635): the newest entry stands at FAULT_COUNT − 1, modulo 256. -/
def Hif.logEntry (h : Hif) (n : Nat) : Nat :=
  match h.log[(h.faultCount + 255 - n) % 256]? with
  | some e => e.code + e.inst * 2 ^ 16 + e.epoch * 2 ^ 64
  | none => 0

/-- Entry word `n` of the MSI-X table: address, data and mask of vector n / 4. -/
def Hif.msixWord (h : Hif) (n : Nat) : Nat :=
  let v := h.vectors.get {} (n / 4)
  match n % 4 with
  | 0 => v.addr % 2 ^ 32 | 1 => v.addr / 2 ^ 32 | 2 => v.data | _ => flag v.mask

/-- What instance `i` of register `r` reads as. WO fields read as zero. -/
def Chip.regValue (c : Chip) (r : Reg) (i : Nat) : Nat :=
  let a := c.img.shadowA
  let now := c.img.nowA
  let reg := c.region i
  let g := c.gen i
  let tile := c.tile i
  let part := c.part i
  let ch := c.chan i
  let h := c.hif
  match r with
  | .dieConfig => (classB c.img.shadowB i).config
  | .dieState => reg.status.code + reg.cfg.partition % 32 * 4 + reg.cfg.gangMaster % 128 * 2 ^ 8 + flag reg.cfg.retire * 2 ^ 16 +
      reg.cfg.spareFor % 16 * 2 ^ 20
  | .dieIdent => 0x1152B000
  | .bruStatus => c.bru.statusWord
  | .bruBoot => flag c.bru.rejA + 2 * flag c.bru.rejB + 16 * c.bru.cause
  | .bruCtrl => 0
  | .bruReadyEpoch => c.bru.readyEpoch % 2 ^ 56
  | .bruGen => if i = 0 then c.bru.genA else c.bru.genB
  | .bruResult => if i = 0 then c.bru.resultA else c.bru.resultB
  | .bruSelftest => reg.selfFailed + flag reg.spareBad * 2 ^ 16
  | .clkStep => a.step % 256
  | .clkStepNow => c.clk.mNow
  | .clkStatus => c.clockStatus
  | .clkRefCtrl => c.img.nowC.prefer
  | .clkFrame => c.img.nowC.frameEpochs
  | .clkEpoch => c.time.epoch % 2 ^ 56
  | .clkTick => c.time.tick % 2 ^ 64
  | .clkEpochLoad => c.time.load
  | .clkEpochLoadArm => flag c.time.arm
  | .clkPpsOffset => unsigned 16 c.time.offset
  | .clkPpsSpurious => c.time.spurious
  | .genState => g.state.code + unsigned 16 g.acc / 16 * 16 + g.code * 2 ^ 16 + g.lastDepth * 2 ^ 28
  | .genNominal8 => g.nominal8
  | .genActual => g.actual
  | .genStretch => g.stretch
  | .genDeepest => g.deepest
  | .genSkew => if g.state = .slaved then g.skew else 0
  | .xngFixedTo => (classB c.img.shadowB (i / 3)).fixedTo / 2 ^ (32 * (i % 3)) % 2 ^ 32
  | .xngFixedToNow => (c.region (i / 3)).cfg.fixedTo / 2 ^ (32 * (i % 3)) % 2 ^ 32
  | .xngLat => c.lat (i / 72) (i % 72)
  | .xngLinkT => (c.link (i / 4) (i % 4)).linkT
  | .xngCal => flag c.xng.done + c.xng.margin * 2 ^ 8
  | .xngWdogAge => reg.wdogAge
  | .xngDetViol => reg.detViol
  | .xngDiscard => reg.discard
  | .xngIsoSink => reg.isoSink
  | .xngFixDiscard => c.xng.fixDiscard.get 0 (73 + i)
  | .spnStatus => flag c.xng.up
  | .spnCtrl => c.xng.ageLimit
  | .spnFlits => (c.link (i / 4) (i % 4)).flits
  | .spnCorr => (c.link (i / 4) (i % 4)).corr
  | .spnUncorr => (c.link (i / 4) (i % 4)).uncorr
  | .spnReserved => (c.ep i).reserved
  | .spnRsvStall => (c.ep i).rsvStall
  | .spnTagDrop => (c.ep i).tagDrop
  | .spnResync => (c.ep i).resync
  | .imgCtrl => 0
  | .imgCommitEpoch => c.img.commitEpoch
  | .imgStageSlot => c.img.stageSlot
  | .imgStatus => c.img.statusWord
  | .imgResult => c.img.result
  | .imgAppliedEpoch => c.img.appliedEpoch % 2 ^ 56
  | .imgCommitCount => c.img.commitCount
  | .imgRollSkipped => c.img.skipped / 2 ^ (32 * i) % 2 ^ 32
  | .tilFlags => tile.flags
  | .tilCe => tile.ceCount
  | .tilUe => tile.ueCount
  | .tilUeAddr => tile.ueAddr
  | .tilResidue => tile.residueErr
  | .tilPosFail => reg.posFail
  | .tilAddrErr => reg.addrErr
  | .opsPc => tile.pc % 2 ^ 21
  | .opsLastErr => tile.errCode + tile.errOff % 2 ^ 21 * 2 ^ 8
  | .opsSlotState => tile.slotState
  | .opsStaleDrop => tile.staleDrop
  | .opsRetry => tile.retry
  | .evtCtr => c.seq.ctr.get 0 i
  | .evtOwner => c.seq.owner.get 31 i
  | .evtSat => maskWord c.seq.sat i
  | .evtWaiters => c.seq.waiters.length
  | .evtWaitPeak => c.seq.waitPeak
  | .evtPoolFull => c.seq.poolFull
  | .evtDenied => c.seq.denied
  | .selDefault => a.selMode % 2 + a.selTie % 2 * 2
  | .selDefaultNow => now.selMode + now.selTie * 2
  | .selLast => tile.selCount % 128 + flag tile.selExact * 2 ^ 7 + tile.selGuar % 128 * 2 ^ 8 + flag tile.selColander * 2 ^ 15 +
      tile.selPage % 64 * 2 ^ 16
  | .selLastSegment => tile.selSegment
  | .selPasses => tile.selPasses
  | .selTagSkip => tile.tagSkip
  | .selFlags => flag tile.histSat
  | .seqClass => a.deadlineAt i
  | .seqClassNow => now.deadlineAt i
  | .seqCtrl => a.checkedAt i % 2 + a.runaheadAt i % 2 * 2
  | .seqCtrlNow => now.checkedAt i + now.runaheadAt i * 2
  | .seqModel => part.model + part.lanes * 2 ^ 8
  | .seqCapacity => part.capacity
  | .seqRequired => part.required
  | .seqShortfall => part.shortfall
  | .seqOverflow => part.overflow
  | .seqSpillSlots => part.spillSlots
  | .seqAdmit => part.admitReg
  | .seqAdmitted => part.admitted
  | .seqReady => (c.heap i).length
  | .seqLate => part.late
  | .seqMismatch => part.mismatch
  | .seqHeapDepth => ((List.range 16).map (fun p => (c.heap p).length)).sum
  | .seqItems => c.seq.items.cells.length
  | .seqCacheMiss => c.seq.cacheMiss
  | .seqTile =>
    let e := c.mapEntry i
    e.entry + e.stage * 2 ^ 24 + e.lane * 2 ^ 30 + flag e.valid * 2 ^ 31
  | .arbSlot => a.slotAt (i / 256) (i % 256) % 128
  | .arbSlotNow => (c.chan (i / 256)).slots.get 0x7F (i % 256)
  | .arbCtrl => a.modeAt i % 2 + a.limitAt i % 2 ^ 16 * 2 ^ 16
  | .arbCtrlNow => ch.mode + ch.limit * 2 ^ 16
  | .arbLoser => a.loserAt i % 2
  | .arbLoserNow => now.loserAt i
  | .arbSpillBase => part.spillBase * 64
  | .arbSpillLimit => part.spillLimit * 64
  | .arbWait => (c.chan (i / 76)).w.get 0 (i % 76)
  | .arbBackoff => (c.chan (i / 76)).bo.get 0 (i % 76) + (c.chan (i / 76)).nl.get 0 (i % 76) * 2 ^ 16
  | .arbStarve => maskWord (c.chan (i / 3)).starve (i % 3)
  | .arbStore => ch.store.length
  | .arbShelf => ch.shelf.length
  | .arbShelfPeak => ch.shelfPeak
  | .arbShelfFull => ch.shelfFull
  | .arbGrants => (c.chan (i / 76)).grants.get 0 (i % 76)
  | .arbForced => ch.forced
  | .arbDead => ch.deadCount
  | .arbUnavail => ch.unavail
  | .memLinkCe => ch.linkCe
  | .memLinkUe => ch.linkUe
  | .memEcs => ch.ecs
  | .pwrCap => a.cap % 1024
  | .pwrCapNow => now.cap
  | .pwrOrder => a.order % 32
  | .pwrOrderNow => now.order
  | .pwrFloor => a.floorOf i % 1024
  | .pwrFloorNow => now.floorOf i
  | .pwrGrantNow => c.stew.grant
  | .pwrEffCap => c.stew.effCap
  | .pwrUrgency => c.stew.urgency
  | .pwrDemand => c.stew.demand
  | .pwrWindow => min (c.stew.windowOf i) (2 ^ 32 - 1)
  | .pwrAllow => c.stew.allow.getD i 0
  | .pwrK => reg.kCap + reg.kTherm * 2 ^ 8 + reg.kNow * 2 ^ 16
  | .pwrTemp => unsigned 12 reg.temp
  | .pwrTempPeak => unsigned 12 reg.tempPeak
  | .pwrThrottled => reg.throttled
  | .pwrOver => c.stew.overCount
  | .pwrStatus => c.powerStatus
  | .pwrVf => c.otp.vf.get 0 i % 256
  | .pwrIslandV => c.stew.islandV.getD i 0
  | .stirCtrl => a.stirCtrl
  | .stirCtrlNow => now.stirCtrl
  | .stirFloor => c.stew.stirFloor % 2 ^ 20
  | .stirFill => c.stew.stirFill
  | .stirShort => c.stew.stirShort
  | .nrgGainNow => (c.railGroup i).gain
  | .nrgCoef => c.otp.coef.get 0 i
  | .nrgStatic => c.otp.stat.get 0 i
  | .nrgLkg => c.otp.lkg.getD i 0
  | .nrgAuxCoef => c.otp.auxCoef.getD i 0
  | .nrgAuxStatic => c.otp.auxStat.getD i 0
  | .nrgMeasured => (c.railGroup i).measured.uj
  | .nrgBooked => (c.railGroup i).booked.uj
  | .nrgMissing => (c.railGroup i).missing
  | .nrgPart => (c.stew.parts.get {} i).uj
  | .nrgClass => (c.stew.classes.get {} i).uj
  | .nrgSpec => c.stew.spec.uj
  | .nrgSweep => c.stew.sweep
  | .hifRingEntries => c.img.nowC.ringEntries
  | .hifIrqCoalesce => a.coalesce % 1024
  | .hifIrqCoalesceNow => now.coalesce
  | .hifCmdBase => (c.ring i).cmdBase
  | .hifCplBase => (c.ring i).cplBase
  | .hifRingCtrl => flag (c.ring i).enable
  | .hifCmdHead => (c.ring i).cmdHead
  | .hifCplTail => (c.ring i).cplTail
  | .hifHold => (c.seq.hold.filter (fun e => e.1 == i)).length
  | .hifWinBase => h.winBase * 2 ^ 30
  | .hifP2pPeer => h.peers.get 0 i
  | .hifFlashCtrl => h.flashSlot * 2 ^ 16 + h.flashSector * 2 ^ 8
  | .hifFlashStatus => h.flashState + h.flashReason * 16
  | .hifFaultCount => h.faultCount
  | .hifFaultLog => h.logEntry i
  | .hifBadAccess => h.badAccess
  | .hifDbDrop => h.dbDrop
  | .hifP2pDrop => h.p2pDrop
  | .flashBuf => Memory.readLE h.flashBuf (4 * i) 4
  | .msixTable => h.msixWord i
  | .msixPba => maskWord ((List.range 128).filter (fun v => (h.vectors.get {} v).pend)) i

/-! ## Configuration space (R602) -/

/-- The items of Table HIF-1 that have a number: sizes in bytes, the link's rate in GT/s, TAG width in bits. -/
inductive ConfigItem where
  | vendorId | subsystemVendorId | deviceId | revisionId | classCode | subsystemId | bar0Size | bar2Size | bar4Size
  | linkWidth | linkRate | maxPayload | maxReadRequest | tagBits | msixVectors
deriving DecidableEq, Repr

/-- What a configuration request reads (R602, Table HIF-1). No command of the table reads it. -/
def Chip.configValue (c : Chip) (x : ConfigItem) : Nat :=
  match x with
  | .vendorId => 0x1C9E | .subsystemVendorId => 0x1C9E | .deviceId => 0x1152 | .revisionId => 0xB0 | .classCode => 0x120000
  | .subsystemId => Config.moduleRevision (Memory.read c.flash 0 0x100000)
  | .bar0Size => 32 * 2 ^ 20 | .bar2Size => 2 ^ 30 | .bar4Size => 64 * 2 ^ 10 | .linkWidth => 8 | .linkRate => 32
  | .maxPayload => 512 | .maxReadRequest => 4096 | .tagBits => 10 | .msixVectors => 128

/-- HIF answers configuration requests while its link is up, in D3hot too (R252, R603). -/
def Chip.answersConfig (c : Chip) : Bool := c.running && !c.hif.perst

/-! ## Reads with clear (R6, R9, Table SCP-5) -/

/-- Instance `i` of an RC register reads as zero from now on; any other register is unchanged. -/
def Chip.regClear (c : Chip) (r : Reg) (i : Nat) : Chip :=
  match r with
  | .clkPpsSpurious => c.onTime (fun t => { t with spurious := 0 })
  | .genDeepest => c.onGen i (fun g => { g with deepest := 0 })
  | .xngDetViol => c.onRegion i (fun x => { x with detViol := 0 })
  | .xngDiscard => c.onRegion i (fun x => { x with discard := 0 })
  | .xngIsoSink => c.onRegion i (fun x => { x with isoSink := 0 })
  | .xngFixDiscard => c.onXng (fun x => { x with fixDiscard := x.fixDiscard.erase (73 + i) })
  | .spnFlits => c.onLink (i / 4) (i % 4) (fun l => { l with flits := 0 })
  | .spnCorr => c.onLink (i / 4) (i % 4) (fun l => { l with corr := 0 })
  | .spnUncorr => c.onLink (i / 4) (i % 4) (fun l => { l with uncorr := 0 })
  | .spnRsvStall => c.onEp i (fun x => { x with rsvStall := 0 })
  | .spnTagDrop => c.onEp i (fun x => { x with tagDrop := 0 })
  | .spnResync => c.onEp i (fun x => { x with resync := 0 })
  | .tilCe => c.onTile i (fun x => { x with ceCount := 0 })
  | .tilUe => c.onTile i (fun x => { x with ueCount := 0 })
  | .tilResidue => c.onTile i (fun x => { x with residueErr := 0 })
  | .tilAddrErr => c.onRegion i (fun x => { x with addrErr := 0 })
  | .opsStaleDrop => c.onTile i (fun x => { x with staleDrop := 0 })
  | .opsRetry => c.onTile i (fun x => { x with retry := 0 })
  | .evtWaitPeak => c.onSeq (fun q => { q with waitPeak := 0 })
  | .evtPoolFull => c.onSeq (fun q => { q with poolFull := 0 })
  | .evtDenied => c.onSeq (fun q => { q with denied := 0 })
  | .selPasses => c.onTile i (fun x => { x with selPasses := 0 })
  | .selTagSkip => c.onTile i (fun x => { x with tagSkip := 0 })
  | .seqLate => c.onPart i (fun p => { p with late := 0 })
  | .seqMismatch => c.onPart i (fun p => { p with mismatch := 0 })
  | .seqCacheMiss => c.onSeq (fun q => { q with cacheMiss := 0 })
  | .arbShelfPeak => c.onChan i (fun x => { x with shelfPeak := 0 })
  | .arbShelfFull => c.onChan i (fun x => { x with shelfFull := 0 })
  | .arbGrants => c.onChan (i / 76) (fun x => { x with grants := x.grants.erase (i % 76) })
  | .arbForced => c.onChan i (fun x => { x with forced := 0 })
  | .arbDead => c.onChan i (fun x => { x with deadCount := 0 })
  | .arbUnavail => c.onChan i (fun x => { x with unavail := 0 })
  | .memLinkCe => c.onChan i (fun x => { x with linkCe := 0 })
  | .memLinkUe => c.onChan i (fun x => { x with linkUe := 0 })
  | .pwrTempPeak => c.onRegion i (fun x => { x with tempPeak := 0 })
  | .pwrThrottled => c.onRegion i (fun x => { x with throttled := 0 })
  | .pwrOver => c.onStew (fun w => { w with overCount := 0 })
  | .stirShort => c.onStew (fun w => { w with stirShort := 0 })
  | .nrgMissing => c.onRailGroup i (fun g => { g with missing := 0 })
  | .hifBadAccess => c.onHif (fun h => { h with badAccess := 0 })
  | .hifDbDrop => c.onHif (fun h => { h with dbDrop := 0 })
  | .hifP2pDrop => c.onHif (fun h => { h with p2pDrop := 0 })
  | _ => c

/-! ## Writes (R6, R10, Table SCP-5) -/

/-- A shadow of a class A field. -/
def Chip.stageA (c : Chip) (f : ClassA → ClassA) : Chip := c.onImg (fun i => { i with shadowA := f i.shadowA })
/-- A shadow of the class B fields of region `r`. -/
def Chip.stageB (c : Chip) (r : Nat) (f : ClassB → ClassB) : Chip :=
  c.onImg (fun i => { i with shadowB := i.shadowB.update (ClassB.reset r) r f })

/-- FLOOR[x] of a class A record. -/
def ClassA.setFloor (a : ClassA) (x v : Nat) : ClassA :=
  match x with | 0 => { a with floorHif := v } | 1 => { a with floorMem := v } | _ => { a with floorSpine := v }

/-- A number with its word `w` (of 32 bits) replaced. -/
def setWord (old w v : Nat) : Nat := old - old / 2 ^ (32 * w) % 2 ^ 32 * 2 ^ (32 * w) + v % 2 ^ 32 * 2 ^ (32 * w)

/-- The numbers of word `w` whose bits are set in `v` leave the set (W1C). -/
def clearBits (l : List Nat) (w v : Nat) : List Nat := l.filter (fun n => !(n / 32 == w && bit v (n % 32)))

/-- A write of `v` to instance `i` of register `r`: its RW, RS and W1C fields; RO and RC fields and reserved bits ignore it.
Fields whose write does more than store a value are written by `execBar0Write`. -/
def Chip.regStore (c : Chip) (r : Reg) (i v : Nat) : Chip :=
  match r with
  | .dieConfig => c.stageB i (fun b => { b with
      partition := field v 0 5, gangMaster := field v 8 7, retire := bit v 16, spareFor := field v 20 4 })
  | .clkStep => c.stageA (fun a => { a with step := field v 0 8 })
  | .clkEpochLoad => c.onTime (fun t => { t with load := v % 2 ^ 56 })
  | .xngFixedTo => c.stageB (i / 3) (fun b => { b with fixedTo := setWord b.fixedTo (i % 3) v % 2 ^ 72 })
  | .imgCommitEpoch => c.onImg (fun x => { x with commitEpoch := v % 2 ^ 56 })
  | .imgStageSlot => c.onImg (fun x => { x with stageSlot := v % 2 })
  | .tilFlags => c.onTile i (fun x => { x with flags := ((List.range 6).map (fun b => if bit x.flags b && !bit v b then 2 ^ b else 0)).sum })
  | .evtOwner => c.writeOwner i v
  | .evtSat => c.onSeq (fun q => { q with sat := clearBits q.sat i v })
  | .selDefault => c.stageA (fun a => { a with selMode := field v 0 1, selTie := field v 1 1 })
  | .selFlags => c.onTile i (fun x => { x with histSat := x.histSat && !bit v 0 })
  | .seqClass => c.stageA (fun a => { a with deadline := a.deadline.set i (v % 2 ^ 32) })
  | .seqCtrl => c.stageA (fun a => { a with checked := a.checked.set i (field v 0 1), runahead := a.runahead.set i (field v 1 1) })
  | .arbSlot => c.stageA (fun a => { a with slotTable := a.slotTable.set i (v % 128) })
  | .arbCtrl => c.stageA (fun a => { a with starveMode := a.starveMode.set i (v % 2), starveLimit := a.starveLimit.set i (field v 16 16) })
  | .arbLoser => c.stageA (fun a => { a with loserMode := a.loserMode.set i (v % 2) })
  | .arbSpillBase => c.onPart i (fun p => { p with spillBase := field v 6 30 })
  | .arbSpillLimit => c.onPart i (fun p => { p with spillLimit := field v 6 30 })
  | .arbStarve => c.onChan (i / 3) (fun x => { x with starve := clearBits x.starve (i % 3) v })
  | .pwrCap => c.stageA (fun a => { a with cap := v % 1024 })
  | .pwrOrder => c.stageA (fun a => { a with order := v % 32 })
  | .pwrFloor => c.stageA (fun a => a.setFloor i (v % 1024))
  | .pwrUrgency => c.onStew (fun w => { w with urgency := v % 256 })
  | .stirCtrl => c.stageA (fun a => { a with stirMode := field v 0 2, stirDecay := field v 8 6, stirPct := field v 16 7 })
  | .hifIrqCoalesce => c.stageA (fun a => { a with coalesce := v % 1024 })
  | .hifCmdBase => c.onRing i (fun x => { x with cmdBase := v % 2 ^ 64 / 4096 * 4096 })
  | .hifCplBase => c.onRing i (fun x => { x with cplBase := v % 2 ^ 64 / 4096 * 4096 })
  | .hifWinBase => c.onHif (fun h => { h with winBase := field v 30 6 })
  | .hifP2pPeer => c.onHif (fun h => { h with peers := h.peers.set i (v % 2 ^ 64) })
  | .hifFlashCtrl => c.onHif (fun h => { h with flashSlot := field v 16 1, flashSector := field v 8 8 })
  | .flashBuf => c.onHif (fun h => { h with flashBuf := Memory.writeLE h.flashBuf (4 * i) 4 v })
  | .msixTable => c.onHif (fun h => { h with vectors := h.vectors.update {} (i / 4) (fun x =>
      match i % 4 with
      | 0 => { x with addr := x.addr / 2 ^ 32 * 2 ^ 32 + v % 2 ^ 32 / 4 * 4 }
      | 1 => { x with addr := x.addr % 2 ^ 32 + v % 2 ^ 32 * 2 ^ 32 }
      | 2 => { x with data := v % 2 ^ 32 }
      | _ => { x with mask := bit v 0 }) })
  | _ => c

end Sys2Proof.Machine
end

