-- ==== Sys2Proof/Machine/Hif.lean ====
section
/-! DEFINITION. The commands of chapter 15: BAR2, doorbells, rings, completions, interrupts, flash, contributions, resets;
and BAR0 accesses, with those over the management I2C (R140, R604 to R606, R702). -/

namespace Sys2Proof.Machine

/-! ## BAR2 (R443, R607 to R610) -/

/-- The session-memory address of BAR2 offset `off` (R607). -/
def Hif.winAddr (h : Hif) (off : Nat) : Nat := h.winBase * 2 ^ 30 + off

/-- BAR2_WRITE (R204, R443, R607): one WR for each 256-byte piece; a piece in the session table is dropped with F-SES-09. Endpoint 88
issues each lane in its own order, so its WRs and its READs are two buffers, and a WR waits behind no READ (log entry 72). -/
def execBar2Write (k : ChipId) (off : Nat) (data : List Byte) (en : List Bool) (s : State) : Out :=
  let c := s.chip k
  let a := c.hif.winAddr off
  let ps := tlpPieces a data.length
  let kept := ps.filter (fun p => decide (0x1000000 ≤ p.1))
  let ms := kept.map (bar2Wr a data en)
  let c1 := ms.foldl (fun (c : Chip) m => (c.send m).onHif (fun h => { h with wrote := insertOnce h.wrote m.dst })) c
  let c2 := (c1.countAux 1 (ceilDiv data.length 64)).faultIf (decide (kept.length < ps.length)) .ses 9 noInstance
  occurs c.linkUp s (s.setChip k c2)

/-- BAR2_READ (R607, R609, R610): one READ for each piece, as soon as HIF has a tag for each. -/
def execBar2Read (k : ChipId) (off n : Nat) (s : State) : Out :=
  let c := s.chip k
  let a := c.hif.winAddr off
  let ps := (tlpPieces a n).zip (c.freeTags epHif)
  let due := ps.map (fun x => (x.2, pieceLine x.1.1, pieceLines x.1.1 x.1.2))
  let c1 := due.foldl (fun (c : Chip) d =>
    c.send { lane := .req, src := epHif, dst := epMem (channelOf d.2.1), op := 0x02, tag := d.1, addr := d.2.1, rlen := d.2.2 }) c
  occurs (c.linkUp && ps.length == (tlpPieces a n).length) s
    (s.setChip k (c1.onHif (fun h => { h with reads := h.reads ++ [{ addr := a, len := n, due := due }] })))

/-! ## Doorbells (R611, R614, R615) -/

/-- HIF drops a doorbell of value `v` of ring `g` (R611). -/
def Chip.dropsDoorbell (c : Chip) (g v : Nat) : Bool := decide (c.ringN ≤ v) || !c.bru.ready || !c.ringOn g

/-- A dropped doorbell (R611). -/
def Chip.dropDoorbell (c : Chip) : Chip := (c.onHif (fun h => { h with dbDrop := satAdd 32 h.dbDrop 1 })).fault .hif 2 noInstance

/-- CMD_TAIL_WRITE (R611, R612, R614). -/
def execCmdTailWrite (k : ChipId) (g : RingId) (v : Word) (s : State) : Out :=
  let c := s.chip k
  let c1 := if c.dropsDoorbell g v.toNat then c.dropDoorbell
    else (c.onRing g (fun r => { r with cmdTail := v.toNat })).flushFor g
  occurs c.linkUp s (s.setChip k c1)

/-- CPL_HEAD_WRITE (R611, R615). -/
def execCplHeadWrite (k : ChipId) (g : RingId) (v : Word) (s : State) : Out :=
  let c := s.chip k
  let c1 := if c.dropsDoorbell g v.toNat then c.dropDoorbell else c.onRing g (fun r => { r with cplHead := v.toNat })
  occurs c.linkUp s (s.setChip k c1)

/-! ## Rings (R612 to R616, R620 to R624) -/

/-- Posted entries of ring `g` (R614). -/
def Chip.posted (c : Chip) (g : Nat) : Nat := ((c.ring g).cmdTail + c.ringN - (c.ring g).cmdHead) % c.ringN

/-- COMMAND_FETCH (R612, R614, R621, R622, R624): HIF reads the entry at CMD_HEAD, `entry`, and hands it over; a malformed one
is refused with F-HIF-03. HIF fetches the next one when the last has started. -/
def execCommandFetch (k : ChipId) (g : RingId) (entry : List Byte) (s : State) : Out :=
  let c := s.chip k
  let r := c.ring g
  let may := c.linkUp && c.bru.ready && c.ringOn g && decide (0 < c.posted g) && r.handed.isEmpty && !c.holdsFor g &&
    c.hif.flushes.all (fun x => !x.rings.contains g.val)
  let c1 := (c.onRing g (fun r => { r with cmdHead := (r.cmdHead + 1) % c.ringN, handed := [{ bytes := entry }] })).countAux 1 1
  let ok := entryValid entry
  occurs (may && (ok || c.roomForCompletions g 1)) s (s.setChip k (if ok then c1 else c1.refuse g entry .hif 3 noInstance))

/-- RING_ENABLE (R616): both rings' indices are 0 and fetching starts. -/
def execRingEnable (k : ChipId) (g : RingId) (s : State) : Out :=
  let c := s.chip k
  occurs c.running s (s.setChip k (c.onRing g (fun r =>
    { r with enable := true, cmdHead := 0, cmdTail := 0, cplTail := 0, cplHead := 0, phase := true })))

/-- RING_DISABLE (R616, R620). -/
def execRingDisable (k : ChipId) (g : RingId) (s : State) : Out :=
  let c := s.chip k
  occurs c.running s (s.setChip k (c.disableRing g))

/-- RING_ACCESS_ERROR (R647): a host access to an entry of the ring failed; the ring is disabled, F-HIF-04. -/
def execRingAccessError (k : ChipId) (g : RingId) (s : State) : Out :=
  let c := s.chip k
  occurs (c.linkUp && c.ringOn g) s (s.setChip k ((c.disableRing g).fault .hif 4 g))

/-- The completion ring has no free entry (R615). -/
def Chip.ringFull (c : Chip) (g : Nat) : Bool := ((c.ring g).cplTail + 1) % c.ringN == (c.ring g).cplHead

/-- COMPLETION_WRITE (R615, R619, R620): the oldest completion on its way to ring `g` is written, or enters the hold when the
ring is full or disabled. -/
def execCompletionWrite (k : ChipId) (g : RingId) (s : State) : Out :=
  let c := s.chip k
  match c.compQueue g with
  | [] => occurs false s s
  | x :: t =>
    if c.ringOn g && !c.ringFull g then
      let s1 := s.setChip k ((c.onSeq (fun q => { q with compOut := q.compOut.set g t })).countAux 1 1)
      occurs c.linkUp s (s1.writeCompletion k g x)
    else occurs c.running s (s.setChip k (c.holdAll g))

/-- HOLD_RELEASE (R620, R621, R644): the oldest held entry of ring `g` is written. -/
def execHoldRelease (k : ChipId) (g : RingId) (s : State) : Out :=
  let c := s.chip k
  match c.seq.hold.find? (fun e => e.1 == g.val) with
  | none => occurs false s s
  | some e =>
    let s1 := s.setChip k ((c.onSeq (fun q => { q with hold := q.hold.erase e })).countAux 1 1)
    occurs (c.linkUp && c.ringOn g && !c.ringFull g && (c.compQueue g).isEmpty) s (s1.writeCompletion k g e.2)

/-! ## Interrupts (R633, R634) -/

/-- The cause of vector `v` holds (Table HIF-8): for a ring, an entry that the driver has not returned. -/
def Chip.causeHolds (c : Chip) (v : Nat) : Bool :=
  if v < 16 then (c.ring v).cplTail != (c.ring v).cplHead else (c.hif.vectors.get {} v).cause

/-- Vector `v` may send now (R634): at once with a coalesce of 0, else at an epoch boundary after the coalesce. -/
def Chip.coalesced (c : Chip) (v : Nat) : Bool :=
  let n := c.img.nowA.coalesce
  n == 0 || (c.time.pos == 0 && decide (n ≤ (c.hif.vectors.get {} v).since))

/-- MSIX_MESSAGE (R633, R634): the message of vector `v`, or its pending bit while it is masked; a pending message goes when
the mask is gone. -/
def execMsixMessage (k : ChipId) (v : Fin 128) (s : State) : Out :=
  let c := s.chip k
  let x := c.hif.vectors.get {} v
  let due := c.causeHolds v && c.coalesced v
  let y : Vector_ := if x.mask then { x with pend := true, cause := false } else { x with pend := false, cause := false, since := 0 }
  let c1 := c.onHif (fun h => { h with
    vectors := h.vectors.set v y, lastHost := if x.mask then h.lastHost else some (.msix v x.addr x.data) })
  occurs (c.linkUp && decide (v.val < 21) && (due || (x.pend && !x.mask))) s (s.setChip k c1)

/-! ## Flash (R300, R631, R632) -/

/-- The first byte of sector `n` of slot `slot` in module flash (R631, Table IMG-1). -/
def sectorBase (slot n : Nat) : Nat := slotBase slot + 65536 * n

/-- The flash command is refused (R632). -/
def Chip.refuseFlash (c : Chip) (reason : Nat) : Chip :=
  (c.onHif (fun h => { h with flashState := 3, flashReason := reason })).fault .hif 7 noInstance

/-- The flash operation `cmd` starts. -/
def Chip.startFlash (c : Chip) (cmd : Nat) : Chip :=
  c.onHif (fun h => { h with flashCmd := cmd, flashState := 1, flashReason := 0, opSlot := h.flashSlot, opSector := h.flashSector })

/-- FLASH_PROGRAM (R631, R632). -/
def execFlashProgram (k : ChipId) (s : State) : Out :=
  let c := s.chip k
  let n := c.hif.flashSlot
  let c1 :=
    if c.img.useValid && c.img.useSlot = n then c.refuseFlash 1
    else if c.img.staged && c.img.stagedSlot = n then c.refuseFlash 2
    else if c.hif.flashCmd ≠ 0 then c.refuseFlash 4
    else c.startFlash 1
  occurs c.running s (s.setChip k c1)

/-- FLASH_READ (R631, R632). -/
def execFlashRead (k : ChipId) (s : State) : Out :=
  let c := s.chip k
  occurs c.running s (s.setChip k (if c.hif.flashCmd ≠ 0 then c.refuseFlash 4 else c.startFlash 2))

/-- FLASH_DONE (R631, R632): a program leaves FLASH_BUF in the sector, or, when its read-back fails, bytes that the spec does
not name (a free value); a read leaves the sector in FLASH_BUF. -/
def execFlashDone (k : ChipId) (ok : Bool) (s : State) : Out :=
  let c := s.chip k
  let b := sectorBase c.hif.opSlot c.hif.opSector
  let program := c.hif.flashCmd = 1
  let bytes := if ok then Memory.read c.hif.flashBuf 0 65536 else natLE 65536 (Config.free s.fresh)
  let c1 :=
    if program then { c with flash := Memory.write c.flash b bytes }
    else c.onHif (fun h => { h with flashBuf := Memory.ofCells ((Memory.read c.flash b 65536).zipIdx.map (fun e => (e.2, e.1))) })
  let failed := program && !ok
  let c2 := c1.onHif (fun h => { h with
    flashCmd := 0, flashState := if failed then 3 else 2, flashReason := if failed then 3 else 0 })
  occurs (c.running && c.hif.flashCmd != 0) s
    { (s.setChip k ((c2.faultIf failed .hif 7 noInstance).cause 18)) with fresh := s.fresh + 1 }

/-! ## Cross-chip contributions (R399, R636, R637) -/

/-- The contribution write of a COLLECT (Table HIF-7). -/
def contribution (q : Msg) : List Byte :=
  natLE 1 (field q.addr 25 7) ++ natLE 1 (field q.addr 21 4) ++ natLE 1 (field q.arg 0 4) ++ natLE 1 (field q.arg 4 8) ++
  natLE 2 (field q.arg 12 16) ++ natLE 1 (field q.arg 28 2) ++ natLE 1 q.len ++ natLE 56 0 ++
  (List.range 192).map (fun i => if i < 64 * q.len then q.data.getD i 0 else 0)

/-- XDMA_COLLECT (R399, R636): XDMA serves the REQ at its head: the peer write is issued and the sender answered ACCEPTED;
with no peer, or for any other REQ than FLUSH, TARGET_ERROR. XDMA has no WR operation (Table OPS-8). -/
def execXdmaCollect (k : ChipId) (s : State) : Out :=
  let c := (s.chip k).onEp epXdma (fun x => { x with popWr := [] })
  match (c.ep epXdma).popReq.head? with
  | none => occurs false s s
  | some q =>
    let peer := field q.arg 30 4
    let base := if peer < 8 then c.hif.peers.get 0 peer else 0
    let bad := q.op ≠ 0x03 || q.len = 0 || 3 < q.len
    let c1 :=
      if q.poison then c.answer epXdma (rspTo epXdma q 2 0 [])
      else if bad then c.answer epXdma (rspTo epXdma q 3 0 [])
      else if base = 0 then (c.answer epXdma (rspTo epXdma q 3 0 [])).fault .hif 5 noInstance
      else ((c.answer epXdma (rspTo epXdma q 0 0 [])).onHif (fun h =>
        { h with p2pOut := h.p2pOut ++ [(peer, base + 0x800, contribution q)] })).countAux 1 4
    let waits := !q.poison && !bad && base != 0 && !c.linkUp
    occurs (c.running && q.op != 0x04 && !waits) s (s.setChip k c1)

/-- An INBOX write has the form of Table HIF-7. -/
def contributionOk (bs : List Byte) : Bool :=
  let f := fun (o n : Nat) => leNat ((bs.drop o).take n)
  bs.length == 256 && decide (f 0 1 < 72) && decide (f 1 1 < 15) && decide (f 2 1 < 16) && decide (f 6 1 < 3) &&
  decide (1 ≤ f 7 1) && decide (f 7 1 ≤ 3) && ((bs.drop 8).take 56).all (fun b => b == 0) && (bs.drop (64 + 64 * f 7 1)).all (fun b => b == 0)

/-- HIF drops a contribution (R637). -/
def Chip.dropContribution (c : Chip) : Chip := (c.onHif (fun h => { h with p2pDrop := satAdd 32 h.p2pDrop 1 })).fault .hif 5 noInstance

/-- INBOX_WRITE (R637): a posted write to the INBOX, one that the switch has delivered when it is the oldest such. -/
def execInboxWrite (k : ChipId) (data : List Byte) (s : State) : Out :=
  let c := (s.chip k).onHif (fun h => if h.p2pIn.head? = some data then { h with p2pIn := h.p2pIn.tail } else h)
  let c1 :=
    if !contributionOk data || 64 ≤ c.hif.inbox.length then c.dropContribution
    else (c.onHif (fun h => { h with inbox := h.inbox ++ [{ bytes := data }] })).pumpInbox
  occurs c.linkUp s (s.setChip k (c1.countAux 1 4))

/-- INBOX_RESEND (R637): 256 HIF cycles after NOT_ARMED the entry goes out again. -/
def execInboxResend (k : ChipId) (i : Nat) (s : State) : Out :=
  let c := s.chip k
  match c.hif.inbox[i]? with
  | none => occurs false s s
  | some x =>
    let c1 := c.onHif (fun h => { h with inbox := h.inbox.set i { x with waiting := false } })
    occurs (c.running && x.waiting) s (s.setChip k c1.pumpInbox)

/-- INBOX_EXPIRE (R637): an entry 1,000 epochs old is dropped. -/
def execInboxExpire (k : ChipId) (i : Nat) (s : State) : Out :=
  let c := s.chip k
  match c.hif.inbox[i]? with
  | none => occurs false s s
  | some x =>
    let c1 := c.onHif (fun h => { h with inbox := h.inbox.eraseIdx i })
    occurs (c.running && decide (1000 ≤ x.age)) s (s.setChip k c1.dropContribution)

/-! ## Resets and power states (R603, R638) -/

/-- HIF_RESET (R258, R638): a PERST_N assertion, hot reset, link down or function-level reset. -/
def execHifReset (k : ChipId) (cause : HifCause) (s : State) : Out :=
  let c := s.chip k
  let low := cause = .perst
  let c1 := c.resetHif.onHif (fun h => { h with perst := h.perst || low })
  let s1 := s.onTray (fun t => t.onSlot k (fun x => { x with perst := x.perst || low }))
  occurs (c.running && !c.hif.perst) s (s1.setChip k c1)

/-- D3HOT_TRANSITION (R603). -/
def execD3hotTransition (k : ChipId) (d3 : Bool) (s : State) : Out :=
  let c := s.chip k
  occurs (c.running && !c.hif.perst) s (s.setChip k (c.onHif (fun h => { h with d3 := d3 })))

/-! ## BAR0 (R6, R9, R10, R140, R604 to R606) and the management I2C (R702) -/

/-- An access to an offset that is not assigned, or not aligned (R606). -/
def Chip.badBar0 (c : Chip) : Chip := (c.onHif (fun h => { h with badAccess := satAdd 32 h.badAccess 1 })).fault .hif 1 noInstance

/-- The latches of one path (R140). -/
def Hif.latches (h : Hif) (i2c : Bool) : Bank Nat := if i2c then h.i2cLatch else h.latch
def Hif.setLatches (h : Hif) (i2c : Bool) (b : Bank Nat) : Hif := if i2c then { h with i2cLatch := b } else { h with latch := b }

/-- A 4-byte read at the place `p` of offset `off` (R140): the value and the chip after it. -/
def Chip.readWord (c : Chip) (i2c : Bool) (off : Nat) (p : RegPlace) : Nat × Chip :=
  let v := c.regValue p.reg p.inst
  if p.size = 4 then (v % 2 ^ 32, c.regClear p.reg p.inst)
  else
    let half := v / 2 ^ (64 * (p.byte / 8)) % 2 ^ 64
    let key := off - p.byte % 8
    if p.byte % 8 = 0 then
      (half % 2 ^ 32, (c.regClear p.reg p.inst).onHif (fun h => h.setLatches i2c ((h.latches i2c).set key (half / 2 ^ 32))))
    else match Bank.look (c.hif.latches i2c).cells key with
      | some hi => (hi, c.onHif (fun h => h.setLatches i2c ((h.latches i2c).erase key)))
      | none => (half / 2 ^ 32, c)

/-- A read of 4 bytes, or of 8 when `wide`; none where R606 turns it away. An 8-byte read of two 4-byte registers reads
both. -/
def Chip.readBar0 (c : Chip) (i2c wide : Bool) (off : Nat) : Option (Nat × Chip) :=
  if wide then
    match regAt off, regAt (off + 4) with
    | some p, some q =>
      if off % 8 ≠ 0 then none
      else if p.size ≠ 4 then
        some (c.regValue p.reg p.inst / 2 ^ (64 * (p.byte / 8)) % 2 ^ 64, c.regClear p.reg p.inst)
      else
        let (lo, c1) := c.readWord i2c off p
        let (hi, c2) := c1.readWord i2c (off + 4) q
        some (lo + hi * 2 ^ 32, c2)
    | _, _ => none
  else match regAt off with
    | some p => if off % 4 = 0 then some (c.readWord i2c off p) else none
    | none => none

/-- READ_WITH_CLEAR (R6, R9, R140, R606): a BAR0 read. It returns the register, clears an RC register, latches the high word of
a 64-bit one. -/
def execReadWithClear (k : ChipId) (off : Nat) (wide : Bool) (s : State) : Out :=
  let c := s.chip k
  let (v, c1) := (c.readBar0 false wide off).getD (0, c.badBar0)
  occurs c.linkUp s (s.setChip k (c1.onHif (fun h => { h with lastHost := some (.regRead v) })))

/-- The state that an outcome leads to. -/
def stateOf (o : Out) (s : State) : State := match o with | .next t => t | .fault _ => s | .refused _ => s

/-- IMG.CTRL.CMD (Table IMG-9). -/
def imgCommand (k : ChipId) (cmd : Nat) (s : State) : State :=
  match cmd with
  | 1 => stateOf (execCommit k s) s
  | 2 => stateOf (execCommitCancel k s) s
  | 3 => stateOf (execStage k s) s
  | 4 => stateOf (execAbandon k s) s
  | _ => s

/-- HIF.FLASH_CTRL.CMD (R631). -/
def flashCommand (k : ChipId) (cmd : Nat) (s : State) : State :=
  match cmd with
  | 1 => stateOf (execFlashProgram k s) s
  | 2 => stateOf (execFlashRead k s) s
  | _ => s

/-- A write of `v` to instance `i` of register `r` (Table SCP-5), with what the WO fields and ENABLE do. -/
def State.writeReg (s : State) (k : ChipId) (i2c : Bool) (r : Reg) (i v : Nat) : State :=
  match r with
  | .bruCtrl => if v % 256 = 0xA5 then stateOf (execRestart k i2c s) s else s
  | .clkRefCtrl => if bit v 8 then stateOf (execRefSwitch k s) s else s
  | .clkEpochLoadArm => stateOf (execEpochLoadArm k (BitVec.ofNat 32 v) s) s
  | .imgCtrl => imgCommand k (v % 256) s
  | .hifRingCtrl => stateOf (if bit v 0 then execRingEnable k (Fin.ofNat 16 i) s else execRingDisable k (Fin.ofNat 16 i) s) s
  | .hifFlashCtrl => flashCommand k (field v 24 8) (s.onChip k (fun c => c.regStore .hifFlashCtrl i v))
  | _ => s.onChip k (fun c => c.regStore r i v)

/-- A 4-byte write at place `p`: of a 64-bit register it replaces one word. -/
def State.writeWord (s : State) (k : ChipId) (i2c : Bool) (p : RegPlace) (v : Nat) : State :=
  if p.size = 4 then s.writeReg k i2c p.reg p.inst (v % 2 ^ 32)
  else s.writeReg k i2c p.reg p.inst (setWord ((s.chip k).regValue p.reg p.inst) (p.byte / 4) v)

/-- A write of 4 bytes, or of 8 when `wide`; none where R606 turns it away. -/
def State.writeBar0 (s : State) (k : ChipId) (i2c wide : Bool) (off v : Nat) : Option State :=
  if wide then
    match regAt off, regAt (off + 4) with
    | some p, some q =>
      if off % 8 ≠ 0 then none
      else if p.size = 8 then some (s.writeReg k i2c p.reg p.inst (v % 2 ^ 64))
      else some ((s.writeWord k i2c p (v % 2 ^ 32)).writeWord k i2c q (v / 2 ^ 32 % 2 ^ 32))
    | _, _ => none
  else match regAt off with
    | some p => if off % 4 = 0 then some (s.writeWord k i2c p v) else none
    | none => none

/-- BAR0_WRITE (R6, R8, R10, R305, R606). -/
def execBar0Write (k : ChipId) (off : Nat) (wide : Bool) (v : Nat) (s : State) : Out :=
  occurs (s.chip k).linkUp s ((s.writeBar0 k false wide off v).getD (s.onChip k Chip.badBar0))

/-- MGMT_I2C_ACCESS (R140, R702): over the slot's management I2C, a write of the offset and four data bytes, or of the offset
and a read of four bytes. -/
def execMgmtI2cAccess (k : ChipId) (off : Nat) (v : Option Nat) (s : State) : Out :=
  let s0 := s.onChip k (fun c => c.onHif (fun h => { h with i2cOffset := off }))
  let c := s0.chip k
  let s1 := match v with
    | some x => (s0.writeBar0 k true false off x).getD (s0.onChip k Chip.badBar0)
    | none =>
      let (w, c1) := (c.readBar0 true false off).getD (0, c.badBar0)
      s0.setChip k (c1.onHif (fun h => { h with i2cData := w }))
  occurs (c.running && (s.tray.slot k).i2c) s s1

end Sys2Proof.Machine
end

