-- ==== Sys2Proof/Machine/Lamps.lean ====
section
/-! DEFINITION. The lamp board (R669 to R674, Table SVC-5): the patterns that the active TMC drives, the diagnosis of the
lamp elements, the poll of the chips and MOD_ALERT_N (R703). -/

namespace Sys2Proof.Machine

/-! ## Patterns (Table SVC-5) -/

/-- A phase module of slot `x`'s bank is missing: failed, absent or disabled. -/
def TraySlot.phaseMissing (x : TraySlot) : Bool := x.phases.any (fun b => !b) || x.shifted.any (fun b => b)

/-- The row of Table SVC-5 that slot `n`'s lamp shows: the first whose condition holds. -/
def Tray.slotPattern (t : Tray) (n : Nat) : Nat :=
  let x := t.slot n
  let started := x.seq == .on && !x.modRst
  if t.prepared == some (1, n) && t.prepReady then 1
  else if t.faulty .try_ 4 n || t.faulty .try_ 13 n || t.faulty .bru 5 n || x.lastPhase == 14 || x.lastPhase == 15 then 2
  else if x.seq == .poweringUp || x.seq == .poweringDown || (started && !x.lastReady) then 3
  else if started && x.lastReady && (x.lastBad || x.phaseMissing) then 4
  else if started && x.lastReady then 5
  else 6

/-- The locate lamp: 1 blinking, 2 steady, 0 off. -/
def Tray.locateNow (t : Tray) : Nat :=
  match t.prepared with
  | some (typ, _) => if typ ≠ 1 then 1 else if t.locate then 2 else 0
  | none => if t.locate then 2 else 0

/-- Redundancy is lost: F-SVC-07, a TRC, NVM card or flow sensor out, or the ring in half-chains. -/
def Tray.redundancyLost (t : Tray) : Bool :=
  t.faulty .svc 7 0 || t.faulty .svc 7 1 || !(t.trcDrives .a) || !(t.trcDrives .b) || !t.nvmA.present || !t.nvmB.present ||
  t.nvmA.prepared || t.nvmB.prepared || !t.flowA.counts || !t.flowB.counts || t.ring.half

/-- The tray status lamp: 1 amber, 2 green blinking, 3 green. -/
def Tray.statusNow (t : Tray) : Nat :=
  if [2, 3, 7, 10, 11].any (fun n => t.faulty .try_ n noInstance) then 1 else if t.redundancyLost then 2 else 3

/-- Element `e` is commanded lit, steady or blinking. -/
def Tray.wantsLit (t : Tray) (e : Nat) : Bool :=
  if e < 16 then
    let p := (t.slot (e / 2)).lamp
    if e % 2 = 0 then p == 3 || p == 4 || p == 5 else p == 1 || p == 2 || p == 4
  else if e = 16 then t.locatePat != 0
  else if e = 17 then t.trayPat == 2 || t.trayPat == 3
  else t.trayPat == 1

/-- An element commanded lit, or fully off: then it is UNPROVEN (R672). -/
def Lamp.command (x : Lamp) (lit : Bool) : Lamp :=
  if lit = x.lit then x else { x with lit := lit, status := if lit then x.status else .unproven, prev := none }

/-- The active TMC drives every pattern. -/
def Tray.drivePatterns (t : Tray) : Tray :=
  let t1 := { t with
    slots := t.slots.updateMany (fun _ => {}) (List.range 8) (fun n x => { x with lamp := t.slotPattern n })
    locatePat := t.locateNow, trayPat := t.statusNow }
  if t.lampBoard then
    { t1 with lamps := t1.lamps.updateMany (fun _ => {}) (List.range 19) (fun e x => x.command (t1.wantsLit e)) }
  else t1

/-! ## Diagnosis (R670 to R674, Table ELE-7) -/

/-- The set current of element `e`, in µA. -/
def setCurrent (e : Nat) : Nat := if e = 16 then 8000 else 10000

/-- The diagnosis of one on-time (R670). -/
def diagnosisOf (x : LampSense) (e : Nat) : LampStatus :=
  if x.ua * 2 < setCurrent e then .open_ else if x.mv < 500 then .short_ else .ok

/-- The status of element `e` becomes `d`: F-SVC-04 when it becomes OPEN; F-SVC-05 when it becomes SHORT, and it is driven
no more (R673). -/
def Tray.setLamp (t : Tray) (e : Nat) (x : Lamp) (d : LampStatus) : Tray :=
  let new := x.status != d
  let t1 := { t with lamps := t.lamps.set e { x with status := d, driven := x.driven && d != LampStatus.short_ } }
  (t1.faultIf (new && d == LampStatus.open_) .svc 4 e).faultIf (new && d == LampStatus.short_) .svc 5 e

/-- Element `e` is diagnosed on one on-time: two diagnoses in a row that agree change its status (R670). -/
def Tray.diagnose (t : Tray) (e : Nat) (sense : LampSense) : Tray :=
  let x := t.lamps.get {} e
  let d := diagnosisOf sense e
  let x1 := { x with last := d, prev := some d }
  if x.prev = some d then t.setLamp e x1 d else { t with lamps := t.lamps.set e x1 }

/-- Element `e` has on-times: the board is there, it is commanded lit and driven. -/
def Tray.shines (t : Tray) (e : Nat) : Bool :=
  let x := t.lamps.get {} e
  t.lampBoard && x.lit && x.driven

/-- LAMP_DIAGNOSIS (R670): the end of an on-time of `us` µs of element `e`, which LAMP_LEVEL × 20 µs bounds. -/
def execLampDiagnosis (e : LampId) (sense : LampSense) (us : Nat) (s : State) : Out :=
  occurs (s.tray.shines e && decide (40 ≤ us) && decide (us ≤ s.tray.lampLevel * 20)) s (s.onTray (fun t => t.diagnose e sense))

/-- PROOF_PULSE (R671): a lit element that had no on-time of 40 µs in the last 2 s, which the duty of LAMP_LEVEL gives
below 2 % only, is diagnosed on one 40 µs pulse, at lamp-driver time `ms`, which is e × 100 ms modulo 2 s. -/
def execProofPulse (e : LampId) (sense : LampSense) (ms : Nat) (s : State) : Out :=
  occurs (s.tray.shines e && decide (s.tray.lampLevel * 20 < 40) && decide (ms % 2000 = 100 * e.val)) s (s.onTray (fun t => t.diagnose e sense))

/-- LAMP_TEST lights element `e` for 500 ms, driven whatever it was: many on-times, so its diagnosis becomes its status;
then its pattern resumes (R672 to R674). -/
def Tray.testLamp (t : Tray) (e : Nat) (sense : LampSense) : Tray :=
  let x := t.lamps.get {} e
  let d := diagnosisOf sense e
  let t1 := t.setLamp e { x with last := d, prev := some d, driven := true } d
  { t1 with lamps := t1.lamps.update {} e (fun y => if y.lit then y else { y with status := .unproven, prev := none }) }

/-! ## The poll of the chips (R669) and MOD_ALERT_N (R703) -/

/-- What the active TMC reads of chip `c` over the management I2C: PHASE, READY, a region RETIRED or ISOLATED, the level of
MOD_ALERT_N. -/
def TraySlot.readChip (x : TraySlot) (c : Chip) : TraySlot :=
  { x with
    lastPhase := c.bru.phase.code, lastReady := c.bru.ready, lastPower := c.powerStatus, alert := c.alert
    lastBad := allRegions.any (fun r => (c.region r).status == .retired || (c.region r).status == .isolated) }

/-- The TMC can read the chip of slot `n`: its segment is connected and the chip answers (R702, Table TRY-5). -/
def State.readable (s : State) (n : Nat) : Bool := (s.tray.slot n).i2c && (s.chip n).running

/-- LAMP_POLL (R669): once a second the active TMC reads every powered chip and drives the patterns. -/
def execLampPoll (s : State) : Out :=
  let t := (List.range 8).foldl (fun (t : Tray) n =>
    if s.readable n then t.onSlot n (fun x => x.readChip (s.chip n)) else t) s.tray
  occurs s.tray.role.isSome s { s with tray := t.drivePatterns }

/-- MOD_ALERT (R703): MOD_ALERT_N of slot `n` has fallen; the active TMC reads BRU.STATUS and PWR.STATUS. -/
def execModAlert (n : SlotId) (s : State) : Out :=
  let c := s.chip n
  occurs (s.tray.role.isSome && s.readable n && c.alert && !(s.tray.slot n).alert) s
    (s.onTray (fun t => t.onSlot n (fun x => { x with
      alert := true, lastPhase := c.bru.phase.code, lastReady := c.bru.ready, lastPower := c.powerStatus })))

end Sys2Proof.Machine
end

