-- ==== Sys2Proof/Machine/Matrix.lean ====
section
/-! DEFINITION. MATRIX, PRESCAN and CONVERT (R325 to R343, R346, R370 to R374, Tables OPS-5 and OPS-6). -/

namespace Sys2Proof.Machine

/-! ## Fields of MATRIX -/

def mK (d : List Nat) : Nat := field (word d 4) 0 17
def mEng (d : List Nat) : Nat := field (word d 4) 17 2
def mAFmt (d : List Nat) : Nat := field (word d 4) 19 2
def mBFmt (d : List Nat) : Nat := field (word d 4) 21 2
def mOut (d : List Nat) : Nat := field (word d 4) 23 3
def mInit (d : List Nat) : Nat := field (word d 4) 26 2
def mScale (d : List Nat) : Int := signed 7 (field (word d 4) 28 7)
def mVmax (d : List Nat) : Nat := field (word d 4) 35 5

/-- Bytes of an element of a matrix format, and of an output (R370). -/
def matElem (fmt : Nat) : Nat := if fmt = 3 then 2 else 1
def outElem (fmt : Nat) : Nat := match fmt with | 0 => 4 | 1 => 2 | 5 => 64 | _ => 1

/-- A stride field, 0 standing for eight elements (Table OPS-5). -/
def strideOr (v es : Nat) : Nat := if v = 0 then 8 * es else v
def mAStride (d : List Nat) : Nat := strideOr (field (word d 5) 0 16) (matElem (mAFmt d))
def mBStride (d : List Nat) : Nat := strideOr (field (word d 5) 16 16) (matElem (mBFmt d))
def mCStride (d : List Nat) : Nat := strideOr (field (word d 5) 32 16) (outElem (mOut d))

/-- Bytes that an operand of K steps, or an output block, covers. -/
def stepsLen (k stride es : Nat) : Nat := if k = 0 then 0 else (k - 1) * stride + 8 * es
def mALen (d : List Nat) : Nat := stepsLen (mK d) (mAStride d) (matElem (mAFmt d))
def mBLen (d : List Nat) : Nat := stepsLen (mK d) (mBStride d) (matElem (mBFmt d))
def mCLen (d : List Nat) : Nat := 7 * mCStride d + 8 * outElem (mOut d)

/-- The output block is written to tile memory: not held, not a pre-scan. -/
def mWrites (d : List Nat) : Bool := decide (mOut d ≤ 5)

/-- Reserved bits of a MATRIX descriptor; words it does not use are ignored (R741). -/
def matrixReserved (d : List Nat) : Bool :=
  reservedFrom d 7 || above (word d 4) 40 || above (word d 5) 48 ||
  (mK d != 0 && (awReserved (word d 1) || awReserved (word d 2))) ||
  (mWrites d && awReserved (word d 3)) || (mInit d == 2 && mOut d != 7 && awReserved (word d 6))

/-- The addresses of a MATRIX descriptor break R368. -/
def Tile.matrixAddress (x : Tile) (d : List Nat) : Bool :=
  (mK d != 0 && (x.badLocal (word d 1) (mALen d) 64 || x.badLocal (word d 2) (mBLen d) 64)) ||
  (mWrites d && x.badLocal (word d 3) (mCLen d) 64) ||
  (mInit d == 2 && mOut d != 7 && x.badLocal (word d 6) 4096 64)

/-- The records that INIT = 2 loads, output (i, j) at place 8i + j (R370). -/
def Tile.records (x : Tile) (m : List Host.Cell) (d : List Nat) : List Rec :=
  (List.range 64).map (fun n => Rec.ofBytes (Memory.read m (x.eff (word d 6) + 64 * n) 64))

/-- The error of a MATRIX descriptor, 0 for none (R369 to R372, R741). -/
def Tile.matrixError (x : Tile) (m : List Host.Cell) (d : List Nat) : Nat :=
  let e := x.engines.get {} (mEng d)
  let fam := familyOf (mAFmt d)
  firstError
    [(matrixReserved d, eReserved),
     (decide (65536 < mK d), eCount),
     (mInit d == 3, eFormat),
     (fam != familyOf (mBFmt d), eFormat),
     (mK d == 0 && mInit d != 2, eFormat),
     (mK d == 0 && (word d 1 != 0 || word d 2 != 0), eFormat),
     (mInit d == 1 && (!e.held || e.family != fam), eFormat),
     (mOut d == 6 && e.held && mInit d != 1, eFormat),
     (x.matrixAddress d, eAddress),
     (mK d == 0 && (x.records m d).any (fun r => r.form != fam), eFormat)]

/-- Element (i, k) of A and element (k, j) of B (R370). -/
def Tile.elemA (x : Tile) (m : List Host.Cell) (d : List Nat) (i k : Nat) : Num :=
  let es := matElem (mAFmt d)
  decodeElem (mAFmt d) (Memory.readLE m (x.eff (word d 1) + k * mAStride d + i * es) es)
def Tile.elemB (x : Tile) (m : List Host.Cell) (d : List Nat) (k j : Nat) : Num :=
  let es := matElem (mBFmt d)
  decodeElem (mBFmt d) (Memory.readLE m (x.eff (word d 2) + k * mBStride d + j * es) es)

/-- The maxima ma_i and mb_j that a BF16 operation takes from VMAX (R336). -/
def Tile.maxA (x : Tile) (d : List Nat) (i : Nat) : Nat := (x.vec (mVmax d)).getD i 0 % 256
def Tile.maxB (x : Tile) (d : List Nat) (j : Nat) : Nat := (x.vec (mVmax d)).getD (8 + j) 0 % 256

/-- The anchor of output n = 8i + j (R337); zero outside BF16. -/
def Tile.anchor (x : Tile) (d : List Nat) (n : Nat) : Int :=
  if familyOf (mAFmt d) = 2 then ((x.maxA d (n / 8) + x.maxB d (n % 8) : Nat) : Int) else 0

/-- The accumulators before the first K step, with the flags of loading (R346, R372). A BF16 operation with K = 0 keeps
each record's own anchor; a held block continued under other maxima is a mismatch as a record is (log entry 16). -/
def Tile.initAccums (x : Tile) (m : List Host.Cell) (d : List Nat) : List (Accum × Nat) :=
  let fam := familyOf (mAFmt d)
  match mInit d with
  | 1 =>
    let held := (x.engines.get {} (mEng d)).accums
    (List.range 64).map (fun n =>
      let a := held.getD n {}
      if fam != 2 || a.anchor == x.anchor d n then (a, 0)
      else ({ a with w := 0, nan := true, anchor := x.anchor d n }, flMismatch))
  | 2 => ((x.records m d).zipIdx).map (fun e => e.1.load fam (if mK d = 0 then e.1.anchor else x.anchor d e.2))
  | _ => (List.range 64).map (fun n => (Accum.clear (x.anchor d n), 0))

/-- Output n = 8i + j after the K steps. -/
def Tile.accumulate (x : Tile) (m : List Host.Cell) (d : List Nat) (n : Nat) (a : Accum) : Accum :=
  let i := n / 8
  let j := n % 8
  (List.range (mK d)).foldl (fun a k =>
    a.add (familyOf (mAFmt d)) (x.maxA d i) (x.maxB d j) (x.elemA m d i k) (x.elemB m d k j)) a

/-- The block of MATRIX: 64 accumulators and the flags of loading and of R328. -/
def Tile.block (x : Tile) (m : List Host.Cell) (d : List Nat) : List Accum × Nat :=
  let start := x.initAccums m d
  let out := (start.zipIdx).map (fun e => x.accumulate m d e.2 e.1.1)
  let load := start.foldl (fun f e => orFlags f e.2) 0
  let big := mK d != 0 && out.any (fun a => decide (2 ^ 31 < a.count))
  (out, orFlags load (if big then flAccRange else 0))

/-- The bytes of one output and its flags. -/
def outputBytes (d : List Nat) (a : Accum) : List Byte × Nat :=
  let fam := familyOf (mAFmt d)
  if mOut d = 5 then ((a.toRec fam).bytes, 0)
  else
    let o := a.output fam (mOut d) (mScale d) (descSat d)
    (natLE (outElem (mOut d)) o.bits, o.flags)

/-- The 64 outputs written row by row, with their flags; INEXACT_WINDOW when any accumulator raised it (R342). -/
def Tile.writeBlock (x : Tile) (m : List Host.Cell) (d : List Nat) (as : List Accum) : List Host.Cell × Nat :=
  let r := (as.zipIdx).foldl (fun (acc : List Host.Cell × Nat) e =>
    let o := outputBytes d e.1
    (Memory.write acc.1 (x.eff (word d 3) + (e.2 / 8) * mCStride d + (e.2 % 8) * outElem (mOut d)) o.1, orFlags acc.2 o.2)) (m, 0)
  (r.1, orFlags r.2 (if as.any (fun a => a.inexact) then flInexact else 0))

/-- The intervals MATRIX reads and writes. -/
def Tile.matrixReads (x : Tile) (d : List Nat) : List (Nat × Nat) :=
  (if mK d = 0 then [] else [span (x.eff (word d 1)) (mALen d), span (x.eff (word d 2)) (mBLen d)]) ++
  (if mInit d = 2 && mOut d != 7 then [span (x.eff (word d 6)) 4096] else [])
def Tile.matrixWrites (x : Tile) (d : List Nat) : List (Nat × Nat) :=
  if mWrites d then [span (x.eff (word d 3)) (mCLen d)] else []

/-- K steps and line accesses counted (Table NRG-1). -/
def Tile.countMatrix (x : Tile) (d : List Nat) : Tile :=
  let x1 := if mAFmt d = 3 then { x with kstep16 := x.kstep16 + mK d } else { x with kstep8 := x.kstep8 + mK d }
  (x.matrixReads d ++ x.matrixWrites d).foldl (fun y s => y.countLines s.1 (s.2 - s.1)) x1

/-- The effect of MATRIX (R370 to R373): the block is held, or written through output conversion. -/
def Chip.doMatrix (c : Chip) (r p : Nat) (d : List Nat) : Chip :=
  let t := tileIx r p
  let x := c.tile t
  let m := c.tileMem r p
  let (as, fl) := x.block m d
  let e := x.engines.get {} (mEng d)
  let e1 : Engine := if mOut d = 6 then { held := true, family := familyOf (mAFmt d), accums := as }
    else if mInit d = 1 then { held := false, family := 0, accums := [] } else e
  let c1 := c.onTile t (fun x => { (x.countMatrix d) with engines := x.engines.set (mEng d) e1 })
  if mWrites d then
    let (m1, fo) := x.writeBlock m d as
    (c1.onTileMem r p (fun _ => m1)).raiseFlags r p (orFlags fl fo)
  else c1.raiseFlags r p fl

/-- MATRIX (R369 to R373): OUT_FMT other than 7. -/
def execMatrix (k : ChipId) (r : RegionId) (p : TileId) (s : State) : Out :=
  let c := s.chip k
  let x := c.tile (tileIx r p)
  let d := c.desc r p
  let ok := c.atOp r p 0x01 && mOut d != 7 && x.clear (x.matrixReads d) (x.matrixWrites d)
  occurs ok s (s.setChip k (c.issueOp r p (x.matrixError (c.tileMem r p) d) d (fun c => c.doMatrix r p d)))

/-! ## Pre-scan -/

/-- The larger of a maximum and the ê of a nonzero finite element (R335). -/
def maxAdj (m : Nat) (x : Num) : Nat :=
  match x with
  | .fin _ mag e => if mag = 0 then m else max m (adjExp e).toNat
  | .nan => m
  | .inf _ => m

/-- The sixteen slice maxima of a pre-scan (R335, R374); a row or column with no nonzero finite element gives 1. -/
def Tile.sliceMaxima (x : Tile) (m : List Host.Cell) (d : List Nat) : List Nat :=
  let ks := List.range (mK d)
  (List.range 8).map (fun i => ks.foldl (fun v k => maxAdj v (x.elemA m d i k)) 1) ++
  (List.range 8).map (fun j => ks.foldl (fun v k => maxAdj v (x.elemB m d k j)) 1)

/-- The error of a pre-scan (R374). -/
def Tile.prescanError (x : Tile) (d : List Nat) : Nat :=
  firstError
    [(reservedFrom d 7 || above (word d 4) 40 || above (word d 5) 48 || awReserved (word d 1) || awReserved (word d 2), eReserved),
     (decide (65536 < mK d), eCount),
     (mAFmt d != 3 || mBFmt d != 3 || mK d == 0, eFormat),
     (x.badLocal (word d 1) (mALen d) 64 || x.badLocal (word d 2) (mBLen d) 64, eAddress)]

/-- PRESCAN (R335, R374): MATRIX with OUT_FMT 7 writes the slice maxima into VMAX, zero above lane 15. -/
def execPrescan (k : ChipId) (r : RegionId) (p : TileId) (s : State) : Out :=
  let c := s.chip k
  let x := c.tile (tileIx r p)
  let d := c.desc r p
  let m := c.tileMem r p
  let ok := c.atOp r p 0x01 && mOut d == 7 && x.clear (x.matrixReads d) []
  occurs ok s (s.setChip k (c.issueOp r p (x.prescanError d) d (fun c => c.onTile (tileIx r p) (fun x =>
    (x.matrixReads d).foldl (fun y s => y.countLines s.1 (s.2 - s.1)) (x.setVec (mVmax d) (x.sliceMaxima m d))))))

/-! ## CONVERT -/

def cvN (d : List Nat) : Nat := field (word d 3) 0 24
def cvSrc (d : List Nat) : Nat := field (word d 3) 24 4
def cvDst (d : List Nat) : Nat := field (word d 3) 28 4

/-- The error of a CONVERT (R343, R368: its operands need element alignment). -/
def Tile.convertError (x : Tile) (d : List Nat) : Nat :=
  firstError
    [(reservedFrom d 4 || above (word d 3) 32 || awReserved (word d 1) || awReserved (word d 2), eReserved),
     (cvN d == 0, eCount),
     (!convertible (cvSrc d) (cvDst d), eFormat),
     (x.badLocal (word d 1) (cvN d * elemBytes (cvSrc d)) (elemBytes (cvSrc d)) ||
      x.badLocal (word d 2) (cvN d * elemBytes (cvDst d)) (elemBytes (cvDst d)), eAddress)]

/-- Element `i` of `m` at `src` converted. -/
def convertAt (m : List Host.Cell) (src sf df : Nat) (sat : Bool) (i : Nat) :=
  convertElem sf df sat (Memory.readLE m (src + i * elemBytes sf) (elemBytes sf))

/-- The elements converted: memory and flags. All are read first or, with `seq`, one after another in ascending order. Where source
and destination overlap the spec does not say which, and `seq` is a free choice (log entry 17). -/
def convertRun (m : List Host.Cell) (src dst sf df n : Nat) (sat seq : Bool) : List Host.Cell × Nat :=
  (List.range n).foldl (fun acc i =>
    let o := convertAt (if seq then acc.1 else m) src sf df sat i
    (Memory.write acc.1 (dst + i * elemBytes df) (natLE (elemBytes df) o.bits), orFlags acc.2 o.flags)) (m, 0)

/-- CONVERT (R343, Table OPS-4): N elements from SRC to DST in tile memory. -/
def execConvert (k : ChipId) (r : RegionId) (p : TileId) (s : State) : Out :=
  let c := s.chip k
  let x := c.tile (tileIx r p)
  let d := c.desc r p
  let a := x.eff (word d 1)
  let b := x.eff (word d 2)
  let la := cvN d * elemBytes (cvSrc d)
  let lb := cvN d * elemBytes (cvDst d)
  let seq := decide (Config.free s.fresh % 2 = 1)
  let (m1, fl) := convertRun (c.tileMem r p) a b (cvSrc d) (cvDst d) (cvN d) (descSat d) seq
  let ok := c.atOp r p 0x03 && x.clear [span a la] [span b lb]
  occurs ok s { (s.setChip k (c.issueOp r p (x.convertError d) d (fun c =>
    ((c.onTileMem r p (fun _ => m1)).raiseFlags r p fl).onTile (tileIx r p) (fun y => (y.countLines a la).countLines b lb))))
      with fresh := s.fresh + 1 }

end Sys2Proof.Machine
end

