-- ==== Sys2Proof/Machine/Tray.lean ====
section
/-! DEFINITION. The commands of chapter 01 and of the slot sequences of chapter 06: slots, reference cards, NVM cards,
the switch, the flow guard, the tray start. -/

namespace Sys2Proof.Machine

/-- SLOT_OCCUPIED (R14, R56, R676): both presence pins low for 50 ms. `m` is what a newly inserted module brings; with
`none` the module that was pulled is back. -/
def execSlotOccupied (n : SlotId) (m : Option ModuleNv) (s : State) : Out :=
  let x := s.tray.slot n
  let s1 := match m with
    | some nv => s.setChip n { flash := Memory.ofCells nv.flash, otp := nv.otp }
    | none => s
  let t := s1.tray.onSlot n (fun x =>
    { x with presEarly := false, presLate := false, occupied := true, wantOn := decide (6 ≤ s.tray.start) && s.tray.slotEnabled n })
  let t := if t.prepared = some (1, n.val) then { t with prepared := none, prepReady := false } else t
  occurs (!x.occupied) s { s1 with tray := t.noteStanding }

/-- PRESENCE_LOST (R14, R234, R723, Table TRY-5): the presence pins are read and one is high, so the slot is unoccupied and
its power is removed at once. Of a slot that is unoccupied already only the pins are taken. -/
def execPresenceLost (n : SlotId) (early late : Bool) (s : State) : Out :=
  let s1 := s.removePower n
  let t := (s1.tray.onSlot n (fun x => { x with presEarly := early, presLate := late, occupied := false })).clearFault
    .try_ 13 n
  let pins := s.onTray (fun t => t.onSlot n (fun x => { x with presEarly := early, presLate := late }))
  occurs (early || late) s (if (s.tray.slot n).occupied then { s1 with tray := t.fault .bru 10 n } else pins)

/-- SLOT_BYPASS_LEAVE (R20): the buffer leaves bypass in the gap between two sweeps, once the module is out of reset. -/
def execSlotBypassLeave (n : SlotId) (s : State) : Out :=
  let x := s.tray.slot n
  occurs (x.bypass && x.occupied && (s.chip n).running && !s.tray.ring.sweeping && s.tray.role.isSome) s
    (s.onTray (fun t => t.onSlot n (fun x => { x with bypass := false })))

/-- The active TMC's epoch counter stands `us` µs after the boundary of the last sweep, in the gap that the root leaves (R21). -/
def Tray.inGap (t : Tray) (us : Nat) : Bool :=
  match t.role with
  | some x => t.ring.begun && !t.ring.sweeping && (t.tmc x).time.epoch == t.ring.boundary + us && decide (25 ≤ us) && decide (us ≤ 80)
  | none => false

/-- SLOT_RESET reaches a powered slot (R21, R235): MOD_RST_N low, the chip reset by it, the ring bypassed. -/
def State.slotResetNow (s : State) (n : Nat) : State :=
  if (s.tray.slot n).seq = .on then
    (s.onTray (fun t => t.onSlot n (fun x => { x.isolate with modRst := true }))).onChip n (fun c => c.wholeReset 1)
  else s

/-- SLOT_REQUEST_DELIVER (R21): the active TMC sends the SLOT_RESET and the power-down that it holds, `us` µs after the sweep
boundary. -/
def execSlotRequestDeliver (n : SlotId) (us : Nat) (s : State) : Out :=
  let x := s.tray.slot n
  let s1 := if x.resetHeld then s.slotResetNow n else s
  occurs (s.tray.inGap us && (x.offHeld || x.resetHeld)) s
    (s1.onTray (fun t => t.onSlot n (fun y => { (if x.offHeld then y.request false else y) with offHeld := false, resetHeld := false })))

/-- Slot `n`'s breaker trips (R40, R234): the slot loses power at once and F-TRY-04 is raised. -/
def State.tripBreaker (s : State) (n : Nat) : State :=
  (s.removePower n).onTray (fun t => (t.onSlot n (fun x => { x with breaker := true })).fault .try_ 4 n)

/-- BREAKER_TRIP (R40, R234). -/
def execBreakerTrip (n : SlotId) (s : State) : Out :=
  occurs ((s.tray.slot n).counted) s (s.tripBreaker n)

/-- BUSBAR_UNDERVOLTAGE (R717): below 42 V for 1 ms counts as a breaker trip of every powered slot. -/
def execBusbarUndervoltage (mv : Nat) (s : State) : Out :=
  let s1 := s.onTray (fun t => { t with busMv := mv })
  occurs (decide (mv < 42000)) s (s.tray.poweredSlots.foldl State.tripBreaker s1)

/-- FACILITY_INPUT_LOST (R27): the TRC locks to its partner, whose output phase lies `ps` picoseconds away, or free-runs;
F-TRY-08. A partner that followed it free-runs when neither has a facility input and it is TRC A. -/
def execFacilityInputLost (c : Side) (ps : Int) (s : State) : Out :=
  let t := s.tray.setTrc c { s.tray.trc c with facility := false }
  let t := (t.takeSource c ps).takeSource c.other (-ps)
  occurs ((s.tray.trc c).present && (s.tray.trc c).facility && s.tray.standby) s { s with tray := t.fault .try_ 8 c.ix }

/-- TRC_OUTPUT_ENABLE (R30, Table TRY-7 step 4): locked within `ns` ≤ 10 ns of its source, or free-running after 300 s of
warm-up. -/
def execTrcOutputEnable (c : Side) (ns warm : Nat) (s : State) : Out :=
  let x := s.tray.trc c
  let src := s.tray.bestSource c
  let ok := if src = .own then decide (300 ≤ warm) else decide (ns ≤ 10)
  occurs (s.tray.standby && decide (4 ≤ s.tray.start) && x.present && !x.enabled && !x.prepared && ok) s
    (s.followLines { s with tray := s.tray.setTrc c { x with enabled := true, source := src, phase := if src = .own then 0 else 1000 * ns } })

/-- PPS_COMPARE (R32): F-TRY-05 when the two PPS edges differ by more than 60 ns. -/
def execPpsCompare (ns : Nat) (s : State) : Out :=
  let t := s.tray
  occurs (t.role.isSome && t.trcDrives .a && t.trcDrives .b) s
    { s with tray := if 60 < ns then t.fault .try_ 5 noInstance else t.clearFault .try_ 5 noInstance }

/-- The bytes of a card whose read-back differed are not what was written, and the spec does not say what they are: free bytes
over the `n` bytes written, the copy invalid (log entry 60). -/
def State.spoilNvm (s : State) (x : Side) (n : Nat) : State :=
  let v := s.tray.nvm x
  { s with
    tray := s.tray.setNvm x { v with valid := false, image := Memory.write v.image 0 (natLE n (Config.free s.fresh)) }
    fresh := s.fresh + 1 }

/-- The active TMC writes the image in use onto card `x` and reads it back with result `ok` (R34, R35): a valid copy, or
F-TRY-15. -/
def State.rewriteNvm (s : State) (x : Side) (ok : Bool) : State :=
  let v := s.tray.nvm x
  if ok then
    s.onTray (fun t => (t.setNvm x { v with valid := true, generation := t.image.generation, image := t.imageBytes }).clearFault .try_ 15 x.ix)
  else
    let s1 := s.spoilNvm x (2 ^ 20)
    { s1 with tray := s1.tray.faultIf (!s1.tray.faulty .try_ 15 x.ix) .try_ 15 x.ix }

/-- NVM_CARD_INSERT (R35): the active TMC writes the image in use onto the inserted card and uses the card only after
the read-back check succeeds. Before an image is in use, the card keeps what it holds. -/
def execNvmCardInsert (c : Side) (card : List Host.Cell) (ok : Bool) (s : State) : Out :=
  let t := s.tray
  let s1 := { s with tray := t.setNvm c { present := true, valid := false, generation := 0, image := Memory.ofCells card } }
  occurs (!(t.nvm c).present) s (if t.role.isSome && t.haveImage then s1.rewriteNvm c ok else s1)

/-- Every slot moves to upstream port `port` (R36). A chip whose slot moves sees a link down followed by a link up, which
resets its HIF and nothing else (R38, R638). -/
def State.moveUpstream (s : State) (port : Nat) : State :=
  let s1 := (List.range 8).foldl (fun (u : State) n =>
    if (s.tray.slot n).upstream ≠ port && (s.chip n).running && !(s.chip n).hif.perst then u.onChip n Chip.resetHif else u) s
  s1.onTray (fun t => { t with
    activeUp := port
    slots := t.slots.updateMany (fun _ => {}) (List.range 8) (fun _ x => { x with upstream := port }) })

/-- UPSTREAM_FAILOVER (R36): UP0 down for 100 ms in failover mode makes UP1 active; F-TRY-14. The switch has trained its
upstream ports (Table TRY-7 step 5). -/
def execUpstreamFailover (ms : Nat) (s : State) : Out :=
  let s1 := s.moveUpstream 1
  occurs (!s.tray.modeInForce && s.tray.activeUp == 0 && decide (100 ≤ ms) && decide (5 ≤ s.tray.start)) s
    { s1 with tray := s1.tray.fault .try_ 14 noInstance }

/-- P2P_WRITE_FORWARD (R37, Table TRY-3): the switch takes chip `k`'s oldest peer-to-peer write to the destination
slot, inside one upstream port's scope; a slot whose port reports link down takes nothing (Table TRY-5). A write out of scope
stays at the head and holds the chip's later ones back (DESIGN CHOICE: the spec is silent, log entry 61). -/
def execP2pWriteForward (k : ChipId) (s : State) : Out :=
  match (s.chip k).hif.p2pOut with
  | [] => .next s
  | (d, _, bytes) :: rest =>
    let s1 := s.onChip k (fun c => c.onHif (fun h => { h with p2pOut := rest }))
    let inScope := !s.tray.modeInForce || (s.tray.slot k).upstream == (s.tray.slot d).upstream
    let up := (s.chip d).running && !(s.tray.slot d).perst
    occurs inScope s (if up then s1.onChip d (fun c => c.onHif (fun h => { h with p2pIn := h.p2pIn ++ [bytes] })) else s1)

/-- COOLANT_STOP_ASSERT (R42, R44, R553, R722): every installed sensor below the threshold for 100 ms; `fa`, `fb` are
the highest readings of those 100 ms. The gate needs no TMC; the override does. -/
def execCoolantStopAssert (fa fb : Nat) (s : State) : Out :=
  let t := s.tray
  let low := (t.flowA.counts || t.flowB.counts) && (!t.flowA.counts || decide (fa < t.threshold)) &&
    (!t.flowB.counts || decide (fb < t.threshold))
  let t1 := { t with
    stop := true
    flowNow := min fa fb
    slots := t.slots.updateMany (fun _ => {}) (List.range 8) (fun _ x => { x with coolantN := x.counted }) }
  occurs (t.standby && !t.stop && low) s { s with tray := (t1.overrideCores).fault .try_ 2 noInstance }

/-- COOLANT_STOP_CLEAR (R43, R554, R721): flow at or above the threshold for 2 s, so the active TMC clears the stop
and releases the override; the banks hold 0.60 V until the modules' next frames. -/
def execCoolantStopClear (flow : Nat) (s : State) : Out :=
  let t := s.tray
  let t1 := { t with
    stop := false
    flowNow := flow
    slots := t.slots.updateMany (fun _ => {}) (List.range 8) (fun _ x =>
      { x with coolantN := false, retained := x.retained || x.overridden, overridden := false }) }
  occurs (t.stop && t.role.isSome && decide (t.threshold ≤ flow)) s { s with tray := t1.clearFault .try_ 2 noInstance }

/-- SLOT_POWERUP_REQUEST (R39, R40, R45, R559): flow has held for 2 s with the slot counted; the active TMC runs one
exchange that counts the slot, raises the threshold and requests the power-up; the slot's F-TRY-04 and F-BRU-05 end. At
tray start the requests follow in ascending order at least 100 ms apart; `ms` is the time since the last. -/
def execSlotPowerupRequest (n : SlotId) (flow ms : Nat) (s : State) : Out :=
  let t := s.tray
  let x := t.slot n
  let counted := t.countedSlots + flag (!x.needsFlow)
  let inOrder := decide (7 ≤ t.start) ||
    (decide (100 ≤ ms) && (List.range n.val).all (fun j => !(t.slot j).wantOn))
  let ok := t.role.isSome && decide (6 ≤ t.start) && x.wantOn && x.occupied && t.slotEnabled n &&
    decide (t.image.perModule * counted ≤ flow) && inOrder
  let t1 := t.exchange t.epoch ((List.range 8).filter (fun j => j == n.val || (t.slot j).counted))
  let t2 := ((t1.onSlot n (fun x => { x.request true with wantOn := false, breaker := false })).clearFault .try_ 4 n).clearFault .bru 5 n
  occurs ok s { s with tray := { t2 with threshold := t.image.perModule * counted, flowNow := flow } }

/-- FLOW_DISAGREE (R47): the two readings differ by more than 15 % of the greater for 1 s; F-TRY-01, no stop. A sensor that has yet
to join starts its 10 s again (R678). -/
def execFlowDisagree (fa fb : Nat) (s : State) : Out :=
  let t := s.tray
  let far := decide (15 * max fa fb < 100 * (max fa fb - min fa fb))
  let judged := t.flowA.counts && t.flowB.counts
  let t1 := if far then { t with joining := t.joining.map (fun u => if u.typ = 6 then { u with age := 0 } else u) } else t
  occurs (t.role.isSome && t.flowA.present && t.flowB.present) s
    { s with tray := if judged then (if far then t1.fault .try_ 1 noInstance else t1.clearFault .try_ 1 noInstance) else t1 }

/-- LAMP_BOARD_REMOVED (R48): every lamp is UNPROVEN; F-TRY-09. -/
def execLampBoardRemoved (s : State) : Out :=
  let t := { s.tray with
    lampBoard := false
    lamps := s.tray.lamps.updateMany (fun _ => {}) (List.range 19) (fun _ x => { x with status := .unproven, prev := none }) }
  occurs s.tray.lampBoard s { s with tray := t.noteStanding }

/-- The range of Table TRY-4 in which the condition stays, and its F-TRY code (R51). -/
def envInRange (e : EnvKind) (v : Int) : Bool :=
  match e with
  | .inlet => decide (18 ≤ v) && decide (v ≤ 40)
  | .air => decide (10 ≤ v) && decide (v ≤ 35)
  | .busbar => decide (48000 ≤ v) && decide (v ≤ 56000)

/-- The code of an out-of-range condition (R51). -/
def envCode (e : EnvKind) : Nat := match e with | .inlet => 10 | .air => 11 | .busbar => 3

/-- ENVIRONMENT_OUT_OF_RANGE (R51): a reading held for 1 s. Outside its range it raises the matching fault; back in
range it ends the fault in force (Table SVC-5). No limit changes. -/
def execEnvironmentOutOfRange (e : EnvKind) (v : Int) (s : State) : Out :=
  let t := match e with
    | .inlet => { s.tray with inletT := v }
    | .air => { s.tray with airT := v }
    | .busbar => { s.tray with busMv := v.toNat }
  occurs s.tray.role.isSome s
    { s with tray := if envInRange e v then t.clearFault .try_ (envCode e) noInstance else t.fault .try_ (envCode e) noInstance }

/-- I2C_SEGMENT_STUCK (R54): a line low for more than 25 ms disconnects the slot's segment. It is connected again at the next
release of MOD_RST_N (DESIGN CHOICE: the spec is silent, log entry 62). -/
def execI2cSegmentStuck (n : SlotId) (ms : Nat) (s : State) : Out :=
  occurs ((s.tray.slot n).i2c && decide (25 < ms)) s (s.onTray (fun t => t.onSlot n (fun x => { x with i2c := false })))

/-- PHASE_MODULE_FAIL (R16): the rail group runs on its remaining modules; F-TRY-12 of module 14n + q. -/
def execPhaseModuleFail (n : SlotId) (q : Fin 14) (s : State) : Out :=
  occurs (s.tray.standby && (s.tray.slot n).phases.getD q true) s
    (s.onTray (fun t => ({ t.onSlot n (fun x => { x with phases := x.phases.set q false }) with
      joining := t.joining.filter (fun u => u.typ != 2 || u.idx != 14 * n.val + q.val) }).fault .try_ 12 (14 * n.val + q.val)))

/-- Whether NVM card `x` holds a valid copy as the active TMC finds it (R33). -/
def Tray.copyValid (t : Tray) (x : Side) : Bool :=
  let m := t.tmc (t.role.getD .a)
  (t.nvm x).present && trayImageOk (t.nvm x).image m.keys m.revoked

/-- The tray NVM as the active TMC reads it (R33): the valid copy of the higher generation, A when equal, is used. F-TRY-06
when equal generations differ, F-TRY-15 for a copy that is invalid or absent beside a valid one, F-TRY-07 when none is valid. -/
def Tray.readNvm (t : Tray) : Tray :=
  let va := t.copyValid .a
  let vb := t.copyValid .b
  let ga := (readHeader t.nvmA.image 0).generation
  let gb := (readHeader t.nvmB.image 0).generation
  let found := fun (x : Side) (v : Bool) (g : Nat) (t : Tray) =>
    t.setNvm x { t.nvm x with valid := v, generation := if v then g else (t.nvm x).generation }
  let t0 := found .b vb gb (found .a va ga t)
  if !va && !vb then { t0.faultIf (!t0.faulty .try_ 7 noInstance) .try_ 7 noInstance with haveImage := false }
  else
    let src := if vb && (!va || decide (ga < gb)) then t.nvmB.image else t.nvmA.image
    let bad := if va then Side.b else Side.a
    let t1 := t0.clearFault .try_ 7 noInstance
    let t2 := t1.faultIf (va && vb && ga == gb && t.nvmA.image != t.nvmB.image) .try_ 6 noInstance
    let t3 := t2.faultIf ((va != vb) && !t2.faulty .try_ 15 bad.ix) .try_ 15 bad.ix
    ({ t3 with image := trayImageValues src, imageBytes := src, haveImage := true }).noteStanding

/-- NVM card `x` takes a write: it is in its place and not prepared for removal (Table SVC-6). -/
def Nvm.writable (x : Nvm) : Bool := x.present && !x.prepared

/-- The active TMC reads both copies (R33) and rewrites an invalid one by R34 (R661); `ok` is the result of its read-back. -/
def State.readNvm (s : State) (ok : Bool) : State :=
  let s1 := { s with tray := s.tray.readNvm }
  let t := s1.tray
  if !t.haveImage || (t.nvmA.valid && t.nvmB.valid) then s1
  else
    let bad := if t.nvmA.valid then Side.b else Side.a
    if (t.nvm bad).writable then s1.rewriteNvm bad ok else s1

/-- Slot `n` of the start order has been dealt with: no request is due, none waits for its sequence, no power-up runs
(Table TRY-7, step 6). -/
def TraySlot.startedUp (x : TraySlot) : Bool :=
  !x.wantOn && x.seq != .poweringUp && !(x.seq == .off && x.pendReq == some true)

/-- TRAY_START (R58, Table TRY-7): the tray takes the next step of its start order once the condition of the step
before it holds. `ok` is the read-back of a copy that step 3 rewrites. -/
def execTrayStart (ok : Bool) (s : State) : Out :=
  let t := s.tray
  match t.start with
  | 0 => .next { s with tray := { t with
      standby := true, start := 1
      tmcA := { t.tmcA with checked := t.tmcA.present, ready := t.tmcA.present }
      tmcB := { t.tmcB with checked := t.tmcB.present, ready := t.tmcB.present } } }
  | 1 => occurs t.standby s { s with tray := { t with start := 2 } }
  | 2 => occurs t.role.isSome s ((s.readNvm ok).onTray (fun u => { u with start := 3 }))
  | 3 =>
    if t.haveImage then
      .next { s with tray := { (t.takeSource .a 0).takeSource .b 0 with start := 4 } }
    else .next (s.readNvm ok)
  | 4 => occurs (t.trcDrives .a || t.trcDrives .b) s
      { s with tray := { t with
        start := 5, modeInForce := t.image.split, activeUp := 0
        slots := t.slots.updateMany (fun _ => {}) (List.range 8) (fun n x =>
          { x with upstream := if t.image.split then t.image.slotPort.getD n 0 else 0 }) } }
  | 5 => .next { s with tray := { t with
      start := 6
      slots := t.slots.updateMany (fun _ => {}) (List.range 8) (fun n x =>
        { x with wantOn := x.occupied && t.slotEnabled n }) } }
  | 6 => occurs ((List.range 8).all (fun n => (t.slot n).startedUp)) s { s with tray := { t with start := 7 } }
  | _ => .next s

/-- POWER_UP_SEQUENCE (R15, R226, R717, Table BRU-2): the controller accepts the pending power-up, or the next event of the
sequence takes place: a rail of steps 2 to 5, or, once MOD_RST_N is released, the I2C buffer of step 8 (log entry 63). -/
def execPowerUpSequence (n : SlotId) (s : State) : Out :=
  let x := s.tray.slot n
  match x.seq with
  | .off => occurs (x.pendReq == some true && s.tray.mayPower n) s (s.onTray (fun t => t.beginPowerUp n))
  | .poweringUp => .next (s.onTray (fun t => t.onSlot n TraySlot.railUp))
  | .on => occurs (!x.modRst && !x.i2cReady) s
      (s.onTray (fun t => t.onSlot n (fun x => { x with i2cReady := true, i2c := true })))
  | .poweringDown => occurs false s s
  | .inhibited => occurs false s s

/-- RAIL_NOT_GOOD (R227, R715): the controller completes step 5, which without AUX_PG raises no VCORE rail, skips steps 6 to 9
and runs a power-down; F-BRU-05. -/
def execRailNotGood (n : SlotId) (s : State) : Out :=
  let finish := fun (x : TraySlot) =>
    if x.auxPg then x.railsUp railEvents else { x with switch_ := true, vauxEn := true, auxEn := true, modUp := 5 }
  occurs ((s.tray.slot n).seq == .poweringUp) s
    (s.onTray (fun t => ((t.onSlot n finish).beginPowerDown n).fault .bru 5 n))

/-- RAILS_STABLE (R229, R231, R232): the end point of a power-up, at which every event of steps 1 to 5 has taken place. A pending
off request starts the power-down, MOD_RST_N never released; a pending on request is dropped. The module's power-on detector
has reset the chip. -/
def execRailsStable (n : SlotId) (s : State) : Out :=
  let x := s.tray.slot n
  let s1 := s.onChip n (fun c => { c.unpowered with powered := true })
  let t := s1.tray.onSlot n (fun x => { x.railsUp railEvents with seq := .on, pendReq := none })
  occurs (x.seq == .poweringUp) s
    { s1 with tray := if x.pendReq = some false then t.beginPowerDown n else t }

/-- POWER_DOWN_SEQUENCE (R21, R228, Table BRU-3): the controller accepts the off request and the chip is held in reset, or the
next event of the sequence takes place (log entry 63). The acceptance lies in the gap of a sweep. -/
def execPowerDownSequence (n : SlotId) (s : State) : Out :=
  let x := s.tray.slot n
  match x.seq with
  | .on =>
    let s1 := s.onTray (fun t => (t.beginPowerDown n).onSlot n (fun x => { x with pendReq := none }))
    occurs (x.pendReq == some false && !s.tray.ring.sweeping) s
      (s1.onChip n (fun c => { c.wholeReset 1 with hif := { perst := true } }))
  | .poweringDown => .next (s.onTray (fun t => t.onSlot n TraySlot.railDown))
  | .off => occurs false s s
  | .poweringUp => occurs false s s
  | .inhibited => occurs false s s

/-- SLOT_FULLY_OFF (R46, R231, R233): the end point of a power-down, every rail off. A pending off request is dropped, a pending
on request waits for the 200 ms to pass, and the threshold is lowered. -/
def execSlotFullyOff (n : SlotId) (s : State) : Out :=
  let x := s.tray.slot n
  let s1 := s.onChip n Chip.unpowered
  let t := s1.tray.onSlot n (fun x =>
    { x.dark with seq := .inhibited, pendReq := if x.pendReq = some true then some true else none })
  occurs (x.seq == .poweringDown) s { s1 with tray := t.setThreshold }

/-- POWERUP_INHIBIT_END (R233): 200 ms after fully off a pending on request starts its power-up. -/
def execPowerupInhibitEnd (n : SlotId) (s : State) : Out :=
  let x := s.tray.slot n
  let t := s.tray.onSlot n (fun x => { x with seq := .off })
  occurs (x.seq == .inhibited) s
    { s with tray := if x.pendReq = some true && t.mayPower n then t.beginPowerUp n else t }

/-- VID_FRAME (R712, R713, R721, R724): the bank applies a frame of odd parity with bits [5:1] zero and a code of 40 to
160, unless the TMC's override holds. -/
def execVidFrame (n : SlotId) (frame : BitVec 16) (s : State) : Out :=
  let v := frame.toNat
  let island := field v 14 2
  let code := field v 6 8
  let odd := ((List.range 16).filter (fun i => bit v i)).length % 2 = 1
  let valid := decide odd && field v 1 5 == 0 && decide (40 ≤ code) && decide (code ≤ 160)
  let x := s.tray.slot n
  occurs (valid && x.counted && !x.overridden) s
    (s.onTray (fun t => t.onSlot n (fun x => { x.setCore island code with retained := false })))

/-- METER_LINK_LOCK (R707): the receiver behind node `node` gains or loses lock; a reverse link is named 17 + node. -/
def execMeterLinkLock (node : NodeId) (rev lock : Bool) (s : State) : Out :=
  let l := node.val + if rev then 17 else 0
  .next (s.onTray (fun t => { t with ring := { t.ring with
    unlocked := if lock then removeAll t.ring.unlocked l else insertOnce t.ring.unlocked l } }))

/-- TRC_SOURCE_GAINED (R27, R29): a better source appears (`fac`: its own facility input has returned), `ps` picoseconds from the
output phase; the TRC takes it and slews its phase toward it. -/
def execTrcSourceGained (c : Side) (fac : Bool) (ps : Int) (s : State) : Out :=
  let x := s.tray.trc c
  let t := s.tray.setTrc c { x with facility := x.facility || fac }
  let t1 := t.takeSource c ps
  occurs (s.tray.standby && x.present && decide ((t.bestSource c).rank < x.source.rank)) s
    { s with tray := if fac then t1.clearFault .try_ 8 c.ix else t1 }

/-- TRC_PARTNER_LOST (R27): a TRC locked to its partner falls back to its own oscillator. -/
def execTrcPartnerLost (c : Side) (s : State) : Out :=
  let x := s.tray.trc c
  occurs (x.present && x.source == .partner && !s.tray.trcDrives c.other) s
    { s with tray := s.tray.setTrc c { x with source := .own, phase := 0 } }

end Sys2Proof.Machine
end

