-- ==== Sys2Proof/Machine/Units.lean ====
section
/-! DEFINITION. Preparing, removing, inserting and joining the tray's units (R675 to R678, R682, R683, R685, Tables SVC-6 and
SVC-7), by TYPE and INDEX of Table SVC-6. -/

namespace Sys2Proof.Machine

/-- The standby TMC `y` is there, READY and sends heartbeats to the active one (R656). -/
def Tray.standbyGood (t : Tray) (y : Side) : Bool :=
  let m := t.tmc y
  m.present && m.ready && decide ((t.tmc y.other).missed < 3)

/-- F-SVC-07 is in force while there is no READY standby (R656). INSTANCE is the standby's index. -/
def Tray.checkStandby (t : Tray) : Tray :=
  match t.role with
  | none => t
  | some x =>
    let y := x.other
    let t0 := t.clearFault .svc 7 x.ix
    if t0.standbyGood y then t0.clearFault .svc 7 y.ix
    else t0.faultIf (!t0.faulty .svc 7 y.ix) .svc 7 y.ix

/-! ## Preparation (Table SVC-6) -/

/-- The positions of the rail group of phase module `q` of a bank: three for each island, two auxiliary. -/
def railGroupOf (q : Nat) : List Nat := if q < 12 then [q / 3 * 3, q / 3 * 3 + 1, q / 3 * 3 + 2] else [12, 13]

/-- Phase module `q` of slot `x` is there and carries current. -/
def TraySlot.phaseGood (x : TraySlot) (q : Nat) : Bool := x.phases.getD q true && !x.shifted.getD q false

/-- The unit is in its place. -/
def Tray.unitPresent (t : Tray) (typ i : Nat) : Bool :=
  match typ with
  | 1 => (t.slot i).occupied
  | 2 => (t.slot (i / 14)).phases.getD (i % 14) true
  | 3 => (t.tmc (Side.ofIx i)).present
  | 4 => (t.trc (Side.ofIx i)).present
  | 5 => (t.nvm (Side.ofIx i)).present
  | 6 => (t.flow (Side.ofIx i)).present
  | _ => t.lampBoard

/-- The condition of Table SVC-6 under which the unit's preparation is refused; R683 for a TMC in a pending handover. -/
def Tray.prepareBarred (t : Tray) (typ i : Nat) : Bool :=
  match typ with
  | 2 => (railGroupOf (i % 14)).any (fun q => q != i % 14 && !(t.slot (i / 14)).phaseGood q)
  | 3 => t.role == some (Side.ofIx i) || t.hand != .none
  | 4 => !t.trcDrives (Side.ofIx i).other
  | 5 => !((t.nvm (Side.ofIx i).other).present && (t.nvm (Side.ofIx i).other).valid) || t.nvmWrite.isSome
  | 6 => !(t.flow (Side.ofIx i).other).counts
  | _ => false

/-- UNIT_PREPARE is refused with F-SVC-06 (R675). -/
def Tray.prepareRefused (t : Tray) (typ i : Nat) : Bool :=
  !t.unitPresent typ i || t.prepared.isSome || t.prepareBarred typ i

/-- The action of Table SVC-6. -/
def Tray.prepareUnit (t : Tray) (typ i : Nat) : Tray :=
  let x := Side.ofIx i
  let t1 := match typ with
    | 1 => t.onSlot i (fun y => { y with offHeld := true, wantOn := false })
    | 2 => t.onSlot (i / 14) (fun y => { y with shifted := y.shifted.set (i % 14) true })
    | 3 => t.onTmc x (fun m => { m with prepared := true, ready := false, beats := 0 })
    | 4 => t.setTrc x { t.trc x with prepared := true, enabled := false }
    | 5 => t.setNvm x { t.nvm x with prepared := true }
    | 6 => t.setFlow x { t.flow x with prepared := true }
    | _ => t
  ({ t1 with prepared := some (typ, i), prepReady := false, prepAge := 0 }).checkStandby

/-- The prepared unit returns to service (R676, UNIT_RESUME): a chip module by R45, a TRC by R30, a TMC by R651, an NVM card
with the image in use written onto it (R35). -/
def Tray.resumeUnit (t : Tray) (typ i : Nat) : Tray :=
  let x := Side.ofIx i
  let t1 := match typ with
    | 1 => t.onSlot i (fun y => { y with wantOn := true })
    | 2 => t.onSlot (i / 14) (fun y => { y with shifted := y.shifted.set (i % 14) false })
    | 3 => t.onTmc x (fun m => { m with prepared := false })
    | 4 => t.setTrc x { t.trc x with prepared := false }
    | 5 =>
      t.setNvm x (if t.haveImage && (t.nvm x).generation != t.image.generation then
        { t.nvm x with prepared := false, valid := true, generation := t.image.generation, image := t.imageBytes }
      else { t.nvm x with prepared := false })
    | 6 => t.setFlow x { t.flow x with prepared := false }
    | _ => t
  { t1 with prepared := none, prepReady := false }

/-- The ready-to-remove condition (Table SVC-6): a chip module's slot is fully off; the group of a phase module has carried the
full load for 10 ms after the 5 ms shift; a TRC's outputs have been off for 10 ms; any other unit at once. -/
def Tray.readyToRemove (t : Tray) (typ i : Nat) : Bool :=
  match typ with
  | 1 => (t.slot i).seq == .off || (t.slot i).seq == .inhibited
  | 2 => decide (15000 ≤ t.prepAge)
  | 4 => decide (10000 ≤ t.prepAge)
  | _ => true

/-- UNIT_READY_TO_REMOVE (R675): the prepared unit meets its condition. -/
def execUnitReadyToRemove (s : State) : Out :=
  match s.tray.prepared with
  | none => occurs false s s
  | some (typ, i) => occurs (s.tray.role.isSome && !s.tray.prepReady && s.tray.readyToRemove typ i) s
      (s.onTray (fun t => { t with prepReady := true, prepAge := 0 }))

/-- PREPARE_TIMEOUT (R676): a prepared unit other than a chip module is still there 600 s after it became ready; F-SVC-10. -/
def execPrepareTimeout (s : State) : Out :=
  match s.tray.prepared with
  | none => occurs false s s
  | some (typ, i) =>
    occurs (s.tray.role.isSome && typ != 1 && s.tray.prepReady && decide (600000000 ≤ s.tray.prepAge) && s.tray.unitPresent typ i) s
      (s.onTray (fun t => (t.resumeUnit typ i).fault .svc 10 i))

/-! ## Removal (R677) -/

/-- What the tray forgets of a prepared unit that has gone. -/
def Tray.forget (t : Tray) (typ i : Nat) : Tray :=
  let t1 := { t with joining := t.joining.filter (fun u => u.typ != typ || u.idx != i) }
  if t.prepared = some (typ, i) then { t1 with prepared := none, prepReady := false } else t1

/-- The unit is withdrawn: the active TMC leaves the role to the latch, an absent NVM copy is F-TRY-15. -/
def Tray.removeUnit (t : Tray) (typ i : Nat) : Tray :=
  let x := Side.ofIx i
  match typ with
  | 3 =>
    let m := t.tmc x
    let t1 := t.setTmc x { present := false, roleGen := m.roleGen, keys := m.keys, revoked := m.revoked }
    if t.role = some x then
      { t1 with
        role := none, hand := .none, handMsg := none, heldCmds := []
        ring := { t1.ring with sweeping := false, begun := false } }
    else t1.checkStandby
  | 4 => (t.setTrc x { present := false, facility := false, source := .own }).clearFault .try_ 8 i
  | 5 => (t.setNvm x { present := false }).faultIf (t.role.isSome && !t.faulty .try_ 15 i) .try_ 15 i
  | 6 => t.setFlow x { present := false, voting := false }
  | _ => t

/-- UNIT_REMOVED (R59, R677): a TMC, TRC, NVM card or flow sensor is withdrawn; the chips lose a removed TRC's lines. A chip module, a phase module and the lamp
board have rows of their own. -/
def execUnitRemoved (typ idx : Nat) (s : State) : Out :=
  occurs (s.tray.standby && decide (3 ≤ typ) && decide (typ ≤ 6) && s.tray.unitPresent typ idx) s
    (s.followLines (s.onTray (fun t => (t.removeUnit typ idx).forget typ idx)))

/-! ## Insertion and joining (R678, Table SVC-7) -/

/-- A newly inserted unit is detected. A chip module's pins read low and R14 decides; an NVM card's content comes with
NVM_CARD_INSERT (R35). -/
def Tray.insertUnit (t : Tray) (typ i : Nat) : Tray :=
  let x := Side.ofIx i
  let t1 := match typ with
    | 1 => t.onSlot i (fun y => { y with presEarly := false, presLate := false })
    | 3 => t.onTmc x (fun m => { present := true, keys := m.keys, revoked := m.revoked })
    | 4 =>
      let t0 := t.setTrc x { present := true, facility := true, enabled := false }
      t0.setTrc x { t0.trc x with source := t0.bestSource x }
    | 6 => t.setFlow x { present := true, voting := false }
    | 7 => { t with lampBoard := true, lamps := {} }
    | _ => t
  { t1 with joining := t1.joining.filter (fun u => u.typ != typ || u.idx != i) ++ [{ typ := typ, idx := i }] }

/-- UNIT_INSERT (R678). -/
def execUnitInsert (typ idx : Nat) (s : State) : Out :=
  occurs (s.tray.standby && !s.tray.unitPresent typ idx) s (s.onTray (fun t => t.insertUnit typ idx))

/-- The joining condition of Table SVC-7 for a unit that has waited `age` epochs: a phase module soft-starts 100 ms after
detection and F-TRY-12 ends 1 s later; a flow sensor has read within 15 % of its partner for 10 s. -/
def State.joins (s : State) (typ i age : Nat) : Bool :=
  match typ with
  | 2 => decide ((if (s.tray.slot (i / 14)).phases.getD (i % 14) true then 1000000 else 100000) ≤ age)
  | 6 => decide (10000000 ≤ age)
  | 1 => (s.tray.slot i).seq == .on && (s.chip i).running && !(s.tray.slot i).bypass
  | 4 => s.tray.trcDrives (Side.ofIx i)
  | 5 => (s.tray.nvm (Side.ofIx i)).present && (s.tray.nvm (Side.ofIx i)).valid
  | _ => true

/-- The unit enters service (Table SVC-7). The first TMC of a tray that has had no active one asserts READY at once
(R651). -/
def Tray.joinUnit (t : Tray) (typ i : Nat) : Tray :=
  let x := Side.ofIx i
  let t1 := match typ with
    | 2 => t.clearFault .try_ 12 i
    | 3 => t.onTmc x (fun m => { m with checked := true, ready := !t.everHeld })
    | 6 => t.setFlow x { t.flow x with voting := true }
    | 7 => t.drivePatterns.clearFault .try_ 9 noInstance
    | _ => t
  (t1.forget typ i).checkStandby

/-- The bank node soft-starts phase module `i`, whose current is judged from now on (Table SVC-7). -/
def Tray.softStart (t : Tray) (i : Nat) : Tray :=
  let t1 := t.onSlot (i / 14) (fun y => { y with phases := y.phases.set (i % 14) true, shifted := y.shifted.set (i % 14) false })
  { t1 with joining := t1.joining.map (fun u => if u.typ = 2 ∧ u.idx = i then { u with age := 0 } else u) }

/-- UNIT_JOIN (R678): a unit that joins does so at its time. A phase module takes two: its soft start, and the end of
F-TRY-12. -/
def execUnitJoin (typ idx : Nat) (s : State) : Out :=
  let t := s.tray
  match t.joining.find? (fun u => u.typ == typ && u.idx == idx) with
  | none => occurs false s s
  | some u => occurs (s.joins typ idx u.age) s
      { s with tray := if typ = 2 && !(t.slot (idx / 14)).phases.getD (idx % 14) true then t.softStart idx else t.joinUnit typ idx }

end Sys2Proof.Machine
end

