-- ==== Sys2Proof/WellFormed.lean ====
section
/-! DEFINITION. Which commands are well formed: the operand ranges that the operand types do not already fix. -/

namespace Sys2Proof

/-- The payload is LEN × 64 bytes (R196) and the head flit's fields fit their widths (Tables SPN-2 and SPN-3). -/
def Msg.shaped (m : Msg) : Bool :=
  decide (m.data.length = 64 * m.len) && decide (m.len < 8) && decide (m.src < 94) && decide (m.dst < 128) &&
  decide (m.tag < 256) && decide (m.wseq < 4096) && decide (m.op < 256) && decide (m.addr < 2 ^ 40) &&
  decide (m.rlen < 16) && decide (m.arg < 2 ^ 172) && decide (m.stamp < 2 ^ 20) && decide (m.status < 16)

/-- The voltage points of a part as Walpel test leaves them (R543): points 0 to 29 of every island have codes from 40 to 160 that
never decrease, points 30 and 31 are 0. A part that does not meet this is never shipped. -/
def Otp.shipped (o : Otp) : Bool :=
  (List.range 4).all (fun i =>
    let v := fun (j : Nat) => o.vf.get 0 (32 * i + j)
    (List.range 30).all (fun j => decide (40 ≤ v j) && decide (v j ≤ 160) && (j == 0 || decide (v (j - 1) ≤ v j))) &&
    v 30 == 0 && v 31 == 0)

/-- SEQ of a management frame is 4 bytes (Table SVC-3). -/
def MgmtReq.ok (q : MgmtReq) : Bool := decide (q.seq < 2 ^ 32)

/-- TYPE and INDEX name a unit of Table SVC-6. -/
def UnitId.known (typ idx : Nat) : Bool :=
  match typ with
  | 1 => decide (idx < 8)
  | 2 => decide (idx < 112)
  | 3 => decide (idx < 2)
  | 4 => decide (idx < 2)
  | 5 => decide (idx < 2)
  | 6 => decide (idx < 2)
  | 7 => decide (idx < 1)
  | _ => false

/-- The command's operands are in the ranges the spec gives them. -/
def Instr.wf (i : Instr) : Bool :=
  match i with
  | .slotOccupied _ m => m.all (fun x => x.otp.shipped)
  | .presenceLost _ _ _ => true
  | .slotBypassLeave _ => true
  | .slotRequestDeliver _ _ => true
  | .breakerTrip _ => true
  | .busbarUndervoltage _ => true
  | .facilityInputLost _ _ => true
  | .trcOutputEnable _ _ _ => true
  | .ppsCompare _ => true
  | .nvmCardInsert _ _ _ => true
  | .upstreamFailover _ => true
  | .p2pWriteForward _ => true
  | .coolantStopAssert _ _ => true
  | .coolantStopClear _ => true
  | .slotPowerupRequest _ _ _ => true
  | .flowDisagree _ _ => true
  | .lampBoardRemoved => true
  | .environmentOutOfRange _ _ => true
  | .i2cSegmentStuck _ _ => true
  | .phaseModuleFail _ _ => true
  | .trayStart _ => true
  | .powerUpSequence _ => true
  | .railNotGood _ => true
  | .railsStable _ => true
  | .powerDownSequence _ => true
  | .slotFullyOff _ => true
  | .powerupInhibitEnd _ => true
  | .powerOnReset _ => true
  | .modRstAssert _ => true
  | .startBegin _ => true
  | .startPhaseAdvance _ => true
  | .selftestComplete _ _ => true
  | .channelTrainingFail _ _ => true
  | .readyPoint _ => true
  | .startTimeout _ => true
  | .perstRelease _ => true
  | .restart _ _ => true
  | .epochBoundary _ cycles => decide (cycles.length ≤ 72)
  | .frameTick _ => true
  | .ppsEdge _ _ pos cycles => decide (pos < 101) && decide (cycles.length ≤ 72)
  | .ppsHoldEnd _ cycles => decide (cycles.length ≤ 72)
  | .ppsLost _ => true
  | .epochLoadArm _ _ => true
  | .refSwitch _ => true
  | .referenceInvalid _ _ _ duty => duty.all (fun p => decide (p ≤ 1000))
  | .freqWindowEnd _ _ _ => true
  | .referenceQualified _ _ => true
  | .freqHoldEnd _ => true
  | .refPllLocked _ => true
  | .holdoverExit _ => true
  | .holdoverTimeout _ => true
  | .noReferenceTimeout _ => true
  | .guardCalibrate _ => true
  | .generatorStart _ _ => true
  | .calComplete _ _ => true
  | .generatorLocked _ _ => true
  | .lockLost _ _ => true
  | .stretchEvent _ _ _ => true
  | .generatorJitterFault _ _ duty _ => duty.all (fun p => decide (p ≤ 1000))
  | .stepVoltageRaise _ => true
  | .stepRailCheck _ uv => decide (uv.length = 4)
  | .stepSlewStart _ => true
  | .stepSubstep _ j => decide (1 ≤ j) && decide (j ≤ 15)
  | .stepSlewEnd _ => true
  | .stepLowerDone _ => true
  | .stepCancelSettled _ => true
  | .gangSkewFault _ _ _ _ => true
  | .gangSkewHalt _ _ _ _ cycles => decide (cycles.length ≤ 72)
  | .gangMemberDeskewed _ _ _ _ => true
  | .gangDissolveApply _ _ => true
  | .gangDissolveTimeout _ _ => true
  | .tileFailed _ _ _ => true
  | .memoryUe _ _ _ off _ _ _ => decide (off < 0x180000) && decide (off % 64 = 0)
  | .residueError _ _ _ => true
  | .sequencerHang _ _ _ => true
  | .scrubLine _ _ _ _ => true
  | .ceRateFault _ _ _ => true
  | .xngCalibration _ trips => decide (trips.length = 288)
  | .xngCalibrationDone _ => true
  | .xngCalibrationTimeout _ => true
  | .queuePush _ _ _ _ => true
  | .queuePop _ _ _ _ => true
  | .fixedItemRelease _ _ _ _ _ _ => true
  | .regionIsolate _ _ => true
  | .isolationSinkAccept _ _ _ => true
  | .queueReset _ _ _ => true
  | .queueRipSeen _ _ _ => true
  | .queueAckSeen _ _ _ => true
  | .handshakeTimeout _ _ => true
  | .isolationEnd _ _ => true
  | .spineStartCheck _ back => decide (back.length = 288)
  | .messageInject _ m _ => m.shaped
  | .routerForward _ _ _ => true
  | .rspArrive _ _ => true
  | .rspTimeout _ _ tag => decide (tag < 256)
  | .wseqResync _ _ => true
  | .flitUncorrectable _ _ _ => true
  | .laneStallTimeout _ _ _ _ => true
  | .linkCeRate _ _ _ _ => true
  | .commit _ => true
  | .commitCancel _ => true
  | .stage _ => true
  | .stageComplete _ => true
  | .abandon _ => true
  | .commitApply _ _ => true
  | .rollStepStart _ => true
  | .rollStepApply _ _ => true
  | .rollForcedDrain _ => true
  | .rollSingleTimeout _ => true
  | .rollStepEnd _ => true
  | .tileWrite _ _ => true
  | .tileRead _ _ => true
  | .start _ _ => true
  | .matrix _ _ _ => true
  | .prescan _ _ _ => true
  | .convert _ _ _ => true
  | .move _ _ _ => true
  | .gather _ _ _ => true
  | .scatter _ _ _ => true
  | .selectSkewer _ _ _ => true
  | .selectColander _ _ _ => true
  | .collectiveArm _ _ _ => true
  | .collectiveSend _ _ _ => true
  | .collectiveWait _ _ _ => true
  | .collectiveDisarm _ _ _ => true
  | .collectiveTimeout _ _ _ => true
  | .collect _ _ => true
  | .collectResend _ _ _ => true
  | .signalAdd _ _ _ => true
  | .signalSet _ _ _ => true
  | .wait _ _ _ => true
  | .waitRetry _ _ _ => true
  | .waitReservationTimeout _ _ _ => true
  | .loop _ _ _ => true
  | .call _ _ _ => true
  | .ret _ _ _ => true
  | .fence _ _ _ => true
  | .flush _ _ => true
  | .itemEnd _ _ _ => true
  | .ld _ _ _ => true
  | .st _ _ _ => true
  | .iadd _ _ _ => true
  | .isub _ _ _ => true
  | .imul _ _ _ => true
  | .imin _ _ _ => true
  | .imax _ _ _ => true
  | .and _ _ _ => true
  | .or _ _ _ => true
  | .xor _ _ _ => true
  | .shl _ _ _ => true
  | .shr _ _ _ => true
  | .sar _ _ _ => true
  | .icmplt _ _ _ => true
  | .fadd _ _ _ => true
  | .fsub _ _ _ => true
  | .fmul _ _ _ => true
  | .fma _ _ _ => true
  | .fmin _ _ _ => true
  | .fmax _ _ _ => true
  | .fcmplt _ _ _ => true
  | .recip _ _ _ => true
  | .rsqrt _ _ _ => true
  | .sqrt _ _ _ => true
  | .exp2 _ _ _ => true
  | .log2 _ _ _ => true
  | .perm _ _ _ => true
  | .bcast _ _ _ => true
  | .lshift _ _ _ => true
  | .sel _ _ _ => true
  | .rsum _ _ _ => true
  | .rmax _ _ _ => true
  | .rmin _ _ _ => true
  | .cvt _ _ _ => true
  | .setaImm _ _ _ => true
  | .setaV _ _ _ => true
  | .evtAdd _ => true
  | .evtSet _ => true
  | .evtWaitGe _ => true
  | .ctrRead _ => true
  | .waiterTimeout _ _ tag => decide (tag < 256)
  | .evtOwnerWrite _ _ _ => true
  | .openSession _ _ => true
  | .arm _ _ => true
  | .armPredict _ _ => true
  | .confirm _ _ => true
  | .cancel _ _ => true
  | .close _ _ => true
  | .sessionRead _ _ => true
  | .modelLoad _ _ => true
  | .modelLoadCopyDone _ _ _ => true
  | .tileReload _ _ => true
  | .residencyRead _ _ => true
  | .energyRead _ _ => true
  | .energyCapture _ => true
  | .energyReadResult _ _ => true
  | .counterAdd _ _ => true
  | .counterSet _ _ => true
  | .counterWaitGe _ _ => true
  | .counterRead _ _ => true
  | .nop _ _ => true
  | .admission _ _ => true
  | .stageStart _ item => decide (item < 4096)
  | .itemEndReport _ => true
  | .runaheadDeadline _ n => decide (n < 262144)
  | .arbiterCycle _ _ _ _ => true
  | .memoryWrite _ _ => true
  | .memoryRead _ _ => true
  | .void _ _ => true
  | .readGroupComplete _ _ => true
  | .ecsRead _ _ _ => true
  | .repeatRateFault _ _ => true
  | .powerEvaluation _ act => act.idle.cells.all (fun e => decide (e.1 < 4320)) && decide (act.aux.length ≤ 5)
  | .tempSample _ temps _ cycles => decide (temps.length = 72) && decide (cycles.length ≤ 72)
  | .tripRestart _ _ => true
  | .coolantStop _ _ _ cycles => decide (cycles.length ≤ 72)
  | .coolantStopRelease _ => true
  | .coolantResumeStart _ => true
  | .grantExchange => true
  | .grantFallApply _ => true
  | .grantRiseApply _ => true
  | .grantStale _ => true
  | .sweepStart => true
  | .meterFramePass _ _ meas mv _ => decide (meas.length = 5) && decide (mv.length = 4)
  | .sweepBroken => true
  | .energyBooking _ => true
  | .gainUpdate _ => true
  | .bar0Write _ off _ v => decide (off < 0x2000000) && decide (v < 2 ^ 64)
  | .mgmtI2cAccess _ off v => decide (off < 2 ^ 24) && decide (v.getD 0 < 2 ^ 32)
  | .bar2Write _ off data en => decide (1 ≤ data.length) && decide (data.length ≤ 512) && decide (off + data.length ≤ 2 ^ 30) && decide (en.length ≤ data.length)
  | .bar2Read _ off n => decide (1 ≤ n) && decide (n ≤ 4096) && decide (off + n ≤ 2 ^ 30)
  | .cmdTailWrite _ _ _ => true
  | .cplHeadWrite _ _ _ => true
  | .commandFetch _ _ entry => decide (entry.length = 64)
  | .ringEnable _ _ => true
  | .ringDisable _ _ => true
  | .completionWrite _ _ => true
  | .holdRelease _ _ => true
  | .ringAccessError _ _ => true
  | .msixMessage _ _ => true
  | .flashProgram _ => true
  | .flashRead _ => true
  | .flashDone _ _ => true
  | .xdmaCollect _ => true
  | .inboxWrite _ data => decide (data.length = 256)
  | .inboxResend _ n => decide (n < 64)
  | .inboxExpire _ n => decide (n < 64)
  | .hifReset _ _ => true
  | .roleGrant _ => true
  | .roleFailover _ => true
  | .heartbeatSend _ => true
  | .heartbeatReceive _ => true
  | .heartbeatLost _ => true
  | .handover => true
  | .handoverMessage => true
  | .mgmtDoorbell _ frame _ _ => decide (frame.length ≤ 4096)
  | .mgmtConnect _ _ => true
  | .forwardTimeout _ => true
  | .trayStatus q => q.ok
  | .faultLog q from_ => q.ok && decide (from_ < 2 ^ 32)
  | .meterStatus q => q.ok
  | .lampStatus q => q.ok
  | .roleSwap q gen => q.ok && decide (gen < 2 ^ 32)
  | .unitPrepare q typ idx => q.ok && decide (typ < 256) && decide (idx < 256)
  | .unitReadyToRemove => true
  | .prepareTimeout => true
  | .unitResume q typ idx => q.ok && decide (typ < 256) && decide (idx < 256)
  | .unitInsert typ idx => UnitId.known typ idx
  | .unitJoin typ idx => UnitId.known typ idx
  | .slotPower q slot on => q.ok && decide (slot < 256) && decide (on < 256)
  | .slotReset q slot => q.ok && decide (slot < 256)
  | .chipRestart q slot => q.ok && decide (slot < 256)
  | .trayImageWrite q off data => q.ok && decide (off < 2 ^ 32) && decide (data.length ≤ 3968)
  | .trayImageAdopt q len _ => q.ok && decide (len < 2 ^ 32)
  | .switchUpstream q port => q.ok && decide (port < 256)
  | .timeLoad q ep => q.ok && decide (ep < 2 ^ 64)
  | .locate q on => q.ok && decide (on < 256)
  | .lampTest q samples => q.ok && decide (samples.length = 19)
  | .lampLevel q pct => q.ok && decide (pct < 256)
  | .caInstall q idx cert => q.ok && decide (idx < 256) && decide (cert.length ≤ 3000)
  | .caRemove q idx => q.ok && decide (idx < 256)
  | .lampPoll => true
  | .lampDiagnosis _ _ _ => true
  | .proofPulse _ _ _ => true
  | .modAlert _ => true
  | .vidFrame _ _ => true
  | .tileReloadCopyDone _ _ _ => true
  | .invalidOp _ _ _ => true
  | .readWithClear _ off _ => decide (off < 0x2000000)
  | .d3hotTransition _ _ => true
  | .meterLinkLock _ _ _ => true
  | .aliveToggle => true
  | .trcSourceGained _ _ _ => true
  | .trcPartnerLost _ => true
  | .unitRemoved typ idx => UnitId.known typ idx

/-- `Instr.wf` as a proposition. -/
abbrev WellFormed (i : Instr) : Prop := i.wf = true

end Sys2Proof
end

