-- ==== Sys2Proof/Machine/Mgmt.lean ====
section
/-! DEFINITION. The management commands (R662 to R668, Tables SVC-3 and SVC-4): frames, what each command does and answers,
the forwarding from a standby TMC (R666) and what waits during a handover (Table SVC-2). -/

namespace Sys2Proof.Machine

/-! ## Frames (Table SVC-3) -/

/-- OPCODE of a command. -/
def SvcCmd.opcode (c : SvcCmd) : Nat :=
  match c with
  | .trayStatus => 0x01 | .faultLog _ => 0x02 | .meterStatus => 0x03 | .lampStatus => 0x04 | .roleSwap _ => 0x10
  | .unitPrepare _ _ => 0x11 | .unitResume _ _ => 0x12 | .slotPower _ _ => 0x20 | .slotReset _ => 0x21
  | .chipRestart _ => 0x22 | .imageWrite _ _ => 0x30 | .imageAdopt _ _ => 0x31 | .switchUpstream _ => 0x40
  | .timeLoad _ => 0x41 | .locate _ => 0x50 | .lampTest _ => 0x51 | .lampLevel _ => 0x52 | .caInstall _ _ => 0x60
  | .caRemove _ => 0x61 | .bad n => n

/-- A standby TMC executes the command itself (Table SVC-4). A frame out of form goes where its OPCODE does (R666, R667). -/
def SvcCmd.either (c : SvcCmd) : Bool :=
  match c with
  | .trayStatus => true | .faultLog _ => true | .meterStatus => true | .lampStatus => true | .roleSwap _ => true
  | .unitPrepare _ _ => false | .unitResume _ _ => false | .slotPower _ _ => false | .slotReset _ => false
  | .chipRestart _ => false | .imageWrite _ _ => false | .imageAdopt _ _ => false | .switchUpstream _ => false
  | .timeLoad _ => false | .locate _ => false | .lampTest _ => false | .lampLevel _ => false | .caInstall _ _ => false
  | .caRemove _ => false | .bad n => [0x01, 0x02, 0x03, 0x04, 0x10].contains n

/-- The command that a request frame carries (Tables SVC-3 and SVC-4): a frame out of form is an unknown command. `samples`
and `reads` are what the tray finds while it runs a LAMP_TEST or a TRAY_IMAGE_ADOPT. -/
def parseFrame (fr : List Byte) (samples : List LampSense) (reads : List Bool) : SvcCmd :=
  let f := fun (o n : Nat) => leNat ((fr.drop o).take n)
  let op := f 0 2
  let ps := fr.drop 16
  let g := fun (o n : Nat) => leNat ((ps.drop o).take n)
  let len := ps.length
  let form := decide (16 ≤ fr.length) && f 2 2 == 0 && f 0x0C 4 == 0 && f 8 4 == len
  if !form then .bad op
  else match op, len with
    | 0x01, 0 => .trayStatus
    | 0x02, 4 => .faultLog (g 0 4)
    | 0x03, 0 => .meterStatus
    | 0x04, 0 => .lampStatus
    | 0x10, 4 => .roleSwap (g 0 4)
    | 0x11, 2 => .unitPrepare (g 0 1) (g 1 1)
    | 0x12, 2 => .unitResume (g 0 1) (g 1 1)
    | 0x20, 2 => .slotPower (g 0 1) (g 1 1)
    | 0x21, 1 => .slotReset (g 0 1)
    | 0x22, 1 => .chipRestart (g 0 1)
    | 0x30, _ => if len < 4 then .bad op else .imageWrite (g 0 4) (ps.drop 4)
    | 0x31, 4 => .imageAdopt (g 0 4) reads
    | 0x40, 1 => .switchUpstream (g 0 1)
    | 0x41, 8 => .timeLoad (g 0 8)
    | 0x50, 1 => .locate (g 0 1)
    | 0x51, 0 => .lampTest samples
    | 0x52, 1 => .lampLevel (g 0 1)
    | 0x60, _ => if len < 1 then .bad op else .caInstall (g 0 1) (ps.drop 1)
    | 0x61, 1 => .caRemove (g 0 1)
    | _, _ => .bad op

/-- What a command answers: STATUS, CODE and data. -/
structure Answer where
  status : Nat := 0
  code : Nat := 0
  data : List Byte := []

/-- A response frame (Table SVC-3). -/
def responseFrame (op seq : Nat) (a : Answer) : List Byte :=
  natLE 2 op ++ natLE 1 a.status ++ natLE 1 0 ++ natLE 4 seq ++ natLE 4 a.data.length ++ natLE 2 a.code ++ natLE 2 0 ++ a.data

/-- The TMC that took the request answers it: in the response buffer with DONE and the vector (R663), or on the port. -/
def Tray.respond (t : Tray) (q : MgmtReq) (op : Nat) (a : Answer) : Tray :=
  t.onTmc q.tmc (fun m => { m with
    response := responseFrame op q.seq a
    mstatus := if q.port = .switchPort then 2 else m.mstatus
    signals := if q.port = .switchPort then m.signals + 1 else m.signals })

/-- REFUSED with fault F-SVC-nn. -/
def refusedBy (nn : Nat) : Answer := { status := 1, code := codeOf .svc nn }

/-! ## The data of the status commands (their layouts: log entry 43) -/

/-- A sequence state as a number. -/
def SlotSeq.code (x : SlotSeq) : Nat :=
  match x with | .off => 0 | .poweringUp => 1 | .on => 2 | .poweringDown => 3 | .inhibited => 4

/-- The bits of a list of Booleans, the first at bit 0. -/
def maskOf (l : List Bool) : Nat := (l.zipIdx.map (fun e => if e.1 then 2 ^ e.2 else 0)).sum

/-- TRAY_STATUS as TMC `x` gives it. -/
def Tray.statusData (t : Tray) (x : Side) : List Byte :=
  let pair := fun (f : Side → Bool) => [f .a, f .b]
  let ps := t.prepared.getD (0, 0)
  natLE 1 (flag (t.role == some x)) ++ natLE 4 (t.tmc x).roleGen ++
  natLE 2 (maskOf (pair (fun y => (t.tmc y).present) ++ pair (fun y => (t.trc y).present) ++ pair (fun y => (t.nvm y).present) ++
    pair (fun y => (t.flow y).present) ++ [t.lampBoard] ++ pair (fun y => (t.tmc y).ready) ++ pair (fun y => (t.flow y).counts))) ++
  natLE 1 ps.1 ++ natLE 1 ps.2 ++ natLE 1 (flag t.prepReady) ++
  (List.range 8).flatMap (fun n =>
    let y := t.slot n
    natLE 1 (flag y.occupied) ++ natLE 1 y.seq.code ++ natLE 2 (maskOf y.phases)) ++
  natLE 4 t.flowNow ++ natLE 2 (unsigned 16 t.inletT) ++ natLE 2 (unsigned 16 t.airT) ++ natLE 4 (unsigned 32 t.busMv)

/-- One fault entry (R635). -/
def FaultEntry.bytes (x : FaultEntry) : List Byte := natLE 2 x.code ++ natLE 2 x.inst ++ natLE 4 0 ++ natLE 8 x.epoch

/-- FAULT_LOG: the entries from index `n` on that the log still holds, oldest first; an entry's index is its number of
appending. -/
def Tray.faultData (t : Tray) (n : Nat) : List Byte :=
  let first := t.logCount - t.log.length
  ((t.log.reverse.drop (n - first)).take 255).flatMap FaultEntry.bytes

/-- METER_STATUS. -/
def Tray.meterData (t : Tray) : List Byte :=
  let r := t.ring
  natLE 1 (flag r.half) ++ natLE 1 r.turnF ++ natLE 1 r.turnR ++ natLE 1 r.relay ++
  natLE 4 ((r.unreachable.map (fun n => 2 ^ n)).sum) ++ natLE 4 (r.boundary / 100)

/-- A lamp status as a number. -/
def LampStatus.code (x : LampStatus) : Nat := match x with | .unproven => 0 | .ok => 1 | .open_ => 2 | .short_ => 3

/-- LAMP_STATUS: status and LAST of every element (R48, R672). -/
def Tray.lampData (t : Tray) : List Byte :=
  (List.range 19).flatMap (fun e =>
    let x := t.lamps.get {} e
    natLE 1 (if t.lampBoard then x.status.code else 0) ++ natLE 1 x.last.code)

/-! ## The commands of the active TMC -/

/-- SLOT_POWER (R230, R684, R676): on waits for R45, off for the gap of R21; the latest holds. A prepared module stays off. -/
def Tray.slotPower (t : Tray) (n on : Nat) : Tray × Answer :=
  if 8 ≤ n || 1 < on || (on = 1 && t.prepared == some (1, n)) then (t, refusedBy 9)
  else if on = 1 then
    (t.onSlot n (fun x => { x with wantOn := true, offHeld := false }), {})
  else (t.onSlot n (fun x => { x with wantOn := false, offHeld := true }), {})

/-- The image in the first `len` bytes of the staging buffer. -/
def Tray.stagedImage (t : Tray) (len : Nat) : List Host.Cell := t.staging.filter (fun e => e.1 < len)

/-- The new image is in use (R276): slots now disabled go down, the threshold follows (R41). -/
def Tray.useImage (t : Tray) (im : List Host.Cell) : Tray :=
  let v := trayImageValues im
  ({ t with
      image := v, imageBytes := im, haveImage := true
      slots := t.slots.updateMany (fun _ => {}) (List.range 8) (fun n y =>
        if y.counted && !v.enable.getD n true then { y with offHeld := true, wantOn := false } else y) }).setThreshold.noteStanding

/-- The image of the write `w` has been put onto card `x`; until it is read back the copy is not valid. -/
def Tray.putImage (t : Tray) (x : Side) (w : NvmWrite) : Tray :=
  t.setNvm x { t.nvm x with valid := false, generation := (trayImageValues w.image).generation, image := w.image }

/-- The end of a write (R276, R680): the image is adopted, and a handover that waited is put to the next heartbeat epoch that is
at least 100 epochs away. -/
def State.finishWrite (s : State) (x : Side) (im : List Host.Cell) (good : Bool) : State :=
  let e := (s.tray.tmc x).time.epoch
  let t := if good then s.tray.useImage im else s.tray
  { s with tray := { t with
      nvmWrite := none, handDefer := false
      handAt := if t.handDefer then (e + 100 + 4999) / 10000 * 10000 + 5000 else t.handAt } }

/-- The write goes on (R34): each element of `reads` is the result of the next read-back. The card written first is read back,
then the other is written and read back. A first read-back that fails ends the write with FAILED; a second one leaves one
invalid copy, F-TRY-15. No answer while the write is in progress. -/
def State.continueWrite (s : State) (x : Side) (w : NvmWrite) (reads : List Bool) : State × Option Answer :=
  match reads with
  | [] => ({ s with tray := { s.tray with nvmWrite := some w } }, none)
  | ok :: rest =>
    let card := if w.second then w.first.other else w.first
    let good := ok && (s.tray.nvm card).writable
    let s1 := if good then s.onTray (fun t => (t.setNvm card { t.nvm card with valid := true }).clearFault .try_ 15 card.ix)
      else if (s.tray.nvm card).present then
        (s.spoilNvm card w.len).onTray (fun t => t.faultIf (!t.faulty .try_ 15 card.ix) .try_ 15 card.ix)
      else s
    if w.second then (s1.finishWrite x w.image true, some {})
    else if !good then (s1.finishWrite x w.image false, some { status := 2, code := codeOf .try_ 15 })
    else if !(s1.tray.nvm w.first.other).writable then (s1.finishWrite x w.image true, some {})
    else
      let w2 := { w with second := true }
      let s2 := s1.onTray (fun t => t.putImage w.first.other w2)
      match rest with
      | [] => ({ s2 with tray := { s2.tray with nvmWrite := some w2 } }, none)
      | ok2 :: _ =>
        let other := w.first.other
        let s3 := if ok2 then s2.onTray (fun t => (t.setNvm other { t.nvm other with valid := true }).clearFault .try_ 15 other.ix)
          else (s2.spoilNvm other w.len).onTray (fun t => t.faultIf (!t.faulty .try_ 15 other.ix) .try_ 15 other.ix)
        (s3.finishWrite x w.image true, some {})

/-- TRAY_IMAGE_ADOPT (R34, R275, R276): checked against the active TMC's keys, of a higher generation than the image in use;
the older or invalid copy is written and read back before the other. `reads` are the read-backs that come to pass now: with
fewer than the cards written, the write stays in progress (R680, R681). -/
def State.adopt (s : State) (x : Side) (q : MgmtReq) (len : Nat) (reads : List Bool) : State × Option Answer :=
  let t := s.tray
  let im := t.stagedImage len
  let m := t.tmc x
  let v := trayImageValues im
  if 2 ^ 20 < len || !trayImageOk im m.keys m.revoked || (t.haveImage && v.generation ≤ t.image.generation) then (s, some (refusedBy 9))
  else
    let useB := t.nvmB.writable && (!t.nvmA.writable || !t.nvmB.valid || (t.nvmA.valid && decide (t.nvmB.generation < t.nvmA.generation)))
    let first := if useB then Side.b else Side.a
    if !(t.nvm first).writable then (s, some { status := 2 })
    else
      let w : NvmWrite := { first := first, image := im, len := len, req := q }
      (s.onTray (fun t => t.putImage first w)).continueWrite x w reads

/-- SWITCH_UPSTREAM (R36, R38): in failover mode the port becomes active; F-TRY-14 when it is UP1. -/
def State.switchUpstream (s : State) (port : Nat) : State × Answer :=
  if 1 < port || s.tray.modeInForce then (s, refusedBy 9)
  else
    let raise := port == 1 && s.tray.activeUp != 1
    ((s.moveUpstream port).onTray (fun t => t.faultIf raise .try_ 14 noInstance), {})

/-- TIME_LOAD (R668, R96, R98): a load armed on both TMCs. -/
def Tray.timeLoad (t : Tray) (x : Side) (ep : Nat) : Tray × Answer :=
  let load := fun (m : Tmc) => { m with time := ({ m.time with load := ep }).armLoad.1 }
  if (t.tmc x).time.valid || ep % second ≠ 0 || 2 ^ 56 ≤ ep then (t, refusedBy 9)
  else ((t.onTmc x load).onTmc x.other (fun m => if m.present then load m else m), {})

/-- LAMP_TEST (R674): every element in ascending order. Without a lamp board there is none to light. -/
def Tray.lampTest (t : Tray) (samples : List LampSense) : Tray × Answer :=
  if t.lampBoard then
    ((List.range 19).foldl (fun t e => t.testLamp e (samples.getD e ⟨0, 0⟩)) t, {})
  else (t, { status := 2, code := codeOf .try_ 9 })

/-- CA_INSTALL and CA_REMOVE (R664, R667): from the switch port only; mirrored to the standby. -/
def Tray.setCa (t : Tray) (q : MgmtReq) (idx : Nat) (cert : Option (List Byte)) : Tray × Answer :=
  let put := fun (m : Tmc) => { m with cas := match cert with | some c => m.cas.set idx c | none => m.cas.erase idx }
  if q.port = .ethernet || 3 < idx || (match cert with | some c => decide (3000 < c.length) | none => false) then (t, refusedBy 9)
  else ((t.onTmc .a (fun m => if m.present then put m else m)).onTmc .b (fun m => if m.present then put m else m), {})

/-- CHIP_RESTART (R238, R260): the write of 0xA5 to BRU.CTRL over the slot's I2C. A chip that cannot be reached answers
nothing, and the command FAILED. -/
def State.chipRestart (s : State) (n : Nat) : State × Answer :=
  if 8 ≤ n then (s, refusedBy 9)
  else if !s.readable n then (s, { status := 2 })
  else (s.onChip n (fun c => if c.bru.stuck then c else c.restart 2), {})

/-- A command that only changes the tray. -/
def State.onTrayWith (s : State) (r : Tray × Answer) : State × Option Answer := ({ s with tray := r.1 }, some r.2)

/-- The command runs on the active TMC `x` (Table SVC-4), with its answer, none while it is still in progress; the status
commands and ROLE_SWAP run on either and are not here. -/
def State.runActive (s : State) (x : Side) (q : MgmtReq) (cmd : SvcCmd) : State × Option Answer :=
  let t := s.tray
  match cmd with
  | .unitPrepare typ i =>
    if !UnitId.known typ i then (s, some (refusedBy 9))
    else if t.prepareRefused typ i then ({ s with tray := t.fault .svc 6 i }, some (refusedBy 6))
    else (s.followLines { s with tray := t.prepareUnit typ i }, some {})
  | .unitResume typ i => if t.prepared = some (typ, i) then s.onTrayWith (t.resumeUnit typ i, {}) else (s, some (refusedBy 9))
  | .slotPower n on => s.onTrayWith (t.slotPower n on)
  | .slotReset n => if n < 8 then s.onTrayWith (t.onSlot n (fun y => { y with resetHeld := true }), {}) else (s, some (refusedBy 9))
  | .chipRestart n => ((s.chipRestart n).1, some (s.chipRestart n).2)
  | .imageWrite off data =>
    if 3968 < data.length || 2 ^ 20 < off + data.length then (s, some (refusedBy 9))
    else s.onTrayWith ({ t with staging := Memory.write t.staging off data }, {})
  | .imageAdopt len reads => s.adopt x q len reads
  | .switchUpstream port => ((s.switchUpstream port).1, some (s.switchUpstream port).2)
  | .timeLoad ep => s.onTrayWith (t.timeLoad x ep)
  | .locate on => if 1 < on then (s, some (refusedBy 9)) else s.onTrayWith (({ t with locate := decide (on = 1) }).drivePatterns, {})
  | .lampTest samples => s.onTrayWith (t.lampTest samples)
  | .lampLevel pct => if pct = 0 || 100 < pct then (s, some (refusedBy 9)) else s.onTrayWith ({ t with lampLevel := pct }, {})
  | .caInstall idx cert => s.onTrayWith (t.setCa q idx (some cert))
  | .caRemove idx => s.onTrayWith (t.setCa q idx none)
  | .trayStatus => (s, some {}) | .faultLog _ => (s, some {}) | .meterStatus => (s, some {}) | .lampStatus => (s, some {}) | .roleSwap _ => (s, some {})
  | .bad _ => (s, some (refusedBy 9))

/-- F-SVC-09 of TMC `x` for a refusal with that code (R667). -/
def Tray.noteRefusal (t : Tray) (x : Side) (a : Answer) : Tray := t.faultIf (a.code == codeOf .svc 9) .svc 9 x.ix

/-- The active TMC `x` runs the command and the TMC that took it answers, once the command has ended. -/
def State.execute (s : State) (x : Side) (q : MgmtReq) (cmd : SvcCmd) : State :=
  match s.runActive x q cmd with
  | (s1, some a) => s1.onTray (fun t => (t.noteRefusal x a).respond q cmd.opcode a)
  | (s1, none) => s1

/-- The answer of TMC `x` itself to a status command. -/
def Tray.statusAnswer (t : Tray) (x : Side) (cmd : SvcCmd) : Answer :=
  match cmd with
  | .trayStatus => { data := t.statusData x }
  | .faultLog n => { data := t.faultData n }
  | .meterStatus => { data := t.meterData }
  | .lampStatus => { data := t.lampData }
  | .roleSwap _ => {} | .unitPrepare _ _ => {} | .unitResume _ _ => {} | .slotPower _ _ => {} | .slotReset _ => {}
  | .chipRestart _ => {} | .imageWrite _ _ => {} | .imageAdopt _ _ => {} | .switchUpstream _ => {} | .timeLoad _ => {}
  | .locate _ => {} | .lampTest _ => {} | .lampLevel _ => {} | .caInstall _ _ => {} | .caRemove _ => {}
  | .bad _ => refusedBy 9

/-- ROLE_SWAP at TMC `q.tmc` (R657, R658): below its ROLE_GEN answered OK, above refused; equal, it joins the next handover
and is answered at its end. Once the role has moved, one of the new ROLE_GEN is another handover's and waits for the end of this. -/
def Tray.roleSwap (t : Tray) (q : MgmtReq) (gen : Nat) : Tray :=
  let m := t.tmc q.tmc
  if gen < m.roleGen then t.respond q 0x10 {}
  else if m.roleGen < gen then (t.noteRefusal q.tmc (refusedBy 9)).respond q 0x10 (refusedBy 9)
  else if t.hand = .moved then { t with heldCmds := t.heldCmds ++ [(q, .roleSwap gen)] }
  else
    let t1 := { t with swapWaiters := t.swapWaiters ++ [q] }
    if t.hand = .none then t1.onTmc q.tmc (fun m => { m with swapReq := some gen }) else t1

/-- From H − 80 to H the commands of the active TMC wait (Table SVC-2 step 3). -/
def Tray.handing (t : Tray) : Bool := t.hand == .sent || t.hand == .acked || t.hand == .moved

/-- The active TMC starts no command: one is in progress (R667), or a handover holds them. -/
def Tray.holding (t : Tray) : Bool := t.handing || t.nvmWrite.isSome

/-- TMC `q.tmc` takes a command (R666, R667): it runs a status command or ROLE_SWAP itself; the active TMC runs the rest, its
own and what the standby forwards, or holds it during a handover. -/
def State.serve (s : State) (q : MgmtReq) (cmd : SvcCmd) : State :=
  let s0 := s.onTray (fun t => t.onTmc q.tmc (fun m => if q.port = .switchPort then { m with mstatus := 1 } else m))
  match cmd with
  | .roleSwap gen => s0.onTray (fun t => t.roleSwap q gen)
  | _ =>
    if cmd.either then
      s0.onTray (fun t =>
        let a := t.statusAnswer q.tmc cmd
        (t.noteRefusal q.tmc a).respond q cmd.opcode a)
    else match s.tray.role with
      | some x =>
        if s.tray.holding then s0.onTray (fun t => { t with heldCmds := t.heldCmds ++ [(q, cmd)] })
        else if (s.tray.tmc x).present then s0.execute x q cmd
        else s0.onTray (fun t => t.onTmc q.tmc (fun m => { m with forwarded := m.forwarded ++ [{ req := q, cmd := cmd }] }))
      | none => s0.onTray (fun t => t.onTmc q.tmc (fun m => { m with forwarded := m.forwarded ++ [{ req := q, cmd := cmd }] }))

/-- A frame can reach the TMC: it runs; on the switch port it is not BUSY (R663); on Ethernet a connection is open (R664). -/
def Tray.canTake (t : Tray) (q : MgmtReq) : Bool :=
  let m := t.tmc q.tmc
  t.standby && m.present && m.checked && (match q.port with | .switchPort => m.mstatus != 1 | .ethernet => decide (0 < m.conns))

/-- The arrival of a command. -/
def mgmt (q : MgmtReq) (cmd : SvcCmd) (s : State) : Out := occurs (s.tray.canTake q) s (s.serve q cmd)

/-- MGMT_DOORBELL (R663): the frame in the request buffer is run; the doorbell of a BUSY TMC is ignored. -/
def execMgmtDoorbell (x : Side) (frame : List Byte) (samples : List LampSense) (reads : List Bool) (s : State) : Out :=
  let q : MgmtReq := { tmc := x, port := .switchPort, seq := leNat ((frame.drop 4).take 4) }
  let m := s.tray.tmc x
  let s1 := s.onTray (fun t => t.onTmc x (fun m => { m with request := frame }))
  occurs (s.tray.standby && m.present && m.checked) s (if m.mstatus = 1 then s1 else s1.serve q (parseFrame frame samples reads))

/-- MGMT_CONNECT (R664): a client whose chain leads to an installed authority is accepted, four connections at most; one
that is not authorised is refused with F-SVC-09. -/
def execMgmtConnect (x : Side) (chain : Option Nat) (s : State) : Out :=
  let m := s.tray.tmc x
  let trusted := match chain with | some n => m.cas.cells.any (fun e => Config.chainsTo n e.2) | none => false
  let t := if trusted then
      (if m.conns < 4 then s.tray.setTmc x { m with conns := m.conns + 1 } else s.tray)
    else s.tray.fault .svc 9 x.ix
  occurs (s.tray.standby && m.present && m.checked) s { s with tray := t }

/-- FORWARD_TIMEOUT (R666): the oldest forwarded command of TMC `x` has had no response for 50 ms. -/
def execForwardTimeout (x : Side) (s : State) : Out :=
  match (s.tray.tmc x).forwarded with
  | [] => occurs false s s
  | f :: rest =>
    let t := s.tray.onTmc x (fun m => { m with forwarded := rest })
    occurs ((s.tray.tmc x).present && decide (50000 ≤ f.age)) s
      { s with tray := (t.fault .svc 1 x.ix).respond f.req f.cmd.opcode { status := 2, code := codeOf .svc 1 } }

/-- The commands that wait run in order of arrival on the active TMC `x`. One that does not end at once holds the rest back
(R667). -/
def State.runList (s : State) (x : Side) (cmds : List (MgmtReq × SvcCmd)) : State :=
  match cmds with
  | [] => s
  | e :: rest =>
    if s.tray.nvmWrite.isSome then s.onTray (fun t => { t with heldCmds := t.heldCmds ++ e :: rest })
    else
      (match e.2 with
        | .roleSwap gen => s.onTray (fun t => t.roleSwap e.1 gen)
        | c => s.execute x e.1 c).runList x rest

/-- The commands held run in order of arrival on the active TMC `x`. -/
def State.runHeld (s : State) (x : Side) : State :=
  (s.onTray (fun t => { t with heldCmds := [] })).runList x s.tray.heldCmds

/-- A write in progress goes on; at its end the command is answered and what waited for it runs, unless a handover holds it. -/
def State.resumeWrite (s : State) (x : Side) (w : NvmWrite) (reads : List Bool) : State :=
  match s.continueWrite x w reads with
  | (s1, none) => s1
  | (s1, some a) =>
    let s2 := s1.onTray (fun t => t.respond w.req 0x31 a)
    if s2.tray.handing then s2 else s2.runHeld x

/-! ## The commands -/

/-- TRAY_STATUS (R667, Table SVC-4). -/
def execTrayStatus (q : MgmtReq) (s : State) : Out := mgmt q .trayStatus s
/-- FAULT_LOG (R695, Table SVC-4). -/
def execFaultLog (q : MgmtReq) (from_ : Nat) (s : State) : Out := mgmt q (.faultLog from_) s
/-- METER_STATUS (R580, Table SVC-4). -/
def execMeterStatus (q : MgmtReq) (s : State) : Out := mgmt q .meterStatus s
/-- LAMP_STATUS (R672, Table SVC-4). -/
def execLampStatus (q : MgmtReq) (s : State) : Out := mgmt q .lampStatus s
/-- ROLE_SWAP (R657, R658). -/
def execRoleSwap (q : MgmtReq) (gen : Nat) (s : State) : Out := mgmt q (.roleSwap gen) s
/-- UNIT_PREPARE (R675, R683, Table SVC-6). -/
def execUnitPrepare (q : MgmtReq) (typ idx : Nat) (s : State) : Out := mgmt q (.unitPrepare typ idx) s
/-- UNIT_RESUME (R667, R676). -/
def execUnitResume (q : MgmtReq) (typ idx : Nat) (s : State) : Out := mgmt q (.unitResume typ idx) s
/-- SLOT_POWER (R230, R684). -/
def execSlotPower (q : MgmtReq) (slot on : Nat) (s : State) : Out := mgmt q (.slotPower slot on) s
/-- SLOT_RESET (R235, R21). -/
def execSlotReset (q : MgmtReq) (slot : Nat) (s : State) : Out := mgmt q (.slotReset slot) s
/-- CHIP_RESTART (R238). -/
def execChipRestart (q : MgmtReq) (slot : Nat) (s : State) : Out := mgmt q (.chipRestart slot) s
/-- TRAY_IMAGE_WRITE (R667). -/
def execTrayImageWrite (q : MgmtReq) (off : Nat) (data : List Byte) (s : State) : Out := mgmt q (.imageWrite off data) s
/-- TRAY_IMAGE_ADOPT (R275, R276, R34, R680): the command arrives, or, named again by its request while its write is in
progress, that write takes its next steps. -/
def execTrayImageAdopt (q : MgmtReq) (len : Nat) (reads : List Bool) (s : State) : Out :=
  match s.tray.nvmWrite, s.tray.role with
  | some w, some x =>
    if w.req = q then occurs (s.tray.tmc x).present s (s.resumeWrite x w reads) else mgmt q (.imageAdopt len reads) s
  | _, _ => mgmt q (.imageAdopt len reads) s
/-- SWITCH_UPSTREAM (R36). -/
def execSwitchUpstream (q : MgmtReq) (port : Nat) (s : State) : Out := mgmt q (.switchUpstream port) s
/-- TIME_LOAD (R668). -/
def execTimeLoad (q : MgmtReq) (ep : Nat) (s : State) : Out := mgmt q (.timeLoad ep) s
/-- LOCATE (R669). -/
def execLocate (q : MgmtReq) (on : Nat) (s : State) : Out := mgmt q (.locate on) s
/-- LAMP_TEST (R674). -/
def execLampTest (q : MgmtReq) (samples : List LampSense) (s : State) : Out := mgmt q (.lampTest samples) s
/-- LAMP_LEVEL (R670). -/
def execLampLevel (q : MgmtReq) (pct : Nat) (s : State) : Out := mgmt q (.lampLevel pct) s
/-- CA_INSTALL (R664). -/
def execCaInstall (q : MgmtReq) (idx : Nat) (cert : List Byte) (s : State) : Out := mgmt q (.caInstall idx cert) s
/-- CA_REMOVE (R664). -/
def execCaRemove (q : MgmtReq) (idx : Nat) (s : State) : Out := mgmt q (.caRemove idx) s

end Sys2Proof.Machine
end

