-- ==== Sys2Proof/Machine/Regions.lean ====
section
/-! DEFINITION. The commands that change what a whole region does: a generator's lock (R108, R126, R554), gang skew
(R122 to R124), dissolution (R126) and tile failures (R79 to R81). -/

namespace Sys2Proof.Machine

/-- GENERATOR_LOCKED (R108, R730, R126, R554, R263): 16 epochs in a row within 4 half-cycles; the regions that waited
for this clock return to SERVING. -/
def execGeneratorLocked (k : ChipId) (r : RegionId) (s : State) : Out :=
  let c := s.chip k
  let g := c.gen r
  let c1 := c.setGen r { g with state := .locked, lossRun := 0 }
  let waits := allRegions.filter (fun x => (c1.region x).awaitLock && (x == r.val || (c1.region x).cfg.gangMaster == r.val))
  occurs (c.running && g.state == .locking && decide (16 ≤ g.lockRun)) s
    (s.setChip k (c1.forRegions waits (fun c x => c.serveIfReady x)))

/-- GANG_SKEW_FAULT (R122, R124): `cycles` master cycles in a row, at least 256, with the skew of member `r` above 20 ps; F-CLK-11, and
the gang is dissolved unless it is being dissolved already. It is judged once the loop has held the skew within 20 ps, or its 2,000
master cycles are over, and once until the loop is within 20 ps again (DEDUCED, log entry 45). -/
def execGangSkewFault (k : ChipId) (r : RegionId) (ps cycles : Nat) (s : State) : Out :=
  let c := s.chip k
  let g := c.gen r
  let c1 := (c.onGen r (fun g => { g with skew := min 255 ps, deskewed := false, skewFault := true })).fault .clk 11 r
  occurs (c.running && g.state == .slaved && decide (20 < ps) && decide (256 ≤ cycles) && c.clockRuns r && !g.skewFault &&
    (g.deskewed || decide (2000 ≤ g.slavedCycles))) s (s.setChip k (c1.startDissolve r))

/-- GANG_MEMBER_DESKEWED (R122, R554): the loop of member `r` measures a skew of `ps` and moves its delay by `steps` steps of 2 ps,
which leaves it within 20 ps. -/
def execGangMemberDeskewed (k : ChipId) (r : RegionId) (ps steps : Int) (s : State) : Out :=
  let c := s.chip k
  let left := (ps - 2 * steps).natAbs
  let c1 := c.onGen r (fun g => { g with skew := left, delay := g.delay + steps, deskewed := true, skewFault := false })
  let waits := (c1.gang r).filter (fun x => (c1.region x).awaitLock)
  occurs (c.running && (c.gen r).state == .slaved && decide (left ≤ 20) && c.clockRuns r) s
    (s.setChip k (c1.forRegions waits (fun c x => c.serveIfReady x)))

/-- The dissolution of the gang of master `m`. -/
def Chip.dissolveOf (c : Chip) (m : Nat) : Option Dissolve := c.dissolves.find? (fun d => d.master == m)

/-- No item runs in region `r`: what R126 waits for after its 50,000 epochs. -/
def Chip.idleIn (c : Chip) (r : Nat) : Bool :=
  (c.region r).status == .isolated || (List.range 15).all (fun p => !(c.tile (tileIx r p)).running && (c.tile (tileIx r p)).seqIdle)

/-- GANG_DISSOLVE_APPLY (R126 steps 3 to 5, R81, R282): every member is drained, or the limit has passed and the running
items have completed. -/
def execGangDissolveApply (k : ChipId) (m : RegionId) (s : State) : Out :=
  let c := s.chip k
  match c.dissolveOf m with
  | none => occurs false s s
  | some d =>
    let ready := d.members.all (fun r => c.drained r || (d.timedOut && c.idleIn r))
    occurs (c.running && ready) s (s.setChip k (c.applyDissolve d))

/-- GANG_DISSOLVE_TIMEOUT (R126 step 2): 50,000 epochs: queued items go back, and items of a member whose clock is
stopped end ABORTED. -/
def execGangDissolveTimeout (k : ChipId) (m : RegionId) (s : State) : Out :=
  let c := s.chip k
  match c.dissolveOf m with
  | none => occurs false s s
  | some d =>
    let c1 := d.members.foldl (fun c r => if c.clockRuns r then c.returnQueued r else c.abortRegion r) c
    occurs (c.running && !d.timedOut && decide (50000 ≤ d.epochs)) s
      (s.setChip k { c1 with dissolves := c1.dissolves.map (fun x => if x.master = d.master then { x with timedOut := true } else x) })

/-- TILE_FAILED (R79 to R82, R263, R735): position `q` of region `r` is declared failed. -/
def execTileFailed (k : ChipId) (r : RegionId) (q : PosId) (s : State) : Out :=
  let c := s.chip k
  occurs (c.running && !bit (c.region r).posFail q) s (s.setChip k (c.failTile r q))

end Sys2Proof.Machine
end

