-- ==== Sys2Proof/Machine/Responses.lean ====
section
/-! DEFINITION. Responses at a requester's endpoint (R210, R216, R219, R383, R391, R397, R516): the reservation is freed
and what waited for the RSP takes it. -/

namespace Sys2Proof.Machine

/-- The STATUS that an RSP delivers: a poisoned one delivers POISONED (Table SPN-9). -/
def rspStatus (m : Msg) : Nat := if m.poison && m.status = 0 then 2 else m.status

/-- What an operation waits for includes the RSP of TAG `tag`. -/
def Pending.owns (k : Pending) (tag : Nat) : Bool :=
  match k with
  | .wait t _ _ _ retry => t == tag && !retry
  | .send _ _ ms => ms.any (fun m => m.sent && m.msg.tag == tag)
  | .collWait _ _ _ => false
  | .fence left => left.contains tag
  | .signalFence left _ => left.contains tag
  | .moveIn rs _ => rs.any (fun x => x.tag == tag)
  | .out _ => false

/-- What an operation waits for once the RSP of TAG `tag` has come: none when it waits for nothing more. A COLLECT answered
NOT_ARMED (`again`) is kept for its resend (R397). -/
def Pending.without (k : Pending) (tag : Nat) (again : Bool) : Option Pending :=
  match k with
  | .wait _ _ _ _ _ => none
  | .send since tmo ms =>
    let hit := fun (m : SendMsg) => m.sent && m.msg.tag == tag
    let left := if again then ms.map (fun m => if hit m then { m with sent := false, resend := true } else m)
      else ms.filter (fun m => !hit m)
    if left.isEmpty then none else some (.send since tmo left)
  | .collWait a b d => some (.collWait a b d)
  | .fence left => if (removeAll left tag).isEmpty then none else some (.fence (removeAll left tag))
  | .signalFence left m => some (.signalFence (removeAll left tag) m)
  | .moveIn rs todo =>
    let left := rs.filter (fun x => x.tag != tag)
    if left.isEmpty && todo.isEmpty then none else some (.moveIn left todo)
  | .out ms => some (.out ms)

/-- The tile's operation `i` after the RSP of TAG `tag`. -/
def Tile.settleOp (x : Tile) (i : Issued) (tag : Nat) (again : Bool) : Tile :=
  { x with issued := x.issued.filterMap (fun j =>
      if j = i then (i.kind.without tag again).map (fun k => { i with kind := k }) else some j) }

/-- SIGNALs whose FENCE has ended inject their EVT (R382); after an error nothing more is injected (R403). -/
def Chip.endFences (c : Chip) (r p : Nat) : Chip :=
  let t := tileIx r p
  let ready := (c.tile t).issued.filterMap (fun i => match i.kind with
    | .signalFence [] m => some m
    | .signalFence (_ :: _) _ => none
    | .wait _ _ _ _ _ => none | .send _ _ _ => none | .collWait _ _ _ => none | .fence _ => none
    | .moveIn _ _ => none | .out _ => none)
  let stop := (c.tile t).err != 0
  let c1 := c.onTile t (fun x => { x with issued := x.issued.filterMap (fun i => match i.kind with
    | .signalFence [] m => if stop then none else some { i with kind := .out [m] }
    | .signalFence (_ :: _) _ => some i
    | .wait _ _ _ _ _ => some i | .send _ _ _ => some i | .collWait _ _ _ => some i | .fence _ => some i
    | .moveIn _ _ => some i | .out _ => some i) })
  if stop then c1 else ready.foldl (fun c m => c.issueMsg m) c1

/-- An RSP with a bad STATUS ends the item of tile `p` with REMOTE_STATUS and raises F-OPS-02 (R383); one that an earlier
error has ended keeps that error. -/
def Chip.remoteFails (c : Chip) (r p off : Nat) : Chip :=
  (if (c.tile (tileIx r p)).err = 0 then c.itemErrorAt r p eRemote off else c).fault .ops 2 r

/-- The lines of a READ are written where the move sends them (R379). -/
def Chip.takeLines (c : Chip) (r p : Nat) (dsts : List Nat) (data : List Byte) : Chip :=
  c.onTileMem r p (fun mem => (dsts.zipIdx).foldl (fun mem e => Memory.write mem e.1 ((data.drop (64 * e.2)).take 64)) mem)

/-- The answer `outcome` to a WAIT (R391). -/
def Chip.waitOutcome (c : Chip) (r p : Nat) (i : Issued) (tag outcome : Nat) : Chip :=
  let t := tileIx r p
  match outcome with
  | 1 => (c.waitFails r p i eWait).fault .ops 6 r
  | 2 =>
    let again := fun (j : Issued) => match j.kind with
      | .wait g n v tmo _ => if j = i then { j with kind := .wait g n v tmo true } else j
      | .send _ _ _ => j | .collWait _ _ _ => j | .fence _ => j | .signalFence _ _ => j | .moveIn _ _ => j | .out _ => j
    (c.onTile t (fun x => { x with issued := x.issued.map again, poolFault := true })).faultIf (!(c.tile t).poolFault) .ops 5 r
  | 3 => c.waitFails r p i eDenied
  | _ => c.onTile t (fun x => x.settleOp i tag false)

/-- Operation `i` of logical tile `p` of region `r` takes the RSP `m`. -/
def Chip.opRsp (c : Chip) (r p : Nat) (i : Issued) (m : Msg) : Chip :=
  let t := tileIx r p
  let settle := fun (c : Chip) (again : Bool) => c.onTile t (fun x => x.settleOp i m.tag again)
  if rspStatus m ≠ 0 then ((settle c false).remoteFails r p i.off).endFences r p
  else match i.kind with
    | .wait _ _ _ _ _ => c.waitOutcome r p i m.tag (field m.arg 0 4)
    | .send _ _ _ => settle c (decide (field m.arg 0 4 = 1) && (c.tile t).err == 0)
    | .moveIn rs _ =>
      match rs.find? (fun x => x.tag == m.tag) with
      | some x => settle (c.takeLines r p x.dsts m.data) false
      | none => c
    | .fence _ => settle c false
    | .signalFence _ _ => (settle c false).endFences r p
    | .collWait _ _ _ => c
    | .out _ => c

/-- The tile of region `r`, and its operation, that waits for TAG `tag`. -/
def Chip.ownerOf (c : Chip) (r tag : Nat) : Option (Nat × Issued) :=
  (List.range 15).findSome? (fun p => ((c.tile (tileIx r p)).issued.find? (fun i => i.kind.owns tag)).map (fun i => (p, i)))

/-- What waits for a tag in region `r` issues it while one is free (R397, R379). -/
def Chip.pumpRegion (c : Chip) (r : Nat) : Chip :=
  (List.range 15).foldl (fun c p => if (c.tile (tileIx r p)).issued.isEmpty then c else c.pump r p) c

/-- A region's endpoint gives the RSP to the operation that waits for it; one that its item has abandoned has no taker
(R403). -/
def Chip.regionRsp (c : Chip) (r : Nat) (m : Msg) : Chip :=
  (match c.ownerOf r m.tag with
   | some (p, i) => c.opRsp r p i m
   | none => c).pumpRegion r

/-- The block behind endpoint `e` takes the RSP `m`. -/
def Chip.consume (c : Chip) (e : Nat) (m : Msg) : Chip :=
  if isRegionEp e then c.regionRsp e m else if e = epHif then c.hifRsp m else c

/-- A region's endpoint is clocked by its region; the others always run. -/
def Chip.epRuns (c : Chip) (e : Nat) : Bool := c.running && (!isRegionEp e || c.clockRuns e)

/-- RSP_ARRIVE (R210, R216, R219): endpoint `e` takes the next RSP popped. One whose TAG matches no outstanding REQ is
dropped and counted; else the reservation is freed and the consumer takes the RSP. -/
def execRspArrive (k : ChipId) (e : EpId) (s : State) : Out :=
  let c := s.chip k
  match (c.ep e).popRsp.head? with
  | none => occurs false s s
  | some m =>
    let c1 := c.onEp e (fun x => { x with popRsp := x.popRsp.tail })
    let known := (c.ep e).outstanding.any (fun o => o.tag == m.tag && !o.void)
    let c2 := if known then (c1.onEp e (fun x => x.release m.tag)).consume e m
      else c1.onEp e (fun x => { x with tagDrop := satAdd 32 x.tagDrop 1 })
    occurs (c.epRuns e) s (s.setChip k c2)

/-- The VOID of an abandoned READ to a memory port (R495, R516). -/
def voidOf (e : Nat) (o : OutReq) : Msg := { lane := .wr, src := e, dst := o.dst, op := 0x05, arg := o.tag }

/-- RSP_TIMEOUT (R216, R516): 1,000 epochs after its injection a REQ has no RSP: the reservation is freed, the consumer gets
TIMEOUT, F-SPN-02; an abandoned READ of session memory is followed by its VOID. A WAIT_GE is not subject to it (R392). -/
def execRspTimeout (k : ChipId) (e : EpId) (tag : Nat) (s : State) : Out :=
  let c := s.chip k
  match (c.ep e).outstanding.find? (fun o => o.tag == tag && !o.wait_ && decide (1000 ≤ o.age)) with
  | none => occurs false s s
  | some o =>
    let c1 := (c.onEp e (fun x => x.release tag)).fault .spn 2 e
    let c2 := if isMemoryEp o.dst && o.op = 0x02 then c1.send (voidOf e o) else c1
    occurs c.running s (s.setChip k (c2.consume e { lane := .rsp, src := o.dst, dst := e, tag := tag, status := 4 }))

end Sys2Proof.Machine
end

