-- ==== Sys2Proof/Machine/Roles.lean ====
section
/-! DEFINITION. The role latch (R649 to R653), the heartbeat and the mirror (R654 to R656), failover (R661, R681) and the
handover (R657 to R660, R680, Table SVC-2). -/

namespace Sys2Proof.Machine

/-- TMC `x` takes the role (R649, R653): ROLE_GEN + 1, its first sweep is the next boundary's (R24), it sets the threshold for
the slots as they are now (R41, R46) and reports what stands (R48, R56), and the other TMC asserts READY again only as standby
(R651). -/
def Tray.takeRole (t : Tray) (x : Side) : Tray :=
  let t1 := t.onTmc x (fun m => { m with roleGen := (m.roleGen + 1) % 2 ^ 32, ready := true })
  let t2 := t1.onTmc x.other (fun m => { m with ready := false, beats := 0 })
  let t3 := { t2 with
    role := some x, everHeld := true, aliveAge := 0
    ring := { t2.ring with sweeping := false, begun := false, roleAt := (t.tmc x).time.epoch } }
  t3.setThreshold.noteStanding.checkStandby

/-- ROLE_GRANT (R652): from standby power-up the first READY TMC, A when both are. -/
def execRoleGrant (x : Side) (s : State) : Out :=
  let t := s.tray
  let m := t.tmc x
  occurs (t.standby && !t.everHeld && m.present && m.ready && (x == .a || !(t.tmcA.present && t.tmcA.ready))) s
    { s with tray := t.takeRole x }

/-- ALIVE_TOGGLE (R650): the active TMC's firmware runs. -/
def execAliveToggle (s : State) : Out :=
  match s.tray.role with
  | none => occurs false s s
  | some x => occurs (s.tray.tmc x).present s (s.onTray (fun t => { t with alive := !t.alive, aliveAge := 0 }))

/-! ## Heartbeats -/

/-- The certificate store of TMC `m` as a list. -/
def Tmc.store (m : Tmc) : List (List Byte) := (List.range 4).map (fun i => m.cas.get [] i)

/-- The fields of Table SVC-1 that TMC `x` sends. -/
def Tray.mirrorOf (t : Tray) (x : Side) : Mirror :=
  let m := t.tmc x
  { roleGen := m.roleGen, active := t.role == some x, trayGen := if t.haveImage then some t.image.generation else none
    nvmStep := match t.nvmWrite with | some w => if w.second then 3 else 2 | none => 0
    prepared := t.prepared, prepReady := t.prepReady, exch := t.exch
    occ := (List.range 8).map (fun n => (t.slot n).occupied), seqs := (List.range 8).map (fun n => (t.slot n).seq)
    reqs := (List.range 8).map (fun n => ((t.slot n).wantOn, (t.slot n).offHeld, (t.slot n).resetHeld))
    lampPats := (List.range 8).map (fun n => (t.slot n).lamp)
    threshold := t.threshold, stop := t.stop, votes := [t.flowA.voting, t.flowB.voting]
    grants := (List.range 8).map (fun n => t.headerGrant n), dems := (List.range 8).map (fun n => (t.slot n).dem)
    urgs := (List.range 8).map (fun n => (t.slot n).urg)
    half := t.ring.half, turnF := t.ring.turnF, turnR := t.ring.turnR, relay := t.ring.relay, unreachable := t.ring.unreachable
    timeValid := m.time.valid, epoch := m.time.epoch, arm := m.time.arm, load := m.time.load
    caHash := Config.caHash m.store, wantStore := m.wantStore }

/-- TMC `x` sends heartbeats: it runs and is not prepared for removal (Table SVC-6). -/
def Tmc.beating (m : Tmc) : Bool := m.present && m.checked && !m.prepared

/-- HEARTBEAT_SEND (R654, R658): at each epoch that is 5,000 more than a multiple of 10,000. A SWAP_REQ that it carries
schedules the handover at Y + 10,000. -/
def execHeartbeatSend (x : Side) (s : State) : Out :=
  let t := s.tray
  let m := t.tmc x
  let y := m.time.epoch
  let t1 := t.onTmc x (fun m => { m with sentAt := some y, swapReq := none })
  let t2 := t1.onTmc x.other (fun p => if p.present then { p with rx := some (t.mirrorOf x) } else p)
  let swap := m.swapReq == some m.roleGen && t.hand == .none
  occurs (t.standby && m.beating && decide (y % 10000 = 5000) && m.sentAt != some y) s
    { s with tray := (if swap then { t2 with hand := .scheduled, handAt := y + 10000 } else t2).checkStandby }

/-- A valid NVM copy of generation `g` is there (R655). -/
def Tray.hasCopy (t : Tray) (g : Nat) : Bool :=
  (t.nvmA.present && t.nvmA.valid && t.nvmA.generation == g) || (t.nvmB.present && t.nvmB.valid && t.nvmB.generation == g)

/-- The standby's clock takes the active TMC's hall-time state and armed load (Table SVC-1). -/
def TimeBase.takeTime (t : TimeBase) (h : Mirror) : TimeBase :=
  if t.valid then t
  else if h.timeValid then { t with valid := true, epoch := h.epoch, arm := false, load := h.load }
  else { t with arm := h.arm, load := h.load }

/-- The standby TMC `m` takes the active TMC's heartbeat `h`; `bad` is a mismatch of R655, `store` one of the certificate
store. Two heartbeats in a row without one make it READY (R651). -/
def Tmc.takeMirror (m : Tmc) (h : Mirror) (bad store : Bool) : Tmc :=
  let beats := if bad then 0 else m.beats + 1
  { m with
    mirror := some h, roleGen := h.roleGen, time := m.time.takeTime h, rx := none, missed := 0, beats := beats
    mismatch := bad, wantStore := store, ready := !bad && (m.ready || decide (2 ≤ beats)) && !m.prepared }

/-- HEARTBEAT_RECEIVE (R655): the standby takes the active TMC's heartbeat as its state, or raises F-SVC-08; the active TMC
sends the certificate store that the standby's heartbeat asks for. F-SVC-01 ends. -/
def execHeartbeatReceive (x : Side) (s : State) : Out :=
  let t := s.tray
  let m := t.tmc x
  match m.rx with
  | none => occurs false s s
  | some h =>
    let store := h.caHash != Config.caHash m.store
    let bad := store || (match h.trayGen with | some g => !t.hasCopy g | none => false)
    let t0 := t.clearFault .svc 1 x.ix
    let t1 :=
      if h.active && t.role != some x then
        let u := t0.setTmc x (m.takeMirror h bad store)
        if bad then u.faultIf (!m.mismatch) .svc 8 x.ix else u.clearFault .svc 8 x.ix
      else
        let u := t0.onTmc x (fun m => { m with rx := none, missed := 0 })
        if t.role == some x && h.wantStore then u.onTmc x.other (fun p => { p with cas := m.cas }) else u
    occurs (t.standby && m.present && m.checked) s { s with tray := t1.checkStandby }

/-- HEARTBEAT_LOST (R656): three partner heartbeats in a row are missing; F-SVC-01, once until they resume. -/
def execHeartbeatLost (x : Side) (s : State) : Out :=
  let t := s.tray
  let m := t.tmc x
  occurs (t.standby && m.present && m.checked && decide (3 ≤ m.missed) && m.rx.isNone && !t.faulty .svc 1 x.ix) s
    { s with tray := (t.fault .svc 1 x.ix).checkStandby }

/-! ## Failover (R652, R661, R681) -/

/-- The tray takes the state of a mirror: grants, ring, prepared unit, what it was to request of each slot and each slot lamp's
pattern (R559, R661, R682). Occupancy, sequence states, threshold, stop gate and votes stand in the slots, the gate and the
sensors themselves, which no failover changes (R25, R44, R685). -/
def Tray.takeMirror (t : Tray) (h : Mirror) : Tray :=
  { t with
    exch := h.exch, prepared := h.prepared, prepReady := h.prepReady
    slots := t.slots.updateMany (fun _ => {}) (List.range 8) (fun n x =>
      let r := h.reqs.getD n (false, false, false)
      { x with
        grant := h.grants.getD n 0, grantPrev := h.grants.getD n 0, dem := h.dems.getD n 0, urg := h.urgs.getD n 128, wantOn := r.1, offHeld := r.2.1
        resetHeld := r.2.2, lamp := h.lampPats.getD n 6 })
    ring := { t.ring with half := h.half, turnF := h.turnF, turnR := h.turnR, relay := h.relay, unreachable := h.unreachable } }

/-- The swap requests that wait are answered OK when their TMC is there: their ROLE_GEN is now below its own (R657). -/
def Tray.answerSwaps (t : Tray) (a : Answer) : Tray :=
  let t1 := t.swapWaiters.foldl (fun t q => if (t.tmc q.tmc).present then t.respond q 0x10 a else t) t
  { t1 with swapWaiters := [] }

/-- A tray-image write that the failover interrupts (R681): its TRAY_IMAGE_ADOPT is answered FAILED. -/
def Tray.failWrite (t : Tray) : Tray :=
  match t.nvmWrite with
  | none => t
  | some w =>
    let t1 := { t with nvmWrite := none, handDefer := false }
    if (t1.tmc w.req.tmc).present then t1.respond w.req 0x31 { status := 2 } else t1

/-- ROLE_FAILOVER (R652, R661, R681): ALIVE has not toggled for 1 ms and the other TMC is READY: it takes the role with the state
of the last heartbeat, starts its sweeps with a full one and checks the NVM copies, rewriting an invalid one with read-back `ok`.
What the failed TMC held is lost; its forwarded commands stay unanswered (R666). -/
def State.failover (s : State) (y : Side) (ok : Bool) : State :=
  let t := s.tray
  let lost := t.heldCmds.filter (fun e => e.1.tmc == y)
  let t1 := { t with hand := .none, handMsg := none, heldCmds := [] }
  let t2 := match (t.tmc y).mirror with | some h => t1.takeMirror h | none => t1
  let t3 := (t2.onTmc y (fun m => { m with forwarded := m.forwarded ++ lost.map (fun e => { req := e.1, cmd := e.2 }) })).takeRole y
  let t4 := { t3 with ring := { t3.ring with half := false, streak := 0 } }
  (({ s with tray := (t4.fault .svc 2 y.ix).failWrite }).readNvm ok).onTray (fun t => t.answerSwaps {})

/-- The TMC that the latch could move the role to. -/
def Tray.successor (t : Tray) : Option Side :=
  match t.role with
  | some x => some x.other
  | none => if t.tmcA.present && t.tmcA.ready then some .a else some .b

/-- ROLE_FAILOVER. -/
def execRoleFailover (ok : Bool) (s : State) : Out :=
  let t := s.tray
  match t.successor with
  | none => occurs false s s
  | some y =>
    let m := t.tmc y
    occurs (t.standby && t.everHeld && decide (1000 ≤ t.aliveAge) && m.present && m.ready) s (s.failover y ok)

/-! ## Handover (Table SVC-2) -/

/-- The active TMC keeps the role (R660): F-SVC-03, and every request of the handover is refused. -/
def Tray.refuseHandover (t : Tray) (x : Side) : Tray :=
  let t1 := { t with hand := .none, handMsg := none }
  (t1.fault .svc 3 x.ix).answerSwaps (refusedBy 3)

/-- Step 5: the role moves (R649, R653, R659). -/
def Tray.handOver (t : Tray) (y : Side) : Tray := { (t.takeRole y) with hand := .moved, handMsg := none }

/-- The next step of the handover from active TMC `x` at its epoch `e`, none while its time has not come. A tray-image write in
progress at H − 100 defers it (R680). -/
def State.handoverStep (s : State) (x : Side) (e : Nat) : Option State :=
  let t := s.tray
  let h := t.handAt
  let put := fun (t : Tray) => some { s with tray := t }
  match t.hand with
  | .none => none
  | .scheduled =>
    if e + 100 < h then none
    else if t.nvmWrite.isSome then (if t.handDefer then none else put { t with handDefer := true })
    else if (t.tmc x.other).present && (t.tmc x.other).ready then put { t with hand := .checked } else put (t.refuseHandover x)
  | .checked => if e + 80 < h || t.ring.sweeping then none else put { t with hand := .sent, handMsg := some (t.mirrorOf x) }
  | .sent => if e + 55 < h then none else some ({ s with tray := t.refuseHandover x }.runHeld x)
  | .acked => if e + 50 < h then none else put (t.handOver x.other)
  | .moved => if e < h then none else some (({ s with tray := { t with hand := .none } }.onTray (fun t => t.answerSwaps {})).runHeld x)

/-- HANDOVER (R659, R660, R680): the active TMC takes the next step of Table SVC-2. -/
def execHandover (s : State) : Out :=
  match s.tray.role with
  | none => occurs false s s
  | some x =>
    match s.handoverStep x (s.tray.tmc x).time.epoch with
    | none => occurs false s s
    | some s1 => occurs s.tray.standby s s1

/-- HANDOVER_MESSAGE (Table SVC-2 step 4): the standby applies the state and acknowledges, in time for H − 55. -/
def execHandoverMessage (s : State) : Out :=
  match s.tray.role, s.tray.handMsg with
  | some x, some h =>
    let y := x.other
    let m := s.tray.tmc y
    let t := (s.tray.onTmc y (fun m => { m with mirror := some h, roleGen := h.roleGen, time := m.time.takeTime h }))
    occurs (s.tray.hand == .sent && m.present && m.checked && decide (m.time.epoch + 55 ≤ s.tray.handAt)) s
      { s with tray := { t with hand := .acked } }
  | _, _ => occurs false s s

end Sys2Proof.Machine
end

