-- ==== Sys2Proof/Machine/Spine.lean ====
section
/-! DEFINITION. The commands of chapter 05 on routers and endpoints, but for the delivery of responses. -/

namespace Sys2Proof.Machine

/-- SPINE_START_CHECK (R223): MGT has sent one probe flit across every link in each direction, and 10 epochs after the last router and
edge link left reset, at the entry of phase SPINE (DEDUCED, log entry 66), the check ends. `back` says, at 4r + d, which probes of side
`d` of router `r`, for an edge link of either direction, have returned without error. UP when all have; else F-SPN-05, and the start stops
where it is: Table BRU-8 does not name F-SPN-05 among the faults that lead to FAILED. -/
def execSpineStartCheck (k : ChipId) (back : List Bool) (s : State) : Out :=
  let c := s.chip k
  let links := (List.range 288).filter (fun i => hasLink (i / 4) (i % 4) || hasEdge (i / 4) (i % 4))
  let c1 := links.foldl (fun c i => c.onLink (i / 4) (i % 4) (fun l => { l with flits := satAdd 64 l.flits 1 }))
    (c.onBru (fun b => { b with checked := true }))
  let passed := links.all (fun i => back.getD i false)
  occurs (c.running && c.bru.phase == .spine && !c.bru.checked && decide (10 ≤ c.xng.check)) s
    (s.setChip k (if passed then c1.onXng (fun x => { x with up := true }) else c1.fault .spn 5 noInstance))

/-- MESSAGE_INJECT (R161, R199, R209, R224, R737): in the cycle `at_` endpoint `m.src` offers `m`. -/
def execMessageInject (k : ChipId) (m : Msg) (at_ : Moment) (s : State) : Out :=
  let c := s.chip k
  occurs (c.running && c.sideRuns (injQ m.src m.lane) true) s (s.setChip k ((c.at_ at_ (domainOfEp m.src)).inject m))

/-- ROUTER_FORWARD (R201, R205 to R208): port `d` of router `r` sends the flit that the drain order and the round-robin name. What an
isolation sink takes is ISOLATION_SINK_ACCEPT's. -/
def execRouterForward (k : ChipId) (r : RegionId) (d : OutPort) (s : State) : Out :=
  let c := s.chip k
  match c.chosen r d.ix with
  | none => occurs false s s
  | some x => occurs (c.running && !(d.ix == 4 && c.sinks r)) s (s.setChip k (c.transfer r d.ix x false))

/-- WSEQ_RESYNC (R739): the REQ at the head of endpoint `e`'s REQ queue has been held for 500 epochs. -/
def execWseqResync (k : ChipId) (e : EpId) (s : State) : Out :=
  let c := s.chip k
  let q := ejQ e .req
  let x := c.ep e
  match (c.queue q).items.head? with
  | none => occurs false s s
  | some f =>
    let c1 := c.onEp e (fun x => { x with
      got := x.got.set f.msg.src f.msg.wseq, held := 0, resync := satAdd 32 x.resync 1 })
    occurs (c.running && f.head && x.holds f.msg && decide (500 ≤ x.held)) s (s.setChip k (c1.fault .spn 7 e))

/-- FLIT_UNCORRECTABLE (R222): an uncorrectable error on the flit that port `d` of router `r` sends: F-SPN-01. A head flit's message is
discarded; a body flit's poison bit is set and the message goes on. -/
def execFlitUncorrectable (k : ChipId) (r : RegionId) (d : OutPort) (s : State) : Out :=
  let c := s.chip k
  match c.chosen r d.ix with
  | none => occurs false s s
  | some x =>
    let l := x.flit.msg.lane.ix
    let c1 := (c.onLink r d.ix (fun k => { k with
      uncorr := satAdd 32 k.uncorr 1, drop := if x.flit.head then k.drop.set l true else k.drop })).fault .spn 1 r
    occurs c.running s (s.setChip k (c1.transfer r d.ix x true))

/-- LANE_STALL_TIMEOUT (R222): F-SPN-04 for a lane that has had a flit ready and sent nothing for 1,000 epochs. -/
def execLaneStallTimeout (k : ChipId) (r : RegionId) (d : OutPort) (lane : Lane) (s : State) : Out :=
  let c := s.chip k
  let c1 := c.onLink r d.ix (fun l => { l with stall := l.stall.set lane.ix 0 })
  occurs (c.running && decide (1000 ≤ (c.link r d.ix).stall.getD lane.ix 0)) s (s.setChip k (c1.fault .spn 4 r))

/-- LINK_CE_RATE (R222): `n` more corrected flit errors on one link; F-SPN-06 once the running second has more than 100. -/
def execLinkCeRate (k : ChipId) (r : RegionId) (d : OutPort) (n : Nat) (s : State) : Out :=
  let c := s.chip k
  let was := (c.link r d.ix).corrSec
  let c1 := c.onLink r d.ix (fun l => { l with corr := satAdd 32 l.corr n, corrSec := was + n })
  occurs c.running s (s.setChip k (c1.faultIf (decide (was ≤ 100) && decide (100 < was + n)) .spn 6 r))

end Sys2Proof.Machine
end

