-- ==== Sys2Proof/Machine/Vector.lean ====
section
/-! DEFINITION. The vector operations of Table OPS-7 (R321 to R324, R375, R376): one meaning per VOP over one shared
issue. -/

namespace Sys2Proof.Machine

/-- Reserved bits of a VECTOR descriptor: W2 [31:29] and W3 to W7; W1 is ignored outside LD and ST (R741). -/
def vectorReserved (d : List Nat) : Bool := reservedFrom d 3 || field (word d 2) 29 3 != 0

/-- The descriptor at the PC is a VECTOR of this VOP and may issue with these memory intervals. -/
def Chip.atVop (c : Chip) (r p code : Nat) (reads writes : List (Nat × Nat)) : Bool :=
  let x := c.tile (tileIx r p)
  c.atOp r p 0x02 && vop (c.desc r p) == code && x.clear reads writes

/-- A vector operation counted (Table NRG-1). -/
def Tile.countVop (x : Tile) : Tile := { x with vop := x.vop + 1 }

/-- A register operation: `f` gives VD's 64 lanes from the tile and the descriptor. -/
def vectorStep (k : ChipId) (r : RegionId) (p : TileId) (code : Nat) (f : Tile → List Nat → List Nat) (s : State) : Out :=
  let c := s.chip k
  let d := c.desc r p
  let err := firstError [(vectorReserved d, eReserved)]
  occurs (c.atVop r p code [] []) s (s.setChip k (c.issueOp r p err d (fun c =>
    c.onTile (tileIx r p) (fun x => (x.setVec (vd d) (f x d)).countVop))))

/-- A lane-wise operation of VA alone, of VA and VB, of VA, VB and VC. -/
def lanes1 (f : Nat → Nat) (x : Tile) (d : List Nat) : List Nat := (x.vecA d).map f
def lanes2 (f : Nat → Nat → Nat) (x : Tile) (d : List Nat) : List Nat := List.zipWith f (x.vecA d) (x.vecB d)
def lanes3 (f : Nat → Nat → Nat → Nat) (x : Tile) (d : List Nat) : List Nat :=
  List.zipWith (fun ab c => f ab.1 ab.2 c) (List.zip (x.vecA d) (x.vecB d)) (x.vecC d)

/-- A reduction of VA into lane 0, zero elsewhere (Table OPS-7). -/
def reduced (f : Nat → Nat → Nat) (x : Tile) (d : List Nat) : List Nat :=
  reduceLanes f (x.vecA d) :: List.replicate 63 0

/-! ## Integer lanes (Table OPS-7) -/

def iadd (a b : Nat) : Nat := (a + b) % 2 ^ 32
def isub (a b : Nat) : Nat := (a + 2 ^ 32 - b % 2 ^ 32) % 2 ^ 32
def imul (a b : Nat) : Nat := a * b % 2 ^ 32
def imin (a b : Nat) : Nat := if signed 32 a ≤ signed 32 b then a else b
def imax (a b : Nat) : Nat := if signed 32 b ≤ signed 32 a then a else b
def iand (a b : Nat) : Nat := Nat.land a b
def ior (a b : Nat) : Nat := Nat.lor a b
def ixor (a b : Nat) : Nat := Nat.xor a b
/-- A count of 32 or more shifts every bit out. -/
def ishl (a b : Nat) : Nat := if b < 32 then a * 2 ^ b % 2 ^ 32 else 0
def ishr (a b : Nat) : Nat := if b < 32 then a / 2 ^ b else 0
def isar (a b : Nat) : Nat := unsigned 32 (signed 32 a / (2 ^ min b 31 : Nat))
def icmplt (a b : Nat) : Nat := if signed 32 a < signed 32 b then 1 else 0

/-- PERM: lane i takes lane (VB lane i mod 64) of VA. -/
def permLanes (x : Tile) (d : List Nat) : List Nat := (x.vecB d).map (fun i => (x.vecA d).getD (i % 64) 0)

/-- BCAST: every lane takes lane IMM[5:0] of VA. -/
def bcastLanes (x : Tile) (d : List Nat) : List Nat := List.replicate 64 ((x.vecA d).getD (imm d % 64) 0)

/-- LSHIFT: lane i + IMM takes lane i of VA, IMM signed; lanes that none reaches are zero. -/
def lshiftLanes (x : Tile) (d : List Nat) : List Nat :=
  let v := x.vecA d
  (List.range 64).map (fun i =>
    let j : Int := (i : Int) - signed 32 (imm d)
    if 0 ≤ j ∧ j < 64 then v.getD j.toNat 0 else 0)

/-- SEL: VA where VC is not zero, else VB. -/
def selLane (a b c : Nat) : Nat := if c ≠ 0 then a else b

/-! ## The meanings -/

/-- IADD (VOP 0x10, R375). -/
def execIadd (k : ChipId) (r : RegionId) (p : TileId) (s : State) : Out := vectorStep k r p 0x10 (lanes2 iadd) s

/-- ISUB (VOP 0x11, R375). -/
def execIsub (k : ChipId) (r : RegionId) (p : TileId) (s : State) : Out := vectorStep k r p 0x11 (lanes2 isub) s

/-- IMUL (VOP 0x12, R375). -/
def execImul (k : ChipId) (r : RegionId) (p : TileId) (s : State) : Out := vectorStep k r p 0x12 (lanes2 imul) s

/-- IMIN (VOP 0x13, R375). -/
def execImin (k : ChipId) (r : RegionId) (p : TileId) (s : State) : Out := vectorStep k r p 0x13 (lanes2 imin) s

/-- IMAX (VOP 0x14, R375). -/
def execImax (k : ChipId) (r : RegionId) (p : TileId) (s : State) : Out := vectorStep k r p 0x14 (lanes2 imax) s

/-- AND (VOP 0x15, R375). -/
def execAnd (k : ChipId) (r : RegionId) (p : TileId) (s : State) : Out := vectorStep k r p 0x15 (lanes2 iand) s

/-- OR (VOP 0x16, R375). -/
def execOr (k : ChipId) (r : RegionId) (p : TileId) (s : State) : Out := vectorStep k r p 0x16 (lanes2 ior) s

/-- XOR (VOP 0x17, R375). -/
def execXor (k : ChipId) (r : RegionId) (p : TileId) (s : State) : Out := vectorStep k r p 0x17 (lanes2 ixor) s

/-- SHL (VOP 0x18, R375). -/
def execShl (k : ChipId) (r : RegionId) (p : TileId) (s : State) : Out := vectorStep k r p 0x18 (lanes2 ishl) s

/-- SHR (VOP 0x19, R375). -/
def execShr (k : ChipId) (r : RegionId) (p : TileId) (s : State) : Out := vectorStep k r p 0x19 (lanes2 ishr) s

/-- SAR (VOP 0x1A, R375). -/
def execSar (k : ChipId) (r : RegionId) (p : TileId) (s : State) : Out := vectorStep k r p 0x1A (lanes2 isar) s

/-- ICMPLT (VOP 0x1B, R375). -/
def execIcmplt (k : ChipId) (r : RegionId) (p : TileId) (s : State) : Out := vectorStep k r p 0x1B (lanes2 icmplt) s

/-- FADD (VOP 0x20, R375, R322). -/
def execFadd (k : ChipId) (r : RegionId) (p : TileId) (s : State) : Out := vectorStep k r p 0x20 (lanes2 fadd) s

/-- FSUB (VOP 0x21, R375, R322). -/
def execFsub (k : ChipId) (r : RegionId) (p : TileId) (s : State) : Out := vectorStep k r p 0x21 (lanes2 fsub) s

/-- FMUL (VOP 0x22, R375, R322). -/
def execFmul (k : ChipId) (r : RegionId) (p : TileId) (s : State) : Out := vectorStep k r p 0x22 (lanes2 fmul) s

/-- FMA (VOP 0x23, R375, R322). -/
def execFma (k : ChipId) (r : RegionId) (p : TileId) (s : State) : Out := vectorStep k r p 0x23 (lanes3 ffma) s

/-- FMIN (VOP 0x24, R375, R322, R323). -/
def execFmin (k : ChipId) (r : RegionId) (p : TileId) (s : State) : Out := vectorStep k r p 0x24 (lanes2 fmin) s

/-- FMAX (VOP 0x25, R375, R322, R323). -/
def execFmax (k : ChipId) (r : RegionId) (p : TileId) (s : State) : Out := vectorStep k r p 0x25 (lanes2 fmax) s

/-- FCMPLT (VOP 0x26, R375, R322, R323). -/
def execFcmplt (k : ChipId) (r : RegionId) (p : TileId) (s : State) : Out := vectorStep k r p 0x26 (lanes2 fcmplt) s

/-- RECIP (VOP 0x27, R375, R322). -/
def execRecip (k : ChipId) (r : RegionId) (p : TileId) (s : State) : Out := vectorStep k r p 0x27 (lanes1 frecip) s

/-- RSQRT (VOP 0x28, R375, R322). -/
def execRsqrt (k : ChipId) (r : RegionId) (p : TileId) (s : State) : Out := vectorStep k r p 0x28 (lanes1 frsqrt) s

/-- SQRT (VOP 0x29, R375, R322). -/
def execSqrt (k : ChipId) (r : RegionId) (p : TileId) (s : State) : Out := vectorStep k r p 0x29 (lanes1 fsqrt) s

/-- EXP2 (VOP 0x2A, R375, R322). -/
def execExp2 (k : ChipId) (r : RegionId) (p : TileId) (s : State) : Out := vectorStep k r p 0x2A (lanes1 fexp2) s

/-- LOG2 (VOP 0x2B, R375, R322). -/
def execLog2 (k : ChipId) (r : RegionId) (p : TileId) (s : State) : Out := vectorStep k r p 0x2B (lanes1 flog2) s

/-- PERM (VOP 0x30, R375). -/
def execPerm (k : ChipId) (r : RegionId) (p : TileId) (s : State) : Out := vectorStep k r p 0x30 permLanes s

/-- BCAST (VOP 0x31, R375). -/
def execBcast (k : ChipId) (r : RegionId) (p : TileId) (s : State) : Out := vectorStep k r p 0x31 bcastLanes s

/-- LSHIFT (VOP 0x32, R375). -/
def execLshift (k : ChipId) (r : RegionId) (p : TileId) (s : State) : Out := vectorStep k r p 0x32 lshiftLanes s

/-- SEL (VOP 0x33, R375). -/
def execSel (k : ChipId) (r : RegionId) (p : TileId) (s : State) : Out := vectorStep k r p 0x33 (lanes3 selLane) s

/-- RSUM (VOP 0x38, R375, R324). -/
def execRsum (k : ChipId) (r : RegionId) (p : TileId) (s : State) : Out := vectorStep k r p 0x38 (reduced fadd) s

/-- RMAX (VOP 0x39, R375, R323). -/
def execRmax (k : ChipId) (r : RegionId) (p : TileId) (s : State) : Out := vectorStep k r p 0x39 (reduced fmax) s

/-- RMIN (VOP 0x3A, R375, R323). -/
def execRmin (k : ChipId) (r : RegionId) (p : TileId) (s : State) : Out := vectorStep k r p 0x3A (reduced fmin) s

/-- Reserved bits and address of LD and ST. -/
def Tile.memError (x : Tile) (d : List Nat) : Nat :=
  firstError [(vectorReserved d || awReserved (word d 1), eReserved), (x.badLocal (word d 1) 256 64, eAddress)]

/-- LD (VOP 0x00, R375): VD takes the 256 bytes at ADDR. -/
def execLd (k : ChipId) (r : RegionId) (p : TileId) (s : State) : Out :=
  let c := s.chip k
  let d := c.desc r p
  let x := c.tile (tileIx r p)
  let a := x.eff (word d 1)
  let m := c.tileMem r p
  occurs (c.atVop r p 0x00 [span a 256] []) s (s.setChip k (c.issueOp r p (x.memError d) d (fun c =>
    c.onTile (tileIx r p) (fun x =>
      ((x.setVec (vd d) ((List.range 64).map (fun i => Memory.readLE m (a + 4 * i) 4))).countVop).countLines a 256))))

/-- ST (VOP 0x01, R375): the 256 bytes at ADDR take VD. -/
def execSt (k : ChipId) (r : RegionId) (p : TileId) (s : State) : Out :=
  let c := s.chip k
  let d := c.desc r p
  let x := c.tile (tileIx r p)
  let a := x.eff (word d 1)
  occurs (c.atVop r p 0x01 [] [span a 256]) s (s.setChip k (c.issueOp r p (x.memError d) d (fun c =>
    (c.onTileMem r p (fun m => Memory.write m a ((x.vec (vd d)).flatMap (fun v => natLE 4 v)))).onTile (tileIx r p)
      (fun x => x.countVop.countLines a 256))))

/-- Source and target of CVT (Table OPS-7): codes of CONVERT limited to FP32, INT32 and BF16. -/
def cvtOk (d : List Nat) : Bool :=
  let f := fun (n : Nat) => decide (3 ≤ n) && decide (n ≤ 5)
  f (field (imm d) 0 4) && f (field (imm d) 4 4) && convertible (field (imm d) 0 4) (field (imm d) 4 4)

/-- CVT (VOP 0x40, R343, R375): lane-wise conversion with the flags of R342. -/
def execCvt (k : ChipId) (r : RegionId) (p : TileId) (s : State) : Out :=
  let c := s.chip k
  let d := c.desc r p
  let x := c.tile (tileIx r p)
  let outs := (x.vecA d).map (fun v => convertElem (field (imm d) 0 4) (field (imm d) 4 4) (descSat d)
    (if field (imm d) 0 4 = 3 then v % 65536 else v))
  let err := firstError [(vectorReserved d, eReserved), (!cvtOk d, eFormat)]
  occurs (c.atVop r p 0x40 [] []) s (s.setChip k (c.issueOp r p err d (fun c =>
    (c.onTile (tileIx r p) (fun x => (x.setVec (vd d) (outs.map (fun o => o.bits))).countVop)).raiseFlags r p
      (outs.foldl (fun f o => orFlags f o.flags) 0))))

/-- An address register written at issue (R376). -/
def setaStep (k : ChipId) (r : RegionId) (p : TileId) (code : Nat) (f : Tile → List Nat → Nat) (s : State) : Out :=
  let c := s.chip k
  let d := c.desc r p
  let err := firstError [(vectorReserved d, eReserved)]
  occurs (c.atVop r p code [] []) s (s.setChip k (c.issueOp r p err d (fun c =>
    c.onTile (tileIx r p) (fun x => ({ x with a := x.a.set (vd d % 8) (f x d) }).countVop))))

/-- SETA_IMM (VOP 0x50, R376): a[VD[2:0]] takes IMM. -/
def execSetaImm (k : ChipId) (r : RegionId) (p : TileId) (s : State) : Out := setaStep k r p 0x50 (fun _ d => imm d) s

/-- SETA_V (VOP 0x51, R376): a[VD[2:0]] takes lane 1 bits [7:0] and lane 0 of VA. -/
def execSetaV (k : ChipId) (r : RegionId) (p : TileId) (s : State) : Out :=
  setaStep k r p 0x51 (fun x d => (x.vecA d).getD 0 0 + 2 ^ 32 * ((x.vecA d).getD 1 0 % 256)) s

end Sys2Proof.Machine
end

