-- ==== Sys2Proof/Machine/Dispatch.lean ====
section
/-! DEFINITION. One arm per command: each calls its meaning. -/

namespace Sys2Proof.Machine

def exec (i : Instr) (s : State) : Host.Outcome State Fault Refusal :=
  match i with
  | .slotOccupied n m => Sys2Proof.Machine.execSlotOccupied n m s
  | .presenceLost n early late => Sys2Proof.Machine.execPresenceLost n early late s
  | .slotBypassLeave n => Sys2Proof.Machine.execSlotBypassLeave n s
  | .slotRequestDeliver n us => Sys2Proof.Machine.execSlotRequestDeliver n us s
  | .breakerTrip n => Sys2Proof.Machine.execBreakerTrip n s
  | .busbarUndervoltage mv => Sys2Proof.Machine.execBusbarUndervoltage mv s
  | .facilityInputLost c ps => Sys2Proof.Machine.execFacilityInputLost c ps s
  | .trcOutputEnable c ns warm => Sys2Proof.Machine.execTrcOutputEnable c ns warm s
  | .ppsCompare ns => Sys2Proof.Machine.execPpsCompare ns s
  | .nvmCardInsert c card ok => Sys2Proof.Machine.execNvmCardInsert c card ok s
  | .upstreamFailover ms => Sys2Proof.Machine.execUpstreamFailover ms s
  | .p2pWriteForward k => Sys2Proof.Machine.execP2pWriteForward k s
  | .coolantStopAssert fa fb => Sys2Proof.Machine.execCoolantStopAssert fa fb s
  | .coolantStopClear flow => Sys2Proof.Machine.execCoolantStopClear flow s
  | .slotPowerupRequest n flow ms => Sys2Proof.Machine.execSlotPowerupRequest n flow ms s
  | .flowDisagree fa fb => Sys2Proof.Machine.execFlowDisagree fa fb s
  | .lampBoardRemoved => Sys2Proof.Machine.execLampBoardRemoved s
  | .environmentOutOfRange e v => Sys2Proof.Machine.execEnvironmentOutOfRange e v s
  | .i2cSegmentStuck n ms => Sys2Proof.Machine.execI2cSegmentStuck n ms s
  | .phaseModuleFail n q => Sys2Proof.Machine.execPhaseModuleFail n q s
  | .trayStart ok => Sys2Proof.Machine.execTrayStart ok s
  | .powerUpSequence n => Sys2Proof.Machine.execPowerUpSequence n s
  | .railNotGood n => Sys2Proof.Machine.execRailNotGood n s
  | .railsStable n => Sys2Proof.Machine.execRailsStable n s
  | .powerDownSequence n => Sys2Proof.Machine.execPowerDownSequence n s
  | .slotFullyOff n => Sys2Proof.Machine.execSlotFullyOff n s
  | .powerupInhibitEnd n => Sys2Proof.Machine.execPowerupInhibitEnd n s
  | .powerOnReset k => Sys2Proof.Machine.execPowerOnReset k s
  | .modRstAssert k => Sys2Proof.Machine.execModRstAssert k s
  | .startBegin k => Sys2Proof.Machine.execStartBegin k s
  | .startPhaseAdvance k => Sys2Proof.Machine.execStartPhaseAdvance k s
  | .selftestComplete k fails => Sys2Proof.Machine.execSelftestComplete k fails s
  | .channelTrainingFail k c => Sys2Proof.Machine.execChannelTrainingFail k c s
  | .readyPoint k => Sys2Proof.Machine.execReadyPoint k s
  | .startTimeout k => Sys2Proof.Machine.execStartTimeout k s
  | .perstRelease k => Sys2Proof.Machine.execPerstRelease k s
  | .restart k i2c => Sys2Proof.Machine.execRestart k i2c s
  | .epochBoundary pl cycles => Sys2Proof.Machine.execEpochBoundary pl cycles s
  | .frameTick k => Sys2Proof.Machine.execFrameTick k s
  | .ppsEdge pl line pos cycles => Sys2Proof.Machine.execPpsEdge pl line pos cycles s
  | .ppsHoldEnd pl cycles => Sys2Proof.Machine.execPpsHoldEnd pl cycles s
  | .ppsLost pl => Sys2Proof.Machine.execPpsLost pl s
  | .epochLoadArm k v => Sys2Proof.Machine.execEpochLoadArm k v s
  | .refSwitch k => Sys2Proof.Machine.execRefSwitch k s
  | .referenceInvalid k line ns duty => Sys2Proof.Machine.execReferenceInvalid k line ns duty s
  | .freqWindowEnd k line ppm => Sys2Proof.Machine.execFreqWindowEnd k line ppm s
  | .referenceQualified k line => Sys2Proof.Machine.execReferenceQualified k line s
  | .freqHoldEnd k => Sys2Proof.Machine.execFreqHoldEnd k s
  | .refPllLocked k => Sys2Proof.Machine.execRefPllLocked k s
  | .holdoverExit k => Sys2Proof.Machine.execHoldoverExit k s
  | .holdoverTimeout k => Sys2Proof.Machine.execHoldoverTimeout k s
  | .noReferenceTimeout k => Sys2Proof.Machine.execNoReferenceTimeout k s
  | .guardCalibrate k => Sys2Proof.Machine.execGuardCalibrate k s
  | .generatorStart k r => Sys2Proof.Machine.execGeneratorStart k r s
  | .calComplete k r => Sys2Proof.Machine.execCalComplete k r s
  | .generatorLocked k r => Sys2Proof.Machine.execGeneratorLocked k r s
  | .lockLost k r => Sys2Proof.Machine.execLockLost k r s
  | .stretchEvent k r fs => Sys2Proof.Machine.execStretchEvent k r fs s
  | .generatorJitterFault k r duty changes => Sys2Proof.Machine.execGeneratorJitterFault k r duty changes s
  | .stepVoltageRaise k => Sys2Proof.Machine.execStepVoltageRaise k s
  | .stepRailCheck k uv => Sys2Proof.Machine.execStepRailCheck k uv s
  | .stepSlewStart k => Sys2Proof.Machine.execStepSlewStart k s
  | .stepSubstep k j => Sys2Proof.Machine.execStepSubstep k j s
  | .stepSlewEnd k => Sys2Proof.Machine.execStepSlewEnd k s
  | .stepLowerDone k => Sys2Proof.Machine.execStepLowerDone k s
  | .stepCancelSettled k => Sys2Proof.Machine.execStepCancelSettled k s
  | .gangSkewFault k r ps cycles => Sys2Proof.Machine.execGangSkewFault k r ps cycles s
  | .gangSkewHalt k r ps pos cycles => Sys2Proof.Machine.execGangSkewHalt k r ps pos cycles s
  | .gangMemberDeskewed k r ps steps => Sys2Proof.Machine.execGangMemberDeskewed k r ps steps s
  | .gangDissolveApply k m => Sys2Proof.Machine.execGangDissolveApply k m s
  | .gangDissolveTimeout k m => Sys2Proof.Machine.execGangDissolveTimeout k m s
  | .tileFailed k r q => Sys2Proof.Machine.execTileFailed k r q s
  | .memoryUe k r p off reader rewriteOk residue => Sys2Proof.Machine.execMemoryUe k r p off reader rewriteOk residue s
  | .residueError k r p => Sys2Proof.Machine.execResidueError k r p s
  | .sequencerHang k r p => Sys2Proof.Machine.execSequencerHang k r p s
  | .scrubLine k r p corrected => Sys2Proof.Machine.execScrubLine k r p corrected s
  | .ceRateFault k r p => Sys2Proof.Machine.execCeRateFault k r p s
  | .xngCalibration k trips => Sys2Proof.Machine.execXngCalibration k trips s
  | .xngCalibrationDone k => Sys2Proof.Machine.execXngCalibrationDone k s
  | .xngCalibrationTimeout k => Sys2Proof.Machine.execXngCalibrationTimeout k s
  | .queuePush k q seen at_ => Sys2Proof.Machine.execQueuePush k q seen at_ s
  | .queuePop k q seen at_ => Sys2Proof.Machine.execQueuePop k q seen at_ s
  | .fixedItemRelease k r lane src seen at_ => Sys2Proof.Machine.execFixedItemRelease k r lane src seen at_ s
  | .regionIsolate k r => Sys2Proof.Machine.execRegionIsolate k r s
  | .isolationSinkAccept k r lane => Sys2Proof.Machine.execIsolationSinkAccept k r lane s
  | .queueReset k q writer => Sys2Proof.Machine.execQueueReset k q writer s
  | .queueRipSeen k q writer => Sys2Proof.Machine.execQueueRipSeen k q writer s
  | .queueAckSeen k q writer => Sys2Proof.Machine.execQueueAckSeen k q writer s
  | .handshakeTimeout k q => Sys2Proof.Machine.execHandshakeTimeout k q s
  | .isolationEnd k r => Sys2Proof.Machine.execIsolationEnd k r s
  | .spineStartCheck k back => Sys2Proof.Machine.execSpineStartCheck k back s
  | .messageInject k m at_ => Sys2Proof.Machine.execMessageInject k m at_ s
  | .routerForward k r d => Sys2Proof.Machine.execRouterForward k r d s
  | .rspArrive k e => Sys2Proof.Machine.execRspArrive k e s
  | .rspTimeout k e tag => Sys2Proof.Machine.execRspTimeout k e tag s
  | .wseqResync k e => Sys2Proof.Machine.execWseqResync k e s
  | .flitUncorrectable k r d => Sys2Proof.Machine.execFlitUncorrectable k r d s
  | .laneStallTimeout k r d lane => Sys2Proof.Machine.execLaneStallTimeout k r d lane s
  | .linkCeRate k r d n => Sys2Proof.Machine.execLinkCeRate k r d n s
  | .commit k => Sys2Proof.Machine.execCommit k s
  | .commitCancel k => Sys2Proof.Machine.execCommitCancel k s
  | .stage k => Sys2Proof.Machine.execStage k s
  | .stageComplete k => Sys2Proof.Machine.execStageComplete k s
  | .abandon k => Sys2Proof.Machine.execAbandon k s
  | .commitApply k programOk => Sys2Proof.Machine.execCommitApply k programOk s
  | .rollStepStart k => Sys2Proof.Machine.execRollStepStart k s
  | .rollStepApply k copyUe => Sys2Proof.Machine.execRollStepApply k copyUe s
  | .rollForcedDrain k => Sys2Proof.Machine.execRollForcedDrain k s
  | .rollSingleTimeout k => Sys2Proof.Machine.execRollSingleTimeout k s
  | .rollStepEnd k => Sys2Proof.Machine.execRollStepEnd k s
  | .tileWrite k r => Sys2Proof.Machine.execTileWrite k r s
  | .tileRead k r => Sys2Proof.Machine.execTileRead k r s
  | .start k r => Sys2Proof.Machine.execStart k r s
  | .matrix k r p => Sys2Proof.Machine.execMatrix k r p s
  | .prescan k r p => Sys2Proof.Machine.execPrescan k r p s
  | .convert k r p => Sys2Proof.Machine.execConvert k r p s
  | .move k r p => Sys2Proof.Machine.execMove k r p s
  | .gather k r p => Sys2Proof.Machine.execGather k r p s
  | .scatter k r p => Sys2Proof.Machine.execScatter k r p s
  | .selectSkewer k r p => Sys2Proof.Machine.execSelectSkewer k r p s
  | .selectColander k r p => Sys2Proof.Machine.execSelectColander k r p s
  | .collectiveArm k r p => Sys2Proof.Machine.execCollectiveArm k r p s
  | .collectiveSend k r p => Sys2Proof.Machine.execCollectiveSend k r p s
  | .collectiveWait k r p => Sys2Proof.Machine.execCollectiveWait k r p s
  | .collectiveDisarm k r p => Sys2Proof.Machine.execCollectiveDisarm k r p s
  | .collectiveTimeout k r p => Sys2Proof.Machine.execCollectiveTimeout k r p s
  | .collect k r => Sys2Proof.Machine.execCollect k r s
  | .collectResend k r p => Sys2Proof.Machine.execCollectResend k r p s
  | .signalAdd k r p => Sys2Proof.Machine.execSignalAdd k r p s
  | .signalSet k r p => Sys2Proof.Machine.execSignalSet k r p s
  | .wait k r p => Sys2Proof.Machine.execWait k r p s
  | .waitRetry k r p => Sys2Proof.Machine.execWaitRetry k r p s
  | .waitReservationTimeout k r p => Sys2Proof.Machine.execWaitReservationTimeout k r p s
  | .loop k r p => Sys2Proof.Machine.execLoop k r p s
  | .call k r p => Sys2Proof.Machine.execCall k r p s
  | .ret k r p => Sys2Proof.Machine.execRet k r p s
  | .fence k r p => Sys2Proof.Machine.execFence k r p s
  | .flush k e => Sys2Proof.Machine.execFlush k e s
  | .itemEnd k r p => Sys2Proof.Machine.execItemEnd k r p s
  | .ld k r p => Sys2Proof.Machine.execLd k r p s
  | .st k r p => Sys2Proof.Machine.execSt k r p s
  | .iadd k r p => Sys2Proof.Machine.execIadd k r p s
  | .isub k r p => Sys2Proof.Machine.execIsub k r p s
  | .imul k r p => Sys2Proof.Machine.execImul k r p s
  | .imin k r p => Sys2Proof.Machine.execImin k r p s
  | .imax k r p => Sys2Proof.Machine.execImax k r p s
  | .and k r p => Sys2Proof.Machine.execAnd k r p s
  | .or k r p => Sys2Proof.Machine.execOr k r p s
  | .xor k r p => Sys2Proof.Machine.execXor k r p s
  | .shl k r p => Sys2Proof.Machine.execShl k r p s
  | .shr k r p => Sys2Proof.Machine.execShr k r p s
  | .sar k r p => Sys2Proof.Machine.execSar k r p s
  | .icmplt k r p => Sys2Proof.Machine.execIcmplt k r p s
  | .fadd k r p => Sys2Proof.Machine.execFadd k r p s
  | .fsub k r p => Sys2Proof.Machine.execFsub k r p s
  | .fmul k r p => Sys2Proof.Machine.execFmul k r p s
  | .fma k r p => Sys2Proof.Machine.execFma k r p s
  | .fmin k r p => Sys2Proof.Machine.execFmin k r p s
  | .fmax k r p => Sys2Proof.Machine.execFmax k r p s
  | .fcmplt k r p => Sys2Proof.Machine.execFcmplt k r p s
  | .recip k r p => Sys2Proof.Machine.execRecip k r p s
  | .rsqrt k r p => Sys2Proof.Machine.execRsqrt k r p s
  | .sqrt k r p => Sys2Proof.Machine.execSqrt k r p s
  | .exp2 k r p => Sys2Proof.Machine.execExp2 k r p s
  | .log2 k r p => Sys2Proof.Machine.execLog2 k r p s
  | .perm k r p => Sys2Proof.Machine.execPerm k r p s
  | .bcast k r p => Sys2Proof.Machine.execBcast k r p s
  | .lshift k r p => Sys2Proof.Machine.execLshift k r p s
  | .sel k r p => Sys2Proof.Machine.execSel k r p s
  | .rsum k r p => Sys2Proof.Machine.execRsum k r p s
  | .rmax k r p => Sys2Proof.Machine.execRmax k r p s
  | .rmin k r p => Sys2Proof.Machine.execRmin k r p s
  | .cvt k r p => Sys2Proof.Machine.execCvt k r p s
  | .setaImm k r p => Sys2Proof.Machine.execSetaImm k r p s
  | .setaV k r p => Sys2Proof.Machine.execSetaV k r p s
  | .evtAdd k => Sys2Proof.Machine.execEvtAdd k s
  | .evtSet k => Sys2Proof.Machine.execEvtSet k s
  | .evtWaitGe k => Sys2Proof.Machine.execEvtWaitGe k s
  | .ctrRead k => Sys2Proof.Machine.execCtrRead k s
  | .waiterTimeout k src tag => Sys2Proof.Machine.execWaiterTimeout k src tag s
  | .evtOwnerWrite k n v => Sys2Proof.Machine.execEvtOwnerWrite k n v s
  | .openSession k g => Sys2Proof.Machine.execOpenSession k g s
  | .arm k g => Sys2Proof.Machine.execArm k g s
  | .armPredict k g => Sys2Proof.Machine.execArmPredict k g s
  | .confirm k g => Sys2Proof.Machine.execConfirm k g s
  | .cancel k g => Sys2Proof.Machine.execCancel k g s
  | .close k g => Sys2Proof.Machine.execClose k g s
  | .sessionRead k g => Sys2Proof.Machine.execSessionRead k g s
  | .modelLoad k g => Sys2Proof.Machine.execModelLoad k g s
  | .modelLoadCopyDone k g ok => Sys2Proof.Machine.execModelLoadCopyDone k g ok s
  | .tileReload k g => Sys2Proof.Machine.execTileReload k g s
  | .residencyRead k g => Sys2Proof.Machine.execResidencyRead k g s
  | .energyRead k g => Sys2Proof.Machine.execEnergyRead k g s
  | .energyCapture k => Sys2Proof.Machine.execEnergyCapture k s
  | .energyReadResult k g => Sys2Proof.Machine.execEnergyReadResult k g s
  | .counterAdd k g => Sys2Proof.Machine.execCounterAdd k g s
  | .counterSet k g => Sys2Proof.Machine.execCounterSet k g s
  | .counterWaitGe k g => Sys2Proof.Machine.execCounterWaitGe k g s
  | .counterRead k g => Sys2Proof.Machine.execCounterRead k g s
  | .nop k g => Sys2Proof.Machine.execNop k g s
  | .admission k p => Sys2Proof.Machine.execAdmission k p s
  | .stageStart k item => Sys2Proof.Machine.execStageStart k item s
  | .itemEndReport k => Sys2Proof.Machine.execItemEndReport k s
  | .runaheadDeadline k n => Sys2Proof.Machine.execRunaheadDeadline k n s
  | .arbiterCycle k c busy err => Sys2Proof.Machine.execArbiterCycle k c busy err s
  | .memoryWrite k c => Sys2Proof.Machine.execMemoryWrite k c s
  | .memoryRead k c => Sys2Proof.Machine.execMemoryRead k c s
  | .void k c => Sys2Proof.Machine.execVoid k c s
  | .readGroupComplete k c => Sys2Proof.Machine.execReadGroupComplete k c s
  | .ecsRead k c count => Sys2Proof.Machine.execEcsRead k c count s
  | .repeatRateFault k c => Sys2Proof.Machine.execRepeatRateFault k c s
  | .powerEvaluation k act => Sys2Proof.Machine.execPowerEvaluation k act s
  | .tempSample k temps pos cycles => Sys2Proof.Machine.execTempSample k temps pos cycles s
  | .tripRestart k r => Sys2Proof.Machine.execTripRestart k r s
  | .coolantStop k ns pos cycles => Sys2Proof.Machine.execCoolantStop k ns pos cycles s
  | .coolantStopRelease k => Sys2Proof.Machine.execCoolantStopRelease k s
  | .coolantResumeStart k => Sys2Proof.Machine.execCoolantResumeStart k s
  | .grantExchange => Sys2Proof.Machine.execGrantExchange s
  | .grantFallApply k => Sys2Proof.Machine.execGrantFallApply k s
  | .grantRiseApply k => Sys2Proof.Machine.execGrantRiseApply k s
  | .grantStale k => Sys2Proof.Machine.execGrantStale k s
  | .sweepStart => Sys2Proof.Machine.execSweepStart s
  | .meterFramePass node rev meas mv crcOk => Sys2Proof.Machine.execMeterFramePass node rev meas mv crcOk s
  | .sweepBroken => Sys2Proof.Machine.execSweepBroken s
  | .energyBooking k => Sys2Proof.Machine.execEnergyBooking k s
  | .gainUpdate k => Sys2Proof.Machine.execGainUpdate k s
  | .bar0Write k off wide v => Sys2Proof.Machine.execBar0Write k off wide v s
  | .mgmtI2cAccess k off v => Sys2Proof.Machine.execMgmtI2cAccess k off v s
  | .bar2Write k off data en => Sys2Proof.Machine.execBar2Write k off data en s
  | .bar2Read k off n => Sys2Proof.Machine.execBar2Read k off n s
  | .cmdTailWrite k g v => Sys2Proof.Machine.execCmdTailWrite k g v s
  | .cplHeadWrite k g v => Sys2Proof.Machine.execCplHeadWrite k g v s
  | .commandFetch k g entry => Sys2Proof.Machine.execCommandFetch k g entry s
  | .ringEnable k g => Sys2Proof.Machine.execRingEnable k g s
  | .ringDisable k g => Sys2Proof.Machine.execRingDisable k g s
  | .completionWrite k g => Sys2Proof.Machine.execCompletionWrite k g s
  | .holdRelease k g => Sys2Proof.Machine.execHoldRelease k g s
  | .ringAccessError k g => Sys2Proof.Machine.execRingAccessError k g s
  | .msixMessage k v => Sys2Proof.Machine.execMsixMessage k v s
  | .flashProgram k => Sys2Proof.Machine.execFlashProgram k s
  | .flashRead k => Sys2Proof.Machine.execFlashRead k s
  | .flashDone k ok => Sys2Proof.Machine.execFlashDone k ok s
  | .xdmaCollect k => Sys2Proof.Machine.execXdmaCollect k s
  | .inboxWrite k data => Sys2Proof.Machine.execInboxWrite k data s
  | .inboxResend k n => Sys2Proof.Machine.execInboxResend k n s
  | .inboxExpire k n => Sys2Proof.Machine.execInboxExpire k n s
  | .hifReset k cause => Sys2Proof.Machine.execHifReset k cause s
  | .roleGrant x => Sys2Proof.Machine.execRoleGrant x s
  | .roleFailover ok => Sys2Proof.Machine.execRoleFailover ok s
  | .heartbeatSend x => Sys2Proof.Machine.execHeartbeatSend x s
  | .heartbeatReceive x => Sys2Proof.Machine.execHeartbeatReceive x s
  | .heartbeatLost x => Sys2Proof.Machine.execHeartbeatLost x s
  | .handover => Sys2Proof.Machine.execHandover s
  | .handoverMessage => Sys2Proof.Machine.execHandoverMessage s
  | .mgmtDoorbell x frame samples ok => Sys2Proof.Machine.execMgmtDoorbell x frame samples ok s
  | .mgmtConnect x chain => Sys2Proof.Machine.execMgmtConnect x chain s
  | .forwardTimeout x => Sys2Proof.Machine.execForwardTimeout x s
  | .trayStatus q => Sys2Proof.Machine.execTrayStatus q s
  | .faultLog q from_ => Sys2Proof.Machine.execFaultLog q from_ s
  | .meterStatus q => Sys2Proof.Machine.execMeterStatus q s
  | .lampStatus q => Sys2Proof.Machine.execLampStatus q s
  | .roleSwap q gen => Sys2Proof.Machine.execRoleSwap q gen s
  | .unitPrepare q typ idx => Sys2Proof.Machine.execUnitPrepare q typ idx s
  | .unitReadyToRemove => Sys2Proof.Machine.execUnitReadyToRemove s
  | .prepareTimeout => Sys2Proof.Machine.execPrepareTimeout s
  | .unitResume q typ idx => Sys2Proof.Machine.execUnitResume q typ idx s
  | .unitInsert typ idx => Sys2Proof.Machine.execUnitInsert typ idx s
  | .unitJoin typ idx => Sys2Proof.Machine.execUnitJoin typ idx s
  | .slotPower q slot on => Sys2Proof.Machine.execSlotPower q slot on s
  | .slotReset q slot => Sys2Proof.Machine.execSlotReset q slot s
  | .chipRestart q slot => Sys2Proof.Machine.execChipRestart q slot s
  | .trayImageWrite q off data => Sys2Proof.Machine.execTrayImageWrite q off data s
  | .trayImageAdopt q len writeOk => Sys2Proof.Machine.execTrayImageAdopt q len writeOk s
  | .switchUpstream q port => Sys2Proof.Machine.execSwitchUpstream q port s
  | .timeLoad q ep => Sys2Proof.Machine.execTimeLoad q ep s
  | .locate q on => Sys2Proof.Machine.execLocate q on s
  | .lampTest q samples => Sys2Proof.Machine.execLampTest q samples s
  | .lampLevel q pct => Sys2Proof.Machine.execLampLevel q pct s
  | .caInstall q idx cert => Sys2Proof.Machine.execCaInstall q idx cert s
  | .caRemove q idx => Sys2Proof.Machine.execCaRemove q idx s
  | .lampPoll => Sys2Proof.Machine.execLampPoll s
  | .lampDiagnosis e sense us => Sys2Proof.Machine.execLampDiagnosis e sense us s
  | .proofPulse e sense ms => Sys2Proof.Machine.execProofPulse e sense ms s
  | .modAlert n => Sys2Proof.Machine.execModAlert n s
  | .vidFrame n frame => Sys2Proof.Machine.execVidFrame n frame s
  | .tileReloadCopyDone k g ok => Sys2Proof.Machine.execTileReloadCopyDone k g ok s
  | .invalidOp k r p => Sys2Proof.Machine.execInvalidOp k r p s
  | .readWithClear k off wide => Sys2Proof.Machine.execReadWithClear k off wide s
  | .d3hotTransition k d3 => Sys2Proof.Machine.execD3hotTransition k d3 s
  | .meterLinkLock node rev lock => Sys2Proof.Machine.execMeterLinkLock node rev lock s
  | .aliveToggle => Sys2Proof.Machine.execAliveToggle s
  | .trcSourceGained c fac ps => Sys2Proof.Machine.execTrcSourceGained c fac ps s
  | .trcPartnerLost c => Sys2Proof.Machine.execTrcPartnerLost c s
  | .unitRemoved typ idx => Sys2Proof.Machine.execUnitRemoved typ idx s

end Sys2Proof.Machine
end

