-- ==== Sys2Proof/Safety.lean ====
section
/-! DEFINITION. The terms that claims use: a vector lane, what a vector command leaves in its destination, the commands
that act on one chip alone, the invariants of the machine. -/

namespace Sys2Proof.Machine

/-! ## Vector lanes -/

/-- Lane `i` of vector register `v`. -/
def Tile.lane (x : Tile) (v i : Nat) : Word := x.vreg.get 0 (64 * v + i)

/-- Lane `i` of the second operand of descriptor `d`: IMM when USE_IMM is 1, else VB (Table OPS-6). -/
def Tile.laneB (x : Tile) (d : List Nat) (i : Nat) : Word := if useImm d then BitVec.ofNat 32 (imm d) else x.lane (vb d) i

/-- The descriptor at the PC of logical tile `p` of region `r` of chip `k` is a VECTOR of VOP `code` without a reserved
bit, and it may issue. -/
def VectorRuns (k : ChipId) (r : RegionId) (p : TileId) (code : Nat) (s : State) : Prop :=
  (s.chip k).atVop r p code [] [] = true ∧ vectorReserved ((s.chip k).desc r p) = false

/-- The command answers a next state in which lane `n` of VD of that descriptor is `f n`, for every lane. -/
def LanesAfter (i : Instr) (k : ChipId) (r : RegionId) (p : TileId) (s : State) (f : Nat → Word) : Prop :=
  ∃ t, exec i s = .next t ∧ ∀ n, n < 64 →
    ((t.chip k).tile (tileIx r p)).lane (vd ((s.chip k).desc r p)) n = f n

/-! ## Ring commands and completions -/

/-- The command `bs` of opcode `op` stands at the front of ring `g` of a running READY chip and `n` completions have
room (R620, R622). -/
def Chip.atCommand (c : Chip) (g op n : Nat) (bs : List Byte) : Prop :=
  c.running = true ∧ c.bru.ready = true ∧ c.roomForCompletions g n = true ∧ c.front g op = some bs

/-- Completion `x` of ring `g` is on its way to the ring or in the completion hold (R620). -/
def Chip.hasPosted (c : Chip) (g : Nat) (x : Completion) : Prop := x ∈ c.compQueue g ∨ (g, x) ∈ c.seq.hold

/-- The command completion of entry `bs` (Table HIF-5), posted at this epoch. -/
def Chip.commandEntry (c : Chip) (bs : List Byte) (status code : Nat) (res0 res1 : Nat := 0) : Completion :=
  { typ := 1, status := status, error := code, word4 := entryTag bs, word8 := entryOp bs
    epoch := c.time.epoch, res0 := res0, res1 := res1 }

/-- The chip's fault log holds F-TAG-nn of `inst` at this epoch. -/
def Chip.logged (c : Chip) (t : Tag) (nn inst : Nat) : Prop := ⟨codeOf t nn, inst, c.time.epoch⟩ ∈ c.hif.log

/-! ## What a command may change -/

/-- The pieces of a chip's state. -/
inductive Piece where
  | power | time | clk | tickDue | gens | regions | tiles | posns | xng | queues | eps | flying
  | links | mem | chans | seq | stew | bru | img | hif | dissolves | flash | otp
deriving DecidableEq, Repr

/-- A list of every piece. -/
def everyPiece : List Piece :=
  [.power, .time, .clk, .tickDue, .gens, .regions, .tiles, .posns, .xng, .queues, .eps, .flying,
   .links, .mem, .chans, .seq, .stew, .bru, .img, .hif, .dissolves, .flash, .otp]

/-- Chip `d` has that piece as chip `c` has it. -/
def Chip.sameAt (p : Piece) (c d : Chip) : Prop :=
  match p with
  | .power => d.powered = c.powered ∧ d.held = c.held ∧ d.slotId = c.slotId
  | .time => d.time = c.time
  | .clk => d.clk = c.clk
  | .tickDue => d.tickDue = c.tickDue
  | .gens => d.gens = c.gens
  | .regions => d.regions = c.regions
  | .tiles => d.tiles = c.tiles
  | .posns => d.posns = c.posns
  | .xng => d.xng = c.xng
  | .queues => d.queues = c.queues
  | .eps => d.eps = c.eps
  | .flying => d.flying = c.flying
  | .links => d.links = c.links
  | .mem => d.mem = c.mem
  | .chans => d.chans = c.chans
  | .seq => d.seq = c.seq
  | .stew => d.stew = c.stew
  | .bru => d.bru = c.bru
  | .img => d.img = c.img
  | .hif => d.hif = c.hif
  | .dissolves => d.dissolves = c.dissolves
  | .flash => d.flash = c.flash
  | .otp => d.otp = c.otp

/-- The pieces of a chip that the command may change. -/
def piecesOf (i : Instr) : List Piece :=
  match i with
  | .slotOccupied .. => everyPiece
  | .presenceLost .. | .slotRequestDeliver .. | .breakerTrip .. | .busbarUndervoltage .. | .railsStable ..
  | .powerDownSequence .. | .slotFullyOff .. | .powerOnReset .. | .modRstAssert .. | .startPhaseAdvance ..
  | .restart .. | .bar0Write .. | .mgmtI2cAccess .. | .handover | .mgmtDoorbell .. | .chipRestart ..
  | .trayImageAdopt .. => everyPiece.filter (fun p => p != .flash && p != .otp)
  | .slotBypassLeave .. | .facilityInputLost .. | .ppsCompare .. | .nvmCardInsert .. | .coolantStopAssert ..
  | .coolantStopClear .. | .slotPowerupRequest .. | .flowDisagree .. | .lampBoardRemoved
  | .environmentOutOfRange .. | .i2cSegmentStuck .. | .phaseModuleFail .. | .trayStart .. | .powerUpSequence ..
  | .railNotGood .. | .powerupInhibitEnd .. | .grantExchange | .sweepStart | .sweepBroken | .roleGrant ..
  | .roleFailover .. | .heartbeatSend .. | .heartbeatReceive .. | .heartbeatLost .. | .handoverMessage
  | .mgmtConnect .. | .forwardTimeout .. | .trayStatus .. | .faultLog .. | .meterStatus .. | .lampStatus ..
  | .roleSwap .. | .unitReadyToRemove | .prepareTimeout | .unitResume .. | .unitInsert .. | .unitJoin ..
  | .slotPower .. | .slotReset .. | .trayImageWrite .. | .timeLoad .. | .locate .. | .lampTest ..
  | .lampLevel .. | .caInstall .. | .caRemove .. | .lampPoll | .lampDiagnosis .. | .proofPulse .. | .modAlert ..
  | .vidFrame .. | .meterLinkLock .. | .aliveToggle | .trcSourceGained .. | .trcPartnerLost .. => []
  | .trcOutputEnable .. | .referenceInvalid .. | .referenceQualified .. | .noReferenceTimeout ..
  | .stepRailCheck .. | .unitPrepare .. | .unitRemoved .. => [.clk, .hif]
  | .upstreamFailover .. | .hifReset .. | .switchUpstream .. => [.queues, .eps, .seq, .hif]
  | .p2pWriteForward .. | .perstRelease .. | .generatorJitterFault .. | .cplHeadWrite .. | .ringEnable ..
  | .msixMessage .. | .flashProgram .. | .flashRead .. | .inboxExpire .. | .d3hotTransition .. => [.hif]
  | .startBegin .. => [.power, .clk, .bru, .hif]
  | .selftestComplete .. => [.regions, .tiles, .posns, .mem, .seq, .bru, .img, .hif]
  | .channelTrainingFail .. => [.chans, .bru, .hif]
  | .readyPoint .. => [.regions, .bru, .hif]
  | .startTimeout .. => [.bru, .hif]
  | .epochBoundary .. | .ppsEdge .. | .ppsHoldEnd .. => [.time, .clk, .tickDue, .gens, .regions, .tiles, .posns, .xng, .queues, .eps, .links, .chans, .seq, .stew, .bru, .img, .hif, .dissolves]
  | .frameTick .. => [.tickDue, .regions, .tiles, .mem, .chans, .seq, .stew, .img]
  | .ppsLost .. | .epochLoadArm .. => [.time, .hif]
  | .refSwitch .. | .freqWindowEnd .. | .refPllLocked .. | .stepLowerDone .. | .stepCancelSettled .. => [.clk]
  | .freqHoldEnd .. => [.time, .clk, .gens, .regions, .hif]
  | .holdoverExit .. => [.time, .clk, .gens, .hif]
  | .holdoverTimeout .. => [.time, .clk, .hif]
  | .guardCalibrate .. | .stepSlewStart .. | .stepSubstep .. => [.clk, .gens]
  | .generatorStart .. | .stretchEvent .. => [.gens]
  | .calComplete .. | .generatorLocked .. | .gangSkewHalt .. | .gangMemberDeskewed .. => [.gens, .regions]
  | .lockLost .. => [.gens, .hif]
  | .stepVoltageRaise .. => [.clk, .stew]
  | .stepSlewEnd .. => [.clk, .gens, .regions, .stew]
  | .gangSkewFault .. => [.gens, .regions, .tiles, .mem, .seq, .hif, .dissolves]
  | .gangDissolveApply .. => [.gens, .regions, .tiles, .xng, .queues, .eps, .flying, .mem, .seq, .img, .hif, .dissolves]
  | .gangDissolveTimeout .. => [.tiles, .mem, .seq, .hif, .dissolves]
  | .tileFailed .. | .sequencerHang .. => [.regions, .tiles, .mem, .seq, .img, .hif, .dissolves]
  | .memoryUe .. => [.regions, .tiles, .posns, .eps, .mem, .seq, .img, .hif, .dissolves]
  | .residueError .. => [.regions, .tiles, .posns, .mem, .seq, .img, .hif, .dissolves]
  | .scrubLine .. => [.tiles]
  | .ceRateFault .. | .prescan .. | .selectSkewer .. | .selectColander .. | .collectiveWait ..
  | .collectiveDisarm .. | .collectiveTimeout .. | .loop .. | .call .. | .ret .. | .ld .. | .iadd .. | .isub ..
  | .imul .. | .imin .. | .imax .. | .and .. | .or .. | .xor .. | .shl .. | .shr .. | .sar .. | .icmplt ..
  | .fadd .. | .fsub .. | .fmul .. | .fma .. | .fmin .. | .fmax .. | .fcmplt .. | .recip .. | .rsqrt ..
  | .sqrt .. | .exp2 .. | .log2 .. | .perm .. | .bcast .. | .lshift .. | .sel .. | .rsum .. | .rmax ..
  | .rmin .. | .cvt .. | .setaImm .. | .setaV .. | .invalidOp .. => [.tiles, .hif]
  | .xngCalibration .. => [.xng, .links]
  | .xngCalibrationDone .. | .xngCalibrationTimeout .. => [.xng, .hif]
  | .queuePush .. => [.time, .regions, .tiles, .xng, .queues, .eps, .flying, .links, .stew, .hif]
  | .queuePop .. => [.time, .xng, .queues, .eps, .flying, .stew]
  | .fixedItemRelease .. => [.time, .regions, .xng, .queues, .eps, .hif]
  | .regionIsolate .. => [.regions, .tiles, .xng, .queues, .eps, .flying, .mem, .seq, .hif]
  | .isolationSinkAccept .. | .routerForward .. => [.regions, .queues, .eps, .flying, .links, .stew]
  | .queueReset .. | .queueRipSeen .. => [.regions, .tiles, .xng, .queues, .eps, .flying]
  | .queueAckSeen .. => [.queues]
  | .handshakeTimeout .. => [.regions, .tiles, .xng, .queues, .eps, .flying, .hif]
  | .isolationEnd .. => [.regions, .seq, .hif]
  | .spineStartCheck .. => [.xng, .links, .bru, .hif]
  | .messageInject .. => [.time, .regions, .tiles, .xng, .queues, .eps, .hif]
  | .rspArrive .. | .rspTimeout .. => [.tiles, .posns, .eps, .stew, .hif]
  | .wseqResync .. | .bar2Read .. | .cmdTailWrite .. | .inboxResend .. => [.eps, .hif]
  | .flitUncorrectable .. => [.regions, .queues, .eps, .flying, .links, .stew, .hif]
  | .laneStallTimeout .. | .linkCeRate .. => [.links, .hif]
  | .commit .. => [.clk, .img, .hif]
  | .commitCancel .. => [.clk, .stew, .img, .hif]
  | .stage .. | .stageComplete .. => [.img, .hif]
  | .abandon .. => [.img]
  | .commitApply .. => [.chans, .seq, .bru, .img, .hif, .flash]
  | .rollStepStart .. | .rollSingleTimeout .. | .rollStepEnd .. => [.regions, .img, .hif]
  | .rollStepApply .. => [.gens, .regions, .tiles, .posns, .xng, .queues, .eps, .flying, .seq, .img, .hif]
  | .rollForcedDrain .. => [.tiles, .mem, .seq, .img, .hif]
  | .tileWrite .. => [.regions, .posns, .eps, .hif]
  | .tileRead .. => [.regions, .eps, .hif]
  | .start .. | .stageStart .. => [.tiles, .eps, .seq, .stew]
  | .matrix .. | .convert .. | .collectiveArm .. | .st .. => [.tiles, .posns, .hif]
  | .move .. | .gather .. | .scatter .. => [.tiles, .posns, .eps, .hif]
  | .collectiveSend .. | .signalAdd .. | .signalSet .. | .wait .. | .waitReservationTimeout .. | .fence .. =>
    [.tiles, .eps, .hif]
  | .collect .. => [.regions, .tiles, .posns, .eps, .hif]
  | .collectResend .. | .waitRetry .. | .itemEnd .. => [.tiles, .eps]
  | .flush .. | .memoryWrite .. | .memoryRead .. | .void .. => [.eps, .chans, .hif]
  | .evtAdd .. | .evtSet .. | .evtWaitGe .. | .counterAdd .. | .counterSet .. | .counterWaitGe .. =>
    [.eps, .seq, .stew, .hif]
  | .ctrRead .. | .waiterTimeout .. => [.eps, .seq, .hif]
  | .evtOwnerWrite .. | .modelLoad .. | .tileReload .. | .counterRead .. | .nop .. | .ringDisable ..
  | .ringAccessError .. => [.seq, .hif]
  | .openSession .. | .arm .. | .armPredict .. | .confirm .. | .cancel .. | .close .. | .runaheadDeadline .. =>
    [.mem, .seq, .hif]
  | .sessionRead .. => [.mem, .seq, .stew, .hif]
  | .modelLoadCopyDone .. | .tileReloadCopyDone .. => [.regions, .posns, .seq, .stew, .hif]
  | .residencyRead .. | .energyRead .. | .energyReadResult .. | .commandFetch .. | .completionWrite ..
  | .holdRelease .. => [.seq, .stew, .hif]
  | .energyCapture .. | .grantFallApply .. | .grantRiseApply .. | .energyBooking .. => [.stew]
  | .admission .. => [.tiles, .eps, .mem, .seq, .stew]
  | .itemEndReport .. => [.tiles, .eps, .mem, .seq, .hif]
  | .arbiterCycle .. => [.regions, .mem, .chans, .seq, .stew, .hif]
  | .readGroupComplete .. => [.eps, .chans]
  | .ecsRead .. | .repeatRateFault .. => [.chans, .hif]
  | .powerEvaluation .. => [.gens, .regions, .tiles, .stew, .hif]
  | .tempSample .. => [.gens, .regions, .tiles, .xng, .queues, .eps, .flying, .mem, .seq, .hif]
  | .tripRestart .. => [.gens, .regions, .hif]
  | .coolantStop .. => [.gens, .regions, .tiles, .mem, .seq, .stew, .bru, .hif]
  | .coolantStopRelease .. | .grantStale .. | .meterFramePass .. | .gainUpdate .. => [.stew, .hif]
  | .coolantResumeStart .. => [.gens, .stew]
  | .bar2Write .. | .xdmaCollect .. | .inboxWrite .. => [.eps, .stew, .hif]
  | .flashDone .. => [.hif, .flash]
  | .readWithClear .. => [.time, .gens, .regions, .tiles, .xng, .eps, .links, .chans, .seq, .stew, .hif]

/-- The command may change the chip in slot `n`. -/
def mayChange (i : Instr) (n : Nat) : Bool :=
  match i with
  | .slotOccupied k _ | .presenceLost k _ _ | .slotRequestDeliver k _ | .breakerTrip k | .railsStable k
  | .powerDownSequence k | .slotFullyOff k | .powerOnReset k | .modRstAssert k | .startBegin k
  | .startPhaseAdvance k | .selftestComplete k _ | .channelTrainingFail k _ | .readyPoint k | .startTimeout k
  | .perstRelease k | .restart k _ | .frameTick k | .epochLoadArm k _ | .refSwitch k | .referenceInvalid k _ _ _
  | .freqWindowEnd k _ _ | .referenceQualified k _ | .freqHoldEnd k | .refPllLocked k | .holdoverExit k
  | .holdoverTimeout k | .noReferenceTimeout k | .guardCalibrate k | .generatorStart k _ | .calComplete k _
  | .generatorLocked k _ | .lockLost k _ | .stretchEvent k _ _ | .generatorJitterFault k _ _ _
  | .stepVoltageRaise k | .stepRailCheck k _ | .stepSlewStart k | .stepSubstep k _ | .stepSlewEnd k
  | .stepLowerDone k | .stepCancelSettled k | .gangSkewFault k _ _ _ | .gangSkewHalt k _ _ _ _
  | .gangMemberDeskewed k _ _ _ | .gangDissolveApply k _ | .gangDissolveTimeout k _ | .tileFailed k _ _
  | .memoryUe k _ _ _ _ _ _ | .residueError k _ _ | .sequencerHang k _ _ | .scrubLine k _ _ _
  | .ceRateFault k _ _ | .xngCalibration k _ | .xngCalibrationDone k | .xngCalibrationTimeout k
  | .queuePush k _ _ _ | .queuePop k _ _ _ | .fixedItemRelease k _ _ _ _ _ | .regionIsolate k _
  | .isolationSinkAccept k _ _ | .queueReset k _ _ | .queueRipSeen k _ _ | .queueAckSeen k _ _
  | .handshakeTimeout k _ | .isolationEnd k _ | .spineStartCheck k _ | .messageInject k _ _
  | .routerForward k _ _ | .rspArrive k _ | .rspTimeout k _ _ | .wseqResync k _ | .flitUncorrectable k _ _
  | .laneStallTimeout k _ _ _ | .linkCeRate k _ _ _ | .commit k | .commitCancel k | .stage k | .stageComplete k
  | .abandon k | .commitApply k _ | .rollStepStart k | .rollStepApply k _ | .rollForcedDrain k
  | .rollSingleTimeout k | .rollStepEnd k | .tileWrite k _ | .tileRead k _ | .start k _ | .matrix k _ _
  | .prescan k _ _ | .convert k _ _ | .move k _ _ | .gather k _ _ | .scatter k _ _ | .selectSkewer k _ _
  | .selectColander k _ _ | .collectiveArm k _ _ | .collectiveSend k _ _ | .collectiveWait k _ _
  | .collectiveDisarm k _ _ | .collectiveTimeout k _ _ | .collect k _ | .collectResend k _ _ | .signalAdd k _ _
  | .signalSet k _ _ | .wait k _ _ | .waitRetry k _ _ | .waitReservationTimeout k _ _ | .loop k _ _
  | .call k _ _ | .ret k _ _ | .fence k _ _ | .flush k _ | .itemEnd k _ _ | .ld k _ _ | .st k _ _ | .iadd k _ _
  | .isub k _ _ | .imul k _ _ | .imin k _ _ | .imax k _ _ | .and k _ _ | .or k _ _ | .xor k _ _ | .shl k _ _
  | .shr k _ _ | .sar k _ _ | .icmplt k _ _ | .fadd k _ _ | .fsub k _ _ | .fmul k _ _ | .fma k _ _ | .fmin k _ _
  | .fmax k _ _ | .fcmplt k _ _ | .recip k _ _ | .rsqrt k _ _ | .sqrt k _ _ | .exp2 k _ _ | .log2 k _ _
  | .perm k _ _ | .bcast k _ _ | .lshift k _ _ | .sel k _ _ | .rsum k _ _ | .rmax k _ _ | .rmin k _ _
  | .cvt k _ _ | .setaImm k _ _ | .setaV k _ _ | .evtAdd k | .evtSet k | .evtWaitGe k | .ctrRead k
  | .waiterTimeout k _ _ | .evtOwnerWrite k _ _ | .openSession k _ | .arm k _ | .armPredict k _ | .confirm k _
  | .cancel k _ | .close k _ | .sessionRead k _ | .modelLoad k _ | .modelLoadCopyDone k _ _ | .tileReload k _
  | .residencyRead k _ | .energyRead k _ | .energyCapture k | .energyReadResult k _ | .counterAdd k _
  | .counterSet k _ | .counterWaitGe k _ | .counterRead k _ | .nop k _ | .admission k _ | .stageStart k _
  | .itemEndReport k | .runaheadDeadline k _ | .arbiterCycle k _ _ _ | .memoryWrite k _ | .memoryRead k _
  | .void k _ | .readGroupComplete k _ | .ecsRead k _ _ | .repeatRateFault k _ | .powerEvaluation k _
  | .tempSample k _ _ _ | .tripRestart k _ | .coolantStop k _ _ _ | .coolantStopRelease k
  | .coolantResumeStart k | .grantFallApply k | .grantRiseApply k | .grantStale k | .energyBooking k
  | .gainUpdate k | .bar0Write k _ _ _ | .mgmtI2cAccess k _ _ | .bar2Write k _ _ _ | .bar2Read k _ _
  | .cmdTailWrite k _ _ | .cplHeadWrite k _ _ | .commandFetch k _ _ | .ringEnable k _ | .ringDisable k _
  | .completionWrite k _ | .holdRelease k _ | .ringAccessError k _ | .msixMessage k _ | .flashProgram k
  | .flashRead k | .flashDone k _ | .xdmaCollect k | .inboxWrite k _ | .inboxResend k _ | .inboxExpire k _
  | .hifReset k _ | .tileReloadCopyDone k _ _ | .invalidOp k _ _ | .readWithClear k _ _ | .d3hotTransition k _ =>
    n == k.val
  | .epochBoundary pl _ | .ppsEdge pl _ _ _ | .ppsLost pl | .ppsHoldEnd pl _ => (match pl with | .chip k => n == k.val | .tmc _ => false)
  | .meterFramePass node _ _ _ _ => node.val == 2 * n + 2
  | .chipRestart _ slot => n == slot
  | .busbarUndervoltage .. | .p2pWriteForward .. | .handover | .mgmtDoorbell .. | .trcOutputEnable ..
  | .upstreamFailover .. | .unitRemoved .. | .unitPrepare .. | .trayImageAdopt .. | .switchUpstream .. => true
  | .slotBypassLeave .. | .facilityInputLost .. | .ppsCompare .. | .nvmCardInsert .. | .coolantStopAssert ..
  | .coolantStopClear .. | .slotPowerupRequest .. | .flowDisagree .. | .lampBoardRemoved
  | .environmentOutOfRange .. | .i2cSegmentStuck .. | .phaseModuleFail .. | .trayStart .. | .powerUpSequence ..
  | .railNotGood .. | .powerupInhibitEnd .. | .grantExchange | .sweepStart | .sweepBroken | .roleGrant ..
  | .roleFailover .. | .heartbeatSend .. | .heartbeatReceive .. | .heartbeatLost .. | .handoverMessage
  | .mgmtConnect .. | .forwardTimeout .. | .trayStatus .. | .faultLog .. | .meterStatus .. | .lampStatus ..
  | .roleSwap .. | .unitReadyToRemove | .prepareTimeout | .unitResume .. | .unitInsert .. | .unitJoin ..
  | .slotPower .. | .slotReset .. | .trayImageWrite .. | .timeLoad .. | .locate .. | .lampTest ..
  | .lampLevel .. | .caInstall .. | .caRemove .. | .lampPoll | .lampDiagnosis .. | .proofPulse .. | .modAlert ..
  | .vidFrame .. | .meterLinkLock .. | .aliveToggle | .trcSourceGained .. | .trcPartnerLost .. => false

/-- The command may change the tray. -/
def mayChangeTray (i : Instr) : Bool :=
  match i with
  | .slotOccupied .. | .presenceLost .. | .slotBypassLeave .. | .slotRequestDeliver .. | .breakerTrip ..
  | .busbarUndervoltage .. | .facilityInputLost .. | .trcOutputEnable .. | .ppsCompare .. | .nvmCardInsert ..
  | .upstreamFailover .. | .coolantStopAssert .. | .coolantStopClear .. | .slotPowerupRequest ..
  | .flowDisagree .. | .lampBoardRemoved | .environmentOutOfRange .. | .i2cSegmentStuck .. | .phaseModuleFail ..
  | .trayStart .. | .powerUpSequence .. | .railNotGood .. | .railsStable .. | .powerDownSequence ..
  | .slotFullyOff .. | .powerupInhibitEnd .. | .powerOnReset .. | .modRstAssert .. | .startBegin ..
  | .perstRelease .. | .epochBoundary .. | .ppsEdge .. | .ppsHoldEnd .. | .ppsLost .. | .stepRailCheck ..
  | .grantExchange | .sweepStart | .meterFramePass .. | .sweepBroken | .hifReset .. | .roleGrant ..
  | .roleFailover .. | .heartbeatSend .. | .heartbeatReceive .. | .heartbeatLost .. | .handover
  | .handoverMessage | .mgmtDoorbell .. | .mgmtConnect .. | .forwardTimeout .. | .trayStatus .. | .faultLog ..
  | .meterStatus .. | .lampStatus .. | .roleSwap .. | .unitPrepare .. | .unitReadyToRemove | .prepareTimeout
  | .unitResume .. | .unitInsert .. | .unitJoin .. | .slotPower .. | .slotReset .. | .chipRestart ..
  | .trayImageWrite .. | .trayImageAdopt .. | .switchUpstream .. | .timeLoad .. | .locate .. | .lampTest ..
  | .lampLevel .. | .caInstall .. | .caRemove .. | .lampPoll | .lampDiagnosis .. | .proofPulse .. | .modAlert ..
  | .vidFrame .. | .meterLinkLock .. | .aliveToggle | .trcSourceGained .. | .trcPartnerLost .. | .unitRemoved .. => true
  | .p2pWriteForward .. | .startPhaseAdvance .. | .selftestComplete .. | .channelTrainingFail ..
  | .readyPoint .. | .startTimeout .. | .restart .. | .frameTick .. | .epochLoadArm .. | .refSwitch ..
  | .referenceInvalid .. | .freqWindowEnd .. | .referenceQualified .. | .freqHoldEnd .. | .refPllLocked ..
  | .holdoverExit .. | .holdoverTimeout .. | .noReferenceTimeout .. | .guardCalibrate .. | .generatorStart ..
  | .calComplete .. | .generatorLocked .. | .lockLost .. | .stretchEvent .. | .generatorJitterFault ..
  | .stepVoltageRaise .. | .stepSlewStart .. | .stepSubstep .. | .stepSlewEnd .. | .stepLowerDone ..
  | .stepCancelSettled .. | .gangSkewFault .. | .gangSkewHalt .. | .gangMemberDeskewed ..
  | .gangDissolveApply .. | .gangDissolveTimeout .. | .tileFailed .. | .memoryUe .. | .residueError ..
  | .sequencerHang .. | .scrubLine .. | .ceRateFault .. | .xngCalibration .. | .xngCalibrationDone ..
  | .xngCalibrationTimeout .. | .queuePush .. | .queuePop .. | .fixedItemRelease .. | .regionIsolate ..
  | .isolationSinkAccept .. | .queueReset .. | .queueRipSeen .. | .queueAckSeen .. | .handshakeTimeout ..
  | .isolationEnd .. | .spineStartCheck .. | .messageInject .. | .routerForward .. | .rspArrive ..
  | .rspTimeout .. | .wseqResync .. | .flitUncorrectable .. | .laneStallTimeout .. | .linkCeRate .. | .commit ..
  | .commitCancel .. | .stage .. | .stageComplete .. | .abandon .. | .commitApply .. | .rollStepStart ..
  | .rollStepApply .. | .rollForcedDrain .. | .rollSingleTimeout .. | .rollStepEnd .. | .tileWrite ..
  | .tileRead .. | .start .. | .matrix .. | .prescan .. | .convert .. | .move .. | .gather .. | .scatter ..
  | .selectSkewer .. | .selectColander .. | .collectiveArm .. | .collectiveSend .. | .collectiveWait ..
  | .collectiveDisarm .. | .collectiveTimeout .. | .collect .. | .collectResend .. | .signalAdd ..
  | .signalSet .. | .wait .. | .waitRetry .. | .waitReservationTimeout .. | .loop .. | .call .. | .ret ..
  | .fence .. | .flush .. | .itemEnd .. | .ld .. | .st .. | .iadd .. | .isub .. | .imul .. | .imin .. | .imax ..
  | .and .. | .or .. | .xor .. | .shl .. | .shr .. | .sar .. | .icmplt .. | .fadd .. | .fsub .. | .fmul ..
  | .fma .. | .fmin .. | .fmax .. | .fcmplt .. | .recip .. | .rsqrt .. | .sqrt .. | .exp2 .. | .log2 ..
  | .perm .. | .bcast .. | .lshift .. | .sel .. | .rsum .. | .rmax .. | .rmin .. | .cvt .. | .setaImm ..
  | .setaV .. | .evtAdd .. | .evtSet .. | .evtWaitGe .. | .ctrRead .. | .waiterTimeout .. | .evtOwnerWrite ..
  | .openSession .. | .arm .. | .armPredict .. | .confirm .. | .cancel .. | .close .. | .sessionRead ..
  | .modelLoad .. | .modelLoadCopyDone .. | .tileReload .. | .residencyRead .. | .energyRead ..
  | .energyCapture .. | .energyReadResult .. | .counterAdd .. | .counterSet .. | .counterWaitGe ..
  | .counterRead .. | .nop .. | .admission .. | .stageStart .. | .itemEndReport .. | .runaheadDeadline ..
  | .arbiterCycle .. | .memoryWrite .. | .memoryRead .. | .void .. | .readGroupComplete .. | .ecsRead ..
  | .repeatRateFault .. | .powerEvaluation .. | .tempSample .. | .tripRestart .. | .coolantStop ..
  | .coolantStopRelease .. | .coolantResumeStart .. | .grantFallApply .. | .grantRiseApply .. | .grantStale ..
  | .energyBooking .. | .gainUpdate .. | .bar0Write .. | .mgmtI2cAccess .. | .bar2Write .. | .bar2Read ..
  | .cmdTailWrite .. | .cplHeadWrite .. | .commandFetch .. | .ringEnable .. | .ringDisable ..
  | .completionWrite .. | .holdRelease .. | .ringAccessError .. | .msixMessage .. | .flashProgram ..
  | .flashRead .. | .flashDone .. | .xdmaCollect .. | .inboxWrite .. | .inboxResend .. | .inboxExpire ..
  | .tileReloadCopyDone .. | .invalidOp .. | .readWithClear .. | .d3hotTransition .. => false

/-- The command may write host memory. -/
def writesHost (i : Instr) : Bool :=
  match i with
  | .sessionRead .. | .residencyRead .. | .energyReadResult .. | .completionWrite .. | .holdRelease .. => true
  | _ => false

/-- The commands of a tile's descriptors: operations, and what becomes of them (chapters 08 to 10). -/
def ofDescriptor (i : Instr) : Bool :=
  match i with
  | .matrix .. | .prescan .. | .convert .. | .move .. | .gather .. | .scatter .. | .selectSkewer ..
  | .selectColander .. | .collectiveArm .. | .collectiveSend .. | .collectiveWait .. | .collectiveDisarm ..
  | .collectiveTimeout .. | .collectResend .. | .signalAdd .. | .signalSet .. | .wait .. | .waitRetry ..
  | .waitReservationTimeout .. | .loop .. | .call .. | .ret .. | .fence .. | .itemEnd .. | .ld .. | .st ..
  | .iadd .. | .isub .. | .imul .. | .imin .. | .imax .. | .and .. | .or .. | .xor .. | .shl .. | .shr .. | .sar ..
  | .icmplt .. | .fadd .. | .fsub .. | .fmul .. | .fma .. | .fmin .. | .fmax .. | .fcmplt .. | .recip ..
  | .rsqrt .. | .sqrt .. | .exp2 .. | .log2 .. | .perm .. | .bcast .. | .lshift .. | .sel .. | .rsum .. | .rmax ..
  | .rmin .. | .cvt .. | .setaImm .. | .setaV .. | .invalidOp .. => true
  | _ => false

/-- The vector operations that write VD, at logical tile `p` of region `r`. -/
def vectorOps (k : ChipId) (r : RegionId) (p : TileId) : List Instr :=
  [.ld k r p, .iadd k r p, .isub k r p, .imul k r p, .imin k r p, .imax k r p, .and k r p, .or k r p, .xor k r p,
   .shl k r p, .shr k r p, .sar k r p, .icmplt k r p, .fadd k r p, .fsub k r p, .fmul k r p, .fma k r p,
   .fmin k r p, .fmax k r p, .fcmplt k r p, .recip k r p, .rsqrt k r p, .sqrt k r p, .exp2 k r p, .log2 k r p,
   .perm k r p, .bcast k r p, .lshift k r p, .sel k r p, .rsum k r p, .rmax k r p, .rmin k r p, .cvt k r p]

/-! ## Invariants of the machine -/

/-- Every memory of the machine is in its canonical form: host memory, the staging buffer, the NVM images, the image in use and one that is being written, and of every
chip session memory, flash, the flash buffer and the memory of every tile position. -/
def MemoriesCanonical (s : State) : Prop :=
  Memory.wf s.hostMem = true ∧ Memory.wf s.tray.staging = true ∧ Memory.wf s.tray.nvmA.image = true ∧
  Memory.wf s.tray.nvmB.image = true ∧ Memory.wf s.tray.imageBytes = true ∧
  (∀ w, s.tray.nvmWrite = some w → Memory.wf w.image = true) ∧
  ∀ n : ChipId, Memory.wf (s.chip n).mem = true ∧ Memory.wf (s.chip n).flash = true ∧
    Memory.wf (s.chip n).hif.flashBuf = true ∧
    ∀ (r : RegionId) (q : PosId), Memory.wf ((s.chip n).posn r q).mem = true

/-- The logs, the request stores, the warming shelves and the inboxes hold no more than the spec gives them room for
(R498, R512, R635, R637, R695). -/
def StoresBounded (s : State) : Prop :=
  s.tray.log.length ≤ 1024 ∧
  ∀ n : ChipId, (s.chip n).hif.log.length ≤ 256 ∧ (s.chip n).hif.inbox.length ≤ 64 ∧
    ∀ h : ChanId, ((s.chip n).chan h).store.length ≤ 128 ∧ ((s.chip n).chan h).shelf.length ≤ 64

end Sys2Proof.Machine
end

