-- ==== Sys2Proof/Certificates/Slice0/Obligations.lean ====
section
/-! DEFINITION. The statements for the provers. A statement about a command concludes the next state that the
command answers and what that state holds. The rules that a docstring names are those its clauses come from; a clause
states the part of its rule that it spells out. -/

open Sys2Proof Sys2Proof.Machine
/-- Slot presence and power sequences (R14, R40, R226 to R229, R231 to R234, R715, R717): what each event leaves at its slot,
and the order of AUX_PG and the VCORE rails. -/
def Obligations.SlotPowerEventsTakeEffect : Prop :=
  ∀ (n : SlotId) (s : State),
    (∀ m, (s.tray.slot n).occupied = false →
      ∃ t, exec (.slotOccupied n m) s = .next t ∧ (t.tray.slot n).occupied = true) ∧
    (∀ early late, (early || late) = true → (s.tray.slot n).occupied = true →
      ∃ t, exec (.presenceLost n early late) s = .next t ∧ (t.tray.slot n).occupied = false ∧
        (t.chip n).powered = false ∧ (t.tray.slot n).pendReq = none ∧ t.tray.faulty .bru 10 n = true) ∧
    ((s.tray.slot n).counted = true →
      ∃ t, exec (.breakerTrip n) s = .next t ∧ (t.chip n).powered = false ∧ (t.tray.slot n).pendReq = none ∧
        (t.tray.slot n).seq = .inhibited ∧ t.tray.faulty .try_ 4 n = true) ∧
    ((s.tray.slot n).seq = .off → (s.tray.slot n).pendReq = some true → s.tray.mayPower n = true →
      ∃ t, exec (.powerUpSequence n) s = .next t ∧ (t.tray.slot n).seq = .poweringUp) ∧
    ((s.tray.slot n).seq = .poweringUp →
      (∃ t, exec (.railNotGood n) s = .next t ∧ (t.tray.slot n).seq = .poweringDown ∧
        t.tray.faulty .bru 5 n = true) ∧
      (∃ t, exec (.railsStable n) s = .next t ∧ (t.chip n).powered = true ∧
        (t.tray.slot n).seq = (if (s.tray.slot n).pendReq = some false then .poweringDown else .on)) ∧
      (∃ t, exec (.powerUpSequence n) s = .next t ∧ t.tray.slot n = (s.tray.slot n).railUp ∧
        ((s.tray.slot n).coreUp < (t.tray.slot n).coreUp → (s.tray.slot n).auxPg = true))) ∧
    ((s.tray.slot n).seq = .on → (s.tray.slot n).pendReq = some false → s.tray.ring.sweeping = false →
      ∃ t, exec (.powerDownSequence n) s = .next t ∧ (t.tray.slot n).seq = .poweringDown ∧
        (t.tray.slot n).pendReq = none ∧ (t.tray.slot n).modRst = true ∧ (t.chip n).held = true) ∧
    ((s.tray.slot n).seq = .poweringDown →
      (∃ t, exec (.slotFullyOff n) s = .next t ∧ (t.tray.slot n).seq = .inhibited ∧ (t.chip n).powered = false) ∧
      (∃ t, exec (.powerDownSequence n) s = .next t ∧ t.tray.slot n = (s.tray.slot n).railDown ∧
        ((s.tray.slot n).auxEn = true → (t.tray.slot n).auxEn = false → (s.tray.slot n).coreUp = 0))) ∧
    ((s.tray.slot n).seq = .inhibited →
      ∃ t, exec (.powerupInhibitEnd n) s = .next t ∧
        (t.tray.slot n).seq =
          (if (s.tray.slot n).pendReq = some true ∧ s.tray.mayPower n = true then .poweringUp else .off)) ∧
    (∀ mv, mv < 42000 → (s.tray.slot n).counted = true →
      ∃ t, exec (.busbarUndervoltage mv) s = .next t ∧ (t.tray.slot n).seq = .inhibited ∧
        (t.chip n).powered = false ∧ (t.tray.slot n).breaker = true)

/-- The meter ring's slot buffers and the requests held for the sweep gap (R20, R21), the I2C segment (R54), a phase
module (R16), a voltage frame (R713, R724) and a ring link's lock (R707). -/
def Obligations.SlotInterfacesTakeEffect : Prop :=
  ∀ (n : SlotId) (s : State),
    ((s.tray.slot n).bypass = true → (s.tray.slot n).occupied = true → (s.chip n).running = true →
      s.tray.ring.sweeping = false → s.tray.role.isSome = true →
      ∃ t, exec (.slotBypassLeave n) s = .next t ∧ (t.tray.slot n).bypass = false) ∧
    (∀ us, s.tray.inGap us = true → (s.tray.slot n).seq = .on →
      ((s.tray.slot n).offHeld = true →
        ∃ t, exec (.slotRequestDeliver n us) s = .next t ∧ (t.tray.slot n).offHeld = false ∧
          (t.tray.slot n).pendReq = some false) ∧
      ((s.tray.slot n).resetHeld = true →
        ∃ t, exec (.slotRequestDeliver n us) s = .next t ∧ (t.tray.slot n).resetHeld = false ∧
          (t.tray.slot n).modRst = true ∧ (t.tray.slot n).bypass = true ∧ (t.chip n).held = true)) ∧
    (∀ ms, 25 < ms → (s.tray.slot n).i2c = true →
      ∃ t, exec (.i2cSegmentStuck n ms) s = .next t ∧ (t.tray.slot n).i2c = false) ∧
    (∀ q : Fin 14, s.tray.standby = true → (s.tray.slot n).phases.getD q true = true →
      ∃ t, exec (.phaseModuleFail n q) s = .next t ∧
        (t.tray.slot n).phases = (s.tray.slot n).phases.set q false ∧
        t.tray.faulty .try_ 12 (14 * n.val + q.val) = true) ∧
    (∀ frame : BitVec 16, ((List.range 16).filter (fun i => bit frame.toNat i)).length % 2 = 1 →
      field frame.toNat 1 5 = 0 → 40 ≤ field frame.toNat 6 8 → field frame.toNat 6 8 ≤ 160 →
      (s.tray.slot n).counted = true → (s.tray.slot n).overridden = false →
      ∃ t, exec (.vidFrame n frame) s = .next t ∧
        (t.tray.slot n).bankV = (s.tray.slot n).bankV.set (field frame.toNat 14 2) (field frame.toNat 6 8)) ∧
    (∀ node rev, ∃ t, exec (.meterLinkLock node rev true) s = .next t ∧
      (node.val + if rev then 17 else 0) ∉ t.tray.ring.unlocked) ∧
    (∀ node rev, ∃ t, exec (.meterLinkLock node rev false) s = .next t ∧
      (node.val + if rev then 17 else 0) ∈ t.tray.ring.unlocked)

/-- The reference cards and the NVM cards (R26, R27, R29, R30, R32, R35): which source a card takes, when its outputs are
driven and reach the chips, which faults the events leave in force. -/
def Obligations.CardEventsTakeEffect : Prop :=
  ∀ (c : Side) (s : State),
    ((s.tray.trc c).present = true → (s.tray.trc c).facility = true → s.tray.standby = true →
      ∀ ps, ∃ t, exec (.facilityInputLost c ps) s = .next t ∧ (t.tray.trc c).facility = false ∧
        (t.tray.trc c).source ≠ .facility ∧ t.tray.faulty .try_ 8 c.ix = true) ∧
    (∀ ns warm, s.tray.standby = true → 4 ≤ s.tray.start → (s.tray.trc c).present = true → (s.tray.trc c).enabled = false →
      (s.tray.trc c).prepared = false → (s.tray.bestSource c = .own → 300 ≤ warm) →
      (s.tray.bestSource c ≠ .own → ns ≤ 10) →
      ∃ t, exec (.trcOutputEnable c ns warm) s = .next t ∧ (t.tray.trc c).enabled = true ∧
        (t.tray.trc c).source = s.tray.bestSource c ∧
        ∀ n : SlotId, (s.chip n).running = true → (s.tray.slot n).fanout = true →
          ((t.chip n).clk.refOf c).live = true) ∧
    (∀ ns, s.tray.role.isSome = true → s.tray.trcDrives .a = true → s.tray.trcDrives .b = true →
      ∃ t, exec (.ppsCompare ns) s = .next t ∧ t.tray.faulty .try_ 5 noInstance = decide (60 < ns)) ∧
    (s.tray.standby = true → (s.tray.trc c).present = true → (s.tray.trc c).source ≠ .facility →
      ∀ ps, ∃ t, exec (.trcSourceGained c true ps) s = .next t ∧ (t.tray.trc c).source = .facility ∧
        t.tray.faulty .try_ 8 c.ix = false) ∧
    ((s.tray.trc c).present = true → (s.tray.trc c).source = .partner → s.tray.trcDrives c.other = false →
      ∃ t, exec (.trcPartnerLost c) s = .next t ∧ (t.tray.trc c).source = .own) ∧
    (∀ card ok, (s.tray.nvm c).present = false → s.tray.role.isSome = true → s.tray.haveImage = true →
      ∃ t, exec (.nvmCardInsert c card ok) s = .next t ∧ (t.tray.nvm c).present = true ∧
        (t.tray.nvm c).valid = ok ∧ (ok = true → (t.tray.nvm c).image = s.tray.imageBytes))

/-- The flow guard and the environment (R42, R43, R45, R47, R48, R51, R553, R554). -/
def Obligations.FlowGuardTakesEffect : Prop :=
  ∀ s : State,
    (∀ fa fb, s.tray.standby = true → s.tray.stop = false → s.tray.flowA.counts = true → s.tray.flowB.counts = true →
      fa < s.tray.threshold → fb < s.tray.threshold →
      ∃ t, exec (.coolantStopAssert fa fb) s = .next t ∧ t.tray.stop = true ∧
        t.tray.faulty .try_ 2 noInstance = true ∧
        ∀ n : SlotId, (s.tray.slot n).counted = true → (t.tray.slot n).coolantN = true) ∧
    (∀ flow, s.tray.stop = true → s.tray.role.isSome = true → s.tray.threshold ≤ flow →
      ∃ t, exec (.coolantStopClear flow) s = .next t ∧ t.tray.stop = false ∧
        t.tray.faulty .try_ 2 noInstance = false ∧
        ∀ n : SlotId, (t.tray.slot n).coolantN = false ∧ (t.tray.slot n).overridden = false ∧
          (t.tray.slot n).bankV = (s.tray.slot n).bankV) ∧
    (∀ (n : SlotId) flow ms, s.tray.role.isSome = true → 7 ≤ s.tray.start → (s.tray.slot n).wantOn = true →
      (s.tray.slot n).occupied = true → s.tray.slotEnabled n = true →
      (s.tray.slot n).seq = .off → (s.tray.slot n).pendReq ≠ some true → s.tray.image.perModule * (s.tray.countedSlots + 1) ≤ flow →
      ∃ t, exec (.slotPowerupRequest n flow ms) s = .next t ∧ (t.tray.slot n).pendReq = some true ∧
        (t.tray.slot n).wantOn = false ∧ t.tray.threshold = s.tray.image.perModule * (s.tray.countedSlots + 1)) ∧
    (∀ fa fb, s.tray.role.isSome = true → s.tray.flowA.counts = true → s.tray.flowB.counts = true →
      ∃ t, exec (.flowDisagree fa fb) s = .next t ∧ t.tray.stop = s.tray.stop ∧
        t.tray.faulty .try_ 1 noInstance = decide (15 * max fa fb < 100 * (max fa fb - min fa fb))) ∧
    (∀ e v, s.tray.role.isSome = true →
      ∃ t, exec (.environmentOutOfRange e v) s = .next t ∧
        t.tray.faulty .try_ (envCode e) noInstance = !(envInRange e v)) ∧
    (s.tray.lampBoard = true →
      ∃ t, exec .lampBoardRemoved s = .next t ∧ t.tray.lampBoard = false ∧
        ∀ e : LampId, (t.tray.lamps.get {} e).status = .unproven)

/-- The switch (R36, R37) and the tray start (R58, Table TRY-7). -/
def Obligations.TrayStartAndSwitchTakeEffect : Prop :=
  ∀ s : State,
    (∀ ms, 100 ≤ ms → s.tray.modeInForce = false → s.tray.activeUp = 0 → 5 ≤ s.tray.start →
      ∃ t, exec (.upstreamFailover ms) s = .next t ∧ t.tray.activeUp = 1 ∧
        t.tray.faulty .try_ 14 noInstance = true ∧ ∀ n : SlotId, (t.tray.slot n).upstream = 1) ∧
    (∀ (k d : ChipId) tag bytes rest, (s.chip k).hif.p2pOut = (d.val, tag, bytes) :: rest → k ≠ d →
      s.tray.modeInForce = false → (s.chip d).running = true → (s.tray.slot d).perst = false →
      ∃ t, exec (.p2pWriteForward k) s = .next t ∧ (t.chip k).hif.p2pOut = rest ∧
        (t.chip d).hif.p2pIn = (s.chip d).hif.p2pIn ++ [bytes]) ∧
    (s.tray.start = 0 → ∀ ok, ∃ t, exec (.trayStart ok) s = .next t ∧ t.tray.start = 1 ∧ t.tray.standby = true) ∧
    (s.tray.start = 1 → s.tray.standby = true → ∀ ok, ∃ t, exec (.trayStart ok) s = .next t ∧ t.tray.start = 2) ∧
    (s.tray.start = 2 → s.tray.role.isSome = true →
      ∀ ok, ∃ t, exec (.trayStart ok) s = .next t ∧ t.tray.start = 3 ∧
        t.tray.haveImage = (s.tray.copyValid .a || s.tray.copyValid .b)) ∧
    (s.tray.start = 3 → s.tray.haveImage = true → ∀ ok, ∃ t, exec (.trayStart ok) s = .next t ∧ t.tray.start = 4) ∧
    (s.tray.start = 4 → (s.tray.trcDrives .a || s.tray.trcDrives .b) = true →
      ∀ ok, ∃ t, exec (.trayStart ok) s = .next t ∧ t.tray.start = 5 ∧ t.tray.modeInForce = s.tray.image.split) ∧
    (s.tray.start = 5 → ∀ ok, ∃ t, exec (.trayStart ok) s = .next t ∧ t.tray.start = 6 ∧
      ∀ n : SlotId, (t.tray.slot n).wantOn = ((s.tray.slot n).occupied && s.tray.slotEnabled n)) ∧
    (s.tray.start = 6 → (∀ n : SlotId, (s.tray.slot n).startedUp = true) →
      ∀ ok, ∃ t, exec (.trayStart ok) s = .next t ∧ t.tray.start = 7)

/-- Resets of a chip (R235, R236, R238, R252, Table BRU-4): what each leaves running, and what a chip restart keeps. -/
def Obligations.ResetsTakeEffect : Prop :=
  ∀ (k : ChipId) (s : State),
    ((s.chip k).powered = true →
      (∃ t, exec (.powerOnReset k) s = .next t ∧ (t.chip k).held = true ∧ (t.chip k).bru.cause = 0 ∧
        (t.chip k).flash = (s.chip k).flash ∧ (t.chip k).mem = []) ∧
      (∃ t, exec (.modRstAssert k) s = .next t ∧ (t.chip k).held = true ∧ (t.chip k).bru.cause = 1 ∧
        (t.tray.slot k).modRst = true ∧ (t.tray.slot k).bypass = true ∧ (t.chip k).flash = (s.chip k).flash) ∧
      ((s.chip k).held = true → (s.tray.slot k).seq = .on →
        ∃ t, exec (.startBegin k) s = .next t ∧ (t.chip k).held = false ∧ (t.chip k).slotId = k.val ∧
          (t.chip k).bru.phase = .otp ∧ (t.tray.slot k).modRst = false) ∧
      ((s.tray.slot k).modRst = false → (s.tray.slot k).seq = .on →
        ∃ t, exec (.perstRelease k) s = .next t ∧ (t.tray.slot k).perst = false ∧ (t.chip k).hif.perst = false)) ∧
    (∀ i2c, (s.chip k).running = true → (s.chip k).bru.stuck = false →
      ∃ t, exec (.restart k i2c) s = .next t ∧ (t.chip k).bru.phase = .otp ∧
        (t.chip k).bru.cause = (if i2c then 2 else 3) ∧ (t.chip k).mem = (s.chip k).drainWrites.mem ∧
        ((∀ h, ((s.chip k).chan h).store = []) → (t.chip k).mem = (s.chip k).mem) ∧
        (t.chip k).flash = (s.chip k).flash ∧ (t.chip k).slotId = (s.chip k).slotId)

/-- The start's phases (R239, R244, R248 to R251, R254, R257, R262, Table BRU-5): the phase each condition leads to. -/
def Obligations.StartPhasesAdvance : Prop :=
  ∀ (k : ChipId) (s : State), (s.chip k).running = true →
    ((s.chip k).bru.phase = .otp →
      ∃ t, exec (.startPhaseAdvance k) s = .next t ∧
        (t.chip k).bru.phase = (if (s.chip k).otp.good then .spine else .failed)) ∧
    ((s.chip k).bru.phase = .spine → (s.chip k).xng.up = true → (s.chip k).xng.ended = true →
      ∃ t, exec (.startPhaseAdvance k) s = .next t ∧ (t.chip k).bru.phase = .image) ∧
    ((s.chip k).bru.phase = .image → (s.chip k).slotOrder = [] →
      ∃ t, exec (.startPhaseAdvance k) s = .next t ∧ (t.chip k).bru.phase = .recovery ∧
        (t.chip k).hif.log.head? = some ⟨codeOf .bru 3, noInstance, (s.chip k).time.epoch⟩) ∧
    ((s.chip k).bru.phase = .ref → (s.chip k).clk.refLocked = true → (s.chip k).clk.lockAged = true →
      (s.chip k).time.pos = 0 →
      ∃ t, exec (.startPhaseAdvance k) s = .next t ∧ (t.chip k).bru.phase = .clocks ∧
        (t.chip k).clk.mNow = (s.chip k).bru.image.a.step) ∧
    ((s.chip k).bru.phase = .clocks → (s.chip k).allLocked = true →
      ∃ t, exec (.startPhaseAdvance k) s = .next t ∧ (t.chip k).bru.phase = .memory) ∧
    ((s.chip k).bru.phase = .memory →
      ∃ t, exec (.startPhaseAdvance k) s = .next t ∧ (t.chip k).bru.phase = .selftest ∧
        (t.chip k).bru.memInit = true) ∧
    ((s.chip k).bru.phase = .selftest → (s.chip k).bru.selftested = true →
      ∃ t, exec (.startPhaseAdvance k) s = .next t ∧ (t.chip k).bru.phase = .config) ∧
    (∀ h : ChanId, (s.chip k).bru.phase = .memory → ((s.chip k).chan h).trained = false →
      ((s.chip k).chan h).trainFails = 2 →
      ∃ t, exec (.channelTrainingFail k h) s = .next t ∧ (t.chip k).bru.phase = .failed ∧
        (t.chip k).hif.log.head? = some ⟨codeOf .bru 7, h.val, (s.chip k).time.epoch⟩) ∧
    ((s.chip k).bru.phase = .selftest → (s.chip k).bru.selftested = false →
      ∃ t, exec (.selftestComplete k []) s = .next t ∧ (t.chip k).bru.selftested = true) ∧
    ((s.chip k).mayBeReady = true →
      ∃ t, exec (.readyPoint k) s = .next t ∧ (t.chip k).bru.ready = true ∧
        (t.chip k).bru.readyEpoch = (s.chip k).time.epoch ∧
        ∀ r : RegionId, ((s.chip k).region r).status = .out → ((s.chip k).region r).cfg.partition < 16 →
          (s.chip k).tilesWork r = true → ((s.chip k).region r).retireLater = false →
          (∀ d ∈ (s.chip k).dissolves, r.val ∉ d.members) → ((t.chip k).region r).status = .serving) ∧
    ((s.chip k).bru.ready = false → (s.chip k).bru.late = false → 2000000 ≤ (s.chip k).bru.epochs →
      ∃ t, exec (.startTimeout k) s = .next t ∧ (t.chip k).bru.late = true ∧
        (t.chip k).hif.log.head? = some ⟨codeOf .bru 6, noInstance, (s.chip k).time.epoch⟩)

/-- The epoch counter (R93, R94, R96 to R98, R100 to R104, R137, R144): a boundary, the end of a hold, a PPS edge, a load's arming, a
frame tick, on a chip and, where a TMC counts too, on a TMC. -/
def Obligations.EpochCounterTakesEffect : Prop :=
  (∀ (x : Side) (s : State), s.tray.tmcRuns x = true →
    let m := s.tray.tmc x
    (∀ cycles, m.time.loadDue = none →
      (m.time.hold = 0 → ∃ t, exec (.epochBoundary (.tmc x) cycles) s = .next t ∧
        (t.tray.tmc x).time.epoch = m.time.epoch + 1 ∧ (t.tray.tmc x).time.pos = 0) ∧
      (0 < m.time.hold → ∃ t, exec (.ppsHoldEnd (.tmc x) cycles) s = .next t ∧
        (t.tray.tmc x).time.epoch = m.time.epoch + 1 ∧ (t.tray.tmc x).time.hold = 0)) ∧
    (∀ line pos cycles, s.tray.timeSource = some line → m.time.hold = 0 → m.time.pos ≤ pos → pos < m.time.len →
      m.time.aligned = false → m.time.arm = false →
      ∃ t, exec (.ppsEdge (.tmc x) line pos cycles) s = .next t ∧ (t.tray.tmc x).time.aligned = true ∧
        (t.tray.tmc x).time.epoch = (m.time.epoch / 1000000 + 1) * 1000000) ∧
    (3 ≤ m.time.missing → m.time.lost = false →
      ∃ t, exec (.ppsLost (.tmc x)) s = .next t ∧ (t.tray.tmc x).time.lost = true)) ∧
  ∀ (k : ChipId) (s : State), (s.chip k).running = true →
    (∀ cycles, (s.chip k).time.hold = 0 → (s.chip k).time.loadDue = none →
      ∃ t, exec (.epochBoundary (.chip k) cycles) s = .next t ∧
        (t.chip k).time.epoch = (s.chip k).time.epoch + 1 ∧ (t.chip k).time.pos = 0 ∧
        (t.chip k).time.tick = (s.chip k).time.tick + ((s.chip k).time.len - (s.chip k).time.pos)) ∧
    (∀ cycles, 0 < (s.chip k).time.hold → (s.chip k).time.loadDue = none →
      ∃ t, exec (.ppsHoldEnd (.chip k) cycles) s = .next t ∧
        (t.chip k).time.epoch = (s.chip k).time.epoch + 1 ∧ (t.chip k).time.hold = 0) ∧
    (∀ line pos cycles, (s.chip k).clk.selects line = true → ((s.chip k).clk.refOf line).live = true →
      (s.chip k).clk.holdover = false →
      (s.chip k).time.hold = 0 → (s.chip k).time.pos ≤ pos → pos < (s.chip k).time.len →
      (s.chip k).time.aligned = false → (s.chip k).time.arm = false →
      ∃ t, exec (.ppsEdge (.chip k) line pos cycles) s = .next t ∧ (t.chip k).time.aligned = true ∧
        (t.chip k).time.epoch = ((s.chip k).time.epoch / 1000000 + 1) * 1000000 ∧
        (t.chip k).hif.log.head? = some ⟨codeOf .clk 6, noInstance, (t.chip k).time.epoch⟩) ∧
    (∀ line pos cycles,
      let here := { (s.chip k).time with tick := (s.chip k).time.tick + (pos - (s.chip k).time.pos), pos := pos }
      (s.chip k).clk.selects line = true → ((s.chip k).clk.refOf line).live = true → (s.chip k).clk.holdover = false →
      (s.chip k).time.hold = 0 → (s.chip k).time.pos ≤ pos → pos < (s.chip k).time.len →
      (s.chip k).time.aligned = true → (s.chip k).time.arm = false → here.offsetNow.1.natAbs ≤ 100 →
      ∃ t, exec (.ppsEdge (.chip k) line pos cycles) s = .next t ∧ (t.chip k).time.epoch = (s.chip k).time.epoch ∧
        (t.chip k).time.pos = pos ∧ (t.chip k).time.offset = here.offsetNow.1) ∧
    (3 ≤ (s.chip k).time.missing → (s.chip k).time.lost = false →
      ∃ t, exec (.ppsLost (.chip k)) s = .next t ∧ (t.chip k).time.lost = true ∧
        (t.chip k).hif.log.head? = some ⟨codeOf .clk 5, noInstance, (s.chip k).time.epoch⟩) ∧
    (∀ v : Word, v.toNat % 2 = 1 →
      ∃ t, exec (.epochLoadArm k v) s = .next t ∧
        (t.chip k).time.arm = (!(s.chip k).time.valid && decide ((s.chip k).time.load % 1000000 = 0)) ∧
        (((s.chip k).time.valid = true ∨ (s.chip k).time.load % 1000000 ≠ 0) →
          (t.chip k).hif.log.head? = some ⟨codeOf .clk 12, noInstance, (s.chip k).time.epoch⟩)) ∧
    ((s.chip k).tickDue = true →
      ∃ t, exec (.frameTick k) s = .next t ∧ (t.chip k).tickDue = false ∧
        ∀ i x, Bank.look (s.chip k).seq.sessions.cells i = some x → x.state = .armed →
          ((t.chip k).session i).state = .ready ∧
          ((t.chip k).session i).deadline = (s.chip k).time.epoch + (s.chip k).classDeadline x.cls)

/-- The references (R127 to R134, R143). -/
def Obligations.ReferenceEventsTakeEffect : Prop :=
  ∀ (k : ChipId) (s : State), (s.chip k).running = true →
    ((s.chip k).clk.refSel < 2 → (s.chip k).clk.freqHold = false → (s.chip k).clk.relock = false →
      (s.chip k).clk.holdover = false → (s.chip k).clk.leaving = false →
      (s.chip k).clk.qualified (1 - (s.chip k).clk.refSel) = true →
      ∃ t, exec (.refSwitch k) s = .next t ∧ (t.chip k).clk.switchTo = some (1 - (s.chip k).clk.refSel)) ∧
    (∀ line ns duty, (40 ≤ ns ∨ dutyFails duty = true) →
      ∃ t, exec (.referenceInvalid k line ns duty) s = .next t ∧ ((t.chip k).clk.refOf line).ok = false ∧
      ((t.chip k).clk.refOf line).valid = false ∧
      ((s.chip k).clk.selects line = true → (s.chip k).clk.leaving = false → (t.chip k).clk.freqHold = true)) ∧
    (∀ line (ppm : Int), 100 < ppm.natAbs →
      ∃ t, exec (.freqWindowEnd k line ppm) s = .next t ∧ ((t.chip k).clk.refOf line).ok = false) ∧
    (∀ line (ppm : Int), ppm.natAbs ≤ 100 →
      ∃ t, exec (.freqWindowEnd k line ppm) s = .next t ∧
        ((t.chip k).clk.refOf line).windows = ((s.chip k).clk.refOf line).windows + 1 ∧
        ((t.chip k).clk.refOf line).ok = ((s.chip k).clk.refOf line).ok) ∧
    (∀ line, ((s.chip k).clk.refOf line).live = true → ((s.chip k).clk.refOf line).ok = false → 10000 ≤ ((s.chip k).clk.refOf line).clean →
      1 ≤ ((s.chip k).clk.refOf line).windows → ((s.chip k).clk.refOf line).badWindow = false →
      ∃ t, exec (.referenceQualified k line) s = .next t ∧ ((t.chip k).clk.refOf line).ok = true) ∧
    ((s.chip k).clk.freqHold = true → 100 ≤ (s.chip k).clk.holdEpochs → (s.chip k).time.pos = 0 →
      ∃ t, exec (.freqHoldEnd k) s = .next t ∧ (t.chip k).clk.freqHold = false ∧
        ((s.chip k).clk.qualified (1 - (s.chip k).clk.refSel) = true →
          (t.chip k).clk.refSel = 1 - (s.chip k).clk.refSel ∧ (t.chip k).clk.relock = true) ∧
        ((s.chip k).clk.qualified (1 - (s.chip k).clk.refSel) = false →
          (t.chip k).clk.holdover = true ∧ (t.chip k).clk.refSel = 3 ∧
          (t.chip k).hif.log.head? = some ⟨codeOf .clk 3, noInstance, (s.chip k).time.epoch⟩ ∧
          ∀ r : RegionId, ((s.chip k).gen r).state = .locked → ((t.chip k).gen r).state = .frozen)) ∧
    ((s.chip k).clk.relock = true → (s.chip k).clk.freqHold = false →
      ∃ t, exec (.refPllLocked k) s = .next t ∧ (t.chip k).clk.refLocked = true ∧ (t.chip k).clk.relock = false) ∧
    ((s.chip k).clk.holdover = true → (s.chip k).clk.refLocked = true → (s.chip k).clk.leaving = true →
      (s.chip k).clk.lockAged = true → (s.chip k).time.pos = 0 →
      ∃ t, exec (.holdoverExit k) s = .next t ∧ (t.chip k).clk.holdover = false ∧
        (t.chip k).hif.log.head? = some ⟨codeOf .clk 4, noInstance, (s.chip k).time.epoch⟩ ∧
        ∀ r : RegionId, ((s.chip k).gen r).state = .frozen → ((t.chip k).gen r).state = .locking) ∧
    ((s.chip k).clk.holdover = true → (s.chip k).clk.holdLong = false →
      1000000000000 < (s.chip k).time.tick - (s.chip k).clk.holdTick →
      ∃ t, exec (.holdoverTimeout k) s = .next t ∧ (t.chip k).time.valid = false ∧
        (t.chip k).hif.log.head? = some ⟨codeOf .clk 14, noInstance, (s.chip k).time.epoch⟩) ∧
    ((s.chip k).seeking = true →
      2000000 ≤ (s.chip k).clk.noRefEpochs →
      ∃ t, exec (.noReferenceTimeout k) s = .next t ∧ (t.chip k).clk.noRefEpochs = 0 ∧
        (t.chip k).hif.log.head? = some ⟨codeOf .clk 13, noInstance, (s.chip k).time.epoch⟩)

/-- The regional generators (R107 to R114, R127, R730). -/
def Obligations.GeneratorEventsTakeEffect : Prop :=
  ∀ (k : ChipId) (r : RegionId) (s : State), (s.chip k).running = true →
    (10000 ≤ (s.chip k).clk.guardAge →
      ∃ t, exec (.guardCalibrate k) s = .next t ∧
        ((t.chip k).gen r).guardFs =
          (if (s.chip k).clk.freq.phase = .slewing then ((s.chip k).gen r).guardFs else guardFor (s.chip k).clk.mNow) ∧
        ((t.chip k).gen r).guardCals = ((s.chip k).gen r).guardCals + 1) ∧
    ((s.chip k).bru.phase = .clocks → ((s.chip k).gen r).state = .off → (s.chip k).clk.refLocked = true →
      ((s.chip k).clk.refA.ok || (s.chip k).clk.refB.ok) = true → (s.tray.slot k).vcorePg (r.val / 18) = true →
      ((s.chip k).region r).cfg.retire = false →
      ∃ t, exec (.generatorStart k r) s = .next t ∧ ((t.chip k).gen r).state = .cal) ∧
    (((s.chip k).gen r).state = .cal → ((s.chip k).gen r).calBit = 0 → ((s.chip k).gen r).calAbandoned = false →
      ∃ t, exec (.calComplete k r) s = .next t ∧
        ((t.chip k).gen r).state = (if (s.chip k).clk.holdover then .frozen else .locking) ∧
        ((t.chip k).gen r).code = ((s.chip k).gen r).code) ∧
    (((s.chip k).gen r).state = .locking → 16 ≤ ((s.chip k).gen r).lockRun →
      ∃ t, exec (.generatorLocked k r) s = .next t ∧ ((t.chip k).gen r).state = .locked) ∧
    (((s.chip k).gen r).state = .locked → 16 ≤ ((s.chip k).gen r).lossRun →
      ∃ t, exec (.lockLost k r) s = .next t ∧ ((t.chip k).gen r).state = .locking ∧
        (t.chip k).hif.log.head? = some ⟨codeOf .clk 9, r.val, (s.chip k).time.epoch⟩) ∧
    (∀ fs, 17 * 80000000 ≤ 16 * (s.chip k).clk.judgedM * fs → ((s.chip k).gen r).state = .locked →
      let d := stretchDepth (s.chip k).clk.judgedM fs
      ∃ t, exec (.stretchEvent k r fs) s = .next t ∧ ((t.chip k).gen r).lastDepth = d ∧
        ((t.chip k).gen r).stretch = satAdd 64 ((s.chip k).gen r).stretch 1 ∧
        ((t.chip k).gen r).deepest = max ((s.chip k).gen r).deepest d ∧
        ∀ x : RegionId, x ≠ r → ((s.chip k).gen x).state = .slaved → ((s.chip k).region x).cfg.gangMaster = r.val →
          ((s.chip k).region r).cfg.gangMaster = r.val →
          ((t.chip k).gen x).lastDepth = d ∧ ((t.chip k).gen x).stretch = satAdd 64 ((s.chip k).gen x).stretch 1) ∧
    (∀ duty changes, (dutyFails duty || jitterFails changes) = true → ((s.chip k).gen r).state = .locked →
      ∃ t, exec (.generatorJitterFault k r duty changes) s = .next t ∧ ((t.chip k).gen r) = ((s.chip k).gen r) ∧
        (t.chip k).hif.log.head? = some ⟨codeOf .clk 10, r.val, (s.chip k).time.epoch⟩)

/-- A frequency step (R118, R119, R731 to R733, Table CLK-5): each of its points. -/
def Obligations.FrequencyStepTakesEffect : Prop :=
  ∀ (k : ChipId) (s : State), (s.chip k).running = true →
    ((s.chip k).clk.freq.phase = .waiting → (s.chip k).clk.freq.mOld < (s.chip k).clk.freq.mNew →
      (s.chip k).clk.freq.at_ ≤ (s.chip k).time.epoch + 50 →
      ∃ t, exec (.stepVoltageRaise k) s = .next t ∧ (t.chip k).clk.freq.phase = .raised ∧
        (t.chip k).stew.islandV =
          (List.range 4).map (fun i => (s.chip k).otp.vf.get 0 (32 * i + vfPoint (s.chip k).clk.freq.mNew))) ∧
    (∀ uv, (s.chip k).clk.freq.phase = .raised → (s.chip k).clk.freq.checked = false →
      (s.chip k).clk.freq.at_ ≤ (s.chip k).time.epoch + 1 →
      ∃ t, exec (.stepRailCheck k uv) s = .next t ∧ (t.chip k).clk.freq.checked = true ∧
        (t.tray.slot k).coreUv = uv ∧
        ((t.tray.slot k).vcorePg 3 = false →
          (t.chip k).hif.log.head? = some ⟨codeOf .clk 8, 3, (s.chip k).time.epoch⟩) ∧
        ((∀ i, i < 4 → (t.tray.slot k).vcorePg i = true) → (t.chip k).hif.log = (s.chip k).hif.log)) ∧
    ((s.chip k).clk.freq.phase = .raised → (s.chip k).clk.freq.at_ ≤ (s.chip k).time.epoch →
      ∃ t, exec (.stepSlewStart k) s = .next t ∧ (t.chip k).clk.freq.phase = .slewing ∧
        (t.chip k).clk.mNow = (s.chip k).clk.freq.mNew ∧
        ∀ r : RegionId, ((s.chip k).gen r).state = .locked → ((t.chip k).gen r).state = .slew ∧
          ((t.chip k).gen r).codeNew =
            slewCode ((s.chip k).gen r).code (s.chip k).clk.freq.mOld (s.chip k).clk.freq.mNew) ∧
    (∀ j, (s.chip k).clk.freq.phase = .slewing → j = (s.chip k).clk.freq.sub + 1 → j ≤ 15 →
      (s.chip k).clk.freq.start + subTick j < (s.chip k).time.epochTick + (s.chip k).time.len →
      ∃ t, exec (.stepSubstep k j) s = .next t ∧ (t.chip k).clk.freq.sub = j ∧
        ∀ r : RegionId, ((s.chip k).gen r).state = .slew →
          ((t.chip k).gen r).code = subCode ((s.chip k).gen r).codeOld ((s.chip k).gen r).codeNew j) ∧
    ((s.chip k).clk.freq.phase = .slewing → (s.chip k).clk.freq.sub = 15 → 2 ≤ (s.chip k).clk.freq.since →
      ∃ t, exec (.stepSlewEnd k) s = .next t ∧
        (t.chip k).clk.freq.phase =
          (if (s.chip k).clk.freq.mOld < (s.chip k).clk.freq.mNew then .none else .lowering) ∧
        ∀ r : RegionId, ((s.chip k).gen r).state = .slew →
          ((t.chip k).gen r).state = ((s.chip k).gen r).before ∧
          ((t.chip k).gen r).code = min 4095 ((s.chip k).gen r).codeNew) ∧
    ((s.chip k).clk.freq.phase = .lowering → 52 ≤ (s.chip k).clk.freq.since →
      ∃ t, exec (.stepLowerDone k) s = .next t ∧ (t.chip k).clk.stepBusy = false) ∧
    ((s.chip k).clk.freq.phase = .settling → 50 ≤ (s.chip k).clk.freq.since →
      ∃ t, exec (.stepCancelSettled k) s = .next t ∧ (t.chip k).clk.stepBusy = false)

/-- Gangs and failed tiles (R79, R80, R122 to R126). -/
def Obligations.GangEventsTakeEffect : Prop :=
  ∀ (k : ChipId) (r : RegionId) (s : State), (s.chip k).running = true →
    (∀ ps cycles, 20 < ps → 256 ≤ cycles → ((s.chip k).gen r).state = .slaved → (s.chip k).clockRuns r = true →
      ((s.chip k).gen r).skewFault = false → (((s.chip k).gen r).deskewed = true ∨ 2000 ≤ ((s.chip k).gen r).slavedCycles) →
      let m := ((s.chip k).region r).cfg.gangMaster
      ∃ t, exec (.gangSkewFault k r ps cycles) s = .next t ∧
        ((s.chip k).dissolveOf m = none →
          (t.chip k).dissolves = (s.chip k).dissolves ++ [{ master := m, members := (s.chip k).gang r }] ∧
          ((s.chip k).seq.items.cells = [] →
            (t.chip k).hif.log.head? = some ⟨codeOf .clk 11, r.val, (s.chip k).time.epoch⟩)) ∧
        ((s.chip k).dissolveOf m ≠ none → (t.chip k).dissolves = (s.chip k).dissolves ∧
          (t.chip k).hif.log.head? = some ⟨codeOf .clk 11, r.val, (s.chip k).time.epoch⟩)) ∧
    (∀ ps pos cycles, 50 < ps → ((s.chip k).gen r).state = .slaved → (s.chip k).clockRuns r = true →
      ∃ t, exec (.gangSkewHalt k r ps pos cycles) s = .next t ∧
        ((t.chip k).gen ((s.chip k).region r).cfg.gangMaster).state = .halted ∧
        ((t.chip k).gen ((s.chip k).region r).cfg.gangMaster).halt = .skew ∧
        ((t.chip k).gen r).skew = min 255 ps) ∧
    (∀ ps steps : Int, (ps - 2 * steps).natAbs ≤ 20 → ((s.chip k).gen r).state = .slaved → (s.chip k).clockRuns r = true →
      ∃ t, exec (.gangMemberDeskewed k r ps steps) s = .next t ∧ ((t.chip k).gen r).deskewed = true ∧
        ((t.chip k).gen r).skew = (ps - 2 * steps).natAbs ∧ ((t.chip k).gen r).delay = ((s.chip k).gen r).delay + steps) ∧
    (∀ d, (s.chip k).dissolveOf r = some d → d.timedOut = false → 50000 ≤ d.epochs →
      ∃ t, exec (.gangDissolveTimeout k r) s = .next t ∧ (t.chip k).dissolveOf r = some { d with timedOut := true }) ∧
    (∀ d, (s.chip k).dissolveOf r = some d →
      (∀ x ∈ d.members, (s.chip k).drained x = true ∨ (d.timedOut = true ∧ (s.chip k).idleIn x = true)) →
      ∃ t, exec (.gangDissolveApply k r) s = .next t ∧ (t.chip k).dissolveOf r = none ∧
        ∀ x ∈ d.members, ((t.chip k).region x).cfg.gangMaster = x) ∧
    (∀ q : PosId, bit ((s.chip k).region r).posFail q = false →
      ∃ t, exec (.tileFailed k r q) s = .next t ∧ bit ((t.chip k).region r).posFail q = true)

/-- Crossing calibration, the fixed items (R162 to R164, R167 to R169, R187) and the isolation of a region (R172 to R176,
R193, R736). -/
def Obligations.CalibrationAndIsolationTakeEffect : Prop :=
  (∀ (k : ChipId) (s : State), (s.chip k).running = true →
    (∀ trips, (s.chip k).xng.up = true → (s.chip k).xng.ended = false → (s.chip k).xng.probing = false →
      ∃ t, exec (.xngCalibration k trips) s = .next t ∧ (t.chip k).xng.probing = true ∧ (t.chip k).xng.epochs = 0 ∧
        ∀ (r : RegionId) d, hasLink r d = true →
          ((t.chip k).link r d).linkT = min 65535 (ceilDiv (5 * trips.getD (4 * r.val + d) 0) 2)) ∧
    ((s.chip k).xng.probing = true → (s.chip k).xng.epochs ≤ 100 →
      ∃ t, exec (.xngCalibrationDone k) s = .next t ∧ (t.chip k).xng.done = true ∧
        ∀ a b : RegionId, a ≠ b →
          (t.chip k).lat a b = latOf ((s.chip k).pathPs 15 a b) (s.chip k).xng.margin) ∧
    ((s.chip k).xng.probing = true → 100 ≤ (s.chip k).xng.epochs →
      ∃ t, exec (.xngCalibrationTimeout k) s = .next t ∧ (t.chip k).xng.done = (s.chip k).xng.done ∧
        (t.chip k).xng.ended = true ∧
        (t.chip k).hif.log.head? = some ⟨codeOf .xng 5, noInstance, (s.chip k).time.epoch⟩) ∧
    (∀ (r : RegionId) (lane : Lane) (src : EpId) (seen : Nat) (now : Moment) (f : Flit) (i : Nat),
      let q := ejQ r lane
      let c := ((s.chip k).at_ now r).seeAt q seen
      (s.chip k).clockRuns r = true → (c.queue q).openFor false = true →
      firstFixed (c.queue q).seen src = some (f, i) → c.reqHeld q i = false →
      (c.lat src r : Int) ≤ fixedDelta (c.tv r) f.msg.stamp →
      ∃ t, exec (.fixedItemRelease k r lane src seen now) s = .next t ∧
        ((t.chip k).queue q).items = (c.queue q).items.eraseIdx i ∧
        ((t.chip k).region r).detViol =
          (if f.late then satAdd 64 ((s.chip k).region r).detViol 1 else ((s.chip k).region r).detViol))) ∧
  (∀ (k : ChipId) (r : RegionId) (s : State), (s.chip k).running = true →
    (100 ≤ ((s.chip k).region r).wdogAge → ((s.chip k).region r).isoSinkOn = false →
      ∃ t, exec (.regionIsolate k r) s = .next t ∧ ((t.chip k).region r).isoSinkOn = true ∧
        ((t.chip k).region r).status =
          (if ((s.chip k).region r).status = .retired then .retired else .isolated)) ∧
    (∀ (lane : Lane) x, (s.chip k).chosen r 4 = some x → (s.chip k).sinks r = true → x.flit.msg.lane = lane →
      ((s.chip k).link r 4).drop.getD lane.ix false = false →
      ∃ t, exec (.isolationSinkAccept k r lane) s = .next t ∧
        ((t.chip k).region r).isoSink =
          (if x.flit.last then satAdd 64 ((s.chip k).region r).isoSink 1 else ((s.chip k).region r).isoSink)) ∧
    (((s.chip k).region r).isoSinkOn = true → ((s.chip k).region r).status = .isolated →
      (s.chip k).lockedFor r = true → (queuesOf r).all (fun q => ((s.chip k).queue q).isOpen) = true →
      ∃ t, exec (.isolationEnd k r) s = .next t ∧ ((t.chip k).region r).isoSinkOn = false ∧
        ((t.chip k).region r).status = .out))

/-- Pushes, pops and the queue handshake (R149 to R157, R161, R177 to R181). A push into an injection queue moves the flit that its
writer holds, with the mode and stamp of R156 and R161; one into an ejection queue the flit that the router's output sends next. -/
def Obligations.CrossingQueuesTakeEffect : Prop :=
  ∀ (k : ChipId) (q : QueueId) (s : State), (s.chip k).running = true →
    (∀ (seen : Nat) (now : Moment) (f : Flit) (rest : List Flit),
      let c := ((s.chip k).at_ now (domainOfEp (queueEp q))).onQueue q (fun x => x.seeFreed seen)
      isEject q = false → (s.chip k).sideRuns q true = true → (s.chip k).xng.up = true →
      ((s.chip k).queue q).waiting = f :: rest →
      ((c.queue q).room 8 = true →
        ∃ t m, exec (.queuePush k q seen now) s = .next t ∧
          ((t.chip k).queue q).items = ((s.chip k).queue q).items ++ [{ f with msg := m }] ∧
          ((t.chip k).queue q).waiting.length = rest.length ∧ (f.head = false → m = f.msg) ∧
          (f.head = true → m.sameAs f.msg = true ∧ m.mode = c.modeOf (queueEp q) f.msg.dst ∧
            (m.mode = .fixed → m.stamp = c.tv (domainOfEp (queueEp q))))) ∧
      ((c.queue q).room 8 = false →
        ∃ t, exec (.queuePush k q seen now) s = .next t ∧
          ((t.chip k).queue q).items = ((s.chip k).queue q).items ∧ ((t.chip k).queue q).waiting = f :: rest)) ∧
    (∀ (seen : Nat) (now : Moment) x,
      let c := ((s.chip k).at_ now 72).onQueue q (fun x => x.seeFreed seen)
      let e := queueEp q
      isEject q = true → 0 < queueDepth q → c.chosen (routerOf e) (edgeSide e) = some x → x.flit.msg.dst = e →
      x.flit.msg.lane = queueLane q → (s.chip k).sinks e = false →
      ((s.chip k).link (routerOf e) (edgeSide e)).drop.getD x.flit.msg.lane.ix false = false →
      ∃ t, exec (.queuePush k q seen now) s = .next t ∧
        ((t.chip k).queue q).items = ((s.chip k).queue q).items ++ [x.flit]) ∧
    (∀ (seen : Nat) (now : Moment),
      let c := ((s.chip k).at_ now 72).seeAt q seen
      let e := queueEp q
      isEject q = false → (c.queue q).seen ≠ [] → (c.queue q).openFor false = true →
      c.bufferRoom (routerOf e) (inputSide e) (queueLane q) = true → (e < 91 ∨ c.northAdmits e (queueLane q) = true) →
      ∃ t, exec (.queuePop k q seen now) s = .next t ∧ (t.chip k).flying.length = (s.chip k).flying.length + 1 ∧
        ((t.chip k).queue q).items = (c.queue q).items.tail) ∧
    (∀ (seen : Nat) (now : Moment) (i : Nat),
      let c := ((s.chip k).at_ now (domainOfEp (queueEp q))).seeAt q seen
      let e := queueEp q
      isEject q = true → 0 < queueDepth q → (s.chip k).sideRuns q false = true → c.poppable q = some i →
      c.reqHeld q i = false →
      (isMemoryEp e = true → ((s.chip k).chan (e - 72)).store.length < 128 ∧
        (queueLane q = .wr → ((s.chip k).ep e).popWr = []) ∧ (queueLane q = .req → ((s.chip k).ep e).popReq = [])) →
      ∃ t, exec (.queuePop k q seen now) s = .next t ∧
        ((t.chip k).queue q).items = (c.queue q).items.eraseIdx i) ∧
    (∀ writer, (s.chip k).sideRuns q writer = true → 0 < queueDepth q →
      (∃ t, exec (.queueReset k q writer) s = .next t ∧ ((t.chip k).queue q).items = [] ∧
        (((t.chip k).queue q).side writer).rip = true) ∧
      ((((s.chip k).queue q).side (!writer)).rip = true → ((s.chip k).queue q).seesRip writer = false →
        ∃ t, exec (.queueRipSeen k q writer) s = .next t ∧ ((t.chip k).queue q).items = [] ∧
          (((t.chip k).queue q).side writer).ack = true) ∧
      ((((s.chip k).queue q).side (!writer)).rip = false → ((s.chip k).queue q).seesRip writer = true →
        ∃ t, exec (.queueRipSeen k q writer) s = .next t ∧
          ((t.chip k).queue q).items = ((s.chip k).queue q).items ∧
          (((t.chip k).queue q).side writer).ack = false) ∧
      ((((s.chip k).queue q).side (!writer)).ack = true → ((s.chip k).queue q).seesAck writer = false →
        ∃ t, exec (.queueAckSeen k q writer) s = .next t ∧ (((t.chip k).queue q).side writer).rip = false)) ∧
    (((s.chip k).queue q).isOpen = false → 1000 ≤ ((s.chip k).queue q).age →
      ∃ t, exec (.handshakeTimeout k q) s = .next t ∧ ((t.chip k).queue q).items = [] ∧
        (((t.chip k).queue q).side true).rip = true ∧ (((t.chip k).queue q).side false).rip = true)

/-- The Spine (R194, R196, R199, R203, R207, R209, R216, R222, R223, R737 to R739). -/
def Obligations.SpineEventsTakeEffect : Prop :=
  ∀ (k : ChipId) (s : State), (s.chip k).running = true →
    (∀ back, (s.chip k).bru.phase = .spine → (s.chip k).bru.checked = false → 10 ≤ (s.chip k).xng.check →
      ∃ t, exec (.spineStartCheck k back) s = .next t ∧ (t.chip k).bru.checked = true ∧
        ((∀ (r : RegionId) d, (hasLink r d || hasEdge r d) = true → back.getD (4 * r.val + d) false = true) →
          (t.chip k).xng.up = true) ∧
        (∀ (r : RegionId) d, (hasLink r d || hasEdge r d) = true → back.getD (4 * r.val + d) false = false →
          (t.chip k).xng.up = (s.chip k).xng.up ∧
          (t.chip k).hif.log.head? = some ⟨codeOf .spn 5, noInstance, (s.chip k).time.epoch⟩)) ∧
    (∀ (m : Msg) (now : Moment), (s.chip k).sideRuns (injQ m.src m.lane) true = true → (s.chip k).xng.up = true →
      ((s.chip k).ep m.src).offers m.normal = true →
      (injectable m.normal = true → m.lane = .wr → ((s.chip k).queue (injQ m.src m.lane)).waiting = [] →
        ((s.chip k).queue (injQ m.src m.lane)).openFor true = true →
        ((s.chip k).queue (injQ m.src m.lane)).items.length + ((s.chip k).queue (injQ m.src m.lane)).freed + m.flits ≤ 8 →
        ∃ t, exec (.messageInject k m now) s = .next t ∧ ((t.chip k).queue (injQ m.src m.lane)).waiting = [] ∧
          ((t.chip k).queue (injQ m.src m.lane)).items.length =
            ((s.chip k).queue (injQ m.src m.lane)).items.length + m.flits) ∧
      (injectable m.normal = true → ((s.chip k).queue (injQ m.src m.lane)).waiting = [] →
        ((s.chip k).queue (injQ m.src m.lane)).openFor true = true →
        ((s.chip k).queue (injQ m.src m.lane)).items.length + ((s.chip k).queue (injQ m.src m.lane)).freed + m.normal.flits ≤ 8 →
        (∀ n, reserveFlits m.normal = some n → ((s.chip k).ep m.src).reservedFlits + n ≤ ejectDepth m.src .rsp) →
        ∃ t, exec (.messageInject k m now) s = .next t ∧ ((t.chip k).queue (injQ m.src m.lane)).waiting = [] ∧
          ((t.chip k).queue (injQ m.src m.lane)).items.length =
            ((s.chip k).queue (injQ m.src m.lane)).items.length + m.normal.flits ∧
          ((t.chip k).ep m.src).outstanding.length = ((s.chip k).ep m.src).outstanding.length +
            (if (reserveFlits m.normal).isSome then 1 else 0)) ∧
      (injectable m.normal = false →
        ∃ t, exec (.messageInject k m now) s = .next t ∧
          (t.chip k).hif.log.head? = some ⟨codeOf .spn 3, m.src, (s.chip k).time.epoch⟩ ∧
          (m.lane = .req → ((t.chip k).ep m.src).popRsp = ((s.chip k).ep m.src).popRsp ++
            [{ lane := .rsp, src := m.src, dst := m.src, tag := m.tag, status := 3 }])) ∧
      (injectable m.normal = true → m.lane = .req → ((s.chip k).queue (injQ m.src m.lane)).waiting = [] →
        ejectDepth m.src .rsp < ((s.chip k).ep m.src).reservedFlits + (1 + 2 * m.rlen) →
        ((s.chip k).ep m.src).delayed.contains m.tag = false →
        ∃ t, exec (.messageInject k m now) s = .next t ∧
          ((t.chip k).ep m.src).rsvStall = satAdd 64 ((s.chip k).ep m.src).rsvStall 1 ∧
          ((t.chip k).queue (injQ m.src m.lane)).items = ((s.chip k).queue (injQ m.src m.lane)).items)) ∧
    (∀ (r : RegionId) (d : OutPort) x, (s.chip k).chosen r d.ix = some x → d.ix < 4 →
      routeSide r (routerOf x.flit.msg.dst) ≠ 4 → ((s.chip k).link r d.ix).drop.getD x.flit.msg.lane.ix false = false →
      ∃ t, exec (.routerForward k r d) s = .next t ∧
        ((t.chip k).link r d.ix).flits = satAdd 64 ((s.chip k).link r d.ix).flits 1 ∧
        (t.chip k).flying.getLast? =
          some { flit := x.flit, at_ := neighbour r d.ix, side := opposite d.ix }) ∧
    (∀ (e : EpId) m rest, ((s.chip k).ep e).popRsp = m :: rest → (s.chip k).epRuns e = true →
      (((s.chip k).ep e).outstanding.any (fun o => o.tag == m.tag && !o.void)) = false →
      ∃ t, exec (.rspArrive k e) s = .next t ∧ ((t.chip k).ep e).popRsp = rest ∧
        ((t.chip k).ep e).tagDrop = satAdd 32 ((s.chip k).ep e).tagDrop 1) ∧
    (∀ (e : EpId) m rest, ((s.chip k).ep e).popRsp = m :: rest → (s.chip k).epRuns e = true →
      (((s.chip k).ep e).outstanding.any (fun o => o.tag == m.tag && !o.void)) = true →
      ∃ t, exec (.rspArrive k e) s = .next t ∧ ((t.chip k).ep e).popRsp = rest ∧
        (isRegionEp e = false →
          ((t.chip k).ep e).outstanding = ((s.chip k).ep e).outstanding.filter (fun o => o.tag != m.tag))) ∧
    (∀ (e : EpId) tag o,
      ((s.chip k).ep e).outstanding.find? (fun o => o.tag == tag && !o.wait_ && decide (1000 ≤ o.age)) = some o →
      ∃ t, exec (.rspTimeout k e tag) s = .next t ∧ (t.chip k).logged .spn 2 e ∧
        (isRegionEp e = false →
          ((t.chip k).ep e).outstanding = ((s.chip k).ep e).outstanding.filter (fun o => o.tag != tag) ∧
          (t.chip k).hif.log.head? = some ⟨codeOf .spn 2, e.val, (s.chip k).time.epoch⟩)) ∧
    (∀ (e : EpId) f rest, ((s.chip k).queue (ejQ e .req)).items = f :: rest → f.head = true →
      ((s.chip k).ep e).holds f.msg = true → 500 ≤ ((s.chip k).ep e).held →
      ∃ t, exec (.wseqResync k e) s = .next t ∧ ((t.chip k).ep e).got.get 0 f.msg.src = f.msg.wseq ∧
        ((t.chip k).ep e).resync = satAdd 32 ((s.chip k).ep e).resync 1 ∧
        (t.chip k).hif.log.head? = some ⟨codeOf .spn 7, e.val, (s.chip k).time.epoch⟩) ∧
    (∀ (r : RegionId) (d : OutPort) x, (s.chip k).chosen r d.ix = some x →
      ∃ t, exec (.flitUncorrectable k r d) s = .next t ∧
        ((t.chip k).link r d.ix).uncorr = satAdd 32 ((s.chip k).link r d.ix).uncorr 1 ∧
        (t.chip k).hif.log.head? = some ⟨codeOf .spn 1, r.val, (s.chip k).time.epoch⟩ ∧
        (x.flit.head = true → x.flit.msg.lane.ix < ((s.chip k).link r d.ix).drop.length →
          (t.chip k).flying = (s.chip k).flying.eraseIdx x.place) ∧
        (x.flit.head = false → d.ix < 4 → routeSide r (routerOf x.flit.msg.dst) ≠ 4 →
          ((s.chip k).link r d.ix).drop.getD x.flit.msg.lane.ix false = false →
          (t.chip k).flying.getLast? =
            some { flit := { x.flit with poison := true }, at_ := neighbour r d.ix, side := opposite d.ix })) ∧
    (∀ (r : RegionId) (d : OutPort) (lane : Lane), 1000 ≤ ((s.chip k).link r d.ix).stall.getD lane.ix 0 →
      ∃ t, exec (.laneStallTimeout k r d lane) s = .next t ∧
        (t.chip k).hif.log.head? = some ⟨codeOf .spn 4, r.val, (s.chip k).time.epoch⟩) ∧
    (∀ (r : RegionId) (d : OutPort) n, ((s.chip k).link r d.ix).corrSec ≤ 100 →
      100 < ((s.chip k).link r d.ix).corrSec + n →
      ∃ t, exec (.linkCeRate k r d n) s = .next t ∧
        ((t.chip k).link r d.ix).corr = satAdd 32 ((s.chip k).link r d.ix).corr n ∧
        (t.chip k).hif.log.head? = some ⟨codeOf .spn 6, r.val, (s.chip k).time.epoch⟩)

/-- The commit (R277 to R283, R733) and the staged image path (R296 to R303). -/
def Obligations.CommitTakesEffect : Prop :=
  ∀ (k : ChipId) (s : State), (s.chip k).running = true →
    ((s.chip k).commitFault = none →
      ∃ t, exec (.commit k) s = .next t ∧ (t.chip k).img.pending = true ∧
        (t.chip k).img.snapE = (s.chip k).img.commitEpoch ∧ (t.chip k).img.snapA = (s.chip k).img.shadowA ∧
        (t.chip k).img.snapB = (s.chip k).img.shadowB) ∧
    (∀ f n, (s.chip k).commitFault = some (f, n) →
      ∃ t, exec (.commit k) s = .next t ∧ (t.chip k).img = (s.chip k).img ∧
        (t.chip k).hif.log.head? = some ⟨codeOf f n, noInstance, (s.chip k).time.epoch⟩) ∧
    (∃ t, exec (.commitCancel k) s = .next t ∧ (t.chip k).img.nowA = (s.chip k).img.nowA ∧
      (t.chip k).img.pending = ((s.chip k).img.pending && decide ((s.chip k).img.snapE ≤ (s.chip k).time.epoch)) ∧
      ((s.chip k).img.rollActive = true →
        (t.chip k).img.rollActive = decide ((s.chip k).img.rollRegion ≠ 255) ∧
        ((s.chip k).img.rollRegion ≠ 255 → (t.chip k).img.rollCancel = true))) ∧
    (∀ ok, (s.chip k).img.pending = true → (s.chip k).img.snapE ≤ (s.chip k).time.epoch →
      ∃ t, exec (.commitApply k ok) s = .next t ∧ (t.chip k).img.pending = false ∧
        (t.chip k).img.nowA = (s.chip k).img.snapA ∧ (t.chip k).img.appliedEpoch = (s.chip k).img.snapE ∧
        ((s.chip k).img.snapStaged = true → (t.chip k).img.staged = false) ∧
        ((s.chip k).img.rollActive = false → (t.chip k).img.rollActive = (s.chip k).rollNeeded)) ∧
    ((s.chip k).img.pending = false → (s.chip k).img.rollActive = false → (s.chip k).img.staged = false →
      (s.chip k).img.staging = false → (s.chip k).bru.ready = true →
      ∃ t, exec (.stage k) s = .next t ∧ (t.chip k).img.staging = true ∧
        (t.chip k).img.stagingSlot = (s.chip k).img.stageSlot) ∧
    ((s.chip k).img.staging = true →
      ∃ t, exec (.stageComplete k) s = .next t ∧ (t.chip k).img.staging = false ∧
        (t.chip k).img.result = (s.chip k).stageResult (s.chip k).img.stagingSlot ∧
        ((s.chip k).stageResult (s.chip k).img.stagingSlot = 1 → (t.chip k).img.staged = true)) ∧
    ((s.chip k).img.staged = true → ((s.chip k).img.pending && (s.chip k).img.snapStaged) = false →
      ∃ t, exec (.abandon k) s = .next t ∧ (t.chip k).img.staged = false ∧
        (t.chip k).img.shadowA = (s.chip k).img.shadowA)

/-- The roll (R285 to R294, Table IMG-6, Table IMG-7). -/
def Obligations.RollTakesEffect : Prop :=
  ∀ (k : ChipId) (s : State), (s.chip k).running = true → (s.chip k).img.rollActive = true →
    (∀ ph r, (s.chip k).img.rollRegion = 255 → (s.chip k).img.rollWait = false → (s.chip k).img.rollEnded = false →
      (s.chip k).safetyHalt = false → (s.chip k).nextStep = some (ph, r) →
      ∃ t, exec (.rollStepStart k) s = .next t ∧ (t.chip k).img.rollRegion = r ∧ (t.chip k).img.rollPhase = ph ∧
        ((t.chip k).region r).status ≠ .serving) ∧
    (∀ r : RegionId, (s.chip k).img.rollRegion = r.val → (s.chip k).img.rollApplied = false →
      ((s.chip k).drained r = true →
        ((s.chip k).stepMaster r ≠ ((s.chip k).region r).cfg.gangMaster → (s.chip k).clk.stepBusy = false) →
        ∀ copyUe, ∃ t, exec (.rollStepApply k copyUe) s = .next t ∧ (t.chip k).img.rollApplied = true ∧
          ((s.chip k).img.rollPhase ≠ .leaving → ((t.chip k).region r).cfg = classB (s.chip k).img.rollB r) ∧
          ((s.chip k).img.rollPhase = .leaving →
            ((t.chip k).region r).cfg = { ((s.chip k).region r).cfg with gangMaster := r.val })) ∧
      ((s.chip k).drained r = false → (s.chip k).stepSingle r = false → (s.chip k).img.rollForced = false →
        50000 ≤ (s.chip k).img.rollEpochs →
        ∃ t, exec (.rollForcedDrain k) s = .next t ∧ (t.chip k).img.rollForced = true ∧
          (t.chip k).hif.log.head? = some ⟨codeOf .img 5, r.val, (s.chip k).time.epoch⟩) ∧
      ((s.chip k).drained r = false → (s.chip k).stepSingle r = true → 4000 ≤ (s.chip k).img.rollEpochs →
        ((s.chip k).img.rollTries < 7 → (s.chip k).img.rollCancel = false →
          ∃ t, exec (.rollSingleTimeout k) s = .next t ∧ (t.chip k).img.rollRegion = 255 ∧
            (t.chip k).img.rollWait = true ∧ (t.chip k).img.rollTries = (s.chip k).img.rollTries + 1 ∧
            (t.chip k).hif.log.head? = some ⟨codeOf .img 6, r.val, (s.chip k).time.epoch⟩) ∧
        (7 ≤ (s.chip k).img.rollTries →
          ∃ t, exec (.rollSingleTimeout k) s = .next t ∧ (t.chip k).img.rollRegion = 255 ∧
            bit (t.chip k).img.skipped r = true ∧
            (t.chip k).hif.log.head? = some ⟨codeOf .img 7, r.val, (s.chip k).time.epoch⟩))) ∧
    (∀ r : RegionId, (s.chip k).img.rollRegion = r.val → (s.chip k).img.rollApplied = true →
      ((s.chip k).img.rollMoved = true → ((s.chip k).region r).cfg.retire = true ∨ ((s.chip k).region r).isoSinkOn = true ∨
        (if ((s.chip k).gen r).state = .slaved then ((s.chip k).gen r).deskewed else (s.chip k).lockedFor r) = true) →
      ∃ t, exec (.rollStepEnd k) s = .next t ∧ (t.chip k).img.rollRegion = 255 ∧
        ((t.chip k).region r).status =
          (if ((s.chip k).region r).cfg.retire = true then .retired
           else if 15 < ((s.chip k).region r).cfg.partition ∨ (s.chip k).img.rollParted = true ∨
             (s.chip k).img.rollCopyUe = true then .out
           else if ((s.chip k).region r).isoSinkOn = true then .isolated
           else if (s.chip k).tilesWork r = true ∧ ((s.chip k).region r).retireLater = false ∧
             ((s.chip k).region r).awaitTiles = [] ∧ ((s.chip k).region r).awaitModel = false ∧
             ((s.chip k).region r).awaitLock = false ∧ (s.chip k).stew.coolantStop = false then .serving
           else .out))

/-- The integer vector operations and the operations that move lanes (R375, Table OPS-7): every lane of VD. -/
def Obligations.LanesAreExact : Prop :=
  (∀ (k : ChipId) (r : RegionId) (p : TileId) (s : State),
    let x := (s.chip k).tile (tileIx r p)
    let d := (s.chip k).desc r p
    let a := fun n => x.lane (va d) n
    let b := fun n => x.laneB d n
    (VectorRuns k r p 0x10 s → LanesAfter (.iadd k r p) k r p s (fun n => a n + b n)) ∧
    (VectorRuns k r p 0x11 s → LanesAfter (.isub k r p) k r p s (fun n => a n - b n)) ∧
    (VectorRuns k r p 0x12 s → LanesAfter (.imul k r p) k r p s (fun n => a n * b n)) ∧
    (VectorRuns k r p 0x13 s → LanesAfter (.imin k r p) k r p s (fun n => if (a n).sle (b n) then a n else b n)) ∧
    (VectorRuns k r p 0x14 s → LanesAfter (.imax k r p) k r p s (fun n => if (a n).sle (b n) then b n else a n)) ∧
    (VectorRuns k r p 0x15 s → LanesAfter (.and k r p) k r p s (fun n => a n &&& b n)) ∧
    (VectorRuns k r p 0x16 s → LanesAfter (.or k r p) k r p s (fun n => a n ||| b n)) ∧
    (VectorRuns k r p 0x17 s → LanesAfter (.xor k r p) k r p s (fun n => a n ^^^ b n)) ∧
    (VectorRuns k r p 0x18 s → LanesAfter (.shl k r p) k r p s (fun n => a n <<< (b n).toNat)) ∧
    (VectorRuns k r p 0x19 s → LanesAfter (.shr k r p) k r p s (fun n => a n >>> (b n).toNat)) ∧
    (VectorRuns k r p 0x1A s → LanesAfter (.sar k r p) k r p s (fun n => (a n).sshiftRight (b n).toNat)) ∧
    (VectorRuns k r p 0x1B s → LanesAfter (.icmplt k r p) k r p s (fun n => if (a n).slt (b n) then 1 else 0))) ∧
  (∀ (k : ChipId) (r : RegionId) (p : TileId) (s : State),
    let x := (s.chip k).tile (tileIx r p)
    let d := (s.chip k).desc r p
    let a := fun n => x.lane (va d) n
    let b := fun n => x.laneB d n
    (VectorRuns k r p 0x30 s → LanesAfter (.perm k r p) k r p s (fun n => a ((b n).toNat % 64))) ∧
    (VectorRuns k r p 0x31 s → LanesAfter (.bcast k r p) k r p s (fun _ => a (imm d % 64))) ∧
    (VectorRuns k r p 0x32 s → LanesAfter (.lshift k r p) k r p s (fun n =>
      if 0 ≤ (n : Int) - signed 32 (imm d) ∧ (n : Int) - signed 32 (imm d) < 64
      then a ((n : Int) - signed 32 (imm d)).toNat else 0)) ∧
    (VectorRuns k r p 0x33 s → LanesAfter (.sel k r p) k r p s (fun n =>
      if x.lane (vc d) n ≠ 0 then a n else b n)))

/-- The FP32 operations and reductions of Table OPS-7 (R322 to R324, R375) apply their function lane by lane. -/
def Obligations.FloatLanesFollowTheirFunction : Prop :=
  ∀ (k : ChipId) (r : RegionId) (p : TileId) (s : State),
    let x := (s.chip k).tile (tileIx r p)
    let d := (s.chip k).desc r p
    let a := fun n => (x.lane (va d) n).toNat
    let b := fun n => (x.laneB d n).toNat
    let w := fun (v : Nat) => BitVec.ofNat 32 v
    (VectorRuns k r p 0x20 s → LanesAfter (.fadd k r p) k r p s (fun n => w (fadd (a n) (b n)))) ∧
    (VectorRuns k r p 0x21 s → LanesAfter (.fsub k r p) k r p s (fun n => w (fsub (a n) (b n)))) ∧
    (VectorRuns k r p 0x22 s → LanesAfter (.fmul k r p) k r p s (fun n => w (fmul (a n) (b n)))) ∧
    (VectorRuns k r p 0x23 s → LanesAfter (.fma k r p) k r p s (fun n =>
      w (ffma (a n) (b n) (x.lane (vc d) n).toNat))) ∧
    (VectorRuns k r p 0x24 s → LanesAfter (.fmin k r p) k r p s (fun n => w (fmin (a n) (b n)))) ∧
    (VectorRuns k r p 0x25 s → LanesAfter (.fmax k r p) k r p s (fun n => w (fmax (a n) (b n)))) ∧
    (VectorRuns k r p 0x26 s → LanesAfter (.fcmplt k r p) k r p s (fun n => w (fcmplt (a n) (b n)))) ∧
    (VectorRuns k r p 0x27 s → LanesAfter (.recip k r p) k r p s (fun n => w (frecip (a n)))) ∧
    (VectorRuns k r p 0x28 s → LanesAfter (.rsqrt k r p) k r p s (fun n => w (frsqrt (a n)))) ∧
    (VectorRuns k r p 0x29 s → LanesAfter (.sqrt k r p) k r p s (fun n => w (fsqrt (a n)))) ∧
    (VectorRuns k r p 0x2A s → LanesAfter (.exp2 k r p) k r p s (fun n => w (fexp2 (a n)))) ∧
    (VectorRuns k r p 0x2B s → LanesAfter (.log2 k r p) k r p s (fun n => w (flog2 (a n)))) ∧
    (VectorRuns k r p 0x38 s → LanesAfter (.rsum k r p) k r p s (fun n =>
      if n = 0 then w (reduceLanes fadd ((List.range 64).map a)) else 0)) ∧
    (VectorRuns k r p 0x39 s → LanesAfter (.rmax k r p) k r p s (fun n =>
      if n = 0 then w (reduceLanes fmax ((List.range 64).map a)) else 0)) ∧
    (VectorRuns k r p 0x3A s → LanesAfter (.rmin k r p) k r p s (fun n =>
      if n = 0 then w (reduceLanes fmin ((List.range 64).map a)) else 0)) ∧
    (VectorRuns k r p 0x40 s → cvtOk d = true → LanesAfter (.cvt k r p) k r p s (fun n =>
      w (convertElem (field (imm d) 0 4) (field (imm d) 4 4) (descSat d)
        (if field (imm d) 0 4 = 3 then a n % 65536 else a n)).bits))

/-- LD, ST and SETA (R375, R376): the bytes and the address register that each moves. -/
def Obligations.VectorMemoryTakesEffect : Prop :=
  ∀ (k : ChipId) (r : RegionId) (p : TileId) (s : State),
    let x := (s.chip k).tile (tileIx r p)
    let d := (s.chip k).desc r p
    let m := (s.chip k).tileMem r p
    let addr := x.eff (word d 1)
    ((s.chip k).atVop r p 0x00 [span addr 256] [] = true → x.memError d = 0 →
      LanesAfter (.ld k r p) k r p s (fun n => BitVec.ofNat 32 (Memory.readLE m (addr + 4 * n) 4))) ∧
    ((s.chip k).atVop r p 0x01 [] [span addr 256] = true → x.memError d = 0 → Memory.wf m = true →
      ∃ t, exec (.st k r p) s = .next t ∧
        (∀ n, n < 64 → Memory.readLE ((t.chip k).tileMem r p) (addr + 4 * n) 4 = (x.lane (vd d) n).toNat) ∧
        ∀ o, (o < addr ∨ addr + 256 ≤ o) →
          Memory.readByte ((t.chip k).tileMem r p) o = Memory.readByte m o) ∧
    (VectorRuns k r p 0x50 s → (∀ f, x.loops.head? = some f → f.stop ≠ x.pc + 64) →
      ∃ t, exec (.setaImm k r p) s = .next t ∧ ((t.chip k).tile (tileIx r p)).a.get 0 (vd d % 8) = imm d) ∧
    (VectorRuns k r p 0x51 s → (∀ f, x.loops.head? = some f → f.stop ≠ x.pc + 64) →
      ∃ t, exec (.setaV k r p) s = .next t ∧ ((t.chip k).tile (tileIx r p)).a.get 0 (vd d % 8) =
        (x.lane (va d) 0).toNat + 2 ^ 32 * ((x.lane (va d) 1).toNat % 256))

/-- MATRIX, pre-scan and CONVERT (R335, R343, R370 to R374). -/
def Obligations.MatrixAndConvertTakeEffect : Prop :=
  ∀ (k : ChipId) (r : RegionId) (p : TileId) (s : State),
    let x := (s.chip k).tile (tileIx r p)
    let d := (s.chip k).desc r p
    let m := (s.chip k).tileMem r p
    ((s.chip k).atOp r p 0x01 = true → mOut d ≠ 7 → x.clear (x.matrixReads d) (x.matrixWrites d) = true →
      x.matrixError m d = 0 →
      ∃ t, exec (.matrix k r p) s = .next t ∧
        (mOut d ≤ 5 → (t.chip k).tileMem r p = (x.writeBlock m d (x.block m d).1).1) ∧
        (mOut d = 6 → (t.chip k).tileMem r p = m ∧
          ((t.chip k).tile (tileIx r p)).engines.get {} (mEng d) =
            { held := true, family := familyOf (mAFmt d), accums := (x.block m d).1 })) ∧
    ((s.chip k).atOp r p 0x01 = true → mOut d = 7 → x.clear (x.matrixReads d) [] = true → x.prescanError d = 0 →
      ∃ t, exec (.prescan k r p) s = .next t ∧ ∀ n, n < 64 →
        ((t.chip k).tile (tileIx r p)).lane (mVmax d) n = BitVec.ofNat 32 ((x.sliceMaxima m d).getD n 0)) ∧
    ((s.chip k).atOp r p 0x03 = true →
      x.clear [span (x.eff (word d 1)) (cvN d * elemBytes (cvSrc d))]
        [span (x.eff (word d 2)) (cvN d * elemBytes (cvDst d))] = true → x.convertError d = 0 →
      ∃ t seq, exec (.convert k r p) s = .next t ∧
        (t.chip k).tileMem r p = (convertRun m (x.eff (word d 1)) (x.eff (word d 2)) (cvSrc d) (cvDst d) (cvN d)
          (descSat d) seq).1)

/-- MOVE, GATHER and SCATTER (R379). Within a tile: lines copied; where source and destination do not meet, MOVE leaves the source's
lines at the destination. Beyond the tile: the operation stands incomplete until its messages are injected or its lines have come. -/
def Obligations.CopiesWithinATile : Prop :=
  ∀ (k : ChipId) (r : RegionId) (p : TileId) (s : State),
    let x := (s.chip k).tile (tileIx r p)
    let d := (s.chip k).desc r p
    let m := (s.chip k).tileMem r p
    let a := x.eff (word d 1)
    let b := x.eff (word d 2)
    ((s.chip k).atOp r p 0x04 = true → x.moveBusy = false → x.clear (x.moveRun d).localReads (x.moveRun d).localWrites = true →
      x.moveError d = 0 → awSpace (word d 1) = 0 → awSpace (word d 2) = 0 → Memory.wf m = true →
      (a + 64 * mvLines d ≤ b ∨ b + 64 * mvLines d ≤ a) →
      ∃ t, exec (.move k r p) s = .next t ∧
        (∀ i, i < mvLines d →
          Memory.read ((t.chip k).tileMem r p) (b + 64 * i) 64 = Memory.read m (a + 64 * i) 64) ∧
        ∀ o, (o < b ∨ b + 64 * mvLines d ≤ o) →
          Memory.readByte ((t.chip k).tileMem r p) o = Memory.readByte m o) ∧
    ((s.chip k).atOp r p 0x04 = true → x.moveBusy = false → x.clear (x.moveRun d).localReads (x.moveRun d).localWrites = true →
      x.moveError d = 0 →
      (awSpace (word d 1) = 0 → awSpace (word d 2) ≠ 0 → spaceEp (word d 2) b ≠ r.val →
        ∃ t, exec (.move k r p) s = .next t ∧ ((t.chip k).tile (tileIx r p)).issued.length = x.issued.length + 1 ∧
          spaceEp (word d 2) b ∈ ((t.chip k).tile (tileIx r p)).written ∧ (t.chip k).tileMem r p = m) ∧
      (awSpace (word d 1) ≠ 0 →
        ∃ t, exec (.move k r p) s = .next t ∧ ((t.chip k).tile (tileIx r p)).issued.length = x.issued.length + 1 ∧
          (t.chip k).tileMem r p = m)) ∧
    ((s.chip k).atOp r p 0x05 = true → x.moveBusy = false →
      x.clear (x.tableReads d (x.tableRuns m d true)) ((x.tableRuns m d true).flatMap Run.localWrites) = true →
      x.tableError m d = 0 → (∀ w ∈ x.table m d, awSpace w = 0) →
      ∃ t seq, exec (.gather k r p) s = .next t ∧
        (t.chip k).tileMem r p = copyLines m seq ((x.tableRuns m d true).flatMap Run.pairs)) ∧
    ((s.chip k).atOp r p 0x05 = true → x.moveBusy = false →
      x.clear (x.tableReads d (x.tableRuns m d true)) ((x.tableRuns m d true).flatMap Run.localWrites) = true →
      x.tableError m d = 0 → (∃ w ∈ x.table m d, awSpace w ≠ 0) →
      ∃ t, exec (.gather k r p) s = .next t ∧ ((t.chip k).tile (tileIx r p)).issued.length = x.issued.length + 1) ∧
    ((s.chip k).atOp r p 0x06 = true → x.moveBusy = false →
      x.clear (x.tableReads d (x.tableRuns m d false)) ((x.tableRuns m d false).flatMap Run.localWrites) = true →
      x.tableError m d = 0 → (∀ w ∈ x.table m d, awSpace w = 0) →
      ∃ t seq, exec (.scatter k r p) s = .next t ∧
        (t.chip k).tileMem r p = copyLines m seq ((x.tableRuns m d false).flatMap Run.pairs)) ∧
    ((s.chip k).atOp r p 0x06 = true → x.moveBusy = false →
      x.clear (x.tableReads d (x.tableRuns m d false)) ((x.tableRuns m d false).flatMap Run.localWrites) = true →
      x.tableError m d = 0 → (∃ w ∈ x.table m d, awSpace w ≠ 0 ∧ spaceEp w (x.eff w) ≠ r.val) →
      ∃ t, exec (.scatter k r p) s = .next t ∧ ((t.chip k).tile (tileIx r p)).issued.length = x.issued.length + 1)

/-- SELECT (R416, R419 to R428): the entries of a pass in VD and VD + 1, and what it reports. -/
def Obligations.SelectTakesEffect : Prop :=
  ∀ (k : ChipId) (r : RegionId) (p : TileId) (s : State),
    let x := (s.chip k).tile (tileIx r p)
    let d := (s.chip k).desc r p
    let m := (s.chip k).tileMem r p
    let reads := [span (x.eff (word d 1)) (keyElem (slFmt d) * slN d)] ++
      (if word d 2 = 0 then [] else [span (x.eff (word d 2)) (4 * slN d)])
    ((s.chip k).atOp r p 0x07 = true → x.clear reads [] = true → x.selectError d = 0 →
      (x.colander d = false →
        ∃ t, exec (.selectSkewer k r p) s = .next t ∧
          (∀ n, n < 64 → ((t.chip k).tile (tileIx r p)).lane (slVd d) n =
            BitVec.ofNat 32 (((x.skewer m d).map (fun e => e.key)).getD n 0)) ∧
          ((t.chip k).tile (tileIx r p)).selExact = true ∧
          ((t.chip k).tile (tileIx r p)).selCount = (x.skewer m d).length ∧
          ((t.chip k).tile (tileIx r p)).selPasses = satAdd 32 x.selPasses 1) ∧
      (x.colander d = true →
        ∃ t, exec (.selectColander k r p) s = .next t ∧
          (∀ n, n < 64 → ((t.chip k).tile (tileIx r p)).lane (slVd d) n = (x.doColander m d).lane (slVd d) n) ∧
          ((t.chip k).tile (tileIx r p)).selColander = true ∧
          ((t.chip k).tile (tileIx r p)).selCount = (x.doColander m d).selCount ∧
          ((t.chip k).tile (tileIx r p)).selPasses = satAdd 32 x.selPasses 1))

/-- The collectives at a tile (R394, R397, R398, R400). -/
def Obligations.CollectivesTakeEffect : Prop :=
  ∀ (k : ChipId) (r : RegionId) (p : TileId) (s : State),
    let x := (s.chip k).tile (tileIx r p)
    let d := (s.chip k).desc r p
    let m := (s.chip k).tileMem r p
    let a := x.armedSlot d
    ((s.chip k).atCollective r p 0 = true → x.clear [] [span a.area (64 * a.r)] = true → x.armError d = 0 →
      Memory.wf m = true →
      ∃ t, exec (.collectiveArm k r p) s = .next t ∧ ((t.chip k).tile (tileIx r p)).slot (clSlot d) = a ∧
        Memory.read ((t.chip k).tileMem r p) a.area a.blankArea.length = a.blankArea) ∧
    ((s.chip k).atCollective r p 1 = true → x.moveBusy = false → x.clear [span (x.eff (word d 2)) (64 * clRecords d)] [] = true →
      x.sendError d = 0 →
      ∃ t, exec (.collectiveSend k r p) s = .next t ∧
        ((t.chip k).tile (tileIx r p)).issued.length = x.issued.length + 1) ∧
    ((s.chip k).atCollective r p 2 = true → waitSlotError d = 0 →
      ∃ t, exec (.collectiveWait k r p) s = .next t ∧
        ((t.chip k).tile (tileIx r p)).issued.length =
          x.issued.length + (if (x.slot (clSlot d)).done then 0 else 1)) ∧
    ((s.chip k).atCollective r p 3 = true → clReserved d = false →
      ∃ t, exec (.collectiveDisarm k r p) s = .next t ∧
        (((t.chip k).tile (tileIx r p)).slot (clSlot d)).armed = false) ∧
    (∀ i slot, (s.chip k).running = true → x.expired = some (i, slot) → x.err = 0 →
      ∃ t, exec (.collectiveTimeout k r p) s = .next t ∧ ((t.chip k).tile (tileIx r p)).err = eCollective ∧
        (t.chip k).hif.log.head? = some ⟨codeOf .ops 7, r.val, (s.chip k).time.epoch⟩ ∧
        ∀ n, slot = some n → (((t.chip k).tile (tileIx r p)).slot n).armed = false) ∧
    ((s.chip k).running = true → (s.chip k).clockRuns r = true → x.err = 0 →
      0 < (x.issued.map (fun i => i.kind.resends)).sum →
      ∃ t, exec (.collectResend k r p) s = .next t ∧
        ((t.chip k).tile (tileIx r p)).retry = satAdd 32 x.retry (x.issued.map (fun i => i.kind.resends)).sum) ∧
    (∀ q, (s.chip k).running = true → (s.chip k).clockRuns r = true → (s.chip k).headReq r = some q → q.op = 0x03 →
      q.poison = false → tileAddr q.addr 1 = some (p.val, 0) → 1 ≤ q.len → q.len ≤ 3 →
      (x.slot (field q.arg 0 4)).result (field q.arg 4 8) (field q.arg 28 2) (field q.arg 12 16) q.len = 0 →
      ∃ t, exec (.collect k r) s = .next t ∧
        (((t.chip k).tile (tileIx r p)).slot (field q.arg 0 4)).accepted =
          (x.slot (field q.arg 0 4)).accepted + q.len)

/-- SIGNAL, WAIT and their retries and timeouts (R382, R391, R392). -/
def Obligations.SignalsAndWaitsTakeEffect : Prop :=
  ∀ (k : ChipId) (r : RegionId) (p : TileId) (s : State),
    let x := (s.chip k).tile (tileIx r p)
    let d := (s.chip k).desc r p
    ((s.chip k).atOp r p 0x09 = true → x.moveBusy = false → sgFence d = false → signalError d = 0 →
      (bit (word d 1) 10 = false → ∃ t, exec (.signalAdd k r p) s = .next t ∧
        ((t.chip k).ep r).out = ((s.chip k).ep r).out ++ [signalMsg r d]) ∧
      (bit (word d 1) 10 = true → ∃ t, exec (.signalSet k r p) s = .next t ∧
        ((t.chip k).ep r).out = ((s.chip k).ep r).out ++ [signalMsg r d])) ∧
    ((s.chip k).atOp r p 0x09 = true → x.moveBusy = false → sgFence d = true → x.issued = [] →
      (s.chip k).canFlush r x = true → signalError d = 0 →
      (bit (word d 1) 10 = false → ∃ t, exec (.signalAdd k r p) s = .next t ∧
        ((t.chip k).tile (tileIx r p)).written = [] ∧ ((t.chip k).tile (tileIx r p)).issued.length = 1) ∧
      (bit (word d 1) 10 = true → ∃ t, exec (.signalSet k r p) s = .next t ∧
        ((t.chip k).tile (tileIx r p)).written = [] ∧ ((t.chip k).tile (tileIx r p)).issued.length = 1)) ∧
    ((s.chip k).atOp r p 0x0A = true → x.moveBusy = false → (s.chip k).freeTags r ≠ [] → waitError d = 0 →
      ∃ t, exec (.wait k r p) s = .next t ∧
        ((t.chip k).ep r).out = ((s.chip k).ep r).out ++
          [waitMsg r ((s.chip k).freeTag r) (sgCounter d) (word d 2) (wtTimeout d)]) ∧
    (∀ i tag n v tmo, (s.chip k).running = true → (s.chip k).clockRuns r = true → (s.chip k).freeTags r ≠ [] →
      x.retrying = some i → i.kind = .wait tag n v tmo true →
      ∃ t, exec (.waitRetry k r p) s = .next t ∧
        ((t.chip k).tile (tileIx r p)).retry = satAdd 32 x.retry 1 ∧
        ((t.chip k).ep r).out = ((s.chip k).ep r).out ++ [waitMsg r ((s.chip k).freeTag r) n v tmo]) ∧
    (let late := ((s.chip k).ep r).outstanding.filter (fun o => o.wait_ && decide (o.limit + 1000 ≤ o.age))
     let mine := late.find? (fun o => (x.waitOf o.tag).isSome)
     let orphan := late.find? (fun o =>
       (List.range 15).all (fun q => (((s.chip k).tile (tileIx r q)).waitOf o.tag).isNone))
     (s.chip k).running = true →
      (∀ o, mine = some o →
        ∃ t, exec (.waitReservationTimeout k r p) s = .next t ∧
          ((t.chip k).ep r).outstanding = ((s.chip k).ep r).outstanding.filter (fun y => y.tag != o.tag) ∧
          ((t.chip k).tile (tileIx r p)).err = (if x.err = 0 then eWait else x.err) ∧
          (t.chip k).hif.log.head? = some ⟨codeOf .ops 6, r.val, (s.chip k).time.epoch⟩) ∧
      (∀ o, mine = none → orphan = some o →
        ∃ t, exec (.waitReservationTimeout k r p) s = .next t ∧
          ((t.chip k).ep r).outstanding = ((s.chip k).ep r).outstanding.filter (fun y => y.tag != o.tag) ∧
          (t.chip k).tile (tileIx r p) = x))

/-- LOOP, CALL, RET, FENCE, FLUSH, an invalid descriptor and the end of an item (R369, R377, R378, R380 to R382, R402,
R464). -/
def Obligations.SequencerControlTakesEffect : Prop :=
  ∀ (k : ChipId) (r : RegionId) (p : TileId) (s : State),
    let x := (s.chip k).tile (tileIx r p)
    let d := (s.chip k).desc r p
    ((s.chip k).atOp r p 0x0B = true → x.loopError d = 0 →
      ∃ t, exec (.loop k r p) s = .next t ∧ ((t.chip k).tile (tileIx r p)).loops = x.loopFrame d :: x.loops ∧
        ((t.chip k).tile (tileIx r p)).pc = x.pc + 64) ∧
    ((s.chip k).atOp r p 0x0C = true → caRet d = false → callReserved d = false → field (word d 1) 0 21 % 64 = 0 →
      x.calls.length < 8 →
      ∃ t, exec (.call k r p) s = .next t ∧ ((t.chip k).tile (tileIx r p)).calls = (x.pc + 64) :: x.calls ∧
        ((∀ f, x.loops.head? = some f → f.stop ≠ field (word d 1) 0 21) →
          ((t.chip k).tile (tileIx r p)).pc = field (word d 1) 0 21)) ∧
    (∀ ret rest, (s.chip k).atOp r p 0x0C = true → caRet d = true → callReserved d = false → x.calls = ret :: rest →
      (∀ f, x.loops.head? = some f → f.level ≠ x.calls.length) →
      ∃ t, exec (.ret k r p) s = .next t ∧ ((t.chip k).tile (tileIx r p)).calls = rest ∧
        ((∀ f, x.loops.head? = some f → f.stop ≠ ret) → ((t.chip k).tile (tileIx r p)).pc = ret)) ∧
    ((s.chip k).atOp r p 0x0D = true → x.issued = [] → (s.chip k).canFlush r x = true → reservedFrom d 1 = false →
      ∃ t, exec (.fence k r p) s = .next t ∧ ((t.chip k).tile (tileIx r p)).written = [] ∧
        ((t.chip k).tile (tileIx r p)).issued.length = (if x.written = [] then 0 else 1)) ∧
    ((s.chip k).canFetch r p = true → descOp d = 0 →
      ∃ t, exec (.invalidOp k r p) s = .next t ∧ ((t.chip k).tile (tileIx r p)).errCode = eInvalid ∧
        ((t.chip k).tile (tileIx r p)).ended = true ∧
        (t.chip k).hif.log.head? = some ⟨codeOf .ops 1, r.val, (s.chip k).time.epoch⟩) ∧
    ((s.chip k).running = true → (s.chip k).clockRuns r = true → x.running = true → x.ended = true → x.issued = [] →
      ((x.err ≠ 0 ∨ x.endFence = true ∨ x.written = []) →
        ∃ t, exec (.itemEnd k r p) s = .next t ∧ ((t.chip k).tile (tileIx r p)).running = false ∧
          ((t.chip k).ep r).out = ((s.chip k).ep r).out ++ [endReport r p x]) ∧
      (x.err = 0 → x.endFence = false → x.written ≠ [] → (s.chip k).canFlush r x = true →
        ∃ t, exec (.itemEnd k r p) s = .next t ∧ ((t.chip k).tile (tileIx r p)).endFence = true ∧
          ((t.chip k).tile (tileIx r p)).running = true ∧ ((t.chip k).tile (tileIx r p)).issued.length = 1)) ∧
    (∀ (e : EpId) q rest, (s.chip k).running = true → ((s.chip k).ep e).popReq = q :: rest →
      ((s.chip k).ep e).popWr = [] → q.op = 0x04 → q.poison = false → flushRefused e q = false → q.src ≠ e.val →
      (isRegionEp e = true → (s.chip k).clockRuns e = true) →
      (isMemoryEp e = true → ((s.chip k).chan (e.val - 72)).popsReq = true) →
      ∃ t, exec (.flush k e) s = .next t ∧ ((t.chip k).ep e).popReq = rest ∧
        ((t.chip k).ep e).out = ((s.chip k).ep e).out ++ [rspTo e q 0 0 []])

/-- The region endpoint's writes, reads and starts (R314 to R316, R360, R463). -/
def Obligations.RegionEndpointTakesEffect : Prop :=
  ∀ (k : ChipId) (r : RegionId) (s : State), (s.chip k).running = true → (s.chip k).clockRuns r = true →
    (∀ m rest tile off, ((s.chip k).ep r).popWr = m :: rest → m.poison = false → m.op = 0x01 → 1 ≤ m.len → m.len ≤ 4 →
      tileAddr m.addr m.len = some (tile, off) →
      ∃ t, exec (.tileWrite k r) s = .next t ∧ ((t.chip k).ep r).popWr = rest ∧
        (t.chip k).tileMem r tile = Memory.writeEnabled ((s.chip k).tileMem r tile) off m.data m.en) ∧
    (∀ m rest, ((s.chip k).ep r).popWr = m :: rest → m.poison = false → m.op = 0x01 → 1 ≤ m.len → m.len ≤ 4 →
      tileAddr m.addr m.len = none →
      ∃ t, exec (.tileWrite k r) s = .next t ∧
        ((t.chip k).region r).addrErr = satAdd 32 ((s.chip k).region r).addrErr 1 ∧
        (t.chip k).hif.log.head? = some ⟨codeOf .til 5, r.val, (s.chip k).time.epoch⟩) ∧
    (∀ q tile off, (s.chip k).headReq r = some q → q.poison = false → q.op = 0x02 → 1 ≤ q.rlen → q.rlen ≤ 4 →
      q.len = 0 → tileAddr q.addr q.rlen = some (tile, off) → q.src ≠ r.val →
      ∃ t, exec (.tileRead k r) s = .next t ∧ ((t.chip k).ep r).out = ((s.chip k).ep r).out ++
        [rspTo r q 0 q.rlen (Memory.read ((s.chip k).tileMem r tile) off (64 * q.rlen))]) ∧
    (∀ m rest it (p : TileId), ((s.chip k).ep r).popWr = m :: rest → m.poison = false → m.op = 0x10 →
      (s.chip k).item (entryField m.data 38 2 % 4096) = some it → bit (entryField m.data 32 2) p = true →
      it.awaits (entryField m.data 34 1) (tileIx r p) = true → ((s.chip k).mapEntry (tileIx r p)).valid = true →
      ∃ t, exec (.start k r) s = .next t ∧ ((t.chip k).tile (tileIx r p)).running = true ∧
        ((t.chip k).tile (tileIx r p)).pc = 64 * ((s.chip k).mapEntry (tileIx r p)).entry ∧
        ((t.chip k).tile (tileIx r p)).a.get 0 0 = entryField m.data 0 8 % 2 ^ 40)

/-- Errors of tile memory and engines (R318 to R320, R349 to R355). A position that two residue errors have failed is not cleared by an
uncorrectable error of the same cycle (R354). -/
def Obligations.TileErrorsTakeEffect : Prop :=
  ∀ (k : ChipId) (r : RegionId) (p : TileId) (s : State), (s.chip k).running = true →
    let x := (s.chip k).tile (tileIx r p)
    let q := (s.chip k).positionOf r p
    (∀ off, off < tileTop → (s.chip k).bru.ready = true →
      (bit ((s.chip k).region r).posFail q = false →
        ∃ t, exec (.memoryUe k r p off .scrub true false) s = .next t ∧
          ((t.chip k).tile (tileIx r p)).ueCount = satAdd 16 x.ueCount 1 ∧
          (t.chip k).tileMem r p = Memory.clear ((s.chip k).tileMem r p) (off / 64 * 64) 64) ∧
      (∃ t, exec (.memoryUe k r p off .scrub false false) s = .next t ∧
        ((t.chip k).tile (tileIx r p)).ueCount = satAdd 16 x.ueCount 1 ∧
        bit ((t.chip k).region r).posFail q = true)) ∧
    (∀ off rw, off < tileTop → x.running = true →
      ∃ t, exec (.memoryUe k r p off .item rw false) s = .next t ∧
        ((t.chip k).tile (tileIx r p)).ueCount = satAdd 16 x.ueCount 1 ∧
        (rw = true → x.ended = false →
          ((t.chip k).tile (tileIx r p)).ended = true ∧ ((t.chip k).tile (tileIx r p)).errCode = ePoison)) ∧
    (∀ off rw, off < tileTop → (s.chip k).readsLine r p off = true →
      ∃ t, exec (.memoryUe k r p off .endpoint rw false) s = .next t ∧
        ((t.chip k).tile (tileIx r p)).ueCount = satAdd 16 x.ueCount 1) ∧
    (∀ off n, off < tileTop → x.running = true → ((s.chip k).posn r q).residueAt = some n → n ≤ 1000000 →
      ∃ t, exec (.memoryUe k r p off .item true true) s = .next t ∧ bit ((t.chip k).region r).posFail q = true ∧
        ((t.chip k).posn r q).mem = ((s.chip k).posn r q).mem) ∧
    (x.running = true → ((s.chip k).posn r ((s.chip k).positionOf r p)).residueAt = none →
      ∃ t, exec (.residueError k r p) s = .next t ∧
        ((t.chip k).tile (tileIx r p)).residueErr = satAdd 16 x.residueErr 1 ∧
        (x.ended = false → ((t.chip k).tile (tileIx r p)).errCode = eResidue) ∧
        (t.chip k).hif.log.head? = some ⟨codeOf .til 2, r.val, (s.chip k).time.epoch⟩) ∧
    ((s.chip k).clockRuns r = true → x.running = true → 100 ≤ x.hang →
      ∃ t, exec (.sequencerHang k r p) s = .next t ∧
        bit ((t.chip k).region r).posFail ((s.chip k).positionOf r p) = true) ∧
    (∀ n, n ≤ 8 → (s.chip k).bru.ready = true → (s.chip k).clockRuns r = true → (s.chip k).reloading r = false →
      (s.chip k).img.rollRegion ≠ r.val →
      ∃ t, exec (.scrubLine k r p n) s = .next t ∧
        ((t.chip k).tile (tileIx r p)).scrubLine = (x.scrubLine + 1) % 24576 ∧
        ((t.chip k).tile (tileIx r p)).ceCount = satAdd 32 x.ceCount n) ∧
    (1000 < x.ceSecond →
      ∃ t, exec (.ceRateFault k r p) s = .next t ∧
        (t.chip k).hif.log.head? = some ⟨codeOf .til 3, r.val, (s.chip k).time.epoch⟩)

/-- The event counters (R384 to R391, Table OPS-8). -/
def Obligations.EventCountersTakeEffect : Prop :=
  ∀ (k : ChipId) (s : State), (s.chip k).running = true →
    (∀ m, (s.chip k).headEvt 1 = some m →
      (s.chip k).roomForAll ((s.chip k).ringsWoken (evtCounter m)
        ((s.chip k).sumCounter (evtCounter m) (field m.arg 0 32))) = true →
      ((s.chip k).admitsCounter (evtCounter m) m.src = true →
        ∃ t, exec (.evtAdd k) s = .next t ∧ (t.chip k).seq.ctr.get 0 (evtCounter m) =
          min ((s.chip k).seq.ctr.get 0 (evtCounter m) + field m.arg 0 32) (2 ^ 64 - 1)) ∧
      ((s.chip k).admitsCounter (evtCounter m) m.src = false →
        ∃ t, exec (.evtAdd k) s = .next t ∧ (t.chip k).seq.ctr = (s.chip k).seq.ctr ∧
          (t.chip k).seq.denied = satAdd 32 (s.chip k).seq.denied 1 ∧
          (t.chip k).hif.log.head? = some ⟨codeOf .ops 3, noInstance, (s.chip k).time.epoch⟩)) ∧
    (∀ m, (s.chip k).headEvt 2 = some m → (s.chip k).admitsCounter (evtCounter m) m.src = true →
      (s.chip k).roomForAll ((s.chip k).ringsWoken (evtCounter m) (field m.arg 0 64)) = true →
      ∃ t, exec (.evtSet k) s = .next t ∧ (t.chip k).seq.ctr.get 0 (evtCounter m) = field m.arg 0 64) ∧
    (∀ m, (s.chip k).headEvt 3 = some m → (s.chip k).admitsCounter (evtCounter m) m.src = true →
      (s.chip k).seq.ctr.get 0 (evtCounter m) < field m.arg 0 64 → (s.chip k).seq.waiters.length < 4096 →
      ∃ t, exec (.evtWaitGe k) s = .next t ∧
        (t.chip k).seq.waiters.length = (s.chip k).seq.waiters.length + 1) ∧
    (∀ q, (s.chip k).headReq epSeq = some q → q.poison = false → q.op = 0x08 → ((s.chip k).ep epSeq).popEvt = [] →
      (s.chip k).admitsCounter (field q.addr 0 10) q.src = true → q.src ≠ epSeq →
      ∃ t, exec (.ctrRead k) s = .next t ∧ ((t.chip k).ep epSeq).out = ((s.chip k).ep epSeq).out ++
        [rspTo epSeq q 0 0 [] ((s.chip k).seq.ctr.get 0 (field q.addr 0 10) * 16)]) ∧
    (∀ (src : EpId) tag w,
      (s.chip k).seq.waiters.find? (fun w => w.src == src.val && w.tag == tag && decide (w.timeout < w.since)) = some w →
      (s.chip k).roomForAll w.ring.toList = true →
      ∃ t, exec (.waiterTimeout k src tag) s = .next t ∧ (t.chip k).seq.waiters = (s.chip k).seq.waiters.erase w) ∧
    (∀ (i : Fin 1024) (v : Word),
      (¬ (16 ≤ v.toNat % 32 ∧ v.toNat % 32 ≤ 29) →
        ∃ t, exec (.evtOwnerWrite k i v) s = .next t ∧ (t.chip k).seq.owner.get 31 i = v.toNat % 32) ∧
      (16 ≤ v.toNat % 32 → v.toNat % 32 ≤ 29 →
        ∃ t, exec (.evtOwnerWrite k i v) s = .next t ∧ (t.chip k).seq.owner = (s.chip k).seq.owner ∧
          (t.chip k).hif.badAccess = satAdd 32 (s.chip k).hif.badAccess 1 ∧
          (t.chip k).hif.log.head? = some ⟨codeOf .hif 1, noInstance, (s.chip k).time.epoch⟩))

/-- The session commands of a ring (Table SES-4, R444, R446, R450, R472, R484 to R486): what an accepted one does to the
descriptor it names. -/
def Obligations.SessionCommandsTakeEffect : Prop :=
  ∀ (k : ChipId) (g : RingId) (s : State) (bs : List Byte),
    let c := s.chip k
    let i := entrySession bs
    let x := c.session i
    (c.atCommand g 0x01 1 bs → entryField bs 13 1 = g.val → x.state = .free → openBad bs = false →
      ∃ t, exec (.openSession k g) s = .next t ∧
        (t.chip k).session i = { state := .open_, cls := entryField bs 12 1, partition := entryField bs 13 1,
                                 account := entryField bs 14 2, outBytes := entryField bs 16 2,
                                 stateLine0 := entryField bs 20 4, stateLine1 := entryField bs 24 4,
                                 checkLine := entryField bs 28 4, audioLine := entryField bs 32 4,
                                 outLine := entryField bs 36 4, user := entryField bs 40 4,
                                 deadline := x.deadline, endEpoch := x.endEpoch } ∧
        ((t.chip k).ring g).handed = (c.ring g).handed.tail ∧ (t.chip k).hasPosted g (c.commandEntry bs 0 0)) ∧
    (c.atCommand g 0x02 1 bs → entryField bs 12 1 ≠ 1 → c.wrongRing g i = false →
      (x.state = .open_ → ∃ t, exec (.arm k g) s = .next t ∧ ((t.chip k).session i).state = .armed ∧
        ((t.chip k).session i).audioLine = (if entryField bs 16 4 = 0 then x.audioLine else entryField bs 16 4)) ∧
      (x.state = .running → x.armPending = false → ∃ t, exec (.arm k g) s = .next t ∧
        ((t.chip k).session i).state = .running ∧ ((t.chip k).session i).armPending = true)) ∧
    (c.atCommand g 0x02 1 bs → entryField bs 12 1 = 1 → c.wrongRing g i = false → x.state = .open_ →
      (c.runaheadNow x.partition = true → ∃ t, exec (.armPredict k g) s = .next t ∧
        ((t.chip k).session i).state = .ahead ∧ ((t.chip k).session i).confirmed = false ∧
        ((t.chip k).session i).deadline = c.nextTick + c.classDeadline x.cls) ∧
      (c.runaheadNow x.partition = false → ∃ t, exec (.armPredict k g) s = .next t ∧
        ((t.chip k).session i).state = .armed)) ∧
    (c.atCommand g 0x03 1 bs → c.wrongRing g i = false → x.state = .ahead →
      (x.held = true → ∃ t, exec (.confirm k g) s = .next t ∧ ((t.chip k).session i).state = .open_ ∧
        ((t.chip k).session i).cur = (!x.cur) ∧ ((t.chip k).session i).frame = (x.frame + 1) % 2 ^ 32) ∧
      (x.held = false → x.inFlight = true → ∃ t, exec (.confirm k g) s = .next t ∧
        ((t.chip k).session i).state = .ahead ∧ ((t.chip k).session i).confirmed = true) ∧
      (x.held = false → x.inFlight = false → ∃ t, exec (.confirm k g) s = .next t ∧
        ((t.chip k).session i).state = .armed)) ∧
    (c.atCommand g 0x04 1 bs → c.wrongRing g i = false → x.state = .ahead →
      (x.inFlight = false → ∃ t, exec (.cancel k g) s = .next t ∧ ((t.chip k).session i).state = .open_ ∧
        ((t.chip k).session i).cur = x.cur) ∧
      (x.inFlight = true → ∃ t, exec (.cancel k g) s = .next t ∧ ((t.chip k).session i).state = .ahead ∧
        ((t.chip k).session i).cancelled = true)) ∧
    (c.atCommand g 0x05 3 bs → c.wrongRing g i = false → x.state ≠ .free →
      (x.inFlight = false → ∃ t, exec (.close k g) s = .next t ∧ ((t.chip k).session i).state = .free ∧
        (t.chip k).hasPosted g (c.commandEntry bs 0 0)) ∧
      (x.inFlight = true → ∃ t, exec (.close k g) s = .next t ∧ ((t.chip k).session i).state = x.state ∧
        ((t.chip k).session i).closePending = true ∧ (t.chip k).hasPosted g (c.commandEntry bs 0 0))) ∧
    (∀ j, c.running = true → (c.session j).state = .ahead → (c.session j).confirmed = false →
      (c.session j).cancelled = false → (c.session j).deadline ≤ c.time.epoch → 0 < (c.session j).reservedEntries →
      ∃ t, exec (.runaheadDeadline k j) s = .next t ∧ (t.chip k).logged .ses 8 (c.session j).partition ∧
        ((c.session j).inFlight = true → ((t.chip k).session j).cancelled = true) ∧
        ((c.session j).inFlight = false → ((t.chip k).session j).state = .open_))

/-- SESSION_READ, RESIDENCY_READ, NOP and the counter commands of a ring (R385, R444, R629, R630, Table HIF-6). -/
def Obligations.ReadsAndCountersTakeEffect : Prop :=
  ∀ (k : ChipId) (g : RingId) (s : State) (bs : List Byte),
    let c := s.chip k
    let n := cnIndex bs
    let v := cnValue bs
    (c.atCommand g 0x06 1 bs → c.wrongRing g (entrySession bs) = false →
      ∃ t, exec (.sessionRead k g) s = .next t ∧ (t.chip k).hasPosted g (c.commandEntry bs 0 0) ∧
        t.hostMem = Memory.write s.hostMem (entryField bs 16 8) (c.session (entrySession bs)).bytes) ∧
    (c.atCommand g 0x12 1 bs →
      ∃ t, exec (.residencyRead k g) s = .next t ∧ (t.chip k).hasPosted g (c.commandEntry bs 0 0) ∧
        t.hostMem = Memory.write s.hostMem (entryField bs 16 8) (c.residency (entryField bs 8 1))) ∧
    (c.atCommand g 0x50 1 bs →
      ∃ t, exec (.nop k g) s = .next t ∧ (t.chip k).hasPosted g (c.commandEntry bs 0 0 c.time.epoch) ∧
        ((t.chip k).ring g).handed = (c.ring g).handed.tail) ∧
    (c.atCommand g 0x40 1 bs →
      (entryField bs 10 1 = 0 → c.roomForAll (g.val :: c.ringsWoken n (c.sumCounter n v)) = true →
        ∃ t, exec (.counterAdd k g) s = .next t ∧
          (t.chip k).seq.ctr.get 0 n = min (c.seq.ctr.get 0 n + v) (2 ^ 64 - 1) ∧
          (t.chip k).hasPosted g (c.commandEntry bs 0 0 0 (min (c.seq.ctr.get 0 n + v) (2 ^ 64 - 1)))) ∧
      (entryField bs 10 1 = 1 → c.roomForAll (g.val :: c.ringsWoken n v) = true →
        ∃ t, exec (.counterSet k g) s = .next t ∧ (t.chip k).seq.ctr.get 0 n = v ∧
          (t.chip k).hasPosted g (c.commandEntry bs 0 0 0 v)) ∧
      (entryField bs 10 1 = 2 → c.seq.ctr.get 0 n < v → c.seq.waiters.length < 4096 →
        ∃ t, exec (.counterWaitGe k g) s = .next t ∧ (t.chip k).seq.waiters.length = c.seq.waiters.length + 1 ∧
          ((t.chip k).ring g).background = (c.ring g).background ++ (c.ring g).handed.head?.toList) ∧
      (entryField bs 10 1 = 3 →
        ∃ t, exec (.counterRead k g) s = .next t ∧ (t.chip k).seq.ctr = c.seq.ctr ∧
          (t.chip k).hasPosted g (c.commandEntry bs 0 0 0 (c.seq.ctr.get 0 n))))

/-- Model loads and tile reloads (R477, R478, R626, R627): a load that nothing refuses takes STATE to 0 and ends
RESIDENT; a refused one leaves STATE; a failed copy gives FAILED. -/
def Obligations.LoadsTakeEffect : Prop :=
  ∀ (k : ChipId) (g : RingId) (s : State) (bs : List Byte),
    let c := s.chip k
    let p := mlPart bs
    let r := entryField bs 8 1
    (c.atCommand g 0x10 1 bs →
      (c.loadRefusal bs = none → ∃ t, exec (.modelLoad k g) s = .next t ∧ ((t.chip k).part p).model = 0 ∧
        ((t.chip k).part p).capacity = c.capacityOf p ∧
        ((t.chip k).part p).required = mlLanes bs * mlBytes bs ∧
        ((t.chip k).ring g).background = (c.ring g).background ++ (c.ring g).handed.head?.toList) ∧
      (∀ tag nn, c.loadRefusal bs = some (tag, nn) → ∃ t, exec (.modelLoad k g) s = .next t ∧
        ((t.chip k).part p).model = (c.part p).model ∧ (t.chip k).logged tag nn p ∧
        (t.chip k).hasPosted g (c.commandEntry bs 1 (codeOf tag nn)))) ∧
    (c.running = true → c.roomForCompletions g 1 = true → c.background g 0x10 = some bs →
      (∃ t, exec (.modelLoadCopyDone k g true) s = .next t ∧ ((t.chip k).part p).model = 1 ∧
        ((t.chip k).part p).lanes = mlLanes bs ∧ (t.chip k).hasPosted g (c.commandEntry bs 0 0)) ∧
      (∃ t, exec (.modelLoadCopyDone k g false) s = .next t ∧ ((t.chip k).part p).model = (c.part p).model ∧
        (t.chip k).logged .hif 8 p ∧ (t.chip k).hasPosted g (c.commandEntry bs 2 (codeOf .hif 8)))) ∧
    (c.atCommand g 0x11 1 bs → (c.region r).awaitTiles.contains (entryField bs 9 1) = true →
      (∀ e ∈ mlCopies c.mem bs, e.ok = true ∧ e.region = r ∧ e.tile = entryField bs 9 1) →
      ∃ t, exec (.tileReload k g) s = .next t ∧ ((t.chip k).ring g).handed = (c.ring g).handed.tail ∧
        ((t.chip k).ring g).background = (c.ring g).background ++ (c.ring g).handed.head?.toList) ∧
    (c.atCommand g 0x11 1 bs → (c.region r).awaitTiles.contains (entryField bs 9 1) = false →
      ∃ t, exec (.tileReload k g) s = .next t ∧ (t.chip k).hasPosted g (c.commandEntry bs 1 (codeOf .hif 3)) ∧
        ((t.chip k).ring g).background = (c.ring g).background) ∧
    (c.running = true → c.roomForCompletions g 1 = true → c.background g 0x11 = some bs →
      (∃ t, exec (.tileReloadCopyDone k g true) s = .next t ∧ (t.chip k).hasPosted g (c.commandEntry bs 0 0) ∧
        ((t.chip k).region r).awaitTiles = removeAll (c.region r).awaitTiles (entryField bs 9 1)) ∧
      (∃ t, exec (.tileReloadCopyDone k g false) s = .next t ∧
        ((t.chip k).region r).awaitTiles = (c.region r).awaitTiles ∧
        (t.chip k).hasPosted g (c.commandEntry bs 2 (codeOf .hif 8))))

/-- Admission, stage starts and item-end reports (R459 to R465): the admitted session's GEN advances and its item is in
flight; a started stage has its tiles busy; a report leaves its tile idle. -/
def Obligations.ItemsTakeEffect : Prop :=
  ∀ (k : ChipId) (s : State), (s.chip k).running = true →
    let c := s.chip k
    (∀ (p : RingId) i lanes, c.nextToAdmit p = some i → c.admitLanes p i = some lanes → c.mayAdmit p i = true →
      ∃ t, exec (.admission k p) s = .next t ∧ ((t.chip k).session i).inFlight = true ∧
        ((t.chip k).session i).gen = ((c.session i).gen + 1) % 256 ∧
        ((c.session i).state = .ready → ((t.chip k).session i).state = .running) ∧
        ((t.chip k).item c.freeItem).map (fun it => (it.session, it.gen)) = some (i, (c.session i).gen) ∧
        (t.chip k).seq.reserved = (if (c.session i).readmit then c.seq.reserved else c.seq.reserved + 2)) ∧
    (∀ n it l, c.item n = some it → c.readyLane it = some l →
      ∃ t, exec (.stageStart k n) s = .next t ∧
        ((t.chip k).item n).map (fun y => ((y.lane l).started, (y.lane l).waitEnds)) =
          some (true, c.stageTiles it.partition l (it.lane l).stage) ∧
        ∀ x ∈ c.stageTiles it.partition l (it.lane l).stage, ((t.chip k).tile x).seqIdle = false) ∧
    (∀ m rest, (c.ep epSeq).popWr = m :: rest → m.poison = false → m.op = 0x11 →
      ∃ t, exec (.itemEndReport k) s = .next t ∧ ((t.chip k).ep epSeq).popWr = rest ∧
        ((t.chip k).tile (tileIx (field m.arg 16 7) (field m.arg 12 4))).seqIdle = true)

/-- The memory ports (R495 to R498, R501, R515): a group enters the store in pop order, a VOID withdraws its group, the
RSP of a READ leaves in completion order. One arbiter cycle (R502, R507, R508): the winner's burst is served and its wait
returns to zero; an unavailable cycle grants nothing, and a requester with a group waits one cycle more. -/
def Obligations.SessionMemoryTakesEffect : Prop :=
  (∀ (k : ChipId) (h : ChanId) (s : State), (s.chip k).running = true →
    let c := s.chip k
    let x := c.chan h
    (∀ m i, c.headWr (epMem h) = some m → x.popsWr = true → m.op = 0x01 → requesterOf m.src = some i →
      1 ≤ m.len → m.len ≤ 4 → portAddrOk h m.addr m.len = true →
      (intoTable i m.addr = false → m.poison = false → ∃ t, exec (.memoryWrite k h) s = .next t ∧
        ((t.chip k).chan h).store = x.store ++
          [{ id := x.nextId, req := i, src := m.src, tag := m.tag, write := true
             addr := m.addr, lines := m.len, data := m.data, en := m.en }] ∧
        ((t.chip k).ep (epMem h)).popWr = (c.ep (epMem h)).popWr.tail ∧ (t.chip k).mem = c.mem) ∧
      (intoTable i m.addr = true → ∃ t, exec (.memoryWrite k h) s = .next t ∧
        ((t.chip k).chan h).store = x.store ∧ (t.chip k).logged .arb 6 h)) ∧
    (∀ q i, c.headReq (epMem h) = some q → x.popsReq = true → q.op = 0x02 → requesterOf q.src = some i →
      q.len = 0 → 1 ≤ q.rlen → q.rlen ≤ 4 → portAddrOk h q.addr q.rlen = true → q.poison = false →
      ∃ t, exec (.memoryRead k h) s = .next t ∧
        ((t.chip k).chan h).store = x.store ++
          [{ id := x.nextId, req := i, src := q.src, tag := q.tag, write := false, addr := q.addr, lines := q.rlen }] ∧
        ((t.chip k).ep (epMem h)).popReq = (c.ep (epMem h)).popReq.tail) ∧
    (∀ m i g, c.headWr (epMem h) = some m → x.popsWr = true → m.op = 0x05 → m.len = 0 → m.poison = false →
      requesterOf m.src = some i → (x.store ++ x.returning).find? (fun g => g.voidable i (field m.arg 0 8)) = some g →
      ∃ t, exec (.void k h) s = .next t ∧ (∀ y ∈ ((t.chip k).chan h).store ++ ((t.chip k).chan h).returning, y.id ≠ g.id) ∧
        ((t.chip k).chan h).deadCount = satAdd 64 x.deadCount g.granted ∧ (t.chip k).mem = c.mem) ∧
    (∀ g rest, x.returning = g :: rest → g.moving = false →
      ∃ t, exec (.readGroupComplete k h) s = .next t ∧ ((t.chip k).chan h).returning = rest ∧
        ((t.chip k).ep (epMem h)).out = (c.ep (epMem h)).out ++
          [{ lane := .rsp, src := epMem h, dst := g.src, tag := g.tag, status := if g.poison then 2 else 0
             len := g.lines, data := g.data }]) ∧
    (x.trained = true → 86400000000 ≤ x.ecsEpochs → ∀ n, ∃ t, exec (.ecsRead k h n) s = .next t ∧ ((t.chip k).chan h).ecs = n % 2 ^ 32 ∧
      (x.ecs + 64 < n % 2 ^ 32 → (t.chip k).logged .arb 7 h)) ∧
    (100 < x.repeats → ∃ t, exec (.repeatRateFault k h) s = .next t ∧ ((t.chip k).chan h).repeats = 0 ∧ (t.chip k).logged .arb 4 h)) ∧
  (∀ (k : ChipId) (h : ChanId) (err : LinkErr) (s : State), (s.chip k).running = true →
    let c := s.chip k
    let x := c.chan h
    x.trained = true → x.slotNext = none →
    (∀ i f g, x.forceBusy = false → c.winner h = some (i, f) → c.cand h i = some g →
      ∃ t, exec (.arbiterCycle k h false err) s = .next t ∧ ((t.chip k).chan h).cycle = x.cycle + 1 ∧
        ((t.chip k).chan h).w.get 0 i = 0 ∧ ((t.chip k).chan h).bo.get 0 i = 0 ∧
        ((t.chip k).chan h).grants.get 0 i = satAdd 64 (x.grants.get 0 i) 1 ∧ ((t.chip k).chan h).last = some i ∧
        (g.write = true → (t.chip k).mem = Memory.writeEnabled c.mem (g.addr + 64 * g.granted)
          ((g.data.drop (64 * g.granted)).take 64) ((g.en.drop (64 * g.granted)).take 64)) ∧
        (g.write = false → (t.chip k).mem = c.mem)) ∧
    (x.mayMark = true → ∃ t, exec (.arbiterCycle k h true err) s = .next t ∧ ((t.chip k).chan h).cycle = x.cycle + 1 ∧
      ((t.chip k).chan h).unavail = satAdd 64 x.unavail 1 ∧ (t.chip k).mem = c.mem ∧
      ((t.chip k).chan h).grants = x.grants ∧
      ∀ i ∈ x.heads, ((t.chip k).chan h).w.get 0 i = min (x.w.get 0 i + 1) 65535))

/-- The evaluation of the cap (R529, R530, R534, R541, R574): the cap in force, the window, every region's issue step and
the latch of a sweep; temperatures, trips and the coolant stop (R546, R548, R549, R551, R552, R554, R563). -/
def Obligations.PowerTakesEffect : Prop :=
  (∀ (k : ChipId) (act : Activity) (s : State),
    let c := s.chip k
    c.running = true → c.stew.evaluating = true → c.stew.evalDue = true →
    ∃ t, exec (.powerEvaluation k act) s = .next t ∧ (t.chip k).stew.evalDue = false ∧
      (t.chip k).stew.effCap = min c.img.nowA.cap c.stew.grant ∧
      (t.chip k).stew.window = ((c.interval act).nj :: c.stew.window).take 100 ∧
      (∀ r : RegionId, ((t.chip k).region r).kNow = min ((t.chip k).region r).kCap ((t.chip k).region r).kTherm ∧
        ((t.chip k).region r).kCap ≤ (c.region r).kCap + 1) ∧
      (t.chip k).stew.staged.length = c.stew.staged.length + (if c.time.epoch % 100 = 0 then 1 else 0) ∧
      (c.img.nowA.stirMode = 0 → (t.chip k).stew.stirFloor = 0 ∧ (t.chip k).stew.stirFill = 0)) ∧
  (∀ (k : ChipId) (s : State), (s.chip k).running = true →
    let c := s.chip k
    (∀ (temps : List Int) pos cycles (r : RegionId),
      (∀ x : RegionId, temps.getD x (c.region x).temp < 440) →
      ∃ t, exec (.tempSample k temps pos cycles) s = .next t ∧
        ((t.chip k).region r).temp = max (-2048) (min 2047 (temps.getD r (c.region r).temp)) ∧
        ((t.chip k).region r).tripped = (c.region r).tripped) ∧
    (∀ (temps : List Int) pos cycles (r : RegionId),
      440 ≤ temps.getD r (c.region r).temp → temps.getD r (c.region r).temp ≤ 600 → (c.region r).sampled = true →
      (temps.getD r (c.region r).temp - (c.region r).temp).natAbs ≤ 80 → (c.region r).sensorBad = false →
      1 ≤ (c.region r).hotRun →
      ∃ t, exec (.tempSample k temps pos cycles) s = .next t ∧ ((t.chip k).region r).tripped = true) ∧
    (∀ r : RegionId, (c.region r).tripped = true → c.clockOwner r = r.val →
      (∀ x ∈ c.clockedBy r, 100000 ≤ (c.region x).coldRun) → c.stew.coolantStop = false → c.stew.resuming = false →
      (s.tray.slot k).coolantN = false → (c.gen r).state = .halted →
      ∃ t, exec (.tripRestart k r) s = .next t ∧ ((t.chip k).gen r).state = .cal ∧
        ∀ x ∈ c.clockedBy r, ((t.chip k).region x).tripped = false) ∧
    (∀ ns pos cycles, 1000 ≤ ns → (s.tray.slot k).coolantN = true → c.stew.coolantStop = false →
      ∃ t, exec (.coolantStop k ns pos cycles) s = .next t ∧ (t.chip k).stew.coolantStop = true ∧
        (t.chip k).stew.stirFill = 0 ∧
        (∀ r : RegionId, ((t.chip k).gen r).state ≠ .locked ∧ ((t.chip k).region r).status ≠ .serving ∧
          ((c.gen r).state = .locked → ((t.chip k).gen r).state = .halted)) ∧
        (c.bru.ready = false → (t.chip k).bru.phase = .failed)) ∧
    (c.stew.coolantStop = true → (s.tray.slot k).coolantN = false →
      ∃ t, exec (.coolantStopRelease k) s = .next t ∧ (t.chip k).stew.coolantStop = false ∧
        (t.chip k).stew.resuming = (if c.bru.ready then true else c.stew.resuming)) ∧
    (c.stew.resuming = true → 50 ≤ c.stew.resumeAge →
      ∃ t, exec (.coolantResumeStart k) s = .next t ∧ (t.chip k).stew.resuming = false ∧
        ∀ r : RegionId, (c.gen r).state = .halted →
          ((t.chip k).gen r).state = (if (c.gen r).halt = .trip then .halted else .cal)))

/-- The grants (R556 to R559): the division of the budget, a fall at X + 2,000 with its acknowledgement, a rise at
X + 3,000, and staleness after 30 ms. -/
def Obligations.GrantsTakeEffect : Prop :=
  ∀ (k : ChipId) (s : State),
    let c := s.chip k
    (∀ x, s.tray.role = some x → (s.tray.tmc x).time.epoch % 10000 = 0 → s.tray.exch ≠ (s.tray.tmc x).time.epoch →
      s.tray.poweredSlots ≠ [] →
      ∃ t, exec .grantExchange s = .next t ∧ t.tray.exch = (s.tray.tmc x).time.epoch ∧
        (∀ n : SlotId, (t.tray.slot n).grantPrev = s.tray.headerGrant n ∧
          ((s.tray.slot n).counted = false → (t.tray.slot n).grant = 0) ∧
          ((s.tray.slot n).counted = true → 150 ≤ (t.tray.slot n).grant))) ∧
    (c.running = true → ∀ g x, c.stew.grantNew = some (g, x) →
      (g < c.stew.grant → x + 2000 ≤ c.time.epoch →
        ∃ t, exec (.grantFallApply k) s = .next t ∧ (t.chip k).stew.grant = g ∧
          (t.chip k).stew.ack = x / 10000 % 256 ∧ (t.chip k).stew.grantNew = none) ∧
      (c.stew.grant ≤ g → x + 3000 ≤ c.time.epoch →
        ∃ t, exec (.grantRiseApply k) s = .next t ∧ (t.chip k).stew.grant = g ∧ (t.chip k).stew.ack = c.stew.ack ∧
          (t.chip k).stew.grantNew = none)) ∧
    (c.running = true → 30000 ≤ c.stew.grantAge → c.stew.grantStale = false →
      ∃ t, exec (.grantStale k) s = .next t ∧ (t.chip k).stew.grantStale = true ∧
        (t.chip k).stew.grant = c.stew.grant ∧ (t.chip k).logged .pwr 5 noInstance)

/-- The meter ring (R574, R577, R578, R581): a sweep starts with an empty frame, a bank node fills its slot, a chip node
its report, and a frame that does not come back makes the next sweeps half-chains. The frame is the 576 bytes of Table NRG-4: the
header first, the slot of chip node 2n + 2 at 96 + 64n. -/
def Obligations.MeterRingTakesEffect : Prop :=
  ∀ s : State, s.tray.role.isSome = true →
    let r := s.tray.ring
    (∀ x, s.tray.role = some x → (s.tray.tmc x).time.epoch % 100 = 0 → r.sweeping = false →
      (r.begun = true → r.boundary ≠ (s.tray.tmc x).time.epoch) →
      (r.begun = false → r.roleAt < (s.tray.tmc x).time.epoch) →
      (∀ n : SlotId, ¬ ((s.tray.slot n).seq = .on ∧ (s.tray.slot n).pendReq = some false)) →
      ∃ t, exec .sweepStart s = .next t ∧ t.tray.ring.sweeping = true ∧
        t.tray.ring.boundary = (s.tray.tmc x).time.epoch ∧ t.tray.ring.passed = [] ∧
        (r.half = false → t.tray.ring.half = false)) ∧
    (∀ (node : NodeId) meas mv ok, r.sweeping = true → r.half = false → r.doneF = false →
      node.val = r.passed.length + 1 → r.locked r.passed.length false = true →
      (node.val % 2 = 1 →
        ∃ t, exec (.meterFramePass node false meas mv ok) s = .next t ∧ t.tray.ring.passed = r.passed ++ [node.val] ∧
          t.tray.ring.bank.get [] node = meas.take 5 ++ [r.missed.get 0 node] ++ mv.take 4 ∧ t.tray.ring.missed.get 0 node = 0) ∧
      (node.val % 2 = 0 → (s.tray.slot ((node.val - 2) / 2)).bypass = false →
        (s.chip ((node.val - 2) / 2)).running = true →
        ∃ t, exec (.meterFramePass node false meas mv ok) s = .next t ∧ t.tray.ring.passed = r.passed ++ [node.val] ∧
          t.tray.ring.chipSlots.get [] ((node.val - 2) / 2) = (s.chip ((node.val - 2) / 2)).report r.boundary ∧
          (ok = true → (t.chip ((node.val - 2) / 2)).stew.grantAge = 0))) ∧
    (∀ (node : NodeId) rev meas mv ok, 0 < node.val →
      (r.passKind node rev = .out →
        ∃ t, exec (.meterFramePass node rev meas mv ok) s = .next t ∧
          t.tray.ring.passed = (if rev then r.passed else r.passed ++ [node.val]) ∧
          t.tray.ring.passedR = (if rev then r.passedR ++ [node.val] else r.passedR)) ∧
      (r.passKind node rev = .back →
        ∃ t, exec (.meterFramePass node rev meas mv ok) s = .next t ∧
          t.tray.ring.backF = (if rev then r.backF ++ [node.val] else r.backF) ∧
          t.tray.ring.backR = (if rev then r.backR else r.backR ++ [node.val]) ∧
          t.tray.ring.bank = r.bank ∧ t.tray.ring.chipSlots = r.chipSlots)) ∧
    (∀ rev ok r1 meas mv, r.return_ rev = some r1 →
      ∃ t, exec (.meterFramePass 0 rev meas mv ok) s = .next t ∧ t.tray.ring.sweeping = !(r1.doneF && r1.doneR)) ∧
    (∀ meas mv, r.sweeping = true → r.half = false → r.doneF = false → r.doneR = true → r.passed.length = 16 →
      r.locked 16 false = true →
      ∃ t, exec (.meterFramePass 0 false meas mv true) s = .next t ∧ t.tray.ring.sweeping = false ∧
        ∀ e ∈ r.chipSlots.cells, e.1 < 8 → (t.tray.slot e.1).reported = true) ∧
    (∀ x, s.tray.role = some x → r.sweeping = true → r.boundary + 20 ≤ (s.tray.tmc x).time.epoch →
      ∃ t, exec .sweepBroken s = .next t ∧ t.tray.ring.sweeping = false ∧ t.tray.ring.half = true ∧
        t.tray.faulty .nrg 1 noInstance = true) ∧
    (∀ rev, (r.frame rev).length = 576 ∧ (r.frame rev).take 32 = r.header rev ∧
      ∀ n : SlotId, ((r.frame rev).drop (96 + 64 * n.val)).take 32 = chipSlot (r.chipSlots.get [] n))

/-- The bookings, the gains and the energy reads (R583, R584, R587, R588, R628). -/
def Obligations.EnergyTakesEffect : Prop :=
  ∀ (k : ChipId) (g : RingId) (s : State),
    let c := s.chip k
    (c.running = true → ∀ x rest, c.stew.staged = x :: rest → 200 ≤ x.age → c.stew.captureBefore x.at_ = false →
      c.stew.gainDue = false →
      ∃ t, exec (.energyBooking k) s = .next t ∧ (t.chip k).stew.staged = rest ∧
        (t.chip k).stew.gainDue = decide (x.at_ % 10000 = 0) ∧
        ∀ i, i < 5 → ((t.chip k).railGroup i).missing =
          (if (x.got.getD i none).isNone then satAdd 32 (c.railGroup i).missing 1 else (c.railGroup i).missing)) ∧
    (c.running = true → c.stew.gainDue = true →
      ∃ t, exec (.gainUpdate k) s = .next t ∧ (t.chip k).stew.gainDue = false ∧
        ∀ i, i < 5 → ((t.chip k).railGroup i).ms = 0 ∧
          ((c.railGroup i).ms < 50 → ((t.chip k).railGroup i).gain = (c.railGroup i).gain ∧ (t.chip k).logged .nrg 3 i) ∧
          (50 ≤ (c.railGroup i).ms → 0 < (c.railGroup i).r → ((t.chip k).railGroup i).gain =
            min (max (((c.railGroup i).m * 1048576 + (c.railGroup i).r / 2) / (c.railGroup i).r) 786432) 1310720)) ∧
    (∀ bs, c.atCommand g 0x20 1 bs →
      (c.time.epoch < entryField bs 16 8 → entryField bs 16 8 % c.img.nowC.frameEpochs = 0 → 0 < entryField bs 16 8 →
        ∃ t, exec (.energyRead k g) s = .next t ∧ (t.chip k).stew.captures.length = c.stew.captures.length + 1 ∧
          ((t.chip k).ring g).background = (c.ring g).background ++ (c.ring g).handed.head?.toList) ∧
      (0 < entryField bs 16 8 → entryField bs 16 8 ≤ c.time.epoch →
        ∃ t, exec (.energyRead k g) s = .next t ∧ (t.chip k).stew.captures = c.stew.captures ∧
          (t.chip k).hasPosted g (c.commandEntry bs 1 (codeOf .hif 3)))) ∧
    (c.running = true → ∀ tk, c.stew.nextCapture = some tk → tk + 200 ≤ c.time.epoch → (∀ y ∈ c.stew.staged, tk < y.at_) →
      ∃ t, exec (.energyCapture k) s = .next t ∧
        (t.chip k).stew.captures = c.stew.captures.map (fun x => if x.taken = false ∧ x.tick = tk
          then { x with taken := true, rows := (List.range x.count).map (fun i => c.stew.counter (x.first + i)) } else x) ∧
        ∀ i, i < 65561 →
          ((∃ x ∈ c.stew.captures, x.taken = false ∧ x.tick = tk ∧ x.clear = true ∧ x.first ≤ i ∧ i < x.first + x.count) →
            (t.chip k).stew.counter i = (0, 0)) ∧
          ((∀ x ∈ c.stew.captures, x.taken = false → x.tick = tk → x.clear = true → i < x.first ∨ x.first + x.count ≤ i) →
            (t.chip k).stew.counter i = c.stew.counter i)) ∧
    (c.running = true → ∀ x bs, c.stew.captures.find? (fun x => x.taken && x.ring == g.val) = some x →
      c.background g 0x20 = some bs → c.roomForCompletions g 1 = true →
      ∃ t, exec (.energyReadResult k g) s = .next t ∧ (t.chip k).stew.captures = c.stew.captures.erase x ∧
        t.hostMem = Memory.write s.hostMem x.dest (x.rows.flatMap energyRecord) ∧
        (t.chip k).hasPosted g (c.commandEntry bs 0 0 x.tick))

/-- Register accesses (R6, R9, R140, R606, R702): a write stores what the register takes, a read returns it and clears an
RC register, an offset that is not assigned is counted in BAD_ACCESS with F-HIF-01. The window of BAR2 (R443, R607): one
WR for each piece outside the session table, and a READ for each piece of a read. -/
def Obligations.HostAccessesTakeEffect : Prop :=
  (∀ (k : ChipId) (off v : Nat) (s : State),
    let c := s.chip k
    (c.linkUp = true → off % 4 = 0 → ∀ p, regAt off = some p → p.size = 4 →
      (p.reg ∉ [.bruCtrl, .clkRefCtrl, .clkEpochLoadArm, .imgCtrl, .hifRingCtrl, .hifFlashCtrl] →
        ∃ t, exec (.bar0Write k off false v) s = .next t ∧ t.chip k = c.regStore p.reg p.inst (v % 2 ^ 32)) ∧
      (p.reg = .hifRingCtrl → p.inst < 16 → v % 2 = 1 →
        ∃ t, exec (.bar0Write k off false v) s = .next t ∧ ((t.chip k).ring p.inst).enable = true ∧
          ((t.chip k).ring p.inst).cmdHead = 0 ∧ ((t.chip k).ring p.inst).cplTail = 0) ∧
      (p.reg = .pwrUrgency →
        ∃ t, exec (.bar0Write k off false v) s = .next t ∧ (t.chip k).stew.urgency = v % 256) ∧
      (∃ t, exec (.readWithClear k off false) s = .next t ∧
        (t.chip k).hif.lastHost = some (.regRead (c.regValue p.reg p.inst % 2 ^ 32)) ∧
        (p.reg = .tilCe → ((t.chip k).tile p.inst).ceCount = 0) ∧
        (p.reg = .bruStatus → (t.chip k).bru = c.bru))) ∧
    (c.linkUp = true → regAt off = none →
      (∃ t, exec (.bar0Write k off false v) s = .next t ∧ (t.chip k).logged .hif 1 noInstance ∧
        (t.chip k).hif.badAccess = satAdd 32 c.hif.badAccess 1 ∧ (t.chip k).img = c.img) ∧
      (∃ t, exec (.readWithClear k off false) s = .next t ∧ (t.chip k).logged .hif 1 noInstance ∧
        (t.chip k).hif.lastHost = some (.regRead 0))) ∧
    (c.running = true → (s.tray.slot k).i2c = true → off % 4 = 0 → ∀ p, regAt off = some p → p.size = 4 →
      (p.reg = .pwrUrgency → ∃ t, exec (.mgmtI2cAccess k off (some v)) s = .next t ∧
        (t.chip k).stew.urgency = v % 256) ∧
      (∃ t, exec (.mgmtI2cAccess k off none) s = .next t ∧ (t.chip k).hif.i2cOffset = off ∧
        (p.reg = .bruStatus → (t.chip k).hif.i2cData = c.bru.statusWord % 2 ^ 32)))) ∧
  (∀ (k : ChipId) (off n : Nat) (data : List Byte) (en : List Bool) (s : State),
    let c := s.chip k
    let a := c.hif.winAddr off
    c.linkUp = true →
    (∃ t, exec (.bar2Write k off data en) s = .next t ∧
      ((t.chip k).ep epHif).out = (c.ep epHif).out ++
        ((tlpPieces a data.length).filter (fun p => decide (0x1000000 ≤ p.1))).map (bar2Wr a data en) ∧
      ((∃ p ∈ tlpPieces a data.length, p.1 < 0x1000000) → (t.chip k).logged .ses 9 noInstance)) ∧
    ((tlpPieces a n).length ≤ (c.freeTags epHif).length →
      ∃ t, exec (.bar2Read k off n) s = .next t ∧
        ((t.chip k).ep epHif).out.length = (c.ep epHif).out.length + (tlpPieces a n).length ∧
        (t.chip k).hif.reads.length = c.hif.reads.length + 1))

/-- Doorbells and rings (R611, R614 to R616, R624, R647). -/
def Obligations.RingsTakeEffect : Prop :=
  ∀ (k : ChipId) (g : RingId) (s : State),
    let c := s.chip k
    let r := c.ring g
    (c.linkUp = true → ∀ v : Word,
      (v.toNat < c.ringN → c.bru.ready = true → c.ringOn g = true →
        (∃ t, exec (.cmdTailWrite k g v) s = .next t ∧ ((t.chip k).ring g).cmdTail = v.toNat) ∧
        (∃ t, exec (.cplHeadWrite k g v) s = .next t ∧ ((t.chip k).ring g).cplHead = v.toNat)) ∧
      (c.ringN ≤ v.toNat →
        (∃ t, exec (.cmdTailWrite k g v) s = .next t ∧ (t.chip k).ring g = r ∧
          (t.chip k).hif.dbDrop = satAdd 32 c.hif.dbDrop 1 ∧ (t.chip k).logged .hif 2 noInstance) ∧
        (∃ t, exec (.cplHeadWrite k g v) s = .next t ∧ (t.chip k).ring g = r ∧
          (t.chip k).hif.dbDrop = satAdd 32 c.hif.dbDrop 1 ∧ (t.chip k).logged .hif 2 noInstance))) ∧
    (∀ entry, c.linkUp = true → c.bru.ready = true → c.ringOn g = true → 0 < c.posted g → r.handed = [] →
      c.holdsFor g = false → c.hif.flushes = [] →
      (entryValid entry = true → ∃ t, exec (.commandFetch k g entry) s = .next t ∧
        ((t.chip k).ring g).handed = [{ bytes := entry }] ∧
        ((t.chip k).ring g).cmdHead = (r.cmdHead + 1) % c.ringN) ∧
      (entryValid entry = false → c.roomForCompletions g 1 = true →
        ∃ t, exec (.commandFetch k g entry) s = .next t ∧ ((t.chip k).ring g).handed = [] ∧
          ((t.chip k).ring g).cmdHead = (r.cmdHead + 1) % c.ringN ∧
          (t.chip k).hasPosted g (c.commandEntry entry 1 (codeOf .hif 3)))) ∧
    (c.running = true →
      (∃ t, exec (.ringEnable k g) s = .next t ∧ ((t.chip k).ring g).enable = true ∧
        ((t.chip k).ring g).cmdHead = 0 ∧ ((t.chip k).ring g).cmdTail = 0 ∧ ((t.chip k).ring g).cplTail = 0 ∧
        ((t.chip k).ring g).cplHead = 0 ∧ ((t.chip k).ring g).phase = true) ∧
      (∃ t, exec (.ringDisable k g) s = .next t ∧ ((t.chip k).ring g).enable = false ∧
        ((t.chip k).ring g).handed = [] ∧ (t.chip k).compQueue g = [] ∧
        (t.chip k).seq.hold = (c.compQueue g).map (fun x => (g.val, x)) ++ c.seq.hold)) ∧
    (c.linkUp = true → c.ringOn g = true →
      ∃ t, exec (.ringAccessError k g) s = .next t ∧ ((t.chip k).ring g).enable = false ∧
        (t.chip k).logged .hif 4 g)

/-- Completions and interrupts (R615, R620, R633, R634): an entry at CPL_TAIL with its PHASE, the hold while the ring is
full, a vector's message or its pending bit. -/
def Obligations.CompletionsAndMessagesTakeEffect : Prop :=
  ∀ (k : ChipId) (g : RingId) (v : Fin 128) (s : State),
    let c := s.chip k
    let r := c.ring g
    (∀ x rest, c.compQueue g = x :: rest →
      (c.linkUp = true → c.ringOn g = true → c.ringFull g = false →
        ∃ t, exec (.completionWrite k g) s = .next t ∧ (t.chip k).compQueue g = rest ∧
          ((t.chip k).ring g).cplTail = (r.cplTail + 1) % c.ringN ∧
          ((t.chip k).ring g).phase = (if (r.cplTail + 1) % c.ringN = 0 then !r.phase else r.phase) ∧
          t.hostMem = Memory.write s.hostMem (r.cplBase + 64 * r.cplTail) (x.bytes r.phase r.cmdHead)) ∧
      (c.running = true → (c.ringOn g && !c.ringFull g) = false →
        ∃ t, exec (.completionWrite k g) s = .next t ∧ (t.chip k).compQueue g = [] ∧ t.hostMem = s.hostMem ∧
          (t.chip k).seq.hold = (x :: rest).map (fun y => (g.val, y)) ++ c.seq.hold)) ∧
    (∀ e, c.seq.hold.find? (fun e => e.1 == g.val) = some e → c.linkUp = true → c.ringOn g = true →
      c.ringFull g = false → c.compQueue g = [] →
      ∃ t, exec (.holdRelease k g) s = .next t ∧ (t.chip k).seq.hold = c.seq.hold.erase e ∧
        t.hostMem = Memory.write s.hostMem (r.cplBase + 64 * r.cplTail) (e.2.bytes r.phase r.cmdHead) ∧
        ((t.chip k).ring g).cplTail = (r.cplTail + 1) % c.ringN) ∧
    (c.linkUp = true → v.val < 21 → c.causeHolds v = true → c.coalesced v = true →
      ((c.hif.vectors.get {} v).mask = false → ∃ t, exec (.msixMessage k v) s = .next t ∧
        (t.chip k).hif.lastHost = some (.msix v (c.hif.vectors.get {} v).addr (c.hif.vectors.get {} v).data) ∧
        ((t.chip k).hif.vectors.get {} v).pend = false) ∧
      ((c.hif.vectors.get {} v).mask = true → ∃ t, exec (.msixMessage k v) s = .next t ∧
        (t.chip k).hif.lastHost = c.hif.lastHost ∧ ((t.chip k).hif.vectors.get {} v).pend = true))

/-- The flash commands (R631, R632) and the resets of the host interface (R603, R638). -/
def Obligations.FlashAndHifResetsTakeEffect : Prop :=
  ∀ (k : ChipId) (s : State), (s.chip k).running = true →
    let c := s.chip k
    let h := c.hif
    (¬ (c.img.useValid = true ∧ c.img.useSlot = h.flashSlot) → ¬ (c.img.staged = true ∧ c.img.stagedSlot = h.flashSlot) →
      h.flashCmd = 0 → ∃ t, exec (.flashProgram k) s = .next t ∧ (t.chip k).hif.flashCmd = 1 ∧
        (t.chip k).hif.flashState = 1 ∧ (t.chip k).flash = c.flash) ∧
    (c.img.useValid = true → c.img.useSlot = h.flashSlot →
      ∃ t, exec (.flashProgram k) s = .next t ∧ (t.chip k).hif.flashCmd = h.flashCmd ∧
        (t.chip k).hif.flashState = 3 ∧ (t.chip k).hif.flashReason = 1 ∧ (t.chip k).logged .hif 7 noInstance) ∧
    (h.flashCmd = 0 → ∃ t, exec (.flashRead k) s = .next t ∧ (t.chip k).hif.flashCmd = 2 ∧
      (t.chip k).hif.flashState = 1) ∧
    (h.flashCmd = 1 →
      (∃ t, exec (.flashDone k true) s = .next t ∧ (t.chip k).hif.flashCmd = 0 ∧ (t.chip k).hif.flashState = 2 ∧
        (t.chip k).flash = Memory.write c.flash (sectorBase h.opSlot h.opSector) (Memory.read h.flashBuf 0 65536)) ∧
      (∃ t, exec (.flashDone k false) s = .next t ∧ (t.chip k).hif.flashState = 3 ∧
        (t.chip k).hif.flashReason = 3 ∧ (t.chip k).logged .hif 7 noInstance)) ∧
    (h.flashCmd = 2 → ∀ ok, ∃ t, exec (.flashDone k ok) s = .next t ∧ (t.chip k).hif.flashState = 2 ∧
      (t.chip k).flash = c.flash) ∧
    (h.perst = false →
      (∀ d, ∃ t, exec (.d3hotTransition k d) s = .next t ∧ (t.chip k).hif.d3 = d) ∧
      (∀ cause, ∃ t, exec (.hifReset k cause) s = .next t ∧ (t.chip k).hif.winBase = 0 ∧ (t.chip k).hif.reads = [] ∧
        (t.chip k).hif.d3 = false ∧ (t.chip k).hif.perst = decide (cause = .perst) ∧
        ∀ g : RingId, ((t.chip k).ring g).enable = false ∧ ((t.chip k).ring g).cmdHead = 0 ∧
          ((t.chip k).ring g).cplTail = 0))

/-- Contributions between chips (R399, R636, R637). -/
def Obligations.ContributionsTakeEffect : Prop :=
  ∀ (k : ChipId) (s : State), (s.chip k).running = true →
    let c := s.chip k
    (∀ q rest, (c.ep epXdma).popReq = q :: rest → q.poison = false → q.op = 0x03 → 1 ≤ q.len → q.len ≤ 3 →
      q.src ≠ epXdma →
      (field q.arg 30 4 < 8 → c.hif.peers.get 0 (field q.arg 30 4) ≠ 0 → c.linkUp = true →
        ∃ t, exec (.xdmaCollect k) s = .next t ∧ ((t.chip k).ep epXdma).popReq = rest ∧
          (t.chip k).hif.p2pOut = c.hif.p2pOut ++
            [(field q.arg 30 4, c.hif.peers.get 0 (field q.arg 30 4) + 0x800, contribution q)] ∧
          ((t.chip k).ep epXdma).out = (c.ep epXdma).out ++ [rspTo epXdma q 0 0 []]) ∧
      (8 ≤ field q.arg 30 4 →
        ∃ t, exec (.xdmaCollect k) s = .next t ∧ (t.chip k).hif.p2pOut = c.hif.p2pOut ∧
          ((t.chip k).ep epXdma).out = (c.ep epXdma).out ++ [rspTo epXdma q 3 0 []] ∧
          (t.chip k).logged .hif 5 noInstance)) ∧
    (c.linkUp = true → ∀ data,
      (contributionOk data = true → c.hif.inbox.length < 64 →
        ∃ t, exec (.inboxWrite k data) s = .next t ∧ (t.chip k).hif.inbox.length = c.hif.inbox.length + 1) ∧
      (contributionOk data = false →
        ∃ t, exec (.inboxWrite k data) s = .next t ∧ (t.chip k).hif.inbox = c.hif.inbox ∧
          (t.chip k).hif.p2pDrop = satAdd 32 c.hif.p2pDrop 1 ∧ (t.chip k).logged .hif 5 noInstance)) ∧
    (∀ i x, c.hif.inbox[i]? = some x →
      (x.waiting = true → ∃ t, exec (.inboxResend k i) s = .next t ∧
        ((t.chip k).hif.inbox[i]?).map (fun y => y.waiting) = some false) ∧
      (1000 ≤ x.age → ∃ t, exec (.inboxExpire k i) s = .next t ∧
        (t.chip k).hif.inbox = c.hif.inbox.eraseIdx i ∧ (t.chip k).hif.p2pDrop = satAdd 32 c.hif.p2pDrop 1 ∧
        (t.chip k).logged .hif 5 noInstance))

/-- The status commands, ROLE_SWAP and the ways a command comes in (R656 to R658, R663, R664, R666, R667): a TMC answers
a status command itself, in a frame with the request's sequence number. -/
def Obligations.ManagementPortsTakeEffect : Prop :=
  ∀ (q : MgmtReq) (s : State),
    let u := s.tray
    let m := u.tmc q.tmc
    (u.canTake q = true →
      (∃ t, exec (.trayStatus q) s = .next t ∧
        (t.tray.tmc q.tmc).response = responseFrame 0x01 q.seq { data := u.statusData q.tmc }) ∧
      (∀ n, ∃ t, exec (.faultLog q n) s = .next t ∧
        (t.tray.tmc q.tmc).response = responseFrame 0x02 q.seq { data := u.faultData n }) ∧
      (∃ t, exec (.meterStatus q) s = .next t ∧
        (t.tray.tmc q.tmc).response = responseFrame 0x03 q.seq { data := u.meterData }) ∧
      (∃ t, exec (.lampStatus q) s = .next t ∧
        (t.tray.tmc q.tmc).response = responseFrame 0x04 q.seq { data := u.lampData } ∧
        (q.port = .switchPort → (t.tray.tmc q.tmc).mstatus = 2 ∧ (t.tray.tmc q.tmc).signals = m.signals + 1)) ∧
      (∀ g, (g < m.roleGen → ∃ t, exec (.roleSwap q g) s = .next t ∧ t.tray.swapWaiters = u.swapWaiters ∧
          (t.tray.tmc q.tmc).response = responseFrame 0x10 q.seq {}) ∧
        (m.roleGen < g → ∃ t, exec (.roleSwap q g) s = .next t ∧ t.tray.swapWaiters = u.swapWaiters ∧
          (t.tray.tmc q.tmc).response = responseFrame 0x10 q.seq (refusedBy 9)) ∧
        (g = m.roleGen → u.hand ≠ .moved →
          ∃ t, exec (.roleSwap q g) s = .next t ∧ t.tray.swapWaiters = u.swapWaiters ++ [q] ∧
          (u.hand = .none → (t.tray.tmc q.tmc).swapReq = some g)) ∧
        (g = m.roleGen → u.hand = .moved →
          ∃ t, exec (.roleSwap q g) s = .next t ∧ t.tray.heldCmds = u.heldCmds ++ [(q, .roleSwap g)]))) ∧
    (∀ frame samples reads, u.standby = true → m.present = true → m.checked = true →
      (m.mstatus ≠ 1 → parseFrame frame samples reads = .meterStatus →
        ∃ t, exec (.mgmtDoorbell q.tmc frame samples reads) s = .next t ∧ (t.tray.tmc q.tmc).request = frame ∧
          (t.tray.tmc q.tmc).mstatus = 2 ∧ (t.tray.tmc q.tmc).response =
            responseFrame 0x03 (leNat ((frame.drop 4).take 4)) { data := u.meterData }) ∧
      (m.mstatus = 1 →
        ∃ t, exec (.mgmtDoorbell q.tmc frame samples reads) s = .next t ∧ (t.tray.tmc q.tmc).mstatus = 1 ∧
          (t.tray.tmc q.tmc).response = m.response)) ∧
    (∀ chain, u.standby = true → m.present = true → m.checked = true →
      ∃ t, exec (.mgmtConnect q.tmc chain) s = .next t ∧
        (t.tray.tmc q.tmc).conns = (if (match chain with
            | some n => m.cas.cells.any (fun e => Config.chainsTo n e.2)
            | none => false) = true ∧ m.conns < 4 then m.conns + 1 else m.conns) ∧
        (chain = none → t.tray.faulty .svc 9 q.tmc.ix = true)) ∧
    (∀ f rest, m.forwarded = f :: rest → 50000 ≤ f.age → m.present = true →
      ∃ t, exec (.forwardTimeout q.tmc) s = .next t ∧ (t.tray.tmc q.tmc).forwarded = rest ∧
        t.tray.faulty .svc 1 q.tmc.ix = true ∧
        (t.tray.tmc f.req.tmc).response = responseFrame f.cmd.opcode f.req.seq { status := 2, code := codeOf .svc 1 })

/-- The commands that the active TMC runs, on slots, units and lamps (R230, R235, R238, R667, R669, R670, R674 to R676,
R684). -/
def Obligations.SlotAndUnitCommandsTakeEffect : Prop :=
  ∀ (q : MgmtReq) (x : Side) (s : State),
    let u := s.tray
    u.canTake q = true → u.role = some x → u.holding = false → (u.tmc x).present = true →
    (∀ typ i, UnitId.known typ i = true →
      (u.prepareRefused typ i = false → ∃ t, exec (.unitPrepare q typ i) s = .next t ∧
        t.tray.prepared = some (typ, i) ∧ t.tray.prepReady = false ∧
        (t.tray.tmc q.tmc).response = responseFrame 0x11 q.seq {}) ∧
      (u.prepareRefused typ i = true → ∃ t, exec (.unitPrepare q typ i) s = .next t ∧ t.tray.prepared = u.prepared ∧
        t.tray.faulty .svc 6 i = true ∧ (t.tray.tmc q.tmc).response = responseFrame 0x11 q.seq (refusedBy 6))) ∧
    (∀ typ i, u.prepared = some (typ, i) → ∃ t, exec (.unitResume q typ i) s = .next t ∧ t.tray.prepared = none ∧
      (t.tray.tmc q.tmc).response = responseFrame 0x12 q.seq {}) ∧
    (∀ n : SlotId,
      (u.prepared ≠ some (1, n.val) → ∃ t, exec (.slotPower q n 1) s = .next t ∧ (t.tray.slot n).wantOn = true ∧
        (t.tray.tmc q.tmc).response = responseFrame 0x20 q.seq {}) ∧
      (∃ t, exec (.slotPower q n 0) s = .next t ∧ (t.tray.slot n).wantOn = false ∧
        (t.tray.slot n).offHeld = true) ∧
      (∃ t, exec (.slotReset q n) s = .next t ∧ (t.tray.slot n).resetHeld = true ∧
        (t.tray.tmc q.tmc).response = responseFrame 0x21 q.seq {}) ∧
      (s.readable n = true → (s.chip n).bru.stuck = false →
        ∃ t, exec (.chipRestart q n) s = .next t ∧ t.chip n = (s.chip n).restart 2 ∧
          (t.chip n).bru.phase = .otp ∧ (t.chip n).bru.cause = 2) ∧
      (s.readable n = false → ∃ t, exec (.chipRestart q n) s = .next t ∧ t.chip n = s.chip n ∧
        (t.tray.tmc q.tmc).response = responseFrame 0x22 q.seq { status := 2 })) ∧
    (∀ on, on ≤ 1 → ∃ t, exec (.locate q on) s = .next t ∧ t.tray.locate = decide (on = 1)) ∧
    (∀ samples, u.lampBoard = true → ∃ t, exec (.lampTest q samples) s = .next t ∧
      ∀ e : LampId, (t.tray.lamps.get {} e).last = diagnosisOf (samples.getD e ⟨0, 0⟩) e) ∧
    (∀ pct, 1 ≤ pct → pct ≤ 100 → ∃ t, exec (.lampLevel q pct) s = .next t ∧ t.tray.lampLevel = pct)

/-- The commands that the active TMC runs on the tray image, the switch, the hall time and the authorities (R34, R36,
R275, R276, R664, R667, R668, R680). A TRAY_IMAGE_ADOPT takes as many of its read-backs as come to pass at once and goes on with the
others. -/
def Obligations.TrayWideCommandsTakeEffect : Prop :=
  (∀ (q : MgmtReq) (x : Side) (s : State),
    let u := s.tray
    u.canTake q = true → u.role = some x → u.holding = false → (u.tmc x).present = true →
      (∀ off data, data.length ≤ 3968 → off + data.length ≤ 2 ^ 20 →
        ∃ t, exec (.trayImageWrite q off data) s = .next t ∧ t.tray.staging = Memory.write u.staging off data ∧
          t.tray.image = u.image) ∧
      (∀ len, len ≤ 2 ^ 20 → (u.nvmA.writable || u.nvmB.writable) = true →
        (u.haveImage = true → u.image.generation < (trayImageValues (u.stagedImage len)).generation) →
        (∀ ok, ∃ t, exec (.trayImageAdopt q len [true, ok]) s = .next t ∧
          t.tray.image = (if trayImageOk (u.stagedImage len) (u.tmc x).keys (u.tmc x).revoked = true
            then trayImageValues (u.stagedImage len) else u.image) ∧
          t.tray.haveImage = (trayImageOk (u.stagedImage len) (u.tmc x).keys (u.tmc x).revoked || u.haveImage) ∧
          t.tray.nvmWrite = none) ∧
        (∃ t, exec (.trayImageAdopt q len []) s = .next t ∧ t.tray.image = u.image ∧
          t.tray.nvmWrite.map (fun w => (w.image, w.req, w.second)) =
            (if trayImageOk (u.stagedImage len) (u.tmc x).keys (u.tmc x).revoked = true
              then some (u.stagedImage len, q, false) else none)) ∧
        (∃ t, exec (.trayImageAdopt q len [false]) s = .next t ∧ t.tray.image = u.image ∧ t.tray.haveImage = u.haveImage ∧
          t.tray.nvmWrite = none ∧ (t.tray.tmc q.tmc).response =
            responseFrame 0x31 q.seq
              (if trayImageOk (u.stagedImage len) (u.tmc x).keys (u.tmc x).revoked = true
                then { status := 2, code := codeOf .try_ 15 } else refusedBy 9))) ∧
      (∀ port, port ≤ 1 → u.modeInForce = false →
        ∃ t, exec (.switchUpstream q port) s = .next t ∧ t.tray.activeUp = port ∧
          ∀ n : SlotId, (t.tray.slot n).upstream = port) ∧
      (∀ ep, (u.tmc x).time.valid = false → ep % 1000000 = 0 → ep < 2 ^ 56 →
        ∃ t, exec (.timeLoad q ep) s = .next t ∧ (t.tray.tmc x).time.load = ep ∧ (t.tray.tmc x).time.arm = true) ∧
      (∀ (i : Fin 4) cert, q.port = .switchPort → cert.length ≤ 3000 →
        (∃ t, exec (.caInstall q i cert) s = .next t ∧ (t.tray.tmc x).cas.get [] i = cert) ∧
        (∃ t, exec (.caRemove q i) s = .next t ∧ Bank.look (t.tray.tmc x).cas.cells i = none))) ∧
  (∀ (x : Side) (s : State) (w : NvmWrite) len ok, s.tray.nvmWrite = some w → s.tray.role = some x → (s.tray.tmc x).present = true →
    s.tray.heldCmds = [] → w.second = true →
    ∃ t, exec (.trayImageAdopt w.req len [ok]) s = .next t ∧ t.tray.nvmWrite = none ∧ t.tray.haveImage = true ∧
      t.tray.image = trayImageValues w.image)

/-- The role, its heartbeats and the handover (R649 to R661, Table SVC-2). -/
def Obligations.RolesTakeEffect : Prop :=
  ∀ (x : Side) (s : State), s.tray.standby = true →
    let u := s.tray
    let m := u.tmc x
    (u.everHeld = false → m.present = true → m.ready = true → (x = .b → u.tmcA.ready = false) →
      ∃ t, exec (.roleGrant x) s = .next t ∧ t.tray.role = some x ∧
        (t.tray.tmc x).roleGen = (m.roleGen + 1) % 2 ^ 32 ∧ (t.tray.tmc x.other).ready = false) ∧
    (u.role = some x.other → u.everHeld = true → 1000 ≤ u.aliveAge → m.present = true → m.ready = true →
      ∀ ok, ∃ t, exec (.roleFailover ok) s = .next t ∧ t.tray.role = some x ∧ t.tray.nvmWrite = none ∧
        (t.tray.tmc x).roleGen = (m.roleGen + 1) % 2 ^ 32 ∧ t.tray.hand = .none ∧ t.tray.heldCmds = [] ∧
        t.tray.faulty .svc 2 x.ix = true) ∧
    (u.role = some x → m.present = true →
      ∃ t, exec .aliveToggle s = .next t ∧ t.tray.alive = (!u.alive) ∧ t.tray.aliveAge = 0) ∧
    (m.beating = true → m.time.epoch % 10000 = 5000 → m.sentAt ≠ some m.time.epoch →
      ∃ t, exec (.heartbeatSend x) s = .next t ∧ (t.tray.tmc x).sentAt = some m.time.epoch ∧
        ((u.tmc x.other).present = true → (t.tray.tmc x.other).rx = some (u.mirrorOf x)) ∧
        (m.swapReq = some m.roleGen → u.hand = .none → t.tray.hand = .scheduled ∧
          t.tray.handAt = m.time.epoch + 10000)) ∧
    (∀ h, m.rx = some h → m.present = true → m.checked = true →
      ∃ t, exec (.heartbeatReceive x) s = .next t ∧ (t.tray.tmc x).rx = none ∧ (t.tray.tmc x).missed = 0 ∧
        (h.active = true → u.role ≠ some x → (t.tray.tmc x).mirror = some h ∧ (t.tray.tmc x).roleGen = h.roleGen)) ∧
    (m.present = true → m.checked = true → 3 ≤ m.missed → m.rx = none → u.faulty .svc 1 x.ix = false →
      ∃ t, exec (.heartbeatLost x) s = .next t ∧ t.tray.faulty .svc 1 x.ix = true) ∧
    (u.role = some x →
      (u.hand = .scheduled → u.handAt ≤ m.time.epoch + 100 → u.nvmWrite.isSome = true → u.handDefer = false →
        ∃ t, exec .handover s = .next t ∧ t.tray.hand = .scheduled ∧ t.tray.handDefer = true ∧ t.tray.role = some x) ∧
      (u.hand = .scheduled → u.handAt ≤ m.time.epoch + 100 → u.nvmWrite = none →
        ((u.tmc x.other).present = true → (u.tmc x.other).ready = true →
          ∃ t, exec .handover s = .next t ∧ t.tray.hand = .checked) ∧
        ((u.tmc x.other).ready = false →
          ∃ t, exec .handover s = .next t ∧ t.tray.hand = .none ∧ t.tray.role = some x ∧
            t.tray.faulty .svc 3 x.ix = true)) ∧
      (u.hand = .checked → u.handAt ≤ m.time.epoch + 80 → u.ring.sweeping = false →
        ∃ t, exec .handover s = .next t ∧ t.tray.hand = .sent ∧ t.tray.handMsg = some (u.mirrorOf x)) ∧
      (u.hand = .acked → u.handAt ≤ m.time.epoch + 50 →
        ∃ t, exec .handover s = .next t ∧ t.tray.hand = .moved ∧ t.tray.role = some x.other) ∧
      (u.hand = .moved → u.handAt ≤ m.time.epoch → u.heldCmds = [] →
        ∃ t, exec .handover s = .next t ∧ t.tray.hand = .none ∧ t.tray.swapWaiters = [] ∧ t.tray.role = some x) ∧
      (∀ h, u.hand = .sent → u.handMsg = some h → (u.tmc x.other).present = true → (u.tmc x.other).checked = true →
        (u.tmc x.other).time.epoch + 55 ≤ u.handAt →
        ∃ t, exec .handoverMessage s = .next t ∧ t.tray.hand = .acked ∧ (t.tray.tmc x.other).mirror = some h))

/-- The tray's units and lamps (R669 to R673, R675 to R678, R703). -/
def Obligations.UnitsAndLampsTakeEffect : Prop :=
  ∀ s : State,
    let u := s.tray
    (∀ typ i, u.prepared = some (typ, i) → u.role.isSome = true →
      (u.prepReady = false → u.readyToRemove typ i = true →
        ∃ t, exec .unitReadyToRemove s = .next t ∧ t.tray.prepReady = true ∧ t.tray.prepared = some (typ, i)) ∧
      (typ ≠ 1 → u.prepReady = true → 600000000 ≤ u.prepAge → u.unitPresent typ i = true →
        ∃ t, exec .prepareTimeout s = .next t ∧ t.tray.prepared = none ∧ t.tray.faulty .svc 10 i = true)) ∧
    (∀ typ i, u.standby = true → u.unitPresent typ i = false →
      ∃ t, exec (.unitInsert typ i) s = .next t ∧ { typ := typ, idx := i, age := 0 } ∈ t.tray.joining ∧
        (typ = 6 → (t.tray.flow (Side.ofIx i)).present = true ∧ (t.tray.flow (Side.ofIx i)).voting = false)) ∧
    (∀ typ i j, u.joining.find? (fun y => y.typ == typ && y.idx == i) = some j → s.joins typ i j.age = true →
      ((typ ≠ 2 ∨ (u.slot (i / 14)).phases.getD (i % 14) true = true) →
        ∃ t, exec (.unitJoin typ i) s = .next t ∧ (∀ y ∈ t.tray.joining, ¬ (y.typ = typ ∧ y.idx = i)) ∧
          (typ = 2 → t.tray.faulty .try_ 12 i = false) ∧
          (typ = 3 → (t.tray.tmc (Side.ofIx i)).checked = true ∧ (t.tray.tmc (Side.ofIx i)).ready = !u.everHeld) ∧
          (typ = 6 → (t.tray.flow (Side.ofIx i)).voting = true)) ∧
      (typ = 2 → (u.slot (i / 14)).phases.getD (i % 14) true = false →
        ∃ t, exec (.unitJoin typ i) s = .next t ∧
          (t.tray.slot (i / 14)).phases = (u.slot (i / 14)).phases.set (i % 14) true ∧
          t.tray.faulty .try_ 12 i = u.faulty .try_ 12 i)) ∧
    (∀ typ i, u.standby = true → 3 ≤ typ → typ ≤ 6 → u.unitPresent typ i = true →
      ∃ t, exec (.unitRemoved typ i) s = .next t ∧ t.tray.unitPresent typ i = false ∧
        (typ = 3 → u.role = some (Side.ofIx i) → t.tray.role = none)) ∧
    (u.role.isSome = true →
      ∃ t, exec .lampPoll s = .next t ∧ ∀ n : SlotId,
        (s.readable n = true → (t.tray.slot n).lastPhase = (s.chip n).bru.phase.code ∧
          (t.tray.slot n).lastReady = (s.chip n).bru.ready) ∧
        (s.readable n = false → (t.tray.slot n).lastPhase = (u.slot n).lastPhase)) ∧
    (∀ (e : LampId) sense us, u.shines e = true →
      (40 ≤ us → us ≤ u.lampLevel * 20 → ∃ t, exec (.lampDiagnosis e sense us) s = .next t ∧
        (t.tray.lamps.get {} e).last = diagnosisOf sense e ∧
        (t.tray.lamps.get {} e).status = (if (u.lamps.get {} e).prev = some (diagnosisOf sense e)
          then diagnosisOf sense e else (u.lamps.get {} e).status)) ∧
      (u.lampLevel < 2 → ∀ ms, ms % 2000 = 100 * e.val → ∃ t, exec (.proofPulse e sense ms) s = .next t ∧
        (t.tray.lamps.get {} e).last = diagnosisOf sense e)) ∧
    (∀ n : SlotId, u.role.isSome = true → s.readable n = true → (s.chip n).alert = true → (u.slot n).alert = false →
      ∃ t, exec (.modAlert n) s = .next t ∧ (t.tray.slot n).alert = true ∧
        (t.tray.slot n).lastPower = (s.chip n).powerStatus)

/-- A step takes the command at the front of the queue and runs it on the state with the queue's rest. On an empty queue
the block idles (DESIGN CHOICE, log entry 1). -/
def Obligations.StepRunsTheFrontCommand : Prop :=
  (∀ (i : Instr) (s : State), step { s with pending := i :: s.pending } = exec i s) ∧
  (∀ s : State, s.pending = [] → step s = .next s)

/-- Every command answers a next state from every state, and none touches the queue of waiting commands. -/
def Obligations.EveryCommandCompletes : Prop :=
  ∀ (i : Instr) (s : State), ∃ t, exec i s = .next t ∧ t.pending = s.pending

/-- Every step keeps every memory of the machine in its canonical form. -/
def Obligations.StepKeepsMemoriesCanonical : Prop :=
  ∀ s t : State, MemoriesCanonical s → step s = .next t → MemoriesCanonical t

/-- Every step keeps the logs, the request stores, the warming shelves and the inboxes within their sizes. -/
def Obligations.StepKeepsStoresBounded : Prop :=
  ∀ s t : State, StoresBounded s → step s = .next t → StoresBounded t

/-- At reset the memories are canonical, the stores within their sizes, no command waits, no chip runs and no TMC holds
the role. -/
def Obligations.ResetMeetsTheInvariants : Prop :=
  MemoriesCanonical State.reset ∧ StoresBounded State.reset ∧ State.reset.pending = [] ∧
  State.reset.tray.role = none ∧ State.reset.tray.standby = false ∧
  ∀ n : ChipId, (State.reset.chip n).running = false ∧ (State.reset.chip n).bru.phase = .held

/-- A command changes no chip but the one it names (or, where it names none, those it acts on), the tray only where it
acts on the tray, and host memory only where it writes there. -/
def Obligations.CommandsReachOnlyTheirUnit : Prop :=
  ∀ (i : Instr) (s t : State), exec i s = .next t →
    (∀ n : ChipId, mayChange i n = false → t.chip n = s.chip n) ∧
    (mayChangeTray i = false → t.tray = s.tray) ∧ (writesHost i = false → t.hostMem = s.hostMem)

/-- The frame of the commands of a tile's descriptors: the pieces of the chip that each may change, and no other. -/
def Obligations.DescriptorCommandsFrame : Prop :=
  ∀ (i : Instr) (s t : State), ofDescriptor i = true → exec i s = .next t →
    ∀ (n : ChipId) (x : Piece), x ∉ piecesOf i → (s.chip n).sameAt x (t.chip n)

/-- The frame of every other command: the pieces of a chip that each may change, and no other. -/
def Obligations.ChipCommandsFrame : Prop :=
  ∀ (i : Instr) (s t : State), ofDescriptor i = false → exec i s = .next t →
    ∀ (n : ChipId) (x : Piece), x ∉ piecesOf i → (s.chip n).sameAt x (t.chip n)

/-- The frame of the vector operations that write VD: every lane of every other vector register, the matrix engines,
the call stack and every other tile keep their values. -/
def Obligations.VectorOperationsFrame : Prop :=
  ∀ (k : ChipId) (r : RegionId) (p : TileId) (s t : State), ∀ i ∈ vectorOps k r p, exec i s = .next t →
    let x := (s.chip k).tile (tileIx r p)
    let y := (t.chip k).tile (tileIx r p)
    (∀ v n, v ≠ vd ((s.chip k).desc r p) → n < 64 → y.lane v n = x.lane v n) ∧
    y.engines = x.engines ∧ y.calls = x.calls ∧
    (∀ q, q ≠ tileIx r p → (t.chip k).tile q = (s.chip k).tile q)

/-- A doorbell write is dropped, counted and reported in the three cases of R611, and stored otherwise. -/
def Obligations.DoorbellDropped : Prop :=
  ∀ (k : ChipId) (g : RingId) (v : Word) (s : State),
    let c := s.chip k
    c.linkUp = true →
    (c.img.nowC.ringEntries ≤ v.toNat ∨ c.bru.ready = false ∨ (c.ring g).enable = false →
      (∃ t, exec (.cmdTailWrite k g v) s = .next t ∧ (t.chip k).ring g = c.ring g ∧
        (t.chip k).hif.dbDrop = satAdd 32 c.hif.dbDrop 1 ∧ (t.chip k).logged .hif 2 noInstance) ∧
      (∃ t, exec (.cplHeadWrite k g v) s = .next t ∧ (t.chip k).ring g = c.ring g ∧
        (t.chip k).hif.dbDrop = satAdd 32 c.hif.dbDrop 1 ∧ (t.chip k).logged .hif 2 noInstance)) ∧
    (v.toNat < c.img.nowC.ringEntries → c.bru.ready = true → (c.ring g).enable = true →
      (∃ t, exec (.cmdTailWrite k g v) s = .next t ∧ ((t.chip k).ring g).cmdTail = v.toNat ∧
        (t.chip k).hif.dbDrop = c.hif.dbDrop) ∧
      (∃ t, exec (.cplHeadWrite k g v) s = .next t ∧ ((t.chip k).ring g).cplHead = v.toNat ∧
        (t.chip k).hif.dbDrop = c.hif.dbDrop))

/-- At every role change, whichever command brings it, the TMC that takes the role increments its 32-bit ROLE_GEN. -/
def Obligations.RoleChangeIncrementsRoleGen : Prop :=
  ∀ (i : Instr) (s t : State) (x : Side), exec i s = .next t → s.tray.role ≠ some x → t.tray.role = some x →
    (t.tray.tmc x).roleGen = ((s.tray.tmc x).roleGen + 1) % 2 ^ 32

/-- SEQ holds at most 4,096 parked waiters, whatever the command; a WAIT_GE that finds the pool full is answered at once
with POOL_FULL. -/
def Obligations.WaiterPoolIsBounded : Prop :=
  (∀ (i : Instr) (s t : State) (n : ChipId), exec i s = .next t → (s.chip n).seq.waiters.length ≤ 4096 →
    (t.chip n).seq.waiters.length ≤ 4096) ∧
  (∀ (k : ChipId) (m : Msg) (s : State),
    let c := s.chip k
    c.running = true → c.headEvt 3 = some m → c.admitsCounter (evtCounter m) m.src = true → m.src ≠ epSeq →
    c.seq.ctr.get 0 (evtCounter m) < field m.arg 0 64 → 4096 ≤ c.seq.waiters.length →
    ∃ t, exec (.evtWaitGe k) s = .next t ∧ (t.chip k).seq.waiters = c.seq.waiters ∧
      (t.chip k).seq.poolFull = satAdd 32 c.seq.poolFull 1 ∧
      ((t.chip k).ep epSeq).out = (c.ep epSeq).out ++
        [{ lane := .rsp, src := epSeq, dst := m.src, tag := field m.arg 88 8
           arg := 2 + c.seq.ctr.get 0 (evtCounter m) * 2 ^ 4 }]) ∧
  (∀ (k : ChipId) (g : RingId) (bs : List Byte) (s : State),
    let c := s.chip k
    c.atCommand g 0x40 1 bs → entryField bs 10 1 = 2 → c.seq.ctr.get 0 (cnIndex bs) < cnValue bs →
    4096 ≤ c.seq.waiters.length →
    ∃ t, exec (.counterWaitGe k g) s = .next t ∧ (t.chip k).seq.waiters = c.seq.waiters ∧
      (t.chip k).hasPosted g (c.commandEntry bs 0 0 2 (c.seq.ctr.get 0 (cnIndex bs))))
end

