-- ==== Sys2Proof/Laws/Bank.lean ====
section
/-! SUPPORT. What reading a collection gives after each of its operations. -/

namespace Sys2Proof

theorem Bank.look_put_self {α : Type} (l : List (Nat × α)) (k : Nat) (v : α) :
    Bank.look (Bank.put l k v) k = some v := by
  induction l with
  | nil => simp [Bank.put, Bank.look]
  | cons e t ih =>
    obtain ⟨j, w⟩ := e
    unfold Bank.put
    split
    · simp [Bank.look]
    · split
      · simp [Bank.look]
      · simp [Bank.look, *]

theorem Bank.look_put_other {α : Type} (l : List (Nat × α)) (k j : Nat) (v : α) (h : j ≠ k) :
    Bank.look (Bank.put l k v) j = Bank.look l j := by
  induction l with
  | nil => simp [Bank.put, Bank.look, Ne.symm h]
  | cons e t ih =>
    obtain ⟨i, w⟩ := e
    unfold Bank.put
    split
    · rename_i hi; subst hi; simp [Bank.look, Ne.symm h]
    · split
      · simp [Bank.look, Ne.symm h]
      · simp [Bank.look, ih]

@[simp] theorem Bank.get_set_self {α : Type} (b : Bank α) (d v : α) (k : Nat) :
    (b.set k v).get d k = v := by
  simp [Bank.get, Bank.set, Bank.look_put_self]

theorem Bank.get_set_other {α : Type} (b : Bank α) (d v : α) (k j : Nat) (h : j ≠ k) :
    (b.set k v).get d j = b.get d j := by
  simp [Bank.get, Bank.set, Bank.look_put_other _ _ _ _ h]

/-- Reading a collection after one write, at any index. -/
theorem Bank.get_set {α : Type} (b : Bank α) (d v : α) (k j : Nat) :
    (b.set k v).get d j = if j = k then v else b.get d j := by
  by_cases h : j = k
  · subst h; simp
  · simp [h, Bank.get_set_other]

@[simp] theorem Bank.get_empty {α : Type} (d : α) (k : Nat) : (({} : Bank α)).get d k = d := rfl

@[simp] theorem Bank.get_update_self {α : Type} (b : Bank α) (d : α) (k : Nat) (f : α → α) :
    (b.update d k f).get d k = f (b.get d k) := by
  simp [Bank.update]

theorem Bank.get_update_other {α : Type} (b : Bank α) (d e : α) (k j : Nat) (f : α → α) (h : j ≠ k) :
    (b.update e k f).get d j = b.get d j := by
  simp [Bank.update, Bank.get_set_other _ _ _ _ _ h]

theorem Bank.get_updateMany_other {α : Type} (b : Bank α) (e : Nat → α) (ks : List Nat) (f : Nat → α → α) (d : α)
    (k : Nat) (h : k ∉ ks) : (b.updateMany e ks f).get d k = b.get d k := by
  induction ks generalizing b with
  | nil => rfl
  | cons j t ih =>
    simp only [List.mem_cons, not_or] at h
    have h2 := ih (b.update (e j) j (f j)) h.2
    rw [Bank.get_update_other _ _ _ _ _ _ h.1] at h2
    exact h2

/-- Reading an index that a list of distinct indices updates. -/
theorem Bank.get_updateMany_mem {α : Type} (b : Bank α) (e : Nat → α) (ks : List Nat) (f : Nat → α → α)
    (k : Nat) (hd : ks.Nodup) (h : k ∈ ks) : (b.updateMany e ks f).get (e k) k = f k (b.get (e k) k) := by
  induction ks generalizing b with
  | nil => simp at h
  | cons j t ih =>
    simp only [List.nodup_cons] at hd
    by_cases hj : k = j
    · subst hj
      have h2 := Bank.get_updateMany_other (b.update (e k) k (f k)) e t f (e k) k hd.1
      rw [Bank.get_update_self] at h2
      exact h2
    · have hk : k ∈ t := by
        simp only [List.mem_cons] at h
        exact h.resolve_left hj
      have h2 := ih (b.update (e j) j (f j)) hd.2 hk
      rw [Bank.get_update_other _ _ _ _ _ _ hj] at h2
      exact h2

/-- Reading an index that an update of the first `n` indices covers. -/
@[simp] theorem Bank.get_updateMany_range {α : Type} (b : Bank α) (d : α) (n k : Nat) (f : Nat → α → α) :
    (b.updateMany (fun _ => d) (List.range n) f).get d k = if k < n then f k (b.get d k) else b.get d k := by
  split
  · rename_i h
    exact Bank.get_updateMany_mem b (fun _ => d) (List.range n) f k List.nodup_range (by simpa using h)
  · rename_i h
    exact Bank.get_updateMany_other b (fun _ => d) (List.range n) f d k (by simpa using h)

end Sys2Proof
end

