-- ==== Sys2Proof/Laws/Memory.lean ====
section
/-! SUPPORT. The memory operations: what a read gives after a write, and that each keeps the canonical form. -/

namespace Sys2Proof

theorem Memory.wfFrom_mono (lo lo' : Nat) (m : List Host.Cell) (h : lo' ≤ lo) (hw : Memory.wfFrom lo m = true) :
    Memory.wfFrom lo' m = true := by
  cases m with
  | nil => rfl
  | cons e t =>
    obtain ⟨a, v⟩ := e
    simp only [Memory.wfFrom, Bool.and_eq_true, decide_eq_true_eq] at hw ⊢
    exact ⟨⟨by omega, hw.1.2⟩, hw.2⟩

theorem Memory.wfFrom_readByte (lo a : Nat) (m : List Host.Cell) (hw : Memory.wfFrom lo m = true) (h : a < lo) :
    Memory.readByte m a = Memory.blank := by
  induction m generalizing lo with
  | nil => rfl
  | cons e t ih =>
    obtain ⟨b, v⟩ := e
    simp only [Memory.wfFrom, Bool.and_eq_true, decide_eq_true_eq] at hw
    have hne : b ≠ a := by omega
    simp only [Memory.readByte, hne, if_false]
    exact ih (b + 1) hw.2 (by omega)

theorem Memory.wfFrom_writeByte (lo a : Nat) (v : Byte) (m : List Host.Cell) (hw : Memory.wfFrom lo m = true)
    (h : lo ≤ a) : Memory.wfFrom lo (Memory.writeByte m a v) = true := by
  induction m generalizing lo with
  | nil =>
    by_cases hv : v = Memory.blank
    · simp [Memory.writeByte, hv, Memory.wfFrom]
    · simp [Memory.writeByte, hv, Memory.wfFrom, h]
  | cons e t ih =>
    obtain ⟨b, w⟩ := e
    simp only [Memory.wfFrom, Bool.and_eq_true, decide_eq_true_eq] at hw
    unfold Memory.writeByte
    split
    · rename_i hb; subst hb
      split
      · exact Memory.wfFrom_mono (b + 1) lo t (by omega) hw.2
      · rename_i hv
        simp [Memory.wfFrom, h, hv, hw.2]
    · split
      · split
        · simp [Memory.wfFrom, hw]
        · rename_i hlt hv
          have hb : a + 1 ≤ b := by omega
          have hw2 := hw.1.2
          simp only [bne_iff_ne, ne_eq] at hw2
          simp [Memory.wfFrom, h, hv, hb, hw.2, hw2]
      · rename_i hne hlt
        have := ih (b + 1) hw.2 (by omega)
        simp [Memory.wfFrom, hw, this]

/-- One byte written keeps the canonical form. -/
theorem Memory.wf_writeByte (m : List Host.Cell) (a : Nat) (v : Byte) (h : Memory.wf m = true) :
    Memory.wf (Memory.writeByte m a v) = true :=
  Memory.wfFrom_writeByte 0 a v m h (Nat.zero_le a)

/-- A run of bytes written keeps the canonical form. -/
theorem Memory.wf_write (m : List Host.Cell) (a : Nat) (bs : List Byte) (h : Memory.wf m = true) :
    Memory.wf (Memory.write m a bs) = true := by
  induction bs generalizing m a with
  | nil => exact h
  | cons b t ih => exact ih _ _ (Memory.wf_writeByte m a b h)

/-- A run of enabled bytes written keeps the canonical form. -/
theorem Memory.wf_writeEnabled (m : List Host.Cell) (a : Nat) (bs : List Byte) (en : List Bool)
    (h : Memory.wf m = true) : Memory.wf (Memory.writeEnabled m a bs en) = true := by
  induction bs generalizing m a en with
  | nil => exact h
  | cons b t ih =>
    unfold Memory.writeEnabled
    apply ih
    split
    · exact Memory.wf_writeByte m a b h
    · exact h

theorem Memory.wfFrom_filter (lo : Nat) (m : List Host.Cell) (p : Host.Cell → Bool)
    (h : Memory.wfFrom lo m = true) : Memory.wfFrom lo (m.filter p) = true := by
  induction m generalizing lo with
  | nil => rfl
  | cons e t ih =>
    obtain ⟨b, v⟩ := e
    simp only [Memory.wfFrom, Bool.and_eq_true, decide_eq_true_eq] at h
    have h2 := ih (b + 1) h.2
    rw [List.filter_cons]
    split
    · have h3 := h.1.2
      simp only [bne_iff_ne, ne_eq] at h3
      simp [Memory.wfFrom, h.1.1, h3, h2]
    · exact Memory.wfFrom_mono (b + 1) lo _ (by omega) h2

/-- Clearing a range keeps the canonical form. -/
theorem Memory.wf_clear (m : List Host.Cell) (a n : Nat) (h : Memory.wf m = true) :
    Memory.wf (Memory.clear m a n) = true :=
  Memory.wfFrom_filter 0 m _ h

theorem Memory.readByte_writeByte_from (lo : Nat) (m : List Host.Cell) (a b : Nat) (v : Byte)
    (h : Memory.wfFrom lo m = true) :
    Memory.readByte (Memory.writeByte m a v) b = if b = a then v else Memory.readByte m b := by
  induction m generalizing lo with
  | nil =>
    by_cases hv : v = Memory.blank
    · by_cases hb : b = a <;> simp [Memory.writeByte, Memory.readByte, hv, hb]
    · by_cases hb : b = a
      · simp [Memory.writeByte, Memory.readByte, hv, hb]
      · simp [Memory.writeByte, Memory.readByte, hv, hb, Ne.symm hb]
  | cons e t ih =>
    obtain ⟨c, w⟩ := e
    simp only [Memory.wfFrom, Bool.and_eq_true, decide_eq_true_eq] at h
    unfold Memory.writeByte
    by_cases hca : c = a
    · subst hca
      simp only [if_true]
      by_cases hv : v = Memory.blank
      · simp only [hv, if_true]
        by_cases hb : b = c
        · subst hb; simp [Memory.wfFrom_readByte (b + 1) b t h.2 (by omega)]
        · simp [hb, Memory.readByte, Ne.symm hb]
      · simp only [hv, if_false]
        by_cases hb : b = c
        · subst hb; simp [Memory.readByte]
        · simp [hb, Memory.readByte, Ne.symm hb]
    · simp only [hca, if_false]
      by_cases hlt : a < c
      · simp only [hlt, if_true]
        by_cases hv : v = Memory.blank
        · simp only [hv, if_true]
          by_cases hb : b = a
          · subst hb
            have hr : Memory.readByte t b = Memory.blank :=
              Memory.wfFrom_readByte (c + 1) b t h.2 (by omega)
            simp [Memory.readByte, hca, hr]
          · simp [hb]
        · simp only [hv, if_false]
          by_cases hb : b = a
          · subst hb; simp [Memory.readByte]
          · simp [Memory.readByte, hb, Ne.symm hb]
      · simp only [hlt, if_false]
        have hi := ih (c + 1) h.2
        by_cases hb : b = c
        · subst hb
          simp [Memory.readByte, hca]
        · by_cases hba : b = a
          · subst hba; simp [Memory.readByte, Ne.symm hb, hi]
          · simp [Memory.readByte, Ne.symm hb, hi, hba]

/-- Reading one byte after one byte was written. -/
theorem Memory.readByte_writeByte (m : List Host.Cell) (a b : Nat) (v : Byte) (h : Memory.wf m = true) :
    Memory.readByte (Memory.writeByte m a v) b = if b = a then v else Memory.readByte m b :=
  Memory.readByte_writeByte_from 0 m a b v h

/-- A byte outside a written run reads as before. -/
theorem Memory.readByte_write_other (m : List Host.Cell) (a b : Nat) (bs : List Byte) (h : Memory.wf m = true)
    (hb : b < a ∨ a + bs.length ≤ b) : Memory.readByte (Memory.write m a bs) b = Memory.readByte m b := by
  induction bs generalizing m a with
  | nil => rfl
  | cons v t ih =>
    simp only [List.length_cons] at hb
    unfold Memory.write
    rw [ih _ _ (Memory.wf_writeByte m a v h) (by omega), Memory.readByte_writeByte m a b v h]
    have : b ≠ a := by omega
    simp [this]

/-- A byte inside a written run reads as the byte written there. -/
theorem Memory.readByte_write_inside (m : List Host.Cell) (a i : Nat) (bs : List Byte) (h : Memory.wf m = true)
    (hi : i < bs.length) : Memory.readByte (Memory.write m a bs) (a + i) = bs[i] := by
  induction bs generalizing m a i with
  | nil => simp at hi
  | cons v t ih =>
    unfold Memory.write
    cases i with
    | zero =>
      rw [Memory.readByte_write_other _ _ _ _ (Memory.wf_writeByte m a v h) (by omega),
        Memory.readByte_writeByte m a _ v h]
      simp
    | succ j =>
      have hj : j < t.length := by simpa using hi
      have := ih (Memory.writeByte m a v) (a + 1) j (Memory.wf_writeByte m a v h) hj
      rw [show a + (j + 1) = a + 1 + j from by omega, this]
      simp

/-- A run written and read back gives the bytes written. -/
theorem Memory.read_write_self (m : List Host.Cell) (a : Nat) (bs : List Byte) (h : Memory.wf m = true) :
    Memory.read (Memory.write m a bs) a bs.length = bs := by
  apply List.ext_getElem
  · simp [Memory.read]
  · intro i h1 h2
    simp [Memory.read, Memory.readByte_write_inside m a i bs h h2]

/-- A memory made from a list of pairs has the canonical form. -/
theorem Memory.wf_ofCells (cs : List Host.Cell) : Memory.wf (Memory.ofCells cs) = true := by
  have h : ∀ (cs m : List Host.Cell), Memory.wf m = true →
      Memory.wf (cs.foldl (fun m e => Memory.writeByte m e.1 e.2) m) = true := by
    intro cs
    induction cs with
    | nil => intro m hm; exact hm
    | cons e t ih => intro m hm; exact ih _ (Memory.wf_writeByte m e.1 e.2 hm)
  exact h cs [] rfl

/-- `natLE n v` has `n` bytes. -/
@[simp] theorem natLE_length (n v : Nat) : (natLE n v).length = n := by
  induction n generalizing v with
  | zero => rfl
  | succ k ih => simp [natLE, ih]

end Sys2Proof
end

