-- ==== Sys2Proof/Laws/State.lean ====
section
/-! SUPPORT. What each named update of Machine/Ops.lean leaves in each field of the state, of a chip and of the tray,
and what each accessor reads after it. A proof cites these and never unfolds a record update. -/

namespace Sys2Proof.Machine

/-! ## The state -/

@[simp] theorem State.setChip_tray (s : State) (k : Nat) (c : Chip) : (s.setChip k c).tray = s.tray := (rfl)
@[simp] theorem State.setChip_hostMem (s : State) (k : Nat) (c : Chip) : (s.setChip k c).hostMem = s.hostMem := (rfl)
@[simp] theorem State.setChip_pending (s : State) (k : Nat) (c : Chip) : (s.setChip k c).pending = s.pending := (rfl)
@[simp] theorem State.setChip_fresh (s : State) (k : Nat) (c : Chip) : (s.setChip k c).fresh = s.fresh := (rfl)
@[simp] theorem State.onChip_tray (s : State) (k : Nat) (f : Chip → Chip) : (s.onChip k f).tray = s.tray := (rfl)
@[simp] theorem State.onChip_hostMem (s : State) (k : Nat) (f : Chip → Chip) : (s.onChip k f).hostMem = s.hostMem := (rfl)
@[simp] theorem State.onChip_pending (s : State) (k : Nat) (f : Chip → Chip) : (s.onChip k f).pending = s.pending := (rfl)
@[simp] theorem State.onChip_fresh (s : State) (k : Nat) (f : Chip → Chip) : (s.onChip k f).fresh = s.fresh := (rfl)
@[simp] theorem State.onTray_chips (s : State) (f : Tray → Tray) : (s.onTray f).chips = s.chips := (rfl)
@[simp] theorem State.onTray_hostMem (s : State) (f : Tray → Tray) : (s.onTray f).hostMem = s.hostMem := (rfl)
@[simp] theorem State.onTray_pending (s : State) (f : Tray → Tray) : (s.onTray f).pending = s.pending := (rfl)
@[simp] theorem State.onTray_fresh (s : State) (f : Tray → Tray) : (s.onTray f).fresh = s.fresh := (rfl)
@[simp] theorem State.onTray_tray_eq (s : State) (f : Tray → Tray) : (s.onTray f).tray = f s.tray := (rfl)
@[simp] theorem State.chip_onTray (s : State) (f : Tray → Tray) (k : Nat) : (s.onTray f).chip k = s.chip k := (rfl)
@[simp] theorem State.chip_with_tray (s : State) (t : Tray) (k : Nat) : ({ s with tray := t } : State).chip k = s.chip k := (rfl)
@[simp] theorem State.chip_with_pending (s : State) (q : List Instr) (k : Nat) :
    ({ s with pending := q } : State).chip k = s.chip k := (rfl)
@[simp] theorem State.chip_with_hostMem (s : State) (m : List Host.Cell) (k : Nat) :
    ({ s with hostMem := m } : State).chip k = s.chip k := (rfl)
@[simp] theorem State.chip_with_fresh (s : State) (n : Nat) (k : Nat) :
    ({ s with fresh := n } : State).chip k = s.chip k := (rfl)

/-- Chip `j` after chip `k` is replaced. -/
theorem State.chip_setChip (s : State) (k j : Nat) (c : Chip) :
    (s.setChip k c).chip j = if j = k then c else s.chip j := by
  simp [State.chip, State.setChip, Bank.get_set]

@[simp] theorem State.chip_setChip_self (s : State) (k : Nat) (c : Chip) : (s.setChip k c).chip k = c := by
  simp [State.chip_setChip]

theorem State.chip_setChip_other (s : State) (k j : Nat) (c : Chip) (h : j ≠ k) :
    (s.setChip k c).chip j = s.chip j := by
  simp [State.chip_setChip, h]

/-- Chip `j` after `f` is applied to chip `k`. -/
theorem State.chip_onChip (s : State) (k j : Nat) (f : Chip → Chip) :
    (s.onChip k f).chip j = if j = k then f (s.chip k) else s.chip j := by
  simp [State.onChip, State.chip_setChip]

@[simp] theorem State.chip_onChip_self (s : State) (k : Nat) (f : Chip → Chip) :
    (s.onChip k f).chip k = f (s.chip k) := by
  simp [State.chip_onChip]

theorem State.chip_onChip_other (s : State) (k j : Nat) (f : Chip → Chip) (h : j ≠ k) :
    (s.onChip k f).chip j = s.chip j := by
  simp [State.chip_onChip, h]

/-! ## The parts of a chip: what an accessor reads after an update of its own part -/

@[simp] theorem Chip.gen_setGen (c : Chip) (i j : Nat) (x : Gen) : (c.setGen i x).gen j = if j = i then x else c.gen j := by
  by_cases h : j = i
  · subst h; simp [Chip.gen, Chip.setGen]
  · simp [Chip.gen, Chip.setGen, Bank.get_set, h]
@[simp] theorem Chip.onGen_eq (c : Chip) (i : Nat) (f : Gen → Gen) : c.onGen i f = c.setGen i (f (c.gen i)) := (rfl)
@[simp] theorem Chip.region_setRegion (c : Chip) (i j : Nat) (x : Region) : (c.setRegion i x).region j = if j = i then x else c.region j := by
  by_cases h : j = i
  · subst h; simp [Chip.region, Chip.setRegion]
  · simp [Chip.region, Chip.setRegion, Bank.get_set, h]
@[simp] theorem Chip.onRegion_eq (c : Chip) (i : Nat) (f : Region → Region) : c.onRegion i f = c.setRegion i (f (c.region i)) := (rfl)
@[simp] theorem Chip.tile_setTile (c : Chip) (i j : Nat) (x : Tile) : (c.setTile i x).tile j = if j = i then x else c.tile j := by
  by_cases h : j = i
  · subst h; simp [Chip.tile, Chip.setTile]
  · simp [Chip.tile, Chip.setTile, Bank.get_set, h]
@[simp] theorem Chip.onTile_eq (c : Chip) (i : Nat) (f : Tile → Tile) : c.onTile i f = c.setTile i (f (c.tile i)) := (rfl)
@[simp] theorem Chip.queue_setQueue (c : Chip) (i j : Nat) (x : Queue) : (c.setQueue i x).queue j = if j = i then x else c.queue j := by
  by_cases h : j = i
  · subst h; simp [Chip.queue, Chip.setQueue]
  · simp [Chip.queue, Chip.setQueue, Bank.get_set, h]
@[simp] theorem Chip.onQueue_eq (c : Chip) (i : Nat) (f : Queue → Queue) : c.onQueue i f = c.setQueue i (f (c.queue i)) := (rfl)
@[simp] theorem Chip.ep_setEp (c : Chip) (i j : Nat) (x : Endpoint) : (c.setEp i x).ep j = if j = i then x else c.ep j := by
  by_cases h : j = i
  · subst h; simp [Chip.ep, Chip.setEp]
  · simp [Chip.ep, Chip.setEp, Bank.get_set, h]
@[simp] theorem Chip.onEp_eq (c : Chip) (i : Nat) (f : Endpoint → Endpoint) : c.onEp i f = c.setEp i (f (c.ep i)) := (rfl)
@[simp] theorem Chip.chan_setChan (c : Chip) (i j : Nat) (x : Channel) : (c.setChan i x).chan j = if j = i then x else c.chan j := by
  by_cases h : j = i
  · subst h; simp [Chip.chan, Chip.setChan]
  · simp [Chip.chan, Chip.setChan, Bank.get_set, h]
@[simp] theorem Chip.onChan_eq (c : Chip) (i : Nat) (f : Channel → Channel) : c.onChan i f = c.setChan i (f (c.chan i)) := (rfl)
@[simp] theorem Chip.session_setSession (c : Chip) (i j : Nat) (x : Session) : (c.setSession i x).session j = if j = i then x else c.session j := by
  by_cases h : j = i
  · subst h; simp [Chip.session, Chip.setSession]
  · simp [Chip.session, Chip.setSession, Bank.get_set, h]
@[simp] theorem Chip.onSession_eq (c : Chip) (i : Nat) (f : Session → Session) : c.onSession i f = c.setSession i (f (c.session i)) := (rfl)
@[simp] theorem Chip.part_setPart (c : Chip) (i j : Nat) (x : Part) : (c.setPart i x).part j = if j = i then x else c.part j := by
  by_cases h : j = i
  · subst h; simp [Chip.part, Chip.setPart]
  · simp [Chip.part, Chip.setPart, Bank.get_set, h]
@[simp] theorem Chip.onPart_eq (c : Chip) (i : Nat) (f : Part → Part) : c.onPart i f = c.setPart i (f (c.part i)) := (rfl)
@[simp] theorem Chip.ring_setRing (c : Chip) (i j : Nat) (x : Ring) : (c.setRing i x).ring j = if j = i then x else c.ring j := by
  by_cases h : j = i
  · subst h; simp [Chip.ring, Chip.setRing]
  · simp [Chip.ring, Chip.setRing, Bank.get_set, h]
@[simp] theorem Chip.onRing_eq (c : Chip) (i : Nat) (f : Ring → Ring) : c.onRing i f = c.setRing i (f (c.ring i)) := (rfl)
@[simp] theorem Chip.onPosn_eq (c : Chip) (r q : Nat) (f : Position → Position) :
    c.onPosn r q f = c.setPosn r q (f (c.posn r q)) := (rfl)
@[simp] theorem Chip.posn_setPosn_self (c : Chip) (r q : Nat) (x : Position) : (c.setPosn r q x).posn r q = x := by
  simp [Chip.posn, Chip.setPosn]
@[simp] theorem Chip.link_onLink_self (c : Chip) (r d : Nat) (f : OutLink → OutLink) :
    (c.onLink r d f).link r d = f (c.link r d) := by
  simp [Chip.link, Chip.onLink]
@[simp] theorem Chip.railGroup_onRailGroup_self (c : Chip) (g : Nat) (f : RailGroup → RailGroup) :
    (c.onRailGroup g f).railGroup g = f (c.railGroup g) := by
  simp [Chip.railGroup, Chip.onRailGroup]
@[simp] theorem Chip.item_setItem_self (c : Chip) (i : Nat) (x : Item) : (c.setItem i x).item i = some x := by
  simp [Chip.item, Chip.setItem, Bank.set, Bank.look_put_self]
@[simp] theorem Chip.countAux_eq (c : Chip) (i n : Nat) : c.countAux i n =
    c.onStew (fun w => { w with auxEvents := w.auxEvents.set i (w.auxEvents.getD i 0 + n) }) := (rfl)
@[simp] theorem Chip.cause_eq (c : Chip) (v : Nat) : c.cause v =
    c.onHif (fun h => { h with vectors := h.vectors.update {} v (fun x => { x with cause := true }) }) := (rfl)

/-! ## The fields of a chip after each update -/

@[simp] theorem Chip.setGen_powered (c : Chip) (r : Nat) (x : Gen) : (c.setGen r x).powered = c.powered := (rfl)
@[simp] theorem Chip.setGen_held (c : Chip) (r : Nat) (x : Gen) : (c.setGen r x).held = c.held := (rfl)
@[simp] theorem Chip.setGen_slotId (c : Chip) (r : Nat) (x : Gen) : (c.setGen r x).slotId = c.slotId := (rfl)
@[simp] theorem Chip.setGen_time (c : Chip) (r : Nat) (x : Gen) : (c.setGen r x).time = c.time := (rfl)
@[simp] theorem Chip.setGen_clk (c : Chip) (r : Nat) (x : Gen) : (c.setGen r x).clk = c.clk := (rfl)
@[simp] theorem Chip.setGen_tickDue (c : Chip) (r : Nat) (x : Gen) : (c.setGen r x).tickDue = c.tickDue := (rfl)
@[simp] theorem Chip.setGen_regions (c : Chip) (r : Nat) (x : Gen) : (c.setGen r x).regions = c.regions := (rfl)
@[simp] theorem Chip.setGen_tiles (c : Chip) (r : Nat) (x : Gen) : (c.setGen r x).tiles = c.tiles := (rfl)
@[simp] theorem Chip.setGen_posns (c : Chip) (r : Nat) (x : Gen) : (c.setGen r x).posns = c.posns := (rfl)
@[simp] theorem Chip.setGen_xng (c : Chip) (r : Nat) (x : Gen) : (c.setGen r x).xng = c.xng := (rfl)
@[simp] theorem Chip.setGen_queues (c : Chip) (r : Nat) (x : Gen) : (c.setGen r x).queues = c.queues := (rfl)
@[simp] theorem Chip.setGen_eps (c : Chip) (r : Nat) (x : Gen) : (c.setGen r x).eps = c.eps := (rfl)
@[simp] theorem Chip.setGen_flying (c : Chip) (r : Nat) (x : Gen) : (c.setGen r x).flying = c.flying := (rfl)
@[simp] theorem Chip.setGen_links (c : Chip) (r : Nat) (x : Gen) : (c.setGen r x).links = c.links := (rfl)
@[simp] theorem Chip.setGen_mem (c : Chip) (r : Nat) (x : Gen) : (c.setGen r x).mem = c.mem := (rfl)
@[simp] theorem Chip.setGen_chans (c : Chip) (r : Nat) (x : Gen) : (c.setGen r x).chans = c.chans := (rfl)
@[simp] theorem Chip.setGen_seq (c : Chip) (r : Nat) (x : Gen) : (c.setGen r x).seq = c.seq := (rfl)
@[simp] theorem Chip.setGen_stew (c : Chip) (r : Nat) (x : Gen) : (c.setGen r x).stew = c.stew := (rfl)
@[simp] theorem Chip.setGen_bru (c : Chip) (r : Nat) (x : Gen) : (c.setGen r x).bru = c.bru := (rfl)
@[simp] theorem Chip.setGen_img (c : Chip) (r : Nat) (x : Gen) : (c.setGen r x).img = c.img := (rfl)
@[simp] theorem Chip.setGen_hif (c : Chip) (r : Nat) (x : Gen) : (c.setGen r x).hif = c.hif := (rfl)
@[simp] theorem Chip.setGen_dissolves (c : Chip) (r : Nat) (x : Gen) : (c.setGen r x).dissolves = c.dissolves := (rfl)
@[simp] theorem Chip.setGen_flash (c : Chip) (r : Nat) (x : Gen) : (c.setGen r x).flash = c.flash := (rfl)
@[simp] theorem Chip.setGen_otp (c : Chip) (r : Nat) (x : Gen) : (c.setGen r x).otp = c.otp := (rfl)
@[simp] theorem Chip.setRegion_powered (c : Chip) (r : Nat) (x : Region) : (c.setRegion r x).powered = c.powered := (rfl)
@[simp] theorem Chip.setRegion_held (c : Chip) (r : Nat) (x : Region) : (c.setRegion r x).held = c.held := (rfl)
@[simp] theorem Chip.setRegion_slotId (c : Chip) (r : Nat) (x : Region) : (c.setRegion r x).slotId = c.slotId := (rfl)
@[simp] theorem Chip.setRegion_time (c : Chip) (r : Nat) (x : Region) : (c.setRegion r x).time = c.time := (rfl)
@[simp] theorem Chip.setRegion_clk (c : Chip) (r : Nat) (x : Region) : (c.setRegion r x).clk = c.clk := (rfl)
@[simp] theorem Chip.setRegion_tickDue (c : Chip) (r : Nat) (x : Region) : (c.setRegion r x).tickDue = c.tickDue := (rfl)
@[simp] theorem Chip.setRegion_gens (c : Chip) (r : Nat) (x : Region) : (c.setRegion r x).gens = c.gens := (rfl)
@[simp] theorem Chip.setRegion_tiles (c : Chip) (r : Nat) (x : Region) : (c.setRegion r x).tiles = c.tiles := (rfl)
@[simp] theorem Chip.setRegion_posns (c : Chip) (r : Nat) (x : Region) : (c.setRegion r x).posns = c.posns := (rfl)
@[simp] theorem Chip.setRegion_xng (c : Chip) (r : Nat) (x : Region) : (c.setRegion r x).xng = c.xng := (rfl)
@[simp] theorem Chip.setRegion_queues (c : Chip) (r : Nat) (x : Region) : (c.setRegion r x).queues = c.queues := (rfl)
@[simp] theorem Chip.setRegion_eps (c : Chip) (r : Nat) (x : Region) : (c.setRegion r x).eps = c.eps := (rfl)
@[simp] theorem Chip.setRegion_flying (c : Chip) (r : Nat) (x : Region) : (c.setRegion r x).flying = c.flying := (rfl)
@[simp] theorem Chip.setRegion_links (c : Chip) (r : Nat) (x : Region) : (c.setRegion r x).links = c.links := (rfl)
@[simp] theorem Chip.setRegion_mem (c : Chip) (r : Nat) (x : Region) : (c.setRegion r x).mem = c.mem := (rfl)
@[simp] theorem Chip.setRegion_chans (c : Chip) (r : Nat) (x : Region) : (c.setRegion r x).chans = c.chans := (rfl)
@[simp] theorem Chip.setRegion_seq (c : Chip) (r : Nat) (x : Region) : (c.setRegion r x).seq = c.seq := (rfl)
@[simp] theorem Chip.setRegion_stew (c : Chip) (r : Nat) (x : Region) : (c.setRegion r x).stew = c.stew := (rfl)
@[simp] theorem Chip.setRegion_bru (c : Chip) (r : Nat) (x : Region) : (c.setRegion r x).bru = c.bru := (rfl)
@[simp] theorem Chip.setRegion_img (c : Chip) (r : Nat) (x : Region) : (c.setRegion r x).img = c.img := (rfl)
@[simp] theorem Chip.setRegion_hif (c : Chip) (r : Nat) (x : Region) : (c.setRegion r x).hif = c.hif := (rfl)
@[simp] theorem Chip.setRegion_dissolves (c : Chip) (r : Nat) (x : Region) : (c.setRegion r x).dissolves = c.dissolves := (rfl)
@[simp] theorem Chip.setRegion_flash (c : Chip) (r : Nat) (x : Region) : (c.setRegion r x).flash = c.flash := (rfl)
@[simp] theorem Chip.setRegion_otp (c : Chip) (r : Nat) (x : Region) : (c.setRegion r x).otp = c.otp := (rfl)
@[simp] theorem Chip.setTile_powered (c : Chip) (t : Nat) (x : Tile) : (c.setTile t x).powered = c.powered := (rfl)
@[simp] theorem Chip.setTile_held (c : Chip) (t : Nat) (x : Tile) : (c.setTile t x).held = c.held := (rfl)
@[simp] theorem Chip.setTile_slotId (c : Chip) (t : Nat) (x : Tile) : (c.setTile t x).slotId = c.slotId := (rfl)
@[simp] theorem Chip.setTile_time (c : Chip) (t : Nat) (x : Tile) : (c.setTile t x).time = c.time := (rfl)
@[simp] theorem Chip.setTile_clk (c : Chip) (t : Nat) (x : Tile) : (c.setTile t x).clk = c.clk := (rfl)
@[simp] theorem Chip.setTile_tickDue (c : Chip) (t : Nat) (x : Tile) : (c.setTile t x).tickDue = c.tickDue := (rfl)
@[simp] theorem Chip.setTile_gens (c : Chip) (t : Nat) (x : Tile) : (c.setTile t x).gens = c.gens := (rfl)
@[simp] theorem Chip.setTile_regions (c : Chip) (t : Nat) (x : Tile) : (c.setTile t x).regions = c.regions := (rfl)
@[simp] theorem Chip.setTile_posns (c : Chip) (t : Nat) (x : Tile) : (c.setTile t x).posns = c.posns := (rfl)
@[simp] theorem Chip.setTile_xng (c : Chip) (t : Nat) (x : Tile) : (c.setTile t x).xng = c.xng := (rfl)
@[simp] theorem Chip.setTile_queues (c : Chip) (t : Nat) (x : Tile) : (c.setTile t x).queues = c.queues := (rfl)
@[simp] theorem Chip.setTile_eps (c : Chip) (t : Nat) (x : Tile) : (c.setTile t x).eps = c.eps := (rfl)
@[simp] theorem Chip.setTile_flying (c : Chip) (t : Nat) (x : Tile) : (c.setTile t x).flying = c.flying := (rfl)
@[simp] theorem Chip.setTile_links (c : Chip) (t : Nat) (x : Tile) : (c.setTile t x).links = c.links := (rfl)
@[simp] theorem Chip.setTile_mem (c : Chip) (t : Nat) (x : Tile) : (c.setTile t x).mem = c.mem := (rfl)
@[simp] theorem Chip.setTile_chans (c : Chip) (t : Nat) (x : Tile) : (c.setTile t x).chans = c.chans := (rfl)
@[simp] theorem Chip.setTile_seq (c : Chip) (t : Nat) (x : Tile) : (c.setTile t x).seq = c.seq := (rfl)
@[simp] theorem Chip.setTile_stew (c : Chip) (t : Nat) (x : Tile) : (c.setTile t x).stew = c.stew := (rfl)
@[simp] theorem Chip.setTile_bru (c : Chip) (t : Nat) (x : Tile) : (c.setTile t x).bru = c.bru := (rfl)
@[simp] theorem Chip.setTile_img (c : Chip) (t : Nat) (x : Tile) : (c.setTile t x).img = c.img := (rfl)
@[simp] theorem Chip.setTile_hif (c : Chip) (t : Nat) (x : Tile) : (c.setTile t x).hif = c.hif := (rfl)
@[simp] theorem Chip.setTile_dissolves (c : Chip) (t : Nat) (x : Tile) : (c.setTile t x).dissolves = c.dissolves := (rfl)
@[simp] theorem Chip.setTile_flash (c : Chip) (t : Nat) (x : Tile) : (c.setTile t x).flash = c.flash := (rfl)
@[simp] theorem Chip.setTile_otp (c : Chip) (t : Nat) (x : Tile) : (c.setTile t x).otp = c.otp := (rfl)
@[simp] theorem Chip.setPosn_powered (c : Chip) (r q : Nat) (x : Position) : (c.setPosn r q x).powered = c.powered := (rfl)
@[simp] theorem Chip.setPosn_held (c : Chip) (r q : Nat) (x : Position) : (c.setPosn r q x).held = c.held := (rfl)
@[simp] theorem Chip.setPosn_slotId (c : Chip) (r q : Nat) (x : Position) : (c.setPosn r q x).slotId = c.slotId := (rfl)
@[simp] theorem Chip.setPosn_time (c : Chip) (r q : Nat) (x : Position) : (c.setPosn r q x).time = c.time := (rfl)
@[simp] theorem Chip.setPosn_clk (c : Chip) (r q : Nat) (x : Position) : (c.setPosn r q x).clk = c.clk := (rfl)
@[simp] theorem Chip.setPosn_tickDue (c : Chip) (r q : Nat) (x : Position) : (c.setPosn r q x).tickDue = c.tickDue := (rfl)
@[simp] theorem Chip.setPosn_gens (c : Chip) (r q : Nat) (x : Position) : (c.setPosn r q x).gens = c.gens := (rfl)
@[simp] theorem Chip.setPosn_regions (c : Chip) (r q : Nat) (x : Position) : (c.setPosn r q x).regions = c.regions := (rfl)
@[simp] theorem Chip.setPosn_tiles (c : Chip) (r q : Nat) (x : Position) : (c.setPosn r q x).tiles = c.tiles := (rfl)
@[simp] theorem Chip.setPosn_xng (c : Chip) (r q : Nat) (x : Position) : (c.setPosn r q x).xng = c.xng := (rfl)
@[simp] theorem Chip.setPosn_queues (c : Chip) (r q : Nat) (x : Position) : (c.setPosn r q x).queues = c.queues := (rfl)
@[simp] theorem Chip.setPosn_eps (c : Chip) (r q : Nat) (x : Position) : (c.setPosn r q x).eps = c.eps := (rfl)
@[simp] theorem Chip.setPosn_flying (c : Chip) (r q : Nat) (x : Position) : (c.setPosn r q x).flying = c.flying := (rfl)
@[simp] theorem Chip.setPosn_links (c : Chip) (r q : Nat) (x : Position) : (c.setPosn r q x).links = c.links := (rfl)
@[simp] theorem Chip.setPosn_mem (c : Chip) (r q : Nat) (x : Position) : (c.setPosn r q x).mem = c.mem := (rfl)
@[simp] theorem Chip.setPosn_chans (c : Chip) (r q : Nat) (x : Position) : (c.setPosn r q x).chans = c.chans := (rfl)
@[simp] theorem Chip.setPosn_seq (c : Chip) (r q : Nat) (x : Position) : (c.setPosn r q x).seq = c.seq := (rfl)
@[simp] theorem Chip.setPosn_stew (c : Chip) (r q : Nat) (x : Position) : (c.setPosn r q x).stew = c.stew := (rfl)
@[simp] theorem Chip.setPosn_bru (c : Chip) (r q : Nat) (x : Position) : (c.setPosn r q x).bru = c.bru := (rfl)
@[simp] theorem Chip.setPosn_img (c : Chip) (r q : Nat) (x : Position) : (c.setPosn r q x).img = c.img := (rfl)
@[simp] theorem Chip.setPosn_hif (c : Chip) (r q : Nat) (x : Position) : (c.setPosn r q x).hif = c.hif := (rfl)
@[simp] theorem Chip.setPosn_dissolves (c : Chip) (r q : Nat) (x : Position) : (c.setPosn r q x).dissolves = c.dissolves := (rfl)
@[simp] theorem Chip.setPosn_flash (c : Chip) (r q : Nat) (x : Position) : (c.setPosn r q x).flash = c.flash := (rfl)
@[simp] theorem Chip.setPosn_otp (c : Chip) (r q : Nat) (x : Position) : (c.setPosn r q x).otp = c.otp := (rfl)
@[simp] theorem Chip.setQueue_powered (c : Chip) (q : Nat) (x : Queue) : (c.setQueue q x).powered = c.powered := (rfl)
@[simp] theorem Chip.setQueue_held (c : Chip) (q : Nat) (x : Queue) : (c.setQueue q x).held = c.held := (rfl)
@[simp] theorem Chip.setQueue_slotId (c : Chip) (q : Nat) (x : Queue) : (c.setQueue q x).slotId = c.slotId := (rfl)
@[simp] theorem Chip.setQueue_time (c : Chip) (q : Nat) (x : Queue) : (c.setQueue q x).time = c.time := (rfl)
@[simp] theorem Chip.setQueue_clk (c : Chip) (q : Nat) (x : Queue) : (c.setQueue q x).clk = c.clk := (rfl)
@[simp] theorem Chip.setQueue_tickDue (c : Chip) (q : Nat) (x : Queue) : (c.setQueue q x).tickDue = c.tickDue := (rfl)
@[simp] theorem Chip.setQueue_gens (c : Chip) (q : Nat) (x : Queue) : (c.setQueue q x).gens = c.gens := (rfl)
@[simp] theorem Chip.setQueue_regions (c : Chip) (q : Nat) (x : Queue) : (c.setQueue q x).regions = c.regions := (rfl)
@[simp] theorem Chip.setQueue_tiles (c : Chip) (q : Nat) (x : Queue) : (c.setQueue q x).tiles = c.tiles := (rfl)
@[simp] theorem Chip.setQueue_posns (c : Chip) (q : Nat) (x : Queue) : (c.setQueue q x).posns = c.posns := (rfl)
@[simp] theorem Chip.setQueue_xng (c : Chip) (q : Nat) (x : Queue) : (c.setQueue q x).xng = c.xng := (rfl)
@[simp] theorem Chip.setQueue_eps (c : Chip) (q : Nat) (x : Queue) : (c.setQueue q x).eps = c.eps := (rfl)
@[simp] theorem Chip.setQueue_flying (c : Chip) (q : Nat) (x : Queue) : (c.setQueue q x).flying = c.flying := (rfl)
@[simp] theorem Chip.setQueue_links (c : Chip) (q : Nat) (x : Queue) : (c.setQueue q x).links = c.links := (rfl)
@[simp] theorem Chip.setQueue_mem (c : Chip) (q : Nat) (x : Queue) : (c.setQueue q x).mem = c.mem := (rfl)
@[simp] theorem Chip.setQueue_chans (c : Chip) (q : Nat) (x : Queue) : (c.setQueue q x).chans = c.chans := (rfl)
@[simp] theorem Chip.setQueue_seq (c : Chip) (q : Nat) (x : Queue) : (c.setQueue q x).seq = c.seq := (rfl)
@[simp] theorem Chip.setQueue_stew (c : Chip) (q : Nat) (x : Queue) : (c.setQueue q x).stew = c.stew := (rfl)
@[simp] theorem Chip.setQueue_bru (c : Chip) (q : Nat) (x : Queue) : (c.setQueue q x).bru = c.bru := (rfl)
@[simp] theorem Chip.setQueue_img (c : Chip) (q : Nat) (x : Queue) : (c.setQueue q x).img = c.img := (rfl)
@[simp] theorem Chip.setQueue_hif (c : Chip) (q : Nat) (x : Queue) : (c.setQueue q x).hif = c.hif := (rfl)
@[simp] theorem Chip.setQueue_dissolves (c : Chip) (q : Nat) (x : Queue) : (c.setQueue q x).dissolves = c.dissolves := (rfl)
@[simp] theorem Chip.setQueue_flash (c : Chip) (q : Nat) (x : Queue) : (c.setQueue q x).flash = c.flash := (rfl)
@[simp] theorem Chip.setQueue_otp (c : Chip) (q : Nat) (x : Queue) : (c.setQueue q x).otp = c.otp := (rfl)
@[simp] theorem Chip.setEp_powered (c : Chip) (e : Nat) (x : Endpoint) : (c.setEp e x).powered = c.powered := (rfl)
@[simp] theorem Chip.setEp_held (c : Chip) (e : Nat) (x : Endpoint) : (c.setEp e x).held = c.held := (rfl)
@[simp] theorem Chip.setEp_slotId (c : Chip) (e : Nat) (x : Endpoint) : (c.setEp e x).slotId = c.slotId := (rfl)
@[simp] theorem Chip.setEp_time (c : Chip) (e : Nat) (x : Endpoint) : (c.setEp e x).time = c.time := (rfl)
@[simp] theorem Chip.setEp_clk (c : Chip) (e : Nat) (x : Endpoint) : (c.setEp e x).clk = c.clk := (rfl)
@[simp] theorem Chip.setEp_tickDue (c : Chip) (e : Nat) (x : Endpoint) : (c.setEp e x).tickDue = c.tickDue := (rfl)
@[simp] theorem Chip.setEp_gens (c : Chip) (e : Nat) (x : Endpoint) : (c.setEp e x).gens = c.gens := (rfl)
@[simp] theorem Chip.setEp_regions (c : Chip) (e : Nat) (x : Endpoint) : (c.setEp e x).regions = c.regions := (rfl)
@[simp] theorem Chip.setEp_tiles (c : Chip) (e : Nat) (x : Endpoint) : (c.setEp e x).tiles = c.tiles := (rfl)
@[simp] theorem Chip.setEp_posns (c : Chip) (e : Nat) (x : Endpoint) : (c.setEp e x).posns = c.posns := (rfl)
@[simp] theorem Chip.setEp_xng (c : Chip) (e : Nat) (x : Endpoint) : (c.setEp e x).xng = c.xng := (rfl)
@[simp] theorem Chip.setEp_queues (c : Chip) (e : Nat) (x : Endpoint) : (c.setEp e x).queues = c.queues := (rfl)
@[simp] theorem Chip.setEp_flying (c : Chip) (e : Nat) (x : Endpoint) : (c.setEp e x).flying = c.flying := (rfl)
@[simp] theorem Chip.setEp_links (c : Chip) (e : Nat) (x : Endpoint) : (c.setEp e x).links = c.links := (rfl)
@[simp] theorem Chip.setEp_mem (c : Chip) (e : Nat) (x : Endpoint) : (c.setEp e x).mem = c.mem := (rfl)
@[simp] theorem Chip.setEp_chans (c : Chip) (e : Nat) (x : Endpoint) : (c.setEp e x).chans = c.chans := (rfl)
@[simp] theorem Chip.setEp_seq (c : Chip) (e : Nat) (x : Endpoint) : (c.setEp e x).seq = c.seq := (rfl)
@[simp] theorem Chip.setEp_stew (c : Chip) (e : Nat) (x : Endpoint) : (c.setEp e x).stew = c.stew := (rfl)
@[simp] theorem Chip.setEp_bru (c : Chip) (e : Nat) (x : Endpoint) : (c.setEp e x).bru = c.bru := (rfl)
@[simp] theorem Chip.setEp_img (c : Chip) (e : Nat) (x : Endpoint) : (c.setEp e x).img = c.img := (rfl)
@[simp] theorem Chip.setEp_hif (c : Chip) (e : Nat) (x : Endpoint) : (c.setEp e x).hif = c.hif := (rfl)
@[simp] theorem Chip.setEp_dissolves (c : Chip) (e : Nat) (x : Endpoint) : (c.setEp e x).dissolves = c.dissolves := (rfl)
@[simp] theorem Chip.setEp_flash (c : Chip) (e : Nat) (x : Endpoint) : (c.setEp e x).flash = c.flash := (rfl)
@[simp] theorem Chip.setEp_otp (c : Chip) (e : Nat) (x : Endpoint) : (c.setEp e x).otp = c.otp := (rfl)
@[simp] theorem Chip.onLink_powered (c : Chip) (r d : Nat) (f : OutLink → OutLink) : (c.onLink r d f).powered = c.powered := (rfl)
@[simp] theorem Chip.onLink_held (c : Chip) (r d : Nat) (f : OutLink → OutLink) : (c.onLink r d f).held = c.held := (rfl)
@[simp] theorem Chip.onLink_slotId (c : Chip) (r d : Nat) (f : OutLink → OutLink) : (c.onLink r d f).slotId = c.slotId := (rfl)
@[simp] theorem Chip.onLink_time (c : Chip) (r d : Nat) (f : OutLink → OutLink) : (c.onLink r d f).time = c.time := (rfl)
@[simp] theorem Chip.onLink_clk (c : Chip) (r d : Nat) (f : OutLink → OutLink) : (c.onLink r d f).clk = c.clk := (rfl)
@[simp] theorem Chip.onLink_tickDue (c : Chip) (r d : Nat) (f : OutLink → OutLink) : (c.onLink r d f).tickDue = c.tickDue := (rfl)
@[simp] theorem Chip.onLink_gens (c : Chip) (r d : Nat) (f : OutLink → OutLink) : (c.onLink r d f).gens = c.gens := (rfl)
@[simp] theorem Chip.onLink_regions (c : Chip) (r d : Nat) (f : OutLink → OutLink) : (c.onLink r d f).regions = c.regions := (rfl)
@[simp] theorem Chip.onLink_tiles (c : Chip) (r d : Nat) (f : OutLink → OutLink) : (c.onLink r d f).tiles = c.tiles := (rfl)
@[simp] theorem Chip.onLink_posns (c : Chip) (r d : Nat) (f : OutLink → OutLink) : (c.onLink r d f).posns = c.posns := (rfl)
@[simp] theorem Chip.onLink_xng (c : Chip) (r d : Nat) (f : OutLink → OutLink) : (c.onLink r d f).xng = c.xng := (rfl)
@[simp] theorem Chip.onLink_queues (c : Chip) (r d : Nat) (f : OutLink → OutLink) : (c.onLink r d f).queues = c.queues := (rfl)
@[simp] theorem Chip.onLink_eps (c : Chip) (r d : Nat) (f : OutLink → OutLink) : (c.onLink r d f).eps = c.eps := (rfl)
@[simp] theorem Chip.onLink_flying (c : Chip) (r d : Nat) (f : OutLink → OutLink) : (c.onLink r d f).flying = c.flying := (rfl)
@[simp] theorem Chip.onLink_mem (c : Chip) (r d : Nat) (f : OutLink → OutLink) : (c.onLink r d f).mem = c.mem := (rfl)
@[simp] theorem Chip.onLink_chans (c : Chip) (r d : Nat) (f : OutLink → OutLink) : (c.onLink r d f).chans = c.chans := (rfl)
@[simp] theorem Chip.onLink_seq (c : Chip) (r d : Nat) (f : OutLink → OutLink) : (c.onLink r d f).seq = c.seq := (rfl)
@[simp] theorem Chip.onLink_stew (c : Chip) (r d : Nat) (f : OutLink → OutLink) : (c.onLink r d f).stew = c.stew := (rfl)
@[simp] theorem Chip.onLink_bru (c : Chip) (r d : Nat) (f : OutLink → OutLink) : (c.onLink r d f).bru = c.bru := (rfl)
@[simp] theorem Chip.onLink_img (c : Chip) (r d : Nat) (f : OutLink → OutLink) : (c.onLink r d f).img = c.img := (rfl)
@[simp] theorem Chip.onLink_hif (c : Chip) (r d : Nat) (f : OutLink → OutLink) : (c.onLink r d f).hif = c.hif := (rfl)
@[simp] theorem Chip.onLink_dissolves (c : Chip) (r d : Nat) (f : OutLink → OutLink) : (c.onLink r d f).dissolves = c.dissolves := (rfl)
@[simp] theorem Chip.onLink_flash (c : Chip) (r d : Nat) (f : OutLink → OutLink) : (c.onLink r d f).flash = c.flash := (rfl)
@[simp] theorem Chip.onLink_otp (c : Chip) (r d : Nat) (f : OutLink → OutLink) : (c.onLink r d f).otp = c.otp := (rfl)
@[simp] theorem Chip.setChan_powered (c : Chip) (h : Nat) (x : Channel) : (c.setChan h x).powered = c.powered := (rfl)
@[simp] theorem Chip.setChan_held (c : Chip) (h : Nat) (x : Channel) : (c.setChan h x).held = c.held := (rfl)
@[simp] theorem Chip.setChan_slotId (c : Chip) (h : Nat) (x : Channel) : (c.setChan h x).slotId = c.slotId := (rfl)
@[simp] theorem Chip.setChan_time (c : Chip) (h : Nat) (x : Channel) : (c.setChan h x).time = c.time := (rfl)
@[simp] theorem Chip.setChan_clk (c : Chip) (h : Nat) (x : Channel) : (c.setChan h x).clk = c.clk := (rfl)
@[simp] theorem Chip.setChan_tickDue (c : Chip) (h : Nat) (x : Channel) : (c.setChan h x).tickDue = c.tickDue := (rfl)
@[simp] theorem Chip.setChan_gens (c : Chip) (h : Nat) (x : Channel) : (c.setChan h x).gens = c.gens := (rfl)
@[simp] theorem Chip.setChan_regions (c : Chip) (h : Nat) (x : Channel) : (c.setChan h x).regions = c.regions := (rfl)
@[simp] theorem Chip.setChan_tiles (c : Chip) (h : Nat) (x : Channel) : (c.setChan h x).tiles = c.tiles := (rfl)
@[simp] theorem Chip.setChan_posns (c : Chip) (h : Nat) (x : Channel) : (c.setChan h x).posns = c.posns := (rfl)
@[simp] theorem Chip.setChan_xng (c : Chip) (h : Nat) (x : Channel) : (c.setChan h x).xng = c.xng := (rfl)
@[simp] theorem Chip.setChan_queues (c : Chip) (h : Nat) (x : Channel) : (c.setChan h x).queues = c.queues := (rfl)
@[simp] theorem Chip.setChan_eps (c : Chip) (h : Nat) (x : Channel) : (c.setChan h x).eps = c.eps := (rfl)
@[simp] theorem Chip.setChan_flying (c : Chip) (h : Nat) (x : Channel) : (c.setChan h x).flying = c.flying := (rfl)
@[simp] theorem Chip.setChan_links (c : Chip) (h : Nat) (x : Channel) : (c.setChan h x).links = c.links := (rfl)
@[simp] theorem Chip.setChan_mem (c : Chip) (h : Nat) (x : Channel) : (c.setChan h x).mem = c.mem := (rfl)
@[simp] theorem Chip.setChan_seq (c : Chip) (h : Nat) (x : Channel) : (c.setChan h x).seq = c.seq := (rfl)
@[simp] theorem Chip.setChan_stew (c : Chip) (h : Nat) (x : Channel) : (c.setChan h x).stew = c.stew := (rfl)
@[simp] theorem Chip.setChan_bru (c : Chip) (h : Nat) (x : Channel) : (c.setChan h x).bru = c.bru := (rfl)
@[simp] theorem Chip.setChan_img (c : Chip) (h : Nat) (x : Channel) : (c.setChan h x).img = c.img := (rfl)
@[simp] theorem Chip.setChan_hif (c : Chip) (h : Nat) (x : Channel) : (c.setChan h x).hif = c.hif := (rfl)
@[simp] theorem Chip.setChan_dissolves (c : Chip) (h : Nat) (x : Channel) : (c.setChan h x).dissolves = c.dissolves := (rfl)
@[simp] theorem Chip.setChan_flash (c : Chip) (h : Nat) (x : Channel) : (c.setChan h x).flash = c.flash := (rfl)
@[simp] theorem Chip.setChan_otp (c : Chip) (h : Nat) (x : Channel) : (c.setChan h x).otp = c.otp := (rfl)
@[simp] theorem Chip.setSession_powered (c : Chip) (i : Nat) (x : Session) : (c.setSession i x).powered = c.powered := (rfl)
@[simp] theorem Chip.setSession_held (c : Chip) (i : Nat) (x : Session) : (c.setSession i x).held = c.held := (rfl)
@[simp] theorem Chip.setSession_slotId (c : Chip) (i : Nat) (x : Session) : (c.setSession i x).slotId = c.slotId := (rfl)
@[simp] theorem Chip.setSession_time (c : Chip) (i : Nat) (x : Session) : (c.setSession i x).time = c.time := (rfl)
@[simp] theorem Chip.setSession_clk (c : Chip) (i : Nat) (x : Session) : (c.setSession i x).clk = c.clk := (rfl)
@[simp] theorem Chip.setSession_tickDue (c : Chip) (i : Nat) (x : Session) : (c.setSession i x).tickDue = c.tickDue := (rfl)
@[simp] theorem Chip.setSession_gens (c : Chip) (i : Nat) (x : Session) : (c.setSession i x).gens = c.gens := (rfl)
@[simp] theorem Chip.setSession_regions (c : Chip) (i : Nat) (x : Session) : (c.setSession i x).regions = c.regions := (rfl)
@[simp] theorem Chip.setSession_tiles (c : Chip) (i : Nat) (x : Session) : (c.setSession i x).tiles = c.tiles := (rfl)
@[simp] theorem Chip.setSession_posns (c : Chip) (i : Nat) (x : Session) : (c.setSession i x).posns = c.posns := (rfl)
@[simp] theorem Chip.setSession_xng (c : Chip) (i : Nat) (x : Session) : (c.setSession i x).xng = c.xng := (rfl)
@[simp] theorem Chip.setSession_queues (c : Chip) (i : Nat) (x : Session) : (c.setSession i x).queues = c.queues := (rfl)
@[simp] theorem Chip.setSession_eps (c : Chip) (i : Nat) (x : Session) : (c.setSession i x).eps = c.eps := (rfl)
@[simp] theorem Chip.setSession_flying (c : Chip) (i : Nat) (x : Session) : (c.setSession i x).flying = c.flying := (rfl)
@[simp] theorem Chip.setSession_links (c : Chip) (i : Nat) (x : Session) : (c.setSession i x).links = c.links := (rfl)
@[simp] theorem Chip.setSession_mem (c : Chip) (i : Nat) (x : Session) : (c.setSession i x).mem = c.mem := (rfl)
@[simp] theorem Chip.setSession_chans (c : Chip) (i : Nat) (x : Session) : (c.setSession i x).chans = c.chans := (rfl)
@[simp] theorem Chip.setSession_stew (c : Chip) (i : Nat) (x : Session) : (c.setSession i x).stew = c.stew := (rfl)
@[simp] theorem Chip.setSession_bru (c : Chip) (i : Nat) (x : Session) : (c.setSession i x).bru = c.bru := (rfl)
@[simp] theorem Chip.setSession_img (c : Chip) (i : Nat) (x : Session) : (c.setSession i x).img = c.img := (rfl)
@[simp] theorem Chip.setSession_hif (c : Chip) (i : Nat) (x : Session) : (c.setSession i x).hif = c.hif := (rfl)
@[simp] theorem Chip.setSession_dissolves (c : Chip) (i : Nat) (x : Session) : (c.setSession i x).dissolves = c.dissolves := (rfl)
@[simp] theorem Chip.setSession_flash (c : Chip) (i : Nat) (x : Session) : (c.setSession i x).flash = c.flash := (rfl)
@[simp] theorem Chip.setSession_otp (c : Chip) (i : Nat) (x : Session) : (c.setSession i x).otp = c.otp := (rfl)
@[simp] theorem Chip.setPart_powered (c : Chip) (p : Nat) (x : Part) : (c.setPart p x).powered = c.powered := (rfl)
@[simp] theorem Chip.setPart_held (c : Chip) (p : Nat) (x : Part) : (c.setPart p x).held = c.held := (rfl)
@[simp] theorem Chip.setPart_slotId (c : Chip) (p : Nat) (x : Part) : (c.setPart p x).slotId = c.slotId := (rfl)
@[simp] theorem Chip.setPart_time (c : Chip) (p : Nat) (x : Part) : (c.setPart p x).time = c.time := (rfl)
@[simp] theorem Chip.setPart_clk (c : Chip) (p : Nat) (x : Part) : (c.setPart p x).clk = c.clk := (rfl)
@[simp] theorem Chip.setPart_tickDue (c : Chip) (p : Nat) (x : Part) : (c.setPart p x).tickDue = c.tickDue := (rfl)
@[simp] theorem Chip.setPart_gens (c : Chip) (p : Nat) (x : Part) : (c.setPart p x).gens = c.gens := (rfl)
@[simp] theorem Chip.setPart_regions (c : Chip) (p : Nat) (x : Part) : (c.setPart p x).regions = c.regions := (rfl)
@[simp] theorem Chip.setPart_tiles (c : Chip) (p : Nat) (x : Part) : (c.setPart p x).tiles = c.tiles := (rfl)
@[simp] theorem Chip.setPart_posns (c : Chip) (p : Nat) (x : Part) : (c.setPart p x).posns = c.posns := (rfl)
@[simp] theorem Chip.setPart_xng (c : Chip) (p : Nat) (x : Part) : (c.setPart p x).xng = c.xng := (rfl)
@[simp] theorem Chip.setPart_queues (c : Chip) (p : Nat) (x : Part) : (c.setPart p x).queues = c.queues := (rfl)
@[simp] theorem Chip.setPart_eps (c : Chip) (p : Nat) (x : Part) : (c.setPart p x).eps = c.eps := (rfl)
@[simp] theorem Chip.setPart_flying (c : Chip) (p : Nat) (x : Part) : (c.setPart p x).flying = c.flying := (rfl)
@[simp] theorem Chip.setPart_links (c : Chip) (p : Nat) (x : Part) : (c.setPart p x).links = c.links := (rfl)
@[simp] theorem Chip.setPart_mem (c : Chip) (p : Nat) (x : Part) : (c.setPart p x).mem = c.mem := (rfl)
@[simp] theorem Chip.setPart_chans (c : Chip) (p : Nat) (x : Part) : (c.setPart p x).chans = c.chans := (rfl)
@[simp] theorem Chip.setPart_stew (c : Chip) (p : Nat) (x : Part) : (c.setPart p x).stew = c.stew := (rfl)
@[simp] theorem Chip.setPart_bru (c : Chip) (p : Nat) (x : Part) : (c.setPart p x).bru = c.bru := (rfl)
@[simp] theorem Chip.setPart_img (c : Chip) (p : Nat) (x : Part) : (c.setPart p x).img = c.img := (rfl)
@[simp] theorem Chip.setPart_hif (c : Chip) (p : Nat) (x : Part) : (c.setPart p x).hif = c.hif := (rfl)
@[simp] theorem Chip.setPart_dissolves (c : Chip) (p : Nat) (x : Part) : (c.setPart p x).dissolves = c.dissolves := (rfl)
@[simp] theorem Chip.setPart_flash (c : Chip) (p : Nat) (x : Part) : (c.setPart p x).flash = c.flash := (rfl)
@[simp] theorem Chip.setPart_otp (c : Chip) (p : Nat) (x : Part) : (c.setPart p x).otp = c.otp := (rfl)
@[simp] theorem Chip.setItem_powered (c : Chip) (i : Nat) (x : Item) : (c.setItem i x).powered = c.powered := (rfl)
@[simp] theorem Chip.setItem_held (c : Chip) (i : Nat) (x : Item) : (c.setItem i x).held = c.held := (rfl)
@[simp] theorem Chip.setItem_slotId (c : Chip) (i : Nat) (x : Item) : (c.setItem i x).slotId = c.slotId := (rfl)
@[simp] theorem Chip.setItem_time (c : Chip) (i : Nat) (x : Item) : (c.setItem i x).time = c.time := (rfl)
@[simp] theorem Chip.setItem_clk (c : Chip) (i : Nat) (x : Item) : (c.setItem i x).clk = c.clk := (rfl)
@[simp] theorem Chip.setItem_tickDue (c : Chip) (i : Nat) (x : Item) : (c.setItem i x).tickDue = c.tickDue := (rfl)
@[simp] theorem Chip.setItem_gens (c : Chip) (i : Nat) (x : Item) : (c.setItem i x).gens = c.gens := (rfl)
@[simp] theorem Chip.setItem_regions (c : Chip) (i : Nat) (x : Item) : (c.setItem i x).regions = c.regions := (rfl)
@[simp] theorem Chip.setItem_tiles (c : Chip) (i : Nat) (x : Item) : (c.setItem i x).tiles = c.tiles := (rfl)
@[simp] theorem Chip.setItem_posns (c : Chip) (i : Nat) (x : Item) : (c.setItem i x).posns = c.posns := (rfl)
@[simp] theorem Chip.setItem_xng (c : Chip) (i : Nat) (x : Item) : (c.setItem i x).xng = c.xng := (rfl)
@[simp] theorem Chip.setItem_queues (c : Chip) (i : Nat) (x : Item) : (c.setItem i x).queues = c.queues := (rfl)
@[simp] theorem Chip.setItem_eps (c : Chip) (i : Nat) (x : Item) : (c.setItem i x).eps = c.eps := (rfl)
@[simp] theorem Chip.setItem_flying (c : Chip) (i : Nat) (x : Item) : (c.setItem i x).flying = c.flying := (rfl)
@[simp] theorem Chip.setItem_links (c : Chip) (i : Nat) (x : Item) : (c.setItem i x).links = c.links := (rfl)
@[simp] theorem Chip.setItem_mem (c : Chip) (i : Nat) (x : Item) : (c.setItem i x).mem = c.mem := (rfl)
@[simp] theorem Chip.setItem_chans (c : Chip) (i : Nat) (x : Item) : (c.setItem i x).chans = c.chans := (rfl)
@[simp] theorem Chip.setItem_stew (c : Chip) (i : Nat) (x : Item) : (c.setItem i x).stew = c.stew := (rfl)
@[simp] theorem Chip.setItem_bru (c : Chip) (i : Nat) (x : Item) : (c.setItem i x).bru = c.bru := (rfl)
@[simp] theorem Chip.setItem_img (c : Chip) (i : Nat) (x : Item) : (c.setItem i x).img = c.img := (rfl)
@[simp] theorem Chip.setItem_hif (c : Chip) (i : Nat) (x : Item) : (c.setItem i x).hif = c.hif := (rfl)
@[simp] theorem Chip.setItem_dissolves (c : Chip) (i : Nat) (x : Item) : (c.setItem i x).dissolves = c.dissolves := (rfl)
@[simp] theorem Chip.setItem_flash (c : Chip) (i : Nat) (x : Item) : (c.setItem i x).flash = c.flash := (rfl)
@[simp] theorem Chip.setItem_otp (c : Chip) (i : Nat) (x : Item) : (c.setItem i x).otp = c.otp := (rfl)
@[simp] theorem Chip.dropItem_powered (c : Chip) (i : Nat) : (c.dropItem i).powered = c.powered := (rfl)
@[simp] theorem Chip.dropItem_held (c : Chip) (i : Nat) : (c.dropItem i).held = c.held := (rfl)
@[simp] theorem Chip.dropItem_slotId (c : Chip) (i : Nat) : (c.dropItem i).slotId = c.slotId := (rfl)
@[simp] theorem Chip.dropItem_time (c : Chip) (i : Nat) : (c.dropItem i).time = c.time := (rfl)
@[simp] theorem Chip.dropItem_clk (c : Chip) (i : Nat) : (c.dropItem i).clk = c.clk := (rfl)
@[simp] theorem Chip.dropItem_tickDue (c : Chip) (i : Nat) : (c.dropItem i).tickDue = c.tickDue := (rfl)
@[simp] theorem Chip.dropItem_gens (c : Chip) (i : Nat) : (c.dropItem i).gens = c.gens := (rfl)
@[simp] theorem Chip.dropItem_regions (c : Chip) (i : Nat) : (c.dropItem i).regions = c.regions := (rfl)
@[simp] theorem Chip.dropItem_tiles (c : Chip) (i : Nat) : (c.dropItem i).tiles = c.tiles := (rfl)
@[simp] theorem Chip.dropItem_posns (c : Chip) (i : Nat) : (c.dropItem i).posns = c.posns := (rfl)
@[simp] theorem Chip.dropItem_xng (c : Chip) (i : Nat) : (c.dropItem i).xng = c.xng := (rfl)
@[simp] theorem Chip.dropItem_queues (c : Chip) (i : Nat) : (c.dropItem i).queues = c.queues := (rfl)
@[simp] theorem Chip.dropItem_eps (c : Chip) (i : Nat) : (c.dropItem i).eps = c.eps := (rfl)
@[simp] theorem Chip.dropItem_flying (c : Chip) (i : Nat) : (c.dropItem i).flying = c.flying := (rfl)
@[simp] theorem Chip.dropItem_links (c : Chip) (i : Nat) : (c.dropItem i).links = c.links := (rfl)
@[simp] theorem Chip.dropItem_mem (c : Chip) (i : Nat) : (c.dropItem i).mem = c.mem := (rfl)
@[simp] theorem Chip.dropItem_chans (c : Chip) (i : Nat) : (c.dropItem i).chans = c.chans := (rfl)
@[simp] theorem Chip.dropItem_stew (c : Chip) (i : Nat) : (c.dropItem i).stew = c.stew := (rfl)
@[simp] theorem Chip.dropItem_bru (c : Chip) (i : Nat) : (c.dropItem i).bru = c.bru := (rfl)
@[simp] theorem Chip.dropItem_img (c : Chip) (i : Nat) : (c.dropItem i).img = c.img := (rfl)
@[simp] theorem Chip.dropItem_hif (c : Chip) (i : Nat) : (c.dropItem i).hif = c.hif := (rfl)
@[simp] theorem Chip.dropItem_dissolves (c : Chip) (i : Nat) : (c.dropItem i).dissolves = c.dissolves := (rfl)
@[simp] theorem Chip.dropItem_flash (c : Chip) (i : Nat) : (c.dropItem i).flash = c.flash := (rfl)
@[simp] theorem Chip.dropItem_otp (c : Chip) (i : Nat) : (c.dropItem i).otp = c.otp := (rfl)
@[simp] theorem Chip.setRing_powered (c : Chip) (g : Nat) (x : Ring) : (c.setRing g x).powered = c.powered := (rfl)
@[simp] theorem Chip.setRing_held (c : Chip) (g : Nat) (x : Ring) : (c.setRing g x).held = c.held := (rfl)
@[simp] theorem Chip.setRing_slotId (c : Chip) (g : Nat) (x : Ring) : (c.setRing g x).slotId = c.slotId := (rfl)
@[simp] theorem Chip.setRing_time (c : Chip) (g : Nat) (x : Ring) : (c.setRing g x).time = c.time := (rfl)
@[simp] theorem Chip.setRing_clk (c : Chip) (g : Nat) (x : Ring) : (c.setRing g x).clk = c.clk := (rfl)
@[simp] theorem Chip.setRing_tickDue (c : Chip) (g : Nat) (x : Ring) : (c.setRing g x).tickDue = c.tickDue := (rfl)
@[simp] theorem Chip.setRing_gens (c : Chip) (g : Nat) (x : Ring) : (c.setRing g x).gens = c.gens := (rfl)
@[simp] theorem Chip.setRing_regions (c : Chip) (g : Nat) (x : Ring) : (c.setRing g x).regions = c.regions := (rfl)
@[simp] theorem Chip.setRing_tiles (c : Chip) (g : Nat) (x : Ring) : (c.setRing g x).tiles = c.tiles := (rfl)
@[simp] theorem Chip.setRing_posns (c : Chip) (g : Nat) (x : Ring) : (c.setRing g x).posns = c.posns := (rfl)
@[simp] theorem Chip.setRing_xng (c : Chip) (g : Nat) (x : Ring) : (c.setRing g x).xng = c.xng := (rfl)
@[simp] theorem Chip.setRing_queues (c : Chip) (g : Nat) (x : Ring) : (c.setRing g x).queues = c.queues := (rfl)
@[simp] theorem Chip.setRing_eps (c : Chip) (g : Nat) (x : Ring) : (c.setRing g x).eps = c.eps := (rfl)
@[simp] theorem Chip.setRing_flying (c : Chip) (g : Nat) (x : Ring) : (c.setRing g x).flying = c.flying := (rfl)
@[simp] theorem Chip.setRing_links (c : Chip) (g : Nat) (x : Ring) : (c.setRing g x).links = c.links := (rfl)
@[simp] theorem Chip.setRing_mem (c : Chip) (g : Nat) (x : Ring) : (c.setRing g x).mem = c.mem := (rfl)
@[simp] theorem Chip.setRing_chans (c : Chip) (g : Nat) (x : Ring) : (c.setRing g x).chans = c.chans := (rfl)
@[simp] theorem Chip.setRing_seq (c : Chip) (g : Nat) (x : Ring) : (c.setRing g x).seq = c.seq := (rfl)
@[simp] theorem Chip.setRing_stew (c : Chip) (g : Nat) (x : Ring) : (c.setRing g x).stew = c.stew := (rfl)
@[simp] theorem Chip.setRing_bru (c : Chip) (g : Nat) (x : Ring) : (c.setRing g x).bru = c.bru := (rfl)
@[simp] theorem Chip.setRing_img (c : Chip) (g : Nat) (x : Ring) : (c.setRing g x).img = c.img := (rfl)
@[simp] theorem Chip.setRing_dissolves (c : Chip) (g : Nat) (x : Ring) : (c.setRing g x).dissolves = c.dissolves := (rfl)
@[simp] theorem Chip.setRing_flash (c : Chip) (g : Nat) (x : Ring) : (c.setRing g x).flash = c.flash := (rfl)
@[simp] theorem Chip.setRing_otp (c : Chip) (g : Nat) (x : Ring) : (c.setRing g x).otp = c.otp := (rfl)
@[simp] theorem Chip.onRailGroup_powered (c : Chip) (g : Nat) (f : RailGroup → RailGroup) : (c.onRailGroup g f).powered = c.powered := (rfl)
@[simp] theorem Chip.onRailGroup_held (c : Chip) (g : Nat) (f : RailGroup → RailGroup) : (c.onRailGroup g f).held = c.held := (rfl)
@[simp] theorem Chip.onRailGroup_slotId (c : Chip) (g : Nat) (f : RailGroup → RailGroup) : (c.onRailGroup g f).slotId = c.slotId := (rfl)
@[simp] theorem Chip.onRailGroup_time (c : Chip) (g : Nat) (f : RailGroup → RailGroup) : (c.onRailGroup g f).time = c.time := (rfl)
@[simp] theorem Chip.onRailGroup_clk (c : Chip) (g : Nat) (f : RailGroup → RailGroup) : (c.onRailGroup g f).clk = c.clk := (rfl)
@[simp] theorem Chip.onRailGroup_tickDue (c : Chip) (g : Nat) (f : RailGroup → RailGroup) : (c.onRailGroup g f).tickDue = c.tickDue := (rfl)
@[simp] theorem Chip.onRailGroup_gens (c : Chip) (g : Nat) (f : RailGroup → RailGroup) : (c.onRailGroup g f).gens = c.gens := (rfl)
@[simp] theorem Chip.onRailGroup_regions (c : Chip) (g : Nat) (f : RailGroup → RailGroup) : (c.onRailGroup g f).regions = c.regions := (rfl)
@[simp] theorem Chip.onRailGroup_tiles (c : Chip) (g : Nat) (f : RailGroup → RailGroup) : (c.onRailGroup g f).tiles = c.tiles := (rfl)
@[simp] theorem Chip.onRailGroup_posns (c : Chip) (g : Nat) (f : RailGroup → RailGroup) : (c.onRailGroup g f).posns = c.posns := (rfl)
@[simp] theorem Chip.onRailGroup_xng (c : Chip) (g : Nat) (f : RailGroup → RailGroup) : (c.onRailGroup g f).xng = c.xng := (rfl)
@[simp] theorem Chip.onRailGroup_queues (c : Chip) (g : Nat) (f : RailGroup → RailGroup) : (c.onRailGroup g f).queues = c.queues := (rfl)
@[simp] theorem Chip.onRailGroup_eps (c : Chip) (g : Nat) (f : RailGroup → RailGroup) : (c.onRailGroup g f).eps = c.eps := (rfl)
@[simp] theorem Chip.onRailGroup_flying (c : Chip) (g : Nat) (f : RailGroup → RailGroup) : (c.onRailGroup g f).flying = c.flying := (rfl)
@[simp] theorem Chip.onRailGroup_links (c : Chip) (g : Nat) (f : RailGroup → RailGroup) : (c.onRailGroup g f).links = c.links := (rfl)
@[simp] theorem Chip.onRailGroup_mem (c : Chip) (g : Nat) (f : RailGroup → RailGroup) : (c.onRailGroup g f).mem = c.mem := (rfl)
@[simp] theorem Chip.onRailGroup_chans (c : Chip) (g : Nat) (f : RailGroup → RailGroup) : (c.onRailGroup g f).chans = c.chans := (rfl)
@[simp] theorem Chip.onRailGroup_seq (c : Chip) (g : Nat) (f : RailGroup → RailGroup) : (c.onRailGroup g f).seq = c.seq := (rfl)
@[simp] theorem Chip.onRailGroup_bru (c : Chip) (g : Nat) (f : RailGroup → RailGroup) : (c.onRailGroup g f).bru = c.bru := (rfl)
@[simp] theorem Chip.onRailGroup_img (c : Chip) (g : Nat) (f : RailGroup → RailGroup) : (c.onRailGroup g f).img = c.img := (rfl)
@[simp] theorem Chip.onRailGroup_hif (c : Chip) (g : Nat) (f : RailGroup → RailGroup) : (c.onRailGroup g f).hif = c.hif := (rfl)
@[simp] theorem Chip.onRailGroup_dissolves (c : Chip) (g : Nat) (f : RailGroup → RailGroup) : (c.onRailGroup g f).dissolves = c.dissolves := (rfl)
@[simp] theorem Chip.onRailGroup_flash (c : Chip) (g : Nat) (f : RailGroup → RailGroup) : (c.onRailGroup g f).flash = c.flash := (rfl)
@[simp] theorem Chip.onRailGroup_otp (c : Chip) (g : Nat) (f : RailGroup → RailGroup) : (c.onRailGroup g f).otp = c.otp := (rfl)
@[simp] theorem Chip.onClk_powered (c : Chip) (f : Clock → Clock) : (c.onClk f).powered = c.powered := (rfl)
@[simp] theorem Chip.onClk_held (c : Chip) (f : Clock → Clock) : (c.onClk f).held = c.held := (rfl)
@[simp] theorem Chip.onClk_slotId (c : Chip) (f : Clock → Clock) : (c.onClk f).slotId = c.slotId := (rfl)
@[simp] theorem Chip.onClk_time (c : Chip) (f : Clock → Clock) : (c.onClk f).time = c.time := (rfl)
@[simp] theorem Chip.onClk_tickDue (c : Chip) (f : Clock → Clock) : (c.onClk f).tickDue = c.tickDue := (rfl)
@[simp] theorem Chip.onClk_gens (c : Chip) (f : Clock → Clock) : (c.onClk f).gens = c.gens := (rfl)
@[simp] theorem Chip.onClk_regions (c : Chip) (f : Clock → Clock) : (c.onClk f).regions = c.regions := (rfl)
@[simp] theorem Chip.onClk_tiles (c : Chip) (f : Clock → Clock) : (c.onClk f).tiles = c.tiles := (rfl)
@[simp] theorem Chip.onClk_posns (c : Chip) (f : Clock → Clock) : (c.onClk f).posns = c.posns := (rfl)
@[simp] theorem Chip.onClk_xng (c : Chip) (f : Clock → Clock) : (c.onClk f).xng = c.xng := (rfl)
@[simp] theorem Chip.onClk_queues (c : Chip) (f : Clock → Clock) : (c.onClk f).queues = c.queues := (rfl)
@[simp] theorem Chip.onClk_eps (c : Chip) (f : Clock → Clock) : (c.onClk f).eps = c.eps := (rfl)
@[simp] theorem Chip.onClk_flying (c : Chip) (f : Clock → Clock) : (c.onClk f).flying = c.flying := (rfl)
@[simp] theorem Chip.onClk_links (c : Chip) (f : Clock → Clock) : (c.onClk f).links = c.links := (rfl)
@[simp] theorem Chip.onClk_mem (c : Chip) (f : Clock → Clock) : (c.onClk f).mem = c.mem := (rfl)
@[simp] theorem Chip.onClk_chans (c : Chip) (f : Clock → Clock) : (c.onClk f).chans = c.chans := (rfl)
@[simp] theorem Chip.onClk_seq (c : Chip) (f : Clock → Clock) : (c.onClk f).seq = c.seq := (rfl)
@[simp] theorem Chip.onClk_stew (c : Chip) (f : Clock → Clock) : (c.onClk f).stew = c.stew := (rfl)
@[simp] theorem Chip.onClk_bru (c : Chip) (f : Clock → Clock) : (c.onClk f).bru = c.bru := (rfl)
@[simp] theorem Chip.onClk_img (c : Chip) (f : Clock → Clock) : (c.onClk f).img = c.img := (rfl)
@[simp] theorem Chip.onClk_hif (c : Chip) (f : Clock → Clock) : (c.onClk f).hif = c.hif := (rfl)
@[simp] theorem Chip.onClk_dissolves (c : Chip) (f : Clock → Clock) : (c.onClk f).dissolves = c.dissolves := (rfl)
@[simp] theorem Chip.onClk_flash (c : Chip) (f : Clock → Clock) : (c.onClk f).flash = c.flash := (rfl)
@[simp] theorem Chip.onClk_otp (c : Chip) (f : Clock → Clock) : (c.onClk f).otp = c.otp := (rfl)
@[simp] theorem Chip.onClk_clk_eq (c : Chip) (f : Clock → Clock) : (c.onClk f).clk = f c.clk := (rfl)
@[simp] theorem Chip.onTime_powered (c : Chip) (f : TimeBase → TimeBase) : (c.onTime f).powered = c.powered := (rfl)
@[simp] theorem Chip.onTime_held (c : Chip) (f : TimeBase → TimeBase) : (c.onTime f).held = c.held := (rfl)
@[simp] theorem Chip.onTime_slotId (c : Chip) (f : TimeBase → TimeBase) : (c.onTime f).slotId = c.slotId := (rfl)
@[simp] theorem Chip.onTime_clk (c : Chip) (f : TimeBase → TimeBase) : (c.onTime f).clk = c.clk := (rfl)
@[simp] theorem Chip.onTime_tickDue (c : Chip) (f : TimeBase → TimeBase) : (c.onTime f).tickDue = c.tickDue := (rfl)
@[simp] theorem Chip.onTime_gens (c : Chip) (f : TimeBase → TimeBase) : (c.onTime f).gens = c.gens := (rfl)
@[simp] theorem Chip.onTime_regions (c : Chip) (f : TimeBase → TimeBase) : (c.onTime f).regions = c.regions := (rfl)
@[simp] theorem Chip.onTime_tiles (c : Chip) (f : TimeBase → TimeBase) : (c.onTime f).tiles = c.tiles := (rfl)
@[simp] theorem Chip.onTime_posns (c : Chip) (f : TimeBase → TimeBase) : (c.onTime f).posns = c.posns := (rfl)
@[simp] theorem Chip.onTime_xng (c : Chip) (f : TimeBase → TimeBase) : (c.onTime f).xng = c.xng := (rfl)
@[simp] theorem Chip.onTime_queues (c : Chip) (f : TimeBase → TimeBase) : (c.onTime f).queues = c.queues := (rfl)
@[simp] theorem Chip.onTime_eps (c : Chip) (f : TimeBase → TimeBase) : (c.onTime f).eps = c.eps := (rfl)
@[simp] theorem Chip.onTime_flying (c : Chip) (f : TimeBase → TimeBase) : (c.onTime f).flying = c.flying := (rfl)
@[simp] theorem Chip.onTime_links (c : Chip) (f : TimeBase → TimeBase) : (c.onTime f).links = c.links := (rfl)
@[simp] theorem Chip.onTime_mem (c : Chip) (f : TimeBase → TimeBase) : (c.onTime f).mem = c.mem := (rfl)
@[simp] theorem Chip.onTime_chans (c : Chip) (f : TimeBase → TimeBase) : (c.onTime f).chans = c.chans := (rfl)
@[simp] theorem Chip.onTime_seq (c : Chip) (f : TimeBase → TimeBase) : (c.onTime f).seq = c.seq := (rfl)
@[simp] theorem Chip.onTime_stew (c : Chip) (f : TimeBase → TimeBase) : (c.onTime f).stew = c.stew := (rfl)
@[simp] theorem Chip.onTime_bru (c : Chip) (f : TimeBase → TimeBase) : (c.onTime f).bru = c.bru := (rfl)
@[simp] theorem Chip.onTime_img (c : Chip) (f : TimeBase → TimeBase) : (c.onTime f).img = c.img := (rfl)
@[simp] theorem Chip.onTime_hif (c : Chip) (f : TimeBase → TimeBase) : (c.onTime f).hif = c.hif := (rfl)
@[simp] theorem Chip.onTime_dissolves (c : Chip) (f : TimeBase → TimeBase) : (c.onTime f).dissolves = c.dissolves := (rfl)
@[simp] theorem Chip.onTime_flash (c : Chip) (f : TimeBase → TimeBase) : (c.onTime f).flash = c.flash := (rfl)
@[simp] theorem Chip.onTime_otp (c : Chip) (f : TimeBase → TimeBase) : (c.onTime f).otp = c.otp := (rfl)
@[simp] theorem Chip.onTime_time_eq (c : Chip) (f : TimeBase → TimeBase) : (c.onTime f).time = f c.time := (rfl)
@[simp] theorem Chip.onXng_powered (c : Chip) (f : Xng → Xng) : (c.onXng f).powered = c.powered := (rfl)
@[simp] theorem Chip.onXng_held (c : Chip) (f : Xng → Xng) : (c.onXng f).held = c.held := (rfl)
@[simp] theorem Chip.onXng_slotId (c : Chip) (f : Xng → Xng) : (c.onXng f).slotId = c.slotId := (rfl)
@[simp] theorem Chip.onXng_time (c : Chip) (f : Xng → Xng) : (c.onXng f).time = c.time := (rfl)
@[simp] theorem Chip.onXng_clk (c : Chip) (f : Xng → Xng) : (c.onXng f).clk = c.clk := (rfl)
@[simp] theorem Chip.onXng_tickDue (c : Chip) (f : Xng → Xng) : (c.onXng f).tickDue = c.tickDue := (rfl)
@[simp] theorem Chip.onXng_gens (c : Chip) (f : Xng → Xng) : (c.onXng f).gens = c.gens := (rfl)
@[simp] theorem Chip.onXng_regions (c : Chip) (f : Xng → Xng) : (c.onXng f).regions = c.regions := (rfl)
@[simp] theorem Chip.onXng_tiles (c : Chip) (f : Xng → Xng) : (c.onXng f).tiles = c.tiles := (rfl)
@[simp] theorem Chip.onXng_posns (c : Chip) (f : Xng → Xng) : (c.onXng f).posns = c.posns := (rfl)
@[simp] theorem Chip.onXng_queues (c : Chip) (f : Xng → Xng) : (c.onXng f).queues = c.queues := (rfl)
@[simp] theorem Chip.onXng_eps (c : Chip) (f : Xng → Xng) : (c.onXng f).eps = c.eps := (rfl)
@[simp] theorem Chip.onXng_flying (c : Chip) (f : Xng → Xng) : (c.onXng f).flying = c.flying := (rfl)
@[simp] theorem Chip.onXng_links (c : Chip) (f : Xng → Xng) : (c.onXng f).links = c.links := (rfl)
@[simp] theorem Chip.onXng_mem (c : Chip) (f : Xng → Xng) : (c.onXng f).mem = c.mem := (rfl)
@[simp] theorem Chip.onXng_chans (c : Chip) (f : Xng → Xng) : (c.onXng f).chans = c.chans := (rfl)
@[simp] theorem Chip.onXng_seq (c : Chip) (f : Xng → Xng) : (c.onXng f).seq = c.seq := (rfl)
@[simp] theorem Chip.onXng_stew (c : Chip) (f : Xng → Xng) : (c.onXng f).stew = c.stew := (rfl)
@[simp] theorem Chip.onXng_bru (c : Chip) (f : Xng → Xng) : (c.onXng f).bru = c.bru := (rfl)
@[simp] theorem Chip.onXng_img (c : Chip) (f : Xng → Xng) : (c.onXng f).img = c.img := (rfl)
@[simp] theorem Chip.onXng_hif (c : Chip) (f : Xng → Xng) : (c.onXng f).hif = c.hif := (rfl)
@[simp] theorem Chip.onXng_dissolves (c : Chip) (f : Xng → Xng) : (c.onXng f).dissolves = c.dissolves := (rfl)
@[simp] theorem Chip.onXng_flash (c : Chip) (f : Xng → Xng) : (c.onXng f).flash = c.flash := (rfl)
@[simp] theorem Chip.onXng_otp (c : Chip) (f : Xng → Xng) : (c.onXng f).otp = c.otp := (rfl)
@[simp] theorem Chip.onXng_xng_eq (c : Chip) (f : Xng → Xng) : (c.onXng f).xng = f c.xng := (rfl)
@[simp] theorem Chip.onStew_powered (c : Chip) (f : Stew → Stew) : (c.onStew f).powered = c.powered := (rfl)
@[simp] theorem Chip.onStew_held (c : Chip) (f : Stew → Stew) : (c.onStew f).held = c.held := (rfl)
@[simp] theorem Chip.onStew_slotId (c : Chip) (f : Stew → Stew) : (c.onStew f).slotId = c.slotId := (rfl)
@[simp] theorem Chip.onStew_time (c : Chip) (f : Stew → Stew) : (c.onStew f).time = c.time := (rfl)
@[simp] theorem Chip.onStew_clk (c : Chip) (f : Stew → Stew) : (c.onStew f).clk = c.clk := (rfl)
@[simp] theorem Chip.onStew_tickDue (c : Chip) (f : Stew → Stew) : (c.onStew f).tickDue = c.tickDue := (rfl)
@[simp] theorem Chip.onStew_gens (c : Chip) (f : Stew → Stew) : (c.onStew f).gens = c.gens := (rfl)
@[simp] theorem Chip.onStew_regions (c : Chip) (f : Stew → Stew) : (c.onStew f).regions = c.regions := (rfl)
@[simp] theorem Chip.onStew_tiles (c : Chip) (f : Stew → Stew) : (c.onStew f).tiles = c.tiles := (rfl)
@[simp] theorem Chip.onStew_posns (c : Chip) (f : Stew → Stew) : (c.onStew f).posns = c.posns := (rfl)
@[simp] theorem Chip.onStew_xng (c : Chip) (f : Stew → Stew) : (c.onStew f).xng = c.xng := (rfl)
@[simp] theorem Chip.onStew_queues (c : Chip) (f : Stew → Stew) : (c.onStew f).queues = c.queues := (rfl)
@[simp] theorem Chip.onStew_eps (c : Chip) (f : Stew → Stew) : (c.onStew f).eps = c.eps := (rfl)
@[simp] theorem Chip.onStew_flying (c : Chip) (f : Stew → Stew) : (c.onStew f).flying = c.flying := (rfl)
@[simp] theorem Chip.onStew_links (c : Chip) (f : Stew → Stew) : (c.onStew f).links = c.links := (rfl)
@[simp] theorem Chip.onStew_mem (c : Chip) (f : Stew → Stew) : (c.onStew f).mem = c.mem := (rfl)
@[simp] theorem Chip.onStew_chans (c : Chip) (f : Stew → Stew) : (c.onStew f).chans = c.chans := (rfl)
@[simp] theorem Chip.onStew_seq (c : Chip) (f : Stew → Stew) : (c.onStew f).seq = c.seq := (rfl)
@[simp] theorem Chip.onStew_bru (c : Chip) (f : Stew → Stew) : (c.onStew f).bru = c.bru := (rfl)
@[simp] theorem Chip.onStew_img (c : Chip) (f : Stew → Stew) : (c.onStew f).img = c.img := (rfl)
@[simp] theorem Chip.onStew_hif (c : Chip) (f : Stew → Stew) : (c.onStew f).hif = c.hif := (rfl)
@[simp] theorem Chip.onStew_dissolves (c : Chip) (f : Stew → Stew) : (c.onStew f).dissolves = c.dissolves := (rfl)
@[simp] theorem Chip.onStew_flash (c : Chip) (f : Stew → Stew) : (c.onStew f).flash = c.flash := (rfl)
@[simp] theorem Chip.onStew_otp (c : Chip) (f : Stew → Stew) : (c.onStew f).otp = c.otp := (rfl)
@[simp] theorem Chip.onStew_stew_eq (c : Chip) (f : Stew → Stew) : (c.onStew f).stew = f c.stew := (rfl)
@[simp] theorem Chip.onSeq_powered (c : Chip) (f : Seq → Seq) : (c.onSeq f).powered = c.powered := (rfl)
@[simp] theorem Chip.onSeq_held (c : Chip) (f : Seq → Seq) : (c.onSeq f).held = c.held := (rfl)
@[simp] theorem Chip.onSeq_slotId (c : Chip) (f : Seq → Seq) : (c.onSeq f).slotId = c.slotId := (rfl)
@[simp] theorem Chip.onSeq_time (c : Chip) (f : Seq → Seq) : (c.onSeq f).time = c.time := (rfl)
@[simp] theorem Chip.onSeq_clk (c : Chip) (f : Seq → Seq) : (c.onSeq f).clk = c.clk := (rfl)
@[simp] theorem Chip.onSeq_tickDue (c : Chip) (f : Seq → Seq) : (c.onSeq f).tickDue = c.tickDue := (rfl)
@[simp] theorem Chip.onSeq_gens (c : Chip) (f : Seq → Seq) : (c.onSeq f).gens = c.gens := (rfl)
@[simp] theorem Chip.onSeq_regions (c : Chip) (f : Seq → Seq) : (c.onSeq f).regions = c.regions := (rfl)
@[simp] theorem Chip.onSeq_tiles (c : Chip) (f : Seq → Seq) : (c.onSeq f).tiles = c.tiles := (rfl)
@[simp] theorem Chip.onSeq_posns (c : Chip) (f : Seq → Seq) : (c.onSeq f).posns = c.posns := (rfl)
@[simp] theorem Chip.onSeq_xng (c : Chip) (f : Seq → Seq) : (c.onSeq f).xng = c.xng := (rfl)
@[simp] theorem Chip.onSeq_queues (c : Chip) (f : Seq → Seq) : (c.onSeq f).queues = c.queues := (rfl)
@[simp] theorem Chip.onSeq_eps (c : Chip) (f : Seq → Seq) : (c.onSeq f).eps = c.eps := (rfl)
@[simp] theorem Chip.onSeq_flying (c : Chip) (f : Seq → Seq) : (c.onSeq f).flying = c.flying := (rfl)
@[simp] theorem Chip.onSeq_links (c : Chip) (f : Seq → Seq) : (c.onSeq f).links = c.links := (rfl)
@[simp] theorem Chip.onSeq_mem (c : Chip) (f : Seq → Seq) : (c.onSeq f).mem = c.mem := (rfl)
@[simp] theorem Chip.onSeq_chans (c : Chip) (f : Seq → Seq) : (c.onSeq f).chans = c.chans := (rfl)
@[simp] theorem Chip.onSeq_stew (c : Chip) (f : Seq → Seq) : (c.onSeq f).stew = c.stew := (rfl)
@[simp] theorem Chip.onSeq_bru (c : Chip) (f : Seq → Seq) : (c.onSeq f).bru = c.bru := (rfl)
@[simp] theorem Chip.onSeq_img (c : Chip) (f : Seq → Seq) : (c.onSeq f).img = c.img := (rfl)
@[simp] theorem Chip.onSeq_hif (c : Chip) (f : Seq → Seq) : (c.onSeq f).hif = c.hif := (rfl)
@[simp] theorem Chip.onSeq_dissolves (c : Chip) (f : Seq → Seq) : (c.onSeq f).dissolves = c.dissolves := (rfl)
@[simp] theorem Chip.onSeq_flash (c : Chip) (f : Seq → Seq) : (c.onSeq f).flash = c.flash := (rfl)
@[simp] theorem Chip.onSeq_otp (c : Chip) (f : Seq → Seq) : (c.onSeq f).otp = c.otp := (rfl)
@[simp] theorem Chip.onSeq_seq_eq (c : Chip) (f : Seq → Seq) : (c.onSeq f).seq = f c.seq := (rfl)
@[simp] theorem Chip.onHif_powered (c : Chip) (f : Hif → Hif) : (c.onHif f).powered = c.powered := (rfl)
@[simp] theorem Chip.onHif_held (c : Chip) (f : Hif → Hif) : (c.onHif f).held = c.held := (rfl)
@[simp] theorem Chip.onHif_slotId (c : Chip) (f : Hif → Hif) : (c.onHif f).slotId = c.slotId := (rfl)
@[simp] theorem Chip.onHif_time (c : Chip) (f : Hif → Hif) : (c.onHif f).time = c.time := (rfl)
@[simp] theorem Chip.onHif_clk (c : Chip) (f : Hif → Hif) : (c.onHif f).clk = c.clk := (rfl)
@[simp] theorem Chip.onHif_tickDue (c : Chip) (f : Hif → Hif) : (c.onHif f).tickDue = c.tickDue := (rfl)
@[simp] theorem Chip.onHif_gens (c : Chip) (f : Hif → Hif) : (c.onHif f).gens = c.gens := (rfl)
@[simp] theorem Chip.onHif_regions (c : Chip) (f : Hif → Hif) : (c.onHif f).regions = c.regions := (rfl)
@[simp] theorem Chip.onHif_tiles (c : Chip) (f : Hif → Hif) : (c.onHif f).tiles = c.tiles := (rfl)
@[simp] theorem Chip.onHif_posns (c : Chip) (f : Hif → Hif) : (c.onHif f).posns = c.posns := (rfl)
@[simp] theorem Chip.onHif_xng (c : Chip) (f : Hif → Hif) : (c.onHif f).xng = c.xng := (rfl)
@[simp] theorem Chip.onHif_queues (c : Chip) (f : Hif → Hif) : (c.onHif f).queues = c.queues := (rfl)
@[simp] theorem Chip.onHif_eps (c : Chip) (f : Hif → Hif) : (c.onHif f).eps = c.eps := (rfl)
@[simp] theorem Chip.onHif_flying (c : Chip) (f : Hif → Hif) : (c.onHif f).flying = c.flying := (rfl)
@[simp] theorem Chip.onHif_links (c : Chip) (f : Hif → Hif) : (c.onHif f).links = c.links := (rfl)
@[simp] theorem Chip.onHif_mem (c : Chip) (f : Hif → Hif) : (c.onHif f).mem = c.mem := (rfl)
@[simp] theorem Chip.onHif_chans (c : Chip) (f : Hif → Hif) : (c.onHif f).chans = c.chans := (rfl)
@[simp] theorem Chip.onHif_seq (c : Chip) (f : Hif → Hif) : (c.onHif f).seq = c.seq := (rfl)
@[simp] theorem Chip.onHif_stew (c : Chip) (f : Hif → Hif) : (c.onHif f).stew = c.stew := (rfl)
@[simp] theorem Chip.onHif_bru (c : Chip) (f : Hif → Hif) : (c.onHif f).bru = c.bru := (rfl)
@[simp] theorem Chip.onHif_img (c : Chip) (f : Hif → Hif) : (c.onHif f).img = c.img := (rfl)
@[simp] theorem Chip.onHif_dissolves (c : Chip) (f : Hif → Hif) : (c.onHif f).dissolves = c.dissolves := (rfl)
@[simp] theorem Chip.onHif_flash (c : Chip) (f : Hif → Hif) : (c.onHif f).flash = c.flash := (rfl)
@[simp] theorem Chip.onHif_otp (c : Chip) (f : Hif → Hif) : (c.onHif f).otp = c.otp := (rfl)
@[simp] theorem Chip.onHif_hif_eq (c : Chip) (f : Hif → Hif) : (c.onHif f).hif = f c.hif := (rfl)
@[simp] theorem Chip.onImg_powered (c : Chip) (f : Img → Img) : (c.onImg f).powered = c.powered := (rfl)
@[simp] theorem Chip.onImg_held (c : Chip) (f : Img → Img) : (c.onImg f).held = c.held := (rfl)
@[simp] theorem Chip.onImg_slotId (c : Chip) (f : Img → Img) : (c.onImg f).slotId = c.slotId := (rfl)
@[simp] theorem Chip.onImg_time (c : Chip) (f : Img → Img) : (c.onImg f).time = c.time := (rfl)
@[simp] theorem Chip.onImg_clk (c : Chip) (f : Img → Img) : (c.onImg f).clk = c.clk := (rfl)
@[simp] theorem Chip.onImg_tickDue (c : Chip) (f : Img → Img) : (c.onImg f).tickDue = c.tickDue := (rfl)
@[simp] theorem Chip.onImg_gens (c : Chip) (f : Img → Img) : (c.onImg f).gens = c.gens := (rfl)
@[simp] theorem Chip.onImg_regions (c : Chip) (f : Img → Img) : (c.onImg f).regions = c.regions := (rfl)
@[simp] theorem Chip.onImg_tiles (c : Chip) (f : Img → Img) : (c.onImg f).tiles = c.tiles := (rfl)
@[simp] theorem Chip.onImg_posns (c : Chip) (f : Img → Img) : (c.onImg f).posns = c.posns := (rfl)
@[simp] theorem Chip.onImg_xng (c : Chip) (f : Img → Img) : (c.onImg f).xng = c.xng := (rfl)
@[simp] theorem Chip.onImg_queues (c : Chip) (f : Img → Img) : (c.onImg f).queues = c.queues := (rfl)
@[simp] theorem Chip.onImg_eps (c : Chip) (f : Img → Img) : (c.onImg f).eps = c.eps := (rfl)
@[simp] theorem Chip.onImg_flying (c : Chip) (f : Img → Img) : (c.onImg f).flying = c.flying := (rfl)
@[simp] theorem Chip.onImg_links (c : Chip) (f : Img → Img) : (c.onImg f).links = c.links := (rfl)
@[simp] theorem Chip.onImg_mem (c : Chip) (f : Img → Img) : (c.onImg f).mem = c.mem := (rfl)
@[simp] theorem Chip.onImg_chans (c : Chip) (f : Img → Img) : (c.onImg f).chans = c.chans := (rfl)
@[simp] theorem Chip.onImg_seq (c : Chip) (f : Img → Img) : (c.onImg f).seq = c.seq := (rfl)
@[simp] theorem Chip.onImg_stew (c : Chip) (f : Img → Img) : (c.onImg f).stew = c.stew := (rfl)
@[simp] theorem Chip.onImg_bru (c : Chip) (f : Img → Img) : (c.onImg f).bru = c.bru := (rfl)
@[simp] theorem Chip.onImg_hif (c : Chip) (f : Img → Img) : (c.onImg f).hif = c.hif := (rfl)
@[simp] theorem Chip.onImg_dissolves (c : Chip) (f : Img → Img) : (c.onImg f).dissolves = c.dissolves := (rfl)
@[simp] theorem Chip.onImg_flash (c : Chip) (f : Img → Img) : (c.onImg f).flash = c.flash := (rfl)
@[simp] theorem Chip.onImg_otp (c : Chip) (f : Img → Img) : (c.onImg f).otp = c.otp := (rfl)
@[simp] theorem Chip.onImg_img_eq (c : Chip) (f : Img → Img) : (c.onImg f).img = f c.img := (rfl)
@[simp] theorem Chip.onBru_powered (c : Chip) (f : Bru → Bru) : (c.onBru f).powered = c.powered := (rfl)
@[simp] theorem Chip.onBru_held (c : Chip) (f : Bru → Bru) : (c.onBru f).held = c.held := (rfl)
@[simp] theorem Chip.onBru_slotId (c : Chip) (f : Bru → Bru) : (c.onBru f).slotId = c.slotId := (rfl)
@[simp] theorem Chip.onBru_time (c : Chip) (f : Bru → Bru) : (c.onBru f).time = c.time := (rfl)
@[simp] theorem Chip.onBru_clk (c : Chip) (f : Bru → Bru) : (c.onBru f).clk = c.clk := (rfl)
@[simp] theorem Chip.onBru_tickDue (c : Chip) (f : Bru → Bru) : (c.onBru f).tickDue = c.tickDue := (rfl)
@[simp] theorem Chip.onBru_gens (c : Chip) (f : Bru → Bru) : (c.onBru f).gens = c.gens := (rfl)
@[simp] theorem Chip.onBru_regions (c : Chip) (f : Bru → Bru) : (c.onBru f).regions = c.regions := (rfl)
@[simp] theorem Chip.onBru_tiles (c : Chip) (f : Bru → Bru) : (c.onBru f).tiles = c.tiles := (rfl)
@[simp] theorem Chip.onBru_posns (c : Chip) (f : Bru → Bru) : (c.onBru f).posns = c.posns := (rfl)
@[simp] theorem Chip.onBru_xng (c : Chip) (f : Bru → Bru) : (c.onBru f).xng = c.xng := (rfl)
@[simp] theorem Chip.onBru_queues (c : Chip) (f : Bru → Bru) : (c.onBru f).queues = c.queues := (rfl)
@[simp] theorem Chip.onBru_eps (c : Chip) (f : Bru → Bru) : (c.onBru f).eps = c.eps := (rfl)
@[simp] theorem Chip.onBru_flying (c : Chip) (f : Bru → Bru) : (c.onBru f).flying = c.flying := (rfl)
@[simp] theorem Chip.onBru_links (c : Chip) (f : Bru → Bru) : (c.onBru f).links = c.links := (rfl)
@[simp] theorem Chip.onBru_mem (c : Chip) (f : Bru → Bru) : (c.onBru f).mem = c.mem := (rfl)
@[simp] theorem Chip.onBru_chans (c : Chip) (f : Bru → Bru) : (c.onBru f).chans = c.chans := (rfl)
@[simp] theorem Chip.onBru_seq (c : Chip) (f : Bru → Bru) : (c.onBru f).seq = c.seq := (rfl)
@[simp] theorem Chip.onBru_stew (c : Chip) (f : Bru → Bru) : (c.onBru f).stew = c.stew := (rfl)
@[simp] theorem Chip.onBru_img (c : Chip) (f : Bru → Bru) : (c.onBru f).img = c.img := (rfl)
@[simp] theorem Chip.onBru_hif (c : Chip) (f : Bru → Bru) : (c.onBru f).hif = c.hif := (rfl)
@[simp] theorem Chip.onBru_dissolves (c : Chip) (f : Bru → Bru) : (c.onBru f).dissolves = c.dissolves := (rfl)
@[simp] theorem Chip.onBru_flash (c : Chip) (f : Bru → Bru) : (c.onBru f).flash = c.flash := (rfl)
@[simp] theorem Chip.onBru_otp (c : Chip) (f : Bru → Bru) : (c.onBru f).otp = c.otp := (rfl)
@[simp] theorem Chip.onBru_bru_eq (c : Chip) (f : Bru → Bru) : (c.onBru f).bru = f c.bru := (rfl)
@[simp] theorem Chip.fault_powered (c : Chip) (g : Tag) (nn i : Nat) : (c.fault g nn i).powered = c.powered := (rfl)
@[simp] theorem Chip.fault_held (c : Chip) (g : Tag) (nn i : Nat) : (c.fault g nn i).held = c.held := (rfl)
@[simp] theorem Chip.fault_slotId (c : Chip) (g : Tag) (nn i : Nat) : (c.fault g nn i).slotId = c.slotId := (rfl)
@[simp] theorem Chip.fault_time (c : Chip) (g : Tag) (nn i : Nat) : (c.fault g nn i).time = c.time := (rfl)
@[simp] theorem Chip.fault_clk (c : Chip) (g : Tag) (nn i : Nat) : (c.fault g nn i).clk = c.clk := (rfl)
@[simp] theorem Chip.fault_tickDue (c : Chip) (g : Tag) (nn i : Nat) : (c.fault g nn i).tickDue = c.tickDue := (rfl)
@[simp] theorem Chip.fault_gens (c : Chip) (g : Tag) (nn i : Nat) : (c.fault g nn i).gens = c.gens := (rfl)
@[simp] theorem Chip.fault_regions (c : Chip) (g : Tag) (nn i : Nat) : (c.fault g nn i).regions = c.regions := (rfl)
@[simp] theorem Chip.fault_tiles (c : Chip) (g : Tag) (nn i : Nat) : (c.fault g nn i).tiles = c.tiles := (rfl)
@[simp] theorem Chip.fault_posns (c : Chip) (g : Tag) (nn i : Nat) : (c.fault g nn i).posns = c.posns := (rfl)
@[simp] theorem Chip.fault_xng (c : Chip) (g : Tag) (nn i : Nat) : (c.fault g nn i).xng = c.xng := (rfl)
@[simp] theorem Chip.fault_queues (c : Chip) (g : Tag) (nn i : Nat) : (c.fault g nn i).queues = c.queues := (rfl)
@[simp] theorem Chip.fault_eps (c : Chip) (g : Tag) (nn i : Nat) : (c.fault g nn i).eps = c.eps := (rfl)
@[simp] theorem Chip.fault_flying (c : Chip) (g : Tag) (nn i : Nat) : (c.fault g nn i).flying = c.flying := (rfl)
@[simp] theorem Chip.fault_links (c : Chip) (g : Tag) (nn i : Nat) : (c.fault g nn i).links = c.links := (rfl)
@[simp] theorem Chip.fault_mem (c : Chip) (g : Tag) (nn i : Nat) : (c.fault g nn i).mem = c.mem := (rfl)
@[simp] theorem Chip.fault_chans (c : Chip) (g : Tag) (nn i : Nat) : (c.fault g nn i).chans = c.chans := (rfl)
@[simp] theorem Chip.fault_seq (c : Chip) (g : Tag) (nn i : Nat) : (c.fault g nn i).seq = c.seq := (rfl)
@[simp] theorem Chip.fault_stew (c : Chip) (g : Tag) (nn i : Nat) : (c.fault g nn i).stew = c.stew := (rfl)
@[simp] theorem Chip.fault_bru (c : Chip) (g : Tag) (nn i : Nat) : (c.fault g nn i).bru = c.bru := (rfl)
@[simp] theorem Chip.fault_img (c : Chip) (g : Tag) (nn i : Nat) : (c.fault g nn i).img = c.img := (rfl)
@[simp] theorem Chip.fault_dissolves (c : Chip) (g : Tag) (nn i : Nat) : (c.fault g nn i).dissolves = c.dissolves := (rfl)
@[simp] theorem Chip.fault_flash (c : Chip) (g : Tag) (nn i : Nat) : (c.fault g nn i).flash = c.flash := (rfl)
@[simp] theorem Chip.fault_otp (c : Chip) (g : Tag) (nn i : Nat) : (c.fault g nn i).otp = c.otp := (rfl)
@[simp] theorem Chip.faultIf_powered (c : Chip) (b : Bool) (g : Tag) (nn i : Nat) : (c.faultIf b g nn i).powered = c.powered := by
  cases b <;> rfl
@[simp] theorem Chip.faultIf_held (c : Chip) (b : Bool) (g : Tag) (nn i : Nat) : (c.faultIf b g nn i).held = c.held := by
  cases b <;> rfl
@[simp] theorem Chip.faultIf_slotId (c : Chip) (b : Bool) (g : Tag) (nn i : Nat) : (c.faultIf b g nn i).slotId = c.slotId := by
  cases b <;> rfl
@[simp] theorem Chip.faultIf_time (c : Chip) (b : Bool) (g : Tag) (nn i : Nat) : (c.faultIf b g nn i).time = c.time := by
  cases b <;> rfl
@[simp] theorem Chip.faultIf_clk (c : Chip) (b : Bool) (g : Tag) (nn i : Nat) : (c.faultIf b g nn i).clk = c.clk := by
  cases b <;> rfl
@[simp] theorem Chip.faultIf_tickDue (c : Chip) (b : Bool) (g : Tag) (nn i : Nat) : (c.faultIf b g nn i).tickDue = c.tickDue := by
  cases b <;> rfl
@[simp] theorem Chip.faultIf_gens (c : Chip) (b : Bool) (g : Tag) (nn i : Nat) : (c.faultIf b g nn i).gens = c.gens := by
  cases b <;> rfl
@[simp] theorem Chip.faultIf_regions (c : Chip) (b : Bool) (g : Tag) (nn i : Nat) : (c.faultIf b g nn i).regions = c.regions := by
  cases b <;> rfl
@[simp] theorem Chip.faultIf_tiles (c : Chip) (b : Bool) (g : Tag) (nn i : Nat) : (c.faultIf b g nn i).tiles = c.tiles := by
  cases b <;> rfl
@[simp] theorem Chip.faultIf_posns (c : Chip) (b : Bool) (g : Tag) (nn i : Nat) : (c.faultIf b g nn i).posns = c.posns := by
  cases b <;> rfl
@[simp] theorem Chip.faultIf_xng (c : Chip) (b : Bool) (g : Tag) (nn i : Nat) : (c.faultIf b g nn i).xng = c.xng := by
  cases b <;> rfl
@[simp] theorem Chip.faultIf_queues (c : Chip) (b : Bool) (g : Tag) (nn i : Nat) : (c.faultIf b g nn i).queues = c.queues := by
  cases b <;> rfl
@[simp] theorem Chip.faultIf_eps (c : Chip) (b : Bool) (g : Tag) (nn i : Nat) : (c.faultIf b g nn i).eps = c.eps := by
  cases b <;> rfl
@[simp] theorem Chip.faultIf_flying (c : Chip) (b : Bool) (g : Tag) (nn i : Nat) : (c.faultIf b g nn i).flying = c.flying := by
  cases b <;> rfl
@[simp] theorem Chip.faultIf_links (c : Chip) (b : Bool) (g : Tag) (nn i : Nat) : (c.faultIf b g nn i).links = c.links := by
  cases b <;> rfl
@[simp] theorem Chip.faultIf_mem (c : Chip) (b : Bool) (g : Tag) (nn i : Nat) : (c.faultIf b g nn i).mem = c.mem := by
  cases b <;> rfl
@[simp] theorem Chip.faultIf_chans (c : Chip) (b : Bool) (g : Tag) (nn i : Nat) : (c.faultIf b g nn i).chans = c.chans := by
  cases b <;> rfl
@[simp] theorem Chip.faultIf_seq (c : Chip) (b : Bool) (g : Tag) (nn i : Nat) : (c.faultIf b g nn i).seq = c.seq := by
  cases b <;> rfl
@[simp] theorem Chip.faultIf_stew (c : Chip) (b : Bool) (g : Tag) (nn i : Nat) : (c.faultIf b g nn i).stew = c.stew := by
  cases b <;> rfl
@[simp] theorem Chip.faultIf_bru (c : Chip) (b : Bool) (g : Tag) (nn i : Nat) : (c.faultIf b g nn i).bru = c.bru := by
  cases b <;> rfl
@[simp] theorem Chip.faultIf_img (c : Chip) (b : Bool) (g : Tag) (nn i : Nat) : (c.faultIf b g nn i).img = c.img := by
  cases b <;> rfl
@[simp] theorem Chip.faultIf_dissolves (c : Chip) (b : Bool) (g : Tag) (nn i : Nat) : (c.faultIf b g nn i).dissolves = c.dissolves := by
  cases b <;> rfl
@[simp] theorem Chip.faultIf_flash (c : Chip) (b : Bool) (g : Tag) (nn i : Nat) : (c.faultIf b g nn i).flash = c.flash := by
  cases b <;> rfl
@[simp] theorem Chip.faultIf_otp (c : Chip) (b : Bool) (g : Tag) (nn i : Nat) : (c.faultIf b g nn i).otp = c.otp := by
  cases b <;> rfl

/-! ## An accessor after an update of another part -/

@[simp] theorem Chip.region_setGen_frame (c : Chip) (r : Nat) (x : Gen) (j : Nat) : (c.setGen r x).region j = c.region j := (rfl)
@[simp] theorem Chip.tile_setGen_frame (c : Chip) (r : Nat) (x : Gen) (j : Nat) : (c.setGen r x).tile j = c.tile j := (rfl)
@[simp] theorem Chip.posn_setGen_frame (c : Chip) (r : Nat) (x : Gen) (a b : Nat) : (c.setGen r x).posn a b = c.posn a b := (rfl)
@[simp] theorem Chip.queue_setGen_frame (c : Chip) (r : Nat) (x : Gen) (j : Nat) : (c.setGen r x).queue j = c.queue j := (rfl)
@[simp] theorem Chip.ep_setGen_frame (c : Chip) (r : Nat) (x : Gen) (j : Nat) : (c.setGen r x).ep j = c.ep j := (rfl)
@[simp] theorem Chip.link_setGen_frame (c : Chip) (r : Nat) (x : Gen) (a b : Nat) : (c.setGen r x).link a b = c.link a b := (rfl)
@[simp] theorem Chip.chan_setGen_frame (c : Chip) (r : Nat) (x : Gen) (j : Nat) : (c.setGen r x).chan j = c.chan j := (rfl)
@[simp] theorem Chip.session_setGen_frame (c : Chip) (r : Nat) (x : Gen) (j : Nat) : (c.setGen r x).session j = c.session j := (rfl)
@[simp] theorem Chip.part_setGen_frame (c : Chip) (r : Nat) (x : Gen) (j : Nat) : (c.setGen r x).part j = c.part j := (rfl)
@[simp] theorem Chip.item_setGen_frame (c : Chip) (r : Nat) (x : Gen) (j : Nat) : (c.setGen r x).item j = c.item j := (rfl)
@[simp] theorem Chip.mapEntry_setGen_frame (c : Chip) (r : Nat) (x : Gen) (j : Nat) : (c.setGen r x).mapEntry j = c.mapEntry j := (rfl)
@[simp] theorem Chip.ring_setGen_frame (c : Chip) (r : Nat) (x : Gen) (j : Nat) : (c.setGen r x).ring j = c.ring j := (rfl)
@[simp] theorem Chip.railGroup_setGen_frame (c : Chip) (r : Nat) (x : Gen) (j : Nat) : (c.setGen r x).railGroup j = c.railGroup j := (rfl)
@[simp] theorem Chip.gen_setRegion_frame (c : Chip) (r : Nat) (x : Region) (j : Nat) : (c.setRegion r x).gen j = c.gen j := (rfl)
@[simp] theorem Chip.tile_setRegion_frame (c : Chip) (r : Nat) (x : Region) (j : Nat) : (c.setRegion r x).tile j = c.tile j := (rfl)
@[simp] theorem Chip.posn_setRegion_frame (c : Chip) (r : Nat) (x : Region) (a b : Nat) : (c.setRegion r x).posn a b = c.posn a b := (rfl)
@[simp] theorem Chip.queue_setRegion_frame (c : Chip) (r : Nat) (x : Region) (j : Nat) : (c.setRegion r x).queue j = c.queue j := (rfl)
@[simp] theorem Chip.ep_setRegion_frame (c : Chip) (r : Nat) (x : Region) (j : Nat) : (c.setRegion r x).ep j = c.ep j := (rfl)
@[simp] theorem Chip.link_setRegion_frame (c : Chip) (r : Nat) (x : Region) (a b : Nat) : (c.setRegion r x).link a b = c.link a b := (rfl)
@[simp] theorem Chip.chan_setRegion_frame (c : Chip) (r : Nat) (x : Region) (j : Nat) : (c.setRegion r x).chan j = c.chan j := (rfl)
@[simp] theorem Chip.session_setRegion_frame (c : Chip) (r : Nat) (x : Region) (j : Nat) : (c.setRegion r x).session j = c.session j := (rfl)
@[simp] theorem Chip.part_setRegion_frame (c : Chip) (r : Nat) (x : Region) (j : Nat) : (c.setRegion r x).part j = c.part j := (rfl)
@[simp] theorem Chip.item_setRegion_frame (c : Chip) (r : Nat) (x : Region) (j : Nat) : (c.setRegion r x).item j = c.item j := (rfl)
@[simp] theorem Chip.mapEntry_setRegion_frame (c : Chip) (r : Nat) (x : Region) (j : Nat) : (c.setRegion r x).mapEntry j = c.mapEntry j := (rfl)
@[simp] theorem Chip.ring_setRegion_frame (c : Chip) (r : Nat) (x : Region) (j : Nat) : (c.setRegion r x).ring j = c.ring j := (rfl)
@[simp] theorem Chip.railGroup_setRegion_frame (c : Chip) (r : Nat) (x : Region) (j : Nat) : (c.setRegion r x).railGroup j = c.railGroup j := (rfl)
@[simp] theorem Chip.gen_setTile_frame (c : Chip) (t : Nat) (x : Tile) (j : Nat) : (c.setTile t x).gen j = c.gen j := (rfl)
@[simp] theorem Chip.region_setTile_frame (c : Chip) (t : Nat) (x : Tile) (j : Nat) : (c.setTile t x).region j = c.region j := (rfl)
@[simp] theorem Chip.posn_setTile_frame (c : Chip) (t : Nat) (x : Tile) (a b : Nat) : (c.setTile t x).posn a b = c.posn a b := (rfl)
@[simp] theorem Chip.queue_setTile_frame (c : Chip) (t : Nat) (x : Tile) (j : Nat) : (c.setTile t x).queue j = c.queue j := (rfl)
@[simp] theorem Chip.ep_setTile_frame (c : Chip) (t : Nat) (x : Tile) (j : Nat) : (c.setTile t x).ep j = c.ep j := (rfl)
@[simp] theorem Chip.link_setTile_frame (c : Chip) (t : Nat) (x : Tile) (a b : Nat) : (c.setTile t x).link a b = c.link a b := (rfl)
@[simp] theorem Chip.chan_setTile_frame (c : Chip) (t : Nat) (x : Tile) (j : Nat) : (c.setTile t x).chan j = c.chan j := (rfl)
@[simp] theorem Chip.session_setTile_frame (c : Chip) (t : Nat) (x : Tile) (j : Nat) : (c.setTile t x).session j = c.session j := (rfl)
@[simp] theorem Chip.part_setTile_frame (c : Chip) (t : Nat) (x : Tile) (j : Nat) : (c.setTile t x).part j = c.part j := (rfl)
@[simp] theorem Chip.item_setTile_frame (c : Chip) (t : Nat) (x : Tile) (j : Nat) : (c.setTile t x).item j = c.item j := (rfl)
@[simp] theorem Chip.mapEntry_setTile_frame (c : Chip) (t : Nat) (x : Tile) (j : Nat) : (c.setTile t x).mapEntry j = c.mapEntry j := (rfl)
@[simp] theorem Chip.ring_setTile_frame (c : Chip) (t : Nat) (x : Tile) (j : Nat) : (c.setTile t x).ring j = c.ring j := (rfl)
@[simp] theorem Chip.railGroup_setTile_frame (c : Chip) (t : Nat) (x : Tile) (j : Nat) : (c.setTile t x).railGroup j = c.railGroup j := (rfl)
@[simp] theorem Chip.gen_setPosn_frame (c : Chip) (r q : Nat) (x : Position) (j : Nat) : (c.setPosn r q x).gen j = c.gen j := (rfl)
@[simp] theorem Chip.region_setPosn_frame (c : Chip) (r q : Nat) (x : Position) (j : Nat) : (c.setPosn r q x).region j = c.region j := (rfl)
@[simp] theorem Chip.tile_setPosn_frame (c : Chip) (r q : Nat) (x : Position) (j : Nat) : (c.setPosn r q x).tile j = c.tile j := (rfl)
@[simp] theorem Chip.queue_setPosn_frame (c : Chip) (r q : Nat) (x : Position) (j : Nat) : (c.setPosn r q x).queue j = c.queue j := (rfl)
@[simp] theorem Chip.ep_setPosn_frame (c : Chip) (r q : Nat) (x : Position) (j : Nat) : (c.setPosn r q x).ep j = c.ep j := (rfl)
@[simp] theorem Chip.link_setPosn_frame (c : Chip) (r q : Nat) (x : Position) (a b : Nat) : (c.setPosn r q x).link a b = c.link a b := (rfl)
@[simp] theorem Chip.chan_setPosn_frame (c : Chip) (r q : Nat) (x : Position) (j : Nat) : (c.setPosn r q x).chan j = c.chan j := (rfl)
@[simp] theorem Chip.session_setPosn_frame (c : Chip) (r q : Nat) (x : Position) (j : Nat) : (c.setPosn r q x).session j = c.session j := (rfl)
@[simp] theorem Chip.part_setPosn_frame (c : Chip) (r q : Nat) (x : Position) (j : Nat) : (c.setPosn r q x).part j = c.part j := (rfl)
@[simp] theorem Chip.item_setPosn_frame (c : Chip) (r q : Nat) (x : Position) (j : Nat) : (c.setPosn r q x).item j = c.item j := (rfl)
@[simp] theorem Chip.mapEntry_setPosn_frame (c : Chip) (r q : Nat) (x : Position) (j : Nat) : (c.setPosn r q x).mapEntry j = c.mapEntry j := (rfl)
@[simp] theorem Chip.ring_setPosn_frame (c : Chip) (r q : Nat) (x : Position) (j : Nat) : (c.setPosn r q x).ring j = c.ring j := (rfl)
@[simp] theorem Chip.railGroup_setPosn_frame (c : Chip) (r q : Nat) (x : Position) (j : Nat) : (c.setPosn r q x).railGroup j = c.railGroup j := (rfl)
@[simp] theorem Chip.gen_setQueue_frame (c : Chip) (q : Nat) (x : Queue) (j : Nat) : (c.setQueue q x).gen j = c.gen j := (rfl)
@[simp] theorem Chip.region_setQueue_frame (c : Chip) (q : Nat) (x : Queue) (j : Nat) : (c.setQueue q x).region j = c.region j := (rfl)
@[simp] theorem Chip.tile_setQueue_frame (c : Chip) (q : Nat) (x : Queue) (j : Nat) : (c.setQueue q x).tile j = c.tile j := (rfl)
@[simp] theorem Chip.posn_setQueue_frame (c : Chip) (q : Nat) (x : Queue) (a b : Nat) : (c.setQueue q x).posn a b = c.posn a b := (rfl)
@[simp] theorem Chip.ep_setQueue_frame (c : Chip) (q : Nat) (x : Queue) (j : Nat) : (c.setQueue q x).ep j = c.ep j := (rfl)
@[simp] theorem Chip.link_setQueue_frame (c : Chip) (q : Nat) (x : Queue) (a b : Nat) : (c.setQueue q x).link a b = c.link a b := (rfl)
@[simp] theorem Chip.chan_setQueue_frame (c : Chip) (q : Nat) (x : Queue) (j : Nat) : (c.setQueue q x).chan j = c.chan j := (rfl)
@[simp] theorem Chip.session_setQueue_frame (c : Chip) (q : Nat) (x : Queue) (j : Nat) : (c.setQueue q x).session j = c.session j := (rfl)
@[simp] theorem Chip.part_setQueue_frame (c : Chip) (q : Nat) (x : Queue) (j : Nat) : (c.setQueue q x).part j = c.part j := (rfl)
@[simp] theorem Chip.item_setQueue_frame (c : Chip) (q : Nat) (x : Queue) (j : Nat) : (c.setQueue q x).item j = c.item j := (rfl)
@[simp] theorem Chip.mapEntry_setQueue_frame (c : Chip) (q : Nat) (x : Queue) (j : Nat) : (c.setQueue q x).mapEntry j = c.mapEntry j := (rfl)
@[simp] theorem Chip.ring_setQueue_frame (c : Chip) (q : Nat) (x : Queue) (j : Nat) : (c.setQueue q x).ring j = c.ring j := (rfl)
@[simp] theorem Chip.railGroup_setQueue_frame (c : Chip) (q : Nat) (x : Queue) (j : Nat) : (c.setQueue q x).railGroup j = c.railGroup j := (rfl)
@[simp] theorem Chip.gen_setEp_frame (c : Chip) (e : Nat) (x : Endpoint) (j : Nat) : (c.setEp e x).gen j = c.gen j := (rfl)
@[simp] theorem Chip.region_setEp_frame (c : Chip) (e : Nat) (x : Endpoint) (j : Nat) : (c.setEp e x).region j = c.region j := (rfl)
@[simp] theorem Chip.tile_setEp_frame (c : Chip) (e : Nat) (x : Endpoint) (j : Nat) : (c.setEp e x).tile j = c.tile j := (rfl)
@[simp] theorem Chip.posn_setEp_frame (c : Chip) (e : Nat) (x : Endpoint) (a b : Nat) : (c.setEp e x).posn a b = c.posn a b := (rfl)
@[simp] theorem Chip.queue_setEp_frame (c : Chip) (e : Nat) (x : Endpoint) (j : Nat) : (c.setEp e x).queue j = c.queue j := (rfl)
@[simp] theorem Chip.link_setEp_frame (c : Chip) (e : Nat) (x : Endpoint) (a b : Nat) : (c.setEp e x).link a b = c.link a b := (rfl)
@[simp] theorem Chip.chan_setEp_frame (c : Chip) (e : Nat) (x : Endpoint) (j : Nat) : (c.setEp e x).chan j = c.chan j := (rfl)
@[simp] theorem Chip.session_setEp_frame (c : Chip) (e : Nat) (x : Endpoint) (j : Nat) : (c.setEp e x).session j = c.session j := (rfl)
@[simp] theorem Chip.part_setEp_frame (c : Chip) (e : Nat) (x : Endpoint) (j : Nat) : (c.setEp e x).part j = c.part j := (rfl)
@[simp] theorem Chip.item_setEp_frame (c : Chip) (e : Nat) (x : Endpoint) (j : Nat) : (c.setEp e x).item j = c.item j := (rfl)
@[simp] theorem Chip.mapEntry_setEp_frame (c : Chip) (e : Nat) (x : Endpoint) (j : Nat) : (c.setEp e x).mapEntry j = c.mapEntry j := (rfl)
@[simp] theorem Chip.ring_setEp_frame (c : Chip) (e : Nat) (x : Endpoint) (j : Nat) : (c.setEp e x).ring j = c.ring j := (rfl)
@[simp] theorem Chip.railGroup_setEp_frame (c : Chip) (e : Nat) (x : Endpoint) (j : Nat) : (c.setEp e x).railGroup j = c.railGroup j := (rfl)
@[simp] theorem Chip.gen_onLink_frame (c : Chip) (r d : Nat) (f : OutLink → OutLink) (j : Nat) : (c.onLink r d f).gen j = c.gen j := (rfl)
@[simp] theorem Chip.region_onLink_frame (c : Chip) (r d : Nat) (f : OutLink → OutLink) (j : Nat) : (c.onLink r d f).region j = c.region j := (rfl)
@[simp] theorem Chip.tile_onLink_frame (c : Chip) (r d : Nat) (f : OutLink → OutLink) (j : Nat) : (c.onLink r d f).tile j = c.tile j := (rfl)
@[simp] theorem Chip.posn_onLink_frame (c : Chip) (r d : Nat) (f : OutLink → OutLink) (a b : Nat) : (c.onLink r d f).posn a b = c.posn a b := (rfl)
@[simp] theorem Chip.queue_onLink_frame (c : Chip) (r d : Nat) (f : OutLink → OutLink) (j : Nat) : (c.onLink r d f).queue j = c.queue j := (rfl)
@[simp] theorem Chip.ep_onLink_frame (c : Chip) (r d : Nat) (f : OutLink → OutLink) (j : Nat) : (c.onLink r d f).ep j = c.ep j := (rfl)
@[simp] theorem Chip.chan_onLink_frame (c : Chip) (r d : Nat) (f : OutLink → OutLink) (j : Nat) : (c.onLink r d f).chan j = c.chan j := (rfl)
@[simp] theorem Chip.session_onLink_frame (c : Chip) (r d : Nat) (f : OutLink → OutLink) (j : Nat) : (c.onLink r d f).session j = c.session j := (rfl)
@[simp] theorem Chip.part_onLink_frame (c : Chip) (r d : Nat) (f : OutLink → OutLink) (j : Nat) : (c.onLink r d f).part j = c.part j := (rfl)
@[simp] theorem Chip.item_onLink_frame (c : Chip) (r d : Nat) (f : OutLink → OutLink) (j : Nat) : (c.onLink r d f).item j = c.item j := (rfl)
@[simp] theorem Chip.mapEntry_onLink_frame (c : Chip) (r d : Nat) (f : OutLink → OutLink) (j : Nat) : (c.onLink r d f).mapEntry j = c.mapEntry j := (rfl)
@[simp] theorem Chip.ring_onLink_frame (c : Chip) (r d : Nat) (f : OutLink → OutLink) (j : Nat) : (c.onLink r d f).ring j = c.ring j := (rfl)
@[simp] theorem Chip.railGroup_onLink_frame (c : Chip) (r d : Nat) (f : OutLink → OutLink) (j : Nat) : (c.onLink r d f).railGroup j = c.railGroup j := (rfl)
@[simp] theorem Chip.gen_setChan_frame (c : Chip) (h : Nat) (x : Channel) (j : Nat) : (c.setChan h x).gen j = c.gen j := (rfl)
@[simp] theorem Chip.region_setChan_frame (c : Chip) (h : Nat) (x : Channel) (j : Nat) : (c.setChan h x).region j = c.region j := (rfl)
@[simp] theorem Chip.tile_setChan_frame (c : Chip) (h : Nat) (x : Channel) (j : Nat) : (c.setChan h x).tile j = c.tile j := (rfl)
@[simp] theorem Chip.posn_setChan_frame (c : Chip) (h : Nat) (x : Channel) (a b : Nat) : (c.setChan h x).posn a b = c.posn a b := (rfl)
@[simp] theorem Chip.queue_setChan_frame (c : Chip) (h : Nat) (x : Channel) (j : Nat) : (c.setChan h x).queue j = c.queue j := (rfl)
@[simp] theorem Chip.ep_setChan_frame (c : Chip) (h : Nat) (x : Channel) (j : Nat) : (c.setChan h x).ep j = c.ep j := (rfl)
@[simp] theorem Chip.link_setChan_frame (c : Chip) (h : Nat) (x : Channel) (a b : Nat) : (c.setChan h x).link a b = c.link a b := (rfl)
@[simp] theorem Chip.session_setChan_frame (c : Chip) (h : Nat) (x : Channel) (j : Nat) : (c.setChan h x).session j = c.session j := (rfl)
@[simp] theorem Chip.part_setChan_frame (c : Chip) (h : Nat) (x : Channel) (j : Nat) : (c.setChan h x).part j = c.part j := (rfl)
@[simp] theorem Chip.item_setChan_frame (c : Chip) (h : Nat) (x : Channel) (j : Nat) : (c.setChan h x).item j = c.item j := (rfl)
@[simp] theorem Chip.mapEntry_setChan_frame (c : Chip) (h : Nat) (x : Channel) (j : Nat) : (c.setChan h x).mapEntry j = c.mapEntry j := (rfl)
@[simp] theorem Chip.ring_setChan_frame (c : Chip) (h : Nat) (x : Channel) (j : Nat) : (c.setChan h x).ring j = c.ring j := (rfl)
@[simp] theorem Chip.railGroup_setChan_frame (c : Chip) (h : Nat) (x : Channel) (j : Nat) : (c.setChan h x).railGroup j = c.railGroup j := (rfl)
@[simp] theorem Chip.gen_setSession_frame (c : Chip) (i : Nat) (x : Session) (j : Nat) : (c.setSession i x).gen j = c.gen j := (rfl)
@[simp] theorem Chip.region_setSession_frame (c : Chip) (i : Nat) (x : Session) (j : Nat) : (c.setSession i x).region j = c.region j := (rfl)
@[simp] theorem Chip.tile_setSession_frame (c : Chip) (i : Nat) (x : Session) (j : Nat) : (c.setSession i x).tile j = c.tile j := (rfl)
@[simp] theorem Chip.posn_setSession_frame (c : Chip) (i : Nat) (x : Session) (a b : Nat) : (c.setSession i x).posn a b = c.posn a b := (rfl)
@[simp] theorem Chip.queue_setSession_frame (c : Chip) (i : Nat) (x : Session) (j : Nat) : (c.setSession i x).queue j = c.queue j := (rfl)
@[simp] theorem Chip.ep_setSession_frame (c : Chip) (i : Nat) (x : Session) (j : Nat) : (c.setSession i x).ep j = c.ep j := (rfl)
@[simp] theorem Chip.link_setSession_frame (c : Chip) (i : Nat) (x : Session) (a b : Nat) : (c.setSession i x).link a b = c.link a b := (rfl)
@[simp] theorem Chip.chan_setSession_frame (c : Chip) (i : Nat) (x : Session) (j : Nat) : (c.setSession i x).chan j = c.chan j := (rfl)
@[simp] theorem Chip.ring_setSession_frame (c : Chip) (i : Nat) (x : Session) (j : Nat) : (c.setSession i x).ring j = c.ring j := (rfl)
@[simp] theorem Chip.railGroup_setSession_frame (c : Chip) (i : Nat) (x : Session) (j : Nat) : (c.setSession i x).railGroup j = c.railGroup j := (rfl)
@[simp] theorem Chip.gen_setPart_frame (c : Chip) (p : Nat) (x : Part) (j : Nat) : (c.setPart p x).gen j = c.gen j := (rfl)
@[simp] theorem Chip.region_setPart_frame (c : Chip) (p : Nat) (x : Part) (j : Nat) : (c.setPart p x).region j = c.region j := (rfl)
@[simp] theorem Chip.tile_setPart_frame (c : Chip) (p : Nat) (x : Part) (j : Nat) : (c.setPart p x).tile j = c.tile j := (rfl)
@[simp] theorem Chip.posn_setPart_frame (c : Chip) (p : Nat) (x : Part) (a b : Nat) : (c.setPart p x).posn a b = c.posn a b := (rfl)
@[simp] theorem Chip.queue_setPart_frame (c : Chip) (p : Nat) (x : Part) (j : Nat) : (c.setPart p x).queue j = c.queue j := (rfl)
@[simp] theorem Chip.ep_setPart_frame (c : Chip) (p : Nat) (x : Part) (j : Nat) : (c.setPart p x).ep j = c.ep j := (rfl)
@[simp] theorem Chip.link_setPart_frame (c : Chip) (p : Nat) (x : Part) (a b : Nat) : (c.setPart p x).link a b = c.link a b := (rfl)
@[simp] theorem Chip.chan_setPart_frame (c : Chip) (p : Nat) (x : Part) (j : Nat) : (c.setPart p x).chan j = c.chan j := (rfl)
@[simp] theorem Chip.ring_setPart_frame (c : Chip) (p : Nat) (x : Part) (j : Nat) : (c.setPart p x).ring j = c.ring j := (rfl)
@[simp] theorem Chip.railGroup_setPart_frame (c : Chip) (p : Nat) (x : Part) (j : Nat) : (c.setPart p x).railGroup j = c.railGroup j := (rfl)
@[simp] theorem Chip.gen_setItem_frame (c : Chip) (i : Nat) (x : Item) (j : Nat) : (c.setItem i x).gen j = c.gen j := (rfl)
@[simp] theorem Chip.region_setItem_frame (c : Chip) (i : Nat) (x : Item) (j : Nat) : (c.setItem i x).region j = c.region j := (rfl)
@[simp] theorem Chip.tile_setItem_frame (c : Chip) (i : Nat) (x : Item) (j : Nat) : (c.setItem i x).tile j = c.tile j := (rfl)
@[simp] theorem Chip.posn_setItem_frame (c : Chip) (i : Nat) (x : Item) (a b : Nat) : (c.setItem i x).posn a b = c.posn a b := (rfl)
@[simp] theorem Chip.queue_setItem_frame (c : Chip) (i : Nat) (x : Item) (j : Nat) : (c.setItem i x).queue j = c.queue j := (rfl)
@[simp] theorem Chip.ep_setItem_frame (c : Chip) (i : Nat) (x : Item) (j : Nat) : (c.setItem i x).ep j = c.ep j := (rfl)
@[simp] theorem Chip.link_setItem_frame (c : Chip) (i : Nat) (x : Item) (a b : Nat) : (c.setItem i x).link a b = c.link a b := (rfl)
@[simp] theorem Chip.chan_setItem_frame (c : Chip) (i : Nat) (x : Item) (j : Nat) : (c.setItem i x).chan j = c.chan j := (rfl)
@[simp] theorem Chip.ring_setItem_frame (c : Chip) (i : Nat) (x : Item) (j : Nat) : (c.setItem i x).ring j = c.ring j := (rfl)
@[simp] theorem Chip.railGroup_setItem_frame (c : Chip) (i : Nat) (x : Item) (j : Nat) : (c.setItem i x).railGroup j = c.railGroup j := (rfl)
@[simp] theorem Chip.gen_dropItem_frame (c : Chip) (i : Nat) (j : Nat) : (c.dropItem i).gen j = c.gen j := (rfl)
@[simp] theorem Chip.region_dropItem_frame (c : Chip) (i : Nat) (j : Nat) : (c.dropItem i).region j = c.region j := (rfl)
@[simp] theorem Chip.tile_dropItem_frame (c : Chip) (i : Nat) (j : Nat) : (c.dropItem i).tile j = c.tile j := (rfl)
@[simp] theorem Chip.posn_dropItem_frame (c : Chip) (i : Nat) (a b : Nat) : (c.dropItem i).posn a b = c.posn a b := (rfl)
@[simp] theorem Chip.queue_dropItem_frame (c : Chip) (i : Nat) (j : Nat) : (c.dropItem i).queue j = c.queue j := (rfl)
@[simp] theorem Chip.ep_dropItem_frame (c : Chip) (i : Nat) (j : Nat) : (c.dropItem i).ep j = c.ep j := (rfl)
@[simp] theorem Chip.link_dropItem_frame (c : Chip) (i : Nat) (a b : Nat) : (c.dropItem i).link a b = c.link a b := (rfl)
@[simp] theorem Chip.chan_dropItem_frame (c : Chip) (i : Nat) (j : Nat) : (c.dropItem i).chan j = c.chan j := (rfl)
@[simp] theorem Chip.ring_dropItem_frame (c : Chip) (i : Nat) (j : Nat) : (c.dropItem i).ring j = c.ring j := (rfl)
@[simp] theorem Chip.railGroup_dropItem_frame (c : Chip) (i : Nat) (j : Nat) : (c.dropItem i).railGroup j = c.railGroup j := (rfl)
@[simp] theorem Chip.gen_setRing_frame (c : Chip) (g : Nat) (x : Ring) (j : Nat) : (c.setRing g x).gen j = c.gen j := (rfl)
@[simp] theorem Chip.region_setRing_frame (c : Chip) (g : Nat) (x : Ring) (j : Nat) : (c.setRing g x).region j = c.region j := (rfl)
@[simp] theorem Chip.tile_setRing_frame (c : Chip) (g : Nat) (x : Ring) (j : Nat) : (c.setRing g x).tile j = c.tile j := (rfl)
@[simp] theorem Chip.posn_setRing_frame (c : Chip) (g : Nat) (x : Ring) (a b : Nat) : (c.setRing g x).posn a b = c.posn a b := (rfl)
@[simp] theorem Chip.queue_setRing_frame (c : Chip) (g : Nat) (x : Ring) (j : Nat) : (c.setRing g x).queue j = c.queue j := (rfl)
@[simp] theorem Chip.ep_setRing_frame (c : Chip) (g : Nat) (x : Ring) (j : Nat) : (c.setRing g x).ep j = c.ep j := (rfl)
@[simp] theorem Chip.link_setRing_frame (c : Chip) (g : Nat) (x : Ring) (a b : Nat) : (c.setRing g x).link a b = c.link a b := (rfl)
@[simp] theorem Chip.chan_setRing_frame (c : Chip) (g : Nat) (x : Ring) (j : Nat) : (c.setRing g x).chan j = c.chan j := (rfl)
@[simp] theorem Chip.session_setRing_frame (c : Chip) (g : Nat) (x : Ring) (j : Nat) : (c.setRing g x).session j = c.session j := (rfl)
@[simp] theorem Chip.part_setRing_frame (c : Chip) (g : Nat) (x : Ring) (j : Nat) : (c.setRing g x).part j = c.part j := (rfl)
@[simp] theorem Chip.item_setRing_frame (c : Chip) (g : Nat) (x : Ring) (j : Nat) : (c.setRing g x).item j = c.item j := (rfl)
@[simp] theorem Chip.mapEntry_setRing_frame (c : Chip) (g : Nat) (x : Ring) (j : Nat) : (c.setRing g x).mapEntry j = c.mapEntry j := (rfl)
@[simp] theorem Chip.railGroup_setRing_frame (c : Chip) (g : Nat) (x : Ring) (j : Nat) : (c.setRing g x).railGroup j = c.railGroup j := (rfl)
@[simp] theorem Chip.gen_onRailGroup_frame (c : Chip) (g : Nat) (f : RailGroup → RailGroup) (j : Nat) : (c.onRailGroup g f).gen j = c.gen j := (rfl)
@[simp] theorem Chip.region_onRailGroup_frame (c : Chip) (g : Nat) (f : RailGroup → RailGroup) (j : Nat) : (c.onRailGroup g f).region j = c.region j := (rfl)
@[simp] theorem Chip.tile_onRailGroup_frame (c : Chip) (g : Nat) (f : RailGroup → RailGroup) (j : Nat) : (c.onRailGroup g f).tile j = c.tile j := (rfl)
@[simp] theorem Chip.posn_onRailGroup_frame (c : Chip) (g : Nat) (f : RailGroup → RailGroup) (a b : Nat) : (c.onRailGroup g f).posn a b = c.posn a b := (rfl)
@[simp] theorem Chip.queue_onRailGroup_frame (c : Chip) (g : Nat) (f : RailGroup → RailGroup) (j : Nat) : (c.onRailGroup g f).queue j = c.queue j := (rfl)
@[simp] theorem Chip.ep_onRailGroup_frame (c : Chip) (g : Nat) (f : RailGroup → RailGroup) (j : Nat) : (c.onRailGroup g f).ep j = c.ep j := (rfl)
@[simp] theorem Chip.link_onRailGroup_frame (c : Chip) (g : Nat) (f : RailGroup → RailGroup) (a b : Nat) : (c.onRailGroup g f).link a b = c.link a b := (rfl)
@[simp] theorem Chip.chan_onRailGroup_frame (c : Chip) (g : Nat) (f : RailGroup → RailGroup) (j : Nat) : (c.onRailGroup g f).chan j = c.chan j := (rfl)
@[simp] theorem Chip.session_onRailGroup_frame (c : Chip) (g : Nat) (f : RailGroup → RailGroup) (j : Nat) : (c.onRailGroup g f).session j = c.session j := (rfl)
@[simp] theorem Chip.part_onRailGroup_frame (c : Chip) (g : Nat) (f : RailGroup → RailGroup) (j : Nat) : (c.onRailGroup g f).part j = c.part j := (rfl)
@[simp] theorem Chip.item_onRailGroup_frame (c : Chip) (g : Nat) (f : RailGroup → RailGroup) (j : Nat) : (c.onRailGroup g f).item j = c.item j := (rfl)
@[simp] theorem Chip.mapEntry_onRailGroup_frame (c : Chip) (g : Nat) (f : RailGroup → RailGroup) (j : Nat) : (c.onRailGroup g f).mapEntry j = c.mapEntry j := (rfl)
@[simp] theorem Chip.ring_onRailGroup_frame (c : Chip) (g : Nat) (f : RailGroup → RailGroup) (j : Nat) : (c.onRailGroup g f).ring j = c.ring j := (rfl)
@[simp] theorem Chip.gen_onClk_frame (c : Chip) (f : Clock → Clock) (j : Nat) : (c.onClk f).gen j = c.gen j := (rfl)
@[simp] theorem Chip.region_onClk_frame (c : Chip) (f : Clock → Clock) (j : Nat) : (c.onClk f).region j = c.region j := (rfl)
@[simp] theorem Chip.tile_onClk_frame (c : Chip) (f : Clock → Clock) (j : Nat) : (c.onClk f).tile j = c.tile j := (rfl)
@[simp] theorem Chip.posn_onClk_frame (c : Chip) (f : Clock → Clock) (a b : Nat) : (c.onClk f).posn a b = c.posn a b := (rfl)
@[simp] theorem Chip.queue_onClk_frame (c : Chip) (f : Clock → Clock) (j : Nat) : (c.onClk f).queue j = c.queue j := (rfl)
@[simp] theorem Chip.ep_onClk_frame (c : Chip) (f : Clock → Clock) (j : Nat) : (c.onClk f).ep j = c.ep j := (rfl)
@[simp] theorem Chip.link_onClk_frame (c : Chip) (f : Clock → Clock) (a b : Nat) : (c.onClk f).link a b = c.link a b := (rfl)
@[simp] theorem Chip.chan_onClk_frame (c : Chip) (f : Clock → Clock) (j : Nat) : (c.onClk f).chan j = c.chan j := (rfl)
@[simp] theorem Chip.session_onClk_frame (c : Chip) (f : Clock → Clock) (j : Nat) : (c.onClk f).session j = c.session j := (rfl)
@[simp] theorem Chip.part_onClk_frame (c : Chip) (f : Clock → Clock) (j : Nat) : (c.onClk f).part j = c.part j := (rfl)
@[simp] theorem Chip.item_onClk_frame (c : Chip) (f : Clock → Clock) (j : Nat) : (c.onClk f).item j = c.item j := (rfl)
@[simp] theorem Chip.mapEntry_onClk_frame (c : Chip) (f : Clock → Clock) (j : Nat) : (c.onClk f).mapEntry j = c.mapEntry j := (rfl)
@[simp] theorem Chip.ring_onClk_frame (c : Chip) (f : Clock → Clock) (j : Nat) : (c.onClk f).ring j = c.ring j := (rfl)
@[simp] theorem Chip.railGroup_onClk_frame (c : Chip) (f : Clock → Clock) (j : Nat) : (c.onClk f).railGroup j = c.railGroup j := (rfl)
@[simp] theorem Chip.gen_onTime_frame (c : Chip) (f : TimeBase → TimeBase) (j : Nat) : (c.onTime f).gen j = c.gen j := (rfl)
@[simp] theorem Chip.region_onTime_frame (c : Chip) (f : TimeBase → TimeBase) (j : Nat) : (c.onTime f).region j = c.region j := (rfl)
@[simp] theorem Chip.tile_onTime_frame (c : Chip) (f : TimeBase → TimeBase) (j : Nat) : (c.onTime f).tile j = c.tile j := (rfl)
@[simp] theorem Chip.posn_onTime_frame (c : Chip) (f : TimeBase → TimeBase) (a b : Nat) : (c.onTime f).posn a b = c.posn a b := (rfl)
@[simp] theorem Chip.queue_onTime_frame (c : Chip) (f : TimeBase → TimeBase) (j : Nat) : (c.onTime f).queue j = c.queue j := (rfl)
@[simp] theorem Chip.ep_onTime_frame (c : Chip) (f : TimeBase → TimeBase) (j : Nat) : (c.onTime f).ep j = c.ep j := (rfl)
@[simp] theorem Chip.link_onTime_frame (c : Chip) (f : TimeBase → TimeBase) (a b : Nat) : (c.onTime f).link a b = c.link a b := (rfl)
@[simp] theorem Chip.chan_onTime_frame (c : Chip) (f : TimeBase → TimeBase) (j : Nat) : (c.onTime f).chan j = c.chan j := (rfl)
@[simp] theorem Chip.session_onTime_frame (c : Chip) (f : TimeBase → TimeBase) (j : Nat) : (c.onTime f).session j = c.session j := (rfl)
@[simp] theorem Chip.part_onTime_frame (c : Chip) (f : TimeBase → TimeBase) (j : Nat) : (c.onTime f).part j = c.part j := (rfl)
@[simp] theorem Chip.item_onTime_frame (c : Chip) (f : TimeBase → TimeBase) (j : Nat) : (c.onTime f).item j = c.item j := (rfl)
@[simp] theorem Chip.mapEntry_onTime_frame (c : Chip) (f : TimeBase → TimeBase) (j : Nat) : (c.onTime f).mapEntry j = c.mapEntry j := (rfl)
@[simp] theorem Chip.ring_onTime_frame (c : Chip) (f : TimeBase → TimeBase) (j : Nat) : (c.onTime f).ring j = c.ring j := (rfl)
@[simp] theorem Chip.railGroup_onTime_frame (c : Chip) (f : TimeBase → TimeBase) (j : Nat) : (c.onTime f).railGroup j = c.railGroup j := (rfl)
@[simp] theorem Chip.gen_onXng_frame (c : Chip) (f : Xng → Xng) (j : Nat) : (c.onXng f).gen j = c.gen j := (rfl)
@[simp] theorem Chip.region_onXng_frame (c : Chip) (f : Xng → Xng) (j : Nat) : (c.onXng f).region j = c.region j := (rfl)
@[simp] theorem Chip.tile_onXng_frame (c : Chip) (f : Xng → Xng) (j : Nat) : (c.onXng f).tile j = c.tile j := (rfl)
@[simp] theorem Chip.posn_onXng_frame (c : Chip) (f : Xng → Xng) (a b : Nat) : (c.onXng f).posn a b = c.posn a b := (rfl)
@[simp] theorem Chip.queue_onXng_frame (c : Chip) (f : Xng → Xng) (j : Nat) : (c.onXng f).queue j = c.queue j := (rfl)
@[simp] theorem Chip.ep_onXng_frame (c : Chip) (f : Xng → Xng) (j : Nat) : (c.onXng f).ep j = c.ep j := (rfl)
@[simp] theorem Chip.link_onXng_frame (c : Chip) (f : Xng → Xng) (a b : Nat) : (c.onXng f).link a b = c.link a b := (rfl)
@[simp] theorem Chip.chan_onXng_frame (c : Chip) (f : Xng → Xng) (j : Nat) : (c.onXng f).chan j = c.chan j := (rfl)
@[simp] theorem Chip.session_onXng_frame (c : Chip) (f : Xng → Xng) (j : Nat) : (c.onXng f).session j = c.session j := (rfl)
@[simp] theorem Chip.part_onXng_frame (c : Chip) (f : Xng → Xng) (j : Nat) : (c.onXng f).part j = c.part j := (rfl)
@[simp] theorem Chip.item_onXng_frame (c : Chip) (f : Xng → Xng) (j : Nat) : (c.onXng f).item j = c.item j := (rfl)
@[simp] theorem Chip.mapEntry_onXng_frame (c : Chip) (f : Xng → Xng) (j : Nat) : (c.onXng f).mapEntry j = c.mapEntry j := (rfl)
@[simp] theorem Chip.ring_onXng_frame (c : Chip) (f : Xng → Xng) (j : Nat) : (c.onXng f).ring j = c.ring j := (rfl)
@[simp] theorem Chip.railGroup_onXng_frame (c : Chip) (f : Xng → Xng) (j : Nat) : (c.onXng f).railGroup j = c.railGroup j := (rfl)
@[simp] theorem Chip.gen_onStew_frame (c : Chip) (f : Stew → Stew) (j : Nat) : (c.onStew f).gen j = c.gen j := (rfl)
@[simp] theorem Chip.region_onStew_frame (c : Chip) (f : Stew → Stew) (j : Nat) : (c.onStew f).region j = c.region j := (rfl)
@[simp] theorem Chip.tile_onStew_frame (c : Chip) (f : Stew → Stew) (j : Nat) : (c.onStew f).tile j = c.tile j := (rfl)
@[simp] theorem Chip.posn_onStew_frame (c : Chip) (f : Stew → Stew) (a b : Nat) : (c.onStew f).posn a b = c.posn a b := (rfl)
@[simp] theorem Chip.queue_onStew_frame (c : Chip) (f : Stew → Stew) (j : Nat) : (c.onStew f).queue j = c.queue j := (rfl)
@[simp] theorem Chip.ep_onStew_frame (c : Chip) (f : Stew → Stew) (j : Nat) : (c.onStew f).ep j = c.ep j := (rfl)
@[simp] theorem Chip.link_onStew_frame (c : Chip) (f : Stew → Stew) (a b : Nat) : (c.onStew f).link a b = c.link a b := (rfl)
@[simp] theorem Chip.chan_onStew_frame (c : Chip) (f : Stew → Stew) (j : Nat) : (c.onStew f).chan j = c.chan j := (rfl)
@[simp] theorem Chip.session_onStew_frame (c : Chip) (f : Stew → Stew) (j : Nat) : (c.onStew f).session j = c.session j := (rfl)
@[simp] theorem Chip.part_onStew_frame (c : Chip) (f : Stew → Stew) (j : Nat) : (c.onStew f).part j = c.part j := (rfl)
@[simp] theorem Chip.item_onStew_frame (c : Chip) (f : Stew → Stew) (j : Nat) : (c.onStew f).item j = c.item j := (rfl)
@[simp] theorem Chip.mapEntry_onStew_frame (c : Chip) (f : Stew → Stew) (j : Nat) : (c.onStew f).mapEntry j = c.mapEntry j := (rfl)
@[simp] theorem Chip.ring_onStew_frame (c : Chip) (f : Stew → Stew) (j : Nat) : (c.onStew f).ring j = c.ring j := (rfl)
@[simp] theorem Chip.gen_onSeq_frame (c : Chip) (f : Seq → Seq) (j : Nat) : (c.onSeq f).gen j = c.gen j := (rfl)
@[simp] theorem Chip.region_onSeq_frame (c : Chip) (f : Seq → Seq) (j : Nat) : (c.onSeq f).region j = c.region j := (rfl)
@[simp] theorem Chip.tile_onSeq_frame (c : Chip) (f : Seq → Seq) (j : Nat) : (c.onSeq f).tile j = c.tile j := (rfl)
@[simp] theorem Chip.posn_onSeq_frame (c : Chip) (f : Seq → Seq) (a b : Nat) : (c.onSeq f).posn a b = c.posn a b := (rfl)
@[simp] theorem Chip.queue_onSeq_frame (c : Chip) (f : Seq → Seq) (j : Nat) : (c.onSeq f).queue j = c.queue j := (rfl)
@[simp] theorem Chip.ep_onSeq_frame (c : Chip) (f : Seq → Seq) (j : Nat) : (c.onSeq f).ep j = c.ep j := (rfl)
@[simp] theorem Chip.link_onSeq_frame (c : Chip) (f : Seq → Seq) (a b : Nat) : (c.onSeq f).link a b = c.link a b := (rfl)
@[simp] theorem Chip.chan_onSeq_frame (c : Chip) (f : Seq → Seq) (j : Nat) : (c.onSeq f).chan j = c.chan j := (rfl)
@[simp] theorem Chip.ring_onSeq_frame (c : Chip) (f : Seq → Seq) (j : Nat) : (c.onSeq f).ring j = c.ring j := (rfl)
@[simp] theorem Chip.railGroup_onSeq_frame (c : Chip) (f : Seq → Seq) (j : Nat) : (c.onSeq f).railGroup j = c.railGroup j := (rfl)
@[simp] theorem Chip.gen_onHif_frame (c : Chip) (f : Hif → Hif) (j : Nat) : (c.onHif f).gen j = c.gen j := (rfl)
@[simp] theorem Chip.region_onHif_frame (c : Chip) (f : Hif → Hif) (j : Nat) : (c.onHif f).region j = c.region j := (rfl)
@[simp] theorem Chip.tile_onHif_frame (c : Chip) (f : Hif → Hif) (j : Nat) : (c.onHif f).tile j = c.tile j := (rfl)
@[simp] theorem Chip.posn_onHif_frame (c : Chip) (f : Hif → Hif) (a b : Nat) : (c.onHif f).posn a b = c.posn a b := (rfl)
@[simp] theorem Chip.queue_onHif_frame (c : Chip) (f : Hif → Hif) (j : Nat) : (c.onHif f).queue j = c.queue j := (rfl)
@[simp] theorem Chip.ep_onHif_frame (c : Chip) (f : Hif → Hif) (j : Nat) : (c.onHif f).ep j = c.ep j := (rfl)
@[simp] theorem Chip.link_onHif_frame (c : Chip) (f : Hif → Hif) (a b : Nat) : (c.onHif f).link a b = c.link a b := (rfl)
@[simp] theorem Chip.chan_onHif_frame (c : Chip) (f : Hif → Hif) (j : Nat) : (c.onHif f).chan j = c.chan j := (rfl)
@[simp] theorem Chip.session_onHif_frame (c : Chip) (f : Hif → Hif) (j : Nat) : (c.onHif f).session j = c.session j := (rfl)
@[simp] theorem Chip.part_onHif_frame (c : Chip) (f : Hif → Hif) (j : Nat) : (c.onHif f).part j = c.part j := (rfl)
@[simp] theorem Chip.item_onHif_frame (c : Chip) (f : Hif → Hif) (j : Nat) : (c.onHif f).item j = c.item j := (rfl)
@[simp] theorem Chip.mapEntry_onHif_frame (c : Chip) (f : Hif → Hif) (j : Nat) : (c.onHif f).mapEntry j = c.mapEntry j := (rfl)
@[simp] theorem Chip.railGroup_onHif_frame (c : Chip) (f : Hif → Hif) (j : Nat) : (c.onHif f).railGroup j = c.railGroup j := (rfl)
@[simp] theorem Chip.gen_onImg_frame (c : Chip) (f : Img → Img) (j : Nat) : (c.onImg f).gen j = c.gen j := (rfl)
@[simp] theorem Chip.region_onImg_frame (c : Chip) (f : Img → Img) (j : Nat) : (c.onImg f).region j = c.region j := (rfl)
@[simp] theorem Chip.tile_onImg_frame (c : Chip) (f : Img → Img) (j : Nat) : (c.onImg f).tile j = c.tile j := (rfl)
@[simp] theorem Chip.posn_onImg_frame (c : Chip) (f : Img → Img) (a b : Nat) : (c.onImg f).posn a b = c.posn a b := (rfl)
@[simp] theorem Chip.queue_onImg_frame (c : Chip) (f : Img → Img) (j : Nat) : (c.onImg f).queue j = c.queue j := (rfl)
@[simp] theorem Chip.ep_onImg_frame (c : Chip) (f : Img → Img) (j : Nat) : (c.onImg f).ep j = c.ep j := (rfl)
@[simp] theorem Chip.link_onImg_frame (c : Chip) (f : Img → Img) (a b : Nat) : (c.onImg f).link a b = c.link a b := (rfl)
@[simp] theorem Chip.chan_onImg_frame (c : Chip) (f : Img → Img) (j : Nat) : (c.onImg f).chan j = c.chan j := (rfl)
@[simp] theorem Chip.session_onImg_frame (c : Chip) (f : Img → Img) (j : Nat) : (c.onImg f).session j = c.session j := (rfl)
@[simp] theorem Chip.part_onImg_frame (c : Chip) (f : Img → Img) (j : Nat) : (c.onImg f).part j = c.part j := (rfl)
@[simp] theorem Chip.item_onImg_frame (c : Chip) (f : Img → Img) (j : Nat) : (c.onImg f).item j = c.item j := (rfl)
@[simp] theorem Chip.mapEntry_onImg_frame (c : Chip) (f : Img → Img) (j : Nat) : (c.onImg f).mapEntry j = c.mapEntry j := (rfl)
@[simp] theorem Chip.ring_onImg_frame (c : Chip) (f : Img → Img) (j : Nat) : (c.onImg f).ring j = c.ring j := (rfl)
@[simp] theorem Chip.railGroup_onImg_frame (c : Chip) (f : Img → Img) (j : Nat) : (c.onImg f).railGroup j = c.railGroup j := (rfl)
@[simp] theorem Chip.gen_onBru_frame (c : Chip) (f : Bru → Bru) (j : Nat) : (c.onBru f).gen j = c.gen j := (rfl)
@[simp] theorem Chip.region_onBru_frame (c : Chip) (f : Bru → Bru) (j : Nat) : (c.onBru f).region j = c.region j := (rfl)
@[simp] theorem Chip.tile_onBru_frame (c : Chip) (f : Bru → Bru) (j : Nat) : (c.onBru f).tile j = c.tile j := (rfl)
@[simp] theorem Chip.posn_onBru_frame (c : Chip) (f : Bru → Bru) (a b : Nat) : (c.onBru f).posn a b = c.posn a b := (rfl)
@[simp] theorem Chip.queue_onBru_frame (c : Chip) (f : Bru → Bru) (j : Nat) : (c.onBru f).queue j = c.queue j := (rfl)
@[simp] theorem Chip.ep_onBru_frame (c : Chip) (f : Bru → Bru) (j : Nat) : (c.onBru f).ep j = c.ep j := (rfl)
@[simp] theorem Chip.link_onBru_frame (c : Chip) (f : Bru → Bru) (a b : Nat) : (c.onBru f).link a b = c.link a b := (rfl)
@[simp] theorem Chip.chan_onBru_frame (c : Chip) (f : Bru → Bru) (j : Nat) : (c.onBru f).chan j = c.chan j := (rfl)
@[simp] theorem Chip.session_onBru_frame (c : Chip) (f : Bru → Bru) (j : Nat) : (c.onBru f).session j = c.session j := (rfl)
@[simp] theorem Chip.part_onBru_frame (c : Chip) (f : Bru → Bru) (j : Nat) : (c.onBru f).part j = c.part j := (rfl)
@[simp] theorem Chip.item_onBru_frame (c : Chip) (f : Bru → Bru) (j : Nat) : (c.onBru f).item j = c.item j := (rfl)
@[simp] theorem Chip.mapEntry_onBru_frame (c : Chip) (f : Bru → Bru) (j : Nat) : (c.onBru f).mapEntry j = c.mapEntry j := (rfl)
@[simp] theorem Chip.ring_onBru_frame (c : Chip) (f : Bru → Bru) (j : Nat) : (c.onBru f).ring j = c.ring j := (rfl)
@[simp] theorem Chip.railGroup_onBru_frame (c : Chip) (f : Bru → Bru) (j : Nat) : (c.onBru f).railGroup j = c.railGroup j := (rfl)
@[simp] theorem Chip.gen_fault_frame (c : Chip) (g : Tag) (nn i : Nat) (j : Nat) : (c.fault g nn i).gen j = c.gen j := (rfl)
@[simp] theorem Chip.region_fault_frame (c : Chip) (g : Tag) (nn i : Nat) (j : Nat) : (c.fault g nn i).region j = c.region j := (rfl)
@[simp] theorem Chip.tile_fault_frame (c : Chip) (g : Tag) (nn i : Nat) (j : Nat) : (c.fault g nn i).tile j = c.tile j := (rfl)
@[simp] theorem Chip.posn_fault_frame (c : Chip) (g : Tag) (nn i : Nat) (a b : Nat) : (c.fault g nn i).posn a b = c.posn a b := (rfl)
@[simp] theorem Chip.queue_fault_frame (c : Chip) (g : Tag) (nn i : Nat) (j : Nat) : (c.fault g nn i).queue j = c.queue j := (rfl)
@[simp] theorem Chip.ep_fault_frame (c : Chip) (g : Tag) (nn i : Nat) (j : Nat) : (c.fault g nn i).ep j = c.ep j := (rfl)
@[simp] theorem Chip.link_fault_frame (c : Chip) (g : Tag) (nn i : Nat) (a b : Nat) : (c.fault g nn i).link a b = c.link a b := (rfl)
@[simp] theorem Chip.chan_fault_frame (c : Chip) (g : Tag) (nn i : Nat) (j : Nat) : (c.fault g nn i).chan j = c.chan j := (rfl)
@[simp] theorem Chip.session_fault_frame (c : Chip) (g : Tag) (nn i : Nat) (j : Nat) : (c.fault g nn i).session j = c.session j := (rfl)
@[simp] theorem Chip.part_fault_frame (c : Chip) (g : Tag) (nn i : Nat) (j : Nat) : (c.fault g nn i).part j = c.part j := (rfl)
@[simp] theorem Chip.item_fault_frame (c : Chip) (g : Tag) (nn i : Nat) (j : Nat) : (c.fault g nn i).item j = c.item j := (rfl)
@[simp] theorem Chip.mapEntry_fault_frame (c : Chip) (g : Tag) (nn i : Nat) (j : Nat) : (c.fault g nn i).mapEntry j = c.mapEntry j := (rfl)
@[simp] theorem Chip.railGroup_fault_frame (c : Chip) (g : Tag) (nn i : Nat) (j : Nat) : (c.fault g nn i).railGroup j = c.railGroup j := (rfl)
@[simp] theorem Chip.gen_faultIf_frame (c : Chip) (v : Bool) (g : Tag) (nn i : Nat) (j : Nat) : (c.faultIf v g nn i).gen j = c.gen j := by
  cases v <;> rfl
@[simp] theorem Chip.region_faultIf_frame (c : Chip) (v : Bool) (g : Tag) (nn i : Nat) (j : Nat) : (c.faultIf v g nn i).region j = c.region j := by
  cases v <;> rfl
@[simp] theorem Chip.tile_faultIf_frame (c : Chip) (v : Bool) (g : Tag) (nn i : Nat) (j : Nat) : (c.faultIf v g nn i).tile j = c.tile j := by
  cases v <;> rfl
@[simp] theorem Chip.posn_faultIf_frame (c : Chip) (v : Bool) (g : Tag) (nn i : Nat) (a b : Nat) : (c.faultIf v g nn i).posn a b = c.posn a b := by
  cases v <;> rfl
@[simp] theorem Chip.queue_faultIf_frame (c : Chip) (v : Bool) (g : Tag) (nn i : Nat) (j : Nat) : (c.faultIf v g nn i).queue j = c.queue j := by
  cases v <;> rfl
@[simp] theorem Chip.ep_faultIf_frame (c : Chip) (v : Bool) (g : Tag) (nn i : Nat) (j : Nat) : (c.faultIf v g nn i).ep j = c.ep j := by
  cases v <;> rfl
@[simp] theorem Chip.link_faultIf_frame (c : Chip) (v : Bool) (g : Tag) (nn i : Nat) (a b : Nat) : (c.faultIf v g nn i).link a b = c.link a b := by
  cases v <;> rfl
@[simp] theorem Chip.chan_faultIf_frame (c : Chip) (v : Bool) (g : Tag) (nn i : Nat) (j : Nat) : (c.faultIf v g nn i).chan j = c.chan j := by
  cases v <;> rfl
@[simp] theorem Chip.session_faultIf_frame (c : Chip) (v : Bool) (g : Tag) (nn i : Nat) (j : Nat) : (c.faultIf v g nn i).session j = c.session j := by
  cases v <;> rfl
@[simp] theorem Chip.part_faultIf_frame (c : Chip) (v : Bool) (g : Tag) (nn i : Nat) (j : Nat) : (c.faultIf v g nn i).part j = c.part j := by
  cases v <;> rfl
@[simp] theorem Chip.item_faultIf_frame (c : Chip) (v : Bool) (g : Tag) (nn i : Nat) (j : Nat) : (c.faultIf v g nn i).item j = c.item j := by
  cases v <;> rfl
@[simp] theorem Chip.mapEntry_faultIf_frame (c : Chip) (v : Bool) (g : Tag) (nn i : Nat) (j : Nat) : (c.faultIf v g nn i).mapEntry j = c.mapEntry j := by
  cases v <;> rfl
@[simp] theorem Chip.railGroup_faultIf_frame (c : Chip) (v : Bool) (g : Tag) (nn i : Nat) (j : Nat) : (c.faultIf v g nn i).railGroup j = c.railGroup j := by
  cases v <;> rfl

/-! ## The tray -/

@[simp] theorem Tray.slot_setSlot (t : Tray) (i j : Nat) (x : TraySlot) : (t.setSlot i x).slot j = if j = i then x else t.slot j := by
  simp [Tray.slot, Tray.setSlot, Bank.get_set]
@[simp] theorem Tray.onSlot_eq (t : Tray) (i : Nat) (f : TraySlot → TraySlot) : t.onSlot i f = t.setSlot i (f (t.slot i)) := (rfl)
@[simp] theorem Tray.onTmc_eq (t : Tray) (x : Side) (f : Tmc → Tmc) : t.onTmc x f = t.setTmc x (f (t.tmc x)) := (rfl)
@[simp] theorem Tray.tmc_setTmc (t : Tray) (x y : Side) (m : Tmc) : (t.setTmc x m).tmc y = if y = x then m else t.tmc y := by
  cases x <;> cases y <;> rfl
@[simp] theorem Tray.trc_setTrc (t : Tray) (x y : Side) (m : Trc) : (t.setTrc x m).trc y = if y = x then m else t.trc y := by
  cases x <;> cases y <;> rfl
@[simp] theorem Tray.nvm_setNvm (t : Tray) (x y : Side) (m : Nvm) : (t.setNvm x m).nvm y = if y = x then m else t.nvm y := by
  cases x <;> cases y <;> rfl
@[simp] theorem Tray.flow_setFlow (t : Tray) (x y : Side) (m : FlowSensor) : (t.setFlow x m).flow y = if y = x then m else t.flow y := by
  cases x <;> cases y <;> rfl
@[simp] theorem Tray.setSlot_standby (t : Tray) (i : Nat) (x : TraySlot) : (t.setSlot i x).standby = t.standby := (rfl)
@[simp] theorem Tray.setSlot_start (t : Tray) (i : Nat) (x : TraySlot) : (t.setSlot i x).start = t.start := (rfl)
@[simp] theorem Tray.setSlot_role (t : Tray) (i : Nat) (x : TraySlot) : (t.setSlot i x).role = t.role := (rfl)
@[simp] theorem Tray.setSlot_everHeld (t : Tray) (i : Nat) (x : TraySlot) : (t.setSlot i x).everHeld = t.everHeld := (rfl)
@[simp] theorem Tray.setSlot_alive (t : Tray) (i : Nat) (x : TraySlot) : (t.setSlot i x).alive = t.alive := (rfl)
@[simp] theorem Tray.setSlot_aliveAge (t : Tray) (i : Nat) (x : TraySlot) : (t.setSlot i x).aliveAge = t.aliveAge := (rfl)
@[simp] theorem Tray.setSlot_tmcA (t : Tray) (i : Nat) (x : TraySlot) : (t.setSlot i x).tmcA = t.tmcA := (rfl)
@[simp] theorem Tray.setSlot_tmcB (t : Tray) (i : Nat) (x : TraySlot) : (t.setSlot i x).tmcB = t.tmcB := (rfl)
@[simp] theorem Tray.setSlot_trcA (t : Tray) (i : Nat) (x : TraySlot) : (t.setSlot i x).trcA = t.trcA := (rfl)
@[simp] theorem Tray.setSlot_trcB (t : Tray) (i : Nat) (x : TraySlot) : (t.setSlot i x).trcB = t.trcB := (rfl)
@[simp] theorem Tray.setSlot_nvmA (t : Tray) (i : Nat) (x : TraySlot) : (t.setSlot i x).nvmA = t.nvmA := (rfl)
@[simp] theorem Tray.setSlot_nvmB (t : Tray) (i : Nat) (x : TraySlot) : (t.setSlot i x).nvmB = t.nvmB := (rfl)
@[simp] theorem Tray.setSlot_image (t : Tray) (i : Nat) (x : TraySlot) : (t.setSlot i x).image = t.image := (rfl)
@[simp] theorem Tray.setSlot_haveImage (t : Tray) (i : Nat) (x : TraySlot) : (t.setSlot i x).haveImage = t.haveImage := (rfl)
@[simp] theorem Tray.setSlot_imageBytes (t : Tray) (i : Nat) (x : TraySlot) : (t.setSlot i x).imageBytes = t.imageBytes := (rfl)
@[simp] theorem Tray.setSlot_nvmWrite (t : Tray) (i : Nat) (x : TraySlot) : (t.setSlot i x).nvmWrite = t.nvmWrite := (rfl)
@[simp] theorem Tray.setSlot_modeInForce (t : Tray) (i : Nat) (x : TraySlot) : (t.setSlot i x).modeInForce = t.modeInForce := (rfl)
@[simp] theorem Tray.setSlot_activeUp (t : Tray) (i : Nat) (x : TraySlot) : (t.setSlot i x).activeUp = t.activeUp := (rfl)
@[simp] theorem Tray.setSlot_flowA (t : Tray) (i : Nat) (x : TraySlot) : (t.setSlot i x).flowA = t.flowA := (rfl)
@[simp] theorem Tray.setSlot_flowB (t : Tray) (i : Nat) (x : TraySlot) : (t.setSlot i x).flowB = t.flowB := (rfl)
@[simp] theorem Tray.setSlot_threshold (t : Tray) (i : Nat) (x : TraySlot) : (t.setSlot i x).threshold = t.threshold := (rfl)
@[simp] theorem Tray.setSlot_stop (t : Tray) (i : Nat) (x : TraySlot) : (t.setSlot i x).stop = t.stop := (rfl)
@[simp] theorem Tray.setSlot_inletT (t : Tray) (i : Nat) (x : TraySlot) : (t.setSlot i x).inletT = t.inletT := (rfl)
@[simp] theorem Tray.setSlot_airT (t : Tray) (i : Nat) (x : TraySlot) : (t.setSlot i x).airT = t.airT := (rfl)
@[simp] theorem Tray.setSlot_busMv (t : Tray) (i : Nat) (x : TraySlot) : (t.setSlot i x).busMv = t.busMv := (rfl)
@[simp] theorem Tray.setSlot_flowNow (t : Tray) (i : Nat) (x : TraySlot) : (t.setSlot i x).flowNow = t.flowNow := (rfl)
@[simp] theorem Tray.setSlot_lampBoard (t : Tray) (i : Nat) (x : TraySlot) : (t.setSlot i x).lampBoard = t.lampBoard := (rfl)
@[simp] theorem Tray.setSlot_lamps (t : Tray) (i : Nat) (x : TraySlot) : (t.setSlot i x).lamps = t.lamps := (rfl)
@[simp] theorem Tray.setSlot_lampLevel (t : Tray) (i : Nat) (x : TraySlot) : (t.setSlot i x).lampLevel = t.lampLevel := (rfl)
@[simp] theorem Tray.setSlot_locate (t : Tray) (i : Nat) (x : TraySlot) : (t.setSlot i x).locate = t.locate := (rfl)
@[simp] theorem Tray.setSlot_locatePat (t : Tray) (i : Nat) (x : TraySlot) : (t.setSlot i x).locatePat = t.locatePat := (rfl)
@[simp] theorem Tray.setSlot_trayPat (t : Tray) (i : Nat) (x : TraySlot) : (t.setSlot i x).trayPat = t.trayPat := (rfl)
@[simp] theorem Tray.setSlot_log (t : Tray) (i : Nat) (x : TraySlot) : (t.setSlot i x).log = t.log := (rfl)
@[simp] theorem Tray.setSlot_logCount (t : Tray) (i : Nat) (x : TraySlot) : (t.setSlot i x).logCount = t.logCount := (rfl)
@[simp] theorem Tray.setSlot_inForce (t : Tray) (i : Nat) (x : TraySlot) : (t.setSlot i x).inForce = t.inForce := (rfl)
@[simp] theorem Tray.setSlot_prepared (t : Tray) (i : Nat) (x : TraySlot) : (t.setSlot i x).prepared = t.prepared := (rfl)
@[simp] theorem Tray.setSlot_prepReady (t : Tray) (i : Nat) (x : TraySlot) : (t.setSlot i x).prepReady = t.prepReady := (rfl)
@[simp] theorem Tray.setSlot_prepAge (t : Tray) (i : Nat) (x : TraySlot) : (t.setSlot i x).prepAge = t.prepAge := (rfl)
@[simp] theorem Tray.setSlot_staging (t : Tray) (i : Nat) (x : TraySlot) : (t.setSlot i x).staging = t.staging := (rfl)
@[simp] theorem Tray.setSlot_ring (t : Tray) (i : Nat) (x : TraySlot) : (t.setSlot i x).ring = t.ring := (rfl)
@[simp] theorem Tray.setSlot_exch (t : Tray) (i : Nat) (x : TraySlot) : (t.setSlot i x).exch = t.exch := (rfl)
@[simp] theorem Tray.setSlot_acked (t : Tray) (i : Nat) (x : TraySlot) : (t.setSlot i x).acked = t.acked := (rfl)
@[simp] theorem Tray.setSlot_hand (t : Tray) (i : Nat) (x : TraySlot) : (t.setSlot i x).hand = t.hand := (rfl)
@[simp] theorem Tray.setSlot_handAt (t : Tray) (i : Nat) (x : TraySlot) : (t.setSlot i x).handAt = t.handAt := (rfl)
@[simp] theorem Tray.setSlot_handDefer (t : Tray) (i : Nat) (x : TraySlot) : (t.setSlot i x).handDefer = t.handDefer := (rfl)
@[simp] theorem Tray.setSlot_handMsg (t : Tray) (i : Nat) (x : TraySlot) : (t.setSlot i x).handMsg = t.handMsg := (rfl)
@[simp] theorem Tray.setSlot_swapWaiters (t : Tray) (i : Nat) (x : TraySlot) : (t.setSlot i x).swapWaiters = t.swapWaiters := (rfl)
@[simp] theorem Tray.setSlot_heldCmds (t : Tray) (i : Nat) (x : TraySlot) : (t.setSlot i x).heldCmds = t.heldCmds := (rfl)
@[simp] theorem Tray.setSlot_joining (t : Tray) (i : Nat) (x : TraySlot) : (t.setSlot i x).joining = t.joining := (rfl)
@[simp] theorem Tray.tmc_setSlot_frame (t : Tray) (i : Nat) (x : TraySlot) (y : Side) : (t.setSlot i x).tmc y = t.tmc y := by
  cases y <;> rfl
@[simp] theorem Tray.trc_setSlot_frame (t : Tray) (i : Nat) (x : TraySlot) (y : Side) : (t.setSlot i x).trc y = t.trc y := by
  cases y <;> rfl
@[simp] theorem Tray.nvm_setSlot_frame (t : Tray) (i : Nat) (x : TraySlot) (y : Side) : (t.setSlot i x).nvm y = t.nvm y := by
  cases y <;> rfl
@[simp] theorem Tray.flow_setSlot_frame (t : Tray) (i : Nat) (x : TraySlot) (y : Side) : (t.setSlot i x).flow y = t.flow y := by
  cases y <;> rfl
@[simp] theorem Tray.setTmc_standby (t : Tray) (x : Side) (m : Tmc) : (t.setTmc x m).standby = t.standby := by
  cases x <;> rfl
@[simp] theorem Tray.setTmc_start (t : Tray) (x : Side) (m : Tmc) : (t.setTmc x m).start = t.start := by
  cases x <;> rfl
@[simp] theorem Tray.setTmc_slots (t : Tray) (x : Side) (m : Tmc) : (t.setTmc x m).slots = t.slots := by
  cases x <;> rfl
@[simp] theorem Tray.setTmc_role (t : Tray) (x : Side) (m : Tmc) : (t.setTmc x m).role = t.role := by
  cases x <;> rfl
@[simp] theorem Tray.setTmc_everHeld (t : Tray) (x : Side) (m : Tmc) : (t.setTmc x m).everHeld = t.everHeld := by
  cases x <;> rfl
@[simp] theorem Tray.setTmc_alive (t : Tray) (x : Side) (m : Tmc) : (t.setTmc x m).alive = t.alive := by
  cases x <;> rfl
@[simp] theorem Tray.setTmc_aliveAge (t : Tray) (x : Side) (m : Tmc) : (t.setTmc x m).aliveAge = t.aliveAge := by
  cases x <;> rfl
@[simp] theorem Tray.setTmc_trcA (t : Tray) (x : Side) (m : Tmc) : (t.setTmc x m).trcA = t.trcA := by
  cases x <;> rfl
@[simp] theorem Tray.setTmc_trcB (t : Tray) (x : Side) (m : Tmc) : (t.setTmc x m).trcB = t.trcB := by
  cases x <;> rfl
@[simp] theorem Tray.setTmc_nvmA (t : Tray) (x : Side) (m : Tmc) : (t.setTmc x m).nvmA = t.nvmA := by
  cases x <;> rfl
@[simp] theorem Tray.setTmc_nvmB (t : Tray) (x : Side) (m : Tmc) : (t.setTmc x m).nvmB = t.nvmB := by
  cases x <;> rfl
@[simp] theorem Tray.setTmc_image (t : Tray) (x : Side) (m : Tmc) : (t.setTmc x m).image = t.image := by
  cases x <;> rfl
@[simp] theorem Tray.setTmc_haveImage (t : Tray) (x : Side) (m : Tmc) : (t.setTmc x m).haveImage = t.haveImage := by
  cases x <;> rfl
@[simp] theorem Tray.setTmc_modeInForce (t : Tray) (x : Side) (m : Tmc) : (t.setTmc x m).modeInForce = t.modeInForce := by
  cases x <;> rfl
@[simp] theorem Tray.setTmc_activeUp (t : Tray) (x : Side) (m : Tmc) : (t.setTmc x m).activeUp = t.activeUp := by
  cases x <;> rfl
@[simp] theorem Tray.setTmc_flowA (t : Tray) (x : Side) (m : Tmc) : (t.setTmc x m).flowA = t.flowA := by
  cases x <;> rfl
@[simp] theorem Tray.setTmc_flowB (t : Tray) (x : Side) (m : Tmc) : (t.setTmc x m).flowB = t.flowB := by
  cases x <;> rfl
@[simp] theorem Tray.setTmc_threshold (t : Tray) (x : Side) (m : Tmc) : (t.setTmc x m).threshold = t.threshold := by
  cases x <;> rfl
@[simp] theorem Tray.setTmc_stop (t : Tray) (x : Side) (m : Tmc) : (t.setTmc x m).stop = t.stop := by
  cases x <;> rfl
@[simp] theorem Tray.setTmc_inletT (t : Tray) (x : Side) (m : Tmc) : (t.setTmc x m).inletT = t.inletT := by
  cases x <;> rfl
@[simp] theorem Tray.setTmc_airT (t : Tray) (x : Side) (m : Tmc) : (t.setTmc x m).airT = t.airT := by
  cases x <;> rfl
@[simp] theorem Tray.setTmc_busMv (t : Tray) (x : Side) (m : Tmc) : (t.setTmc x m).busMv = t.busMv := by
  cases x <;> rfl
@[simp] theorem Tray.setTmc_flowNow (t : Tray) (x : Side) (m : Tmc) : (t.setTmc x m).flowNow = t.flowNow := by
  cases x <;> rfl
@[simp] theorem Tray.setTmc_lampBoard (t : Tray) (x : Side) (m : Tmc) : (t.setTmc x m).lampBoard = t.lampBoard := by
  cases x <;> rfl
@[simp] theorem Tray.setTmc_lamps (t : Tray) (x : Side) (m : Tmc) : (t.setTmc x m).lamps = t.lamps := by
  cases x <;> rfl
@[simp] theorem Tray.setTmc_lampLevel (t : Tray) (x : Side) (m : Tmc) : (t.setTmc x m).lampLevel = t.lampLevel := by
  cases x <;> rfl
@[simp] theorem Tray.setTmc_locate (t : Tray) (x : Side) (m : Tmc) : (t.setTmc x m).locate = t.locate := by
  cases x <;> rfl
@[simp] theorem Tray.setTmc_locatePat (t : Tray) (x : Side) (m : Tmc) : (t.setTmc x m).locatePat = t.locatePat := by
  cases x <;> rfl
@[simp] theorem Tray.setTmc_trayPat (t : Tray) (x : Side) (m : Tmc) : (t.setTmc x m).trayPat = t.trayPat := by
  cases x <;> rfl
@[simp] theorem Tray.setTmc_log (t : Tray) (x : Side) (m : Tmc) : (t.setTmc x m).log = t.log := by
  cases x <;> rfl
@[simp] theorem Tray.setTmc_logCount (t : Tray) (x : Side) (m : Tmc) : (t.setTmc x m).logCount = t.logCount := by
  cases x <;> rfl
@[simp] theorem Tray.setTmc_inForce (t : Tray) (x : Side) (m : Tmc) : (t.setTmc x m).inForce = t.inForce := by
  cases x <;> rfl
@[simp] theorem Tray.setTmc_prepared (t : Tray) (x : Side) (m : Tmc) : (t.setTmc x m).prepared = t.prepared := by
  cases x <;> rfl
@[simp] theorem Tray.setTmc_prepReady (t : Tray) (x : Side) (m : Tmc) : (t.setTmc x m).prepReady = t.prepReady := by
  cases x <;> rfl
@[simp] theorem Tray.setTmc_staging (t : Tray) (x : Side) (m : Tmc) : (t.setTmc x m).staging = t.staging := by
  cases x <;> rfl
@[simp] theorem Tray.setTmc_ring (t : Tray) (x : Side) (m : Tmc) : (t.setTmc x m).ring = t.ring := by
  cases x <;> rfl
@[simp] theorem Tray.setTmc_exch (t : Tray) (x : Side) (m : Tmc) : (t.setTmc x m).exch = t.exch := by
  cases x <;> rfl
@[simp] theorem Tray.setTmc_acked (t : Tray) (x : Side) (m : Tmc) : (t.setTmc x m).acked = t.acked := by
  cases x <;> rfl
@[simp] theorem Tray.setTmc_hand (t : Tray) (x : Side) (m : Tmc) : (t.setTmc x m).hand = t.hand := by
  cases x <;> rfl
@[simp] theorem Tray.setTmc_handAt (t : Tray) (x : Side) (m : Tmc) : (t.setTmc x m).handAt = t.handAt := by
  cases x <;> rfl
@[simp] theorem Tray.setTmc_handMsg (t : Tray) (x : Side) (m : Tmc) : (t.setTmc x m).handMsg = t.handMsg := by
  cases x <;> rfl
@[simp] theorem Tray.setTmc_swapWaiters (t : Tray) (x : Side) (m : Tmc) : (t.setTmc x m).swapWaiters = t.swapWaiters := by
  cases x <;> rfl
@[simp] theorem Tray.setTmc_heldCmds (t : Tray) (x : Side) (m : Tmc) : (t.setTmc x m).heldCmds = t.heldCmds := by
  cases x <;> rfl
@[simp] theorem Tray.setTmc_joining (t : Tray) (x : Side) (m : Tmc) : (t.setTmc x m).joining = t.joining := by
  cases x <;> rfl
@[simp] theorem Tray.slot_setTmc_frame (t : Tray) (x : Side) (m : Tmc) (j : Nat) : (t.setTmc x m).slot j = t.slot j := by
  cases x <;> rfl
@[simp] theorem Tray.trc_setTmc_frame (t : Tray) (x : Side) (m : Tmc) (y : Side) : (t.setTmc x m).trc y = t.trc y := by
  cases x <;> cases y <;> rfl
@[simp] theorem Tray.nvm_setTmc_frame (t : Tray) (x : Side) (m : Tmc) (y : Side) : (t.setTmc x m).nvm y = t.nvm y := by
  cases x <;> cases y <;> rfl
@[simp] theorem Tray.flow_setTmc_frame (t : Tray) (x : Side) (m : Tmc) (y : Side) : (t.setTmc x m).flow y = t.flow y := by
  cases x <;> cases y <;> rfl
@[simp] theorem Tray.setTrc_standby (t : Tray) (x : Side) (m : Trc) : (t.setTrc x m).standby = t.standby := by
  cases x <;> rfl
@[simp] theorem Tray.setTrc_start (t : Tray) (x : Side) (m : Trc) : (t.setTrc x m).start = t.start := by
  cases x <;> rfl
@[simp] theorem Tray.setTrc_slots (t : Tray) (x : Side) (m : Trc) : (t.setTrc x m).slots = t.slots := by
  cases x <;> rfl
@[simp] theorem Tray.setTrc_role (t : Tray) (x : Side) (m : Trc) : (t.setTrc x m).role = t.role := by
  cases x <;> rfl
@[simp] theorem Tray.setTrc_everHeld (t : Tray) (x : Side) (m : Trc) : (t.setTrc x m).everHeld = t.everHeld := by
  cases x <;> rfl
@[simp] theorem Tray.setTrc_alive (t : Tray) (x : Side) (m : Trc) : (t.setTrc x m).alive = t.alive := by
  cases x <;> rfl
@[simp] theorem Tray.setTrc_aliveAge (t : Tray) (x : Side) (m : Trc) : (t.setTrc x m).aliveAge = t.aliveAge := by
  cases x <;> rfl
@[simp] theorem Tray.setTrc_tmcA (t : Tray) (x : Side) (m : Trc) : (t.setTrc x m).tmcA = t.tmcA := by
  cases x <;> rfl
@[simp] theorem Tray.setTrc_tmcB (t : Tray) (x : Side) (m : Trc) : (t.setTrc x m).tmcB = t.tmcB := by
  cases x <;> rfl
@[simp] theorem Tray.setTrc_nvmA (t : Tray) (x : Side) (m : Trc) : (t.setTrc x m).nvmA = t.nvmA := by
  cases x <;> rfl
@[simp] theorem Tray.setTrc_nvmB (t : Tray) (x : Side) (m : Trc) : (t.setTrc x m).nvmB = t.nvmB := by
  cases x <;> rfl
@[simp] theorem Tray.setTrc_image (t : Tray) (x : Side) (m : Trc) : (t.setTrc x m).image = t.image := by
  cases x <;> rfl
@[simp] theorem Tray.setTrc_haveImage (t : Tray) (x : Side) (m : Trc) : (t.setTrc x m).haveImage = t.haveImage := by
  cases x <;> rfl
@[simp] theorem Tray.setTrc_modeInForce (t : Tray) (x : Side) (m : Trc) : (t.setTrc x m).modeInForce = t.modeInForce := by
  cases x <;> rfl
@[simp] theorem Tray.setTrc_activeUp (t : Tray) (x : Side) (m : Trc) : (t.setTrc x m).activeUp = t.activeUp := by
  cases x <;> rfl
@[simp] theorem Tray.setTrc_flowA (t : Tray) (x : Side) (m : Trc) : (t.setTrc x m).flowA = t.flowA := by
  cases x <;> rfl
@[simp] theorem Tray.setTrc_flowB (t : Tray) (x : Side) (m : Trc) : (t.setTrc x m).flowB = t.flowB := by
  cases x <;> rfl
@[simp] theorem Tray.setTrc_threshold (t : Tray) (x : Side) (m : Trc) : (t.setTrc x m).threshold = t.threshold := by
  cases x <;> rfl
@[simp] theorem Tray.setTrc_stop (t : Tray) (x : Side) (m : Trc) : (t.setTrc x m).stop = t.stop := by
  cases x <;> rfl
@[simp] theorem Tray.setTrc_inletT (t : Tray) (x : Side) (m : Trc) : (t.setTrc x m).inletT = t.inletT := by
  cases x <;> rfl
@[simp] theorem Tray.setTrc_airT (t : Tray) (x : Side) (m : Trc) : (t.setTrc x m).airT = t.airT := by
  cases x <;> rfl
@[simp] theorem Tray.setTrc_busMv (t : Tray) (x : Side) (m : Trc) : (t.setTrc x m).busMv = t.busMv := by
  cases x <;> rfl
@[simp] theorem Tray.setTrc_flowNow (t : Tray) (x : Side) (m : Trc) : (t.setTrc x m).flowNow = t.flowNow := by
  cases x <;> rfl
@[simp] theorem Tray.setTrc_lampBoard (t : Tray) (x : Side) (m : Trc) : (t.setTrc x m).lampBoard = t.lampBoard := by
  cases x <;> rfl
@[simp] theorem Tray.setTrc_lamps (t : Tray) (x : Side) (m : Trc) : (t.setTrc x m).lamps = t.lamps := by
  cases x <;> rfl
@[simp] theorem Tray.setTrc_lampLevel (t : Tray) (x : Side) (m : Trc) : (t.setTrc x m).lampLevel = t.lampLevel := by
  cases x <;> rfl
@[simp] theorem Tray.setTrc_locate (t : Tray) (x : Side) (m : Trc) : (t.setTrc x m).locate = t.locate := by
  cases x <;> rfl
@[simp] theorem Tray.setTrc_locatePat (t : Tray) (x : Side) (m : Trc) : (t.setTrc x m).locatePat = t.locatePat := by
  cases x <;> rfl
@[simp] theorem Tray.setTrc_trayPat (t : Tray) (x : Side) (m : Trc) : (t.setTrc x m).trayPat = t.trayPat := by
  cases x <;> rfl
@[simp] theorem Tray.setTrc_log (t : Tray) (x : Side) (m : Trc) : (t.setTrc x m).log = t.log := by
  cases x <;> rfl
@[simp] theorem Tray.setTrc_logCount (t : Tray) (x : Side) (m : Trc) : (t.setTrc x m).logCount = t.logCount := by
  cases x <;> rfl
@[simp] theorem Tray.setTrc_inForce (t : Tray) (x : Side) (m : Trc) : (t.setTrc x m).inForce = t.inForce := by
  cases x <;> rfl
@[simp] theorem Tray.setTrc_prepared (t : Tray) (x : Side) (m : Trc) : (t.setTrc x m).prepared = t.prepared := by
  cases x <;> rfl
@[simp] theorem Tray.setTrc_prepReady (t : Tray) (x : Side) (m : Trc) : (t.setTrc x m).prepReady = t.prepReady := by
  cases x <;> rfl
@[simp] theorem Tray.setTrc_staging (t : Tray) (x : Side) (m : Trc) : (t.setTrc x m).staging = t.staging := by
  cases x <;> rfl
@[simp] theorem Tray.setTrc_ring (t : Tray) (x : Side) (m : Trc) : (t.setTrc x m).ring = t.ring := by
  cases x <;> rfl
@[simp] theorem Tray.setTrc_exch (t : Tray) (x : Side) (m : Trc) : (t.setTrc x m).exch = t.exch := by
  cases x <;> rfl
@[simp] theorem Tray.setTrc_acked (t : Tray) (x : Side) (m : Trc) : (t.setTrc x m).acked = t.acked := by
  cases x <;> rfl
@[simp] theorem Tray.setTrc_hand (t : Tray) (x : Side) (m : Trc) : (t.setTrc x m).hand = t.hand := by
  cases x <;> rfl
@[simp] theorem Tray.setTrc_handAt (t : Tray) (x : Side) (m : Trc) : (t.setTrc x m).handAt = t.handAt := by
  cases x <;> rfl
@[simp] theorem Tray.setTrc_handMsg (t : Tray) (x : Side) (m : Trc) : (t.setTrc x m).handMsg = t.handMsg := by
  cases x <;> rfl
@[simp] theorem Tray.setTrc_swapWaiters (t : Tray) (x : Side) (m : Trc) : (t.setTrc x m).swapWaiters = t.swapWaiters := by
  cases x <;> rfl
@[simp] theorem Tray.setTrc_heldCmds (t : Tray) (x : Side) (m : Trc) : (t.setTrc x m).heldCmds = t.heldCmds := by
  cases x <;> rfl
@[simp] theorem Tray.setTrc_joining (t : Tray) (x : Side) (m : Trc) : (t.setTrc x m).joining = t.joining := by
  cases x <;> rfl
@[simp] theorem Tray.slot_setTrc_frame (t : Tray) (x : Side) (m : Trc) (j : Nat) : (t.setTrc x m).slot j = t.slot j := by
  cases x <;> rfl
@[simp] theorem Tray.tmc_setTrc_frame (t : Tray) (x : Side) (m : Trc) (y : Side) : (t.setTrc x m).tmc y = t.tmc y := by
  cases x <;> cases y <;> rfl
@[simp] theorem Tray.nvm_setTrc_frame (t : Tray) (x : Side) (m : Trc) (y : Side) : (t.setTrc x m).nvm y = t.nvm y := by
  cases x <;> cases y <;> rfl
@[simp] theorem Tray.flow_setTrc_frame (t : Tray) (x : Side) (m : Trc) (y : Side) : (t.setTrc x m).flow y = t.flow y := by
  cases x <;> cases y <;> rfl
@[simp] theorem Tray.setNvm_standby (t : Tray) (x : Side) (m : Nvm) : (t.setNvm x m).standby = t.standby := by
  cases x <;> rfl
@[simp] theorem Tray.setNvm_start (t : Tray) (x : Side) (m : Nvm) : (t.setNvm x m).start = t.start := by
  cases x <;> rfl
@[simp] theorem Tray.setNvm_slots (t : Tray) (x : Side) (m : Nvm) : (t.setNvm x m).slots = t.slots := by
  cases x <;> rfl
@[simp] theorem Tray.setNvm_role (t : Tray) (x : Side) (m : Nvm) : (t.setNvm x m).role = t.role := by
  cases x <;> rfl
@[simp] theorem Tray.setNvm_everHeld (t : Tray) (x : Side) (m : Nvm) : (t.setNvm x m).everHeld = t.everHeld := by
  cases x <;> rfl
@[simp] theorem Tray.setNvm_alive (t : Tray) (x : Side) (m : Nvm) : (t.setNvm x m).alive = t.alive := by
  cases x <;> rfl
@[simp] theorem Tray.setNvm_aliveAge (t : Tray) (x : Side) (m : Nvm) : (t.setNvm x m).aliveAge = t.aliveAge := by
  cases x <;> rfl
@[simp] theorem Tray.setNvm_tmcA (t : Tray) (x : Side) (m : Nvm) : (t.setNvm x m).tmcA = t.tmcA := by
  cases x <;> rfl
@[simp] theorem Tray.setNvm_tmcB (t : Tray) (x : Side) (m : Nvm) : (t.setNvm x m).tmcB = t.tmcB := by
  cases x <;> rfl
@[simp] theorem Tray.setNvm_trcA (t : Tray) (x : Side) (m : Nvm) : (t.setNvm x m).trcA = t.trcA := by
  cases x <;> rfl
@[simp] theorem Tray.setNvm_trcB (t : Tray) (x : Side) (m : Nvm) : (t.setNvm x m).trcB = t.trcB := by
  cases x <;> rfl
@[simp] theorem Tray.setNvm_image (t : Tray) (x : Side) (m : Nvm) : (t.setNvm x m).image = t.image := by
  cases x <;> rfl
@[simp] theorem Tray.setNvm_haveImage (t : Tray) (x : Side) (m : Nvm) : (t.setNvm x m).haveImage = t.haveImage := by
  cases x <;> rfl
@[simp] theorem Tray.setNvm_modeInForce (t : Tray) (x : Side) (m : Nvm) : (t.setNvm x m).modeInForce = t.modeInForce := by
  cases x <;> rfl
@[simp] theorem Tray.setNvm_activeUp (t : Tray) (x : Side) (m : Nvm) : (t.setNvm x m).activeUp = t.activeUp := by
  cases x <;> rfl
@[simp] theorem Tray.setNvm_flowA (t : Tray) (x : Side) (m : Nvm) : (t.setNvm x m).flowA = t.flowA := by
  cases x <;> rfl
@[simp] theorem Tray.setNvm_flowB (t : Tray) (x : Side) (m : Nvm) : (t.setNvm x m).flowB = t.flowB := by
  cases x <;> rfl
@[simp] theorem Tray.setNvm_threshold (t : Tray) (x : Side) (m : Nvm) : (t.setNvm x m).threshold = t.threshold := by
  cases x <;> rfl
@[simp] theorem Tray.setNvm_stop (t : Tray) (x : Side) (m : Nvm) : (t.setNvm x m).stop = t.stop := by
  cases x <;> rfl
@[simp] theorem Tray.setNvm_inletT (t : Tray) (x : Side) (m : Nvm) : (t.setNvm x m).inletT = t.inletT := by
  cases x <;> rfl
@[simp] theorem Tray.setNvm_airT (t : Tray) (x : Side) (m : Nvm) : (t.setNvm x m).airT = t.airT := by
  cases x <;> rfl
@[simp] theorem Tray.setNvm_busMv (t : Tray) (x : Side) (m : Nvm) : (t.setNvm x m).busMv = t.busMv := by
  cases x <;> rfl
@[simp] theorem Tray.setNvm_flowNow (t : Tray) (x : Side) (m : Nvm) : (t.setNvm x m).flowNow = t.flowNow := by
  cases x <;> rfl
@[simp] theorem Tray.setNvm_lampBoard (t : Tray) (x : Side) (m : Nvm) : (t.setNvm x m).lampBoard = t.lampBoard := by
  cases x <;> rfl
@[simp] theorem Tray.setNvm_lamps (t : Tray) (x : Side) (m : Nvm) : (t.setNvm x m).lamps = t.lamps := by
  cases x <;> rfl
@[simp] theorem Tray.setNvm_lampLevel (t : Tray) (x : Side) (m : Nvm) : (t.setNvm x m).lampLevel = t.lampLevel := by
  cases x <;> rfl
@[simp] theorem Tray.setNvm_locate (t : Tray) (x : Side) (m : Nvm) : (t.setNvm x m).locate = t.locate := by
  cases x <;> rfl
@[simp] theorem Tray.setNvm_locatePat (t : Tray) (x : Side) (m : Nvm) : (t.setNvm x m).locatePat = t.locatePat := by
  cases x <;> rfl
@[simp] theorem Tray.setNvm_trayPat (t : Tray) (x : Side) (m : Nvm) : (t.setNvm x m).trayPat = t.trayPat := by
  cases x <;> rfl
@[simp] theorem Tray.setNvm_log (t : Tray) (x : Side) (m : Nvm) : (t.setNvm x m).log = t.log := by
  cases x <;> rfl
@[simp] theorem Tray.setNvm_logCount (t : Tray) (x : Side) (m : Nvm) : (t.setNvm x m).logCount = t.logCount := by
  cases x <;> rfl
@[simp] theorem Tray.setNvm_inForce (t : Tray) (x : Side) (m : Nvm) : (t.setNvm x m).inForce = t.inForce := by
  cases x <;> rfl
@[simp] theorem Tray.setNvm_prepared (t : Tray) (x : Side) (m : Nvm) : (t.setNvm x m).prepared = t.prepared := by
  cases x <;> rfl
@[simp] theorem Tray.setNvm_prepReady (t : Tray) (x : Side) (m : Nvm) : (t.setNvm x m).prepReady = t.prepReady := by
  cases x <;> rfl
@[simp] theorem Tray.setNvm_staging (t : Tray) (x : Side) (m : Nvm) : (t.setNvm x m).staging = t.staging := by
  cases x <;> rfl
@[simp] theorem Tray.setNvm_ring (t : Tray) (x : Side) (m : Nvm) : (t.setNvm x m).ring = t.ring := by
  cases x <;> rfl
@[simp] theorem Tray.setNvm_exch (t : Tray) (x : Side) (m : Nvm) : (t.setNvm x m).exch = t.exch := by
  cases x <;> rfl
@[simp] theorem Tray.setNvm_acked (t : Tray) (x : Side) (m : Nvm) : (t.setNvm x m).acked = t.acked := by
  cases x <;> rfl
@[simp] theorem Tray.setNvm_hand (t : Tray) (x : Side) (m : Nvm) : (t.setNvm x m).hand = t.hand := by
  cases x <;> rfl
@[simp] theorem Tray.setNvm_handAt (t : Tray) (x : Side) (m : Nvm) : (t.setNvm x m).handAt = t.handAt := by
  cases x <;> rfl
@[simp] theorem Tray.setNvm_handMsg (t : Tray) (x : Side) (m : Nvm) : (t.setNvm x m).handMsg = t.handMsg := by
  cases x <;> rfl
@[simp] theorem Tray.setNvm_swapWaiters (t : Tray) (x : Side) (m : Nvm) : (t.setNvm x m).swapWaiters = t.swapWaiters := by
  cases x <;> rfl
@[simp] theorem Tray.setNvm_heldCmds (t : Tray) (x : Side) (m : Nvm) : (t.setNvm x m).heldCmds = t.heldCmds := by
  cases x <;> rfl
@[simp] theorem Tray.setNvm_joining (t : Tray) (x : Side) (m : Nvm) : (t.setNvm x m).joining = t.joining := by
  cases x <;> rfl
@[simp] theorem Tray.slot_setNvm_frame (t : Tray) (x : Side) (m : Nvm) (j : Nat) : (t.setNvm x m).slot j = t.slot j := by
  cases x <;> rfl
@[simp] theorem Tray.tmc_setNvm_frame (t : Tray) (x : Side) (m : Nvm) (y : Side) : (t.setNvm x m).tmc y = t.tmc y := by
  cases x <;> cases y <;> rfl
@[simp] theorem Tray.trc_setNvm_frame (t : Tray) (x : Side) (m : Nvm) (y : Side) : (t.setNvm x m).trc y = t.trc y := by
  cases x <;> cases y <;> rfl
@[simp] theorem Tray.flow_setNvm_frame (t : Tray) (x : Side) (m : Nvm) (y : Side) : (t.setNvm x m).flow y = t.flow y := by
  cases x <;> cases y <;> rfl
@[simp] theorem Tray.setFlow_standby (t : Tray) (x : Side) (m : FlowSensor) : (t.setFlow x m).standby = t.standby := by
  cases x <;> rfl
@[simp] theorem Tray.setFlow_start (t : Tray) (x : Side) (m : FlowSensor) : (t.setFlow x m).start = t.start := by
  cases x <;> rfl
@[simp] theorem Tray.setFlow_slots (t : Tray) (x : Side) (m : FlowSensor) : (t.setFlow x m).slots = t.slots := by
  cases x <;> rfl
@[simp] theorem Tray.setFlow_role (t : Tray) (x : Side) (m : FlowSensor) : (t.setFlow x m).role = t.role := by
  cases x <;> rfl
@[simp] theorem Tray.setFlow_everHeld (t : Tray) (x : Side) (m : FlowSensor) : (t.setFlow x m).everHeld = t.everHeld := by
  cases x <;> rfl
@[simp] theorem Tray.setFlow_alive (t : Tray) (x : Side) (m : FlowSensor) : (t.setFlow x m).alive = t.alive := by
  cases x <;> rfl
@[simp] theorem Tray.setFlow_aliveAge (t : Tray) (x : Side) (m : FlowSensor) : (t.setFlow x m).aliveAge = t.aliveAge := by
  cases x <;> rfl
@[simp] theorem Tray.setFlow_tmcA (t : Tray) (x : Side) (m : FlowSensor) : (t.setFlow x m).tmcA = t.tmcA := by
  cases x <;> rfl
@[simp] theorem Tray.setFlow_tmcB (t : Tray) (x : Side) (m : FlowSensor) : (t.setFlow x m).tmcB = t.tmcB := by
  cases x <;> rfl
@[simp] theorem Tray.setFlow_trcA (t : Tray) (x : Side) (m : FlowSensor) : (t.setFlow x m).trcA = t.trcA := by
  cases x <;> rfl
@[simp] theorem Tray.setFlow_trcB (t : Tray) (x : Side) (m : FlowSensor) : (t.setFlow x m).trcB = t.trcB := by
  cases x <;> rfl
@[simp] theorem Tray.setFlow_nvmA (t : Tray) (x : Side) (m : FlowSensor) : (t.setFlow x m).nvmA = t.nvmA := by
  cases x <;> rfl
@[simp] theorem Tray.setFlow_nvmB (t : Tray) (x : Side) (m : FlowSensor) : (t.setFlow x m).nvmB = t.nvmB := by
  cases x <;> rfl
@[simp] theorem Tray.setFlow_image (t : Tray) (x : Side) (m : FlowSensor) : (t.setFlow x m).image = t.image := by
  cases x <;> rfl
@[simp] theorem Tray.setFlow_haveImage (t : Tray) (x : Side) (m : FlowSensor) : (t.setFlow x m).haveImage = t.haveImage := by
  cases x <;> rfl
@[simp] theorem Tray.setFlow_modeInForce (t : Tray) (x : Side) (m : FlowSensor) : (t.setFlow x m).modeInForce = t.modeInForce := by
  cases x <;> rfl
@[simp] theorem Tray.setFlow_activeUp (t : Tray) (x : Side) (m : FlowSensor) : (t.setFlow x m).activeUp = t.activeUp := by
  cases x <;> rfl
@[simp] theorem Tray.setFlow_threshold (t : Tray) (x : Side) (m : FlowSensor) : (t.setFlow x m).threshold = t.threshold := by
  cases x <;> rfl
@[simp] theorem Tray.setFlow_stop (t : Tray) (x : Side) (m : FlowSensor) : (t.setFlow x m).stop = t.stop := by
  cases x <;> rfl
@[simp] theorem Tray.setFlow_inletT (t : Tray) (x : Side) (m : FlowSensor) : (t.setFlow x m).inletT = t.inletT := by
  cases x <;> rfl
@[simp] theorem Tray.setFlow_airT (t : Tray) (x : Side) (m : FlowSensor) : (t.setFlow x m).airT = t.airT := by
  cases x <;> rfl
@[simp] theorem Tray.setFlow_busMv (t : Tray) (x : Side) (m : FlowSensor) : (t.setFlow x m).busMv = t.busMv := by
  cases x <;> rfl
@[simp] theorem Tray.setFlow_flowNow (t : Tray) (x : Side) (m : FlowSensor) : (t.setFlow x m).flowNow = t.flowNow := by
  cases x <;> rfl
@[simp] theorem Tray.setFlow_lampBoard (t : Tray) (x : Side) (m : FlowSensor) : (t.setFlow x m).lampBoard = t.lampBoard := by
  cases x <;> rfl
@[simp] theorem Tray.setFlow_lamps (t : Tray) (x : Side) (m : FlowSensor) : (t.setFlow x m).lamps = t.lamps := by
  cases x <;> rfl
@[simp] theorem Tray.setFlow_lampLevel (t : Tray) (x : Side) (m : FlowSensor) : (t.setFlow x m).lampLevel = t.lampLevel := by
  cases x <;> rfl
@[simp] theorem Tray.setFlow_locate (t : Tray) (x : Side) (m : FlowSensor) : (t.setFlow x m).locate = t.locate := by
  cases x <;> rfl
@[simp] theorem Tray.setFlow_locatePat (t : Tray) (x : Side) (m : FlowSensor) : (t.setFlow x m).locatePat = t.locatePat := by
  cases x <;> rfl
@[simp] theorem Tray.setFlow_trayPat (t : Tray) (x : Side) (m : FlowSensor) : (t.setFlow x m).trayPat = t.trayPat := by
  cases x <;> rfl
@[simp] theorem Tray.setFlow_log (t : Tray) (x : Side) (m : FlowSensor) : (t.setFlow x m).log = t.log := by
  cases x <;> rfl
@[simp] theorem Tray.setFlow_logCount (t : Tray) (x : Side) (m : FlowSensor) : (t.setFlow x m).logCount = t.logCount := by
  cases x <;> rfl
@[simp] theorem Tray.setFlow_inForce (t : Tray) (x : Side) (m : FlowSensor) : (t.setFlow x m).inForce = t.inForce := by
  cases x <;> rfl
@[simp] theorem Tray.setFlow_prepared (t : Tray) (x : Side) (m : FlowSensor) : (t.setFlow x m).prepared = t.prepared := by
  cases x <;> rfl
@[simp] theorem Tray.setFlow_prepReady (t : Tray) (x : Side) (m : FlowSensor) : (t.setFlow x m).prepReady = t.prepReady := by
  cases x <;> rfl
@[simp] theorem Tray.setFlow_staging (t : Tray) (x : Side) (m : FlowSensor) : (t.setFlow x m).staging = t.staging := by
  cases x <;> rfl
@[simp] theorem Tray.setFlow_ring (t : Tray) (x : Side) (m : FlowSensor) : (t.setFlow x m).ring = t.ring := by
  cases x <;> rfl
@[simp] theorem Tray.setFlow_exch (t : Tray) (x : Side) (m : FlowSensor) : (t.setFlow x m).exch = t.exch := by
  cases x <;> rfl
@[simp] theorem Tray.setFlow_acked (t : Tray) (x : Side) (m : FlowSensor) : (t.setFlow x m).acked = t.acked := by
  cases x <;> rfl
@[simp] theorem Tray.setFlow_hand (t : Tray) (x : Side) (m : FlowSensor) : (t.setFlow x m).hand = t.hand := by
  cases x <;> rfl
@[simp] theorem Tray.setFlow_handAt (t : Tray) (x : Side) (m : FlowSensor) : (t.setFlow x m).handAt = t.handAt := by
  cases x <;> rfl
@[simp] theorem Tray.setFlow_handMsg (t : Tray) (x : Side) (m : FlowSensor) : (t.setFlow x m).handMsg = t.handMsg := by
  cases x <;> rfl
@[simp] theorem Tray.setFlow_swapWaiters (t : Tray) (x : Side) (m : FlowSensor) : (t.setFlow x m).swapWaiters = t.swapWaiters := by
  cases x <;> rfl
@[simp] theorem Tray.setFlow_heldCmds (t : Tray) (x : Side) (m : FlowSensor) : (t.setFlow x m).heldCmds = t.heldCmds := by
  cases x <;> rfl
@[simp] theorem Tray.setFlow_joining (t : Tray) (x : Side) (m : FlowSensor) : (t.setFlow x m).joining = t.joining := by
  cases x <;> rfl
@[simp] theorem Tray.slot_setFlow_frame (t : Tray) (x : Side) (m : FlowSensor) (j : Nat) : (t.setFlow x m).slot j = t.slot j := by
  cases x <;> rfl
@[simp] theorem Tray.tmc_setFlow_frame (t : Tray) (x : Side) (m : FlowSensor) (y : Side) : (t.setFlow x m).tmc y = t.tmc y := by
  cases x <;> cases y <;> rfl
@[simp] theorem Tray.trc_setFlow_frame (t : Tray) (x : Side) (m : FlowSensor) (y : Side) : (t.setFlow x m).trc y = t.trc y := by
  cases x <;> cases y <;> rfl
@[simp] theorem Tray.nvm_setFlow_frame (t : Tray) (x : Side) (m : FlowSensor) (y : Side) : (t.setFlow x m).nvm y = t.nvm y := by
  cases x <;> cases y <;> rfl
@[simp] theorem Tray.fault_standby (t : Tray) (g : Tag) (nn i : Nat) : (t.fault g nn i).standby = t.standby := (rfl)
@[simp] theorem Tray.fault_start (t : Tray) (g : Tag) (nn i : Nat) : (t.fault g nn i).start = t.start := (rfl)
@[simp] theorem Tray.fault_slots (t : Tray) (g : Tag) (nn i : Nat) : (t.fault g nn i).slots = t.slots := (rfl)
@[simp] theorem Tray.fault_role (t : Tray) (g : Tag) (nn i : Nat) : (t.fault g nn i).role = t.role := (rfl)
@[simp] theorem Tray.fault_everHeld (t : Tray) (g : Tag) (nn i : Nat) : (t.fault g nn i).everHeld = t.everHeld := (rfl)
@[simp] theorem Tray.fault_alive (t : Tray) (g : Tag) (nn i : Nat) : (t.fault g nn i).alive = t.alive := (rfl)
@[simp] theorem Tray.fault_aliveAge (t : Tray) (g : Tag) (nn i : Nat) : (t.fault g nn i).aliveAge = t.aliveAge := (rfl)
@[simp] theorem Tray.fault_tmcA (t : Tray) (g : Tag) (nn i : Nat) : (t.fault g nn i).tmcA = t.tmcA := (rfl)
@[simp] theorem Tray.fault_tmcB (t : Tray) (g : Tag) (nn i : Nat) : (t.fault g nn i).tmcB = t.tmcB := (rfl)
@[simp] theorem Tray.fault_trcA (t : Tray) (g : Tag) (nn i : Nat) : (t.fault g nn i).trcA = t.trcA := (rfl)
@[simp] theorem Tray.fault_trcB (t : Tray) (g : Tag) (nn i : Nat) : (t.fault g nn i).trcB = t.trcB := (rfl)
@[simp] theorem Tray.fault_nvmA (t : Tray) (g : Tag) (nn i : Nat) : (t.fault g nn i).nvmA = t.nvmA := (rfl)
@[simp] theorem Tray.fault_nvmB (t : Tray) (g : Tag) (nn i : Nat) : (t.fault g nn i).nvmB = t.nvmB := (rfl)
@[simp] theorem Tray.fault_image (t : Tray) (g : Tag) (nn i : Nat) : (t.fault g nn i).image = t.image := (rfl)
@[simp] theorem Tray.fault_haveImage (t : Tray) (g : Tag) (nn i : Nat) : (t.fault g nn i).haveImage = t.haveImage := (rfl)
@[simp] theorem Tray.fault_imageBytes (t : Tray) (g : Tag) (nn i : Nat) : (t.fault g nn i).imageBytes = t.imageBytes := (rfl)
@[simp] theorem Tray.fault_nvmWrite (t : Tray) (g : Tag) (nn i : Nat) : (t.fault g nn i).nvmWrite = t.nvmWrite := (rfl)
@[simp] theorem Tray.fault_modeInForce (t : Tray) (g : Tag) (nn i : Nat) : (t.fault g nn i).modeInForce = t.modeInForce := (rfl)
@[simp] theorem Tray.fault_activeUp (t : Tray) (g : Tag) (nn i : Nat) : (t.fault g nn i).activeUp = t.activeUp := (rfl)
@[simp] theorem Tray.fault_flowA (t : Tray) (g : Tag) (nn i : Nat) : (t.fault g nn i).flowA = t.flowA := (rfl)
@[simp] theorem Tray.fault_flowB (t : Tray) (g : Tag) (nn i : Nat) : (t.fault g nn i).flowB = t.flowB := (rfl)
@[simp] theorem Tray.fault_threshold (t : Tray) (g : Tag) (nn i : Nat) : (t.fault g nn i).threshold = t.threshold := (rfl)
@[simp] theorem Tray.fault_stop (t : Tray) (g : Tag) (nn i : Nat) : (t.fault g nn i).stop = t.stop := (rfl)
@[simp] theorem Tray.fault_inletT (t : Tray) (g : Tag) (nn i : Nat) : (t.fault g nn i).inletT = t.inletT := (rfl)
@[simp] theorem Tray.fault_airT (t : Tray) (g : Tag) (nn i : Nat) : (t.fault g nn i).airT = t.airT := (rfl)
@[simp] theorem Tray.fault_busMv (t : Tray) (g : Tag) (nn i : Nat) : (t.fault g nn i).busMv = t.busMv := (rfl)
@[simp] theorem Tray.fault_flowNow (t : Tray) (g : Tag) (nn i : Nat) : (t.fault g nn i).flowNow = t.flowNow := (rfl)
@[simp] theorem Tray.fault_lampBoard (t : Tray) (g : Tag) (nn i : Nat) : (t.fault g nn i).lampBoard = t.lampBoard := (rfl)
@[simp] theorem Tray.fault_lamps (t : Tray) (g : Tag) (nn i : Nat) : (t.fault g nn i).lamps = t.lamps := (rfl)
@[simp] theorem Tray.fault_lampLevel (t : Tray) (g : Tag) (nn i : Nat) : (t.fault g nn i).lampLevel = t.lampLevel := (rfl)
@[simp] theorem Tray.fault_locate (t : Tray) (g : Tag) (nn i : Nat) : (t.fault g nn i).locate = t.locate := (rfl)
@[simp] theorem Tray.fault_locatePat (t : Tray) (g : Tag) (nn i : Nat) : (t.fault g nn i).locatePat = t.locatePat := (rfl)
@[simp] theorem Tray.fault_trayPat (t : Tray) (g : Tag) (nn i : Nat) : (t.fault g nn i).trayPat = t.trayPat := (rfl)
@[simp] theorem Tray.fault_prepared (t : Tray) (g : Tag) (nn i : Nat) : (t.fault g nn i).prepared = t.prepared := (rfl)
@[simp] theorem Tray.fault_prepReady (t : Tray) (g : Tag) (nn i : Nat) : (t.fault g nn i).prepReady = t.prepReady := (rfl)
@[simp] theorem Tray.fault_prepAge (t : Tray) (g : Tag) (nn i : Nat) : (t.fault g nn i).prepAge = t.prepAge := (rfl)
@[simp] theorem Tray.fault_staging (t : Tray) (g : Tag) (nn i : Nat) : (t.fault g nn i).staging = t.staging := (rfl)
@[simp] theorem Tray.fault_ring (t : Tray) (g : Tag) (nn i : Nat) : (t.fault g nn i).ring = t.ring := (rfl)
@[simp] theorem Tray.fault_exch (t : Tray) (g : Tag) (nn i : Nat) : (t.fault g nn i).exch = t.exch := (rfl)
@[simp] theorem Tray.fault_acked (t : Tray) (g : Tag) (nn i : Nat) : (t.fault g nn i).acked = t.acked := (rfl)
@[simp] theorem Tray.fault_hand (t : Tray) (g : Tag) (nn i : Nat) : (t.fault g nn i).hand = t.hand := (rfl)
@[simp] theorem Tray.fault_handAt (t : Tray) (g : Tag) (nn i : Nat) : (t.fault g nn i).handAt = t.handAt := (rfl)
@[simp] theorem Tray.fault_handDefer (t : Tray) (g : Tag) (nn i : Nat) : (t.fault g nn i).handDefer = t.handDefer := (rfl)
@[simp] theorem Tray.fault_handMsg (t : Tray) (g : Tag) (nn i : Nat) : (t.fault g nn i).handMsg = t.handMsg := (rfl)
@[simp] theorem Tray.fault_swapWaiters (t : Tray) (g : Tag) (nn i : Nat) : (t.fault g nn i).swapWaiters = t.swapWaiters := (rfl)
@[simp] theorem Tray.fault_heldCmds (t : Tray) (g : Tag) (nn i : Nat) : (t.fault g nn i).heldCmds = t.heldCmds := (rfl)
@[simp] theorem Tray.fault_joining (t : Tray) (g : Tag) (nn i : Nat) : (t.fault g nn i).joining = t.joining := (rfl)
@[simp] theorem Tray.slot_fault_frame (t : Tray) (g : Tag) (nn i : Nat) (j : Nat) : (t.fault g nn i).slot j = t.slot j := by
  rfl
@[simp] theorem Tray.tmc_fault_frame (t : Tray) (g : Tag) (nn i : Nat) (y : Side) : (t.fault g nn i).tmc y = t.tmc y := by
  cases y <;> rfl
@[simp] theorem Tray.trc_fault_frame (t : Tray) (g : Tag) (nn i : Nat) (y : Side) : (t.fault g nn i).trc y = t.trc y := by
  cases y <;> rfl
@[simp] theorem Tray.nvm_fault_frame (t : Tray) (g : Tag) (nn i : Nat) (y : Side) : (t.fault g nn i).nvm y = t.nvm y := by
  cases y <;> rfl
@[simp] theorem Tray.flow_fault_frame (t : Tray) (g : Tag) (nn i : Nat) (y : Side) : (t.fault g nn i).flow y = t.flow y := by
  cases y <;> rfl
@[simp] theorem Tray.clearFault_standby (t : Tray) (g : Tag) (nn i : Nat) : (t.clearFault g nn i).standby = t.standby := (rfl)
@[simp] theorem Tray.clearFault_start (t : Tray) (g : Tag) (nn i : Nat) : (t.clearFault g nn i).start = t.start := (rfl)
@[simp] theorem Tray.clearFault_slots (t : Tray) (g : Tag) (nn i : Nat) : (t.clearFault g nn i).slots = t.slots := (rfl)
@[simp] theorem Tray.clearFault_role (t : Tray) (g : Tag) (nn i : Nat) : (t.clearFault g nn i).role = t.role := (rfl)
@[simp] theorem Tray.clearFault_everHeld (t : Tray) (g : Tag) (nn i : Nat) : (t.clearFault g nn i).everHeld = t.everHeld := (rfl)
@[simp] theorem Tray.clearFault_alive (t : Tray) (g : Tag) (nn i : Nat) : (t.clearFault g nn i).alive = t.alive := (rfl)
@[simp] theorem Tray.clearFault_aliveAge (t : Tray) (g : Tag) (nn i : Nat) : (t.clearFault g nn i).aliveAge = t.aliveAge := (rfl)
@[simp] theorem Tray.clearFault_tmcA (t : Tray) (g : Tag) (nn i : Nat) : (t.clearFault g nn i).tmcA = t.tmcA := (rfl)
@[simp] theorem Tray.clearFault_tmcB (t : Tray) (g : Tag) (nn i : Nat) : (t.clearFault g nn i).tmcB = t.tmcB := (rfl)
@[simp] theorem Tray.clearFault_trcA (t : Tray) (g : Tag) (nn i : Nat) : (t.clearFault g nn i).trcA = t.trcA := (rfl)
@[simp] theorem Tray.clearFault_trcB (t : Tray) (g : Tag) (nn i : Nat) : (t.clearFault g nn i).trcB = t.trcB := (rfl)
@[simp] theorem Tray.clearFault_nvmA (t : Tray) (g : Tag) (nn i : Nat) : (t.clearFault g nn i).nvmA = t.nvmA := (rfl)
@[simp] theorem Tray.clearFault_nvmB (t : Tray) (g : Tag) (nn i : Nat) : (t.clearFault g nn i).nvmB = t.nvmB := (rfl)
@[simp] theorem Tray.clearFault_image (t : Tray) (g : Tag) (nn i : Nat) : (t.clearFault g nn i).image = t.image := (rfl)
@[simp] theorem Tray.clearFault_haveImage (t : Tray) (g : Tag) (nn i : Nat) : (t.clearFault g nn i).haveImage = t.haveImage := (rfl)
@[simp] theorem Tray.clearFault_imageBytes (t : Tray) (g : Tag) (nn i : Nat) : (t.clearFault g nn i).imageBytes = t.imageBytes := (rfl)
@[simp] theorem Tray.clearFault_nvmWrite (t : Tray) (g : Tag) (nn i : Nat) : (t.clearFault g nn i).nvmWrite = t.nvmWrite := (rfl)
@[simp] theorem Tray.clearFault_modeInForce (t : Tray) (g : Tag) (nn i : Nat) : (t.clearFault g nn i).modeInForce = t.modeInForce := (rfl)
@[simp] theorem Tray.clearFault_activeUp (t : Tray) (g : Tag) (nn i : Nat) : (t.clearFault g nn i).activeUp = t.activeUp := (rfl)
@[simp] theorem Tray.clearFault_flowA (t : Tray) (g : Tag) (nn i : Nat) : (t.clearFault g nn i).flowA = t.flowA := (rfl)
@[simp] theorem Tray.clearFault_flowB (t : Tray) (g : Tag) (nn i : Nat) : (t.clearFault g nn i).flowB = t.flowB := (rfl)
@[simp] theorem Tray.clearFault_threshold (t : Tray) (g : Tag) (nn i : Nat) : (t.clearFault g nn i).threshold = t.threshold := (rfl)
@[simp] theorem Tray.clearFault_stop (t : Tray) (g : Tag) (nn i : Nat) : (t.clearFault g nn i).stop = t.stop := (rfl)
@[simp] theorem Tray.clearFault_inletT (t : Tray) (g : Tag) (nn i : Nat) : (t.clearFault g nn i).inletT = t.inletT := (rfl)
@[simp] theorem Tray.clearFault_airT (t : Tray) (g : Tag) (nn i : Nat) : (t.clearFault g nn i).airT = t.airT := (rfl)
@[simp] theorem Tray.clearFault_busMv (t : Tray) (g : Tag) (nn i : Nat) : (t.clearFault g nn i).busMv = t.busMv := (rfl)
@[simp] theorem Tray.clearFault_flowNow (t : Tray) (g : Tag) (nn i : Nat) : (t.clearFault g nn i).flowNow = t.flowNow := (rfl)
@[simp] theorem Tray.clearFault_lampBoard (t : Tray) (g : Tag) (nn i : Nat) : (t.clearFault g nn i).lampBoard = t.lampBoard := (rfl)
@[simp] theorem Tray.clearFault_lamps (t : Tray) (g : Tag) (nn i : Nat) : (t.clearFault g nn i).lamps = t.lamps := (rfl)
@[simp] theorem Tray.clearFault_lampLevel (t : Tray) (g : Tag) (nn i : Nat) : (t.clearFault g nn i).lampLevel = t.lampLevel := (rfl)
@[simp] theorem Tray.clearFault_locate (t : Tray) (g : Tag) (nn i : Nat) : (t.clearFault g nn i).locate = t.locate := (rfl)
@[simp] theorem Tray.clearFault_locatePat (t : Tray) (g : Tag) (nn i : Nat) : (t.clearFault g nn i).locatePat = t.locatePat := (rfl)
@[simp] theorem Tray.clearFault_trayPat (t : Tray) (g : Tag) (nn i : Nat) : (t.clearFault g nn i).trayPat = t.trayPat := (rfl)
@[simp] theorem Tray.clearFault_log (t : Tray) (g : Tag) (nn i : Nat) : (t.clearFault g nn i).log = t.log := (rfl)
@[simp] theorem Tray.clearFault_logCount (t : Tray) (g : Tag) (nn i : Nat) : (t.clearFault g nn i).logCount = t.logCount := (rfl)
@[simp] theorem Tray.clearFault_prepared (t : Tray) (g : Tag) (nn i : Nat) : (t.clearFault g nn i).prepared = t.prepared := (rfl)
@[simp] theorem Tray.clearFault_prepReady (t : Tray) (g : Tag) (nn i : Nat) : (t.clearFault g nn i).prepReady = t.prepReady := (rfl)
@[simp] theorem Tray.clearFault_prepAge (t : Tray) (g : Tag) (nn i : Nat) : (t.clearFault g nn i).prepAge = t.prepAge := (rfl)
@[simp] theorem Tray.clearFault_staging (t : Tray) (g : Tag) (nn i : Nat) : (t.clearFault g nn i).staging = t.staging := (rfl)
@[simp] theorem Tray.clearFault_ring (t : Tray) (g : Tag) (nn i : Nat) : (t.clearFault g nn i).ring = t.ring := (rfl)
@[simp] theorem Tray.clearFault_exch (t : Tray) (g : Tag) (nn i : Nat) : (t.clearFault g nn i).exch = t.exch := (rfl)
@[simp] theorem Tray.clearFault_acked (t : Tray) (g : Tag) (nn i : Nat) : (t.clearFault g nn i).acked = t.acked := (rfl)
@[simp] theorem Tray.clearFault_hand (t : Tray) (g : Tag) (nn i : Nat) : (t.clearFault g nn i).hand = t.hand := (rfl)
@[simp] theorem Tray.clearFault_handAt (t : Tray) (g : Tag) (nn i : Nat) : (t.clearFault g nn i).handAt = t.handAt := (rfl)
@[simp] theorem Tray.clearFault_handDefer (t : Tray) (g : Tag) (nn i : Nat) : (t.clearFault g nn i).handDefer = t.handDefer := (rfl)
@[simp] theorem Tray.clearFault_handMsg (t : Tray) (g : Tag) (nn i : Nat) : (t.clearFault g nn i).handMsg = t.handMsg := (rfl)
@[simp] theorem Tray.clearFault_swapWaiters (t : Tray) (g : Tag) (nn i : Nat) : (t.clearFault g nn i).swapWaiters = t.swapWaiters := (rfl)
@[simp] theorem Tray.clearFault_heldCmds (t : Tray) (g : Tag) (nn i : Nat) : (t.clearFault g nn i).heldCmds = t.heldCmds := (rfl)
@[simp] theorem Tray.clearFault_joining (t : Tray) (g : Tag) (nn i : Nat) : (t.clearFault g nn i).joining = t.joining := (rfl)
@[simp] theorem Tray.slot_clearFault_frame (t : Tray) (g : Tag) (nn i : Nat) (j : Nat) : (t.clearFault g nn i).slot j = t.slot j := by
  rfl
@[simp] theorem Tray.tmc_clearFault_frame (t : Tray) (g : Tag) (nn i : Nat) (y : Side) : (t.clearFault g nn i).tmc y = t.tmc y := by
  cases y <;> rfl
@[simp] theorem Tray.trc_clearFault_frame (t : Tray) (g : Tag) (nn i : Nat) (y : Side) : (t.clearFault g nn i).trc y = t.trc y := by
  cases y <;> rfl
@[simp] theorem Tray.nvm_clearFault_frame (t : Tray) (g : Tag) (nn i : Nat) (y : Side) : (t.clearFault g nn i).nvm y = t.nvm y := by
  cases y <;> rfl
@[simp] theorem Tray.flow_clearFault_frame (t : Tray) (g : Tag) (nn i : Nat) (y : Side) : (t.clearFault g nn i).flow y = t.flow y := by
  cases y <;> rfl
@[simp] theorem Tray.faultIf_standby (t : Tray) (b : Bool) (g : Tag) (nn i : Nat) : (t.faultIf b g nn i).standby = t.standby := by
  cases b <;> rfl
@[simp] theorem Tray.faultIf_start (t : Tray) (b : Bool) (g : Tag) (nn i : Nat) : (t.faultIf b g nn i).start = t.start := by
  cases b <;> rfl
@[simp] theorem Tray.faultIf_slots (t : Tray) (b : Bool) (g : Tag) (nn i : Nat) : (t.faultIf b g nn i).slots = t.slots := by
  cases b <;> rfl
@[simp] theorem Tray.faultIf_role (t : Tray) (b : Bool) (g : Tag) (nn i : Nat) : (t.faultIf b g nn i).role = t.role := by
  cases b <;> rfl
@[simp] theorem Tray.faultIf_everHeld (t : Tray) (b : Bool) (g : Tag) (nn i : Nat) : (t.faultIf b g nn i).everHeld = t.everHeld := by
  cases b <;> rfl
@[simp] theorem Tray.faultIf_alive (t : Tray) (b : Bool) (g : Tag) (nn i : Nat) : (t.faultIf b g nn i).alive = t.alive := by
  cases b <;> rfl
@[simp] theorem Tray.faultIf_aliveAge (t : Tray) (b : Bool) (g : Tag) (nn i : Nat) : (t.faultIf b g nn i).aliveAge = t.aliveAge := by
  cases b <;> rfl
@[simp] theorem Tray.faultIf_tmcA (t : Tray) (b : Bool) (g : Tag) (nn i : Nat) : (t.faultIf b g nn i).tmcA = t.tmcA := by
  cases b <;> rfl
@[simp] theorem Tray.faultIf_tmcB (t : Tray) (b : Bool) (g : Tag) (nn i : Nat) : (t.faultIf b g nn i).tmcB = t.tmcB := by
  cases b <;> rfl
@[simp] theorem Tray.faultIf_trcA (t : Tray) (b : Bool) (g : Tag) (nn i : Nat) : (t.faultIf b g nn i).trcA = t.trcA := by
  cases b <;> rfl
@[simp] theorem Tray.faultIf_trcB (t : Tray) (b : Bool) (g : Tag) (nn i : Nat) : (t.faultIf b g nn i).trcB = t.trcB := by
  cases b <;> rfl
@[simp] theorem Tray.faultIf_nvmA (t : Tray) (b : Bool) (g : Tag) (nn i : Nat) : (t.faultIf b g nn i).nvmA = t.nvmA := by
  cases b <;> rfl
@[simp] theorem Tray.faultIf_nvmB (t : Tray) (b : Bool) (g : Tag) (nn i : Nat) : (t.faultIf b g nn i).nvmB = t.nvmB := by
  cases b <;> rfl
@[simp] theorem Tray.faultIf_image (t : Tray) (b : Bool) (g : Tag) (nn i : Nat) : (t.faultIf b g nn i).image = t.image := by
  cases b <;> rfl
@[simp] theorem Tray.faultIf_haveImage (t : Tray) (b : Bool) (g : Tag) (nn i : Nat) : (t.faultIf b g nn i).haveImage = t.haveImage := by
  cases b <;> rfl
@[simp] theorem Tray.faultIf_modeInForce (t : Tray) (b : Bool) (g : Tag) (nn i : Nat) : (t.faultIf b g nn i).modeInForce = t.modeInForce := by
  cases b <;> rfl
@[simp] theorem Tray.faultIf_activeUp (t : Tray) (b : Bool) (g : Tag) (nn i : Nat) : (t.faultIf b g nn i).activeUp = t.activeUp := by
  cases b <;> rfl
@[simp] theorem Tray.faultIf_flowA (t : Tray) (b : Bool) (g : Tag) (nn i : Nat) : (t.faultIf b g nn i).flowA = t.flowA := by
  cases b <;> rfl
@[simp] theorem Tray.faultIf_flowB (t : Tray) (b : Bool) (g : Tag) (nn i : Nat) : (t.faultIf b g nn i).flowB = t.flowB := by
  cases b <;> rfl
@[simp] theorem Tray.faultIf_threshold (t : Tray) (b : Bool) (g : Tag) (nn i : Nat) : (t.faultIf b g nn i).threshold = t.threshold := by
  cases b <;> rfl
@[simp] theorem Tray.faultIf_stop (t : Tray) (b : Bool) (g : Tag) (nn i : Nat) : (t.faultIf b g nn i).stop = t.stop := by
  cases b <;> rfl
@[simp] theorem Tray.faultIf_inletT (t : Tray) (b : Bool) (g : Tag) (nn i : Nat) : (t.faultIf b g nn i).inletT = t.inletT := by
  cases b <;> rfl
@[simp] theorem Tray.faultIf_airT (t : Tray) (b : Bool) (g : Tag) (nn i : Nat) : (t.faultIf b g nn i).airT = t.airT := by
  cases b <;> rfl
@[simp] theorem Tray.faultIf_busMv (t : Tray) (b : Bool) (g : Tag) (nn i : Nat) : (t.faultIf b g nn i).busMv = t.busMv := by
  cases b <;> rfl
@[simp] theorem Tray.faultIf_flowNow (t : Tray) (b : Bool) (g : Tag) (nn i : Nat) : (t.faultIf b g nn i).flowNow = t.flowNow := by
  cases b <;> rfl
@[simp] theorem Tray.faultIf_lampBoard (t : Tray) (b : Bool) (g : Tag) (nn i : Nat) : (t.faultIf b g nn i).lampBoard = t.lampBoard := by
  cases b <;> rfl
@[simp] theorem Tray.faultIf_lamps (t : Tray) (b : Bool) (g : Tag) (nn i : Nat) : (t.faultIf b g nn i).lamps = t.lamps := by
  cases b <;> rfl
@[simp] theorem Tray.faultIf_lampLevel (t : Tray) (b : Bool) (g : Tag) (nn i : Nat) : (t.faultIf b g nn i).lampLevel = t.lampLevel := by
  cases b <;> rfl
@[simp] theorem Tray.faultIf_locate (t : Tray) (b : Bool) (g : Tag) (nn i : Nat) : (t.faultIf b g nn i).locate = t.locate := by
  cases b <;> rfl
@[simp] theorem Tray.faultIf_locatePat (t : Tray) (b : Bool) (g : Tag) (nn i : Nat) : (t.faultIf b g nn i).locatePat = t.locatePat := by
  cases b <;> rfl
@[simp] theorem Tray.faultIf_trayPat (t : Tray) (b : Bool) (g : Tag) (nn i : Nat) : (t.faultIf b g nn i).trayPat = t.trayPat := by
  cases b <;> rfl
@[simp] theorem Tray.faultIf_prepared (t : Tray) (b : Bool) (g : Tag) (nn i : Nat) : (t.faultIf b g nn i).prepared = t.prepared := by
  cases b <;> rfl
@[simp] theorem Tray.faultIf_prepReady (t : Tray) (b : Bool) (g : Tag) (nn i : Nat) : (t.faultIf b g nn i).prepReady = t.prepReady := by
  cases b <;> rfl
@[simp] theorem Tray.faultIf_staging (t : Tray) (b : Bool) (g : Tag) (nn i : Nat) : (t.faultIf b g nn i).staging = t.staging := by
  cases b <;> rfl
@[simp] theorem Tray.faultIf_ring (t : Tray) (b : Bool) (g : Tag) (nn i : Nat) : (t.faultIf b g nn i).ring = t.ring := by
  cases b <;> rfl
@[simp] theorem Tray.faultIf_exch (t : Tray) (b : Bool) (g : Tag) (nn i : Nat) : (t.faultIf b g nn i).exch = t.exch := by
  cases b <;> rfl
@[simp] theorem Tray.faultIf_acked (t : Tray) (b : Bool) (g : Tag) (nn i : Nat) : (t.faultIf b g nn i).acked = t.acked := by
  cases b <;> rfl
@[simp] theorem Tray.faultIf_hand (t : Tray) (b : Bool) (g : Tag) (nn i : Nat) : (t.faultIf b g nn i).hand = t.hand := by
  cases b <;> rfl
@[simp] theorem Tray.faultIf_handAt (t : Tray) (b : Bool) (g : Tag) (nn i : Nat) : (t.faultIf b g nn i).handAt = t.handAt := by
  cases b <;> rfl
@[simp] theorem Tray.faultIf_handMsg (t : Tray) (b : Bool) (g : Tag) (nn i : Nat) : (t.faultIf b g nn i).handMsg = t.handMsg := by
  cases b <;> rfl
@[simp] theorem Tray.faultIf_swapWaiters (t : Tray) (b : Bool) (g : Tag) (nn i : Nat) : (t.faultIf b g nn i).swapWaiters = t.swapWaiters := by
  cases b <;> rfl
@[simp] theorem Tray.faultIf_heldCmds (t : Tray) (b : Bool) (g : Tag) (nn i : Nat) : (t.faultIf b g nn i).heldCmds = t.heldCmds := by
  cases b <;> rfl
@[simp] theorem Tray.faultIf_joining (t : Tray) (b : Bool) (g : Tag) (nn i : Nat) : (t.faultIf b g nn i).joining = t.joining := by
  cases b <;> rfl
@[simp] theorem Tray.slot_faultIf_frame (t : Tray) (b : Bool) (g : Tag) (nn i : Nat) (j : Nat) : (t.faultIf b g nn i).slot j = t.slot j := by
  cases b <;> rfl
@[simp] theorem Tray.tmc_faultIf_frame (t : Tray) (b : Bool) (g : Tag) (nn i : Nat) (y : Side) : (t.faultIf b g nn i).tmc y = t.tmc y := by
  cases b <;> rfl
@[simp] theorem Tray.trc_faultIf_frame (t : Tray) (b : Bool) (g : Tag) (nn i : Nat) (y : Side) : (t.faultIf b g nn i).trc y = t.trc y := by
  cases b <;> rfl
@[simp] theorem Tray.nvm_faultIf_frame (t : Tray) (b : Bool) (g : Tag) (nn i : Nat) (y : Side) : (t.faultIf b g nn i).nvm y = t.nvm y := by
  cases b <;> rfl
@[simp] theorem Tray.flow_faultIf_frame (t : Tray) (b : Bool) (g : Tag) (nn i : Nat) (y : Side) : (t.faultIf b g nn i).flow y = t.flow y := by
  cases b <;> rfl

/-! ## A field of a conditional -/

@[simp] theorem State.tray_ite (p : Prop) [Decidable p] (a b : State) : (if p then a else b).tray = if p then a.tray else b.tray := by
  split <;> rfl
@[simp] theorem State.chips_ite (p : Prop) [Decidable p] (a b : State) : (if p then a else b).chips = if p then a.chips else b.chips := by
  split <;> rfl
@[simp] theorem State.hostMem_ite (p : Prop) [Decidable p] (a b : State) : (if p then a else b).hostMem = if p then a.hostMem else b.hostMem := by
  split <;> rfl
@[simp] theorem State.pending_ite (p : Prop) [Decidable p] (a b : State) : (if p then a else b).pending = if p then a.pending else b.pending := by
  split <;> rfl
@[simp] theorem State.fresh_ite (p : Prop) [Decidable p] (a b : State) : (if p then a else b).fresh = if p then a.fresh else b.fresh := by
  split <;> rfl
@[simp] theorem Tray.standby_ite (p : Prop) [Decidable p] (a b : Tray) : (if p then a else b).standby = if p then a.standby else b.standby := by
  split <;> rfl
@[simp] theorem Tray.start_ite (p : Prop) [Decidable p] (a b : Tray) : (if p then a else b).start = if p then a.start else b.start := by
  split <;> rfl
@[simp] theorem Tray.slots_ite (p : Prop) [Decidable p] (a b : Tray) : (if p then a else b).slots = if p then a.slots else b.slots := by
  split <;> rfl
@[simp] theorem Tray.role_ite (p : Prop) [Decidable p] (a b : Tray) : (if p then a else b).role = if p then a.role else b.role := by
  split <;> rfl
@[simp] theorem Tray.everHeld_ite (p : Prop) [Decidable p] (a b : Tray) : (if p then a else b).everHeld = if p then a.everHeld else b.everHeld := by
  split <;> rfl
@[simp] theorem Tray.alive_ite (p : Prop) [Decidable p] (a b : Tray) : (if p then a else b).alive = if p then a.alive else b.alive := by
  split <;> rfl
@[simp] theorem Tray.aliveAge_ite (p : Prop) [Decidable p] (a b : Tray) : (if p then a else b).aliveAge = if p then a.aliveAge else b.aliveAge := by
  split <;> rfl
@[simp] theorem Tray.tmcA_ite (p : Prop) [Decidable p] (a b : Tray) : (if p then a else b).tmcA = if p then a.tmcA else b.tmcA := by
  split <;> rfl
@[simp] theorem Tray.tmcB_ite (p : Prop) [Decidable p] (a b : Tray) : (if p then a else b).tmcB = if p then a.tmcB else b.tmcB := by
  split <;> rfl
@[simp] theorem Tray.trcA_ite (p : Prop) [Decidable p] (a b : Tray) : (if p then a else b).trcA = if p then a.trcA else b.trcA := by
  split <;> rfl
@[simp] theorem Tray.trcB_ite (p : Prop) [Decidable p] (a b : Tray) : (if p then a else b).trcB = if p then a.trcB else b.trcB := by
  split <;> rfl
@[simp] theorem Tray.nvmA_ite (p : Prop) [Decidable p] (a b : Tray) : (if p then a else b).nvmA = if p then a.nvmA else b.nvmA := by
  split <;> rfl
@[simp] theorem Tray.nvmB_ite (p : Prop) [Decidable p] (a b : Tray) : (if p then a else b).nvmB = if p then a.nvmB else b.nvmB := by
  split <;> rfl
@[simp] theorem Tray.image_ite (p : Prop) [Decidable p] (a b : Tray) : (if p then a else b).image = if p then a.image else b.image := by
  split <;> rfl
@[simp] theorem Tray.haveImage_ite (p : Prop) [Decidable p] (a b : Tray) : (if p then a else b).haveImage = if p then a.haveImage else b.haveImage := by
  split <;> rfl
@[simp] theorem Tray.modeInForce_ite (p : Prop) [Decidable p] (a b : Tray) : (if p then a else b).modeInForce = if p then a.modeInForce else b.modeInForce := by
  split <;> rfl
@[simp] theorem Tray.activeUp_ite (p : Prop) [Decidable p] (a b : Tray) : (if p then a else b).activeUp = if p then a.activeUp else b.activeUp := by
  split <;> rfl
@[simp] theorem Tray.flowA_ite (p : Prop) [Decidable p] (a b : Tray) : (if p then a else b).flowA = if p then a.flowA else b.flowA := by
  split <;> rfl
@[simp] theorem Tray.flowB_ite (p : Prop) [Decidable p] (a b : Tray) : (if p then a else b).flowB = if p then a.flowB else b.flowB := by
  split <;> rfl
@[simp] theorem Tray.threshold_ite (p : Prop) [Decidable p] (a b : Tray) : (if p then a else b).threshold = if p then a.threshold else b.threshold := by
  split <;> rfl
@[simp] theorem Tray.stop_ite (p : Prop) [Decidable p] (a b : Tray) : (if p then a else b).stop = if p then a.stop else b.stop := by
  split <;> rfl
@[simp] theorem Tray.inletT_ite (p : Prop) [Decidable p] (a b : Tray) : (if p then a else b).inletT = if p then a.inletT else b.inletT := by
  split <;> rfl
@[simp] theorem Tray.airT_ite (p : Prop) [Decidable p] (a b : Tray) : (if p then a else b).airT = if p then a.airT else b.airT := by
  split <;> rfl
@[simp] theorem Tray.busMv_ite (p : Prop) [Decidable p] (a b : Tray) : (if p then a else b).busMv = if p then a.busMv else b.busMv := by
  split <;> rfl
@[simp] theorem Tray.flowNow_ite (p : Prop) [Decidable p] (a b : Tray) : (if p then a else b).flowNow = if p then a.flowNow else b.flowNow := by
  split <;> rfl
@[simp] theorem Tray.lampBoard_ite (p : Prop) [Decidable p] (a b : Tray) : (if p then a else b).lampBoard = if p then a.lampBoard else b.lampBoard := by
  split <;> rfl
@[simp] theorem Tray.lamps_ite (p : Prop) [Decidable p] (a b : Tray) : (if p then a else b).lamps = if p then a.lamps else b.lamps := by
  split <;> rfl
@[simp] theorem Tray.lampLevel_ite (p : Prop) [Decidable p] (a b : Tray) : (if p then a else b).lampLevel = if p then a.lampLevel else b.lampLevel := by
  split <;> rfl
@[simp] theorem Tray.locate_ite (p : Prop) [Decidable p] (a b : Tray) : (if p then a else b).locate = if p then a.locate else b.locate := by
  split <;> rfl
@[simp] theorem Tray.locatePat_ite (p : Prop) [Decidable p] (a b : Tray) : (if p then a else b).locatePat = if p then a.locatePat else b.locatePat := by
  split <;> rfl
@[simp] theorem Tray.trayPat_ite (p : Prop) [Decidable p] (a b : Tray) : (if p then a else b).trayPat = if p then a.trayPat else b.trayPat := by
  split <;> rfl
@[simp] theorem Tray.log_ite (p : Prop) [Decidable p] (a b : Tray) : (if p then a else b).log = if p then a.log else b.log := by
  split <;> rfl
@[simp] theorem Tray.logCount_ite (p : Prop) [Decidable p] (a b : Tray) : (if p then a else b).logCount = if p then a.logCount else b.logCount := by
  split <;> rfl
@[simp] theorem Tray.inForce_ite (p : Prop) [Decidable p] (a b : Tray) : (if p then a else b).inForce = if p then a.inForce else b.inForce := by
  split <;> rfl
@[simp] theorem Tray.prepared_ite (p : Prop) [Decidable p] (a b : Tray) : (if p then a else b).prepared = if p then a.prepared else b.prepared := by
  split <;> rfl
@[simp] theorem Tray.prepReady_ite (p : Prop) [Decidable p] (a b : Tray) : (if p then a else b).prepReady = if p then a.prepReady else b.prepReady := by
  split <;> rfl
@[simp] theorem Tray.staging_ite (p : Prop) [Decidable p] (a b : Tray) : (if p then a else b).staging = if p then a.staging else b.staging := by
  split <;> rfl
@[simp] theorem Tray.ring_ite (p : Prop) [Decidable p] (a b : Tray) : (if p then a else b).ring = if p then a.ring else b.ring := by
  split <;> rfl
@[simp] theorem Tray.exch_ite (p : Prop) [Decidable p] (a b : Tray) : (if p then a else b).exch = if p then a.exch else b.exch := by
  split <;> rfl
@[simp] theorem Tray.acked_ite (p : Prop) [Decidable p] (a b : Tray) : (if p then a else b).acked = if p then a.acked else b.acked := by
  split <;> rfl
@[simp] theorem Tray.hand_ite (p : Prop) [Decidable p] (a b : Tray) : (if p then a else b).hand = if p then a.hand else b.hand := by
  split <;> rfl
@[simp] theorem Tray.handAt_ite (p : Prop) [Decidable p] (a b : Tray) : (if p then a else b).handAt = if p then a.handAt else b.handAt := by
  split <;> rfl
@[simp] theorem Tray.handMsg_ite (p : Prop) [Decidable p] (a b : Tray) : (if p then a else b).handMsg = if p then a.handMsg else b.handMsg := by
  split <;> rfl
@[simp] theorem Tray.swapWaiters_ite (p : Prop) [Decidable p] (a b : Tray) : (if p then a else b).swapWaiters = if p then a.swapWaiters else b.swapWaiters := by
  split <;> rfl
@[simp] theorem Tray.heldCmds_ite (p : Prop) [Decidable p] (a b : Tray) : (if p then a else b).heldCmds = if p then a.heldCmds else b.heldCmds := by
  split <;> rfl
@[simp] theorem Tray.joining_ite (p : Prop) [Decidable p] (a b : Tray) : (if p then a else b).joining = if p then a.joining else b.joining := by
  split <;> rfl
@[simp] theorem Tray.imageBytes_ite (p : Prop) [Decidable p] (a b : Tray) : (if p then a else b).imageBytes = if p then a.imageBytes else b.imageBytes := by
  split <;> rfl
@[simp] theorem Tray.nvmWrite_ite (p : Prop) [Decidable p] (a b : Tray) : (if p then a else b).nvmWrite = if p then a.nvmWrite else b.nvmWrite := by
  split <;> rfl
@[simp] theorem Tray.prepAge_ite (p : Prop) [Decidable p] (a b : Tray) : (if p then a else b).prepAge = if p then a.prepAge else b.prepAge := by
  split <;> rfl
@[simp] theorem Tray.handDefer_ite (p : Prop) [Decidable p] (a b : Tray) : (if p then a else b).handDefer = if p then a.handDefer else b.handDefer := by
  split <;> rfl
@[simp] theorem TraySlot.presEarly_ite (p : Prop) [Decidable p] (a b : TraySlot) : (if p then a else b).presEarly = if p then a.presEarly else b.presEarly := by
  split <;> rfl
@[simp] theorem TraySlot.presLate_ite (p : Prop) [Decidable p] (a b : TraySlot) : (if p then a else b).presLate = if p then a.presLate else b.presLate := by
  split <;> rfl
@[simp] theorem TraySlot.occupied_ite (p : Prop) [Decidable p] (a b : TraySlot) : (if p then a else b).occupied = if p then a.occupied else b.occupied := by
  split <;> rfl
@[simp] theorem TraySlot.seq_ite (p : Prop) [Decidable p] (a b : TraySlot) : (if p then a else b).seq = if p then a.seq else b.seq := by
  split <;> rfl
@[simp] theorem TraySlot.pendReq_ite (p : Prop) [Decidable p] (a b : TraySlot) : (if p then a else b).pendReq = if p then a.pendReq else b.pendReq := by
  split <;> rfl
@[simp] theorem TraySlot.auxEn_ite (p : Prop) [Decidable p] (a b : TraySlot) : (if p then a else b).auxEn = if p then a.auxEn else b.auxEn := by
  split <;> rfl
@[simp] theorem TraySlot.modRst_ite (p : Prop) [Decidable p] (a b : TraySlot) : (if p then a else b).modRst = if p then a.modRst else b.modRst := by
  split <;> rfl
@[simp] theorem TraySlot.perst_ite (p : Prop) [Decidable p] (a b : TraySlot) : (if p then a else b).perst = if p then a.perst else b.perst := by
  split <;> rfl
@[simp] theorem TraySlot.breaker_ite (p : Prop) [Decidable p] (a b : TraySlot) : (if p then a else b).breaker = if p then a.breaker else b.breaker := by
  split <;> rfl
@[simp] theorem TraySlot.bypass_ite (p : Prop) [Decidable p] (a b : TraySlot) : (if p then a else b).bypass = if p then a.bypass else b.bypass := by
  split <;> rfl
@[simp] theorem TraySlot.i2c_ite (p : Prop) [Decidable p] (a b : TraySlot) : (if p then a else b).i2c = if p then a.i2c else b.i2c := by
  split <;> rfl
@[simp] theorem TraySlot.phases_ite (p : Prop) [Decidable p] (a b : TraySlot) : (if p then a else b).phases = if p then a.phases else b.phases := by
  split <;> rfl
@[simp] theorem TraySlot.shifted_ite (p : Prop) [Decidable p] (a b : TraySlot) : (if p then a else b).shifted = if p then a.shifted else b.shifted := by
  split <;> rfl
@[simp] theorem TraySlot.bankV_ite (p : Prop) [Decidable p] (a b : TraySlot) : (if p then a else b).bankV = if p then a.bankV else b.bankV := by
  split <;> rfl
@[simp] theorem TraySlot.overridden_ite (p : Prop) [Decidable p] (a b : TraySlot) : (if p then a else b).overridden = if p then a.overridden else b.overridden := by
  split <;> rfl
@[simp] theorem TraySlot.retained_ite (p : Prop) [Decidable p] (a b : TraySlot) : (if p then a else b).retained = if p then a.retained else b.retained := by
  split <;> rfl
@[simp] theorem TraySlot.coolantN_ite (p : Prop) [Decidable p] (a b : TraySlot) : (if p then a else b).coolantN = if p then a.coolantN else b.coolantN := by
  split <;> rfl
@[simp] theorem TraySlot.upstream_ite (p : Prop) [Decidable p] (a b : TraySlot) : (if p then a else b).upstream = if p then a.upstream else b.upstream := by
  split <;> rfl
@[simp] theorem TraySlot.lamp_ite (p : Prop) [Decidable p] (a b : TraySlot) : (if p then a else b).lamp = if p then a.lamp else b.lamp := by
  split <;> rfl
@[simp] theorem TraySlot.alert_ite (p : Prop) [Decidable p] (a b : TraySlot) : (if p then a else b).alert = if p then a.alert else b.alert := by
  split <;> rfl
@[simp] theorem TraySlot.lastPhase_ite (p : Prop) [Decidable p] (a b : TraySlot) : (if p then a else b).lastPhase = if p then a.lastPhase else b.lastPhase := by
  split <;> rfl
@[simp] theorem TraySlot.lastPower_ite (p : Prop) [Decidable p] (a b : TraySlot) : (if p then a else b).lastPower = if p then a.lastPower else b.lastPower := by
  split <;> rfl
@[simp] theorem TraySlot.lastReady_ite (p : Prop) [Decidable p] (a b : TraySlot) : (if p then a else b).lastReady = if p then a.lastReady else b.lastReady := by
  split <;> rfl
@[simp] theorem TraySlot.lastBad_ite (p : Prop) [Decidable p] (a b : TraySlot) : (if p then a else b).lastBad = if p then a.lastBad else b.lastBad := by
  split <;> rfl
@[simp] theorem TraySlot.dem_ite (p : Prop) [Decidable p] (a b : TraySlot) : (if p then a else b).dem = if p then a.dem else b.dem := by
  split <;> rfl
@[simp] theorem TraySlot.capRep_ite (p : Prop) [Decidable p] (a b : TraySlot) : (if p then a else b).capRep = if p then a.capRep else b.capRep := by
  split <;> rfl
@[simp] theorem TraySlot.urg_ite (p : Prop) [Decidable p] (a b : TraySlot) : (if p then a else b).urg = if p then a.urg else b.urg := by
  split <;> rfl
@[simp] theorem TraySlot.reported_ite (p : Prop) [Decidable p] (a b : TraySlot) : (if p then a else b).reported = if p then a.reported else b.reported := by
  split <;> rfl
@[simp] theorem TraySlot.ackRep_ite (p : Prop) [Decidable p] (a b : TraySlot) : (if p then a else b).ackRep = if p then a.ackRep else b.ackRep := by
  split <;> rfl
@[simp] theorem TraySlot.grant_ite (p : Prop) [Decidable p] (a b : TraySlot) : (if p then a else b).grant = if p then a.grant else b.grant := by
  split <;> rfl
@[simp] theorem TraySlot.grantPrev_ite (p : Prop) [Decidable p] (a b : TraySlot) : (if p then a else b).grantPrev = if p then a.grantPrev else b.grantPrev := by
  split <;> rfl
@[simp] theorem TraySlot.wantOn_ite (p : Prop) [Decidable p] (a b : TraySlot) : (if p then a else b).wantOn = if p then a.wantOn else b.wantOn := by
  split <;> rfl
@[simp] theorem TraySlot.offHeld_ite (p : Prop) [Decidable p] (a b : TraySlot) : (if p then a else b).offHeld = if p then a.offHeld else b.offHeld := by
  split <;> rfl
@[simp] theorem TraySlot.resetHeld_ite (p : Prop) [Decidable p] (a b : TraySlot) : (if p then a else b).resetHeld = if p then a.resetHeld else b.resetHeld := by
  split <;> rfl
@[simp] theorem TraySlot.switchClosed_ite (p : Prop) [Decidable p] (a b : TraySlot) : (if p then a else b).switch_ = if p then a.switch_ else b.switch_ := by
  split <;> rfl
@[simp] theorem TraySlot.vauxEn_ite (p : Prop) [Decidable p] (a b : TraySlot) : (if p then a else b).vauxEn = if p then a.vauxEn else b.vauxEn := by
  split <;> rfl
@[simp] theorem TraySlot.modUp_ite (p : Prop) [Decidable p] (a b : TraySlot) : (if p then a else b).modUp = if p then a.modUp else b.modUp := by
  split <;> rfl
@[simp] theorem TraySlot.auxPg_ite (p : Prop) [Decidable p] (a b : TraySlot) : (if p then a else b).auxPg = if p then a.auxPg else b.auxPg := by
  split <;> rfl
@[simp] theorem TraySlot.coreUp_ite (p : Prop) [Decidable p] (a b : TraySlot) : (if p then a else b).coreUp = if p then a.coreUp else b.coreUp := by
  split <;> rfl
@[simp] theorem TraySlot.coreUv_ite (p : Prop) [Decidable p] (a b : TraySlot) : (if p then a else b).coreUv = if p then a.coreUv else b.coreUv := by
  split <;> rfl
@[simp] theorem TraySlot.i2cReady_ite (p : Prop) [Decidable p] (a b : TraySlot) : (if p then a else b).i2cReady = if p then a.i2cReady else b.i2cReady := by
  split <;> rfl
@[simp] theorem TraySlot.fanout_ite (p : Prop) [Decidable p] (a b : TraySlot) : (if p then a else b).fanout = if p then a.fanout else b.fanout := by
  split <;> rfl
@[simp] theorem Chip.powered_ite (p : Prop) [Decidable p] (a b : Chip) : (if p then a else b).powered = if p then a.powered else b.powered := by
  split <;> rfl
@[simp] theorem Chip.held_ite (p : Prop) [Decidable p] (a b : Chip) : (if p then a else b).held = if p then a.held else b.held := by
  split <;> rfl
@[simp] theorem Chip.slotId_ite (p : Prop) [Decidable p] (a b : Chip) : (if p then a else b).slotId = if p then a.slotId else b.slotId := by
  split <;> rfl
@[simp] theorem Chip.time_ite (p : Prop) [Decidable p] (a b : Chip) : (if p then a else b).time = if p then a.time else b.time := by
  split <;> rfl
@[simp] theorem Chip.clk_ite (p : Prop) [Decidable p] (a b : Chip) : (if p then a else b).clk = if p then a.clk else b.clk := by
  split <;> rfl
@[simp] theorem Chip.tickDue_ite (p : Prop) [Decidable p] (a b : Chip) : (if p then a else b).tickDue = if p then a.tickDue else b.tickDue := by
  split <;> rfl
@[simp] theorem Chip.gens_ite (p : Prop) [Decidable p] (a b : Chip) : (if p then a else b).gens = if p then a.gens else b.gens := by
  split <;> rfl
@[simp] theorem Chip.regions_ite (p : Prop) [Decidable p] (a b : Chip) : (if p then a else b).regions = if p then a.regions else b.regions := by
  split <;> rfl
@[simp] theorem Chip.tiles_ite (p : Prop) [Decidable p] (a b : Chip) : (if p then a else b).tiles = if p then a.tiles else b.tiles := by
  split <;> rfl
@[simp] theorem Chip.posns_ite (p : Prop) [Decidable p] (a b : Chip) : (if p then a else b).posns = if p then a.posns else b.posns := by
  split <;> rfl
@[simp] theorem Chip.xng_ite (p : Prop) [Decidable p] (a b : Chip) : (if p then a else b).xng = if p then a.xng else b.xng := by
  split <;> rfl
@[simp] theorem Chip.queues_ite (p : Prop) [Decidable p] (a b : Chip) : (if p then a else b).queues = if p then a.queues else b.queues := by
  split <;> rfl
@[simp] theorem Chip.eps_ite (p : Prop) [Decidable p] (a b : Chip) : (if p then a else b).eps = if p then a.eps else b.eps := by
  split <;> rfl
@[simp] theorem Chip.flying_ite (p : Prop) [Decidable p] (a b : Chip) : (if p then a else b).flying = if p then a.flying else b.flying := by
  split <;> rfl
@[simp] theorem Chip.links_ite (p : Prop) [Decidable p] (a b : Chip) : (if p then a else b).links = if p then a.links else b.links := by
  split <;> rfl
@[simp] theorem Chip.mem_ite (p : Prop) [Decidable p] (a b : Chip) : (if p then a else b).mem = if p then a.mem else b.mem := by
  split <;> rfl
@[simp] theorem Chip.chans_ite (p : Prop) [Decidable p] (a b : Chip) : (if p then a else b).chans = if p then a.chans else b.chans := by
  split <;> rfl
@[simp] theorem Chip.seq_ite (p : Prop) [Decidable p] (a b : Chip) : (if p then a else b).seq = if p then a.seq else b.seq := by
  split <;> rfl
@[simp] theorem Chip.stew_ite (p : Prop) [Decidable p] (a b : Chip) : (if p then a else b).stew = if p then a.stew else b.stew := by
  split <;> rfl
@[simp] theorem Chip.bru_ite (p : Prop) [Decidable p] (a b : Chip) : (if p then a else b).bru = if p then a.bru else b.bru := by
  split <;> rfl
@[simp] theorem Chip.img_ite (p : Prop) [Decidable p] (a b : Chip) : (if p then a else b).img = if p then a.img else b.img := by
  split <;> rfl
@[simp] theorem Chip.hif_ite (p : Prop) [Decidable p] (a b : Chip) : (if p then a else b).hif = if p then a.hif else b.hif := by
  split <;> rfl
@[simp] theorem Chip.dissolves_ite (p : Prop) [Decidable p] (a b : Chip) : (if p then a else b).dissolves = if p then a.dissolves else b.dissolves := by
  split <;> rfl
@[simp] theorem Chip.flash_ite (p : Prop) [Decidable p] (a b : Chip) : (if p then a else b).flash = if p then a.flash else b.flash := by
  split <;> rfl
@[simp] theorem Chip.otp_ite (p : Prop) [Decidable p] (a b : Chip) : (if p then a else b).otp = if p then a.otp else b.otp := by
  split <;> rfl
@[simp] theorem Tmc.present_ite (p : Prop) [Decidable p] (a b : Tmc) : (if p then a else b).present = if p then a.present else b.present := by
  split <;> rfl
@[simp] theorem Tmc.checked_ite (p : Prop) [Decidable p] (a b : Tmc) : (if p then a else b).checked = if p then a.checked else b.checked := by
  split <;> rfl
@[simp] theorem Tmc.ready_ite (p : Prop) [Decidable p] (a b : Tmc) : (if p then a else b).ready = if p then a.ready else b.ready := by
  split <;> rfl
@[simp] theorem Tmc.roleGen_ite (p : Prop) [Decidable p] (a b : Tmc) : (if p then a else b).roleGen = if p then a.roleGen else b.roleGen := by
  split <;> rfl
@[simp] theorem Tmc.time_ite (p : Prop) [Decidable p] (a b : Tmc) : (if p then a else b).time = if p then a.time else b.time := by
  split <;> rfl
@[simp] theorem Tmc.beats_ite (p : Prop) [Decidable p] (a b : Tmc) : (if p then a else b).beats = if p then a.beats else b.beats := by
  split <;> rfl
@[simp] theorem Tmc.sentAt_ite (p : Prop) [Decidable p] (a b : Tmc) : (if p then a else b).sentAt = if p then a.sentAt else b.sentAt := by
  split <;> rfl
@[simp] theorem Tmc.missed_ite (p : Prop) [Decidable p] (a b : Tmc) : (if p then a else b).missed = if p then a.missed else b.missed := by
  split <;> rfl
@[simp] theorem Tmc.swapReq_ite (p : Prop) [Decidable p] (a b : Tmc) : (if p then a else b).swapReq = if p then a.swapReq else b.swapReq := by
  split <;> rfl
@[simp] theorem Tmc.rx_ite (p : Prop) [Decidable p] (a b : Tmc) : (if p then a else b).rx = if p then a.rx else b.rx := by
  split <;> rfl
@[simp] theorem Tmc.mstatus_ite (p : Prop) [Decidable p] (a b : Tmc) : (if p then a else b).mstatus = if p then a.mstatus else b.mstatus := by
  split <;> rfl
@[simp] theorem Tmc.request_ite (p : Prop) [Decidable p] (a b : Tmc) : (if p then a else b).request = if p then a.request else b.request := by
  split <;> rfl
@[simp] theorem Tmc.response_ite (p : Prop) [Decidable p] (a b : Tmc) : (if p then a else b).response = if p then a.response else b.response := by
  split <;> rfl
@[simp] theorem Tmc.signals_ite (p : Prop) [Decidable p] (a b : Tmc) : (if p then a else b).signals = if p then a.signals else b.signals := by
  split <;> rfl
@[simp] theorem Tmc.cas_ite (p : Prop) [Decidable p] (a b : Tmc) : (if p then a else b).cas = if p then a.cas else b.cas := by
  split <;> rfl
@[simp] theorem Tmc.conns_ite (p : Prop) [Decidable p] (a b : Tmc) : (if p then a else b).conns = if p then a.conns else b.conns := by
  split <;> rfl
@[simp] theorem Tmc.forwarded_ite (p : Prop) [Decidable p] (a b : Tmc) : (if p then a else b).forwarded = if p then a.forwarded else b.forwarded := by
  split <;> rfl
@[simp] theorem Tmc.mirror_ite (p : Prop) [Decidable p] (a b : Tmc) : (if p then a else b).mirror = if p then a.mirror else b.mirror := by
  split <;> rfl
@[simp] theorem Tmc.wantStore_ite (p : Prop) [Decidable p] (a b : Tmc) : (if p then a else b).wantStore = if p then a.wantStore else b.wantStore := by
  split <;> rfl
@[simp] theorem Tmc.prepared_ite (p : Prop) [Decidable p] (a b : Tmc) : (if p then a else b).prepared = if p then a.prepared else b.prepared := by
  split <;> rfl
@[simp] theorem Tmc.mismatch_ite (p : Prop) [Decidable p] (a b : Tmc) : (if p then a else b).mismatch = if p then a.mismatch else b.mismatch := by
  split <;> rfl
@[simp] theorem Tmc.keys_ite (p : Prop) [Decidable p] (a b : Tmc) : (if p then a else b).keys = if p then a.keys else b.keys := by
  split <;> rfl
@[simp] theorem Tmc.revoked_ite (p : Prop) [Decidable p] (a b : Tmc) : (if p then a else b).revoked = if p then a.revoked else b.revoked := by
  split <;> rfl
@[simp] theorem Region.cfg_ite (p : Prop) [Decidable p] (a b : Region) : (if p then a else b).cfg = if p then a.cfg else b.cfg := by
  split <;> rfl
@[simp] theorem Region.status_ite (p : Prop) [Decidable p] (a b : Region) : (if p then a else b).status = if p then a.status else b.status := by
  split <;> rfl
@[simp] theorem Region.awaitTiles_ite (p : Prop) [Decidable p] (a b : Region) : (if p then a else b).awaitTiles = if p then a.awaitTiles else b.awaitTiles := by
  split <;> rfl
@[simp] theorem Region.awaitModel_ite (p : Prop) [Decidable p] (a b : Region) : (if p then a else b).awaitModel = if p then a.awaitModel else b.awaitModel := by
  split <;> rfl
@[simp] theorem Region.awaitLock_ite (p : Prop) [Decidable p] (a b : Region) : (if p then a else b).awaitLock = if p then a.awaitLock else b.awaitLock := by
  split <;> rfl
@[simp] theorem Region.retireLater_ite (p : Prop) [Decidable p] (a b : Region) : (if p then a else b).retireLater = if p then a.retireLater else b.retireLater := by
  split <;> rfl
@[simp] theorem Region.isoSinkOn_ite (p : Prop) [Decidable p] (a b : Region) : (if p then a else b).isoSinkOn = if p then a.isoSinkOn else b.isoSinkOn := by
  split <;> rfl
@[simp] theorem Region.wdogAge_ite (p : Prop) [Decidable p] (a b : Region) : (if p then a else b).wdogAge = if p then a.wdogAge else b.wdogAge := by
  split <;> rfl
@[simp] theorem Region.detViol_ite (p : Prop) [Decidable p] (a b : Region) : (if p then a else b).detViol = if p then a.detViol else b.detViol := by
  split <;> rfl
@[simp] theorem Region.discard_ite (p : Prop) [Decidable p] (a b : Region) : (if p then a else b).discard = if p then a.discard else b.discard := by
  split <;> rfl
@[simp] theorem Region.isoSink_ite (p : Prop) [Decidable p] (a b : Region) : (if p then a else b).isoSink = if p then a.isoSink else b.isoSink := by
  split <;> rfl
@[simp] theorem Region.detFault_ite (p : Prop) [Decidable p] (a b : Region) : (if p then a else b).detFault = if p then a.detFault else b.detFault := by
  split <;> rfl
@[simp] theorem Region.posFail_ite (p : Prop) [Decidable p] (a b : Region) : (if p then a else b).posFail = if p then a.posFail else b.posFail := by
  split <;> rfl
@[simp] theorem Region.addrErr_ite (p : Prop) [Decidable p] (a b : Region) : (if p then a else b).addrErr = if p then a.addrErr else b.addrErr := by
  split <;> rfl
@[simp] theorem Region.selfFailed_ite (p : Prop) [Decidable p] (a b : Region) : (if p then a else b).selfFailed = if p then a.selfFailed else b.selfFailed := by
  split <;> rfl
@[simp] theorem Region.spareBad_ite (p : Prop) [Decidable p] (a b : Region) : (if p then a else b).spareBad = if p then a.spareBad else b.spareBad := by
  split <;> rfl
@[simp] theorem Region.kCap_ite (p : Prop) [Decidable p] (a b : Region) : (if p then a else b).kCap = if p then a.kCap else b.kCap := by
  split <;> rfl
@[simp] theorem Region.kTherm_ite (p : Prop) [Decidable p] (a b : Region) : (if p then a else b).kTherm = if p then a.kTherm else b.kTherm := by
  split <;> rfl
@[simp] theorem Region.kNow_ite (p : Prop) [Decidable p] (a b : Region) : (if p then a else b).kNow = if p then a.kNow else b.kNow := by
  split <;> rfl
@[simp] theorem Region.temp_ite (p : Prop) [Decidable p] (a b : Region) : (if p then a else b).temp = if p then a.temp else b.temp := by
  split <;> rfl
@[simp] theorem Region.tempPeak_ite (p : Prop) [Decidable p] (a b : Region) : (if p then a else b).tempPeak = if p then a.tempPeak else b.tempPeak := by
  split <;> rfl
@[simp] theorem Region.throttled_ite (p : Prop) [Decidable p] (a b : Region) : (if p then a else b).throttled = if p then a.throttled else b.throttled := by
  split <;> rfl
@[simp] theorem Region.sensorBad_ite (p : Prop) [Decidable p] (a b : Region) : (if p then a else b).sensorBad = if p then a.sensorBad else b.sensorBad := by
  split <;> rfl
@[simp] theorem Region.validRun_ite (p : Prop) [Decidable p] (a b : Region) : (if p then a else b).validRun = if p then a.validRun else b.validRun := by
  split <;> rfl
@[simp] theorem Region.sampled_ite (p : Prop) [Decidable p] (a b : Region) : (if p then a else b).sampled = if p then a.sampled else b.sampled := by
  split <;> rfl
@[simp] theorem Region.hotRun_ite (p : Prop) [Decidable p] (a b : Region) : (if p then a else b).hotRun = if p then a.hotRun else b.hotRun := by
  split <;> rfl
@[simp] theorem Region.coldRun_ite (p : Prop) [Decidable p] (a b : Region) : (if p then a else b).coldRun = if p then a.coldRun else b.coldRun := by
  split <;> rfl
@[simp] theorem Region.hotEvals_ite (p : Prop) [Decidable p] (a b : Region) : (if p then a else b).hotEvals = if p then a.hotEvals else b.hotEvals := by
  split <;> rfl
@[simp] theorem Region.coolEvals_ite (p : Prop) [Decidable p] (a b : Region) : (if p then a else b).coolEvals = if p then a.coolEvals else b.coolEvals := by
  split <;> rfl
@[simp] theorem Region.tripped_ite (p : Prop) [Decidable p] (a b : Region) : (if p then a else b).tripped = if p then a.tripped else b.tripped := by
  split <;> rfl
@[simp] theorem Region.flitEvents_ite (p : Prop) [Decidable p] (a b : Region) : (if p then a else b).flitEvents = if p then a.flitEvents else b.flitEvents := by
  split <;> rfl
@[simp] theorem Region.cycleEvents_ite (p : Prop) [Decidable p] (a b : Region) : (if p then a else b).cycleEvents = if p then a.cycleEvents else b.cycleEvents := by
  split <;> rfl
@[simp] theorem Region.lineEvents_ite (p : Prop) [Decidable p] (a b : Region) : (if p then a else b).lineEvents = if p then a.lineEvents else b.lineEvents := by
  split <;> rfl
@[simp] theorem Region.lineSEvents_ite (p : Prop) [Decidable p] (a b : Region) : (if p then a else b).lineSEvents = if p then a.lineSEvents else b.lineSEvents := by
  split <;> rfl
@[simp] theorem Region.memBursts_ite (p : Prop) [Decidable p] (a b : Region) : (if p then a else b).memBursts = if p then a.memBursts else b.memBursts := by
  split <;> rfl
@[simp] theorem Region.spineFlits_ite (p : Prop) [Decidable p] (a b : Region) : (if p then a else b).spineFlits = if p then a.spineFlits else b.spineFlits := by
  split <;> rfl
@[simp] theorem Gen.state_ite (p : Prop) [Decidable p] (a b : Gen) : (if p then a else b).state = if p then a.state else b.state := by
  split <;> rfl
@[simp] theorem Gen.code_ite (p : Prop) [Decidable p] (a b : Gen) : (if p then a else b).code = if p then a.code else b.code := by
  split <;> rfl
@[simp] theorem Gen.acc_ite (p : Prop) [Decidable p] (a b : Gen) : (if p then a else b).acc = if p then a.acc else b.acc := by
  split <;> rfl
@[simp] theorem Gen.lastDepth_ite (p : Prop) [Decidable p] (a b : Gen) : (if p then a else b).lastDepth = if p then a.lastDepth else b.lastDepth := by
  split <;> rfl
@[simp] theorem Gen.nominal8_ite (p : Prop) [Decidable p] (a b : Gen) : (if p then a else b).nominal8 = if p then a.nominal8 else b.nominal8 := by
  split <;> rfl
@[simp] theorem Gen.actual_ite (p : Prop) [Decidable p] (a b : Gen) : (if p then a else b).actual = if p then a.actual else b.actual := by
  split <;> rfl
@[simp] theorem Gen.stretch_ite (p : Prop) [Decidable p] (a b : Gen) : (if p then a else b).stretch = if p then a.stretch else b.stretch := by
  split <;> rfl
@[simp] theorem Gen.deepest_ite (p : Prop) [Decidable p] (a b : Gen) : (if p then a else b).deepest = if p then a.deepest else b.deepest := by
  split <;> rfl
@[simp] theorem Gen.skew_ite (p : Prop) [Decidable p] (a b : Gen) : (if p then a else b).skew = if p then a.skew else b.skew := by
  split <;> rfl
@[simp] theorem Gen.calBit_ite (p : Prop) [Decidable p] (a b : Gen) : (if p then a else b).calBit = if p then a.calBit else b.calBit := by
  split <;> rfl
@[simp] theorem Gen.calWait_ite (p : Prop) [Decidable p] (a b : Gen) : (if p then a else b).calWait = if p then a.calWait else b.calWait := by
  split <;> rfl
@[simp] theorem Gen.calAbandoned_ite (p : Prop) [Decidable p] (a b : Gen) : (if p then a else b).calAbandoned = if p then a.calAbandoned else b.calAbandoned := by
  split <;> rfl
@[simp] theorem Gen.lockRun_ite (p : Prop) [Decidable p] (a b : Gen) : (if p then a else b).lockRun = if p then a.lockRun else b.lockRun := by
  split <;> rfl
@[simp] theorem Gen.lossRun_ite (p : Prop) [Decidable p] (a b : Gen) : (if p then a else b).lossRun = if p then a.lossRun else b.lossRun := by
  split <;> rfl
@[simp] theorem Gen.before_ite (p : Prop) [Decidable p] (a b : Gen) : (if p then a else b).before = if p then a.before else b.before := by
  split <;> rfl
@[simp] theorem Gen.codeOld_ite (p : Prop) [Decidable p] (a b : Gen) : (if p then a else b).codeOld = if p then a.codeOld else b.codeOld := by
  split <;> rfl
@[simp] theorem Gen.codeNew_ite (p : Prop) [Decidable p] (a b : Gen) : (if p then a else b).codeNew = if p then a.codeNew else b.codeNew := by
  split <;> rfl
@[simp] theorem Gen.stretched_ite (p : Prop) [Decidable p] (a b : Gen) : (if p then a else b).stretched = if p then a.stretched else b.stretched := by
  split <;> rfl
@[simp] theorem Gen.part_ite (p : Prop) [Decidable p] (a b : Gen) : (if p then a else b).part = if p then a.part else b.part := by
  split <;> rfl
@[simp] theorem Gen.slewEpoch_ite (p : Prop) [Decidable p] (a b : Gen) : (if p then a else b).slewEpoch = if p then a.slewEpoch else b.slewEpoch := by
  split <;> rfl
@[simp] theorem Gen.guardCals_ite (p : Prop) [Decidable p] (a b : Gen) : (if p then a else b).guardCals = if p then a.guardCals else b.guardCals := by
  split <;> rfl
@[simp] theorem Gen.deskewed_ite (p : Prop) [Decidable p] (a b : Gen) : (if p then a else b).deskewed = if p then a.deskewed else b.deskewed := by
  split <;> rfl
@[simp] theorem Gen.halt_ite (p : Prop) [Decidable p] (a b : Gen) : (if p then a else b).halt = if p then a.halt else b.halt := by
  split <;> rfl
@[simp] theorem Gen.guardFs_ite (p : Prop) [Decidable p] (a b : Gen) : (if p then a else b).guardFs = if p then a.guardFs else b.guardFs := by
  split <;> rfl
@[simp] theorem Gen.delay_ite (p : Prop) [Decidable p] (a b : Gen) : (if p then a else b).delay = if p then a.delay else b.delay := by
  split <;> rfl
@[simp] theorem Gen.slavedCycles_ite (p : Prop) [Decidable p] (a b : Gen) : (if p then a else b).slavedCycles = if p then a.slavedCycles else b.slavedCycles := by
  split <;> rfl
@[simp] theorem Gen.skewFault_ite (p : Prop) [Decidable p] (a b : Gen) : (if p then a else b).skewFault = if p then a.skewFault else b.skewFault := by
  split <;> rfl
@[simp] theorem Gen.idle_ite (p : Prop) [Decidable p] (a b : Gen) : (if p then a else b).idle = if p then a.idle else b.idle := by
  split <;> rfl
@[simp] theorem Gen.ran_ite (p : Prop) [Decidable p] (a b : Gen) : (if p then a else b).ran = if p then a.ran else b.ran := by
  split <;> rfl
@[simp] theorem Gen.stopped_ite (p : Prop) [Decidable p] (a b : Gen) : (if p then a else b).stopped = if p then a.stopped else b.stopped := by
  split <;> rfl
@[simp] theorem Seq.sessions_ite (p : Prop) [Decidable p] (a b : Seq) : (if p then a else b).sessions = if p then a.sessions else b.sessions := by
  split <;> rfl
@[simp] theorem Seq.cache_ite (p : Prop) [Decidable p] (a b : Seq) : (if p then a else b).cache = if p then a.cache else b.cache := by
  split <;> rfl
@[simp] theorem Seq.cacheMiss_ite (p : Prop) [Decidable p] (a b : Seq) : (if p then a else b).cacheMiss = if p then a.cacheMiss else b.cacheMiss := by
  split <;> rfl
@[simp] theorem Seq.evictNo_ite (p : Prop) [Decidable p] (a b : Seq) : (if p then a else b).evictNo = if p then a.evictNo else b.evictNo := by
  split <;> rfl
@[simp] theorem Seq.parts_ite (p : Prop) [Decidable p] (a b : Seq) : (if p then a else b).parts = if p then a.parts else b.parts := by
  split <;> rfl
@[simp] theorem Seq.tiles_ite (p : Prop) [Decidable p] (a b : Seq) : (if p then a else b).tiles = if p then a.tiles else b.tiles := by
  split <;> rfl
@[simp] theorem Seq.items_ite (p : Prop) [Decidable p] (a b : Seq) : (if p then a else b).items = if p then a.items else b.items := by
  split <;> rfl
@[simp] theorem Seq.itemNo_ite (p : Prop) [Decidable p] (a b : Seq) : (if p then a else b).itemNo = if p then a.itemNo else b.itemNo := by
  split <;> rfl
@[simp] theorem Seq.ahead_ite (p : Prop) [Decidable p] (a b : Seq) : (if p then a else b).ahead = if p then a.ahead else b.ahead := by
  split <;> rfl
@[simp] theorem Seq.ctr_ite (p : Prop) [Decidable p] (a b : Seq) : (if p then a else b).ctr = if p then a.ctr else b.ctr := by
  split <;> rfl
@[simp] theorem Seq.owner_ite (p : Prop) [Decidable p] (a b : Seq) : (if p then a else b).owner = if p then a.owner else b.owner := by
  split <;> rfl
@[simp] theorem Seq.sat_ite (p : Prop) [Decidable p] (a b : Seq) : (if p then a else b).sat = if p then a.sat else b.sat := by
  split <;> rfl
@[simp] theorem Seq.waiters_ite (p : Prop) [Decidable p] (a b : Seq) : (if p then a else b).waiters = if p then a.waiters else b.waiters := by
  split <;> rfl
@[simp] theorem Seq.parkNo_ite (p : Prop) [Decidable p] (a b : Seq) : (if p then a else b).parkNo = if p then a.parkNo else b.parkNo := by
  split <;> rfl
@[simp] theorem Seq.waitPeak_ite (p : Prop) [Decidable p] (a b : Seq) : (if p then a else b).waitPeak = if p then a.waitPeak else b.waitPeak := by
  split <;> rfl
@[simp] theorem Seq.poolFull_ite (p : Prop) [Decidable p] (a b : Seq) : (if p then a else b).poolFull = if p then a.poolFull else b.poolFull := by
  split <;> rfl
@[simp] theorem Seq.denied_ite (p : Prop) [Decidable p] (a b : Seq) : (if p then a else b).denied = if p then a.denied else b.denied := by
  split <;> rfl
@[simp] theorem Seq.compOut_ite (p : Prop) [Decidable p] (a b : Seq) : (if p then a else b).compOut = if p then a.compOut else b.compOut := by
  split <;> rfl
@[simp] theorem Seq.hold_ite (p : Prop) [Decidable p] (a b : Seq) : (if p then a else b).hold = if p then a.hold else b.hold := by
  split <;> rfl
@[simp] theorem Seq.reserved_ite (p : Prop) [Decidable p] (a b : Seq) : (if p then a else b).reserved = if p then a.reserved else b.reserved := by
  split <;> rfl
@[simp] theorem Seq.holdFault_ite (p : Prop) [Decidable p] (a b : Seq) : (if p then a else b).holdFault = if p then a.holdFault else b.holdFault := by
  split <;> rfl
@[simp] theorem Hif.rings_ite (p : Prop) [Decidable p] (a b : Hif) : (if p then a else b).rings = if p then a.rings else b.rings := by
  split <;> rfl
@[simp] theorem Hif.winBase_ite (p : Prop) [Decidable p] (a b : Hif) : (if p then a else b).winBase = if p then a.winBase else b.winBase := by
  split <;> rfl
@[simp] theorem Hif.peers_ite (p : Prop) [Decidable p] (a b : Hif) : (if p then a else b).peers = if p then a.peers else b.peers := by
  split <;> rfl
@[simp] theorem Hif.flashSlot_ite (p : Prop) [Decidable p] (a b : Hif) : (if p then a else b).flashSlot = if p then a.flashSlot else b.flashSlot := by
  split <;> rfl
@[simp] theorem Hif.flashSector_ite (p : Prop) [Decidable p] (a b : Hif) : (if p then a else b).flashSector = if p then a.flashSector else b.flashSector := by
  split <;> rfl
@[simp] theorem Hif.flashCmd_ite (p : Prop) [Decidable p] (a b : Hif) : (if p then a else b).flashCmd = if p then a.flashCmd else b.flashCmd := by
  split <;> rfl
@[simp] theorem Hif.opSlot_ite (p : Prop) [Decidable p] (a b : Hif) : (if p then a else b).opSlot = if p then a.opSlot else b.opSlot := by
  split <;> rfl
@[simp] theorem Hif.opSector_ite (p : Prop) [Decidable p] (a b : Hif) : (if p then a else b).opSector = if p then a.opSector else b.opSector := by
  split <;> rfl
@[simp] theorem Hif.flashReason_ite (p : Prop) [Decidable p] (a b : Hif) : (if p then a else b).flashReason = if p then a.flashReason else b.flashReason := by
  split <;> rfl
@[simp] theorem Hif.flashState_ite (p : Prop) [Decidable p] (a b : Hif) : (if p then a else b).flashState = if p then a.flashState else b.flashState := by
  split <;> rfl
@[simp] theorem Hif.flashBuf_ite (p : Prop) [Decidable p] (a b : Hif) : (if p then a else b).flashBuf = if p then a.flashBuf else b.flashBuf := by
  split <;> rfl
@[simp] theorem Hif.faultCount_ite (p : Prop) [Decidable p] (a b : Hif) : (if p then a else b).faultCount = if p then a.faultCount else b.faultCount := by
  split <;> rfl
@[simp] theorem Hif.log_ite (p : Prop) [Decidable p] (a b : Hif) : (if p then a else b).log = if p then a.log else b.log := by
  split <;> rfl
@[simp] theorem Hif.badAccess_ite (p : Prop) [Decidable p] (a b : Hif) : (if p then a else b).badAccess = if p then a.badAccess else b.badAccess := by
  split <;> rfl
@[simp] theorem Hif.dbDrop_ite (p : Prop) [Decidable p] (a b : Hif) : (if p then a else b).dbDrop = if p then a.dbDrop else b.dbDrop := by
  split <;> rfl
@[simp] theorem Hif.p2pDrop_ite (p : Prop) [Decidable p] (a b : Hif) : (if p then a else b).p2pDrop = if p then a.p2pDrop else b.p2pDrop := by
  split <;> rfl
@[simp] theorem Hif.inbox_ite (p : Prop) [Decidable p] (a b : Hif) : (if p then a else b).inbox = if p then a.inbox else b.inbox := by
  split <;> rfl
@[simp] theorem Hif.p2pIn_ite (p : Prop) [Decidable p] (a b : Hif) : (if p then a else b).p2pIn = if p then a.p2pIn else b.p2pIn := by
  split <;> rfl
@[simp] theorem Hif.p2pOut_ite (p : Prop) [Decidable p] (a b : Hif) : (if p then a else b).p2pOut = if p then a.p2pOut else b.p2pOut := by
  split <;> rfl
@[simp] theorem Hif.vectors_ite (p : Prop) [Decidable p] (a b : Hif) : (if p then a else b).vectors = if p then a.vectors else b.vectors := by
  split <;> rfl
@[simp] theorem Hif.d3_ite (p : Prop) [Decidable p] (a b : Hif) : (if p then a else b).d3 = if p then a.d3 else b.d3 := by
  split <;> rfl
@[simp] theorem Hif.perst_ite (p : Prop) [Decidable p] (a b : Hif) : (if p then a else b).perst = if p then a.perst else b.perst := by
  split <;> rfl
@[simp] theorem Hif.lastHost_ite (p : Prop) [Decidable p] (a b : Hif) : (if p then a else b).lastHost = if p then a.lastHost else b.lastHost := by
  split <;> rfl
@[simp] theorem Hif.latch_ite (p : Prop) [Decidable p] (a b : Hif) : (if p then a else b).latch = if p then a.latch else b.latch := by
  split <;> rfl
@[simp] theorem Hif.i2cLatch_ite (p : Prop) [Decidable p] (a b : Hif) : (if p then a else b).i2cLatch = if p then a.i2cLatch else b.i2cLatch := by
  split <;> rfl
@[simp] theorem Hif.i2cOffset_ite (p : Prop) [Decidable p] (a b : Hif) : (if p then a else b).i2cOffset = if p then a.i2cOffset else b.i2cOffset := by
  split <;> rfl
@[simp] theorem Hif.i2cData_ite (p : Prop) [Decidable p] (a b : Hif) : (if p then a else b).i2cData = if p then a.i2cData else b.i2cData := by
  split <;> rfl
@[simp] theorem Hif.wrote_ite (p : Prop) [Decidable p] (a b : Hif) : (if p then a else b).wrote = if p then a.wrote else b.wrote := by
  split <;> rfl
@[simp] theorem Hif.flushes_ite (p : Prop) [Decidable p] (a b : Hif) : (if p then a else b).flushes = if p then a.flushes else b.flushes := by
  split <;> rfl
@[simp] theorem Hif.reads_ite (p : Prop) [Decidable p] (a b : Hif) : (if p then a else b).reads = if p then a.reads else b.reads := by
  split <;> rfl
@[simp] theorem Stew.evaluating_ite (p : Prop) [Decidable p] (a b : Stew) : (if p then a else b).evaluating = if p then a.evaluating else b.evaluating := by
  split <;> rfl
@[simp] theorem Stew.evalDue_ite (p : Prop) [Decidable p] (a b : Stew) : (if p then a else b).evalDue = if p then a.evalDue else b.evalDue := by
  split <;> rfl
@[simp] theorem Stew.grant_ite (p : Prop) [Decidable p] (a b : Stew) : (if p then a else b).grant = if p then a.grant else b.grant := by
  split <;> rfl
@[simp] theorem Stew.effCap_ite (p : Prop) [Decidable p] (a b : Stew) : (if p then a else b).effCap = if p then a.effCap else b.effCap := by
  split <;> rfl
@[simp] theorem Stew.effDrop_ite (p : Prop) [Decidable p] (a b : Stew) : (if p then a else b).effDrop = if p then a.effDrop else b.effDrop := by
  split <;> rfl
@[simp] theorem Stew.urgency_ite (p : Prop) [Decidable p] (a b : Stew) : (if p then a else b).urgency = if p then a.urgency else b.urgency := by
  split <;> rfl
@[simp] theorem Stew.demand_ite (p : Prop) [Decidable p] (a b : Stew) : (if p then a else b).demand = if p then a.demand else b.demand := by
  split <;> rfl
@[simp] theorem Stew.window_ite (p : Prop) [Decidable p] (a b : Stew) : (if p then a else b).window = if p then a.window else b.window := by
  split <;> rfl
@[simp] theorem Stew.needs_ite (p : Prop) [Decidable p] (a b : Stew) : (if p then a else b).needs = if p then a.needs else b.needs := by
  split <;> rfl
@[simp] theorem Stew.allow_ite (p : Prop) [Decidable p] (a b : Stew) : (if p then a else b).allow = if p then a.allow else b.allow := by
  split <;> rfl
@[simp] theorem Stew.overCount_ite (p : Prop) [Decidable p] (a b : Stew) : (if p then a else b).overCount = if p then a.overCount else b.overCount := by
  split <;> rfl
@[simp] theorem Stew.overFault_ite (p : Prop) [Decidable p] (a b : Stew) : (if p then a else b).overFault = if p then a.overFault else b.overFault := by
  split <;> rfl
@[simp] theorem Stew.softFault_ite (p : Prop) [Decidable p] (a b : Stew) : (if p then a else b).softFault = if p then a.softFault else b.softFault := by
  split <;> rfl
@[simp] theorem Stew.floorClipped_ite (p : Prop) [Decidable p] (a b : Stew) : (if p then a else b).floorClipped = if p then a.floorClipped else b.floorClipped := by
  split <;> rfl
@[simp] theorem Stew.grantStale_ite (p : Prop) [Decidable p] (a b : Stew) : (if p then a else b).grantStale = if p then a.grantStale else b.grantStale := by
  split <;> rfl
@[simp] theorem Stew.coolantStop_ite (p : Prop) [Decidable p] (a b : Stew) : (if p then a else b).coolantStop = if p then a.coolantStop else b.coolantStop := by
  split <;> rfl
@[simp] theorem Stew.resuming_ite (p : Prop) [Decidable p] (a b : Stew) : (if p then a else b).resuming = if p then a.resuming else b.resuming := by
  split <;> rfl
@[simp] theorem Stew.resumeAge_ite (p : Prop) [Decidable p] (a b : Stew) : (if p then a else b).resumeAge = if p then a.resumeAge else b.resumeAge := by
  split <;> rfl
@[simp] theorem Stew.islandV_ite (p : Prop) [Decidable p] (a b : Stew) : (if p then a else b).islandV = if p then a.islandV else b.islandV := by
  split <;> rfl
@[simp] theorem Stew.grantNew_ite (p : Prop) [Decidable p] (a b : Stew) : (if p then a else b).grantNew = if p then a.grantNew else b.grantNew := by
  split <;> rfl
@[simp] theorem Stew.grantAge_ite (p : Prop) [Decidable p] (a b : Stew) : (if p then a else b).grantAge = if p then a.grantAge else b.grantAge := by
  split <;> rfl
@[simp] theorem Stew.ack_ite (p : Prop) [Decidable p] (a b : Stew) : (if p then a else b).ack = if p then a.ack else b.ack := by
  split <;> rfl
@[simp] theorem Stew.auxEvents_ite (p : Prop) [Decidable p] (a b : Stew) : (if p then a else b).auxEvents = if p then a.auxEvents else b.auxEvents := by
  split <;> rfl
@[simp] theorem Stew.stirFloor_ite (p : Prop) [Decidable p] (a b : Stew) : (if p then a else b).stirFloor = if p then a.stirFloor else b.stirFloor := by
  split <;> rfl
@[simp] theorem Stew.stirFill_ite (p : Prop) [Decidable p] (a b : Stew) : (if p then a else b).stirFill = if p then a.stirFill else b.stirFill := by
  split <;> rfl
@[simp] theorem Stew.stirShort_ite (p : Prop) [Decidable p] (a b : Stew) : (if p then a else b).stirShort = if p then a.stirShort else b.stirShort := by
  split <;> rfl
@[simp] theorem Stew.frameNj_ite (p : Prop) [Decidable p] (a b : Stew) : (if p then a else b).frameNj = if p then a.frameNj else b.frameNj := by
  split <;> rfl
@[simp] theorem Stew.pframe_ite (p : Prop) [Decidable p] (a b : Stew) : (if p then a else b).pframe = if p then a.pframe else b.pframe := by
  split <;> rfl
@[simp] theorem Stew.frames_ite (p : Prop) [Decidable p] (a b : Stew) : (if p then a else b).frames = if p then a.frames else b.frames := by
  split <;> rfl
@[simp] theorem Stew.frameLen_ite (p : Prop) [Decidable p] (a b : Stew) : (if p then a else b).frameLen = if p then a.frameLen else b.frameLen := by
  split <;> rfl
@[simp] theorem Stew.frameEnd_ite (p : Prop) [Decidable p] (a b : Stew) : (if p then a else b).frameEnd = if p then a.frameEnd else b.frameEnd := by
  split <;> rfl
@[simp] theorem Stew.groups_ite (p : Prop) [Decidable p] (a b : Stew) : (if p then a else b).groups = if p then a.groups else b.groups := by
  split <;> rfl
@[simp] theorem Stew.accounts_ite (p : Prop) [Decidable p] (a b : Stew) : (if p then a else b).accounts = if p then a.accounts else b.accounts := by
  split <;> rfl
@[simp] theorem Stew.classes_ite (p : Prop) [Decidable p] (a b : Stew) : (if p then a else b).classes = if p then a.classes else b.classes := by
  split <;> rfl
@[simp] theorem Stew.parts_ite (p : Prop) [Decidable p] (a b : Stew) : (if p then a else b).parts = if p then a.parts else b.parts := by
  split <;> rfl
@[simp] theorem Stew.spec_ite (p : Prop) [Decidable p] (a b : Stew) : (if p then a else b).spec = if p then a.spec else b.spec := by
  split <;> rfl
@[simp] theorem Stew.sweep_ite (p : Prop) [Decidable p] (a b : Stew) : (if p then a else b).sweep = if p then a.sweep else b.sweep := by
  split <;> rfl
@[simp] theorem Stew.tagged_ite (p : Prop) [Decidable p] (a b : Stew) : (if p then a else b).tagged = if p then a.tagged else b.tagged := by
  split <;> rfl
@[simp] theorem Stew.booking_ite (p : Prop) [Decidable p] (a b : Stew) : (if p then a else b).booking = if p then a.booking else b.booking := by
  split <;> rfl
@[simp] theorem Stew.staged_ite (p : Prop) [Decidable p] (a b : Stew) : (if p then a else b).staged = if p then a.staged else b.staged := by
  split <;> rfl
@[simp] theorem Stew.gainDue_ite (p : Prop) [Decidable p] (a b : Stew) : (if p then a else b).gainDue = if p then a.gainDue else b.gainDue := by
  split <;> rfl
@[simp] theorem Stew.captures_ite (p : Prop) [Decidable p] (a b : Stew) : (if p then a else b).captures = if p then a.captures else b.captures := by
  split <;> rfl
@[simp] theorem Bru.phase_ite (p : Prop) [Decidable p] (a b : Bru) : (if p then a else b).phase = if p then a.phase else b.phase := by
  split <;> rfl
@[simp] theorem Bru.ready_ite (p : Prop) [Decidable p] (a b : Bru) : (if p then a else b).ready = if p then a.ready else b.ready := by
  split <;> rfl
@[simp] theorem Bru.fallback_ite (p : Prop) [Decidable p] (a b : Bru) : (if p then a else b).fallback = if p then a.fallback else b.fallback := by
  split <;> rfl
@[simp] theorem Bru.slot_ite (p : Prop) [Decidable p] (a b : Bru) : (if p then a else b).slot = if p then a.slot else b.slot := by
  split <;> rfl
@[simp] theorem Bru.cause_ite (p : Prop) [Decidable p] (a b : Bru) : (if p then a else b).cause = if p then a.cause else b.cause := by
  split <;> rfl
@[simp] theorem Bru.rejA_ite (p : Prop) [Decidable p] (a b : Bru) : (if p then a else b).rejA = if p then a.rejA else b.rejA := by
  split <;> rfl
@[simp] theorem Bru.rejB_ite (p : Prop) [Decidable p] (a b : Bru) : (if p then a else b).rejB = if p then a.rejB else b.rejB := by
  split <;> rfl
@[simp] theorem Bru.readyEpoch_ite (p : Prop) [Decidable p] (a b : Bru) : (if p then a else b).readyEpoch = if p then a.readyEpoch else b.readyEpoch := by
  split <;> rfl
@[simp] theorem Bru.genA_ite (p : Prop) [Decidable p] (a b : Bru) : (if p then a else b).genA = if p then a.genA else b.genA := by
  split <;> rfl
@[simp] theorem Bru.genB_ite (p : Prop) [Decidable p] (a b : Bru) : (if p then a else b).genB = if p then a.genB else b.genB := by
  split <;> rfl
@[simp] theorem Bru.resultA_ite (p : Prop) [Decidable p] (a b : Bru) : (if p then a else b).resultA = if p then a.resultA else b.resultA := by
  split <;> rfl
@[simp] theorem Bru.resultB_ite (p : Prop) [Decidable p] (a b : Bru) : (if p then a else b).resultB = if p then a.resultB else b.resultB := by
  split <;> rfl
@[simp] theorem Bru.image_ite (p : Prop) [Decidable p] (a b : Bru) : (if p then a else b).image = if p then a.image else b.image := by
  split <;> rfl
@[simp] theorem Bru.epochs_ite (p : Prop) [Decidable p] (a b : Bru) : (if p then a else b).epochs = if p then a.epochs else b.epochs := by
  split <;> rfl
@[simp] theorem Bru.late_ite (p : Prop) [Decidable p] (a b : Bru) : (if p then a else b).late = if p then a.late else b.late := by
  split <;> rfl
@[simp] theorem Bru.memInit_ite (p : Prop) [Decidable p] (a b : Bru) : (if p then a else b).memInit = if p then a.memInit else b.memInit := by
  split <;> rfl
@[simp] theorem Bru.restart_ite (p : Prop) [Decidable p] (a b : Bru) : (if p then a else b).restart = if p then a.restart else b.restart := by
  split <;> rfl
@[simp] theorem Bru.selftested_ite (p : Prop) [Decidable p] (a b : Bru) : (if p then a else b).selftested = if p then a.selftested else b.selftested := by
  split <;> rfl
@[simp] theorem Bru.configured_ite (p : Prop) [Decidable p] (a b : Bru) : (if p then a else b).configured = if p then a.configured else b.configured := by
  split <;> rfl
@[simp] theorem Bru.checked_ite (p : Prop) [Decidable p] (a b : Bru) : (if p then a else b).checked = if p then a.checked else b.checked := by
  split <;> rfl
@[simp] theorem Bru.stuck_ite (p : Prop) [Decidable p] (a b : Bru) : (if p then a else b).stuck = if p then a.stuck else b.stuck := by
  split <;> rfl
@[simp] theorem Img.commitEpoch_ite (p : Prop) [Decidable p] (a b : Img) : (if p then a else b).commitEpoch = if p then a.commitEpoch else b.commitEpoch := by
  split <;> rfl
@[simp] theorem Img.stageSlot_ite (p : Prop) [Decidable p] (a b : Img) : (if p then a else b).stageSlot = if p then a.stageSlot else b.stageSlot := by
  split <;> rfl
@[simp] theorem Img.rollRegion_ite (p : Prop) [Decidable p] (a b : Img) : (if p then a else b).rollRegion = if p then a.rollRegion else b.rollRegion := by
  split <;> rfl
@[simp] theorem Img.useValid_ite (p : Prop) [Decidable p] (a b : Img) : (if p then a else b).useValid = if p then a.useValid else b.useValid := by
  split <;> rfl
@[simp] theorem Img.useSlot_ite (p : Prop) [Decidable p] (a b : Img) : (if p then a else b).useSlot = if p then a.useSlot else b.useSlot := by
  split <;> rfl
@[simp] theorem Img.cPending_ite (p : Prop) [Decidable p] (a b : Img) : (if p then a else b).cPending = if p then a.cPending else b.cPending := by
  split <;> rfl
@[simp] theorem Img.stagedSlot_ite (p : Prop) [Decidable p] (a b : Img) : (if p then a else b).stagedSlot = if p then a.stagedSlot else b.stagedSlot := by
  split <;> rfl
@[simp] theorem Img.staged_ite (p : Prop) [Decidable p] (a b : Img) : (if p then a else b).staged = if p then a.staged else b.staged := by
  split <;> rfl
@[simp] theorem Img.rollActive_ite (p : Prop) [Decidable p] (a b : Img) : (if p then a else b).rollActive = if p then a.rollActive else b.rollActive := by
  split <;> rfl
@[simp] theorem Img.pending_ite (p : Prop) [Decidable p] (a b : Img) : (if p then a else b).pending = if p then a.pending else b.pending := by
  split <;> rfl
@[simp] theorem Img.result_ite (p : Prop) [Decidable p] (a b : Img) : (if p then a else b).result = if p then a.result else b.result := by
  split <;> rfl
@[simp] theorem Img.appliedEpoch_ite (p : Prop) [Decidable p] (a b : Img) : (if p then a else b).appliedEpoch = if p then a.appliedEpoch else b.appliedEpoch := by
  split <;> rfl
@[simp] theorem Img.commitCount_ite (p : Prop) [Decidable p] (a b : Img) : (if p then a else b).commitCount = if p then a.commitCount else b.commitCount := by
  split <;> rfl
@[simp] theorem Img.skipped_ite (p : Prop) [Decidable p] (a b : Img) : (if p then a else b).skipped = if p then a.skipped else b.skipped := by
  split <;> rfl
@[simp] theorem Img.shadowA_ite (p : Prop) [Decidable p] (a b : Img) : (if p then a else b).shadowA = if p then a.shadowA else b.shadowA := by
  split <;> rfl
@[simp] theorem Img.shadowB_ite (p : Prop) [Decidable p] (a b : Img) : (if p then a else b).shadowB = if p then a.shadowB else b.shadowB := by
  split <;> rfl
@[simp] theorem Img.nowA_ite (p : Prop) [Decidable p] (a b : Img) : (if p then a else b).nowA = if p then a.nowA else b.nowA := by
  split <;> rfl
@[simp] theorem Img.nowC_ite (p : Prop) [Decidable p] (a b : Img) : (if p then a else b).nowC = if p then a.nowC else b.nowC := by
  split <;> rfl
@[simp] theorem Img.snapE_ite (p : Prop) [Decidable p] (a b : Img) : (if p then a else b).snapE = if p then a.snapE else b.snapE := by
  split <;> rfl
@[simp] theorem Img.snapA_ite (p : Prop) [Decidable p] (a b : Img) : (if p then a else b).snapA = if p then a.snapA else b.snapA := by
  split <;> rfl
@[simp] theorem Img.snapB_ite (p : Prop) [Decidable p] (a b : Img) : (if p then a else b).snapB = if p then a.snapB else b.snapB := by
  split <;> rfl
@[simp] theorem Img.snapStaged_ite (p : Prop) [Decidable p] (a b : Img) : (if p then a else b).snapStaged = if p then a.snapStaged else b.snapStaged := by
  split <;> rfl
@[simp] theorem Img.rollB_ite (p : Prop) [Decidable p] (a b : Img) : (if p then a else b).rollB = if p then a.rollB else b.rollB := by
  split <;> rfl
@[simp] theorem Img.rollPhase_ite (p : Prop) [Decidable p] (a b : Img) : (if p then a else b).rollPhase = if p then a.rollPhase else b.rollPhase := by
  split <;> rfl
@[simp] theorem Img.rollNext_ite (p : Prop) [Decidable p] (a b : Img) : (if p then a else b).rollNext = if p then a.rollNext else b.rollNext := by
  split <;> rfl
@[simp] theorem Img.rollEpochs_ite (p : Prop) [Decidable p] (a b : Img) : (if p then a else b).rollEpochs = if p then a.rollEpochs else b.rollEpochs := by
  split <;> rfl
@[simp] theorem Img.rollApplied_ite (p : Prop) [Decidable p] (a b : Img) : (if p then a else b).rollApplied = if p then a.rollApplied else b.rollApplied := by
  split <;> rfl
@[simp] theorem Img.rollForced_ite (p : Prop) [Decidable p] (a b : Img) : (if p then a else b).rollForced = if p then a.rollForced else b.rollForced := by
  split <;> rfl
@[simp] theorem Img.rollCopyUe_ite (p : Prop) [Decidable p] (a b : Img) : (if p then a else b).rollCopyUe = if p then a.rollCopyUe else b.rollCopyUe := by
  split <;> rfl
@[simp] theorem Img.rollMoved_ite (p : Prop) [Decidable p] (a b : Img) : (if p then a else b).rollMoved = if p then a.rollMoved else b.rollMoved := by
  split <;> rfl
@[simp] theorem Img.rollTries_ite (p : Prop) [Decidable p] (a b : Img) : (if p then a else b).rollTries = if p then a.rollTries else b.rollTries := by
  split <;> rfl
@[simp] theorem Img.rollWait_ite (p : Prop) [Decidable p] (a b : Img) : (if p then a else b).rollWait = if p then a.rollWait else b.rollWait := by
  split <;> rfl
@[simp] theorem Img.rollCancel_ite (p : Prop) [Decidable p] (a b : Img) : (if p then a else b).rollCancel = if p then a.rollCancel else b.rollCancel := by
  split <;> rfl
@[simp] theorem Img.staging_ite (p : Prop) [Decidable p] (a b : Img) : (if p then a else b).staging = if p then a.staging else b.staging := by
  split <;> rfl
@[simp] theorem Img.stagingSlot_ite (p : Prop) [Decidable p] (a b : Img) : (if p then a else b).stagingSlot = if p then a.stagingSlot else b.stagingSlot := by
  split <;> rfl
@[simp] theorem Img.rollParted_ite (p : Prop) [Decidable p] (a b : Img) : (if p then a else b).rollParted = if p then a.rollParted else b.rollParted := by
  split <;> rfl
@[simp] theorem Img.rollEnded_ite (p : Prop) [Decidable p] (a b : Img) : (if p then a else b).rollEnded = if p then a.rollEnded else b.rollEnded := by
  split <;> rfl
@[simp] theorem Clock.mNow_ite (p : Prop) [Decidable p] (a b : Clock) : (if p then a else b).mNow = if p then a.mNow else b.mNow := by
  split <;> rfl
@[simp] theorem Clock.stepBusy_ite (p : Prop) [Decidable p] (a b : Clock) : (if p then a else b).stepBusy = if p then a.stepBusy else b.stepBusy := by
  split <;> rfl
@[simp] theorem Clock.holdover_ite (p : Prop) [Decidable p] (a b : Clock) : (if p then a else b).holdover = if p then a.holdover else b.holdover := by
  split <;> rfl
@[simp] theorem Clock.freqHold_ite (p : Prop) [Decidable p] (a b : Clock) : (if p then a else b).freqHold = if p then a.freqHold else b.freqHold := by
  split <;> rfl
@[simp] theorem Clock.refLocked_ite (p : Prop) [Decidable p] (a b : Clock) : (if p then a else b).refLocked = if p then a.refLocked else b.refLocked := by
  split <;> rfl
@[simp] theorem Clock.refSel_ite (p : Prop) [Decidable p] (a b : Clock) : (if p then a else b).refSel = if p then a.refSel else b.refSel := by
  split <;> rfl
@[simp] theorem Clock.refA_ite (p : Prop) [Decidable p] (a b : Clock) : (if p then a else b).refA = if p then a.refA else b.refA := by
  split <;> rfl
@[simp] theorem Clock.refB_ite (p : Prop) [Decidable p] (a b : Clock) : (if p then a else b).refB = if p then a.refB else b.refB := by
  split <;> rfl
@[simp] theorem Clock.holdEpochs_ite (p : Prop) [Decidable p] (a b : Clock) : (if p then a else b).holdEpochs = if p then a.holdEpochs else b.holdEpochs := by
  split <;> rfl
@[simp] theorem Clock.relock_ite (p : Prop) [Decidable p] (a b : Clock) : (if p then a else b).relock = if p then a.relock else b.relock := by
  split <;> rfl
@[simp] theorem Clock.leaving_ite (p : Prop) [Decidable p] (a b : Clock) : (if p then a else b).leaving = if p then a.leaving else b.leaving := by
  split <;> rfl
@[simp] theorem Clock.commanded_ite (p : Prop) [Decidable p] (a b : Clock) : (if p then a else b).commanded = if p then a.commanded else b.commanded := by
  split <;> rfl
@[simp] theorem Clock.switchTo_ite (p : Prop) [Decidable p] (a b : Clock) : (if p then a else b).switchTo = if p then a.switchTo else b.switchTo := by
  split <;> rfl
@[simp] theorem Clock.holdTick_ite (p : Prop) [Decidable p] (a b : Clock) : (if p then a else b).holdTick = if p then a.holdTick else b.holdTick := by
  split <;> rfl
@[simp] theorem Clock.noRefEpochs_ite (p : Prop) [Decidable p] (a b : Clock) : (if p then a else b).noRefEpochs = if p then a.noRefEpochs else b.noRefEpochs := by
  split <;> rfl
@[simp] theorem Clock.freq_ite (p : Prop) [Decidable p] (a b : Clock) : (if p then a else b).freq = if p then a.freq else b.freq := by
  split <;> rfl
@[simp] theorem Clock.holdLong_ite (p : Prop) [Decidable p] (a b : Clock) : (if p then a else b).holdLong = if p then a.holdLong else b.holdLong := by
  split <;> rfl
@[simp] theorem Clock.lockAged_ite (p : Prop) [Decidable p] (a b : Clock) : (if p then a else b).lockAged = if p then a.lockAged else b.lockAged := by
  split <;> rfl
@[simp] theorem Clock.guardAge_ite (p : Prop) [Decidable p] (a b : Clock) : (if p then a else b).guardAge = if p then a.guardAge else b.guardAge := by
  split <;> rfl
@[simp] theorem Clock.secEpochs_ite (p : Prop) [Decidable p] (a b : Clock) : (if p then a else b).secEpochs = if p then a.secEpochs else b.secEpochs := by
  split <;> rfl
@[simp] theorem TimeBase.tick_ite (p : Prop) [Decidable p] (a b : TimeBase) : (if p then a else b).tick = if p then a.tick else b.tick := by
  split <;> rfl
@[simp] theorem TimeBase.epoch_ite (p : Prop) [Decidable p] (a b : TimeBase) : (if p then a else b).epoch = if p then a.epoch else b.epoch := by
  split <;> rfl
@[simp] theorem TimeBase.pos_ite (p : Prop) [Decidable p] (a b : TimeBase) : (if p then a else b).pos = if p then a.pos else b.pos := by
  split <;> rfl
@[simp] theorem TimeBase.len_ite (p : Prop) [Decidable p] (a b : TimeBase) : (if p then a else b).len = if p then a.len else b.len := by
  split <;> rfl
@[simp] theorem TimeBase.hold_ite (p : Prop) [Decidable p] (a b : TimeBase) : (if p then a else b).hold = if p then a.hold else b.hold := by
  split <;> rfl
@[simp] theorem TimeBase.corr_ite (p : Prop) [Decidable p] (a b : TimeBase) : (if p then a else b).corr = if p then a.corr else b.corr := by
  split <;> rfl
@[simp] theorem TimeBase.secTick_ite (p : Prop) [Decidable p] (a b : TimeBase) : (if p then a else b).secTick = if p then a.secTick else b.secTick := by
  split <;> rfl
@[simp] theorem TimeBase.aligned_ite (p : Prop) [Decidable p] (a b : TimeBase) : (if p then a else b).aligned = if p then a.aligned else b.aligned := by
  split <;> rfl
@[simp] theorem TimeBase.lost_ite (p : Prop) [Decidable p] (a b : TimeBase) : (if p then a else b).lost = if p then a.lost else b.lost := by
  split <;> rfl
@[simp] theorem TimeBase.valid_ite (p : Prop) [Decidable p] (a b : TimeBase) : (if p then a else b).valid = if p then a.valid else b.valid := by
  split <;> rfl
@[simp] theorem TimeBase.missing_ite (p : Prop) [Decidable p] (a b : TimeBase) : (if p then a else b).missing = if p then a.missing else b.missing := by
  split <;> rfl
@[simp] theorem TimeBase.accepted_ite (p : Prop) [Decidable p] (a b : TimeBase) : (if p then a else b).accepted = if p then a.accepted else b.accepted := by
  split <;> rfl
@[simp] theorem TimeBase.fresh_ite (p : Prop) [Decidable p] (a b : TimeBase) : (if p then a else b).fresh = if p then a.fresh else b.fresh := by
  split <;> rfl
@[simp] theorem TimeBase.load_ite (p : Prop) [Decidable p] (a b : TimeBase) : (if p then a else b).load = if p then a.load else b.load := by
  split <;> rfl
@[simp] theorem TimeBase.arm_ite (p : Prop) [Decidable p] (a b : TimeBase) : (if p then a else b).arm = if p then a.arm else b.arm := by
  split <;> rfl
@[simp] theorem TimeBase.offset_ite (p : Prop) [Decidable p] (a b : TimeBase) : (if p then a else b).offset = if p then a.offset else b.offset := by
  split <;> rfl
@[simp] theorem TimeBase.loadDue_ite (p : Prop) [Decidable p] (a b : TimeBase) : (if p then a else b).loadDue = if p then a.loadDue else b.loadDue := by
  split <;> rfl
@[simp] theorem TimeBase.spurious_ite (p : Prop) [Decidable p] (a b : TimeBase) : (if p then a else b).spurious = if p then a.spurious else b.spurious := by
  split <;> rfl
@[simp] theorem TimeBase.runLen_ite (p : Prop) [Decidable p] (a b : TimeBase) : (if p then a else b).runLen = if p then a.runLen else b.runLen := by
  split <;> rfl
@[simp] theorem TimeBase.runOff_ite (p : Prop) [Decidable p] (a b : TimeBase) : (if p then a else b).runOff = if p then a.runOff else b.runOff := by
  split <;> rfl
@[simp] theorem TimeBase.runSec_ite (p : Prop) [Decidable p] (a b : TimeBase) : (if p then a else b).runSec = if p then a.runSec else b.runSec := by
  split <;> rfl
@[simp] theorem Xng.latKnown_ite (p : Prop) [Decidable p] (a b : Xng) : (if p then a else b).latKnown = if p then a.latKnown else b.latKnown := by
  split <;> rfl
@[simp] theorem Xng.margin_ite (p : Prop) [Decidable p] (a b : Xng) : (if p then a else b).margin = if p then a.margin else b.margin := by
  split <;> rfl
@[simp] theorem Xng.done_ite (p : Prop) [Decidable p] (a b : Xng) : (if p then a else b).done = if p then a.done else b.done := by
  split <;> rfl
@[simp] theorem Xng.ended_ite (p : Prop) [Decidable p] (a b : Xng) : (if p then a else b).ended = if p then a.ended else b.ended := by
  split <;> rfl
@[simp] theorem Xng.probing_ite (p : Prop) [Decidable p] (a b : Xng) : (if p then a else b).probing = if p then a.probing else b.probing := by
  split <;> rfl
@[simp] theorem Xng.epochs_ite (p : Prop) [Decidable p] (a b : Xng) : (if p then a else b).epochs = if p then a.epochs else b.epochs := by
  split <;> rfl
@[simp] theorem Xng.fixDiscard_ite (p : Prop) [Decidable p] (a b : Xng) : (if p then a else b).fixDiscard = if p then a.fixDiscard else b.fixDiscard := by
  split <;> rfl
@[simp] theorem Xng.up_ite (p : Prop) [Decidable p] (a b : Xng) : (if p then a else b).up = if p then a.up else b.up := by
  split <;> rfl
@[simp] theorem Xng.ageLimit_ite (p : Prop) [Decidable p] (a b : Xng) : (if p then a else b).ageLimit = if p then a.ageLimit else b.ageLimit := by
  split <;> rfl
@[simp] theorem Xng.check_ite (p : Prop) [Decidable p] (a b : Xng) : (if p then a else b).check = if p then a.check else b.check := by
  split <;> rfl
@[simp] theorem Xng.feeds_ite (p : Prop) [Decidable p] (a b : Xng) : (if p then a else b).feeds = if p then a.feeds else b.feeds := by
  split <;> rfl
@[simp] theorem Xng.northTurn_ite (p : Prop) [Decidable p] (a b : Xng) : (if p then a else b).northTurn = if p then a.northTurn else b.northTurn := by
  split <;> rfl
@[simp] theorem Xng.northBusy_ite (p : Prop) [Decidable p] (a b : Xng) : (if p then a else b).northBusy = if p then a.northBusy else b.northBusy := by
  split <;> rfl

theorem mem_removeAll (l : List Nat) (x y : Nat) : y ∈ removeAll l x ↔ y ∈ l ∧ y ≠ x := by
  simp [removeAll]

theorem mem_insertOnce (l : List Nat) (x y : Nat) : y ∈ insertOnce l x ↔ y = x ∨ y ∈ l := by
  unfold insertOnce
  split
  · rename_i h
    simp only [List.contains_eq_mem, decide_eq_true_eq] at h
    constructor
    · exact .inr
    · rintro (rfl | h2)
      · exact h
      · exact h2
  · simp [or_comm]

/-- A fault just raised is in force. -/
@[simp] theorem Tray.faulty_fault_self (t : Tray) (g : Tag) (nn i : Nat) : (t.fault g nn i).faulty g nn i = true := by
  simp [Tray.faulty, Tray.fault, mem_insertOnce]

/-- A fault just cleared is not in force. -/
@[simp] theorem Tray.faulty_clearFault_self (t : Tray) (g : Tag) (nn i : Nat) :
    (t.clearFault g nn i).faulty g nn i = false := by
  simp [Tray.faulty, Tray.clearFault, mem_removeAll]

/-- The tray log after a fault: its newest entry is that fault's. -/
@[simp] theorem Tray.fault_log_head (t : Tray) (g : Tag) (nn i : Nat) :
    (t.fault g nn i).log.head? = some ⟨codeOf g nn, i, t.epoch⟩ := (rfl)

/-- The chip's log after a fault: its newest entry is that fault's. -/
@[simp] theorem Chip.fault_log_head (c : Chip) (g : Tag) (nn i : Nat) :
    (c.fault g nn i).hif.log.head? = some ⟨codeOf g nn, i, c.time.epoch⟩ := (rfl)

/-- A fault is counted, up to all ones (R727). -/
@[simp] theorem Chip.fault_count (c : Chip) (g : Tag) (nn i : Nat) :
    (c.fault g nn i).hif.faultCount = satAdd 32 c.hif.faultCount 1 := (rfl)

@[simp] theorem Tray.countedSlots_fault (t : Tray) (g : Tag) (nn i : Nat) : (t.fault g nn i).countedSlots = t.countedSlots := (rfl)

/-- What a guarded event answers: always a next state, the effect's where the guard holds. -/
theorem occurs_next (b : Bool) (s t u : State) : occurs b s t = .next u ↔ u = if b then t else s := by
  simp [occurs, eq_comm]

/-- A guarded event whose guard holds has its effect. -/
@[simp] theorem occurs_true (s t : State) : occurs true s t = .next t := (rfl)

/-- A guarded event whose guard fails changes nothing. -/
@[simp] theorem occurs_false (s t : State) : occurs false s t = .next s := (rfl)

end Sys2Proof.Machine
end

