-- ==== Sys2Proof/Tests/Slice0.lean ====
section
/-! SUPPORT. The model's own tests: ill-formed commands that `Instr.wf` refuses, a witness for the hypotheses of every
statement, and single steps on small states. -/

namespace Sys2Proof.Tests
open Sys2Proof.Machine

/-- Chip 0 runs, after `f`. -/
def live (f : Chip → Chip) : State := State.reset.onChip 0 (fun c => { f c with powered := true, held := false })
/-- The tray after `f`. -/
def tray (f : Tray → Tray) : State := State.reset.onTray f
/-- Slot 0 after `f`. -/
def slot0 (f : TraySlot → TraySlot) : State := tray (fun t => t.onSlot 0 f)
/-- Both. -/
def both (f : Tray → Tray) (g : Chip → Chip) : State := (live g).onTray f
/-- Every generator in state `x`. -/
def allGens (x : GenState) : Bank Gen := { cells := (List.range 72).map (fun r => (r, { state := x })) }
/-- A queue whose reset handshake is over. -/
def openQueue : Queue := { wHs := {}, rHs := {} }
/-- The eight queues of endpoint `e` open. -/
def openQueues (e : Nat) : Bank Queue := { cells := (queuesOf e).map (fun q => (q, openQueue)) }

/-- Logical tile 0 of region 0 runs an item with these words as the descriptor at its PC, its tile after `f`. -/
def runs (words : List Nat) (f : Tile → Tile) : State :=
  live (fun c => ((c.onGen 0 (fun g => { g with state := .locked })).onTile 0 (fun x => f { x with running := true })).onTileMem
    0 0 (fun m => Memory.write m 0 (words.flatMap (natLE 8))))
/-- The same with a VECTOR of VOP `code`. -/
def vec (code : Nat) : State := runs [2, 0, code] id

/-- The codes of the vector operations on registers (Table OPS-7). -/
def vops : List Nat :=
  [0x10, 0x11, 0x12, 0x13, 0x14, 0x15, 0x16, 0x17, 0x18, 0x19, 0x1A, 0x1B, 0x20, 0x21, 0x22, 0x23, 0x24, 0x25, 0x26,
   0x27, 0x28, 0x29, 0x2A, 0x2B, 0x30, 0x31, 0x32, 0x33, 0x38, 0x39, 0x3A, 0x50, 0x51]

/-- Every hypothesis set of `Obligations.LanesAreExact`, and of `Obligations.FloatLanesFollowTheirFunction` but CVT's, is
met. -/
theorem witness_vector_lanes :
    ∀ code ∈ vops, ∃ (k : ChipId) (r : RegionId) (p : TileId) (s : State), VectorRuns k r p code s := fun code h =>
  ⟨0, 0, 0, vec code, (by decide : ∀ code ∈ vops, ((vec code).chip 0).atVop 0 0 code [] [] = true ∧
    vectorReserved (((vec code).chip 0).desc 0 0) = false) code h⟩

/-- The hypotheses of CVT's clause are met: FP32 to BF16. -/
theorem witness_cvt : ∃ (k : ChipId) (r : RegionId) (p : TileId) (s : State),
    VectorRuns k r p 0x40 s ∧ cvtOk ((s.chip k).desc r p) = true :=
  ⟨0, 0, 0, runs [2, 0, 0x3400000040] id, by unfold VectorRuns; decide⟩

/-- A 64-byte command entry: the listed bytes at their offsets, zero elsewhere. -/
def entry (l : List (Nat × Byte)) : List Byte :=
  (List.range 64).map (fun i => ((l.find? (fun e => e.1 == i)).map (fun e => e.2)).getD 0)
/-- Chip 0 is READY and ring 0 has handed over the entry of those bytes; the chip after `f`. -/
def handed (l : List (Nat × Byte)) (f : Chip → Chip) : State :=
  live (fun c => { (f c).onRing 0 (fun r => { r with handed := [{ bytes := entry l }] }) with bru.ready := true })
/-- The entry of those bytes runs in the background of ring 0. -/
def background (l : List (Nat × Byte)) (f : Chip → Chip) : State :=
  live (fun c => (f c).onRing 0 (fun r => { r with background := [{ bytes := entry l }] }))
/-- Session 0 is `x`. -/
def session (x : Session) (c : Chip) : Chip := c.setSession 0 x
/-- Chip 0's link is up, after `f`. -/
def linked (f : Chip → Chip) : State := live (fun c => { f c with hif.perst := false })

/-- TMC A holds the role and takes commands on its switch port, after `f`. -/
def active (f : Tray → Tray) : State :=
  tray (fun t => { f t with standby := true, role := some .a, tmcA.checked := true })
/-- A request on TMC A's switch port. -/
def req : MgmtReq := { tmc := .a, port := .switchPort, seq := 7 }
/-- The state that an outcome holds. -/
def after (o : Out) : State := match o with | .next t => t | .fault _ => State.reset | .refused _ => State.reset

/-! ## Ill-formed commands -/

/-- A message that meets every check of `Msg.shaped`. -/
def okMsg : Msg := { lane := .wr, src := 93, dst := 127, len := 1, tag := 255, wseq := 4095, op := 255,
                     addr := 2 ^ 40 - 1, rlen := 15, arg := 2 ^ 172 - 1, data := List.replicate 64 0 }
/-- A management frame whose SEQ does not fit. -/
def badReq : MgmtReq := { tmc := .a, port := .switchPort, seq := 2 ^ 32 }

theorem test_wf_accepts_boundaries : ∀ i ∈ ([.messageInject 0 okMsg {}, .epochBoundary (.chip 7) (List.replicate 72 0),
    .ppsEdge (.tmc .b) .a 100 [], .memoryUe 0 71 14 0x17FFC0 .scrub true false, .stepSubstep 0 15, .bar0Write 0 0x1FFFFFF true 0,
    .bar2Read 0 (2 ^ 30 - 1) 1, .unitInsert 2 111, .unitRemoved 7 0, .roleSwap req (2 ^ 32 - 1)] : List Instr),
    i.wf = true := by decide +kernel

theorem test_wf_refuses_each_message_field : ∀ m ∈ ([{ okMsg with data := [] }, { okMsg with src := 94 },
    { okMsg with len := 8, data := List.replicate 512 0 }, { okMsg with dst := 128 }, { okMsg with tag := 256 },
    { okMsg with wseq := 4096 }, { okMsg with op := 256 }, { okMsg with addr := 2 ^ 40 }, { okMsg with rlen := 16 },
    { okMsg with arg := 2 ^ 172 }, { okMsg with stamp := 2 ^ 20 }, { okMsg with status := 16 }] : List Msg),
    (Instr.messageInject 0 m {}).wf = false := by decide +kernel

/-- A part whose points of every island run from code `a` up by one a point, with code `z` at point 30 of island 3. -/
def part (a z : Nat) : ModuleNv :=
  { otp := { vf := { cells := ((List.range 4).flatMap (fun i => (List.range 30).map (fun j => (32 * i + j, a + j)))) ++ [(126, z)] } } }

theorem test_wf_of_the_voltage_points : (Instr.slotOccupied 0 (some (part 40 0))).wf = true ∧
    (Instr.slotOccupied 0 (some (part 131 0))).wf = true ∧ (Instr.slotOccupied 0 none).wf = true ∧
    (Instr.slotOccupied 0 (some (part 39 0))).wf = false ∧ (Instr.slotOccupied 0 (some (part 132 0))).wf = false ∧
    (Instr.slotOccupied 0 (some (part 40 1))).wf = false := by decide +kernel

theorem test_wf_refuses_clock_operands : ∀ i ∈ ([.epochBoundary (.chip 0) (List.replicate 73 0),
    .ppsEdge (.chip 0) .a 101 [], .ppsEdge (.chip 0) .a 0 (List.replicate 73 0), .ppsHoldEnd (.chip 0) (List.replicate 73 0),
    .referenceInvalid 0 .a 0 [1001], .generatorJitterFault 0 0 [1001] [], .gangSkewHalt 0 0 0 0 (List.replicate 73 0),
    .stepRailCheck 0 [0], .stepSubstep 0 0, .stepSubstep 0 16] : List Instr), i.wf = false := by decide +kernel

theorem test_wf_refuses_chip_operands : ∀ i ∈ ([.memoryUe 0 0 0 0x180000 .scrub true false, .memoryUe 0 0 0 1 .scrub true false,
    .xngCalibration 0 [0], .spineStartCheck 0 [true], .coolantStop 0 0 0 (List.replicate 73 0), .rspTimeout 0 0 256, .waiterTimeout 0 0 256, .stageStart 0 4096, .runaheadDeadline 0 262144,
    .powerEvaluation 0 { idle := { cells := [(4320, 1)] } }, .powerEvaluation 0 { aux := List.replicate 6 0 },
    .tempSample 0 [] 0 [], .tempSample 0 (List.replicate 72 0) 0 (List.replicate 73 0), .meterFramePass 0 false [] [0, 0, 0, 0] true, .meterFramePass 0 false [0, 0, 0, 0, 0] [] true] :
    List Instr), i.wf = false := by decide

theorem test_wf_refuses_host_operands : ∀ i ∈ ([.bar0Write 0 0x2000000 true 0, .bar0Write 0 0 true (2 ^ 64),
    .readWithClear 0 0x2000000 true, .mgmtI2cAccess 0 (2 ^ 24) none, .mgmtI2cAccess 0 0 (some (2 ^ 32)),
    .bar2Write 0 0 [] [], .bar2Write 0 0 (List.replicate 513 0) [], .bar2Write 0 (2 ^ 30) [0] [],
    .bar2Write 0 0 [0] [true, true], .bar2Read 0 0 0, .bar2Read 0 0 4097, .bar2Read 0 (2 ^ 30) 1, .commandFetch 0 0 [],
    .inboxWrite 0 [], .inboxResend 0 64, .inboxExpire 0 64] : List Instr), i.wf = false := by decide +kernel

theorem test_wf_refuses_management_frames : ∀ i ∈ ([.mgmtDoorbell .a (List.replicate 4097 0) [] [true], .trayStatus badReq,
    .faultLog badReq 0, .meterStatus badReq, .lampStatus badReq, .roleSwap badReq 0, .unitPrepare badReq 1 0,
    .unitResume badReq 1 0, .slotPower badReq 0 0, .slotReset badReq 0, .chipRestart badReq 0, .trayImageWrite badReq 0 [],
    .trayImageAdopt badReq 0 [true], .switchUpstream badReq 0, .timeLoad badReq 0, .locate badReq 0,
    .lampTest badReq (List.replicate 19 ⟨0, 0⟩), .lampLevel badReq 1, .caInstall badReq 0 [], .caRemove badReq 0] :
    List Instr), i.wf = false := by decide +kernel

theorem test_wf_refuses_management_operands : ∀ i ∈ ([.faultLog req (2 ^ 32), .roleSwap req (2 ^ 32),
    .unitPrepare req 256 0, .unitPrepare req 1 256, .unitResume req 256 0, .unitResume req 1 256, .slotPower req 256 0,
    .slotPower req 0 256, .slotReset req 256, .chipRestart req 256, .trayImageWrite req (2 ^ 32) [],
    .trayImageWrite req 0 (List.replicate 3969 0), .trayImageAdopt req (2 ^ 32) [true], .switchUpstream req 256,
    .timeLoad req (2 ^ 64), .locate req 256, .lampTest req [], .lampLevel req 256, .caInstall req 256 [],
    .caInstall req 0 (List.replicate 3001 0), .caRemove req 256] : List Instr), i.wf = false := by decide +kernel

theorem test_wf_refuses_unknown_units : ∀ u ∈ ([(0, 0), (1, 8), (2, 112), (3, 2), (4, 2), (5, 2), (6, 2), (7, 1), (8, 0)] :
    List (Nat × Nat)), (Instr.unitInsert u.1 u.2).wf = false ∧ (Instr.unitJoin u.1 u.2).wf = false ∧
    (Instr.unitRemoved u.1 u.2).wf = false := by decide

/-! ## Single steps -/

/-- Chip 0 after a command. -/
def chipAfter (i : Instr) (s : State) : Chip := (after (exec i s)).chip 0
/-- Logical tile 0 of region 0 after a command. -/
def tileAfter (i : Instr) (s : State) : Tile := (chipAfter i s).tile 0
/-- A VECTOR of VOP `code` with USE_IMM and this IMM, v1 to v0: lane 63 of v1 holds `a`. -/
def lanes (code imm_ : Nat) (a : Word) : State :=
  runs [2, 0, code + 2 ^ 13 + 2 ^ 28 + 2 ^ 32 * imm_] (fun x => { x with vreg := x.vreg.set 127 a })
/-- Lane 63 of v0 after the command. -/
def lane63 (i : Instr) (code imm_ : Nat) (a : Word) : Word := (tileAfter i (lanes code imm_ a)).lane 0 63

theorem test_step_takes_the_front_and_leaves_the_rest :
    (after (step { State.reset with pending := [.trayStart true, .lampPoll] })).pending = [.lampPoll] := by decide
theorem test_no_word_spells_a_command :
    decodeTableWord 64 0 = none ∧ State.withFetchWord State.reset 64 0 = State.reset := ⟨rfl, rfl⟩
/-- The code of R665's example. -/
theorem test_fault_code_of_svc_06 : codeOf .svc 6 = 1606 := by decide
/-- The worked example of chapter 02: address 0x0_1234_5A00 is on channel 15. -/
theorem test_channel_of_the_example_address : channelOf 0x12345A00 = 15 := by decide
/-- The example tray of chapter 01: eight modules at 0.9 L/min stop below 7.2 L/min (R41). -/
theorem test_stop_threshold_of_a_full_tray :
    ({ (List.range 8).foldl (fun t n => t.onSlot n (fun x => { x with seq := .on })) ({} : Tray) with
        role := some .a } : Tray).setThreshold.threshold = 7200 := by decide
theorem test_crc32_of_the_check_string : crc32 [49, 50, 51, 52, 53, 54, 55, 56, 57] = 0xCBF43926 := by decide +kernel
theorem test_crc16_of_the_check_string : crc16 [49, 50, 51, 52, 53, 54, 55, 56, 57] = 0x29B1 := by decide +kernel
theorem test_iadd_wraps : lane63 (.iadd 0 0 0) 0x10 1 0xFFFFFFFF = 0 := by decide
theorem test_isub_order : lane63 (.isub 0 0 0) 0x11 1 5 = 4 := by decide
theorem test_imin_is_signed : lane63 (.imin 0 0 0) 0x13 1 0xFFFFFFFF = 0xFFFFFFFF := by decide
theorem test_shl_by_the_width : lane63 (.shl 0 0 0) 0x18 31 3 = 0x80000000 := by decide
theorem test_sar_keeps_the_sign : lane63 (.sar 0 0 0) 0x1A 4 0x80000000 = 0xF8000000 := by decide
theorem test_icmplt_is_signed : lane63 (.icmplt 0 0 0) 0x1B 0 0xFFFFFFFF = 1 := by decide
theorem test_fadd_one_and_one : lane63 (.fadd 0 0 0) 0x20 0x3F800000 0x3F800000 = 0x40000000 := by decide +kernel
theorem test_fmul_two_and_three : lane63 (.fmul 0 0 0) 0x22 0x40400000 0x40000000 = 0x40C00000 := by decide +kernel
theorem test_lshift_takes_the_lane_below : lane63 (.lshift 0 0 0) 0x32 0 7 = 7 := by decide
theorem test_reserved_bit_ends_the_item :
    (tileAfter (.iadd 0 0 0) (runs [2, 0, 0x10 + 2 ^ 29] id)).errCode = 2 := by decide
theorem test_breaker_trip_unpowers_the_slot :
    (after (exec (.breakerTrip 0) (slot0 (fun x => { x with seq := .on })))).tray.faulty .try_ 4 0 = true := by decide
theorem test_doorbell_past_n_is_dropped :
    (chipAfter (.cmdTailWrite 0 0 4096) (linked (fun c => { c.onRing 0 (fun r => { r with enable := true }) with
      bru.ready := true }))).hif.dbDrop = 1 := by decide
theorem test_missing_pps_is_reported :
    (chipAfter (.ppsLost (.chip 0)) (live (fun c => { c with time.missing := 3 }))).hif.log.map (fun e => e.code) = [305] := by
  decide
theorem test_counter_add_from_a_foreign_region_is_denied :
    (chipAfter (.evtAdd 0) (live (fun c => c.onEp 89 (fun x => { x with popEvt :=
      [{ lane := .evt, src := 1, dst := 89, op := 1, arg := 1 }] })))).seq.denied = 1 := by decide
theorem test_inbox_keeps_a_contribution :
    (chipAfter (.inboxWrite 0 ([0, 0, 0, 0, 0, 0, 2, 3] ++ List.replicate 248 0)) (linked id)).hif.inbox.length = 1 := by
  decide +kernel
theorem test_first_grant_goes_to_a :
    (after (exec (.roleGrant .a) (tray (fun t => { t with standby := true, tmcA.ready := true, tmcB.ready := true })))).tray.role =
      some .a := by decide
theorem test_stale_role_swap_is_refused :
    ((after (exec (.roleSwap req 1) (active id))).tray.tmcA.response.drop 12).take 2 ≠ [0, 0] := by decide

/-! ## The hypotheses of every statement are met -/

/-- Every hypothesis set of `Obligations.SlotPowerEventsTakeEffect` is met. -/
theorem witness_slot_power_events_take_effect :
    (∃ (n : SlotId) (s : State), (s.tray.slot n).occupied = false) ∧
    (∃ (n : SlotId) (s : State) (early : Bool) (late : Bool),
      (early || late) = true ∧ (s.tray.slot n).occupied = true) ∧
    (∃ (n : SlotId) (s : State), (s.tray.slot n).counted = true) ∧
    (∃ (n : SlotId) (s : State),
      (s.tray.slot n).seq = .off ∧ (s.tray.slot n).pendReq = some true ∧ s.tray.mayPower n = true) ∧
    (∃ (n : SlotId) (s : State), (s.tray.slot n).seq = .poweringUp) ∧
    (∃ (n : SlotId) (s : State), (s.tray.slot n).seq = .poweringUp ∧ (s.tray.slot n).pendReq = some false) ∧
    (∃ (n : SlotId) (s : State), (s.tray.slot n).seq = .poweringUp ∧
      (s.tray.slot n).coreUp < (s.tray.slot n).railUp.coreUp) ∧
    (∃ (n : SlotId) (s : State), (s.tray.slot n).seq = .on ∧ (s.tray.slot n).pendReq = some false ∧
      s.tray.ring.sweeping = false) ∧
    (∃ (n : SlotId) (s : State), (s.tray.slot n).seq = .poweringDown) ∧
    (∃ (n : SlotId) (s : State), (s.tray.slot n).seq = .poweringDown ∧ (s.tray.slot n).auxEn = true ∧
      (s.tray.slot n).railDown.auxEn = false) ∧
    (∃ (n : SlotId) (s : State), (s.tray.slot n).seq = .inhibited) ∧
    (∃ (n : SlotId) (s : State) (mv : Nat), mv < 42000 ∧ (s.tray.slot n).counted = true) :=
    ⟨⟨0, State.reset, by decide⟩,
    ⟨0, slot0 (fun x => { x with occupied := true }), true, false, by decide⟩,
    ⟨0, slot0 (fun x => { x with seq := .poweringUp }), by decide⟩,
    ⟨0, tray (fun t =>
      { (t.onSlot 0 (fun x => { x with occupied := true, pendReq := some true })) with haveImage := true, busMv := 44000 }),
      by decide⟩,
    ⟨0, slot0 (fun x => { x with seq := .poweringUp }), by decide⟩,
    ⟨0, slot0 (fun x => { x with seq := .poweringUp, pendReq := some false }), by decide⟩,
    ⟨0, slot0 (fun x =>
      { x with seq := .poweringUp, switch_ := true, vauxEn := true, auxEn := true, modUp := 5, auxPg := true, coreUp := 3 }),
      by decide⟩,
    ⟨0, slot0 (fun x => { x with seq := .on, pendReq := some false }), by decide⟩,
    ⟨0, slot0 (fun x => { x with seq := .poweringDown }), by decide⟩,
    ⟨0, slot0 (fun x => { x with seq := .poweringDown, auxEn := true }), by decide⟩,
    ⟨0, slot0 (fun x => { x with seq := .inhibited }), by decide⟩,
    ⟨0, slot0 (fun x => { x with seq := .on }), 41999, by decide⟩⟩

/-- Every hypothesis set of `Obligations.SlotInterfacesTakeEffect` is met. -/
theorem witness_slot_interfaces_take_effect :
    (∃ (n : SlotId) (s : State),
      (s.tray.slot n).bypass = true ∧ (s.tray.slot n).occupied = true ∧ (s.chip n).running = true ∧
      s.tray.ring.sweeping = false ∧ s.tray.role.isSome = true) ∧
    (∃ (n : SlotId) (s : State) (us : Nat),
      s.tray.inGap us = true ∧ (s.tray.slot n).seq = .on ∧ (s.tray.slot n).offHeld = true) ∧
    (∃ (n : SlotId) (s : State) (us : Nat),
      s.tray.inGap us = true ∧ (s.tray.slot n).seq = .on ∧ (s.tray.slot n).resetHeld = true) ∧
    (∃ (n : SlotId) (s : State) (ms : Nat), 25 < ms ∧ (s.tray.slot n).i2c = true) ∧
    (∃ (n : SlotId) (s : State) (q : Fin 14), s.tray.standby = true ∧ (s.tray.slot n).phases.getD q true = true) ∧
    (∃ (n : SlotId) (s : State) (frame : BitVec 16),
      ((List.range 16).filter (fun i => bit frame.toNat i)).length % 2 = 1 ∧ field frame.toNat 1 5 = 0 ∧
      40 ≤ field frame.toNat 6 8 ∧ field frame.toNat 6 8 ≤ 160 ∧ (s.tray.slot n).counted = true ∧
      (s.tray.slot n).overridden = false) :=
    ⟨⟨0, both (fun t => { (t.onSlot 0 (fun x => { x with occupied := true })) with role := some .a }) id, by decide⟩,
    ⟨0, tray (fun t =>
      { (t.onSlot 0 (fun x => { x with seq := .on, offHeld := true })) with role := some .b, ring.begun := true, tmcB.time.epoch := 25 }),
      25, by decide⟩,
    ⟨0, tray (fun t =>
      { (t.onSlot 0 (fun x => { x with seq := .on, resetHeld := true })) with role := some .a, ring.begun := true, tmcA.time.epoch := 80 }),
      80, by decide⟩,
    ⟨0, slot0 (fun x => { x with i2c := true }), 26, by decide⟩,
    ⟨0, tray (fun t => { t with standby := true }), 13, by decide⟩,
    ⟨0, slot0 (fun x => { x with seq := .on }), 0x0A01, by decide⟩⟩

/-- Every hypothesis set of `Obligations.CardEventsTakeEffect` is met. -/
theorem witness_card_events_take_effect :
    (∃ (c : Side) (s : State),
      (s.tray.trc c).present = true ∧ (s.tray.trc c).facility = true ∧ s.tray.standby = true) ∧
    (∃ (c : Side) (s : State) (ns : Nat) (warm : Nat),
      s.tray.standby = true ∧ 4 ≤ s.tray.start ∧ (s.tray.trc c).present = true ∧ (s.tray.trc c).enabled = false ∧
      (s.tray.trc c).prepared = false ∧ (s.tray.bestSource c = .own → 300 ≤ warm) ∧
      (s.tray.bestSource c ≠ .own → ns ≤ 10) ∧
      (∃ n : SlotId, (s.chip n).running = true ∧ (s.tray.slot n).fanout = true)) ∧
    (∃ (s : State), s.tray.role.isSome = true ∧ s.tray.trcDrives .a = true ∧ s.tray.trcDrives .b = true) ∧
    (∃ (c : Side) (s : State),
      s.tray.standby = true ∧ (s.tray.trc c).present = true ∧ (s.tray.trc c).source ≠ .facility) ∧
    (∃ (c : Side) (s : State),
      (s.tray.trc c).present = true ∧ (s.tray.trc c).source = .partner ∧ s.tray.trcDrives c.other = false) ∧
    (∃ (c : Side) (s : State),
      (s.tray.nvm c).present = false ∧ s.tray.role.isSome = true ∧ s.tray.haveImage = true) :=
    ⟨⟨.b, tray (fun t => { t with standby := true }), by decide⟩,
    ⟨.a, both (fun t =>
      { (t.onSlot 0 (fun x => { x with fanout := true })) with standby := true, start := 4, trcA.facility := false, trcB.facility := false })
      id, 11, 300, by decide⟩,
    ⟨tray (fun t => { t with role := some .a, trcA.enabled := true, trcB.enabled := true }), by decide⟩,
    ⟨.a, tray (fun t => { t with standby := true, trcA.source := .own }), by decide⟩,
    ⟨.b, tray (fun t => { t with trcB.source := .partner }), by decide⟩,
    ⟨.a, tray (fun t => { t with role := some .a, haveImage := true, nvmA.present := false }),
      by decide⟩⟩

/-- Every hypothesis set of `Obligations.FlowGuardTakesEffect` is met. -/
theorem witness_flow_guard_takes_effect :
    (∃ (s : State) (fa : Nat) (fb : Nat),
      s.tray.standby = true ∧ s.tray.stop = false ∧ s.tray.flowA.counts = true ∧ s.tray.flowB.counts = true ∧
      fa < s.tray.threshold ∧ fb < s.tray.threshold) ∧
    (∃ (s : State) (flow : Nat), s.tray.stop = true ∧ s.tray.role.isSome = true ∧ s.tray.threshold ≤ flow) ∧
    (∃ (s : State) (n : SlotId) (flow : Nat),
      s.tray.role.isSome = true ∧ 7 ≤ s.tray.start ∧ (s.tray.slot n).wantOn = true ∧ (s.tray.slot n).occupied = true ∧
      s.tray.slotEnabled n = true ∧ (s.tray.slot n).seq = .off ∧ (s.tray.slot n).pendReq ≠ some true ∧
      s.tray.image.perModule * (s.tray.countedSlots + 1) ≤ flow) ∧
    (∃ (s : State), s.tray.role.isSome = true ∧ s.tray.flowA.counts = true ∧ s.tray.flowB.counts = true) ∧
    (∃ (s : State), s.tray.role.isSome = true) ∧
    (∃ (s : State), s.tray.lampBoard = true) :=
    ⟨⟨tray (fun t => { t with standby := true, threshold := 900 }), 899, 0, by decide⟩,
    ⟨tray (fun t => { t with stop := true, role := some .a, threshold := 900 }), 900, by decide⟩,
    ⟨tray (fun t =>
      { (t.onSlot 7 (fun x => { x with wantOn := true, occupied := true })) with role := some .a, start := 7, haveImage := true }),
      7, 900, by decide⟩,
    ⟨tray (fun t => { t with role := some .a }), by decide⟩,
    ⟨tray (fun t => { t with role := some .b }), by decide⟩,
    ⟨State.reset, by decide⟩⟩

/-- Every hypothesis set of `Obligations.TrayStartAndSwitchTakeEffect` is met. -/
theorem witness_tray_start_and_switch_take_effect :
    (∃ (s : State) (ms : Nat), 100 ≤ ms ∧ s.tray.modeInForce = false ∧ s.tray.activeUp = 0 ∧ 5 ≤ s.tray.start) ∧
    (∃ (s : State) (k : ChipId) (d : ChipId) (tag : Nat) (bytes : List Byte) (rest : List (Nat × Nat × List Byte)),
      (s.chip k).hif.p2pOut = (d.val, tag, bytes) :: rest ∧ k ≠ d ∧ s.tray.modeInForce = false ∧
      (s.chip d).running = true ∧ (s.tray.slot d).perst = false) ∧
    (∃ (s : State), s.tray.start = 0) ∧
    (∃ (s : State), s.tray.start = 1 ∧ s.tray.standby = true) ∧
    (∃ (s : State), s.tray.start = 2 ∧ s.tray.role.isSome = true) ∧
    (∃ (s : State), s.tray.start = 3 ∧ s.tray.haveImage = true) ∧
    (∃ (s : State), s.tray.start = 4 ∧ (s.tray.trcDrives .a || s.tray.trcDrives .b) = true) ∧
    (∃ (s : State), s.tray.start = 5) ∧
    (∃ (s : State), s.tray.start = 6 ∧ (∀ n : SlotId, (s.tray.slot n).startedUp = true)) :=
    ⟨⟨tray (fun t => { t with start := 5 }), 100, by decide⟩,
    ⟨State.reset.onChip 1 (fun c => { c with hif.p2pOut := [(0, 0x800, [1])] }) |>.onChip 0 (fun c =>
      { c with powered := true, held := false }) |>.onTray (fun t => t.onSlot 0 (fun x => { x with perst := false })),
      1, 0, 0x800, [1], [], by decide⟩,
    ⟨State.reset, by decide⟩,
    ⟨tray (fun t => { t with start := 1, standby := true }), by decide⟩,
    ⟨tray (fun t => { t with start := 2, role := some .b }), by decide⟩,
    ⟨tray (fun t => { t with start := 3, haveImage := true }), by decide⟩,
    ⟨tray (fun t => { t with start := 4, trcB.enabled := true }), by decide⟩,
    ⟨tray (fun t => { t with start := 5 }), by decide⟩,
    ⟨tray (fun t => { t with start := 6 }), by decide⟩⟩

/-- Every hypothesis set of `Obligations.ResetsTakeEffect` is met. -/
theorem witness_resets_take_effect :
    (∃ (k : ChipId) (s : State), (s.chip k).powered = true) ∧
    (∃ (k : ChipId) (s : State), (s.chip k).powered = true) ∧
    (∃ (k : ChipId) (s : State), (s.chip k).powered = true ∧ (s.chip k).held = true ∧ (s.tray.slot k).seq = .on) ∧
    (∃ (k : ChipId) (s : State),
      (s.chip k).powered = true ∧ (s.tray.slot k).modRst = false ∧ (s.tray.slot k).seq = .on) ∧
    (∃ (k : ChipId) (s : State),
      (s.chip k).running = true ∧ (s.chip k).bru.stuck = false) ∧
    (∃ (k : ChipId) (s : State),
      (s.chip k).running = true ∧ (s.chip k).bru.stuck = false ∧ (∀ h, ((s.chip k).chan h).store = [])) :=
    ⟨⟨0, live id, by decide⟩,
    ⟨0, live id, by decide⟩,
    ⟨0, (live (fun c => c) |>.onChip 0 (fun c => { c with held := true })).onTray (fun t => t.onSlot 0 (fun x =>
      { x with seq := .on })), by decide⟩,
    ⟨0, both (fun t => t.onSlot 0 (fun x => { x with seq := .on, modRst := false })) id, by decide⟩,
    ⟨0, live (fun c => c.onChan 15 (fun x => { x with store := [{ id := 0, req := 0, src := 88, tag := 0, write := true, addr := 0, lines := 1 }] })),
      by decide⟩,
    ⟨0, live id, ⟨by decide, by decide, fun _ => rfl⟩⟩⟩

/-- Every hypothesis set of `Obligations.StartPhasesAdvance` is met. -/
theorem witness_start_phases_advance :
    (∃ (k : ChipId) (s : State), (s.chip k).running = true ∧ (s.chip k).bru.phase = .otp) ∧
    (∃ (k : ChipId) (s : State),
      (s.chip k).running = true ∧ (s.chip k).bru.phase = .spine ∧ (s.chip k).xng.up = true ∧
      (s.chip k).xng.ended = true) ∧
    (∃ (k : ChipId) (s : State),
      (s.chip k).running = true ∧ (s.chip k).bru.phase = .image ∧ (s.chip k).slotOrder = []) ∧
    (∃ (k : ChipId) (s : State),
      (s.chip k).running = true ∧ (s.chip k).bru.phase = .ref ∧ (s.chip k).clk.refLocked = true ∧
      (s.chip k).clk.lockAged = true ∧ (s.chip k).time.pos = 0) ∧
    (∃ (k : ChipId) (s : State),
      (s.chip k).running = true ∧ (s.chip k).bru.phase = .clocks ∧ (s.chip k).allLocked = true) ∧
    (∃ (k : ChipId) (s : State), (s.chip k).running = true ∧ (s.chip k).bru.phase = .memory) ∧
    (∃ (k : ChipId) (s : State),
      (s.chip k).running = true ∧ (s.chip k).bru.phase = .selftest ∧ (s.chip k).bru.selftested = true) ∧
    (∃ (k : ChipId) (s : State) (h : ChanId),
      (s.chip k).running = true ∧ (s.chip k).bru.phase = .memory ∧ ((s.chip k).chan h).trained = false ∧
      ((s.chip k).chan h).trainFails = 2) ∧
    (∃ (k : ChipId) (s : State),
      (s.chip k).running = true ∧ (s.chip k).bru.phase = .selftest ∧ (s.chip k).bru.selftested = false) ∧
    (∃ (k : ChipId) (s : State) (r : RegionId), (s.chip k).running = true ∧ (s.chip k).mayBeReady = true ∧
      ((s.chip k).region r).status = .out ∧ ((s.chip k).region r).cfg.partition < 16 ∧ (s.chip k).tilesWork r = true ∧
      ((s.chip k).region r).retireLater = false ∧ (∀ d ∈ (s.chip k).dissolves, r.val ∉ d.members)) ∧
    (∃ (k : ChipId) (s : State),
      (s.chip k).running = true ∧ (s.chip k).bru.ready = false ∧ (s.chip k).bru.late = false ∧
      2000000 ≤ (s.chip k).bru.epochs) :=
    ⟨⟨0, live (fun c => { c with bru.phase := .otp }), by decide⟩,
    ⟨0, live (fun c => { c with bru.phase := .spine, xng.up := true, xng.ended := true }), by decide⟩,
    ⟨0, live (fun c => { c with bru.phase := .image, bru.rejA := true, bru.rejB := true }), by decide⟩,
    ⟨0, live (fun c => { c with bru.phase := .ref, clk.refLocked := true, clk.lockAged := true }), by decide⟩,
    ⟨0, live (fun c => { c with bru.phase := .clocks, gens := allGens .locked }), by decide⟩,
    ⟨0, live (fun c => { c with bru.phase := .memory }), by decide⟩,
    ⟨0, live (fun c => { c with bru.phase := .selftest, bru.selftested := true }), by decide⟩,
    ⟨0, live (fun c => { (c.onChan 15 (fun x => { x with trainFails := 2 })) with bru.phase := .memory }), 15,
      by decide⟩,
    ⟨0, live (fun c => { c with bru.phase := .selftest }), by decide⟩,
    ⟨0, live (fun c =>
      { (c.onRegion 71 (fun x => { x with cfg.partition := 15 })) with bru.phase := .config, bru.configured := true, bru.memInit := true, bru.selftested := true, clk.refLocked := true, xng.up := true, xng.ended := true, stew.evaluating := true, gens := allGens .locked }),
      71, by decide⟩,
    ⟨0, live (fun c => { c with bru.epochs := 2000000 }), by decide⟩⟩

/-- Every hypothesis set of `Obligations.EpochCounterTakesEffect` is met. -/
theorem witness_epoch_counter_takes_effect :
    (∃ (x : Side) (s : State),
      let m := s.tray.tmc x
      s.tray.tmcRuns x = true ∧ m.time.loadDue = none ∧ m.time.hold = 0) ∧
    (∃ (x : Side) (s : State),
      let m := s.tray.tmc x
      s.tray.tmcRuns x = true ∧ m.time.loadDue = none ∧ 0 < m.time.hold) ∧
    (∃ (x : Side) (s : State) (line : Side) (pos : Nat),
      let m := s.tray.tmc x
      s.tray.tmcRuns x = true ∧ s.tray.timeSource = some line ∧ m.time.hold = 0 ∧ m.time.pos ≤ pos ∧ pos < m.time.len ∧
      m.time.aligned = false ∧ m.time.arm = false) ∧
    (∃ (x : Side) (s : State),
      let m := s.tray.tmc x
      s.tray.tmcRuns x = true ∧ 3 ≤ m.time.missing ∧ m.time.lost = false) ∧
    (∃ (k : ChipId) (s : State),
      (s.chip k).running = true ∧ (s.chip k).time.hold = 0 ∧ (s.chip k).time.loadDue = none) ∧
    (∃ (k : ChipId) (s : State),
      (s.chip k).running = true ∧ 0 < (s.chip k).time.hold ∧ (s.chip k).time.loadDue = none) ∧
    (∃ (k : ChipId) (s : State) (line : Side) (pos : Nat),
      (s.chip k).running = true ∧ (s.chip k).clk.selects line = true ∧ ((s.chip k).clk.refOf line).live = true ∧
      (s.chip k).clk.holdover = false ∧ (s.chip k).time.hold = 0 ∧ (s.chip k).time.pos ≤ pos ∧ pos < (s.chip k).time.len ∧
      (s.chip k).time.aligned = false ∧ (s.chip k).time.arm = false) ∧
    (∃ (k : ChipId) (s : State) (line : Side) (pos : Nat),
      let here := { (s.chip k).time with tick := (s.chip k).time.tick + (pos - (s.chip k).time.pos), pos := pos }
      (s.chip k).running = true ∧ (s.chip k).clk.selects line = true ∧ ((s.chip k).clk.refOf line).live = true ∧
      (s.chip k).clk.holdover = false ∧ (s.chip k).time.hold = 0 ∧ (s.chip k).time.pos ≤ pos ∧ pos < (s.chip k).time.len ∧
      (s.chip k).time.aligned = true ∧ (s.chip k).time.arm = false ∧ here.offsetNow.1.natAbs ≤ 100) ∧
    (∃ (k : ChipId) (s : State),
      (s.chip k).running = true ∧ 3 ≤ (s.chip k).time.missing ∧ (s.chip k).time.lost = false) ∧
    (∃ (k : ChipId) (s : State) (v : Word), (s.chip k).running = true ∧ v.toNat % 2 = 1) ∧
    (∃ (k : ChipId) (s : State), (s.chip k).running = true ∧ (s.chip k).tickDue = true) :=
    ⟨⟨.b, active (fun t => { t with tmcB.present := true }), by decide⟩,
    ⟨.a, active (fun t => { t with tmcA.time.hold := 1 }), by decide⟩,
    ⟨.a, active (fun t => { t with trcB := { t.trcB with present := true, enabled := true } }), .b, 99, by decide⟩,
    ⟨.a, active (fun t => { t with tmcA.time.missing := 3 }), by decide⟩,
    ⟨0, live id, by decide⟩,
    ⟨0, live (fun c => { c with time.hold := 1 }), by decide⟩,
    ⟨0, live (fun c => { c with clk.refSel := 1 }), .b, 99, by decide⟩,
    ⟨0, live (fun c => { c with clk.refSel := 1, time.aligned := true, time.tick := 1 }), .b, 99, by decide⟩,
    ⟨0, live (fun c => { c with time.missing := 3 }), by decide⟩,
    ⟨0, live id, 1, by decide⟩,
    ⟨0, live (fun c => { c with tickDue := true }), by decide⟩⟩

/-- Every hypothesis set of `Obligations.ReferenceEventsTakeEffect` is met. -/
theorem witness_reference_events_take_effect :
    (∃ (k : ChipId) (s : State),
      (s.chip k).running = true ∧ (s.chip k).clk.refSel < 2 ∧ (s.chip k).clk.freqHold = false ∧
      (s.chip k).clk.relock = false ∧ (s.chip k).clk.holdover = false ∧ (s.chip k).clk.leaving = false ∧
      (s.chip k).clk.qualified (1 - (s.chip k).clk.refSel) = true) ∧
    (∃ (k : ChipId) (s : State) (ns : Nat), (s.chip k).running = true ∧ 40 ≤ ns) ∧
    (∃ (k : ChipId) (s : State) (duty : List Nat), (s.chip k).running = true ∧ dutyFails duty = true) ∧
    (∃ (k : ChipId) (s : State) (ppm : Int), (s.chip k).running = true ∧ 100 < ppm.natAbs) ∧
    (∃ (k : ChipId) (s : State) (ppm : Int), (s.chip k).running = true ∧ ppm.natAbs ≤ 100) ∧
    (∃ (k : ChipId) (s : State) (line : Side),
      (s.chip k).running = true ∧ ((s.chip k).clk.refOf line).live = true ∧ ((s.chip k).clk.refOf line).ok = false ∧
      10000 ≤ ((s.chip k).clk.refOf line).clean ∧
      1 ≤ ((s.chip k).clk.refOf line).windows ∧ ((s.chip k).clk.refOf line).badWindow = false) ∧
    (∃ (k : ChipId) (s : State),
      (s.chip k).running = true ∧ (s.chip k).clk.freqHold = true ∧ 100 ≤ (s.chip k).clk.holdEpochs ∧
      (s.chip k).time.pos = 0) ∧
    (∃ (k : ChipId) (s : State),
      (s.chip k).running = true ∧ (s.chip k).clk.relock = true ∧ (s.chip k).clk.freqHold = false) ∧
    (∃ (k : ChipId) (s : State),
      (s.chip k).running = true ∧ (s.chip k).clk.holdover = true ∧ (s.chip k).clk.refLocked = true ∧
      (s.chip k).clk.leaving = true ∧ (s.chip k).clk.lockAged = true ∧ (s.chip k).time.pos = 0) ∧
    (∃ (k : ChipId) (s : State),
      (s.chip k).running = true ∧ (s.chip k).clk.holdover = true ∧ (s.chip k).clk.holdLong = false ∧
      1000000000000 < (s.chip k).time.tick - (s.chip k).clk.holdTick) ∧
    (∃ (k : ChipId) (s : State),
      (s.chip k).running = true ∧ (s.chip k).seeking = true ∧ 2000000 ≤ (s.chip k).clk.noRefEpochs) :=
    ⟨⟨0, live (fun c => { c with clk.refSel := 1, clk.refA.ok := true }), by decide⟩,
    ⟨0, live id, 40, by decide⟩,
    ⟨0, live id, List.replicate 64 449, by decide⟩,
    ⟨0, live id, -101, by decide⟩,
    ⟨0, live id, -100, by decide⟩,
    ⟨0, live (fun c => { c with clk.refB.clean := 10000, clk.refB.windows := 1 }), .b, by decide⟩,
    ⟨0, live (fun c => { c with clk.freqHold := true, clk.holdEpochs := 100 }), by decide⟩,
    ⟨0, live (fun c => { c with clk.relock := true }), by decide⟩,
    ⟨0, live (fun c => { c with clk.holdover := true, clk.refLocked := true, clk.leaving := true, clk.lockAged := true }),
      by decide⟩,
    ⟨0, live (fun c => { c with clk.holdover := true, time.tick := 1000000000001 }), by decide⟩,
    ⟨0, live (fun c => { c with bru.phase := .ref, clk.noRefEpochs := 2000000 }), by decide⟩⟩

/-- Every hypothesis set of `Obligations.GeneratorEventsTakeEffect` is met. -/
theorem witness_generator_events_take_effect :
    (∃ (k : ChipId) (s : State), (s.chip k).running = true ∧ 10000 ≤ (s.chip k).clk.guardAge) ∧
    (∃ (k : ChipId) (r : RegionId) (s : State),
      (s.chip k).running = true ∧ (s.chip k).bru.phase = .clocks ∧ ((s.chip k).gen r).state = .off ∧
      (s.chip k).clk.refLocked = true ∧ ((s.chip k).clk.refA.ok || (s.chip k).clk.refB.ok) = true ∧
      (s.tray.slot k).vcorePg (r.val / 18) = true ∧ ((s.chip k).region r).cfg.retire = false) ∧
    (∃ (k : ChipId) (r : RegionId) (s : State),
      (s.chip k).running = true ∧ ((s.chip k).gen r).state = .cal ∧ ((s.chip k).gen r).calBit = 0 ∧
      ((s.chip k).gen r).calAbandoned = false) ∧
    (∃ (k : ChipId) (r : RegionId) (s : State),
      (s.chip k).running = true ∧ ((s.chip k).gen r).state = .locking ∧ 16 ≤ ((s.chip k).gen r).lockRun) ∧
    (∃ (k : ChipId) (r : RegionId) (s : State),
      (s.chip k).running = true ∧ ((s.chip k).gen r).state = .locked ∧ 16 ≤ ((s.chip k).gen r).lossRun) ∧
    (∃ (k : ChipId) (r x : RegionId) (s : State) (fs : Nat),
      (s.chip k).running = true ∧ 17 * 80000000 ≤ 16 * (s.chip k).clk.judgedM * fs ∧ ((s.chip k).gen r).state = .locked ∧
      x ≠ r ∧ ((s.chip k).gen x).state = .slaved ∧ ((s.chip k).region x).cfg.gangMaster = r.val ∧
      ((s.chip k).region r).cfg.gangMaster = r.val) ∧
    (∃ (k : ChipId) (r : RegionId) (s : State) (duty changes : List Nat), (s.chip k).running = true ∧
      (dutyFails duty || jitterFails changes) = true ∧ ((s.chip k).gen r).state = .locked) :=
    ⟨⟨0, live (fun c => { c with clk.guardAge := 10000 }), by decide⟩,
    ⟨0, 71, (live (fun c => { c with bru.phase := .clocks, clk.refLocked := true, clk.refB.ok := true })).onTray (fun t =>
      t.onSlot 0 (fun x => { x with vauxEn := true, coreUp := 4, coreUv := [0, 0, 0, 712500] })), by decide⟩,
    ⟨0, 71, live (fun c => c.onGen 71 (fun g => { g with state := .cal, calBit := 0 })), by decide⟩,
    ⟨0, 0, live (fun c => c.onGen 0 (fun g => { g with state := .locking, lockRun := 16 })), by decide⟩,
    ⟨0, 0, live (fun c => c.onGen 0 (fun g => { g with state := .locked, lossRun := 16 })), by decide⟩,
    ⟨0, 0, 1, live (fun c => ((c.onRegion 1 (fun x => { x with cfg.gangMaster := 0 })).onGen 0 (fun g =>
      { g with state := .locked })).onGen 1 (fun g => { g with state := .slaved })), 1328125, by decide⟩,
    ⟨0, 0, live (fun c => c.onGen 0 (fun g => { g with state := .locked })), [], List.replicate 8 17, by decide⟩⟩

/-- Every hypothesis set of `Obligations.FrequencyStepTakesEffect` is met. -/
theorem witness_frequency_step_takes_effect :
    (∃ (k : ChipId) (s : State),
      (s.chip k).running = true ∧ (s.chip k).clk.freq.phase = .waiting ∧
      (s.chip k).clk.freq.mOld < (s.chip k).clk.freq.mNew ∧ (s.chip k).clk.freq.at_ ≤ (s.chip k).time.epoch + 50) ∧
    (∃ (k : ChipId) (s : State),
      (s.chip k).running = true ∧ (s.chip k).clk.freq.phase = .raised ∧ (s.chip k).clk.freq.checked = false ∧
      (s.chip k).clk.freq.at_ ≤ (s.chip k).time.epoch + 1) ∧
    (∃ (k : ChipId) (s : State) (uv : List Nat), (s.chip k).running = true ∧
      (((after (exec (.stepRailCheck k uv) s)).tray.slot k).vcorePg 3 = false)) ∧
    (∃ (k : ChipId) (s : State) (uv : List Nat), (s.chip k).running = true ∧ (s.tray.slot k).vauxEn = true ∧
      (∀ i, i < 4 → ((after (exec (.stepRailCheck k uv) s)).tray.slot k).vcorePg i = true)) ∧
    (∃ (k : ChipId) (s : State),
      (s.chip k).running = true ∧ (s.chip k).clk.freq.phase = .raised ∧
      (s.chip k).clk.freq.at_ ≤ (s.chip k).time.epoch) ∧
    (∃ (k : ChipId) (s : State) (j : Nat),
      (s.chip k).running = true ∧ (s.chip k).clk.freq.phase = .slewing ∧ j = (s.chip k).clk.freq.sub + 1 ∧ j ≤ 15 ∧
      (s.chip k).clk.freq.start + subTick j < (s.chip k).time.epochTick + (s.chip k).time.len) ∧
    (∃ (k : ChipId) (s : State),
      (s.chip k).running = true ∧ (s.chip k).clk.freq.phase = .slewing ∧ (s.chip k).clk.freq.sub = 15 ∧
      2 ≤ (s.chip k).clk.freq.since) ∧
    (∃ (k : ChipId) (s : State),
      (s.chip k).running = true ∧ (s.chip k).clk.freq.phase = .lowering ∧ 52 ≤ (s.chip k).clk.freq.since) ∧
    (∃ (k : ChipId) (s : State),
      (s.chip k).running = true ∧ (s.chip k).clk.freq.phase = .settling ∧ 50 ≤ (s.chip k).clk.freq.since) :=
    ⟨⟨0, live (fun c => { c with clk.freq.phase := .waiting, clk.freq.mNew := 65, clk.freq.at_ := 50 }), by decide⟩,
    ⟨0, live (fun c => { c with clk.freq.phase := .raised, clk.freq.at_ := 1 }), by decide⟩,
    ⟨0, (live (fun c => { c with clk.freq.phase := .raised })).onTray (fun t => t.onSlot 0 (fun x =>
      { x with vauxEn := true })), [750000, 750000, 750000, 712499], by decide⟩,
    ⟨0, (live (fun c => { c with clk.freq.phase := .raised })).onTray (fun t => t.onSlot 0 (fun x =>
      { x with vauxEn := true })), [712500, 750000, 787500, 750000], by decide⟩,
    ⟨0, live (fun c => { c with clk.freq.phase := .raised }), by decide⟩,
    ⟨0, live (fun c => { c with clk.freq.phase := .slewing, clk.freq.sub := 14, time.tick := 100 }), 15,
      by decide⟩,
    ⟨0, live (fun c => { c with clk.freq.phase := .slewing, clk.freq.sub := 15, clk.freq.since := 2 }), by decide⟩,
    ⟨0, live (fun c => { c with clk.freq.phase := .lowering, clk.freq.since := 52 }), by decide⟩,
    ⟨0, live (fun c => { c with clk.freq.phase := .settling, clk.freq.since := 50 }), by decide⟩⟩

/-- Chip 0 runs with region 1 slaved to region 0, after `f`. -/
def ganged (f : Chip → Chip) : State :=
  live (fun c => f (((c.onRegion 1 (fun x => { x with cfg.gangMaster := 0 })).onGen 0 (fun g =>
    { g with state := .locked })).onGen 1 (fun g => { g with state := .slaved })))

/-- Every hypothesis set of `Obligations.GangEventsTakeEffect` is met. -/
theorem witness_gang_events_take_effect :
    (∃ (k : ChipId) (r : RegionId) (s : State) (ps cycles : Nat),
      (s.chip k).running = true ∧ 20 < ps ∧ 256 ≤ cycles ∧ ((s.chip k).gen r).state = .slaved ∧
      (s.chip k).clockRuns r = true ∧ ((s.chip k).gen r).skewFault = false ∧ ((s.chip k).gen r).deskewed = true ∧
      (s.chip k).dissolveOf ((s.chip k).region r).cfg.gangMaster = none ∧ (s.chip k).seq.items.cells = []) ∧
    (∃ (k : ChipId) (r : RegionId) (s : State) (ps cycles : Nat),
      (s.chip k).running = true ∧ 20 < ps ∧ 256 ≤ cycles ∧ ((s.chip k).gen r).state = .slaved ∧
      (s.chip k).clockRuns r = true ∧ ((s.chip k).gen r).skewFault = false ∧ 2000 ≤ ((s.chip k).gen r).slavedCycles ∧
      (s.chip k).dissolveOf ((s.chip k).region r).cfg.gangMaster ≠ none) ∧
    (∃ (k : ChipId) (r : RegionId) (s : State) (ps : Nat),
      (s.chip k).running = true ∧ 50 < ps ∧ ((s.chip k).gen r).state = .slaved ∧ (s.chip k).clockRuns r = true) ∧
    (∃ (k : ChipId) (r : RegionId) (s : State) (ps steps : Int),
      (s.chip k).running = true ∧ (ps - 2 * steps).natAbs ≤ 20 ∧ ((s.chip k).gen r).state = .slaved ∧
      (s.chip k).clockRuns r = true) ∧
    (∃ (k : ChipId) (r : RegionId) (s : State) (d : Dissolve),
      (s.chip k).running = true ∧ (s.chip k).dissolveOf r = some d ∧ d.timedOut = false ∧ 50000 ≤ d.epochs) ∧
    (∃ (k : ChipId) (r : RegionId) (s : State) (d : Dissolve),
      (s.chip k).running = true ∧ (s.chip k).dissolveOf r = some d ∧ (∀ x ∈ d.members, (s.chip k).drained x = true)) ∧
    (∃ (k : ChipId) (r : RegionId) (s : State) (q : PosId),
      (s.chip k).running = true ∧ bit ((s.chip k).region r).posFail q = false) :=
    ⟨⟨0, 1, ganged (fun c => c.onGen 1 (fun g => { g with deskewed := true })), 21, 256, by decide⟩,
    ⟨0, 1, ganged (fun c =>
      { (c.onGen 1 (fun g => { g with slavedCycles := 2000 })) with dissolves := [{ master := 0, members := [0, 1] }] }),
      21, 256, by decide⟩,
    ⟨0, 1, ganged id, 51, by decide⟩,
    ⟨0, 1, ganged id, -30, -5, by decide⟩,
    ⟨0, 0, live (fun c => { c with dissolves := [{ master := 0, members := [0, 1], epochs := 50000 }] }),
      { master := 0, members := [0, 1], epochs := 50000 }, by decide⟩,
    ⟨0, 0, live (fun c => { c with dissolves := [{ master := 0, members := [0, 1] }] }),
      { master := 0, members := [0, 1] }, by decide⟩,
    ⟨0, 0, live id, 15, by decide⟩⟩

/-- Every hypothesis set of `Obligations.CalibrationAndIsolationTakeEffect` is met. -/
theorem witness_calibration_and_isolation_take_effect :
    (∃ (k : ChipId) (s : State) (r : RegionId) (d : Nat),
      (s.chip k).running = true ∧ (s.chip k).xng.up = true ∧ (s.chip k).xng.ended = false ∧
      (s.chip k).xng.probing = false ∧ hasLink r d = true) ∧
    (∃ (k : ChipId) (s : State),
      (s.chip k).running = true ∧ (s.chip k).xng.probing = true ∧ (s.chip k).xng.epochs ≤ 100) ∧
    (∃ (k : ChipId) (s : State),
      (s.chip k).running = true ∧ (s.chip k).xng.probing = true ∧ 100 ≤ (s.chip k).xng.epochs) ∧
    (∃ (k : ChipId) (s : State) (r : RegionId) (lane : Lane) (src : EpId) (seen : Nat) (now : Moment) (f : Flit) (i : Nat),
      let q := ejQ r lane
      let c := ((s.chip k).at_ now r).seeAt q seen
      (s.chip k).running = true ∧ (s.chip k).clockRuns r = true ∧ (c.queue q).openFor false = true ∧
      firstFixed (c.queue q).seen src = some (f, i) ∧ c.reqHeld q i = false ∧
      (c.lat src r : Int) ≤ fixedDelta (c.tv r) f.msg.stamp) ∧
    (∃ (k : ChipId) (r : RegionId) (s : State),
      (s.chip k).running = true ∧ 100 ≤ ((s.chip k).region r).wdogAge ∧ ((s.chip k).region r).isoSinkOn = false) ∧
    (∃ (k : ChipId) (r : RegionId) (s : State) (x : Candidate),
      (s.chip k).running = true ∧ (s.chip k).chosen r 4 = some x ∧ (s.chip k).sinks r = true ∧
      ((s.chip k).link r 4).drop.getD x.flit.msg.lane.ix false = false) ∧
    (∃ (k : ChipId) (r : RegionId) (s : State),
      (s.chip k).running = true ∧ ((s.chip k).region r).isoSinkOn = true ∧ ((s.chip k).region r).status = .isolated ∧
      (s.chip k).lockedFor r = true ∧ (queuesOf r).all (fun q => ((s.chip k).queue q).isOpen) = true) :=
    ⟨⟨0, live (fun c => { c with xng.up := true }), 71, 1, by decide⟩,
    ⟨0, live (fun c => { c with xng.probing := true, xng.epochs := 100 }), by decide⟩,
    ⟨0, live (fun c => { c with xng.probing := true, xng.epochs := 100 }), by decide⟩,
    ⟨0, live (fun c => (c.onGen 0 (fun g => { g with state := .locked })).onQueue (ejQ 0 .req) (fun _ =>
      { openQueue with items := [{ msg := { lane := .req, src := 1, dst := 0, mode := .fixed }, ix := 0 }] })), 0, .req, 1, 1,
      { trail := true }, { msg := { lane := .req, src := 1, dst := 0, mode := .fixed }, ix := 0 }, 0, by decide⟩,
    ⟨0, 0, live (fun c => c.onRegion 0 (fun x => { x with wdogAge := 100 })), by decide⟩,
    ⟨0, 0, live (fun c =>
      { (c.onRegion 0 (fun x => { x with isoSinkOn := true })) with flying := [{ flit := { msg := { lane := .wr, src := 1, dst := 0 }, ix := 0 }, at_ := 0, side := 0 }] }),
      { input := 0, flit := { msg := { lane := .wr, src := 1, dst := 0 }, ix := 0 }, place := 0 }, by decide⟩,
    ⟨0, 0, live (fun c =>
      { ((c.onRegion 0 (fun x => { x with isoSinkOn := true, status := .isolated })).onGen 0 (fun g => { g with state := .locked })) with queues := openQueues 0 }),
      by decide⟩⟩

/-- Every hypothesis set of `Obligations.CrossingQueuesTakeEffect` is met. -/
theorem witness_crossing_queues_take_effect :
    (∃ (k : ChipId) (q : QueueId) (s : State) (seen : Nat) (now : Moment) (f : Flit) (rest : List Flit),
      let c := ((s.chip k).at_ now (domainOfEp (queueEp q))).onQueue q (fun x => x.seeFreed seen)
      (s.chip k).running = true ∧ isEject q = false ∧ (s.chip k).sideRuns q true = true ∧ (s.chip k).xng.up = true ∧
      ((s.chip k).queue q).waiting = f :: rest ∧ (c.queue q).room 8 = true) ∧
    (∃ (k : ChipId) (q : QueueId) (s : State) (seen : Nat) (now : Moment) (f : Flit) (rest : List Flit),
      let c := ((s.chip k).at_ now (domainOfEp (queueEp q))).onQueue q (fun x => x.seeFreed seen)
      (s.chip k).running = true ∧ isEject q = false ∧ (s.chip k).sideRuns q true = true ∧ (s.chip k).xng.up = true ∧
      ((s.chip k).queue q).waiting = f :: rest ∧ (c.queue q).room 8 = false) ∧
    (∃ (k : ChipId) (q : QueueId) (s : State) (seen : Nat) (now : Moment) (x : Candidate),
      let c := ((s.chip k).at_ now 72).onQueue q (fun x => x.seeFreed seen)
      let e := queueEp q
      (s.chip k).running = true ∧ isEject q = true ∧ 0 < queueDepth q ∧ c.chosen (routerOf e) (edgeSide e) = some x ∧
      x.flit.msg.dst = e ∧ x.flit.msg.lane = queueLane q ∧ (s.chip k).sinks e = false ∧
      ((s.chip k).link (routerOf e) (edgeSide e)).drop.getD x.flit.msg.lane.ix false = false) ∧
    (∃ (k : ChipId) (q : QueueId) (s : State) (seen : Nat) (now : Moment),
      let c := ((s.chip k).at_ now 72).seeAt q seen
      let e := queueEp q
      (s.chip k).running = true ∧ isEject q = false ∧ (c.queue q).seen ≠ [] ∧ (c.queue q).openFor false = true ∧
      c.bufferRoom (routerOf e) (inputSide e) (queueLane q) = true ∧ e < 91) ∧
    (∃ (k : ChipId) (q : QueueId) (s : State) (seen : Nat) (now : Moment),
      let c := ((s.chip k).at_ now 72).seeAt q seen
      let e := queueEp q
      (s.chip k).running = true ∧ isEject q = false ∧ (c.queue q).seen ≠ [] ∧ (c.queue q).openFor false = true ∧
      c.bufferRoom (routerOf e) (inputSide e) (queueLane q) = true ∧ c.northAdmits e (queueLane q) = true) ∧
    (∃ (k : ChipId) (q : QueueId) (s : State) (seen : Nat) (now : Moment) (i : Nat),
      let c := ((s.chip k).at_ now (domainOfEp (queueEp q))).seeAt q seen
      let e := queueEp q
      (s.chip k).running = true ∧ isEject q = true ∧ 0 < queueDepth q ∧ (s.chip k).sideRuns q false = true ∧
      c.poppable q = some i ∧ c.reqHeld q i = false ∧ isMemoryEp e = false) ∧
    (∃ (k : ChipId) (q : QueueId) (s : State) (seen : Nat) (now : Moment) (i : Nat),
      let c := ((s.chip k).at_ now (domainOfEp (queueEp q))).seeAt q seen
      let e := queueEp q
      (s.chip k).running = true ∧ isEject q = true ∧ 0 < queueDepth q ∧ (s.chip k).sideRuns q false = true ∧
      c.poppable q = some i ∧ c.reqHeld q i = false ∧ isMemoryEp e = true ∧
      ((s.chip k).chan (e - 72)).store.length < 128 ∧ queueLane q = .wr ∧ ((s.chip k).ep e).popWr = []) ∧
    (∃ (k : ChipId) (q : QueueId) (s : State) (writer : Bool),
      (s.chip k).running = true ∧ (s.chip k).sideRuns q writer = true ∧ 0 < queueDepth q) ∧
    (∃ (k : ChipId) (q : QueueId) (s : State) (writer : Bool),
      (s.chip k).running = true ∧ (s.chip k).sideRuns q writer = true ∧
      (((s.chip k).queue q).side (!writer)).rip = true ∧ ((s.chip k).queue q).seesRip writer = false) ∧
    (∃ (k : ChipId) (q : QueueId) (s : State) (writer : Bool),
      (s.chip k).running = true ∧ (s.chip k).sideRuns q writer = true ∧
      (((s.chip k).queue q).side (!writer)).rip = false ∧ ((s.chip k).queue q).seesRip writer = true) ∧
    (∃ (k : ChipId) (q : QueueId) (s : State) (writer : Bool),
      (s.chip k).running = true ∧ (s.chip k).sideRuns q writer = true ∧
      (((s.chip k).queue q).side (!writer)).ack = true ∧ ((s.chip k).queue q).seesAck writer = false) ∧
    (∃ (k : ChipId) (q : QueueId) (s : State),
      (s.chip k).running = true ∧ ((s.chip k).queue q).isOpen = false ∧ 1000 ≤ ((s.chip k).queue q).age) :=
    ⟨⟨0, 722, live (fun c => { (c.onQueue 722 (fun _ => { openQueue with waiting := [{ msg := { lane := .wr, src := 90, dst := 0, len := 4 }, ix := 0 }] })) with xng.up := true }),
      0, {}, { msg := { lane := .wr, src := 90, dst := 0, len := 4 }, ix := 0 }, [], by decide⟩,
    ⟨0, 722, live (fun c =>
      { (c.onQueue 722 (fun _ => { openQueue with items := List.replicate 7 { msg := { lane := .wr, src := 90, dst := 0, len := 4 }, ix := 0 }, freed := 2, waiting := [{ msg := { lane := .wr, src := 90, dst := 0, len := 4 }, ix := 0 }] })) with xng.up := true }),
      1, {}, { msg := { lane := .wr, src := 90, dst := 0, len := 4 }, ix := 0 }, [], by decide⟩,
    ⟨0, 3, live (fun c =>
      { (c.onQueue 3 (fun _ => openQueue)) with flying := [{ flit := { msg := { lane := .wr, src := 1, dst := 0 }, ix := 0 }, at_ := 0, side := 0 }] }),
      0, {}, { input := 0, flit := { msg := { lane := .wr, src := 1, dst := 0 }, ix := 0 }, place := 0 }, by decide⟩,
    ⟨0, 722, live (fun c => c.onQueue 722 (fun _ => { openQueue with items := [{ msg := { lane := .wr, src := 90, dst := 0, len := 4 }, ix := 0 }] })), 1, {}, by decide⟩,
    ⟨0, 730, live (fun c => c.onQueue 730 (fun _ =>
      { openQueue with items := [{ msg := { lane := .wr, src := 91, dst := 0 }, ix := 0 }], ripe := 1 })), 0, {}, by decide⟩,
    ⟨0, 3, live (fun c => (c.onGen 0 (fun g => { g with state := .locked })).onQueue 3 (fun _ =>
      { openQueue with items := [{ msg := { lane := .wr, src := 90, dst := 0 }, ix := 0 }] })), 1, {}, 0, by decide⟩,
    ⟨0, 579, live (fun c => c.onQueue 579 (fun _ =>
      { openQueue with items := [{ msg := { lane := .wr, src := 0, dst := 72 }, ix := 0 }] })), 1, {}, 0, by decide⟩,
    ⟨0, 722, live id, false, by decide⟩,
    ⟨0, 722, live (fun c => c.onQueue 722 (fun _ => { openQueue with wHs := { rip := true } })), false, by decide⟩,
    ⟨0, 722, live (fun c => c.onQueue 722 (fun _ => { openQueue with rSeesRip := true })), false, by decide⟩,
    ⟨0, 722, live (fun c => c.onQueue 722 (fun _ => { openQueue with rHs := { ack := true } })), true, by decide⟩,
    ⟨0, 722, live (fun c => c.onQueue 722 (fun x => { x with age := 1000 })), by decide⟩⟩

/-- Every link's probe is back. -/
theorem allLinksBack (r : RegionId) (d : Nat) (h : (hasLink r d || hasEdge r d) = true) :
    (List.replicate 288 true).getD (4 * r.val + d) false = true := by
  have hd : d < 4 := by
    rcases Nat.lt_or_ge d 4 with hd | hd
    · exact hd
    · rcases Bool.or_eq_true _ _ ▸ h with hl | he
      · match d, hd with
        | n + 4, _ => simp [hasLink] at hl
      · simp only [hasEdge, List.any_eq_true, Bool.and_eq_true, beq_iff_eq] at he
        obtain ⟨e, he, _, rfl⟩ := he
        exact (by decide : ∀ e ∈ (List.range 22).map (fun i => 72 + i), edgeSide e < 4) e he
  have hi : 4 * r.val + d < 288 := by omega
  rw [List.getD_eq_getElem _ _ (by rw [List.length_replicate]; exact hi), List.getElem_replicate]

/-- Every hypothesis set of `Obligations.SpineEventsTakeEffect` is met. -/
theorem witness_spine_events_take_effect :
    (∃ (k : ChipId) (s : State) (back : List Bool),
      (s.chip k).running = true ∧ (s.chip k).bru.phase = .spine ∧ (s.chip k).bru.checked = false ∧
      10 ≤ (s.chip k).xng.check ∧ (∀ (r : RegionId) d, (hasLink r d || hasEdge r d) = true → back.getD (4 * r.val + d) false = true)) ∧
    (∃ (k : ChipId) (s : State) (back : List Bool) (r : RegionId) (d : Nat),
      (s.chip k).running = true ∧ (s.chip k).bru.phase = .spine ∧ (s.chip k).bru.checked = false ∧
      10 ≤ (s.chip k).xng.check ∧ (hasLink r d || hasEdge r d) = true ∧ back.getD (4 * r.val + d) false = false) ∧
    (∃ (k : ChipId) (s : State) (m : Msg),
      let q := (s.chip k).queue (injQ m.src m.lane)
      (s.chip k).running = true ∧ (s.chip k).sideRuns (injQ m.src m.lane) true = true ∧ (s.chip k).xng.up = true ∧
      ((s.chip k).ep m.src).offers m.normal = true ∧ injectable m.normal = true ∧ m.lane = .wr ∧ q.waiting = [] ∧
      q.openFor true = true ∧ q.items.length + q.freed + m.flits ≤ 8) ∧
    (∃ (k : ChipId) (s : State) (m : Msg),
      let q := (s.chip k).queue (injQ m.src m.lane)
      (s.chip k).running = true ∧ (s.chip k).sideRuns (injQ m.src m.lane) true = true ∧ (s.chip k).xng.up = true ∧
      ((s.chip k).ep m.src).offers m.normal = true ∧ injectable m.normal = true ∧ m.lane = .req ∧ q.waiting = [] ∧
      q.openFor true = true ∧ q.items.length + q.freed + m.normal.flits ≤ 8 ∧
      (∀ n, reserveFlits m.normal = some n → ((s.chip k).ep m.src).reservedFlits + n ≤ ejectDepth m.src .rsp)) ∧
    (∃ (k : ChipId) (s : State) (m : Msg),
      (s.chip k).running = true ∧ (s.chip k).sideRuns (injQ m.src m.lane) true = true ∧ (s.chip k).xng.up = true ∧
      ((s.chip k).ep m.src).offers m.normal = true ∧ injectable m.normal = false ∧ m.lane = .req) ∧
    (∃ (k : ChipId) (s : State) (m : Msg),
      (s.chip k).running = true ∧ (s.chip k).sideRuns (injQ m.src m.lane) true = true ∧ (s.chip k).xng.up = true ∧
      ((s.chip k).ep m.src).offers m.normal = true ∧ injectable m.normal = true ∧ m.lane = .req ∧
      ((s.chip k).queue (injQ m.src m.lane)).waiting = [] ∧
      ejectDepth m.src .rsp < ((s.chip k).ep m.src).reservedFlits + (1 + 2 * m.rlen) ∧
      ((s.chip k).ep m.src).delayed.contains m.tag = false) ∧
    (∃ (k : ChipId) (s : State) (r : RegionId) (d : OutPort) (x : Candidate),
      (s.chip k).running = true ∧ (s.chip k).chosen r d.ix = some x ∧ d.ix < 4 ∧
      routeSide r (routerOf x.flit.msg.dst) ≠ 4 ∧ ((s.chip k).link r d.ix).drop.getD x.flit.msg.lane.ix false = false) ∧
    (∃ (k : ChipId) (s : State) (e : EpId) (m : Msg) (rest : List Msg),
      (s.chip k).running = true ∧ ((s.chip k).ep e).popRsp = m :: rest ∧ (s.chip k).epRuns e = true ∧
      (((s.chip k).ep e).outstanding.any (fun o => o.tag == m.tag && !o.void)) = false) ∧
    (∃ (k : ChipId) (s : State) (e : EpId) (m : Msg) (rest : List Msg),
      (s.chip k).running = true ∧ ((s.chip k).ep e).popRsp = m :: rest ∧ (s.chip k).epRuns e = true ∧
      (((s.chip k).ep e).outstanding.any (fun o => o.tag == m.tag && !o.void)) = true) ∧
    (∃ (k : ChipId) (s : State) (e : EpId) (tag : Nat) (o : OutReq),
      (s.chip k).running = true ∧
      ((s.chip k).ep e).outstanding.find? (fun o => o.tag == tag && !o.wait_ && decide (1000 ≤ o.age)) = some o) ∧
    (∃ (k : ChipId) (s : State) (e : EpId) (f : Flit) (rest : List Flit),
      (s.chip k).running = true ∧ ((s.chip k).queue (ejQ e .req)).items = f :: rest ∧ f.head = true ∧
      ((s.chip k).ep e).holds f.msg = true ∧ 500 ≤ ((s.chip k).ep e).held) ∧
    (∃ (k : ChipId) (s : State) (r : RegionId) (d : OutPort) (x : Candidate),
      (s.chip k).running = true ∧ (s.chip k).chosen r d.ix = some x ∧ x.flit.head = true ∧
      x.flit.msg.lane.ix < ((s.chip k).link r d.ix).drop.length) ∧
    (∃ (k : ChipId) (s : State) (r : RegionId) (d : OutPort) (x : Candidate),
      (s.chip k).running = true ∧ (s.chip k).chosen r d.ix = some x ∧ x.flit.head = false ∧ d.ix < 4 ∧
      routeSide r (routerOf x.flit.msg.dst) ≠ 4 ∧ ((s.chip k).link r d.ix).drop.getD x.flit.msg.lane.ix false = false) ∧
    (∃ (k : ChipId) (s : State) (r : RegionId) (d : OutPort) (lane : Lane),
      (s.chip k).running = true ∧ 1000 ≤ ((s.chip k).link r d.ix).stall.getD lane.ix 0) ∧
    (∃ (k : ChipId) (s : State) (r : RegionId) (d : OutPort) (n : Nat), (s.chip k).running = true ∧
      ((s.chip k).link r d.ix).corrSec ≤ 100 ∧ 100 < ((s.chip k).link r d.ix).corrSec + n) :=
    ⟨⟨0, live (fun c => { c with bru.phase := .spine, xng.check := 10 }), List.replicate 288 true,
      ⟨by decide, by decide, by decide, by decide, fun r d h => allLinksBack r d h⟩⟩,
    ⟨0, live (fun c => { c with bru.phase := .spine, xng.check := 10 }), List.replicate 287 true ++ [false], 71, 3, by decide⟩,
    ⟨0, live (fun c => { (c.onQueue (injQ 90 .wr) (fun _ => { openQueue with items := List.replicate 3 { msg := { lane := .wr, src := 90, dst := 1 }, ix := 0 } })) with xng.up := true }),
      { lane := .wr, src := 90, dst := 0, len := 2 }, by decide⟩,
    ⟨0, live (fun c => { (c.onQueue (injQ 90 .req) (fun _ => { openQueue with items := List.replicate 7 { msg := { lane := .req, src := 90, dst := 1 }, ix := 0 } })) with xng.up := true }),
      { lane := .req, src := 90, dst := 72, op := 2, rlen := 4 },
      ⟨by decide, by decide, by decide, by decide, by decide, rfl, by decide, by decide, by decide,
        fun n h => by cases h; decide⟩⟩,
    ⟨0, live (fun c => { c with xng.up := true }), { lane := .req, src := 90, dst := 72, op := 2, rlen := 5 }, by decide⟩,
    ⟨0, live (fun c => { (c.onEp 90 (fun x => { x with outstanding := [{ tag := 1, dst := 72, flits := 288 }] })) with xng.up := true }),
      { lane := .req, src := 90, dst := 72, op := 2, rlen := 4 }, by decide⟩,
    ⟨0, live (fun c => { c with flying := [{ flit := { msg := { lane := .wr, src := 0, dst := 8 }, ix := 0 }, at_ := 0, side := 4 }] }), 0,
      .east, { input := 4, flit := { msg := { lane := .wr, src := 0, dst := 8 }, ix := 0 }, place := 0 }, by decide⟩,
    ⟨0, live (fun c => c.onEp 90 (fun x => { x with popRsp := [{ lane := .rsp, src := 0, dst := 90 }] })), 90,
      { lane := .rsp, src := 0, dst := 90 }, [], by decide⟩,
    ⟨0, live (fun c => c.onEp 90 (fun x =>
      { x with popRsp := [{ lane := .rsp, src := 0, dst := 90 }], outstanding := [{ tag := 0, dst := 0, flits := 1 }] })),
      90, { lane := .rsp, src := 0, dst := 90 }, [], by decide⟩,
    ⟨0, live (fun c => c.onEp 93 (fun x =>
      { x with outstanding := [{ tag := 1, dst := 0, flits := 1, age := 1000 }, { tag := 0, dst := 0, flits := 1, age := 1000 }] })), 93, 0,
      { tag := 0, dst := 0, flits := 1, age := 1000 }, by decide⟩,
    ⟨0, live (fun c => (c.onQueue (ejQ 0 .req) (fun _ =>
      { openQueue with items := [{ msg := { lane := .req, src := 1, dst := 0, wseq := 1 }, ix := 0 }] })).onEp 0 (fun x =>
      { x with held := 500 })), 0, { msg := { lane := .req, src := 1, dst := 0, wseq := 1 }, ix := 0 }, [], by decide⟩,
    ⟨0, live (fun c => { c with flying := [{ flit := { msg := { lane := .wr, src := 0, dst := 8 }, ix := 0 }, at_ := 0, side := 4 }] }), 0,
      .east, { input := 4, flit := { msg := { lane := .wr, src := 0, dst := 8 }, ix := 0 }, place := 0 }, by decide⟩,
    ⟨0, live (fun c => { (c.onLink 0 0 (fun x => { x with busy := [0, 5, 0, 0] })) with flying := [{ flit := { msg := { lane := .wr, src := 0, dst := 8, len := 1 }, ix := 1 }, at_ := 0, side := 4 }] }), 0,
      .east, { input := 4, flit := { msg := { lane := .wr, src := 0, dst := 8, len := 1 }, ix := 1 }, place := 0 }, by decide⟩,
    ⟨0, live (fun c => c.onLink 0 0 (fun x => { x with stall := [0, 0, 0, 1000] })), 0, .east, .req, by decide⟩,
    ⟨0, live (fun c => c.onLink 71 1 (fun x => { x with corrSec := 100 })), 71, .west, 1, by decide⟩⟩

/-- Every hypothesis set of `Obligations.CommitTakesEffect` is met. -/
theorem witness_commit_takes_effect :
    (∃ (k : ChipId) (s : State), (s.chip k).running = true ∧ (s.chip k).commitFault = none) ∧
    (∃ (k : ChipId) (s : State) (f : Tag) (n : Nat),
      (s.chip k).running = true ∧ (s.chip k).commitFault = some (f, n)) ∧
    (∃ (k : ChipId) (s : State), (s.chip k).running = true ∧ (s.chip k).img.rollActive = true ∧
      (s.chip k).img.rollRegion ≠ 255) ∧
    (∃ (k : ChipId) (s : State),
      (s.chip k).running = true ∧ (s.chip k).img.pending = true ∧ (s.chip k).img.snapE ≤ (s.chip k).time.epoch ∧
      (s.chip k).img.snapStaged = true) ∧
    (∃ (k : ChipId) (s : State),
      (s.chip k).running = true ∧ (s.chip k).img.pending = true ∧ (s.chip k).img.snapE ≤ (s.chip k).time.epoch ∧
      (s.chip k).img.rollActive = false) ∧
    (∃ (k : ChipId) (s : State),
      (s.chip k).running = true ∧ (s.chip k).img.pending = false ∧ (s.chip k).img.rollActive = false ∧
      (s.chip k).img.staged = false ∧ (s.chip k).img.staging = false ∧ (s.chip k).bru.ready = true) ∧
    (∃ (k : ChipId) (s : State), (s.chip k).running = true ∧ (s.chip k).img.staging = true) ∧
    (∃ (k : ChipId) (s : State),
      (s.chip k).running = true ∧ (s.chip k).img.staged = true ∧
      ((s.chip k).img.pending && (s.chip k).img.snapStaged) = false) :=
    ⟨⟨0, live (fun c => { c with bru.ready := true, img.commitEpoch := 1000 }), by decide⟩,
    ⟨0, live id, .img, 3, by decide⟩,
    ⟨0, live (fun c => { c with img.rollActive := true, img.rollRegion := 71 }), by decide⟩,
    ⟨0, live (fun c => { c with img.pending := true, img.snapStaged := true }), by decide⟩,
    ⟨0, live (fun c => { c with img.pending := true }), by decide⟩,
    ⟨0, live (fun c => { c with bru.ready := true }), by decide⟩,
    ⟨0, live (fun c => { c with img.staging := true }), by decide⟩,
    ⟨0, live (fun c => { c with img.staged := true, img.pending := true }), by decide⟩⟩

/-- Every hypothesis set of `Obligations.RollTakesEffect` is met. -/
theorem witness_roll_takes_effect :
    (∃ (k : ChipId) (s : State) (ph : RollPhase) (r : Nat),
      (s.chip k).running = true ∧ (s.chip k).img.rollActive = true ∧ (s.chip k).img.rollRegion = 255 ∧
      (s.chip k).img.rollWait = false ∧ (s.chip k).img.rollEnded = false ∧ (s.chip k).safetyHalt = false ∧ (s.chip k).nextStep = some (ph, r)) ∧
    (∃ (k : ChipId) (s : State) (r : RegionId),
      (s.chip k).running = true ∧ (s.chip k).img.rollActive = true ∧ (s.chip k).img.rollRegion = r.val ∧
      (s.chip k).img.rollApplied = false ∧ (s.chip k).drained r = true ∧
      ((s.chip k).stepMaster r ≠ ((s.chip k).region r).cfg.gangMaster → (s.chip k).clk.stepBusy = false) ∧
      (s.chip k).img.rollPhase ≠ .leaving) ∧
    (∃ (k : ChipId) (s : State) (r : RegionId),
      (s.chip k).running = true ∧ (s.chip k).img.rollActive = true ∧ (s.chip k).img.rollRegion = r.val ∧
      (s.chip k).img.rollApplied = false ∧ (s.chip k).drained r = true ∧
      ((s.chip k).stepMaster r ≠ ((s.chip k).region r).cfg.gangMaster → (s.chip k).clk.stepBusy = false) ∧
      (s.chip k).img.rollPhase = .leaving) ∧
    (∃ (k : ChipId) (s : State) (r : RegionId),
      (s.chip k).running = true ∧ (s.chip k).img.rollActive = true ∧ (s.chip k).img.rollRegion = r.val ∧
      (s.chip k).img.rollApplied = false ∧ (s.chip k).drained r = false ∧ (s.chip k).stepSingle r = false ∧
      (s.chip k).img.rollForced = false ∧ 50000 ≤ (s.chip k).img.rollEpochs) ∧
    (∃ (k : ChipId) (s : State) (r : RegionId),
      (s.chip k).running = true ∧ (s.chip k).img.rollActive = true ∧ (s.chip k).img.rollRegion = r.val ∧
      (s.chip k).img.rollApplied = false ∧ (s.chip k).drained r = false ∧ (s.chip k).stepSingle r = true ∧
      4000 ≤ (s.chip k).img.rollEpochs ∧ (s.chip k).img.rollTries < 7 ∧ (s.chip k).img.rollCancel = false) ∧
    (∃ (k : ChipId) (s : State) (r : RegionId),
      (s.chip k).running = true ∧ (s.chip k).img.rollActive = true ∧ (s.chip k).img.rollRegion = r.val ∧
      (s.chip k).img.rollApplied = false ∧ (s.chip k).drained r = false ∧ (s.chip k).stepSingle r = true ∧
      4000 ≤ (s.chip k).img.rollEpochs ∧ 7 ≤ (s.chip k).img.rollTries) ∧
    (∃ (k : ChipId) (s : State) (r : RegionId),
      (s.chip k).running = true ∧ (s.chip k).img.rollActive = true ∧ (s.chip k).img.rollRegion = r.val ∧
      (s.chip k).img.rollApplied = true ∧ (s.chip k).img.rollMoved = true ∧ ((s.chip k).gen r).state = .slaved ∧
      ((s.chip k).gen r).deskewed = true) ∧
    (∃ (k : ChipId) (s : State) (r : RegionId),
      (s.chip k).running = true ∧ (s.chip k).img.rollActive = true ∧ (s.chip k).img.rollRegion = r.val ∧
      (s.chip k).img.rollApplied = true ∧ (s.chip k).img.rollMoved = false ∧ ((s.chip k).region r).cfg.retire = false ∧
      ((s.chip k).region r).cfg.partition ≤ 15 ∧ (s.chip k).img.rollParted = false ∧ (s.chip k).img.rollCopyUe = false ∧
      ((s.chip k).region r).isoSinkOn = false ∧ (s.chip k).tilesWork r = true ∧ ((s.chip k).region r).retireLater = false ∧
      ((s.chip k).region r).awaitTiles = [] ∧ ((s.chip k).region r).awaitModel = false ∧
      ((s.chip k).region r).awaitLock = false ∧ (s.chip k).stew.coolantStop = false) :=
    ⟨⟨0, live (fun c =>
      { c with img.rollActive := true, img.rollPhase := .applying, img.rollB := ({} : Bank ClassB).set 0 { ClassB.reset 0 with partition := 0 } }),
      .applying, 0, by decide⟩,
    ⟨0, live (fun c => { c with img.rollActive := true, img.rollRegion := 71, img.rollPhase := .applying }), 71,
      by decide⟩,
    ⟨0, live (fun c =>
      { (c.onRegion 71 (fun x => { x with cfg.gangMaster := 70 })) with img.rollActive := true, img.rollRegion := 71, img.rollPhase := .leaving }),
      71, by decide⟩,
    ⟨0, live (fun c =>
      { (c.onTile 0 (fun x => { x with seqIdle := false })) with img.rollActive := true, img.rollRegion := 0, img.rollEpochs := 50000 }),
      0, by decide⟩,
    ⟨0, live (fun c =>
      { ((c.onTile 0 (fun x => { x with seqIdle := false })).onRegion 0 (fun x => { x with cfg.partition := 15 })) with img.rollActive := true, img.rollRegion := 0, img.rollPhase := .applying, img.rollEpochs := 4000, img.rollTries := 6, img.rollB := ({} : Bank ClassB).set 0 { ClassB.reset 0 with partition := 15 } }),
      0, by decide⟩,
    ⟨0, live (fun c =>
      { ((c.onTile 0 (fun x => { x with seqIdle := false })).onRegion 0 (fun x => { x with cfg.partition := 15 })) with img.rollActive := true, img.rollRegion := 0, img.rollPhase := .applying, img.rollEpochs := 4000, img.rollTries := 7, img.rollB := ({} : Bank ClassB).set 0 { ClassB.reset 0 with partition := 15 } }),
      0, by decide⟩,
    ⟨0, ganged (fun c =>
      { (c.onGen 1 (fun g => { g with deskewed := true })) with img.rollActive := true, img.rollRegion := 1, img.rollApplied := true, img.rollMoved := true }),
      1, by decide⟩,
    ⟨0, live (fun c =>
      { (c.onRegion 0 (fun x => { x with cfg.partition := 15 })) with img.rollActive := true, img.rollRegion := 0, img.rollApplied := true }),
      0, by decide⟩⟩

/-- Every hypothesis set of `Obligations.VectorMemoryTakesEffect` is met. -/
theorem witness_vector_memory_takes_effect :
    (∃ (k : ChipId) (r : RegionId) (p : TileId) (s : State),
      let x := (s.chip k).tile (tileIx r p)
      let d := (s.chip k).desc r p
      let addr := x.eff (word d 1)
      (s.chip k).atVop r p 0x00 [span addr 256] [] = true ∧ x.memError d = 0) ∧
    (∃ (k : ChipId) (r : RegionId) (p : TileId) (s : State),
      let x := (s.chip k).tile (tileIx r p)
      let d := (s.chip k).desc r p
      let m := (s.chip k).tileMem r p
      let addr := x.eff (word d 1)
      (s.chip k).atVop r p 0x01 [] [span addr 256] = true ∧ x.memError d = 0 ∧ Memory.wf m = true) ∧
    (∃ (k : ChipId) (r : RegionId) (p : TileId) (s : State),
      let x := (s.chip k).tile (tileIx r p)
      VectorRuns k r p 0x50 s ∧ (∀ f, x.loops.head? = some f → f.stop ≠ x.pc + 64)) ∧
    (∃ (k : ChipId) (r : RegionId) (p : TileId) (s : State),
      let x := (s.chip k).tile (tileIx r p)
      VectorRuns k r p 0x51 s ∧ (∀ f, x.loops.head? = some f → f.stop ≠ x.pc + 64)) :=
    ⟨⟨0, 0, 0, runs [2, 0x17FF00, 0x00] id, by decide⟩,
    ⟨0, 0, 0, runs [2, 0x40, 0x01] id, by decide⟩,
    ⟨0, 0, 0, vec 0x50, by unfold VectorRuns; decide⟩,
    ⟨0, 0, 0, vec 0x51, by unfold VectorRuns; decide⟩⟩

/-- Every hypothesis set of `Obligations.MatrixAndConvertTakeEffect` is met. -/
theorem witness_matrix_and_convert_take_effect :
    (∃ (k : ChipId) (r : RegionId) (p : TileId) (s : State),
      let x := (s.chip k).tile (tileIx r p)
      let d := (s.chip k).desc r p
      let m := (s.chip k).tileMem r p
      (s.chip k).atOp r p 0x01 = true ∧ mOut d ≠ 7 ∧ x.clear (x.matrixReads d) (x.matrixWrites d) = true ∧
      x.matrixError m d = 0) ∧
    (∃ (k : ChipId) (r : RegionId) (p : TileId) (s : State),
      let x := (s.chip k).tile (tileIx r p)
      let d := (s.chip k).desc r p
      (s.chip k).atOp r p 0x01 = true ∧ mOut d = 7 ∧ x.clear (x.matrixReads d) [] = true ∧ x.prescanError d = 0) ∧
    (∃ (k : ChipId) (r : RegionId) (p : TileId) (s : State),
      let x := (s.chip k).tile (tileIx r p)
      let d := (s.chip k).desc r p
      (s.chip k).atOp r p 0x03 = true ∧
      x.clear [span (x.eff (word d 1)) (cvN d * elemBytes (cvSrc d))] [span (x.eff (word d 2)) (cvN d * elemBytes (cvDst d))] = true ∧
      x.convertError d = 0) :=
    ⟨⟨0, 0, 0, runs [1, 0x40, 0x80, 0x100, 1] id, by decide⟩,
    ⟨0, 0, 0, runs [1, 0x40, 0x80, 0, 0x3F80001] id, by decide⟩,
    ⟨0, 0, 0, runs [3, 0x40, 0x80, 0x41000001] id, by decide⟩⟩

/-- A GATHER or SCATTER whose one table entry names session memory. -/
def farTable (op : Nat) : State :=
  (runs [op, 0x400, 0x800, 0] id).onChip 0 (fun c => c.onTileMem 0 0 (fun m => Memory.write m 0x406 [2]))

/-- Every hypothesis set of `Obligations.CopiesWithinATile` is met. -/
theorem witness_copies_within_a_tile :
    (∃ (k : ChipId) (r : RegionId) (p : TileId) (s : State),
      let x := (s.chip k).tile (tileIx r p)
      let d := (s.chip k).desc r p
      let m := (s.chip k).tileMem r p
      let a := x.eff (word d 1)
      let b := x.eff (word d 2)
      (s.chip k).atOp r p 0x04 = true ∧ x.moveBusy = false ∧ x.clear (x.moveRun d).localReads (x.moveRun d).localWrites = true ∧
      x.moveError d = 0 ∧ awSpace (word d 1) = 0 ∧ awSpace (word d 2) = 0 ∧ Memory.wf m = true ∧
      (a + 64 * mvLines d ≤ b ∨ b + 64 * mvLines d ≤ a)) ∧
    (∃ (k : ChipId) (r : RegionId) (p : TileId) (s : State),
      let x := (s.chip k).tile (tileIx r p)
      let d := (s.chip k).desc r p
      (s.chip k).atOp r p 0x04 = true ∧ x.moveBusy = false ∧ x.clear (x.moveRun d).localReads (x.moveRun d).localWrites = true ∧
      x.moveError d = 0 ∧ awSpace (word d 1) = 0 ∧ awSpace (word d 2) ≠ 0 ∧ spaceEp (word d 2) (x.eff (word d 2)) ≠ r.val) ∧
    (∃ (k : ChipId) (r : RegionId) (p : TileId) (s : State),
      let x := (s.chip k).tile (tileIx r p)
      let d := (s.chip k).desc r p
      (s.chip k).atOp r p 0x04 = true ∧ x.moveBusy = false ∧ x.clear (x.moveRun d).localReads (x.moveRun d).localWrites = true ∧
      x.moveError d = 0 ∧ awSpace (word d 1) ≠ 0) ∧
    (∃ (k : ChipId) (r : RegionId) (p : TileId) (s : State),
      let x := (s.chip k).tile (tileIx r p)
      let d := (s.chip k).desc r p
      let m := (s.chip k).tileMem r p
      (s.chip k).atOp r p 0x05 = true ∧ x.moveBusy = false ∧
      x.clear (x.tableReads d (x.tableRuns m d true)) ((x.tableRuns m d true).flatMap Run.localWrites) = true ∧
      x.tableError m d = 0 ∧ (∀ w ∈ x.table m d, awSpace w = 0)) ∧
    (∃ (k : ChipId) (r : RegionId) (p : TileId) (s : State),
      let x := (s.chip k).tile (tileIx r p)
      let d := (s.chip k).desc r p
      let m := (s.chip k).tileMem r p
      (s.chip k).atOp r p 0x05 = true ∧ x.moveBusy = false ∧
      x.clear (x.tableReads d (x.tableRuns m d true)) ((x.tableRuns m d true).flatMap Run.localWrites) = true ∧
      x.tableError m d = 0 ∧ (∃ w ∈ x.table m d, awSpace w ≠ 0)) ∧
    (∃ (k : ChipId) (r : RegionId) (p : TileId) (s : State),
      let x := (s.chip k).tile (tileIx r p)
      let d := (s.chip k).desc r p
      let m := (s.chip k).tileMem r p
      (s.chip k).atOp r p 0x06 = true ∧ x.moveBusy = false ∧
      x.clear (x.tableReads d (x.tableRuns m d false)) ((x.tableRuns m d false).flatMap Run.localWrites) = true ∧
      x.tableError m d = 0 ∧ (∀ w ∈ x.table m d, awSpace w = 0)) ∧
    (∃ (k : ChipId) (r : RegionId) (p : TileId) (s : State),
      let x := (s.chip k).tile (tileIx r p)
      let d := (s.chip k).desc r p
      let m := (s.chip k).tileMem r p
      (s.chip k).atOp r p 0x06 = true ∧ x.moveBusy = false ∧
      x.clear (x.tableReads d (x.tableRuns m d false)) ((x.tableRuns m d false).flatMap Run.localWrites) = true ∧
      x.tableError m d = 0 ∧ (∃ w ∈ x.table m d, awSpace w ≠ 0 ∧ spaceEp w (x.eff w) ≠ r.val)) :=
    ⟨⟨0, 0, 0, runs [4, 0, 0x40, 1] id, by decide⟩,
    ⟨0, 0, 0, runs [4, 0, 0x2000000000000, 1] id, by decide⟩,
    ⟨0, 0, 0, runs [4, 0x2000000000000, 0, 1] id, by decide⟩,
    ⟨0, 0, 0, runs [5, 0x400, 0x800, 0] id, by decide⟩,
    ⟨0, 0, 0, farTable 5, by decide⟩,
    ⟨0, 0, 0, runs [6, 0x400, 0x800, 0] id, by decide⟩,
    ⟨0, 0, 0, farTable 6, by decide⟩⟩

/-- Every hypothesis set of `Obligations.SelectTakesEffect` is met. -/
theorem witness_select_takes_effect :
    (∃ (k : ChipId) (r : RegionId) (p : TileId) (s : State),
      let x := (s.chip k).tile (tileIx r p)
      let d := (s.chip k).desc r p
      let reads := [span (x.eff (word d 1)) (keyElem (slFmt d) * slN d)] ++ (if word d 2 = 0 then [] else [span (x.eff (word d 2)) (4 * slN d)])
      (s.chip k).atOp r p 0x07 = true ∧ x.clear reads [] = true ∧ x.selectError d = 0 ∧ x.colander d = false) ∧
    (∃ (k : ChipId) (r : RegionId) (p : TileId) (s : State),
      let x := (s.chip k).tile (tileIx r p)
      let d := (s.chip k).desc r p
      let reads := [span (x.eff (word d 1)) (keyElem (slFmt d) * slN d)] ++ (if word d 2 = 0 then [] else [span (x.eff (word d 2)) (4 * slN d)])
      (s.chip k).atOp r p 0x07 = true ∧ x.clear reads [] = true ∧ x.selectError d = 0 ∧ x.colander d = true) :=
    ⟨⟨0, 0, 0, runs [7, 0x40, 0, 0x1000001] id, by decide⟩,
    ⟨0, 0, 0, runs [7, 0x40, 0, 0x600101000001] id, by decide⟩⟩

/-- Every hypothesis set of `Obligations.CollectivesTakeEffect` is met. -/
theorem witness_collectives_take_effect :
    (∃ (k : ChipId) (r : RegionId) (p : TileId) (s : State),
      let x := (s.chip k).tile (tileIx r p)
      let d := (s.chip k).desc r p
      let m := (s.chip k).tileMem r p
      let a := x.armedSlot d
      (s.chip k).atCollective r p 0 = true ∧ x.clear [] [span a.area (64 * a.r)] = true ∧ x.armError d = 0 ∧
      Memory.wf m = true) ∧
    (∃ (k : ChipId) (r : RegionId) (p : TileId) (s : State),
      let x := (s.chip k).tile (tileIx r p)
      let d := (s.chip k).desc r p
      (s.chip k).atCollective r p 1 = true ∧ x.moveBusy = false ∧ x.clear [span (x.eff (word d 2)) (64 * clRecords d)] [] = true ∧
      x.sendError d = 0) ∧
    (∃ (k : ChipId) (r : RegionId) (p : TileId) (s : State),
      let d := (s.chip k).desc r p
      (s.chip k).atCollective r p 2 = true ∧ waitSlotError d = 0) ∧
    (∃ (k : ChipId) (r : RegionId) (p : TileId) (s : State),
      let d := (s.chip k).desc r p
      (s.chip k).atCollective r p 3 = true ∧ clReserved d = false) ∧
    (∃ (k : ChipId) (r : RegionId) (p : TileId) (s : State) (i : Issued) (slot : Option Nat),
      let x := (s.chip k).tile (tileIx r p)
      (s.chip k).running = true ∧ x.expired = some (i, slot) ∧ x.err = 0) ∧
    (∃ (k : ChipId) (r : RegionId) (p : TileId) (s : State),
      let x := (s.chip k).tile (tileIx r p)
      (s.chip k).running = true ∧ (s.chip k).clockRuns r = true ∧ x.err = 0 ∧
      0 < (x.issued.map (fun i => i.kind.resends)).sum) ∧
    (∃ (k : ChipId) (r : RegionId) (p : TileId) (s : State) (q : Msg),
      let x := (s.chip k).tile (tileIx r p)
      (s.chip k).running = true ∧ (s.chip k).clockRuns r = true ∧ (s.chip k).headReq r = some q ∧ q.op = 0x03 ∧
      q.poison = false ∧ tileAddr q.addr 1 = some (p.val, 0) ∧ 1 ≤ q.len ∧ q.len ≤ 3 ∧
      (x.slot (field q.arg 0 4)).result (field q.arg 4 8) (field q.arg 28 2) (field q.arg 12 16) q.len = 0) :=
    ⟨⟨0, 0, 0, runs [8, 0x0001000100000000, 0x3FFC0, 0] id, by decide⟩,
    ⟨0, 0, 0, runs [8, 0x00000001001E0001, 0x40, 0x1000000000000, 1] id, by decide⟩,
    ⟨0, 0, 0, runs [8, 2, 0, 0, 1] id, by decide⟩,
    ⟨0, 0, 0, runs [8, 3] id, by decide⟩,
    ⟨0, 0, 0, runs [] (fun x => { x with issued := [{ off := 0, kind := .collWait 0 1 1 }] }),
      { off := 0, kind := .collWait 0 1 1 }, some 0, by decide⟩,
    ⟨0, 0, 0, runs [] (fun x =>
      { x with issued := [{ off := 0, kind := .send 0 1 [{ msg := { lane := .req, src := 0, dst := 1 }, resend := true }] }] }),
      by decide⟩,
    ⟨0, 0, 0, (runs [] (fun x =>
      { x with slots := x.slots.set 0 { armed := true, n := 1, r := 3, combine := 1 } })).onChip 0 (fun c => c.onEp 0
      (fun x => { x with popReq := [{ lane := .req, src := 1, dst := 0, op := 3, len := 3, arg := 0x10000000 }] })),
      { lane := .req, src := 1, dst := 0, op := 3, len := 3, arg := 0x10000000 }, by decide⟩⟩

/-- Every hypothesis set of `Obligations.SignalsAndWaitsTakeEffect` is met. -/
theorem witness_signals_and_waits_take_effect :
    (∃ (k : ChipId) (r : RegionId) (p : TileId) (s : State),
      let d := (s.chip k).desc r p
      (s.chip k).atOp r p 0x09 = true ∧ ((s.chip k).tile (tileIx r p)).moveBusy = false ∧ sgFence d = false ∧ signalError d = 0 ∧ bit (word d 1) 10 = false) ∧
    (∃ (k : ChipId) (r : RegionId) (p : TileId) (s : State),
      let d := (s.chip k).desc r p
      (s.chip k).atOp r p 0x09 = true ∧ ((s.chip k).tile (tileIx r p)).moveBusy = false ∧ sgFence d = false ∧ signalError d = 0 ∧ bit (word d 1) 10 = true) ∧
    (∃ (k : ChipId) (r : RegionId) (p : TileId) (s : State),
      let x := (s.chip k).tile (tileIx r p)
      let d := (s.chip k).desc r p
      (s.chip k).atOp r p 0x09 = true ∧ x.moveBusy = false ∧ sgFence d = true ∧ x.issued = [] ∧
      (s.chip k).canFlush r x = true ∧ signalError d = 0 ∧ bit (word d 1) 10 = false) ∧
    (∃ (k : ChipId) (r : RegionId) (p : TileId) (s : State),
      let x := (s.chip k).tile (tileIx r p)
      let d := (s.chip k).desc r p
      (s.chip k).atOp r p 0x09 = true ∧ x.moveBusy = false ∧ sgFence d = true ∧ x.issued = [] ∧
      (s.chip k).canFlush r x = true ∧ signalError d = 0 ∧ bit (word d 1) 10 = true) ∧
    (∃ (k : ChipId) (r : RegionId) (p : TileId) (s : State),
      let d := (s.chip k).desc r p
      (s.chip k).atOp r p 0x0A = true ∧ ((s.chip k).tile (tileIx r p)).moveBusy = false ∧
      (s.chip k).freeTags r ≠ [] ∧ waitError d = 0) ∧
    (∃ (k : ChipId) (r : RegionId) (p : TileId) (s : State) (i : Issued) (tag : Nat) (n : Nat) (v : Nat) (tmo : Nat),
      let x := (s.chip k).tile (tileIx r p)
      (s.chip k).running = true ∧ (s.chip k).clockRuns r = true ∧ (s.chip k).freeTags r ≠ [] ∧ x.retrying = some i ∧
      i.kind = .wait tag n v tmo true) ∧
    (∃ (k : ChipId) (r : RegionId) (p : TileId) (s : State) (o : OutReq),
      let x := (s.chip k).tile (tileIx r p)
      let late := ((s.chip k).ep r).outstanding.filter (fun o => o.wait_ && decide (o.limit + 1000 ≤ o.age))
      (s.chip k).running = true ∧ late.find? (fun o => (x.waitOf o.tag).isSome) = some o) ∧
    (∃ (k : ChipId) (r : RegionId) (p : TileId) (s : State) (o : OutReq),
      let x := (s.chip k).tile (tileIx r p)
      let late := ((s.chip k).ep r).outstanding.filter (fun o => o.wait_ && decide (o.limit + 1000 ≤ o.age))
      (s.chip k).running = true ∧ late.find? (fun o => (x.waitOf o.tag).isSome) = none ∧
      late.find? (fun o =>
        (List.range 15).all (fun q => (((s.chip k).tile (tileIx r q)).waitOf o.tag).isNone)) = some o) :=
    ⟨⟨0, 0, 0, runs [9, 0x3FF, 1] id, by decide⟩,
    ⟨0, 0, 0, runs [9, 0x7FF, 1] id, by decide⟩,
    ⟨0, 0, 0, runs [9, 0xBFF, 1] (fun x => { x with written := [72] }), by decide +kernel⟩,
    ⟨0, 0, 0, runs [9, 0xFFF, 1] id, by decide +kernel⟩,
    ⟨0, 0, 0, runs [10, 0x400, 1] id, by decide⟩,
    ⟨0, 0, 0, runs [] (fun x => { x with issued := [{ off := 0, kind := .wait 7 0 1 1 true }] }),
      { off := 0, kind := .wait 7 0 1 1 true }, 7, 0, 1, 1, by decide⟩,
    ⟨0, 0, 0, (runs [] (fun x => { x with issued := [{ off := 0, kind := .wait 7 0 1 1 false }] })).onChip 0 (fun c =>
      c.onEp 0 (fun x =>
      { x with outstanding := [{ tag := 7, dst := 89, flits := 1, wait_ := true, limit := 1, age := 1001 }] })),
      { tag := 7, dst := 89, flits := 1, wait_ := true, limit := 1, age := 1001 }, by decide⟩,
    ⟨0, 0, 0, (runs [] id).onChip 0 (fun c => c.onEp 0 (fun x =>
      { x with outstanding := [{ tag := 7, dst := 89, flits := 1, wait_ := true, limit := 1, age := 1001 }] })),
      { tag := 7, dst := 89, flits := 1, wait_ := true, limit := 1, age := 1001 }, by decide⟩⟩

/-- Every hypothesis set of `Obligations.SequencerControlTakesEffect` is met. -/
theorem witness_sequencer_control_takes_effect :
    (∃ (k : ChipId) (r : RegionId) (p : TileId) (s : State),
      let x := (s.chip k).tile (tileIx r p)
      let d := (s.chip k).desc r p
      (s.chip k).atOp r p 0x0B = true ∧ x.loopError d = 0) ∧
    (∃ (k : ChipId) (r : RegionId) (p : TileId) (s : State),
      let x := (s.chip k).tile (tileIx r p)
      let d := (s.chip k).desc r p
      (s.chip k).atOp r p 0x0C = true ∧ caRet d = false ∧ callReserved d = false ∧ field (word d 1) 0 21 % 64 = 0 ∧
      x.calls.length < 8) ∧
    (∃ (k : ChipId) (r : RegionId) (p : TileId) (s : State) (ret : Nat) (rest : List Nat),
      let x := (s.chip k).tile (tileIx r p)
      let d := (s.chip k).desc r p
      (s.chip k).atOp r p 0x0C = true ∧ caRet d = true ∧ callReserved d = false ∧ x.calls = ret :: rest ∧
      (∀ f, x.loops.head? = some f → f.level ≠ x.calls.length)) ∧
    (∃ (k : ChipId) (r : RegionId) (p : TileId) (s : State),
      let x := (s.chip k).tile (tileIx r p)
      let d := (s.chip k).desc r p
      (s.chip k).atOp r p 0x0D = true ∧ x.issued = [] ∧ (s.chip k).canFlush r x = true ∧ reservedFrom d 1 = false) ∧
    (∃ (k : ChipId) (r : RegionId) (p : TileId) (s : State),
      let d := (s.chip k).desc r p
      (s.chip k).canFetch r p = true ∧ descOp d = 0) ∧
    (∃ (k : ChipId) (r : RegionId) (p : TileId) (s : State),
      let x := (s.chip k).tile (tileIx r p)
      (s.chip k).running = true ∧ (s.chip k).clockRuns r = true ∧ x.running = true ∧ x.ended = true ∧ x.issued = [] ∧
      (x.err ≠ 0 ∨ x.endFence = true ∨ x.written = [])) ∧
    (∃ (k : ChipId) (r : RegionId) (p : TileId) (s : State),
      let x := (s.chip k).tile (tileIx r p)
      (s.chip k).running = true ∧ (s.chip k).clockRuns r = true ∧ x.running = true ∧ x.ended = true ∧ x.issued = [] ∧
      x.err = 0 ∧ x.endFence = false ∧ x.written ≠ [] ∧ (s.chip k).canFlush r x = true) ∧
    (∃ (k : ChipId) (s : State) (e : EpId) (q : Msg) (rest : List Msg),
      (s.chip k).running = true ∧ ((s.chip k).ep e).popReq = q :: rest ∧ ((s.chip k).ep e).popWr = [] ∧ q.op = 0x04 ∧
      q.poison = false ∧ flushRefused e q = false ∧ q.src ≠ e.val ∧
      (isRegionEp e = true → (s.chip k).clockRuns e = true) ∧
      (isMemoryEp e = true → ((s.chip k).chan (e.val - 72)).popsReq = true)) :=
    ⟨⟨0, 0, 0, runs [11, 0x10001] id, by decide⟩,
    ⟨0, 0, 0, runs [12, 0x1FFFC0] id, by decide⟩,
    ⟨0, 0, 0, runs [12, 0x100000000] (fun x => { x with calls := [64] }), 64, [],
      ⟨by decide, by decide, by decide, by decide, fun _ h => nomatch h⟩⟩,
    ⟨0, 0, 0, runs [13] (fun x => { x with written := [72] }), by decide +kernel⟩,
    ⟨0, 0, 0, runs [] id, by decide⟩,
    ⟨0, 0, 0, runs [] (fun x => { x with ended := true, err := 1, written := [72] }), by decide +kernel⟩,
    ⟨0, 0, 0, runs [] (fun x => { x with ended := true, written := [72] }), by decide +kernel⟩,
    ⟨0, live (fun c => c.onEp 72 (fun x => { x with popReq := [{ lane := .req, src := 88, dst := 73, op := 4 }] })),
      72, { lane := .req, src := 88, dst := 73, op := 4 }, [], by decide⟩⟩

/-- Every hypothesis set of `Obligations.RegionEndpointTakesEffect` is met. -/
theorem witness_region_endpoint_takes_effect :
    (∃ (k : ChipId) (r : RegionId) (s : State) (m : Msg) (rest : List Msg) (tile : Nat) (off : Nat),
      (s.chip k).running = true ∧ (s.chip k).clockRuns r = true ∧ ((s.chip k).ep r).popWr = m :: rest ∧
      m.poison = false ∧ m.op = 0x01 ∧ 1 ≤ m.len ∧ m.len ≤ 4 ∧ tileAddr m.addr m.len = some (tile, off)) ∧
    (∃ (k : ChipId) (r : RegionId) (s : State) (m : Msg) (rest : List Msg),
      (s.chip k).running = true ∧ (s.chip k).clockRuns r = true ∧ ((s.chip k).ep r).popWr = m :: rest ∧
      m.poison = false ∧ m.op = 0x01 ∧ 1 ≤ m.len ∧ m.len ≤ 4 ∧ tileAddr m.addr m.len = none) ∧
    (∃ (k : ChipId) (r : RegionId) (s : State) (q : Msg) (tile : Nat) (off : Nat),
      (s.chip k).running = true ∧ (s.chip k).clockRuns r = true ∧ (s.chip k).headReq r = some q ∧ q.poison = false ∧
      q.op = 0x02 ∧ 1 ≤ q.rlen ∧ q.rlen ≤ 4 ∧ q.len = 0 ∧ tileAddr q.addr q.rlen = some (tile, off) ∧ q.src ≠ r.val) ∧
    (∃ (k : ChipId) (r : RegionId) (s : State) (m : Msg) (rest : List Msg) (it : Item) (p : TileId),
      (s.chip k).running = true ∧ (s.chip k).clockRuns r = true ∧ ((s.chip k).ep r).popWr = m :: rest ∧
      m.poison = false ∧ m.op = 0x10 ∧ (s.chip k).item (entryField m.data 38 2 % 4096) = some it ∧
      bit (entryField m.data 32 2) p = true ∧ it.awaits (entryField m.data 34 1) (tileIx r p) = true ∧
      ((s.chip k).mapEntry (tileIx r p)).valid = true) :=
    ⟨⟨0, 0, runs [] id |>.onChip 0 (fun c => c.onEp 0 (fun x =>
      { x with popWr := [{ lane := .wr, src := 1, dst := 0, op := 1, len := 4, addr := 0x1D7FF00 }] })),
      { lane := .wr, src := 1, dst := 0, op := 1, len := 4, addr := 0x1D7FF00 }, [], 14, 0x17FF00, by decide⟩,
    ⟨0, 0, runs [] id |>.onChip 0 (fun c => c.onEp 0 (fun x =>
      { x with popWr := [{ lane := .wr, src := 1, dst := 0, op := 1, len := 4, addr := 0x1D7FF40 }] })),
      { lane := .wr, src := 1, dst := 0, op := 1, len := 4, addr := 0x1D7FF40 }, [], by decide⟩,
    ⟨0, 0, runs [] id |>.onChip 0 (fun c => c.onEp 0 (fun x =>
      { x with popReq := [{ lane := .req, src := 1, dst := 0, op := 2, rlen := 4, addr := 0x1D7FF00 }] })),
      { lane := .req, src := 1, dst := 0, op := 2, rlen := 4, addr := 0x1D7FF00 }, 14, 0x17FF00, by decide⟩,
    ⟨0, 0, runs [] id |>.onChip 0 (fun c =>
      { (c.onEp 0 (fun x => { x with popWr := [{ lane := .wr, src := 89, dst := 0, op := 0x10, len := 1, data := List.replicate 32 0 ++ [1] ++ List.replicate 7 0 }] })).setItem 0 { session := 0, partition := 0, gen := 0, spec := false, checked := false, account := 0, cls := 0, audio := 0, lane0 := { used := true, started := true, waitEnds := [0] } } with seq.tiles := ({} : Bank MapEntry).set 0 { valid := true } }),
      { lane := .wr, src := 89, dst := 0, op := 0x10, len := 1, data := List.replicate 32 0 ++ [1] ++ List.replicate 7 0 },
      [],
      { session := 0, partition := 0, gen := 0, spec := false, checked := false, account := 0, cls := 0, audio := 0, lane0 := { used := true, started := true, waitEnds := [0] } },
      0, by decide⟩⟩

/-- Every hypothesis set of `Obligations.TileErrorsTakeEffect` is met. -/
theorem witness_tile_errors_take_effect :
    (∃ (k : ChipId) (s : State) (off : Nat),
      (s.chip k).running = true ∧ off < tileTop ∧ (s.chip k).bru.ready = true) ∧
    (∃ (k : ChipId) (r : RegionId) (p : TileId) (s : State) (off : Nat),
      (s.chip k).running = true ∧ off < tileTop ∧ ((s.chip k).tile (tileIx r p)).running = true) ∧
    (∃ (k : ChipId) (r : RegionId) (p : TileId) (s : State) (off : Nat),
      (s.chip k).running = true ∧ off < tileTop ∧ (s.chip k).readsLine r p off = true) ∧
    (∃ (k : ChipId) (r : RegionId) (p : TileId) (s : State) (off n : Nat),
      let x := (s.chip k).tile (tileIx r p)
      (s.chip k).running = true ∧ off < tileTop ∧ x.running = true ∧
      ((s.chip k).posn r ((s.chip k).positionOf r p)).residueAt = some n ∧ n ≤ 1000000) ∧
    (∃ (k : ChipId) (r : RegionId) (p : TileId) (s : State),
      let x := (s.chip k).tile (tileIx r p)
      (s.chip k).running = true ∧ x.running = true ∧ ((s.chip k).posn r ((s.chip k).positionOf r p)).residueAt = none) ∧
    (∃ (k : ChipId) (r : RegionId) (p : TileId) (s : State),
      let x := (s.chip k).tile (tileIx r p)
      (s.chip k).running = true ∧ (s.chip k).clockRuns r = true ∧ x.running = true ∧ 100 ≤ x.hang) ∧
    (∃ (k : ChipId) (r : RegionId) (s : State) (n : Nat),
      (s.chip k).running = true ∧ n ≤ 8 ∧ (s.chip k).bru.ready = true ∧ (s.chip k).clockRuns r = true ∧
      (s.chip k).reloading r = false ∧ (s.chip k).img.rollRegion ≠ r.val) ∧
    (∃ (k : ChipId) (r : RegionId) (p : TileId) (s : State),
      let x := (s.chip k).tile (tileIx r p)
      (s.chip k).running = true ∧ 1000 < x.ceSecond) :=
    ⟨⟨0, live (fun c => { c with bru.ready := true }), 0x17FFFF, by decide⟩,
    ⟨0, 0, 0, runs [] id, 0x17FFFF, by decide⟩,
    ⟨0, 0, 0, live (fun c => c.onEp 0 (fun x =>
      { x with popReq := [{ lane := .req, src := 88, dst := 0, op := 2, rlen := 4, addr := 0 }] })), 255, by decide⟩,
    ⟨0, 0, 0, (runs [] id).onChip 0 (fun c => c.onPosn 0 (c.positionOf 0 0) (fun x => { x with residueAt := some 1000000 })),
      0x17FFFF, 1000000, by decide⟩,
    ⟨0, 0, 0, runs [] id, by decide⟩,
    ⟨0, 0, 0, runs [] (fun x => { x with hang := 100 }), by decide⟩,
    ⟨0, 0, runs [] id |>.onChip 0 (fun c => { c with bru.ready := true }), 8, by decide⟩,
    ⟨0, 0, 0, runs [] (fun x => { x with ceSecond := 1001 }), by decide⟩⟩

/-- Every hypothesis set of `Obligations.EventCountersTakeEffect` is met. -/
theorem witness_event_counters_take_effect :
    (∃ (k : ChipId) (s : State) (m : Msg),
      (s.chip k).running = true ∧ (s.chip k).headEvt 1 = some m ∧
      (s.chip k).roomForAll ((s.chip k).ringsWoken (evtCounter m) ((s.chip k).sumCounter (evtCounter m) (field m.arg 0 32))) = true ∧
      (s.chip k).admitsCounter (evtCounter m) m.src = true) ∧
    (∃ (k : ChipId) (s : State) (m : Msg),
      (s.chip k).running = true ∧ (s.chip k).headEvt 1 = some m ∧
      (s.chip k).roomForAll ((s.chip k).ringsWoken (evtCounter m) ((s.chip k).sumCounter (evtCounter m) (field m.arg 0 32))) = true ∧
      (s.chip k).admitsCounter (evtCounter m) m.src = false) ∧
    (∃ (k : ChipId) (s : State) (m : Msg),
      (s.chip k).running = true ∧ (s.chip k).headEvt 2 = some m ∧
      (s.chip k).admitsCounter (evtCounter m) m.src = true ∧
      (s.chip k).roomForAll ((s.chip k).ringsWoken (evtCounter m) (field m.arg 0 64)) = true) ∧
    (∃ (k : ChipId) (s : State) (m : Msg),
      (s.chip k).running = true ∧ (s.chip k).headEvt 3 = some m ∧
      (s.chip k).admitsCounter (evtCounter m) m.src = true ∧
      (s.chip k).seq.ctr.get 0 (evtCounter m) < field m.arg 0 64 ∧ (s.chip k).seq.waiters.length < 4096) ∧
    (∃ (k : ChipId) (s : State) (q : Msg),
      (s.chip k).running = true ∧ (s.chip k).headReq epSeq = some q ∧ q.poison = false ∧ q.op = 0x08 ∧
      ((s.chip k).ep epSeq).popEvt = [] ∧ (s.chip k).admitsCounter (field q.addr 0 10) q.src = true ∧ q.src ≠ epSeq) ∧
    (∃ (k : ChipId) (s : State) (src : EpId) (tag : Nat) (w : Waiter),
      (s.chip k).running = true ∧
      (s.chip k).seq.waiters.find? (fun w => w.src == src.val && w.tag == tag && decide (w.timeout < w.since)) = some w ∧
      (s.chip k).roomForAll w.ring.toList = true) ∧
    (∃ (k : ChipId) (s : State) (v : Word), (s.chip k).running = true ∧ ¬ (16 ≤ v.toNat % 32 ∧ v.toNat % 32 ≤ 29)) ∧
    (∃ (k : ChipId) (s : State) (v : Word), (s.chip k).running = true ∧ 16 ≤ v.toNat % 32 ∧ v.toNat % 32 ≤ 29) :=
    ⟨⟨0, live (fun c =>
      { (c.onEp 89 (fun x => { x with popEvt := [{ lane := .evt, src := 1, dst := 89, op := 1, addr := 1023, arg := 1 }] })) with seq.owner := ({} : Bank Nat).set 1023 30 }),
      { lane := .evt, src := 1, dst := 89, op := 1, addr := 1023, arg := 1 }, by decide⟩,
    ⟨0, live (fun c =>
      { (c.onEp 89 (fun x => { x with popEvt := [{ lane := .evt, src := 1, dst := 89, op := 1, addr := 1023, arg := 1 }] })) with seq.owner := ({} : Bank Nat).set 1023 31 }),
      { lane := .evt, src := 1, dst := 89, op := 1, addr := 1023, arg := 1 }, by decide⟩,
    ⟨0, live (fun c =>
      { (c.onEp 89 (fun x => { x with popEvt := [{ lane := .evt, src := 1, dst := 89, op := 2, addr := 1023, arg := 1 }] })) with seq.owner := ({} : Bank Nat).set 1023 30 }),
      { lane := .evt, src := 1, dst := 89, op := 2, addr := 1023, arg := 1 }, by decide⟩,
    ⟨0, live (fun c =>
      { (c.onEp 89 (fun x => { x with popEvt := [{ lane := .evt, src := 1, dst := 89, op := 3, addr := 1023, arg := 1 }] })) with seq.owner := ({} : Bank Nat).set 1023 30 }),
      { lane := .evt, src := 1, dst := 89, op := 3, addr := 1023, arg := 1 }, by decide⟩,
    ⟨0, live (fun c =>
      { (c.onEp 89 (fun x => { x with popReq := [{ lane := .req, src := 1, dst := 89, op := 8, addr := 1023 }] })) with seq.owner := ({} : Bank Nat).set 1023 30 }),
      { lane := .req, src := 1, dst := 89, op := 8, addr := 1023 }, by decide⟩,
    ⟨0, live (fun c =>
      { c with seq.waiters := [{ counter := 0, value := 1, src := 71, tag := 0, timeout := 1, since := 2 }] }),
      71, 0, { counter := 0, value := 1, src := 71, tag := 0, timeout := 1, since := 2 }, by decide⟩,
    ⟨0, live id, 15, by decide⟩,
    ⟨0, live id, 29, by decide⟩⟩

/-- Every hypothesis set of `Obligations.SessionCommandsTakeEffect` is met. -/
theorem witness_session_commands_take_effect :
    (∃ (k : ChipId) (g : RingId) (s : State) (bs : List Byte),
      let c := s.chip k
      let i := entrySession bs
      let x := c.session i
      c.atCommand g 0x01 1 bs ∧ entryField bs 13 1 = g.val ∧ x.state = .free ∧ openBad bs = false) ∧
    (∃ (k : ChipId) (g : RingId) (s : State) (bs : List Byte),
      let c := s.chip k
      let i := entrySession bs
      let x := c.session i
      c.atCommand g 0x02 1 bs ∧ entryField bs 12 1 ≠ 1 ∧ c.wrongRing g i = false ∧ x.state = .open_) ∧
    (∃ (k : ChipId) (g : RingId) (s : State) (bs : List Byte),
      let c := s.chip k
      let i := entrySession bs
      let x := c.session i
      c.atCommand g 0x02 1 bs ∧ entryField bs 12 1 ≠ 1 ∧ c.wrongRing g i = false ∧ x.state = .running ∧
      x.armPending = false) ∧
    (∃ (k : ChipId) (g : RingId) (s : State) (bs : List Byte),
      let c := s.chip k
      let i := entrySession bs
      let x := c.session i
      c.atCommand g 0x02 1 bs ∧ entryField bs 12 1 = 1 ∧ c.wrongRing g i = false ∧ x.state = .open_ ∧
      c.runaheadNow x.partition = true) ∧
    (∃ (k : ChipId) (g : RingId) (s : State) (bs : List Byte),
      let c := s.chip k
      let i := entrySession bs
      let x := c.session i
      c.atCommand g 0x02 1 bs ∧ entryField bs 12 1 = 1 ∧ c.wrongRing g i = false ∧ x.state = .open_ ∧
      c.runaheadNow x.partition = false) ∧
    (∃ (k : ChipId) (g : RingId) (s : State) (bs : List Byte),
      let c := s.chip k
      let i := entrySession bs
      let x := c.session i
      c.atCommand g 0x03 1 bs ∧ c.wrongRing g i = false ∧ x.state = .ahead ∧ x.held = true) ∧
    (∃ (k : ChipId) (g : RingId) (s : State) (bs : List Byte),
      let c := s.chip k
      let i := entrySession bs
      let x := c.session i
      c.atCommand g 0x03 1 bs ∧ c.wrongRing g i = false ∧ x.state = .ahead ∧ x.held = false ∧ x.inFlight = true) ∧
    (∃ (k : ChipId) (g : RingId) (s : State) (bs : List Byte),
      let c := s.chip k
      let i := entrySession bs
      let x := c.session i
      c.atCommand g 0x03 1 bs ∧ c.wrongRing g i = false ∧ x.state = .ahead ∧ x.held = false ∧ x.inFlight = false) ∧
    (∃ (k : ChipId) (g : RingId) (s : State) (bs : List Byte),
      let c := s.chip k
      let i := entrySession bs
      let x := c.session i
      c.atCommand g 0x04 1 bs ∧ c.wrongRing g i = false ∧ x.state = .ahead ∧ x.inFlight = false) ∧
    (∃ (k : ChipId) (g : RingId) (s : State) (bs : List Byte),
      let c := s.chip k
      let i := entrySession bs
      let x := c.session i
      c.atCommand g 0x04 1 bs ∧ c.wrongRing g i = false ∧ x.state = .ahead ∧ x.inFlight = true) ∧
    (∃ (k : ChipId) (g : RingId) (s : State) (bs : List Byte),
      let c := s.chip k
      let i := entrySession bs
      let x := c.session i
      c.atCommand g 0x05 3 bs ∧ c.wrongRing g i = false ∧ x.state ≠ .free ∧ x.inFlight = false) ∧
    (∃ (k : ChipId) (g : RingId) (s : State) (bs : List Byte),
      let c := s.chip k
      let i := entrySession bs
      let x := c.session i
      c.atCommand g 0x05 3 bs ∧ c.wrongRing g i = false ∧ x.state ≠ .free ∧ x.inFlight = true) ∧
    (∃ (k : ChipId) (s : State) (j : Nat),
      let c := s.chip k
      c.running = true ∧ (c.session j).state = .ahead ∧ (c.session j).confirmed = false ∧
      (c.session j).cancelled = false ∧ (c.session j).deadline ≤ c.time.epoch ∧ 0 < (c.session j).reservedEntries) :=
    ⟨⟨0, 0, handed [(0, 1), (12, 7), (17, 16), (22, 4), (26, 4), (30, 4), (34, 4), (38, 4)] id, entry [(0, 1), (12, 7),
      (17, 16), (22, 4), (26, 4), (30, 4), (34, 4), (38, 4)], by unfold Chip.atCommand; decide⟩,
    ⟨0, 0, handed [(0, 2)] (session { state := .open_ }), entry [(0, 2)], by unfold Chip.atCommand; decide⟩,
    ⟨0, 0, handed [(0, 2)] (session { state := .running }), entry [(0, 2)], by unfold Chip.atCommand; decide⟩,
    ⟨0, 0, handed [(0, 2), (12, 1)] (fun c =>
      { session { state := .open_ } c with img.nowA.runahead := ({} : Bank Nat).set 0 1 }), entry [(0, 2), (12, 1)],
      by unfold Chip.atCommand; decide⟩,
    ⟨0, 0, handed [(0, 2), (12, 1)] (session { state := .open_ }), entry [(0, 2), (12, 1)],
      by unfold Chip.atCommand; decide⟩,
    ⟨0, 0, handed [(0, 3)] (session { state := .ahead, held := true }), entry [(0, 3)],
      by unfold Chip.atCommand; decide⟩,
    ⟨0, 0, handed [(0, 3)] (session { state := .ahead, inFlight := true }), entry [(0, 3)],
      by unfold Chip.atCommand; decide⟩,
    ⟨0, 0, handed [(0, 3)] (session { state := .ahead }), entry [(0, 3)], by unfold Chip.atCommand; decide⟩,
    ⟨0, 0, handed [(0, 4)] (session { state := .ahead }), entry [(0, 4)], by unfold Chip.atCommand; decide⟩,
    ⟨0, 0, handed [(0, 4)] (session { state := .ahead, inFlight := true }), entry [(0, 4)],
      by unfold Chip.atCommand; decide⟩,
    ⟨0, 0, handed [(0, 5)] (session { state := .armed }), entry [(0, 5)], by unfold Chip.atCommand; decide⟩,
    ⟨0, 0, handed [(0, 5)] (session { state := .running, inFlight := true }), entry [(0, 5)],
      by unfold Chip.atCommand; decide⟩,
    ⟨0, live (session { state := .ahead, held := true }), 0, by decide⟩⟩

/-- Every hypothesis set of `Obligations.ReadsAndCountersTakeEffect` is met. -/
theorem witness_reads_and_counters_take_effect :
    (∃ (k : ChipId) (g : RingId) (s : State) (bs : List Byte),
      let c := s.chip k
      c.atCommand g 0x06 1 bs ∧ c.wrongRing g (entrySession bs) = false) ∧
    (∃ (k : ChipId) (g : RingId) (s : State) (bs : List Byte),
      let c := s.chip k
      c.atCommand g 0x12 1 bs) ∧
    (∃ (k : ChipId) (g : RingId) (s : State) (bs : List Byte),
      let c := s.chip k
      c.atCommand g 0x50 1 bs) ∧
    (∃ (k : ChipId) (g : RingId) (s : State) (bs : List Byte),
      let c := s.chip k
      let n := cnIndex bs
      let v := cnValue bs
      c.atCommand g 0x40 1 bs ∧ entryField bs 10 1 = 0 ∧
      c.roomForAll (g.val :: c.ringsWoken n (c.sumCounter n v)) = true) ∧
    (∃ (k : ChipId) (g : RingId) (s : State) (bs : List Byte),
      let c := s.chip k
      let n := cnIndex bs
      let v := cnValue bs
      c.atCommand g 0x40 1 bs ∧ entryField bs 10 1 = 1 ∧ c.roomForAll (g.val :: c.ringsWoken n v) = true) ∧
    (∃ (k : ChipId) (g : RingId) (s : State) (bs : List Byte),
      let c := s.chip k
      let n := cnIndex bs
      let v := cnValue bs
      c.atCommand g 0x40 1 bs ∧ entryField bs 10 1 = 2 ∧ c.seq.ctr.get 0 n < v ∧ c.seq.waiters.length < 4096) ∧
    (∃ (k : ChipId) (g : RingId) (s : State) (bs : List Byte),
      let c := s.chip k
      c.atCommand g 0x40 1 bs ∧ entryField bs 10 1 = 3) :=
    ⟨⟨0, 0, handed [(0, 6)] (session { state := .open_ }), entry [(0, 6)], by unfold Chip.atCommand; decide⟩,
    ⟨0, 0, handed [(0, 18)] id, entry [(0, 18)], by unfold Chip.atCommand; decide⟩,
    ⟨0, 0, handed [(0, 80)] id, entry [(0, 80)], by unfold Chip.atCommand; decide⟩,
    ⟨0, 0, handed [(0, 64), (8, 255), (9, 3), (16, 1)] id, entry [(0, 64), (8, 255), (9, 3), (16, 1)],
      by unfold Chip.atCommand; decide⟩,
    ⟨0, 0, handed [(0, 64), (8, 255), (9, 3), (10, 1), (23, 255)] id, entry [(0, 64), (8, 255), (9, 3), (10, 1), (23,
      255)], by unfold Chip.atCommand; decide⟩,
    ⟨0, 0, handed [(0, 64), (8, 255), (9, 3), (10, 2), (16, 1)] id, entry [(0, 64), (8, 255), (9, 3), (10, 2), (16,
      1)], by unfold Chip.atCommand; decide⟩,
    ⟨0, 0, handed [(0, 64), (8, 255), (9, 3), (10, 3)] id, entry [(0, 64), (8, 255), (9, 3), (10, 3)],
      by unfold Chip.atCommand; decide⟩⟩

/-- Every hypothesis set of `Obligations.LoadsTakeEffect` is met. -/
theorem witness_loads_take_effect :
    (∃ (k : ChipId) (g : RingId) (s : State) (bs : List Byte),
      let c := s.chip k
      c.atCommand g 0x10 1 bs ∧ c.loadRefusal bs = none) ∧
    (∃ (k : ChipId) (g : RingId) (s : State) (bs : List Byte) (tag : Tag) (nn : Nat),
      let c := s.chip k
      c.atCommand g 0x10 1 bs ∧ c.loadRefusal bs = some (tag, nn)) ∧
    (∃ (k : ChipId) (g : RingId) (s : State) (bs : List Byte),
      let c := s.chip k
      c.running = true ∧ c.roomForCompletions g 1 = true ∧ c.background g 0x10 = some bs) ∧
    (∃ (k : ChipId) (g : RingId) (s : State) (bs : List Byte),
      let c := s.chip k
      c.running = true ∧ c.roomForCompletions g 1 = true ∧ c.background g 0x10 = some bs) ∧
    (∃ (k : ChipId) (g : RingId) (s : State) (bs : List Byte),
      let c := s.chip k
      let r := entryField bs 8 1
      c.atCommand g 0x11 1 bs ∧ (c.region r).awaitTiles.contains (entryField bs 9 1) = true ∧
      (∀ e ∈ mlCopies c.mem bs, e.ok = true ∧ e.region = r ∧ e.tile = entryField bs 9 1)) ∧
    (∃ (k : ChipId) (g : RingId) (s : State) (bs : List Byte),
      let c := s.chip k
      let r := entryField bs 8 1
      c.atCommand g 0x11 1 bs ∧ (c.region r).awaitTiles.contains (entryField bs 9 1) = false) ∧
    (∃ (k : ChipId) (g : RingId) (s : State) (bs : List Byte),
      let c := s.chip k
      c.running = true ∧ c.roomForCompletions g 1 = true ∧ c.background g 0x11 = some bs) ∧
    (∃ (k : ChipId) (g : RingId) (s : State) (bs : List Byte),
      let c := s.chip k
      c.running = true ∧ c.roomForCompletions g 1 = true ∧ c.background g 0x11 = some bs) :=
    ⟨⟨0, 0, handed [(0, 16), (9, 1), (27, 2)] (fun c =>
      { c.onRegion 0 (fun x => { x with cfg.partition := 0 }) with mem := [(0x2000003, 0x80)] }), entry [(0, 16), (9,
      1), (27, 2)], by unfold Chip.atCommand; decide +kernel⟩,
    ⟨0, 0, handed [(0, 16), (9, 1), (27, 2)] id, entry [(0, 16), (9, 1), (27, 2)], .ses, 4,
      by unfold Chip.atCommand; decide +kernel⟩,
    ⟨0, 0, background [(0, 0x10)] id, entry [(0, 16)], by decide⟩,
    ⟨0, 0, background [(0, 0x10)] id, entry [(0, 16)], by decide⟩,
    ⟨0, 0, handed [(0, 17), (9, 14)] (fun c => c.onRegion 0 (fun x => { x with awaitTiles := [14] })), entry [(0, 17),
      (9, 14)], by unfold Chip.atCommand; decide⟩,
    ⟨0, 0, handed [(0, 17), (9, 14)] id, entry [(0, 17), (9, 14)], by unfold Chip.atCommand; decide⟩,
    ⟨0, 0, background [(0, 0x11)] id, entry [(0, 17)], by decide⟩,
    ⟨0, 0, background [(0, 0x11)] id, entry [(0, 17)], by decide⟩⟩

/-- Every hypothesis set of `Obligations.ItemsTakeEffect` is met. -/
theorem witness_items_take_effect :
    (∃ (k : ChipId) (s : State) (p : RingId) (i : Nat) (lanes : Bool × Bool),
      let c := s.chip k
      (s.chip k).running = true ∧ c.nextToAdmit p = some i ∧ c.admitLanes p i = some lanes ∧ c.mayAdmit p i = true) ∧
    (∃ (k : ChipId) (s : State) (n : Nat) (it : Item) (l : Nat),
      let c := s.chip k
      (s.chip k).running = true ∧ c.item n = some it ∧ c.readyLane it = some l) ∧
    (∃ (k : ChipId) (s : State) (m : Msg) (rest : List Msg),
      let c := s.chip k
      (s.chip k).running = true ∧ (c.ep epSeq).popWr = m :: rest ∧ m.poison = false ∧ m.op = 0x11) :=
    ⟨⟨0, live (fun c =>
      { c.onRegion 0 (fun x => { x with cfg.partition := 0, status := .serving }) with bru.ready := true, seq.tiles := ({} : Bank MapEntry).set 0 { valid := true }, seq.parts := ({} : Bank Part).set 0 { model := 1, lanes := 1 }, seq.sessions := ({} : Bank Session).set 0 { state := .ready } }),
      0, 0, (true, false), by decide⟩,
    ⟨0, live (fun c =>
      { (c.onRegion 0 (fun x => { x with cfg.partition := 0, status := .serving })).setItem 0 { session := 0, partition := 0, gen := 0, spec := false, checked := false, account := 0, cls := 0, audio := 0, lane0 := { used := true } } with seq.tiles := ({} : Bank MapEntry).set 0 { valid := true } }),
      0,
      { session := 0, partition := 0, gen := 0, spec := false, checked := false, account := 0, cls := 0, audio := 0, lane0 := { used := true } },
      0, by decide⟩,
    ⟨0, live (fun c => c.onEp 89 (fun x => { x with popWr := [{ lane := .wr, src := 0, dst := 89, op := 0x11 }] })),
      { lane := .wr, src := 0, dst := 89, op := 0x11 }, [], by decide⟩⟩

/-- Every hypothesis set of `Obligations.SessionMemoryTakesEffect` is met. -/
theorem witness_session_memory_takes_effect :
    (∃ (k : ChipId) (h : ChanId) (s : State) (m : Msg) (i : Nat),
      let c := s.chip k
      let x := c.chan h
      (s.chip k).running = true ∧ c.headWr (epMem h) = some m ∧ x.popsWr = true ∧ m.op = 0x01 ∧
      requesterOf m.src = some i ∧ 1 ≤ m.len ∧ m.len ≤ 4 ∧ portAddrOk h m.addr m.len = true ∧
      intoTable i m.addr = false ∧ m.poison = false) ∧
    (∃ (k : ChipId) (h : ChanId) (s : State) (m : Msg) (i : Nat),
      let c := s.chip k
      let x := c.chan h
      (s.chip k).running = true ∧ c.headWr (epMem h) = some m ∧ x.popsWr = true ∧ m.op = 0x01 ∧
      requesterOf m.src = some i ∧ 1 ≤ m.len ∧ m.len ≤ 4 ∧ portAddrOk h m.addr m.len = true ∧
      intoTable i m.addr = true) ∧
    (∃ (k : ChipId) (h : ChanId) (s : State) (q : Msg) (i : Nat),
      let c := s.chip k
      let x := c.chan h
      (s.chip k).running = true ∧ c.headReq (epMem h) = some q ∧ x.popsReq = true ∧ q.op = 0x02 ∧
      requesterOf q.src = some i ∧ q.len = 0 ∧ 1 ≤ q.rlen ∧ q.rlen ≤ 4 ∧ portAddrOk h q.addr q.rlen = true ∧
      q.poison = false) ∧
    (∃ (k : ChipId) (h : ChanId) (s : State) (m : Msg) (i : Nat) (g : Group),
      let c := s.chip k
      let x := c.chan h
      (s.chip k).running = true ∧ c.headWr (epMem h) = some m ∧ x.popsWr = true ∧ m.op = 0x05 ∧ m.len = 0 ∧
      m.poison = false ∧ requesterOf m.src = some i ∧ (x.store ++ x.returning).find? (fun g => g.voidable i (field m.arg 0 8)) = some g) ∧
    (∃ (k : ChipId) (h : ChanId) (s : State) (g : Group) (rest : List Group),
      let c := s.chip k
      let x := c.chan h
      (s.chip k).running = true ∧ x.returning = g :: rest ∧ g.moving = false) ∧
    (∃ (k : ChipId) (h : ChanId) (s : State),
      let c := s.chip k
      let x := c.chan h
      (s.chip k).running = true ∧ x.trained = true ∧ 86400000000 ≤ x.ecsEpochs) ∧
    (∃ (k : ChipId) (h : ChanId) (s : State),
      let c := s.chip k
      let x := c.chan h
      (s.chip k).running = true ∧ 100 < x.repeats) ∧
    (∃ (k : ChipId) (h : ChanId) (s : State) (i : Nat) (f : Bool) (g : Group),
      let c := s.chip k
      let x := c.chan h
      (s.chip k).running = true ∧ x.trained = true ∧ x.slotNext = none ∧ x.forceBusy = false ∧
      c.winner h = some (i, f) ∧ c.cand h i = some g) ∧
    (∃ (k : ChipId) (h : ChanId) (s : State),
      let c := s.chip k
      let x := c.chan h
      (s.chip k).running = true ∧ x.trained = true ∧ x.slotNext = none ∧ x.mayMark = true) :=
    ⟨⟨0, 0, live (fun c => c.onEp 72 (fun x =>
      { x with popWr := [{ lane := .wr, src := 71, dst := 72, op := 1, len := 4, addr := 0x1000000 }] })),
      { lane := .wr, src := 71, dst := 72, op := 1, len := 4, addr := 0x1000000 }, 71, by decide⟩,
    ⟨0, 0, live (fun c => c.onEp 72 (fun x =>
      { x with popWr := [{ lane := .wr, src := 71, dst := 72, op := 1, len := 4, addr := 0 }] })),
      { lane := .wr, src := 71, dst := 72, op := 1, len := 4, addr := 0 }, 71, by decide⟩,
    ⟨0, 0, live (fun c => c.onEp 72 (fun x =>
      { x with popReq := [{ lane := .req, src := 71, dst := 72, op := 2, rlen := 4, addr := 0x1000000 }] })),
      { lane := .req, src := 71, dst := 72, op := 2, rlen := 4, addr := 0x1000000 }, 71, by decide⟩,
    ⟨0, 0, live (fun c => (c.onEp 72 (fun x =>
      { x with popWr := [{ lane := .wr, src := 71, dst := 72, op := 5, arg := 255 }] })).onChan 0 (fun x =>
      { x with store := [{ id := 0, req := 71, src := 71, tag := 255, write := false, addr := 0x1000000, lines := 1 }] })),
      { lane := .wr, src := 71, dst := 72, op := 5, arg := 255 }, 71,
      { id := 0, req := 71, src := 71, tag := 255, write := false, addr := 0x1000000, lines := 1 }, by decide⟩,
    ⟨0, 0, live (fun c => c.onChan 0 (fun x =>
      { x with returning := [{ id := 0, req := 71, src := 71, tag := 255, write := false, addr := 0x1000000, lines := 1 }] })),
      { id := 0, req := 71, src := 71, tag := 255, write := false, addr := 0x1000000, lines := 1 }, [], by decide⟩,
    ⟨0, 15, live (fun c => c.onChan 15 (fun x => { x with trained := true, ecsEpochs := 86400000000 })), by decide⟩,
    ⟨0, 15, live (fun c => c.onChan 15 (fun x => { x with repeats := 101 })), by decide⟩,
    ⟨0, 0, live (fun c => c.onChan 0 (fun x =>
      { x with trained := true, store := [{ id := 0, req := 71, src := 71, tag := 255, write := false, addr := 0x1000000, lines := 1 }] })),
      71, false, { id := 0, req := 71, src := 71, tag := 255, write := false, addr := 0x1000000, lines := 1 },
      by decide⟩,
    ⟨0, 0, live (fun c => c.onChan 0 (fun x => { x with trained := true })), by decide⟩⟩

/-- Every hypothesis set of `Obligations.PowerTakesEffect` is met. -/
theorem witness_power_takes_effect :
    (∃ (k : ChipId) (s : State),
      let c := s.chip k
      c.running = true ∧ c.stew.evaluating = true ∧ c.stew.evalDue = true) ∧
    (∃ (k : ChipId) (s : State) (temps : List Int),
      let c := s.chip k
      (s.chip k).running = true ∧ (∀ x : RegionId, temps.getD x (c.region x).temp < 440)) ∧
    (∃ (k : ChipId) (s : State) (temps : List Int) (r : RegionId),
      let c := s.chip k
      (s.chip k).running = true ∧ 440 ≤ temps.getD r (c.region r).temp ∧ temps.getD r (c.region r).temp ≤ 600 ∧
      (c.region r).sampled = true ∧ (temps.getD r (c.region r).temp - (c.region r).temp).natAbs ≤ 80 ∧
      (c.region r).sensorBad = false ∧ 1 ≤ (c.region r).hotRun) ∧
    (∃ (k : ChipId) (s : State) (r : RegionId),
      let c := s.chip k
      (s.chip k).running = true ∧ (c.region r).tripped = true ∧ c.clockOwner r = r.val ∧
      (∀ x ∈ c.clockedBy r, 100000 ≤ (c.region x).coldRun) ∧ c.stew.coolantStop = false ∧ c.stew.resuming = false ∧
      (s.tray.slot k).coolantN = false ∧ (c.gen r).state = .halted) ∧
    (∃ (k : ChipId) (s : State) (ns : Nat),
      let c := s.chip k
      (s.chip k).running = true ∧ 1000 ≤ ns ∧ (s.tray.slot k).coolantN = true ∧ c.stew.coolantStop = false) ∧
    (∃ (k : ChipId) (s : State),
      let c := s.chip k
      (s.chip k).running = true ∧ c.stew.coolantStop = true ∧ (s.tray.slot k).coolantN = false) ∧
    (∃ (k : ChipId) (s : State),
      let c := s.chip k
      (s.chip k).running = true ∧ c.stew.resuming = true ∧ 50 ≤ c.stew.resumeAge) :=
    ⟨⟨0, live (fun c => { c with stew.evaluating := true, stew.evalDue := true }), by decide⟩,
    ⟨0, live id, List.replicate 72 439, by decide +kernel⟩,
    ⟨0, live (fun c => c.onRegion 71 (fun x => { x with temp := 360, sampled := true, hotRun := 1 })), List.replicate
      72 440, 71, by decide⟩,
    ⟨0, live (fun c => (c.onRegion 0 (fun x => { x with tripped := true, coldRun := 100000 })).onGen 0 (fun g =>
      { g with state := .halted })), 0, by decide +kernel⟩,
    ⟨0, both (fun t => t.onSlot 0 (fun x => { x with coolantN := true })) id, 1000, by decide⟩,
    ⟨0, live (fun c => { c with stew.coolantStop := true }), by decide⟩,
    ⟨0, live (fun c => { c with stew.resuming := true, stew.resumeAge := 50 }), by decide⟩⟩

/-- Every hypothesis set of `Obligations.GrantsTakeEffect` is met. -/
theorem witness_grants_take_effect :
    (∃ (s : State) (x : Side),
      s.tray.role = some x ∧ (s.tray.tmc x).time.epoch % 10000 = 0 ∧ s.tray.exch ≠ (s.tray.tmc x).time.epoch ∧
      s.tray.poweredSlots ≠ []) ∧
    (∃ (k : ChipId) (s : State) (g : Nat) (x : Nat),
      let c := s.chip k
      c.running = true ∧ c.stew.grantNew = some (g, x) ∧ g < c.stew.grant ∧ x + 2000 ≤ c.time.epoch) ∧
    (∃ (k : ChipId) (s : State) (g : Nat) (x : Nat),
      let c := s.chip k
      c.running = true ∧ c.stew.grantNew = some (g, x) ∧ c.stew.grant ≤ g ∧ x + 3000 ≤ c.time.epoch) ∧
    (∃ (k : ChipId) (s : State),
      let c := s.chip k
      c.running = true ∧ 30000 ≤ c.stew.grantAge ∧ c.stew.grantStale = false) :=
    ⟨⟨tray (fun t => { (t.onSlot 7 (fun x => { x with seq := .on })) with role := some .b, exch := 10000 }), .b,
      by decide⟩,
    ⟨0, live (fun c => { c with time.epoch := 12000, stew.grantNew := some (149, 10000) }), 149, 10000, by decide⟩,
    ⟨0, live (fun c => { c with time.epoch := 13000, stew.grantNew := some (150, 10000) }), 150, 10000, by decide⟩,
    ⟨0, live (fun c => { c with stew.grantAge := 30000 }), by decide⟩⟩

/-- Every hypothesis set of `Obligations.MeterRingTakesEffect` is met. -/
theorem witness_meter_ring_takes_effect :
    (∃ (s : State) (x : Side),
      let r := s.tray.ring
      s.tray.role.isSome = true ∧ s.tray.role = some x ∧ (s.tray.tmc x).time.epoch % 100 = 0 ∧ r.sweeping = false ∧
      r.begun = true ∧ r.boundary ≠ (s.tray.tmc x).time.epoch ∧
      (∀ n : SlotId, ¬ ((s.tray.slot n).seq = .on ∧ (s.tray.slot n).pendReq = some false))) ∧
    (∃ (s : State) (x : Side),
      let r := s.tray.ring
      s.tray.role.isSome = true ∧ s.tray.role = some x ∧ (s.tray.tmc x).time.epoch % 100 = 0 ∧ r.sweeping = false ∧
      r.begun = false ∧ r.roleAt < (s.tray.tmc x).time.epoch ∧
      (∀ n : SlotId, ¬ ((s.tray.slot n).seq = .on ∧ (s.tray.slot n).pendReq = some false))) ∧
    (∃ (s : State) (node : NodeId),
      let r := s.tray.ring
      s.tray.role.isSome = true ∧ r.sweeping = true ∧ r.half = false ∧ r.doneF = false ∧
      node.val = r.passed.length + 1 ∧ r.locked r.passed.length false = true ∧ node.val % 2 = 1) ∧
    (∃ (s : State) (node : NodeId),
      let r := s.tray.ring
      s.tray.role.isSome = true ∧ r.sweeping = true ∧ r.half = false ∧ r.doneF = false ∧
      node.val = r.passed.length + 1 ∧ r.locked r.passed.length false = true ∧ node.val % 2 = 0 ∧
      (s.tray.slot ((node.val - 2) / 2)).bypass = false ∧ (s.chip ((node.val - 2) / 2)).running = true) ∧
    (∃ (s : State) (node : NodeId) (rev : Bool),
      s.tray.role.isSome = true ∧ 0 < node.val ∧ s.tray.ring.passKind node rev = .out) ∧
    (∃ (s : State) (node : NodeId) (rev : Bool),
      s.tray.role.isSome = true ∧ 0 < node.val ∧ s.tray.ring.passKind node rev = .back) ∧
    (∃ (s : State) (rev : Bool) (r1 : MeterRing), s.tray.role.isSome = true ∧ s.tray.ring.return_ rev = some r1) ∧
    (∃ (s : State),
      let r := s.tray.ring
      s.tray.role.isSome = true ∧ r.sweeping = true ∧ r.half = false ∧ r.doneF = false ∧ r.doneR = true ∧
      r.passed.length = 16 ∧ r.locked 16 false = true) ∧
    (∃ (s : State) (x : Side),
      let r := s.tray.ring
      s.tray.role.isSome = true ∧ s.tray.role = some x ∧ r.sweeping = true ∧
      r.boundary + 20 ≤ (s.tray.tmc x).time.epoch) :=
    ⟨⟨tray (fun t => { t with role := some .a, ring.boundary := 100, ring.begun := true }), .a, by decide⟩,
    ⟨tray (fun t => { t with role := some .a, ring.roleAt := 99, tmcA.time.epoch := 100 }), .a, by decide⟩,
    ⟨tray (fun t => { t with role := some .a, ring.sweeping := true }), 1, by decide⟩,
    ⟨both (fun t =>
      { (t.onSlot 0 (fun x => { x with bypass := false })) with role := some .a, ring.sweeping := true, ring.passed := [1] })
      id, 2, by decide⟩,
    ⟨tray (fun t => { t with role := some .a, ring.sweeping := true, ring.half := true, ring.turnF := 8, ring.turnR := 9 }),
      16, true, by decide⟩,
    ⟨tray (fun t => { t with
      role := some .a, ring.sweeping := true, ring.half := true, ring.turnF := 2, ring.turnR := 3, ring.passed := [1, 2] }),
      1, true, by decide⟩,
    ⟨tray (fun t => { t with
      role := some .a, ring.sweeping := true, ring.half := true, ring.turnF := 1, ring.turnR := 2, ring.passed := [1] }),
      true, { State.reset.tray.ring with
        sweeping := true, half := true, turnF := 1, turnR := 2, passed := [1], doneF := true }, by decide⟩,
    ⟨tray (fun t =>
      { t with role := some .a, ring.sweeping := true, ring.doneR := true, ring.passed := (List.range 16).map (fun i => i + 1) }),
      by decide⟩,
    ⟨tray (fun t => { t with role := some .a, ring.sweeping := true, tmcA.time.epoch := 20 }), .a, by decide⟩⟩

/-- Every hypothesis set of `Obligations.EnergyTakesEffect` is met. -/
theorem witness_energy_takes_effect :
    (∃ (k : ChipId) (s : State) (x : Sweep) (rest : List Sweep),
      let c := s.chip k
      c.running = true ∧ c.stew.staged = x :: rest ∧ 200 ≤ x.age ∧ c.stew.captureBefore x.at_ = false ∧
      c.stew.gainDue = false) ∧
    (∃ (k : ChipId) (s : State),
      let c := s.chip k
      c.running = true ∧ c.stew.gainDue = true) ∧
    (∃ (k : ChipId) (g : RingId) (s : State) (bs : List Byte),
      let c := s.chip k
      c.atCommand g 0x20 1 bs ∧ c.time.epoch < entryField bs 16 8 ∧ entryField bs 16 8 % c.img.nowC.frameEpochs = 0 ∧
      0 < entryField bs 16 8) ∧
    (∃ (k : ChipId) (g : RingId) (s : State) (bs : List Byte),
      let c := s.chip k
      c.atCommand g 0x20 1 bs ∧ 0 < entryField bs 16 8 ∧ entryField bs 16 8 ≤ c.time.epoch) ∧
    (∃ (k : ChipId) (s : State) (tk : Nat),
      let c := s.chip k
      c.running = true ∧ c.stew.nextCapture = some tk ∧ tk + 200 ≤ c.time.epoch ∧ (∀ y ∈ c.stew.staged, tk < y.at_)) ∧
    (∃ (k : ChipId) (g : RingId) (s : State) (x : Capture) (bs : List Byte),
      let c := s.chip k
      c.running = true ∧ c.stew.captures.find? (fun x => x.taken && x.ring == g.val) = some x ∧ c.background g 0x20 = some bs ∧
      c.roomForCompletions g 1 = true) :=
    ⟨⟨0, live (fun c => { c with stew.staged := [{ at_ := 100, age := 200 }] }), { at_ := 100, age := 200 }, [],
      by decide⟩,
    ⟨0, live (fun c => { c with stew.gainDue := true }), by decide⟩,
    ⟨0, 0, handed [(0, 32), (12, 1), (16, 16), (17, 39)] id, entry [(0, 32), (12, 1), (16, 16), (17, 39)],
      by unfold Chip.atCommand; decide⟩,
    ⟨0, 0, handed [(0, 32), (12, 1), (16, 16), (17, 39)] (fun c => { c with time.epoch := 10000 }), entry [(0, 32),
      (12, 1), (16, 16), (17, 39)], by unfold Chip.atCommand; decide⟩,
    ⟨0, live (fun c =>
      { c with time.epoch := 10200, stew.captures := [{ ring := 0, tag := 0, first := 0, count := 1, tick := 10000, clear := false, dest := 0 }] }),
      10000, by decide⟩,
    ⟨0, 0, background [(0, 0x20)] (fun c =>
      { c with stew.captures := [{ ring := 0, tag := 0, first := 0, count := 1, tick := 10000, clear := false, dest := 0, taken := true }] }),
      { ring := 0, tag := 0, first := 0, count := 1, tick := 10000, clear := false, dest := 0, taken := true }, entry
      [(0, 0x20)], by decide⟩⟩

/-- Every hypothesis set of `Obligations.HostAccessesTakeEffect` is met. -/
theorem witness_host_accesses_take_effect :
    (∃ (k : ChipId) (off : Nat) (s : State) (p : RegPlace),
      let c := s.chip k
      c.linkUp = true ∧ off % 4 = 0 ∧ regAt off = some p ∧ p.size = 4 ∧
      p.reg ∉ [.bruCtrl, .clkRefCtrl, .clkEpochLoadArm, .imgCtrl, .hifRingCtrl, .hifFlashCtrl]) ∧
    (∃ (k : ChipId) (off : Nat) (v : Nat) (s : State) (p : RegPlace),
      let c := s.chip k
      c.linkUp = true ∧ off % 4 = 0 ∧ regAt off = some p ∧ p.size = 4 ∧ p.reg = .hifRingCtrl ∧ p.inst < 16 ∧ v % 2 = 1) ∧
    (∃ (k : ChipId) (off : Nat) (s : State) (p : RegPlace),
      let c := s.chip k
      c.linkUp = true ∧ off % 4 = 0 ∧ regAt off = some p ∧ p.size = 4 ∧ p.reg = .pwrUrgency) ∧
    (∃ (k : ChipId) (off : Nat) (s : State) (p : RegPlace),
      let c := s.chip k
      c.linkUp = true ∧ off % 4 = 0 ∧ regAt off = some p ∧ p.size = 4) ∧
    (∃ (k : ChipId) (off : Nat) (s : State),
      let c := s.chip k
      c.linkUp = true ∧ regAt off = none) ∧
    (∃ (k : ChipId) (off : Nat) (s : State),
      let c := s.chip k
      c.linkUp = true ∧ regAt off = none) ∧
    (∃ (k : ChipId) (off : Nat) (s : State) (p : RegPlace),
      let c := s.chip k
      c.running = true ∧ (s.tray.slot k).i2c = true ∧ off % 4 = 0 ∧ regAt off = some p ∧ p.size = 4 ∧
      p.reg = .pwrUrgency) ∧
    (∃ (k : ChipId) (off : Nat) (s : State) (p : RegPlace),
      let c := s.chip k
      c.running = true ∧ (s.tray.slot k).i2c = true ∧ off % 4 = 0 ∧ regAt off = some p ∧ p.size = 4) ∧
    (∃ (k : ChipId) (s : State),
      let c := s.chip k
      c.linkUp = true) ∧
    (∃ (k : ChipId) (off : Nat) (n : Nat) (s : State),
      let c := s.chip k
      let a := c.hif.winAddr off
      c.linkUp = true ∧ (tlpPieces a n).length ≤ (c.freeTags epHif).length) :=
    ⟨⟨0, 0x500000, linked id, { reg := .tilFlags, inst := 0, byte := 0, size := 4 }, by decide⟩,
    ⟨0, 12583244, 1, linked id, { reg := .hifRingCtrl, inst := 15, byte := 0, size := 4 }, by decide⟩,
    ⟨0, 10485808, linked id, { reg := .pwrUrgency, inst := 0, byte := 0, size := 4 }, by decide⟩,
    ⟨0, 0x500000, linked id, { reg := .tilFlags, inst := 0, byte := 0, size := 4 }, by decide⟩,
    ⟨0, 0xFF000, linked id, by decide⟩,
    ⟨0, 0xFF000, linked id, by decide⟩,
    ⟨0, 10485808, both (fun t => t.onSlot 0 (fun x => { x with i2c := true })) id,
      { reg := .pwrUrgency, inst := 0, byte := 0, size := 4 }, by decide⟩,
    ⟨0, 10485808, both (fun t => t.onSlot 0 (fun x => { x with i2c := true })) id,
      { reg := .pwrUrgency, inst := 0, byte := 0, size := 4 }, by decide⟩,
    ⟨0, linked id, by decide⟩,
    ⟨0, 63, 2, linked id, by decide +kernel⟩⟩

/-- Every hypothesis set of `Obligations.RingsTakeEffect` is met. -/
theorem witness_rings_take_effect :
    (∃ (k : ChipId) (g : RingId) (s : State) (v : Word),
      let c := s.chip k
      c.linkUp = true ∧ v.toNat < c.ringN ∧ c.bru.ready = true ∧ c.ringOn g = true) ∧
    (∃ (k : ChipId) (g : RingId) (s : State) (v : Word),
      let c := s.chip k
      c.linkUp = true ∧ v.toNat < c.ringN ∧ c.bru.ready = true ∧ c.ringOn g = true) ∧
    (∃ (k : ChipId) (s : State) (v : Word),
      let c := s.chip k
      c.linkUp = true ∧ c.ringN ≤ v.toNat) ∧
    (∃ (k : ChipId) (s : State) (v : Word),
      let c := s.chip k
      c.linkUp = true ∧ c.ringN ≤ v.toNat) ∧
    (∃ (k : ChipId) (g : RingId) (s : State) (entry : List Byte),
      let c := s.chip k
      let r := c.ring g
      c.linkUp = true ∧ c.bru.ready = true ∧ c.ringOn g = true ∧ 0 < c.posted g ∧ r.handed = [] ∧
      c.holdsFor g = false ∧ c.hif.flushes = [] ∧ entryValid entry = true) ∧
    (∃ (k : ChipId) (g : RingId) (s : State) (entry : List Byte),
      let c := s.chip k
      let r := c.ring g
      c.linkUp = true ∧ c.bru.ready = true ∧ c.ringOn g = true ∧ 0 < c.posted g ∧ r.handed = [] ∧
      c.holdsFor g = false ∧ c.hif.flushes = [] ∧ entryValid entry = false ∧ c.roomForCompletions g 1 = true) ∧
    (∃ (k : ChipId) (s : State),
      let c := s.chip k
      c.running = true) ∧
    (∃ (k : ChipId) (s : State),
      let c := s.chip k
      c.running = true) ∧
    (∃ (k : ChipId) (g : RingId) (s : State),
      let c := s.chip k
      c.linkUp = true ∧ c.ringOn g = true) :=
    ⟨⟨0, 0, linked (fun c => { c.onRing 0 (fun r => { r with enable := true }) with bru.ready := true }), 4095,
      by decide⟩,
    ⟨0, 0, linked (fun c => { c.onRing 0 (fun r => { r with enable := true }) with bru.ready := true }), 4095,
      by decide⟩,
    ⟨0, linked (fun c => { c.onRing 0 (fun r => { r with enable := true }) with bru.ready := true }), 4096, by decide⟩,
    ⟨0, linked (fun c => { c.onRing 0 (fun r => { r with enable := true }) with bru.ready := true }), 4096, by decide⟩,
    ⟨0, 0, linked (fun c => { c.onRing 0 (fun r => { r with enable := true, cmdTail := 1 }) with bru.ready := true }),
      entry [(0, 0x50)], by decide⟩,
    ⟨0, 0, linked (fun c => { c.onRing 0 (fun r => { r with enable := true, cmdTail := 1 }) with bru.ready := true }),
      entry [], by decide⟩,
    ⟨0, live id, by decide⟩,
    ⟨0, live id, by decide⟩,
    ⟨0, 0, linked (fun c => { c.onRing 0 (fun r => { r with enable := true }) with bru.ready := true }), by decide⟩⟩

/-- Every hypothesis set of `Obligations.CompletionsAndMessagesTakeEffect` is met. -/
theorem witness_completions_and_messages_take_effect :
    (∃ (k : ChipId) (g : RingId) (s : State) (x : Completion) (rest : List Completion),
      let c := s.chip k
      c.compQueue g = x :: rest ∧ c.linkUp = true ∧ c.ringOn g = true ∧ c.ringFull g = false) ∧
    (∃ (k : ChipId) (g : RingId) (s : State) (x : Completion) (rest : List Completion),
      let c := s.chip k
      c.compQueue g = x :: rest ∧ c.running = true ∧ (c.ringOn g && !c.ringFull g) = false) ∧
    (∃ (k : ChipId) (g : RingId) (s : State) (e : Nat × Completion),
      let c := s.chip k
      c.seq.hold.find? (fun e => e.1 == g.val) = some e ∧ c.linkUp = true ∧ c.ringOn g = true ∧ c.ringFull g = false ∧
      c.compQueue g = []) ∧
    (∃ (k : ChipId) (v : Fin 128) (s : State),
      let c := s.chip k
      c.linkUp = true ∧ v.val < 21 ∧ c.causeHolds v = true ∧ c.coalesced v = true ∧
      (c.hif.vectors.get {} v).mask = false) ∧
    (∃ (k : ChipId) (v : Fin 128) (s : State),
      let c := s.chip k
      c.linkUp = true ∧ v.val < 21 ∧ c.causeHolds v = true ∧ c.coalesced v = true ∧
      (c.hif.vectors.get {} v).mask = true) :=
    ⟨⟨0, 0, linked (fun c =>
      { c.onRing 0 (fun r => { r with enable := true }) with seq.compOut := ({} : Bank (List Completion)).set 0 [{ typ := 1, status := 0 }] }),
      { typ := 1, status := 0 }, [], by decide⟩,
    ⟨0, 0, linked (fun c =>
      { c.onRing 0 (fun r => { r with enable := true, cplTail := 4095 }) with seq.compOut := ({} : Bank (List Completion)).set 0 [{ typ := 1, status := 0 }] }),
      { typ := 1, status := 0 }, [], by decide⟩,
    ⟨0, 0, linked (fun c =>
      { c.onRing 0 (fun r => { r with enable := true, cplTail := 4094 }) with seq.hold := [(1, { typ := 1, status := 0 }), (0, { typ := 1, status := 0 })] }),
      (0, { typ := 1, status := 0 }), by decide⟩,
    ⟨0, 20, linked (fun c =>
      { c with hif.vectors := ({} : Bank Vector_).set 20 { mask := false, cause := true, since := 10 } }), by decide⟩,
    ⟨0, 15, linked (fun c => c.onRing 15 (fun r => { r with cplTail := 1 })), by decide⟩⟩

/-- Every hypothesis set of `Obligations.FlashAndHifResetsTakeEffect` is met. -/
theorem witness_flash_and_hif_resets_take_effect :
    (∃ (k : ChipId) (s : State),
      let c := s.chip k
      let h := c.hif
      (s.chip k).running = true ∧ ¬ (c.img.useValid = true ∧ c.img.useSlot = h.flashSlot) ∧
      ¬ (c.img.staged = true ∧ c.img.stagedSlot = h.flashSlot) ∧ h.flashCmd = 0) ∧
    (∃ (k : ChipId) (s : State),
      let c := s.chip k
      let h := c.hif
      (s.chip k).running = true ∧ c.img.useValid = true ∧ c.img.useSlot = h.flashSlot) ∧
    (∃ (k : ChipId) (s : State),
      let c := s.chip k
      let h := c.hif
      (s.chip k).running = true ∧ h.flashCmd = 0) ∧
    (∃ (k : ChipId) (s : State),
      let c := s.chip k
      let h := c.hif
      (s.chip k).running = true ∧ h.flashCmd = 1) ∧
    (∃ (k : ChipId) (s : State),
      let c := s.chip k
      let h := c.hif
      (s.chip k).running = true ∧ h.flashCmd = 1) ∧
    (∃ (k : ChipId) (s : State),
      let c := s.chip k
      let h := c.hif
      (s.chip k).running = true ∧ h.flashCmd = 2) ∧
    (∃ (k : ChipId) (s : State),
      let c := s.chip k
      let h := c.hif
      (s.chip k).running = true ∧ h.perst = false) ∧
    (∃ (k : ChipId) (s : State),
      let c := s.chip k
      let h := c.hif
      (s.chip k).running = true ∧ h.perst = false) :=
    ⟨⟨0, live (fun c => { c with img.useValid := true, img.useSlot := 1 }), by decide⟩,
    ⟨0, live (fun c => { c with img.useValid := true }), by decide⟩,
    ⟨0, live id, by decide⟩,
    ⟨0, live (fun c => { c with hif.flashCmd := 1 }), by decide⟩,
    ⟨0, live (fun c => { c with hif.flashCmd := 1 }), by decide⟩,
    ⟨0, live (fun c => { c with hif.flashCmd := 2 }), by decide⟩,
    ⟨0, linked id, by decide⟩,
    ⟨0, linked id, by decide⟩⟩

/-- Every hypothesis set of `Obligations.ContributionsTakeEffect` is met. -/
theorem witness_contributions_take_effect :
    (∃ (k : ChipId) (s : State) (q : Msg) (rest : List Msg),
      let c := s.chip k
      (s.chip k).running = true ∧ (c.ep epXdma).popReq = q :: rest ∧ q.poison = false ∧ q.op = 0x03 ∧ 1 ≤ q.len ∧
      q.len ≤ 3 ∧ q.src ≠ epXdma ∧ field q.arg 30 4 < 8 ∧ c.hif.peers.get 0 (field q.arg 30 4) ≠ 0 ∧ c.linkUp = true) ∧
    (∃ (k : ChipId) (s : State) (q : Msg) (rest : List Msg),
      let c := s.chip k
      (s.chip k).running = true ∧ (c.ep epXdma).popReq = q :: rest ∧ q.poison = false ∧ q.op = 0x03 ∧ 1 ≤ q.len ∧
      q.len ≤ 3 ∧ q.src ≠ epXdma ∧ 8 ≤ field q.arg 30 4) ∧
    (∃ (k : ChipId) (s : State) (data : List Byte),
      let c := s.chip k
      (s.chip k).running = true ∧ c.linkUp = true ∧ contributionOk data = true ∧ c.hif.inbox.length < 64) ∧
    (∃ (k : ChipId) (s : State) (data : List Byte),
      let c := s.chip k
      (s.chip k).running = true ∧ c.linkUp = true ∧ contributionOk data = false) ∧
    (∃ (k : ChipId) (s : State) (i : Nat) (x : InboxEntry),
      let c := s.chip k
      (s.chip k).running = true ∧ c.hif.inbox[i]? = some x ∧ x.waiting = true) ∧
    (∃ (k : ChipId) (s : State) (i : Nat) (x : InboxEntry),
      let c := s.chip k
      (s.chip k).running = true ∧ c.hif.inbox[i]? = some x ∧ 1000 ≤ x.age) :=
    ⟨⟨0, linked (fun c =>
      { c.onEp epXdma (fun x => { x with popReq := [{ lane := .req, src := 1, dst := 91, op := 3, len := 3, arg := 7 * 2 ^ 30 }] }) with hif.peers := ({} : Bank Nat).set 7 0x1000 }),
      { lane := .req, src := 1, dst := 91, op := 3, len := 3, arg := 7 * 2 ^ 30 }, [], by decide⟩,
    ⟨0, linked (fun c => c.onEp epXdma (fun x =>
      { x with popReq := [{ lane := .req, src := 1, dst := 91, op := 3, len := 3, arg := 8 * 2 ^ 30 }] })),
      { lane := .req, src := 1, dst := 91, op := 3, len := 3, arg := 8 * 2 ^ 30 }, [], by decide⟩,
    ⟨0, linked id, [0, 0, 0, 0, 0, 0, 2, 3] ++ List.replicate 248 0, by decide +kernel⟩,
    ⟨0, linked id, List.replicate 255 0, by decide +kernel⟩,
    ⟨0, live (fun c => { c with hif.inbox := [{ bytes := [], age := 1000, waiting := true }] }), 0,
      { bytes := [], age := 1000, waiting := true }, by decide⟩,
    ⟨0, live (fun c => { c with hif.inbox := [{ bytes := [], age := 1000, waiting := true }] }), 0,
      { bytes := [], age := 1000, waiting := true }, by decide⟩⟩

/-- Every hypothesis set of `Obligations.ManagementPortsTakeEffect` is met. -/
theorem witness_management_ports_take_effect :
    (∃ (q : MgmtReq) (s : State),
      let u := s.tray
      u.canTake q = true) ∧
    (∃ (q : MgmtReq) (s : State),
      let u := s.tray
      u.canTake q = true) ∧
    (∃ (q : MgmtReq) (s : State),
      let u := s.tray
      u.canTake q = true) ∧
    (∃ (q : MgmtReq) (s : State),
      let u := s.tray
      u.canTake q = true) ∧
    (∃ (q : MgmtReq) (s : State) (g : Nat),
      let u := s.tray
      let m := u.tmc q.tmc
      u.canTake q = true ∧ g < m.roleGen) ∧
    (∃ (q : MgmtReq) (s : State) (g : Nat),
      let u := s.tray
      let m := u.tmc q.tmc
      u.canTake q = true ∧ m.roleGen < g) ∧
    (∃ (q : MgmtReq) (s : State) (g : Nat),
      let u := s.tray
      let m := u.tmc q.tmc
      u.canTake q = true ∧ g = m.roleGen ∧ u.hand ≠ .moved) ∧
    (∃ (q : MgmtReq) (s : State) (g : Nat),
      let u := s.tray
      let m := u.tmc q.tmc
      u.canTake q = true ∧ g = m.roleGen ∧ u.hand = .moved) ∧
    (∃ (q : MgmtReq) (s : State) (frame : List Byte) (samples : List LampSense) (reads : List Bool),
      let u := s.tray
      let m := u.tmc q.tmc
      u.standby = true ∧ m.present = true ∧ m.checked = true ∧ m.mstatus ≠ 1 ∧
      parseFrame frame samples reads = .meterStatus) ∧
    (∃ (q : MgmtReq) (s : State),
      let u := s.tray
      let m := u.tmc q.tmc
      u.standby = true ∧ m.present = true ∧ m.checked = true ∧ m.mstatus = 1) ∧
    (∃ (q : MgmtReq) (s : State),
      let u := s.tray
      let m := u.tmc q.tmc
      u.standby = true ∧ m.present = true ∧ m.checked = true) ∧
    (∃ (q : MgmtReq) (s : State) (f : Forwarded) (rest : List Forwarded),
      let u := s.tray
      let m := u.tmc q.tmc
      m.forwarded = f :: rest ∧ 50000 ≤ f.age ∧ m.present = true) :=
    ⟨⟨req, active id, by decide⟩,
    ⟨req, active id, by decide⟩,
    ⟨req, active id, by decide⟩,
    ⟨req, active id, by decide⟩,
    ⟨req, active (fun t => { t with tmcA.roleGen := 1 }), 0, by decide⟩,
    ⟨req, active id, 1, by decide⟩,
    ⟨req, active id, 0, by decide⟩,
    ⟨req, active (fun t => { t with hand := .moved }), 0, by decide⟩,
    ⟨req, active id, [3, 0, 0, 0] ++ List.replicate 12 0, [], [], by decide⟩,
    ⟨req, active (fun t => { t with tmcA.mstatus := 1 }), by decide⟩,
    ⟨req, active id, by decide⟩,
    ⟨req, active (fun t => { t with tmcA.forwarded := [{ req := { tmc := .b, port := .switchPort, seq := 0 }, cmd := .locate 1, age := 50000 }] }),
      { req := { tmc := .b, port := .switchPort, seq := 0 }, cmd := .locate 1, age := 50000 }, [], by decide⟩⟩

/-- Every hypothesis set of `Obligations.SlotAndUnitCommandsTakeEffect` is met. -/
theorem witness_slot_and_unit_commands_take_effect :
    (∃ (q : MgmtReq) (x : Side) (s : State) (typ : Nat) (i : Nat),
      let u := s.tray
      u.canTake q = true ∧ u.role = some x ∧ u.holding = false ∧ (u.tmc x).present = true ∧
      UnitId.known typ i = true ∧ u.prepareRefused typ i = false) ∧
    (∃ (q : MgmtReq) (x : Side) (s : State) (typ : Nat) (i : Nat),
      let u := s.tray
      u.canTake q = true ∧ u.role = some x ∧ u.holding = false ∧ (u.tmc x).present = true ∧
      UnitId.known typ i = true ∧ u.prepareRefused typ i = true) ∧
    (∃ (q : MgmtReq) (x : Side) (s : State) (typ : Nat) (i : Nat),
      let u := s.tray
      u.canTake q = true ∧ u.role = some x ∧ u.holding = false ∧ (u.tmc x).present = true ∧ u.prepared = some (typ, i)) ∧
    (∃ (q : MgmtReq) (x : Side) (s : State) (n : SlotId),
      let u := s.tray
      u.canTake q = true ∧ u.role = some x ∧ u.holding = false ∧ (u.tmc x).present = true ∧
      u.prepared ≠ some (1, n.val)) ∧
    (∃ (q : MgmtReq) (x : Side) (s : State),
      let u := s.tray
      u.canTake q = true ∧ u.role = some x ∧ u.holding = false ∧ (u.tmc x).present = true) ∧
    (∃ (q : MgmtReq) (x : Side) (s : State),
      let u := s.tray
      u.canTake q = true ∧ u.role = some x ∧ u.holding = false ∧ (u.tmc x).present = true) ∧
    (∃ (q : MgmtReq) (x : Side) (s : State) (n : SlotId),
      let u := s.tray
      u.canTake q = true ∧ u.role = some x ∧ u.holding = false ∧ (u.tmc x).present = true ∧ s.readable n = true ∧
      (s.chip n).bru.stuck = false) ∧
    (∃ (q : MgmtReq) (x : Side) (s : State) (n : SlotId),
      let u := s.tray
      u.canTake q = true ∧ u.role = some x ∧ u.holding = false ∧ (u.tmc x).present = true ∧ s.readable n = false) ∧
    (∃ (q : MgmtReq) (x : Side) (s : State) (on : Nat),
      let u := s.tray
      u.canTake q = true ∧ u.role = some x ∧ u.holding = false ∧ (u.tmc x).present = true ∧ on ≤ 1) ∧
    (∃ (q : MgmtReq) (x : Side) (s : State),
      let u := s.tray
      u.canTake q = true ∧ u.role = some x ∧ u.holding = false ∧ (u.tmc x).present = true ∧ u.lampBoard = true) ∧
    (∃ (q : MgmtReq) (x : Side) (s : State) (pct : Nat),
      let u := s.tray
      u.canTake q = true ∧ u.role = some x ∧ u.holding = false ∧ (u.tmc x).present = true ∧ 1 ≤ pct ∧ pct ≤ 100) :=
    ⟨⟨req, .a, active id, 7, 0, by decide⟩,
    ⟨req, .a, active (fun t => { t with prepared := some (5, 0) }), 1, 7, by decide⟩,
    ⟨req, .a, active (fun t => { t with prepared := some (1, 7) }), 1, 7, by decide⟩,
    ⟨req, .a, active (fun t => { t with prepared := some (1, 6) }), 7, by decide⟩,
    ⟨req, .a, active id, by decide⟩,
    ⟨req, .a, active id, by decide⟩,
    ⟨req, .a, (active (fun t => t.onSlot 0 (fun x => { x with i2c := true }))).onChip 0 (fun c =>
      { c with powered := true, held := false }), 0, by decide⟩,
    ⟨req, .a, active (fun t => t.onSlot 0 (fun x => { x with i2c := true })), 0, by decide⟩,
    ⟨req, .a, active id, 1, by decide⟩,
    ⟨req, .a, active id, by decide⟩,
    ⟨req, .a, active id, 100, by decide⟩⟩

/-- Every hypothesis set of `Obligations.TrayWideCommandsTakeEffect` is met. -/
theorem witness_tray_wide_commands_take_effect :
    (∃ (q : MgmtReq) (x : Side) (s : State) (off : Nat) (data : List Byte),
      let u := s.tray
      u.canTake q = true ∧ u.role = some x ∧ u.holding = false ∧ (u.tmc x).present = true ∧ data.length ≤ 3968 ∧
      off + data.length ≤ 2 ^ 20) ∧
    (∃ (q : MgmtReq) (x : Side) (s : State) (len : Nat),
      let u := s.tray
      u.canTake q = true ∧ u.role = some x ∧ u.holding = false ∧ (u.tmc x).present = true ∧ len ≤ 2 ^ 20 ∧
      (u.nvmA.writable || u.nvmB.writable) = true ∧
      (u.haveImage = true → u.image.generation < (trayImageValues (u.stagedImage len)).generation)) ∧
    (∃ (q : MgmtReq) (x : Side) (s : State) (port : Nat),
      let u := s.tray
      u.canTake q = true ∧ u.role = some x ∧ u.holding = false ∧ (u.tmc x).present = true ∧ port ≤ 1 ∧
      u.modeInForce = false) ∧
    (∃ (q : MgmtReq) (x : Side) (s : State) (ep : Nat),
      let u := s.tray
      u.canTake q = true ∧ u.role = some x ∧ u.holding = false ∧ (u.tmc x).present = true ∧
      (u.tmc x).time.valid = false ∧ ep % 1000000 = 0 ∧ ep < 2 ^ 56) ∧
    (∃ (q : MgmtReq) (x : Side) (s : State) (cert : List Byte),
      let u := s.tray
      u.canTake q = true ∧ u.role = some x ∧ u.holding = false ∧ (u.tmc x).present = true ∧ q.port = .switchPort ∧
      cert.length ≤ 3000) ∧
    (∃ (q : MgmtReq) (x : Side) (s : State) (cert : List Byte),
      let u := s.tray
      u.canTake q = true ∧ u.role = some x ∧ u.holding = false ∧ (u.tmc x).present = true ∧ q.port = .switchPort ∧
      cert.length ≤ 3000) ∧
    (∃ (x : Side) (s : State) (w : NvmWrite),
      s.tray.nvmWrite = some w ∧ s.tray.role = some x ∧ (s.tray.tmc x).present = true ∧ s.tray.heldCmds = [] ∧
      w.second = true) :=
    ⟨⟨req, .a, active id, 1048575, [1], by decide⟩,
    ⟨req, .a, active id, 2 ^ 20, by decide⟩,
    ⟨req, .a, active id, 1, by decide⟩,
    ⟨req, .a, active id, 72057594037000000, by decide⟩,
    ⟨req, .a, active id, [1], by decide⟩,
    ⟨req, .a, active id, [1], by decide⟩,
    ⟨.a, active (fun t => { t with nvmWrite := some { first := .a, second := true, image := [], len := 0, req := req } }),
      { first := .a, second := true, image := [], len := 0, req := req }, by decide⟩⟩

/-- Every hypothesis set of `Obligations.RolesTakeEffect` is met. -/
theorem witness_roles_take_effect :
    (∃ (x : Side) (s : State),
      let u := s.tray
      let m := u.tmc x
      s.tray.standby = true ∧ u.everHeld = false ∧ m.present = true ∧ m.ready = true ∧ (x = .b → u.tmcA.ready = false)) ∧
    (∃ (x : Side) (s : State),
      let u := s.tray
      let m := u.tmc x
      s.tray.standby = true ∧ u.role = some x.other ∧ u.everHeld = true ∧ 1000 ≤ u.aliveAge ∧ m.present = true ∧
      m.ready = true) ∧
    (∃ (x : Side) (s : State),
      let u := s.tray
      let m := u.tmc x
      s.tray.standby = true ∧ u.role = some x ∧ m.present = true) ∧
    (∃ (x : Side) (s : State),
      let u := s.tray
      let m := u.tmc x
      s.tray.standby = true ∧ m.beating = true ∧ m.time.epoch % 10000 = 5000 ∧ m.sentAt ≠ some m.time.epoch) ∧
    (∃ (x : Side) (s : State) (h : Mirror),
      let u := s.tray
      let m := u.tmc x
      s.tray.standby = true ∧ m.rx = some h ∧ m.present = true ∧ m.checked = true) ∧
    (∃ (x : Side) (s : State),
      let u := s.tray
      let m := u.tmc x
      s.tray.standby = true ∧ m.present = true ∧ m.checked = true ∧ 3 ≤ m.missed ∧ m.rx = none ∧
      u.faulty .svc 1 x.ix = false) ∧
    (∃ (x : Side) (s : State),
      let u := s.tray
      let m := u.tmc x
      s.tray.standby = true ∧ u.role = some x ∧ u.hand = .scheduled ∧ u.handAt ≤ m.time.epoch + 100 ∧
      u.nvmWrite.isSome = true ∧ u.handDefer = false) ∧
    (∃ (x : Side) (s : State),
      let u := s.tray
      let m := u.tmc x
      s.tray.standby = true ∧ u.role = some x ∧ u.hand = .scheduled ∧ u.handAt ≤ m.time.epoch + 100 ∧ u.nvmWrite = none ∧
      (u.tmc x.other).present = true ∧ (u.tmc x.other).ready = true) ∧
    (∃ (x : Side) (s : State),
      let u := s.tray
      let m := u.tmc x
      s.tray.standby = true ∧ u.role = some x ∧ u.hand = .scheduled ∧ u.handAt ≤ m.time.epoch + 100 ∧ u.nvmWrite = none ∧
      (u.tmc x.other).ready = false) ∧
    (∃ (x : Side) (s : State),
      let u := s.tray
      let m := u.tmc x
      s.tray.standby = true ∧ u.role = some x ∧ u.hand = .checked ∧ u.handAt ≤ m.time.epoch + 80 ∧
      u.ring.sweeping = false) ∧
    (∃ (x : Side) (s : State),
      let u := s.tray
      let m := u.tmc x
      s.tray.standby = true ∧ u.role = some x ∧ u.hand = .acked ∧ u.handAt ≤ m.time.epoch + 50) ∧
    (∃ (x : Side) (s : State),
      let u := s.tray
      let m := u.tmc x
      s.tray.standby = true ∧ u.role = some x ∧ u.hand = .moved ∧ u.handAt ≤ m.time.epoch ∧ u.heldCmds = []) ∧
    (∃ (x : Side) (s : State) (h : Mirror),
      let u := s.tray
      s.tray.standby = true ∧ u.role = some x ∧ u.hand = .sent ∧ u.handMsg = some h ∧ (u.tmc x.other).present = true ∧
      (u.tmc x.other).checked = true ∧ (u.tmc x.other).time.epoch + 55 ≤ u.handAt) :=
    ⟨⟨.b, tray (fun t => { t with standby := true, tmcB.ready := true }), by decide⟩,
    ⟨.b, active (fun t => { t with everHeld := true, aliveAge := 1000, tmcB.ready := true }), by decide⟩,
    ⟨.a, active id, by decide⟩,
    ⟨.a, active (fun t => { t with tmcA.time.epoch := 5000 }), by decide⟩,
    ⟨.a, active (fun t => { t with tmcA.rx := some {} }), {}, by decide⟩,
    ⟨.a, active (fun t => { t with tmcA.missed := 3 }), by decide⟩,
    ⟨.a, active (fun t =>
      { t with hand := .scheduled, handAt := 100, nvmWrite := some { first := .a, image := [], len := 0, req := req } }),
      by decide⟩,
    ⟨.a, active (fun t => { t with hand := .scheduled, handAt := 100, tmcB.ready := true }), by decide⟩,
    ⟨.a, active (fun t => { t with hand := .scheduled, handAt := 100 }), by decide⟩,
    ⟨.a, active (fun t => { t with hand := .checked, handAt := 80 }), by decide⟩,
    ⟨.a, active (fun t => { t with hand := .acked, handAt := 50 }), by decide⟩,
    ⟨.a, active (fun t => { t with hand := .moved }), by decide⟩,
    ⟨.a, active (fun t => { t with hand := .sent, handMsg := some {}, handAt := 55, tmcB.checked := true }), {},
      by decide⟩⟩

/-- Every hypothesis set of `Obligations.UnitsAndLampsTakeEffect` is met. -/
theorem witness_units_and_lamps_take_effect :
    (∃ (s : State) (typ : Nat) (i : Nat),
      let u := s.tray
      u.prepared = some (typ, i) ∧ u.role.isSome = true ∧ u.prepReady = false ∧ u.readyToRemove typ i = true) ∧
    (∃ (s : State) (typ : Nat) (i : Nat),
      let u := s.tray
      u.prepared = some (typ, i) ∧ u.role.isSome = true ∧ typ ≠ 1 ∧ u.prepReady = true ∧ 600000000 ≤ u.prepAge ∧
      u.unitPresent typ i = true) ∧
    (∃ (s : State) (typ : Nat) (i : Nat),
      let u := s.tray
      u.standby = true ∧ u.unitPresent typ i = false) ∧
    (∃ (s : State) (typ : Nat) (i : Nat) (j : Joining),
      let u := s.tray
      u.joining.find? (fun y => y.typ == typ && y.idx == i) = some j ∧ s.joins typ i j.age = true ∧ typ ≠ 2) ∧
    (∃ (s : State) (i : Nat) (j : Joining),
      let u := s.tray
      u.joining.find? (fun y => y.typ == 2 && y.idx == i) = some j ∧ s.joins 2 i j.age = true ∧
      (u.slot (i / 14)).phases.getD (i % 14) true = true) ∧
    (∃ (s : State) (i : Nat) (j : Joining),
      let u := s.tray
      u.joining.find? (fun y => y.typ == 2 && y.idx == i) = some j ∧ s.joins 2 i j.age = true ∧
      (u.slot (i / 14)).phases.getD (i % 14) true = false) ∧
    (∃ (s : State) (typ : Nat) (i : Nat),
      let u := s.tray
      u.standby = true ∧ 3 ≤ typ ∧ typ ≤ 6 ∧ u.unitPresent typ i = true) ∧
    (∃ (s : State),
      let u := s.tray
      u.role.isSome = true) ∧
    (∃ (s : State) (e : LampId) (us : Nat),
      let u := s.tray
      u.shines e = true ∧ 40 ≤ us ∧ us ≤ u.lampLevel * 20) ∧
    (∃ (s : State) (e : LampId) (ms : Nat),
      let u := s.tray
      u.shines e = true ∧ u.lampLevel < 2 ∧ ms % 2000 = 100 * e.val) ∧
    (∃ (s : State) (n : SlotId),
      let u := s.tray
      u.role.isSome = true ∧ s.readable n = true ∧ (s.chip n).alert = true ∧ (u.slot n).alert = false) :=
    ⟨⟨active (fun t => { t with prepared := some (1, 7) }), 1, 7, by decide⟩,
    ⟨active (fun t => { t with prepared := some (3, 1), prepReady := true, prepAge := 600000000 }), 3, 1, by decide⟩,
    ⟨active (fun t => { t with flowB.present := false }), 6, 1, by decide⟩,
    ⟨active (fun t => { t with joining := [{ typ := 6, idx := 1, age := 10000000 }] }), 6, 1,
      { typ := 6, idx := 1, age := 10000000 }, by decide⟩,
    ⟨active (fun t => { t with joining := [{ typ := 2, idx := 111, age := 10000000 }] }), 111,
      { typ := 2, idx := 111, age := 10000000 }, by decide⟩,
    ⟨active (fun t => { (t.onSlot 7 (fun x => { x with phases := x.phases.set 13 false })) with joining := [{ typ := 2, idx := 111, age := 10000000 }] }),
      111, { typ := 2, idx := 111, age := 10000000 }, by decide⟩,
    ⟨active id, 3, 1, by decide⟩,
    ⟨active id, by decide⟩,
    ⟨tray (fun t => { t with lamps := ({} : Bank Lamp).set 18 { lit := true } }), 18, 40, by decide⟩,
    ⟨tray (fun t => { t with lampLevel := 1, lamps := ({} : Bank Lamp).set 18 { lit := true } }), 18, 1800, by decide⟩,
    ⟨(active (fun t => t.onSlot 0 (fun x => { x with i2c := true }))).onChip 0 (fun c =>
      { c with powered := true, held := false, bru.phase := .recovery }), 0, by decide⟩⟩

/-- Every hypothesis set of `Obligations.StepRunsTheFrontCommand` is met. -/
theorem witness_step_runs_the_front_command :
    (∃ (s : State), s.pending = []) :=
    ⟨State.reset, by decide⟩

/-- Every hypothesis set of `Obligations.CommandsReachOnlyTheirUnit` is met. -/
theorem witness_commands_reach_only_their_unit :
    (∃ (i : Instr) (s : State) (t : State) (n : ChipId), exec i s = .next t ∧ mayChange i n = false) ∧
    (∃ (i : Instr) (s : State) (t : State), exec i s = .next t ∧ mayChangeTray i = false) ∧
    (∃ (i : Instr) (s : State) (t : State), exec i s = .next t ∧ writesHost i = false) :=
    ⟨⟨.powerOnReset 0, live id, after (exec (.powerOnReset 0) (live id)), 7, ⟨rfl, by decide⟩⟩,
    ⟨.commit 0, live id, after (exec (.commit 0) (live id)), ⟨rfl, by decide⟩⟩,
    ⟨.powerOnReset 0, live id, after (exec (.powerOnReset 0) (live id)), ⟨rfl, by decide⟩⟩⟩

/-- Every hypothesis set of `Obligations.DescriptorCommandsFrame` is met. -/
theorem witness_descriptor_commands_frame :
    (∃ (i : Instr) (s : State) (t : State) (x : Piece),
      ofDescriptor i = true ∧ exec i s = .next t ∧ x ∉ piecesOf i) :=
    ⟨.iadd 0 0 0, vec 0x10, after (exec (.iadd 0 0 0) (vec 0x10)), .mem, ⟨rfl, rfl, by decide⟩⟩

/-- Every hypothesis set of `Obligations.ChipCommandsFrame` is met. -/
theorem witness_chip_commands_frame :
    (∃ (i : Instr) (s : State) (t : State) (x : Piece),
      ofDescriptor i = false ∧ exec i s = .next t ∧ x ∉ piecesOf i) :=
    ⟨.commit 0, live id, after (exec (.commit 0) (live id)), .mem, ⟨rfl, rfl, by decide⟩⟩

/-- Every hypothesis set of `Obligations.DoorbellDropped` is met. -/
theorem witness_doorbell_dropped :
    (∃ (k : ChipId) (g : RingId) (v : Word) (s : State),
      let c := s.chip k
      c.linkUp = true ∧ (c.img.nowC.ringEntries ≤ v.toNat ∨ c.bru.ready = false ∨ (c.ring g).enable = false)) ∧
    (∃ (k : ChipId) (g : RingId) (v : Word) (s : State),
      let c := s.chip k
      c.linkUp = true ∧ (c.img.nowC.ringEntries ≤ v.toNat ∨ c.bru.ready = false ∨ (c.ring g).enable = false)) ∧
    (∃ (k : ChipId) (g : RingId) (v : Word) (s : State),
      let c := s.chip k
      c.linkUp = true ∧ v.toNat < c.img.nowC.ringEntries ∧ c.bru.ready = true ∧ (c.ring g).enable = true) ∧
    (∃ (k : ChipId) (g : RingId) (v : Word) (s : State),
      let c := s.chip k
      c.linkUp = true ∧ v.toNat < c.img.nowC.ringEntries ∧ c.bru.ready = true ∧ (c.ring g).enable = true) :=
    ⟨⟨0, 0, 4096, linked (fun c => { c.onRing 0 (fun r => { r with enable := true }) with bru.ready := true }),
      by decide⟩,
    ⟨0, 0, 0, linked id, by decide⟩,
    ⟨0, 0, 4095, linked (fun c => { c.onRing 0 (fun r => { r with enable := true }) with bru.ready := true }),
      by decide⟩,
    ⟨0, 0, 0, linked (fun c => { c.onRing 0 (fun r => { r with enable := true }) with bru.ready := true }), by decide⟩⟩

/-- Every hypothesis set of `Obligations.RoleChangeIncrementsRoleGen` is met. -/
theorem witness_role_change_increments_role_gen :
    (∃ (i : Instr) (s : State) (t : State) (x : Side),
      exec i s = .next t ∧ s.tray.role ≠ some x ∧ t.tray.role = some x) :=
    ⟨.roleGrant .a, tray (fun t => { t with standby := true, tmcA.ready := true }), after (exec (.roleGrant .a) (tray
      (fun t => { t with standby := true, tmcA.ready := true }))), .a, ⟨rfl, by decide, by decide⟩⟩

/-- Every hypothesis set of `Obligations.WaiterPoolIsBounded` is met. -/
theorem witness_waiter_pool_is_bounded :
    (∃ (i : Instr) (s : State) (t : State) (n : ChipId), exec i s = .next t ∧ (s.chip n).seq.waiters.length ≤ 4096) ∧
    (∃ (k : ChipId) (m : Msg) (s : State),
      let c := s.chip k
      c.running = true ∧ c.headEvt 3 = some m ∧ c.admitsCounter (evtCounter m) m.src = true ∧ m.src ≠ epSeq ∧
      c.seq.ctr.get 0 (evtCounter m) < field m.arg 0 64 ∧ 4096 ≤ c.seq.waiters.length) ∧
    (∃ (k : ChipId) (g : RingId) (bs : List Byte) (s : State),
      let c := s.chip k
      c.atCommand g 0x40 1 bs ∧ entryField bs 10 1 = 2 ∧ c.seq.ctr.get 0 (cnIndex bs) < cnValue bs ∧
      4096 ≤ c.seq.waiters.length) :=
    ⟨⟨.lampPoll, State.reset, after (exec .lampPoll State.reset), 7, ⟨rfl, by decide⟩⟩,
    ⟨0, { lane := .evt, src := 1, dst := 89, op := 3, addr := 0, arg := 1 }, live (fun c =>
      { (c.onEp 89 (fun x => { x with popEvt := [{ lane := .evt, src := 1, dst := 89, op := 3, addr := 0, arg := 1 }] })) with seq.owner := ({} : Bank Nat).set 0 30, seq.waiters := List.replicate 4096 { counter := 0, value := 1, src := 0, tag := 0, timeout := 1 } }),
      by decide +kernel⟩,
    ⟨0, 0, entry [(0, 0x40), (10, 2), (16, 1)], handed [(0, 0x40), (10, 2), (16, 1)] (fun c =>
      { c with seq.waiters := List.replicate 4096 { counter := 0, value := 1, src := 0, tag := 0, timeout := 1 } }),
      by unfold Chip.atCommand; decide +kernel⟩⟩

/-- The hypotheses of `Obligations.StepKeepsMemoriesCanonical` and of `Obligations.StepKeepsStoresBounded` are met: a
machine whose host memory holds a byte takes the tray's first start step. -/
theorem witness_step_invariants :
    ∃ s t : State, MemoriesCanonical s ∧ StoresBounded s ∧ s.hostMem ≠ [] ∧ step s = .next t ∧ t.tray.start = 1 :=
  ⟨{ State.reset with hostMem := [(64, 1)], pending := [.trayStart true] },
   after (step { State.reset with hostMem := [(64, 1)], pending := [.trayStart true] }),
   ⟨rfl, rfl, rfl, rfl, rfl, nofun, fun _ => ⟨rfl, rfl, rfl, fun _ _ => rfl⟩⟩,
   ⟨by decide, fun _ => ⟨Nat.zero_le _, Nat.zero_le _, fun _ => ⟨Nat.zero_le _, Nat.zero_le _⟩⟩⟩, by decide, rfl, by decide⟩

/-- The hypotheses of `Obligations.VectorOperationsFrame` are met: an IADD that runs, a lane of another register, another
tile. -/
theorem witness_vector_operations_frame :
    ∃ (k : ChipId) (r : RegionId) (p : TileId) (s t : State) (i : Instr) (v n q : Nat),
      i ∈ vectorOps k r p ∧ exec i s = .next t ∧ v ≠ vd ((s.chip k).desc r p) ∧ n < 64 ∧ q ≠ tileIx r p ∧
      ((t.chip k).tile (tileIx r p)).pc = 64 :=
  ⟨0, 0, 0, vec 0x10, after (exec (.iadd 0 0 0) (vec 0x10)), .iadd 0 0 0, 1, 63, 1,
   by simp [vectorOps], rfl, by decide, by decide, by decide, by decide⟩

end Sys2Proof.Tests
end

section
/-! SUPPORT. What each operation on a chip leaves of SEQ, and of its parked waiters where it writes another part of SEQ (R387). The
few operations that touch the pool are stated by its bound of 4,096: a start or a loss of power empties it, an isolation and a
wake take waiters out, an epoch ages them, and a WAIT_GE parks one only where there is room. -/

namespace Sys2Proof.Machine

/-! ### Folds -/

@[simp] theorem foldl_seq {α : Type} {f : Chip → α → Chip} (hf : ∀ c a, (f c a).seq = c.seq) (l : List α) (c : Chip) :
    (l.foldl f c).seq = c.seq := by
  induction l generalizing c with
  | nil => rfl
  | cons a l ih => rw [List.foldl_cons, ih, hf]

@[simp] theorem foldl_waiters {α : Type} {f : Chip → α → Chip} (hf : ∀ c a, (f c a).seq.waiters = c.seq.waiters)
    (l : List α) (c : Chip) : (l.foldl f c).seq.waiters = c.seq.waiters := by
  induction l generalizing c with
  | nil => rfl
  | cons a l ih => rw [List.foldl_cons, ih, hf]

theorem foldl_fst_seq {α β : Type} {f : Chip × β → α → Chip × β} (hf : ∀ x a, (f x a).1.seq = x.1.seq) (l : List α)
    (x : Chip × β) : (l.foldl f x).1.seq = x.1.seq := by
  induction l generalizing x with
  | nil => rfl
  | cons a l ih => rw [List.foldl_cons, ih, hf]

theorem Chip.forRegions_keepsPool {c : Chip} (rs : List Nat) {f : Chip → Nat → Chip}
    (hf : ∀ c r, c.seq.waiters.length ≤ 4096 → (f c r).seq.waiters.length ≤ 4096) (h : c.seq.waiters.length ≤ 4096) :
    (c.forRegions rs f).seq.waiters.length ≤ 4096 := by
  unfold Chip.forRegions
  induction rs generalizing c with
  | nil => exact h
  | cons r rs ih => exact ih (hf c r h)

/-! ### Ops.lean -/

@[simp] theorem Chip.setSession_waiters (c : Chip) (i : Nat) (x : Session) : (c.setSession i x).seq.waiters = c.seq.waiters :=
  (rfl)
@[simp] theorem Chip.setPart_waiters (c : Chip) (p : Nat) (x : Part) : (c.setPart p x).seq.waiters = c.seq.waiters := (rfl)
@[simp] theorem Chip.setItem_waiters (c : Chip) (i : Nat) (x : Item) : (c.setItem i x).seq.waiters = c.seq.waiters := (rfl)
@[simp] theorem Chip.dropItem_waiters (c : Chip) (i : Nat) : (c.dropItem i).seq.waiters = c.seq.waiters := (rfl)
@[simp] theorem Chip.forRegions_seq (c : Chip) (rs : List Nat) {f : Chip → Nat → Chip} (hf : ∀ c r, (f c r).seq = c.seq) :
    (c.forRegions rs f).seq = c.seq := foldl_seq hf rs c
@[simp] theorem Chip.noting_seq (c d : Chip) : (c.noting d).seq = d.seq := by
  unfold Chip.noting
  split <;> simp
@[simp] theorem Chip.wholeReset_waiters (c : Chip) (cause : Nat) : (c.wholeReset cause).seq.waiters = [] := (rfl)
@[simp] theorem Chip.unpowered_waiters (c : Chip) : c.unpowered.seq.waiters = [] := (rfl)

/-! ### ClockOps.lean -/

@[simp] theorem Chip.referenceInvalid_seq (c : Chip) (line : Side) : (c.referenceInvalid line).seq = c.seq := by
  unfold Chip.referenceInvalid
  dsimp only
  repeat' split
  all_goals simp
@[simp] theorem Chip.setLine_seq (c : Chip) (x : Side) (on : Bool) : (c.setLine x on).seq = c.seq := by
  simp [Chip.setLine]
@[simp] theorem Chip.closeLedger_seq (c : Chip) (r pos n : Nat) : (c.closeLedger r pos n).seq = c.seq := by
  simp [Chip.closeLedger]
@[simp] theorem Chip.haltGen_seq (c : Chip) (m pos : Nat) (cycles : List Nat) (h : HaltCause) :
    (c.haltGen m pos cycles h).seq = c.seq := by
  simp [Chip.haltGen]
@[simp] theorem Chip.mapGens_seq (c : Chip) (f : Nat → Gen → Gen) : (c.mapGens f).seq = c.seq := (rfl)
@[simp] theorem Chip.enterHoldover_seq (c : Chip) : c.enterHoldover.seq = c.seq := (rfl)
@[simp] theorem Chip.setIslands_seq (c : Chip) (m : Nat) : (c.setIslands m).seq = c.seq := (rfl)
@[simp] theorem Chip.cancelStep_seq (c : Chip) : c.cancelStep.seq = c.seq := by
  unfold Chip.cancelStep
  split <;> simp
@[simp] theorem Chip.renumber_waiters (c : Chip) (d : Nat) : (c.renumber d).seq.waiters = c.seq.waiters := by
  simp [Chip.renumber]

/-! ### SpineOps.lean -/

@[simp] theorem Chip.feedTo_seq (c : Chip) (b : Nat) : (c.feedTo b).seq = c.seq := by
  simp [Chip.feedTo]
@[simp] theorem Chip.popFeed_seq (c : Chip) (d : Nat) : (c.popFeed d).seq = c.seq := by
  simp [Chip.popFeed]
@[simp] theorem Chip.at_seq (c : Chip) (x : Moment) (d : Nat) : (c.at_ x d).seq = c.seq := by
  simp [Chip.at_]
@[simp] theorem Chip.gotWr_seq (c : Chip) (e src : Nat) : (c.gotWr e src).seq = c.seq := (rfl)
@[simp] theorem Chip.countDiscard_seq (c : Chip) (e n : Nat) : (c.countDiscard e n).seq = c.seq := by
  simp [Chip.countDiscard]
@[simp] theorem Chip.injected_seq (c : Chip) (m : Msg) : (c.injected m).seq = c.seq := by
  simp [Chip.injected]
@[simp] theorem Chip.discardOut_seq (c : Chip) (q : Nat) (writer : Bool) : (c.discardOut q writer).seq = c.seq := by
  unfold Chip.discardOut
  dsimp only
  repeat' split
  all_goals simp
@[simp] theorem Chip.discardIn_seq (c : Chip) (q : Nat) (reader : Bool) : (c.discardIn q reader).seq = c.seq := by
  simp [Chip.discardIn]
@[simp] theorem Chip.discardAt_seq (c : Chip) (q : Nat) (writer : Bool) : (c.discardAt q writer).seq = c.seq := by
  simp [Chip.discardAt]
@[simp] theorem Chip.resetSide_seq (c : Chip) (q : Nat) (writer : Bool) : (c.resetSide q writer).seq = c.seq := by
  simp [Chip.resetSide]
@[simp] theorem Chip.resetQueue_seq (c : Chip) (q : Nat) : (c.resetQueue q).seq = c.seq := by
  simp [Chip.resetQueue]
@[simp] theorem Chip.switchQueues_seq (c : Chip) (rs : List Nat) (single : Bool) : (c.switchQueues rs single).seq = c.seq := by
  simp [Chip.switchQueues]
@[simp] theorem Chip.reportUnfixed_seq (c : Chip) (s old new : Nat) : (c.reportUnfixed s old new).seq = c.seq := by
  simp [Chip.reportUnfixed]
@[simp] theorem Chip.send_seq (c : Chip) (m : Msg) : (c.send m).seq = c.seq := (rfl)
@[simp] theorem Chip.countInjected_seq (c : Chip) (e : Nat) : (c.countInjected e).seq = c.seq := by
  simp [Chip.countInjected]
@[simp] theorem Chip.pushNext_seq (c : Chip) (q : Nat) : (c.pushNext q).seq = c.seq := by
  unfold Chip.pushNext
  dsimp only
  repeat' split
  all_goals simp
@[simp] theorem Chip.pushMany_seq (n : Nat) (c : Chip) (q : Nat) : (Chip.pushMany n c q).seq = c.seq := by
  induction n generalizing c with
  | zero => rfl
  | succ k ih => simp [Chip.pushMany, ih]
@[simp] theorem Chip.inject_seq (c : Chip) (m0 : Msg) : (c.inject m0).seq = c.seq := by
  unfold Chip.inject
  dsimp only
  repeat' split
  all_goals simp
@[simp] theorem Chip.afterTransfer_seq (c : Chip) (r d : Nat) (x : Candidate) : (c.afterTransfer r d x).seq = c.seq := (rfl)
@[simp] theorem Chip.passFlit_seq (c : Chip) (r d : Nat) (x : Candidate) {take : Chip → Flit → Chip}
    (ht : ∀ c f, (take c f).seq = c.seq) : (c.passFlit r d x take).seq = c.seq := by
  simp [Chip.passFlit, ht]
@[simp] theorem Chip.sinkFlit_seq (c : Chip) (e : Nat) (f : Flit) : (c.sinkFlit e f).seq = c.seq := by
  simp [Chip.sinkFlit]
@[simp] theorem Chip.takeFlit_seq (r d : Nat) (c : Chip) (f : Flit) : (Chip.takeFlit r d c f).seq = c.seq := by
  simp [Chip.takeFlit]
@[simp] theorem Chip.transfer_seq (c : Chip) (r d : Nat) (x : Candidate) (poison : Bool) :
    (c.transfer r d x poison).seq = c.seq := by
  simp [Chip.transfer]
@[simp] theorem Chip.popAt_seq (c : Chip) (q i : Nat) : (c.popAt q i).seq = c.seq := by
  unfold Chip.popAt
  split <;> simp
@[simp] theorem Chip.seeAt_seq (c : Chip) (q n : Nat) : (c.seeAt q n).seq = c.seq := (rfl)
@[simp] theorem Chip.popInjection_seq (c : Chip) (q : Nat) : (c.popInjection q).seq = c.seq := by
  unfold Chip.popInjection
  dsimp only
  repeat' split
  all_goals simp

/-! ### Operands.lean -/

@[simp] theorem Chip.onTileMem_seq (c : Chip) (r p : Nat) (f : List Host.Cell → List Host.Cell) :
    (c.onTileMem r p f).seq = c.seq :=
  (rfl)
@[simp] theorem Chip.raiseFlags_seq (c : Chip) (r p fl : Nat) : (c.raiseFlags r p fl).seq = c.seq := by
  simp [Chip.raiseFlags]
@[simp] theorem Chip.itemErrorAt_seq (c : Chip) (r p code off : Nat) : (c.itemErrorAt r p code off).seq = c.seq := by
  simp [Chip.itemErrorAt]
@[simp] theorem Chip.itemError_seq (c : Chip) (r p code : Nat) : (c.itemError r p code).seq = c.seq := by
  simp [Chip.itemError]
@[simp] theorem Chip.issueOp_seq (c : Chip) (r p err : Nat) (d : List Nat) {f : Chip → Chip}
    (hf : (f c).seq = c.seq) : (c.issueOp r p err d f).seq = c.seq := by
  simp [Chip.issueOp, hf]

/-! ### Move.lean -/

@[simp] theorem Chip.issueMsg_seq (c : Chip) (m : Msg) : (c.issueMsg m).seq = c.seq := by
  simp [Chip.issueMsg]
@[simp] theorem pumpSend_seq (c : Chip) (ms : List SendMsg) : (pumpSend c ms).1.seq = c.seq := by
  refine foldl_fst_seq (fun x m => ?_) ms (c, [])
  split
  · rfl
  · split <;> simp
@[simp] theorem pumpReads_seq (c : Chip) (todo : List (Msg × List Nat)) : (pumpReads c todo).1.seq = c.seq := by
  refine foldl_fst_seq (fun x m => ?_) todo (c, [], [])
  split <;> simp
@[simp] theorem Chip.pump_seq (c : Chip) (r p : Nat) : (c.pump r p).seq = c.seq := by
  refine foldl_fst_seq (fun x i => ?_) _ (c, [])
  split <;> simp
@[simp] theorem Chip.doRuns_seq (c : Chip) (r p : Nat) (seq : Bool) (runs : List Run) (reads writes : List (Nat × Nat)) :
    (c.doRuns r p seq runs reads writes).seq = c.seq := by
  simp [Chip.doRuns]

/-! ### Select.lean -/

@[simp] theorem Chip.doSelect_seq (c : Chip) (r p : Nat) (d : List Nat) : (c.doSelect r p d).seq = c.seq := by
  simp [Chip.doSelect]

/-! ### Collect.lean -/

@[simp] theorem Chip.answer_seq (c : Chip) (e : Nat) (rsp : Msg) : (c.answer e rsp).seq = c.seq := by
  simp [Chip.answer]
@[simp] theorem Chip.combineMsg_seq (c : Chip) (r p n : Nat) (q : Msg) : (c.combineMsg r p n q).seq = c.seq := by
  simp [Chip.combineMsg]

/-! ### RingOps.lean -/

@[simp] theorem Chip.post_waiters (c : Chip) (g : Nat) (x : Completion) : (c.post g x).seq.waiters = c.seq.waiters := by
  simp [Chip.post]
@[simp] theorem Chip.popCommand_seq (c : Chip) (g : Nat) : (c.popCommand g).seq = c.seq := (rfl)
@[simp] theorem Chip.toBackground_seq (c : Chip) (g : Nat) : (c.toBackground g).seq = c.seq := (rfl)
@[simp] theorem Chip.endBackground_seq (c : Chip) (g op : Nat) : (c.endBackground g op).seq = c.seq := (rfl)
@[simp] theorem Chip.complete_waiters (c : Chip) (g : Nat) (bs : List Byte) (status code res0 res1 : Nat) :
    (c.complete g bs status code res0 res1).seq.waiters = c.seq.waiters := by
  simp [Chip.complete]
@[simp] theorem Chip.refuse_waiters (c : Chip) (g : Nat) (bs : List Byte) (tag : Tag) (nn inst : Nat) :
    (c.refuse g bs tag nn inst).seq.waiters = c.seq.waiters := by
  simp [Chip.refuse]

/-! ### SeqOps.lean -/

@[simp] theorem Chip.cacheSession_waiters (c : Chip) (i : Nat) : (c.cacheSession i).seq.waiters = c.seq.waiters := by
  simp [Chip.cacheSession]
@[simp] theorem Chip.useSession_waiters (c : Chip) (i : Nat) (f : Session → Session) :
    (c.useSession i f).seq.waiters = c.seq.waiters := by
  simp [Chip.useSession]
@[simp] theorem Chip.frameCompletion_waiters (c : Chip) (i : Nat) (status gen : Nat) (err flags : Nat) (late spec : Bool)
    (epoch releases : Nat) :
    
    (c.frameCompletion i status gen err flags late spec epoch releases).seq.waiters = c.seq.waiters := by
  simp [Chip.frameCompletion]
@[simp] theorem Chip.closeNow_waiters (c : Chip) (i : Nat) (releases : Nat) :
    (c.closeNow i releases).seq.waiters = c.seq.waiters := by
  unfold Chip.closeNow
  dsimp only
  repeat' split
  all_goals simp
@[simp] theorem Chip.afterFinal_waiters (c : Chip) (i : Nat) (releases : Nat) :
    (c.afterFinal i releases).seq.waiters = c.seq.waiters := by
  simp [Chip.afterFinal]
@[simp] theorem Chip.confirmHeld_waiters (c : Chip) (i : Nat) (late : Bool) :
    (c.confirmHeld i late).seq.waiters = c.seq.waiters := by
  simp [Chip.confirmHeld]
@[simp] theorem Chip.finishItem_waiters (c : Chip) (n : Nat) : (c.finishItem n).seq.waiters = c.seq.waiters := by
  unfold Chip.finishItem
  split <;> simp
@[simp] theorem Chip.settleItem_waiters (c : Chip) (n : Nat) : (c.settleItem n).seq.waiters = c.seq.waiters := by
  unfold Chip.settleItem
  split <;> simp
@[simp] theorem Chip.startStage_waiters (c : Chip) (n l : Nat) : (c.startStage n l).seq.waiters = c.seq.waiters := by
  unfold Chip.startStage
  split <;> simp
@[simp] theorem Chip.admitItem_waiters (c : Chip) (i : Nat) (lanes : Bool × Bool) :
    (c.admitItem i lanes).seq.waiters = c.seq.waiters := by
  simp [Chip.admitItem]
@[simp] theorem Chip.returnItem_waiters (c : Chip) (n : Nat) : (c.returnItem n).seq.waiters = c.seq.waiters := by
  unfold Chip.returnItem
  split <;> simp
@[simp] theorem Chip.returnQueued_waiters (c : Chip) (r : Nat) : (c.returnQueued r).seq.waiters = c.seq.waiters := by
  simp [Chip.returnQueued]
@[simp] theorem Chip.stopTiles_seq (c : Chip) (r : Nat) : (c.stopTiles r).seq = c.seq := by
  simp [Chip.stopTiles]
@[simp] theorem Chip.abortRegion_waiters (c : Chip) (r : Nat) : (c.abortRegion r).seq.waiters = c.seq.waiters := by
  simp only [Chip.abortRegion, Chip.stopTiles_seq, Chip.returnQueued_waiters]
  exact foldl_waiters (fun c e => by split <;> simp) _ c
@[simp] theorem Chip.abortAll_waiters (c : Chip) : c.abortAll.seq.waiters = c.seq.waiters :=
  foldl_waiters (fun c e => by split <;> simp) _ c
@[simp] theorem Chip.refreshPart_waiters (c : Chip) (p : Nat) : (c.refreshPart p).seq.waiters = c.seq.waiters := by
  simp [Chip.refreshPart]
@[simp] theorem Chip.refreshAll_waiters (c : Chip) : c.refreshAll.seq.waiters = c.seq.waiters := by
  simp [Chip.refreshAll]
@[simp] theorem Chip.loseModel_waiters (c : Chip) (p : Nat) : (c.loseModel p).seq.waiters = c.seq.waiters := by
  simp [Chip.loseModel]
@[simp] theorem Chip.checkLanes_waiters (c : Chip) (p : Nat) : (c.checkLanes p).seq.waiters = c.seq.waiters := by
  simp [Chip.checkLanes]
@[simp] theorem Chip.changeRegion_waiters (c : Chip) (r : Nat) (f : Region → Region) :
    (c.changeRegion r f).seq.waiters = c.seq.waiters := by
  simp [Chip.changeRegion]

/-! ### RegionOps.lean -/

@[simp] theorem Chip.hwSetB_seq (c : Chip) (r : Nat) (f : ClassB → ClassB) : (c.hwSetB r f).seq = c.seq := (rfl)
@[simp] theorem Chip.serve_seq (c : Chip) (r : Nat) : (c.serve r).seq = c.seq := (rfl)
@[simp] theorem Chip.serveIfReady_seq (c : Chip) (r : Nat) : (c.serveIfReady r).seq = c.seq := by
  simp [Chip.serveIfReady]
@[simp] theorem Chip.serveWaiting_seq (c : Chip) : c.serveWaiting.seq = c.seq := by
  simp [Chip.serveWaiting]
@[simp] theorem Chip.goOut_waiters (c : Chip) (r : Nat) : (c.goOut r).seq.waiters = c.seq.waiters := by
  simp [Chip.goOut]
@[simp] theorem Chip.answerIsolated_seq (c : Chip) (r : Nat) : (c.answerIsolated r).seq = c.seq := (rfl)
@[simp] theorem Chip.isolate_keepsPool (c : Chip) (r : Nat) (h : c.seq.waiters.length ≤ 4096) :
    (c.isolate r).seq.waiters.length ≤ 4096 := by
  simp only [Chip.isolate, Chip.onSeq_seq_eq, Chip.abortRegion_waiters]
  exact (List.length_filter_le _ _).trans (by simpa)
@[simp] theorem Chip.retire_waiters (c0 : Chip) (r : Nat) : (c0.retire r).seq.waiters = c0.seq.waiters := by
  simp [Chip.retire]
@[simp] theorem Chip.startDissolve_waiters (c : Chip) (r : Nat) : (c.startDissolve r).seq.waiters = c.seq.waiters := by
  simp [Chip.startDissolve]
@[simp] theorem Chip.failTile_waiters (c : Chip) (r q : Nat) : (c.failTile r q).seq.waiters = c.seq.waiters := by
  unfold Chip.failTile
  split <;> simp
@[simp] theorem Chip.applyDissolve_waiters (c : Chip) (d : Dissolve) : (c.applyDissolve d).seq.waiters = c.seq.waiters := by
  simp [Chip.applyDissolve]

/-! ### Counters.lean -/

@[simp] theorem Chip.denyCounter_waiters (c : Chip) : c.denyCounter.seq.waiters = c.seq.waiters := (rfl)
@[simp] theorem Chip.answerWaiter_waiters (c : Chip) (w : Waiter) (outcome : Nat) :
    (c.answerWaiter w outcome).seq.waiters = c.seq.waiters := by
  unfold Chip.answerWaiter
  split
  · simp
  · split <;> simp
@[simp] theorem Chip.wakeCounter_keepsPool (c : Chip) (n : Nat) (h : c.seq.waiters.length ≤ 4096) :
    (c.wakeCounter n).seq.waiters.length ≤ 4096 := by
  simp only [Chip.wakeCounter, foldl_waiters (fun c w => Chip.answerWaiter_waiters c w 0), Chip.onSeq_seq_eq]
  exact (List.length_filter_le _ _).trans h
@[simp] theorem Chip.addCounter_keepsPool (c : Chip) (n v : Nat) (h : c.seq.waiters.length ≤ 4096) :
    (c.addCounter n v).seq.waiters.length ≤ 4096 :=
  Chip.wakeCounter_keepsPool _ n (by simpa)
@[simp] theorem Chip.setCounter_keepsPool (c : Chip) (n v : Nat) (h : c.seq.waiters.length ≤ 4096) :
    (c.setCounter n v).seq.waiters.length ≤ 4096 :=
  Chip.wakeCounter_keepsPool _ n (by simpa)
@[simp] theorem Chip.waitCounter_keepsPool (c : Chip) (w : Waiter) (h : c.seq.waiters.length ≤ 4096) :
    (c.waitCounter w).seq.waiters.length ≤ 4096 := by
  simp only [Chip.waitCounter]
  split
  · simpa
  · split
    · simpa
    · simp_all
@[simp] theorem Chip.dropEvt_seq (c : Chip) : c.dropEvt.seq = c.seq := (rfl)
@[simp] theorem Chip.writeOwner_waiters (c : Chip) (i v : Nat) : (c.writeOwner i v).seq.waiters = c.seq.waiters := by
  simp [Chip.writeOwner]

/-! ### Sync.lean -/

@[simp] theorem Chip.fenceFor_seq (c : Chip) (r p : Nat) (k : List Nat → Pending) : (c.fenceFor r p k).seq = c.seq := by
  simp [Chip.fenceFor]
@[simp] theorem Chip.issueEvt_seq (c : Chip) (r p : Nat) (m : Msg) : (c.issueEvt r p m).seq = c.seq := by
  simp [Chip.issueEvt]
@[simp] theorem Chip.waitFails_seq (c : Chip) (r p : Nat) (i : Issued) (code : Nat) : (c.waitFails r p i code).seq = c.seq := by
  simp [Chip.waitFails]

/-! ### TileMem.lean -/

@[simp] theorem Chip.dropWr_seq (c : Chip) (e : Nat) : (c.dropWr e).seq = c.seq := (rfl)
@[simp] theorem Chip.countEndpoint_seq (c : Chip) (r off n : Nat) : (c.countEndpoint r off n).seq = c.seq := (rfl)
@[simp] theorem Chip.flushTile_seq (c : Chip) (t : Nat) : (c.flushTile t).seq = c.seq := by
  simp [Chip.flushTile]
@[simp] theorem Chip.itemStops_seq (c : Chip) (r p code : Nat) : (c.itemStops r p code).seq = c.seq := by
  simp [Chip.itemStops]
@[simp] theorem Chip.residue_seq (c : Chip) (r p : Nat) : (c.residue r p).seq = c.seq := by
  simp [Chip.residue]
@[simp] theorem Chip.poisoned_seq (c : Chip) (r p off : Nat) (reader : LineReader) :
    (c.poisoned r p off reader).seq = c.seq := by
  unfold Chip.poisoned
  dsimp only
  repeat' split
  all_goals simp
@[simp] theorem Chip.lineZeroed_waiters (c : Chip) (r p off : Nat) : (c.lineZeroed r p off).seq.waiters = c.seq.waiters := by
  simp [Chip.lineZeroed]
@[simp] theorem Chip.lineError_waiters (c : Chip) (r p off : Nat) (reader : LineReader) (rewriteOk res resFirst : Bool) :
    (c.lineError r p off reader rewriteOk res resFirst).seq.waiters = c.seq.waiters := by
  simp [Chip.lineError]

/-! ### Arbiter.lean -/

@[simp] theorem Chip.tookWr_seq (c : Chip) (h : Nat) : (c.tookWr h).seq = c.seq := (rfl)
@[simp] theorem Chip.tookReq_seq (c : Chip) (h : Nat) : (c.tookReq h).seq = c.seq := (rfl)
@[simp] theorem Chip.grantBurst_seq (c : Chip) (h : Nat) (g : Group) (err : LinkErr) : (c.grantBurst h g err).seq = c.seq := by
  simp [Chip.grantBurst]
@[simp] theorem Chip.switchTable_waiters (c : Chip) (h : Nat) : (c.switchTable h).seq.waiters = c.seq.waiters := by
  unfold Chip.switchTable
  dsimp only
  repeat' split
  all_goals simp
@[simp] theorem Chip.arbitrate_waiters (c0 : Chip) (h : Nat) (busy : Bool) (err : LinkErr) :
    (c0.arbitrate h busy err).seq.waiters = c0.seq.waiters := by
  unfold Chip.arbitrate
  dsimp only
  repeat' split
  all_goals simp

/-! ### Commit.lean -/

@[simp] theorem Chip.acceptCommit_seq (c : Chip) : c.acceptCommit.seq = c.seq := by
  simp [Chip.acceptCommit]
@[simp] theorem Chip.endRoll_seq (c : Chip) : c.endRoll.seq = c.seq := (rfl)
@[simp] theorem Chip.endRollIfDone_seq (c : Chip) : c.endRollIfDone.seq = c.seq := by
  simp [Chip.endRollIfDone]
@[simp] theorem Chip.applyA_seq (c : Chip) (a : ClassA) : (c.applyA a).seq = c.seq := by
  simp [Chip.applyA]
@[simp] theorem Chip.programCommitWord_seq (c : Chip) (ok : Bool) : (c.programCommitWord ok).seq = c.seq := by
  simp [Chip.programCommitWord]
@[simp] theorem Chip.leaveGang_seq (c : Chip) (r : Nat) : (c.leaveGang r).seq = c.seq := by
  simp [Chip.leaveGang]
@[simp] theorem Chip.joinGang_seq (c : Chip) (r m : Nat) : (c.joinGang r m).seq = c.seq := by
  simp [Chip.joinGang]
@[simp] theorem Chip.moveSpare_seq (c : Chip) (r new : Nat) : (c.moveSpare r new).seq = c.seq := by
  simp [Chip.moveSpare]
@[simp] theorem Chip.applyStep_waiters (c : Chip) (r : Nat) (copyUe : Bool) :
    (c.applyStep r copyUe).seq.waiters = c.seq.waiters := by
  simp [Chip.applyStep]
@[simp] theorem Chip.resume_seq (c : Chip) (r : Nat) : (c.resume r).seq = c.seq := (rfl)
@[simp] theorem Chip.stepStatus_waiters (c : Chip) (r : Nat) : (c.stepStatus r).seq.waiters = c.seq.waiters := by
  simp [Chip.stepStatus]

/-! ### BringUp.lean -/

@[simp] theorem Chip.restart_waiters (c : Chip) (cause : Nat) : (c.restart cause).seq.waiters = [] := by
  simp [Chip.restart]
@[simp] theorem Chip.enter_seq (c : Chip) (p : Phase) : (c.enter p).seq = c.seq := (rfl)
@[simp] theorem Chip.startFails_seq (c : Chip) (nn inst : Nat) : (c.startFails nn inst).seq = c.seq := (rfl)
@[simp] theorem Chip.readSlot_seq (c : Chip) (n : Nat) : (c.readSlot n).seq = c.seq := (rfl)
@[simp] theorem Chip.rejectImage_waiters (c : Chip) : c.rejectImage.seq.waiters = [] := by
  simp [Chip.rejectImage]
@[simp] theorem Chip.selectReference_seq (c : Chip) : c.selectReference.seq = c.seq := by
  unfold Chip.selectReference
  split <;> simp
@[simp] theorem Chip.applyC_seq (c : Chip) (v : ClassC) : (c.applyC v).seq = c.seq := (rfl)
@[simp] theorem Chip.trySlots_seq (c : Chip) (ns : List Nat) : (c.trySlots ns).1.seq = c.seq := by
  induction ns generalizing c with
  | nil => rfl
  | cons n t ih =>
    unfold Chip.trySlots
    dsimp only
    split
    · simp
    · simp [ih]
@[simp] theorem Chip.selectImage_keepsPool (c : Chip) (h : c.seq.waiters.length ≤ 4096) :
    c.selectImage.seq.waiters.length ≤ 4096 := by
  simp only [Chip.selectImage]
  split
  · simpa
  · split <;> simp [h]
@[simp] theorem Chip.enterClocks_seq (c : Chip) : c.enterClocks.seq = c.seq := by
  simp [Chip.enterClocks]
@[simp] theorem Chip.initMemory_seq (c : Chip) : c.initMemory.seq = c.seq := by
  simp [Chip.initMemory]
@[simp] theorem Chip.configure_keepsPool (c : Chip) (h : c.seq.waiters.length ≤ 4096) :
    c.configure.seq.waiters.length ≤ 4096 := by
  unfold Chip.configure
  split <;> simp [h]
@[simp] theorem Chip.applyRepair_seq (c : Chip) : c.applyRepair.seq = c.seq := (rfl)
@[simp] theorem Chip.selfTested_waiters (c : Chip) (f : PosFail) : (c.selfTested f).seq.waiters = c.seq.waiters := by
  unfold Chip.selfTested
  dsimp only
  repeat' split
  all_goals simp

/-! ### Crossing.lean -/

@[simp] theorem Chip.reportAllUnfixed_seq (c : Chip) : c.reportAllUnfixed.seq = c.seq := by
  simp [Chip.reportAllUnfixed]
@[simp] theorem Chip.deliver_seq (c : Chip) (q : Nat) : (c.deliver q).seq = c.seq := by
  unfold Chip.deliver
  dsimp only
  repeat' split
  all_goals simp
@[simp] theorem Chip.offer_seq (c : Chip) (q : Nat) : (c.offer q).seq = c.seq := by
  unfold Chip.offer
  split
  · rfl
  · split
    · simp
    · split <;> simp

/-! ### EnergyOps.lean -/

@[simp] theorem Chip.countIdle_seq (c : Chip) (act : Activity) : (c.countIdle act).seq = c.seq := by
  simp [Chip.countIdle]
@[simp] theorem Chip.clearInterval_seq (c : Chip) : c.clearInterval.seq = c.seq := (rfl)
@[simp] theorem Chip.addInterval_seq (c : Chip) (v : Interval) : (c.addInterval v).seq = c.seq := by
  simp [Chip.addInterval]
@[simp] theorem Chip.latchSweep_seq (c : Chip) : c.latchSweep.seq = c.seq := by
  simp [Chip.latchSweep]
@[simp] theorem Chip.closeFrame_seq (c : Chip) : c.closeFrame.seq = c.seq := (rfl)

/-! ### Sessions.lean -/

@[simp] theorem Chip.accept_waiters (c : Chip) (g : Nat) (bs : List Byte) (res0 : Nat := 0) :
    (c.accept g bs res0).seq.waiters = c.seq.waiters := by
  simp [Chip.accept]
@[simp] theorem Chip.refuseSession_waiters (c : Chip) (g : Nat) (bs : List Byte) :
    (c.refuseSession g bs).seq.waiters = c.seq.waiters := by
  simp [Chip.refuseSession]
@[simp] theorem Chip.armWith_waiters (c : Chip) (g : Nat) (bs : List Byte) (predict : Bool) :
    (c.armWith g bs predict).seq.waiters = c.seq.waiters := by
  unfold Chip.armWith
  dsimp only
  repeat' split
  all_goals simp
@[simp] theorem Chip.cancelAhead_waiters (c : Chip) (i : Nat) : (c.cancelAhead i).seq.waiters = c.seq.waiters := by
  simp [Chip.cancelAhead]
@[simp] theorem Chip.decideCancel_waiters (c : Chip) (i : Nat) : (c.decideCancel i).seq.waiters = c.seq.waiters := by
  simp [Chip.decideCancel]
@[simp] theorem Chip.reported_waiters (c : Chip) (n t err fl : Nat) : (c.reported n t err fl).seq.waiters = c.seq.waiters := by
  unfold Chip.reported
  split <;> simp
@[simp] theorem Chip.showResidency_waiters (c : Chip) (bs : List Byte) : (c.showResidency bs).seq.waiters = c.seq.waiters :=
  (rfl)
@[simp] theorem Chip.doCopies_seq (c : Chip) (es : List CopyEntry) : (c.doCopies es).seq = c.seq := by
  simp [Chip.doCopies]
@[simp] theorem Chip.applyMap_waiters (c : Chip) (p : Nat) (es : List (Nat × MapEntry)) :
    (c.applyMap p es).seq.waiters = c.seq.waiters :=
  (rfl)
@[simp] theorem Chip.finishLoad_waiters (c : Chip) (bs : List Byte) : (c.finishLoad bs).seq.waiters = c.seq.waiters := by
  simp [Chip.finishLoad]
@[simp] theorem Chip.counterDone_waiters (c : Chip) (g : Nat) (bs : List Byte) (v : Nat) :
    (c.counterDone g bs v).seq.waiters = c.seq.waiters := by
  simp [Chip.counterDone]

/-! ### Energy.lean -/

@[simp] theorem Chip.bookOne_seq (c : Chip) (missing : Nat → Bool) (b : Booking) : (c.bookOne missing b).seq = c.seq := (rfl)
@[simp] theorem Chip.bookSweep_seq (c : Chip) (x : Sweep) : (c.bookSweep x).seq = c.seq := by
  simp [Chip.bookSweep]
@[simp] theorem Chip.updateGain_seq (c : Chip) (i free : Nat) : (c.updateGain i free).seq = c.seq := by
  simp [Chip.updateGain]

/-! ### Epoch.lean -/

@[simp] theorem Chip.endGenerators_seq (c : Chip) (len : Nat) (cycles : List Nat) :
    (c.endGenerators len cycles).seq = c.seq := by
  simp [Chip.endGenerators]
@[simp] theorem Chip.switchNow_seq (c : Chip) : c.switchNow.seq = c.seq := by
  unfold Chip.switchNow
  split <;> simp
@[simp] theorem Chip.ageWatchdogs_waiters (c : Chip) : c.ageWatchdogs.seq.waiters = c.seq.waiters := by
  simp [Chip.ageWatchdogs]
@[simp] theorem Chip.ageHandshakes_seq (c : Chip) : c.ageHandshakes.seq = c.seq := by
  simp [Chip.ageHandshakes]
@[simp] theorem Chip.ageLanes_seq (c : Chip) : c.ageLanes.seq = c.seq := (rfl)
@[simp] theorem Chip.ageEndpoints_seq (c : Chip) : c.ageEndpoints.seq = c.seq := (rfl)
@[simp] theorem Chip.older_keepsPool (c : Chip) (h : c.seq.waiters.length ≤ 4096) : c.older.seq.waiters.length ≤ 4096 := by
  simpa [Chip.older]
@[simp] theorem Chip.newSecond_seq (c : Chip) : c.newSecond.seq = c.seq := (rfl)
@[simp] theorem Chip.passBoundary_keepsPool (c : Chip) (t : TimeBase) (len shift : Nat) (cycles : List Nat)
    (h : c.seq.waiters.length ≤ 4096) :
    
    (c.passBoundary t len shift cycles).seq.waiters.length ≤ 4096 := by
  simp [Chip.passBoundary, h]
@[simp] theorem Chip.notingTime_seq (c d : Chip) : (c.notingTime d).seq = d.seq := by
  unfold Chip.notingTime
  split <;> simp
@[simp] theorem Chip.epochBoundary_keepsPool (c : Chip) (cycles : List Nat) (h : c.seq.waiters.length ≤ 4096) :
    (c.epochBoundary cycles).seq.waiters.length ≤ 4096 := by
  simp [Chip.epochBoundary, h]
@[simp] theorem Chip.ppsEdge_keepsPool (c : Chip) (pos : Nat) (cycles : List Nat) (h : c.seq.waiters.length ≤ 4096) :
    (c.ppsEdge pos cycles).seq.waiters.length ≤ 4096 := by
  simp only [Chip.ppsEdge]
  split <;> simp [h]
@[simp] theorem Chip.newFrame_waiters (c : Chip) : c.newFrame.seq.waiters = c.seq.waiters := (rfl)
@[simp] theorem Chip.frameTick_waiters (c : Chip) : c.frameTick.seq.waiters = c.seq.waiters := by
  simp [Chip.frameTick]

/-! ### HifOps.lean -/

@[simp] theorem Chip.pumpFlush_seq (c : Chip) : c.pumpFlush.seq = c.seq := by
  refine foldl_fst_seq (fun x i => ?_) _ (c, [])
  split
  · rfl
  · split <;> simp
@[simp] theorem Chip.flushFor_seq (c : Chip) (g : Nat) : (c.flushFor g).seq = c.seq := by
  simp [Chip.flushFor]
@[simp] theorem Chip.flushRsp_seq (c : Chip) (tag status : Nat) : (c.flushRsp tag status).seq = c.seq := by
  simp [Chip.flushRsp]
@[simp] theorem Chip.answerReads_seq (c : Chip) : c.answerReads.seq = c.seq := by
  unfold Chip.answerReads
  split <;> simp
@[simp] theorem Chip.pumpInbox_seq (c : Chip) : c.pumpInbox.seq = c.seq := by
  refine foldl_fst_seq (fun x i => ?_) _ (c, [])
  split
  · rfl
  · split <;> simp
@[simp] theorem Chip.inboxRsp_seq (c : Chip) (m : Msg) : (c.inboxRsp m).seq = c.seq := (rfl)
@[simp] theorem Chip.hifRsp_seq (c : Chip) (m : Msg) : (c.hifRsp m).seq = c.seq := by
  simp [Chip.hifRsp]
@[simp] theorem Chip.holdAll_waiters (c : Chip) (g : Nat) : (c.holdAll g).seq.waiters = c.seq.waiters := by
  simp [Chip.holdAll]
@[simp] theorem Chip.disableRing_waiters (c : Chip) (g : Nat) : (c.disableRing g).seq.waiters = c.seq.waiters := by
  simp [Chip.disableRing]
@[simp] theorem Chip.voidReads_seq (c : Chip) : c.voidReads.seq = c.seq := by
  simp [Chip.voidReads]
@[simp] theorem Chip.resetHif_waiters (c : Chip) : c.resetHif.seq.waiters = c.seq.waiters := by
  simp [Chip.resetHif]

/-! ### Meter.lean -/

@[simp] theorem Chip.takeBank_seq (c : Chip) (b : Nat) (slot : List Nat) : (c.takeBank b slot).seq = c.seq := by
  simp [Chip.takeBank]
@[simp] theorem Chip.takeGrant_seq (c : Chip) (g x b : Nat) : (c.takeGrant g x b).seq = c.seq := by
  simp [Chip.takeGrant]
@[simp] theorem Chip.readFrame_seq (c : Chip) (r : MeterRing) (node : Nat) : (c.readFrame r node).seq = c.seq := by
  unfold Chip.readFrame
  dsimp only
  repeat' split
  all_goals simp

/-! ### Power.lean -/

@[simp] theorem Chip.takeCap_seq (c : Chip) : c.takeCap.seq = c.seq := (rfl)
@[simp] theorem Chip.pushWindow_seq (c : Chip) (v : Interval) : (c.pushWindow v).seq = c.seq := (rfl)
@[simp] theorem Chip.capStep_seq (c : Chip) (v : Interval) : (c.capStep v).seq = c.seq := by
  simp [Chip.capStep]
@[simp] theorem Chip.heatAll_seq (c : Chip) : c.heatAll.seq = c.seq := by
  simp [Chip.heatAll]
@[simp] theorem Chip.stir_seq (c : Chip) (v : Interval) (capFill : Nat) : (c.stir v capFill).seq = c.seq := by
  simp [Chip.stir]
@[simp] theorem Chip.trip_keepsPool (c : Chip) (r pos : Nat) (cycles : List Nat) (h : c.seq.waiters.length ≤ 4096) :
    (c.trip r pos cycles).seq.waiters.length ≤ 4096 := by
  simp only [Chip.trip, Chip.fault_seq]
  refine Chip.forRegions_keepsPool _ (fun c x hc => ?_) ?_
  · split
    · exact hc
    · exact Chip.isolate_keepsPool c x hc
  · split <;> simp [h]

/-! ### HifRegs.lean -/

@[simp] theorem Chip.regClear_waiters (c : Chip) (r : Reg) (i : Nat) : (c.regClear r i).seq.waiters = c.seq.waiters := by
  unfold Chip.regClear
  split <;> simp
@[simp] theorem Chip.stageA_seq (c : Chip) (f : ClassA → ClassA) : (c.stageA f).seq = c.seq := (rfl)
@[simp] theorem Chip.stageB_seq (c : Chip) (r : Nat) (f : ClassB → ClassB) : (c.stageB r f).seq = c.seq := (rfl)
@[simp] theorem Chip.regStore_waiters (c : Chip) (r : Reg) (i v : Nat) : (c.regStore r i v).seq.waiters = c.seq.waiters := by
  unfold Chip.regStore
  split <;> simp

/-! ### Hif.lean -/

@[simp] theorem Chip.dropDoorbell_seq (c : Chip) : c.dropDoorbell.seq = c.seq := (rfl)
@[simp] theorem Chip.refuseFlash_seq (c : Chip) (reason : Nat) : (c.refuseFlash reason).seq = c.seq := (rfl)
@[simp] theorem Chip.startFlash_seq (c : Chip) (cmd : Nat) : (c.startFlash cmd).seq = c.seq := (rfl)
@[simp] theorem Chip.dropContribution_seq (c : Chip) : c.dropContribution.seq = c.seq := (rfl)
@[simp] theorem Chip.badBar0_seq (c : Chip) : c.badBar0.seq = c.seq := (rfl)

/-! ### Matrix.lean -/

@[simp] theorem Chip.doMatrix_seq (c : Chip) (r p : Nat) (d : List Nat) : (c.doMatrix r p d).seq = c.seq := by
  simp [Chip.doMatrix]

/-! ### Responses.lean -/

@[simp] theorem Chip.endFences_seq (c : Chip) (r p : Nat) : (c.endFences r p).seq = c.seq := by
  simp [Chip.endFences]
@[simp] theorem Chip.remoteFails_seq (c : Chip) (r p off : Nat) : (c.remoteFails r p off).seq = c.seq := by
  simp [Chip.remoteFails]
@[simp] theorem Chip.takeLines_seq (c : Chip) (r p : Nat) (dsts : List Nat) (data : List Byte) :
    (c.takeLines r p dsts data).seq = c.seq :=
  (rfl)
@[simp] theorem Chip.waitOutcome_seq (c : Chip) (r p : Nat) (i : Issued) (tag outcome : Nat) :
    (c.waitOutcome r p i tag outcome).seq = c.seq := by
  unfold Chip.waitOutcome
  split <;> simp
@[simp] theorem Chip.opRsp_seq (c : Chip) (r p : Nat) (i : Issued) (m : Msg) : (c.opRsp r p i m).seq = c.seq := by
  unfold Chip.opRsp
  dsimp only
  repeat' split
  all_goals simp
@[simp] theorem Chip.pumpRegion_seq (c : Chip) (r : Nat) : (c.pumpRegion r).seq = c.seq := by
  simp [Chip.pumpRegion]
@[simp] theorem Chip.regionRsp_seq (c : Chip) (r : Nat) (m : Msg) : (c.regionRsp r m).seq = c.seq := by
  unfold Chip.regionRsp
  split <;> simp
@[simp] theorem Chip.consume_seq (c : Chip) (e : Nat) (m : Msg) : (c.consume e m).seq = c.seq := by
  simp [Chip.consume]

end Sys2Proof.Machine
end

section
/-! SUPPORT. Every command keeps the bound of the waiter pool on every chip (R387). `State.KeepsPool` is the relation between two
states, `KeepsPool` the one between a state and an outcome; each function from states to states and each command has its lemma. -/

namespace Sys2Proof.Machine

/-- On every chip, a waiter pool of at most 4,096 in `s` is one of at most 4,096 in `t`. -/
def State.KeepsPool (s t : State) : Prop :=
  ∀ n, (s.chip n).seq.waiters.length ≤ 4096 → (t.chip n).seq.waiters.length ≤ 4096

@[simp] theorem State.KeepsPool.refl (s : State) : s.KeepsPool s := fun _ h => h

theorem State.KeepsPool.trans {s t u : State} (h : s.KeepsPool t) (g : t.KeepsPool u) : s.KeepsPool u :=
  fun n p => g n (h n p)

/-- A chip is replaced by one that keeps the bound. -/
theorem State.KeepsPool.setChip {s u : State} {k : Nat} {c : Chip} (hu : s.KeepsPool u)
    (hc : (u.chip k).seq.waiters.length ≤ 4096 → c.seq.waiters.length ≤ 4096) : s.KeepsPool (u.setChip k c) := by
  intro n h
  rw [State.chip_setChip]
  split
  case isTrue e => exact hc (e ▸ hu n h)
  case isFalse => exact hu n h

theorem State.KeepsPool.foldl {α : Type} {f : State → α → State} (hf : ∀ (u : State) a, u.KeepsPool (f u a)) (l : List α)
    {s u : State} (h : s.KeepsPool u) : s.KeepsPool (l.foldl f u) := by
  induction l generalizing u with
  | nil => exact h
  | cons a l ih => exact ih (h.trans (hf u a))

/-- A chip is replaced by one with the same parked waiters. -/
@[simp] theorem State.keepsPool_setChip {s u : State} {k : Nat} {c : Chip} (hc : c.seq.waiters = (u.chip k).seq.waiters) :
    s.KeepsPool (u.setChip k c) ↔ s.KeepsPool u := by
  refine forall_congr' fun n => imp_congr_right fun _ => ?_
  rw [State.chip_setChip]
  split
  case isTrue e => rw [e, hc]
  case isFalse => rfl

@[simp] theorem State.keepsPool_onChip {s u : State} {k : Nat} {f : Chip → Chip}
    (hf : (f (u.chip k)).seq.waiters = (u.chip k).seq.waiters) : s.KeepsPool (u.onChip k f) ↔ s.KeepsPool u :=
  State.keepsPool_setChip hf

@[simp] theorem State.keepsPool_onTray (s u : State) (f : Tray → Tray) : s.KeepsPool (u.onTray f) ↔ s.KeepsPool u := Iff.rfl

/-- Only the chips of a state matter. -/
@[simp] theorem State.keepsPool_mk (s u : State) (t : Tray) (m : List Host.Cell) (p : List Instr) (n : Nat) :
    s.KeepsPool { tray := t, chips := u.chips, hostMem := m, pending := p, fresh := n } ↔ s.KeepsPool u := Iff.rfl

@[simp] theorem State.keepsPool_ite (s t u : State) (b : Prop) [Decidable b] :
    s.KeepsPool (if b then t else u) ↔ (b → s.KeepsPool t) ∧ (¬b → s.KeepsPool u) := by
  by_cases b <;> simp [*]

/-- The next state of the outcome `o`, where it is one, keeps the bound that held in `s`. -/
def KeepsPool (s : State) (o : Out) : Prop := ∀ t, o = .next t → s.KeepsPool t

@[simp] theorem keepsPool_next (s t : State) : KeepsPool s (.next t) ↔ s.KeepsPool t := by
  simp [KeepsPool]

@[simp] theorem keepsPool_ite (b : Prop) [Decidable b] (s : State) (o p : Out) :
    KeepsPool s (if b then o else p) ↔ (b → KeepsPool s o) ∧ (¬b → KeepsPool s p) := by
  by_cases b <;> simp [*]

@[simp] theorem keepsPool_occurs (b : Bool) (s t : State) : KeepsPool s (occurs b s t) ↔ (b → s.KeepsPool t) := by
  cases b <;> simp [KeepsPool]

/-- An event whose effect is on one chip, which keeps the bound. -/
theorem keepsPool_occurs_setChip {b : Bool} {s : State} {k : Nat} {c : Chip}
    (hc : (s.chip k).seq.waiters.length ≤ 4096 → c.seq.waiters.length ≤ 4096) : KeepsPool s (occurs b s (s.setChip k c)) :=
  (keepsPool_occurs b s _).2 fun _ => (State.KeepsPool.refl s).setChip hc

/-! ### Move.lean -/

@[simp] theorem execMove_keepsPool (k : ChipId) (r : RegionId) (p : TileId) (s : State) : KeepsPool s (execMove k r p s) := by
  simp [execMove]
@[simp] theorem tableMove_keepsPool (k : ChipId) (r : RegionId) (p : TileId) (op : Nat) (gather : Bool) (s : State) :
    KeepsPool s (tableMove k r p op gather s) := by
  simp [tableMove]

/-! ### Select.lean -/

@[simp] theorem selectIn_keepsPool (k : ChipId) (r : RegionId) (p : TileId) (colander : Bool) (s : State) :
    KeepsPool s (selectIn k r p colander s) := by
  simp [selectIn]

/-! ### Collect.lean -/

@[simp] theorem execCollectiveArm_keepsPool (k : ChipId) (r : RegionId) (p : TileId) (s : State) :
    KeepsPool s (execCollectiveArm k r p s) := by
  simp [execCollectiveArm]
@[simp] theorem execCollectiveSend_keepsPool (k : ChipId) (r : RegionId) (p : TileId) (s : State) :
    KeepsPool s (execCollectiveSend k r p s) := by
  simp [execCollectiveSend]
@[simp] theorem execCollectResend_keepsPool (k : ChipId) (r : RegionId) (p : TileId) (s : State) :
    KeepsPool s (execCollectResend k r p s) := by
  simp [execCollectResend]
@[simp] theorem execCollectiveWait_keepsPool (k : ChipId) (r : RegionId) (p : TileId) (s : State) :
    KeepsPool s (execCollectiveWait k r p s) := by
  simp [execCollectiveWait]
@[simp] theorem execCollectiveDisarm_keepsPool (k : ChipId) (r : RegionId) (p : TileId) (s : State) :
    KeepsPool s (execCollectiveDisarm k r p s) := by
  simp [execCollectiveDisarm]
@[simp] theorem execCollectiveTimeout_keepsPool (k : ChipId) (r : RegionId) (p : TileId) (s : State) :
    KeepsPool s (execCollectiveTimeout k r p s) := by
  simp only [execCollectiveTimeout]
  split <;> simp
@[simp] theorem execCollect_keepsPool (k : ChipId) (r : RegionId) (s : State) : KeepsPool s (execCollect k r s) := by
  simp only [execCollect]
  repeat' split
  all_goals simp

/-! ### RingOps.lean -/

@[simp] theorem State.keepsPool_writeCompletion {s u : State} (k g : Nat) (x : Completion) (h : s.KeepsPool u) :
    s.KeepsPool (u.writeCompletion k g x) := by
  simp [State.writeCompletion, h]

/-! ### Counters.lean -/

@[simp] theorem execEvtAdd_keepsPool (k : ChipId) (s : State) :
    KeepsPool s (execEvtAdd k s) := by
  simp only [execEvtAdd]
  split
  · simp
  · refine keepsPool_occurs_setChip fun h => ?_
    split
    · exact Chip.addCounter_keepsPool _ _ _ (by simpa)
    · simpa
@[simp] theorem execEvtSet_keepsPool (k : ChipId) (s : State) :
    KeepsPool s (execEvtSet k s) := by
  simp only [execEvtSet]
  split
  · simp
  · refine keepsPool_occurs_setChip fun h => ?_
    split
    · exact Chip.setCounter_keepsPool _ _ _ (by simpa)
    · simpa
@[simp] theorem execEvtWaitGe_keepsPool (k : ChipId) (s : State) :
    KeepsPool s (execEvtWaitGe k s) := by
  simp only [execEvtWaitGe]
  split
  · simp
  · refine keepsPool_occurs_setChip fun h => ?_
    split
    · exact Chip.waitCounter_keepsPool _ _ (by simpa)
    · simpa
@[simp] theorem execCtrRead_keepsPool (k : ChipId) (s : State) : KeepsPool s (execCtrRead k s) := by
  simp only [execCtrRead]
  split <;> simp
@[simp] theorem execWaiterTimeout_keepsPool (k : ChipId) (src : EpId) (tag : Nat) (s : State) :
    KeepsPool s (execWaiterTimeout k src tag s) := by
  simp only [execWaiterTimeout]
  split
  · simp
  · refine keepsPool_occurs_setChip fun h => ?_
    simp only [Chip.answerWaiter_waiters, Chip.onSeq_seq_eq]
    exact List.length_erase_le.trans h
@[simp] theorem execEvtOwnerWrite_keepsPool (k : ChipId) (i : Fin 1024) (v : Word) (s : State) :
    KeepsPool s (execEvtOwnerWrite k i v s) := by
  simp [execEvtOwnerWrite]

/-! ### Sync.lean -/

@[simp] theorem execFence_keepsPool (k : ChipId) (r : RegionId) (p : TileId) (s : State) : KeepsPool s (execFence k r p s) := by
  simp [execFence]
@[simp] theorem signalWith_keepsPool (k : ChipId) (r : RegionId) (p : TileId) (set_ : Bool) (s : State) :
    KeepsPool s (signalWith k r p set_ s) := by
  simp [signalWith]
@[simp] theorem execWait_keepsPool (k : ChipId) (r : RegionId) (p : TileId) (s : State) : KeepsPool s (execWait k r p s) := by
  simp [execWait]
@[simp] theorem execWaitRetry_keepsPool (k : ChipId) (r : RegionId) (p : TileId) (s : State) :
    KeepsPool s (execWaitRetry k r p s) := by
  simp only [execWaitRetry]
  repeat' split
  all_goals simp
@[simp] theorem execWaitReservationTimeout_keepsPool (k : ChipId) (r : RegionId) (p : TileId) (s : State) :
    KeepsPool s (execWaitReservationTimeout k r p s) := by
  simp only [execWaitReservationTimeout]
  repeat' split
  all_goals simp
@[simp] theorem execLoop_keepsPool (k : ChipId) (r : RegionId) (p : TileId) (s : State) : KeepsPool s (execLoop k r p s) := by
  simp [execLoop]
@[simp] theorem execCall_keepsPool (k : ChipId) (r : RegionId) (p : TileId) (s : State) : KeepsPool s (execCall k r p s) := by
  simp [execCall]
@[simp] theorem execRet_keepsPool (k : ChipId) (r : RegionId) (p : TileId) (s : State) : KeepsPool s (execRet k r p s) := by
  simp [execRet]
@[simp] theorem execInvalidOp_keepsPool (k : ChipId) (r : RegionId) (p : TileId) (s : State) :
    KeepsPool s (execInvalidOp k r p s) := by
  simp [execInvalidOp]
@[simp] theorem execItemEnd_keepsPool (k : ChipId) (r : RegionId) (p : TileId) (s : State) :
    KeepsPool s (execItemEnd k r p s) := by
  simp [execItemEnd]
@[simp] theorem execFlush_keepsPool (k : ChipId) (e : EpId) (s : State) : KeepsPool s (execFlush k e s) := by
  simp only [execFlush]
  split <;> simp

/-! ### TileMem.lean -/

@[simp] theorem execTileWrite_keepsPool (k : ChipId) (r : RegionId) (s : State) : KeepsPool s (execTileWrite k r s) := by
  simp only [execTileWrite]
  repeat' split
  all_goals simp
@[simp] theorem execTileRead_keepsPool (k : ChipId) (r : RegionId) (s : State) : KeepsPool s (execTileRead k r s) := by
  simp only [execTileRead]
  repeat' split
  all_goals simp
@[simp] theorem execStart_keepsPool (k : ChipId) (r : RegionId) (s : State) : KeepsPool s (execStart k r s) := by
  simp only [execStart]
  split
  · simp
  · refine keepsPool_occurs_setChip fun h => ?_
    split
    · simpa
    · rw [foldl_waiters]
      · simpa
      · intro c p
        split
        · rfl
        · split <;> simp
@[simp] theorem execMemoryUe_keepsPool (k : ChipId) (r : RegionId) (p : TileId) (off : Nat) (reader : LineReader)
    (rewriteOk residue : Bool) (s : State) :
    
    KeepsPool s (execMemoryUe k r p off reader rewriteOk residue s) := by
  simp [execMemoryUe]
@[simp] theorem execResidueError_keepsPool (k : ChipId) (r : RegionId) (p : TileId) (s : State) :
    KeepsPool s (execResidueError k r p s) := by
  simp [execResidueError]
@[simp] theorem execSequencerHang_keepsPool (k : ChipId) (r : RegionId) (p : TileId) (s : State) :
    KeepsPool s (execSequencerHang k r p s) := by
  simp [execSequencerHang]
@[simp] theorem execScrubLine_keepsPool (k : ChipId) (r : RegionId) (p : TileId) (corrected : Nat) (s : State) :
    KeepsPool s (execScrubLine k r p corrected s) := by
  simp [execScrubLine]
@[simp] theorem execCeRateFault_keepsPool (k : ChipId) (r : RegionId) (p : TileId) (s : State) :
    KeepsPool s (execCeRateFault k r p s) := by
  simp [execCeRateFault]

/-! ### Arbiter.lean -/

@[simp] theorem execMemoryWrite_keepsPool (k : ChipId) (h : ChanId) (s : State) : KeepsPool s (execMemoryWrite k h s) := by
  simp only [execMemoryWrite]
  repeat' split
  all_goals simp
@[simp] theorem execMemoryRead_keepsPool (k : ChipId) (h : ChanId) (s : State) : KeepsPool s (execMemoryRead k h s) := by
  simp only [execMemoryRead]
  repeat' split
  all_goals simp
@[simp] theorem execVoid_keepsPool (k : ChipId) (h : ChanId) (s : State) : KeepsPool s (execVoid k h s) := by
  simp only [execVoid]
  repeat' split
  all_goals simp
@[simp] theorem execArbiterCycle_keepsPool (k : ChipId) (h : ChanId) (busy : Bool) (err : LinkErr) (s : State) :
    KeepsPool s (execArbiterCycle k h busy err s) := by
  simp [execArbiterCycle]
@[simp] theorem execReadGroupComplete_keepsPool (k : ChipId) (h : ChanId) (s : State) :
    KeepsPool s (execReadGroupComplete k h s) := by
  simp only [execReadGroupComplete]
  split <;> simp
@[simp] theorem execEcsRead_keepsPool (k : ChipId) (h : ChanId) (count : Nat) (s : State) :
    KeepsPool s (execEcsRead k h count s) := by
  simp [execEcsRead]
@[simp] theorem execRepeatRateFault_keepsPool (k : ChipId) (h : ChanId) (s : State) :
    KeepsPool s (execRepeatRateFault k h s) := by
  simp [execRepeatRateFault]

/-! ### Commit.lean -/

@[simp] theorem execCommit_keepsPool (k : ChipId) (s : State) : KeepsPool s (execCommit k s) := by
  simp only [execCommit]
  split <;> simp
@[simp] theorem execCommitCancel_keepsPool (k : ChipId) (s : State) : KeepsPool s (execCommitCancel k s) := by
  simp [execCommitCancel]
@[simp] theorem execCommitApply_keepsPool (k : ChipId) (programOk : Bool) (s : State) :
    KeepsPool s (execCommitApply k programOk s) := by
  simp [execCommitApply]
@[simp] theorem execRollStepStart_keepsPool (k : ChipId) (s : State) : KeepsPool s (execRollStepStart k s) := by
  simp only [execRollStepStart]
  split <;> simp
@[simp] theorem execRollStepApply_keepsPool (k : ChipId) (copyUe : Bool) (s : State) :
    KeepsPool s (execRollStepApply k copyUe s) := by
  simp only [execRollStepApply]
  split <;> simp
@[simp] theorem execRollForcedDrain_keepsPool (k : ChipId) (s : State) : KeepsPool s (execRollForcedDrain k s) := by
  simp only [execRollForcedDrain]
  split <;> simp
@[simp] theorem execRollSingleTimeout_keepsPool (k : ChipId) (s : State) : KeepsPool s (execRollSingleTimeout k s) := by
  simp only [execRollSingleTimeout]
  split <;> simp
@[simp] theorem execRollStepEnd_keepsPool (k : ChipId) (s : State) : KeepsPool s (execRollStepEnd k s) := by
  simp [execRollStepEnd]
@[simp] theorem execStage_keepsPool (k : ChipId) (s : State) : KeepsPool s (execStage k s) := by
  simp [execStage]
@[simp] theorem execStageComplete_keepsPool (k : ChipId) (s : State) : KeepsPool s (execStageComplete k s) := by
  simp [execStageComplete]
@[simp] theorem execAbandon_keepsPool (k : ChipId) (s : State) : KeepsPool s (execAbandon k s) := by
  simp [execAbandon]

/-! ### SlotOps.lean -/

@[simp] theorem State.keepsPool_removePower {s u : State} (n : Nat) (h : s.KeepsPool u) : s.KeepsPool (u.removePower n) :=
  h.setChip (c := (u.chip n).unpowered) (by simp)
@[simp] theorem State.keepsPool_followLines {r s u : State} (h : r.KeepsPool u) : r.KeepsPool (s.followLines u) := by
  refine h.foldl (fun u x => (State.KeepsPool.refl u).foldl (fun v n => ?_) _) _
  dsimp only
  split <;> simp

/-! ### BringUp.lean -/

@[simp] theorem execPowerOnReset_keepsPool (k : ChipId) (s : State) :
    KeepsPool s (execPowerOnReset k s) :=
  (keepsPool_occurs _ _ _).2 fun _ => (State.KeepsPool.refl s).setChip (by simp)
@[simp] theorem execModRstAssert_keepsPool (k : ChipId) (s : State) :
    KeepsPool s (execModRstAssert k s) :=
  (keepsPool_occurs _ _ _).2 fun _ => (State.KeepsPool.refl s).setChip (by simp)
@[simp] theorem execRestart_keepsPool (k : ChipId) (i2c : Bool) (s : State) :
    KeepsPool s (execRestart k i2c s) := keepsPool_occurs_setChip (by simp)
@[simp] theorem execStartBegin_keepsPool (k : ChipId) (s : State) : KeepsPool s (execStartBegin k s) := by
  simp [execStartBegin]
@[simp] theorem execPerstRelease_keepsPool (k : ChipId) (s : State) : KeepsPool s (execPerstRelease k s) := by
  simp [execPerstRelease]
@[simp] theorem execStartPhaseAdvance_keepsPool (k : ChipId) (s : State) :
    KeepsPool s (execStartPhaseAdvance k s) := by
  simp only [execStartPhaseAdvance]
  split
  case h_3 => exact keepsPool_occurs_setChip (Chip.selectImage_keepsPool _)
  case h_8 => exact keepsPool_occurs_setChip (Chip.configure_keepsPool _)
  all_goals simp
@[simp] theorem execSelftestComplete_keepsPool (k : ChipId) (fails : List PosFail) (s : State) :
    KeepsPool s (execSelftestComplete k fails s) := by
  simp [execSelftestComplete]
@[simp] theorem execChannelTrainingFail_keepsPool (k : ChipId) (h : ChanId) (s : State) :
    KeepsPool s (execChannelTrainingFail k h s) := by
  simp [execChannelTrainingFail]
@[simp] theorem execReadyPoint_keepsPool (k : ChipId) (s : State) : KeepsPool s (execReadyPoint k s) := by
  simp [execReadyPoint]
@[simp] theorem execStartTimeout_keepsPool (k : ChipId) (s : State) : KeepsPool s (execStartTimeout k s) := by
  simp [execStartTimeout]

/-! ### Clock.lean -/

@[simp] theorem execPpsLost_keepsPool (pl : Place) (s : State) : KeepsPool s (execPpsLost pl s) := by
  simp only [execPpsLost]
  split <;> simp
@[simp] theorem execEpochLoadArm_keepsPool (k : ChipId) (v : Word) (s : State) : KeepsPool s (execEpochLoadArm k v s) := by
  simp [execEpochLoadArm]
@[simp] theorem execRefSwitch_keepsPool (k : ChipId) (s : State) : KeepsPool s (execRefSwitch k s) := by
  simp [execRefSwitch]
@[simp] theorem execReferenceInvalid_keepsPool (k : ChipId) (line : Side) (ns : Nat) (duty : List Nat) (s : State) :
    KeepsPool s (execReferenceInvalid k line ns duty s) := by
  simp [execReferenceInvalid]
@[simp] theorem execFreqWindowEnd_keepsPool (k : ChipId) (line : Side) (ppm : Int) (s : State) :
    KeepsPool s (execFreqWindowEnd k line ppm s) := by
  simp [execFreqWindowEnd]
@[simp] theorem execReferenceQualified_keepsPool (k : ChipId) (line : Side) (s : State) :
    KeepsPool s (execReferenceQualified k line s) := by
  simp only [execReferenceQualified]
  split <;> simp
@[simp] theorem execFreqHoldEnd_keepsPool (k : ChipId) (s : State) : KeepsPool s (execFreqHoldEnd k s) := by
  simp [execFreqHoldEnd]
@[simp] theorem execRefPllLocked_keepsPool (k : ChipId) (s : State) : KeepsPool s (execRefPllLocked k s) := by
  simp [execRefPllLocked]
@[simp] theorem execHoldoverExit_keepsPool (k : ChipId) (s : State) : KeepsPool s (execHoldoverExit k s) := by
  simp [execHoldoverExit]
@[simp] theorem execHoldoverTimeout_keepsPool (k : ChipId) (s : State) : KeepsPool s (execHoldoverTimeout k s) := by
  simp [execHoldoverTimeout]
@[simp] theorem execNoReferenceTimeout_keepsPool (k : ChipId) (s : State) : KeepsPool s (execNoReferenceTimeout k s) := by
  simp [execNoReferenceTimeout]
@[simp] theorem execGuardCalibrate_keepsPool (k : ChipId) (s : State) : KeepsPool s (execGuardCalibrate k s) := by
  simp [execGuardCalibrate]
@[simp] theorem execGeneratorStart_keepsPool (k : ChipId) (r : RegionId) (s : State) :
    KeepsPool s (execGeneratorStart k r s) := by
  simp [execGeneratorStart]
@[simp] theorem execCalComplete_keepsPool (k : ChipId) (r : RegionId) (s : State) : KeepsPool s (execCalComplete k r s) := by
  simp [execCalComplete]
@[simp] theorem execLockLost_keepsPool (k : ChipId) (r : RegionId) (s : State) : KeepsPool s (execLockLost k r s) := by
  simp [execLockLost]
@[simp] theorem execStretchEvent_keepsPool (k : ChipId) (r : RegionId) (fs : Nat) (s : State) :
    KeepsPool s (execStretchEvent k r fs s) := by
  simp [execStretchEvent]
@[simp] theorem execGeneratorJitterFault_keepsPool (k : ChipId) (r : RegionId) (duty changes : List Nat) (s : State) :
    KeepsPool s (execGeneratorJitterFault k r duty changes s) := by
  simp [execGeneratorJitterFault]
@[simp] theorem execStepVoltageRaise_keepsPool (k : ChipId) (s : State) : KeepsPool s (execStepVoltageRaise k s) := by
  simp [execStepVoltageRaise]
@[simp] theorem execStepRailCheck_keepsPool (k : ChipId) (uv : List Nat) (s : State) :
    KeepsPool s (execStepRailCheck k uv s) := by
  simp [execStepRailCheck]
@[simp] theorem execStepSlewStart_keepsPool (k : ChipId) (s : State) : KeepsPool s (execStepSlewStart k s) := by
  simp [execStepSlewStart]
@[simp] theorem execStepSubstep_keepsPool (k : ChipId) (j : Nat) (s : State) : KeepsPool s (execStepSubstep k j s) := by
  simp [execStepSubstep]
@[simp] theorem execStepSlewEnd_keepsPool (k : ChipId) (s : State) : KeepsPool s (execStepSlewEnd k s) := by
  simp [execStepSlewEnd]
@[simp] theorem execStepLowerDone_keepsPool (k : ChipId) (s : State) : KeepsPool s (execStepLowerDone k s) := by
  simp [execStepLowerDone]
@[simp] theorem execStepCancelSettled_keepsPool (k : ChipId) (s : State) : KeepsPool s (execStepCancelSettled k s) := by
  simp [execStepCancelSettled]
@[simp] theorem execGangSkewHalt_keepsPool (k : ChipId) (r : RegionId) (ps pos : Nat) (cycles : List Nat) (s : State) :
    KeepsPool s (execGangSkewHalt k r ps pos cycles s) := by
  simp [execGangSkewHalt]

/-! ### Crossing.lean -/

@[simp] theorem execXngCalibration_keepsPool (k : ChipId) (trips : List Nat) (s : State) :
    KeepsPool s (execXngCalibration k trips s) := by
  simp [execXngCalibration]
@[simp] theorem execXngCalibrationDone_keepsPool (k : ChipId) (s : State) : KeepsPool s (execXngCalibrationDone k s) := by
  simp [execXngCalibrationDone]
@[simp] theorem execXngCalibrationTimeout_keepsPool (k : ChipId) (s : State) : KeepsPool s (execXngCalibrationTimeout k s) := by
  simp [execXngCalibrationTimeout]
@[simp] theorem execQueuePush_keepsPool (k : ChipId) (q : QueueId) (seen : Nat) (at_ : Moment) (s : State) :
    KeepsPool s (execQueuePush k q seen at_ s) := by
  simp [execQueuePush]
@[simp] theorem execQueuePop_keepsPool (k : ChipId) (q : QueueId) (seen : Nat) (at_ : Moment) (s : State) :
    KeepsPool s (execQueuePop k q seen at_ s) := by
  simp only [execQueuePop]
  repeat' split
  all_goals simp
@[simp] theorem execFixedItemRelease_keepsPool (k : ChipId) (r : RegionId) (lane : Lane) (src : EpId) (seen : Nat)
    (at_ : Moment) (s : State) :
    
    KeepsPool s (execFixedItemRelease k r lane src seen at_ s) := by
  simp only [execFixedItemRelease]
  split <;> simp
@[simp] theorem execRegionIsolate_keepsPool (k : ChipId) (r : RegionId) (s : State) :
    KeepsPool s (execRegionIsolate k r s) :=
  keepsPool_occurs_setChip (Chip.isolate_keepsPool _ r)
@[simp] theorem execIsolationSinkAccept_keepsPool (k : ChipId) (r : RegionId) (lane : Lane) (s : State) :
    KeepsPool s (execIsolationSinkAccept k r lane s) := by
  simp only [execIsolationSinkAccept]
  split <;> simp
@[simp] theorem execQueueReset_keepsPool (k : ChipId) (q : QueueId) (writer : Bool) (s : State) :
    KeepsPool s (execQueueReset k q writer s) := by
  simp [execQueueReset]
@[simp] theorem execQueueRipSeen_keepsPool (k : ChipId) (q : QueueId) (writer : Bool) (s : State) :
    KeepsPool s (execQueueRipSeen k q writer s) := by
  simp [execQueueRipSeen]
@[simp] theorem execQueueAckSeen_keepsPool (k : ChipId) (q : QueueId) (writer : Bool) (s : State) :
    KeepsPool s (execQueueAckSeen k q writer s) := by
  simp [execQueueAckSeen]
@[simp] theorem execHandshakeTimeout_keepsPool (k : ChipId) (q : QueueId) (s : State) :
    KeepsPool s (execHandshakeTimeout k q s) := by
  simp [execHandshakeTimeout]
@[simp] theorem execIsolationEnd_keepsPool (k : ChipId) (r : RegionId) (s : State) : KeepsPool s (execIsolationEnd k r s) := by
  simp [execIsolationEnd]

/-! ### Sessions.lean -/

@[simp] theorem ringCommand_keepsPool (k : ChipId) (g : RingId) (op n : Nat) (s : State) {f : Chip → List Byte → Chip}
    (hf : ∀ c bs, (f c bs).seq.waiters = c.seq.waiters) : KeepsPool s (ringCommand k g op n s f) := by
  simp only [ringCommand]
  split <;> simp [hf]
@[simp] theorem execOpenSession_keepsPool (k : ChipId) (g : RingId) (s : State) :
    KeepsPool s (execOpenSession k g s) := by
  simp [execOpenSession]
@[simp] theorem armOf_keepsPool (k : ChipId) (g : RingId) (predict : Bool) (s : State) : KeepsPool s (armOf k g predict s) := by
  simp only [armOf]
  split <;> simp
@[simp] theorem execConfirm_keepsPool (k : ChipId) (g : RingId) (s : State) :
    KeepsPool s (execConfirm k g s) := by
  simp [execConfirm]
@[simp] theorem execCancel_keepsPool (k : ChipId) (g : RingId) (s : State) :
    KeepsPool s (execCancel k g s) := by
  simp [execCancel]
@[simp] theorem execClose_keepsPool (k : ChipId) (g : RingId) (s : State) :
    KeepsPool s (execClose k g s) := by
  simp [execClose]
@[simp] theorem execSessionRead_keepsPool (k : ChipId) (g : RingId) (s : State) : KeepsPool s (execSessionRead k g s) := by
  simp only [execSessionRead]
  split <;> simp
@[simp] theorem execRunaheadDeadline_keepsPool (k : ChipId) (i : Nat) (s : State) :
    KeepsPool s (execRunaheadDeadline k i s) := by
  simp [execRunaheadDeadline]
@[simp] theorem execResidencyRead_keepsPool (k : ChipId) (g : RingId) (s : State) : KeepsPool s (execResidencyRead k g s) := by
  simp only [execResidencyRead]
  split <;> simp
@[simp] theorem execNop_keepsPool (k : ChipId) (g : RingId) (s : State) :
    KeepsPool s (execNop k g s) := by
  simp [execNop]
@[simp] theorem execAdmission_keepsPool (k : ChipId) (p : RingId) (s : State) : KeepsPool s (execAdmission k p s) := by
  simp only [execAdmission]
  repeat' split
  all_goals simp
@[simp] theorem execStageStart_keepsPool (k : ChipId) (item : Nat) (s : State) : KeepsPool s (execStageStart k item s) := by
  simp only [execStageStart]
  repeat' split
  all_goals simp
@[simp] theorem execItemEndReport_keepsPool (k : ChipId) (s : State) : KeepsPool s (execItemEndReport k s) := by
  simp only [execItemEndReport]
  split <;> simp
@[simp] theorem execModelLoad_keepsPool (k : ChipId) (g : RingId) (s : State) :
    KeepsPool s (execModelLoad k g s) := by
  refine ringCommand_keepsPool k g 0x10 1 s fun c bs => ?_
  dsimp only
  split <;> simp
@[simp] theorem execModelLoadCopyDone_keepsPool (k : ChipId) (g : RingId) (ok : Bool) (s : State) :
    KeepsPool s (execModelLoadCopyDone k g ok s) := by
  simp only [execModelLoadCopyDone]
  split <;> simp
@[simp] theorem execTileReload_keepsPool (k : ChipId) (g : RingId) (s : State) :
    KeepsPool s (execTileReload k g s) := by
  simp [execTileReload]
@[simp] theorem execTileReloadCopyDone_keepsPool (k : ChipId) (g : RingId) (ok : Bool) (s : State) :
    KeepsPool s (execTileReloadCopyDone k g ok s) := by
  simp only [execTileReloadCopyDone]
  split <;> simp
theorem counterOp_keepsPool (k : ChipId) (g : RingId) (opc : Nat) (s : State) (woken : Chip → List Byte → List Nat)
    {f : Chip → List Byte → Chip} (hf : ∀ c bs, c.seq.waiters.length ≤ 4096 → (f c bs).seq.waiters.length ≤ 4096) :
    KeepsPool s (counterOp k g opc s woken f) := by
  simp only [counterOp]
  split
  · simp
  · exact keepsPool_occurs_setChip (hf _ _)
@[simp] theorem execCounterAdd_keepsPool (k : ChipId) (g : RingId) (s : State) :
    KeepsPool s (execCounterAdd k g s) :=
  counterOp_keepsPool k g 0 s _ fun c bs h => Chip.addCounter_keepsPool _ _ _ (by simpa)
@[simp] theorem execCounterSet_keepsPool (k : ChipId) (g : RingId) (s : State) :
    KeepsPool s (execCounterSet k g s) :=
  counterOp_keepsPool k g 1 s _ fun c bs h => Chip.setCounter_keepsPool _ _ _ (by simpa)
@[simp] theorem execCounterWaitGe_keepsPool (k : ChipId) (g : RingId) (s : State) :
    KeepsPool s (execCounterWaitGe k g s) :=
  counterOp_keepsPool k g 2 s _ fun c bs h => Chip.waitCounter_keepsPool _ _ (by simpa)
@[simp] theorem execCounterRead_keepsPool (k : ChipId) (g : RingId) (s : State) :
    KeepsPool s (execCounterRead k g s) :=
  counterOp_keepsPool k g 3 s _ fun c bs h => by simpa

/-! ### Energy.lean -/

@[simp] theorem execEnergyBooking_keepsPool (k : ChipId) (s : State) : KeepsPool s (execEnergyBooking k s) := by
  simp only [execEnergyBooking]
  split <;> simp
@[simp] theorem execGainUpdate_keepsPool (k : ChipId) (s : State) : KeepsPool s (execGainUpdate k s) := by
  simp [execGainUpdate]
@[simp] theorem execEnergyRead_keepsPool (k : ChipId) (g : RingId) (s : State) :
    KeepsPool s (execEnergyRead k g s) := by
  simp [execEnergyRead]
@[simp] theorem execEnergyCapture_keepsPool (k : ChipId) (s : State) : KeepsPool s (execEnergyCapture k s) := by
  simp only [execEnergyCapture]
  split <;> simp
@[simp] theorem execEnergyReadResult_keepsPool (k : ChipId) (g : RingId) (s : State) :
    KeepsPool s (execEnergyReadResult k g s) := by
  simp only [execEnergyReadResult]
  split <;> simp

/-! ### Epoch.lean -/

@[simp] theorem boundaryAt_keepsPool (pl : Place) (cycles : List Nat) (held : Bool) (s : State) :
    KeepsPool s (boundaryAt pl cycles held s) := by
  cases pl with
  | chip k => exact keepsPool_occurs_setChip (Chip.epochBoundary_keepsPool _ cycles)
  | tmc x => simp [boundaryAt]
@[simp] theorem execPpsEdge_keepsPool (pl : Place) (line : Side) (pos : Nat) (cycles : List Nat) (s : State) :
    KeepsPool s (execPpsEdge pl line pos cycles s) := by
  cases pl with
  | chip k => exact keepsPool_occurs_setChip (Chip.ppsEdge_keepsPool _ pos cycles)
  | tmc x => simp [execPpsEdge]
@[simp] theorem execFrameTick_keepsPool (k : ChipId) (s : State) : KeepsPool s (execFrameTick k s) := by
  simp [execFrameTick]

/-! ### Meter.lean -/

@[simp] theorem execSweepStart_keepsPool (s : State) : KeepsPool s (execSweepStart s) := by
  simp only [execSweepStart]
  split <;> simp
@[simp] theorem State.keepsPool_passNode {s u : State} (node : Nat) (rev out : Bool) (meas mv : List Nat) (crcOk : Bool)
    (h : s.KeepsPool u) : s.KeepsPool (u.passNode node rev out meas mv crcOk) := by
  simp only [State.passNode]
  split
  · simp [h]
  · split
    · simp [h]
    · split <;> split <;> simp [h]
@[simp] theorem execMeterFramePass_keepsPool (node : NodeId) (rev : Bool) (meas mv : List Nat) (crcOk : Bool) (s : State) :
    KeepsPool s (execMeterFramePass node rev meas mv crcOk s) := by
  simp only [execMeterFramePass]
  repeat' split
  all_goals simp
@[simp] theorem execSweepBroken_keepsPool (s : State) : KeepsPool s (execSweepBroken s) := by
  simp only [execSweepBroken]
  split <;> simp

/-! ### Power.lean -/

@[simp] theorem execPowerEvaluation_keepsPool (k : ChipId) (act : Activity) (s : State) :
    KeepsPool s (execPowerEvaluation k act s) := by
  simp [execPowerEvaluation]
@[simp] theorem execTempSample_keepsPool (k : ChipId) (temps : List Int) (pos : Nat) (cycles : List Nat) (s : State) :
    KeepsPool s (execTempSample k temps pos cycles s) := by
  refine keepsPool_occurs_setChip fun h => ?_
  rw [Chip.noting_seq]
  refine Chip.forRegions_keepsPool _ (fun c r hc => ?_) (by simpa)
  split
  · exact Chip.trip_keepsPool c r pos cycles hc
  · exact hc
@[simp] theorem execTripRestart_keepsPool (k : ChipId) (r : RegionId) (s : State) : KeepsPool s (execTripRestart k r s) := by
  simp [execTripRestart]
@[simp] theorem execCoolantStop_keepsPool (k : ChipId) (ns pos : Nat) (cycles : List Nat) (s : State) :
    KeepsPool s (execCoolantStop k ns pos cycles s) := by
  simp [execCoolantStop]
@[simp] theorem execCoolantStopRelease_keepsPool (k : ChipId) (s : State) : KeepsPool s (execCoolantStopRelease k s) := by
  simp [execCoolantStopRelease]
@[simp] theorem execCoolantResumeStart_keepsPool (k : ChipId) (s : State) : KeepsPool s (execCoolantResumeStart k s) := by
  simp [execCoolantResumeStart]
@[simp] theorem execGrantExchange_keepsPool (s : State) : KeepsPool s (execGrantExchange s) := by
  simp only [execGrantExchange]
  split <;> simp
@[simp] theorem execGrantFallApply_keepsPool (k : ChipId) (s : State) : KeepsPool s (execGrantFallApply k s) := by
  simp only [execGrantFallApply]
  split <;> simp
@[simp] theorem execGrantRiseApply_keepsPool (k : ChipId) (s : State) : KeepsPool s (execGrantRiseApply k s) := by
  simp only [execGrantRiseApply]
  split <;> simp
@[simp] theorem execGrantStale_keepsPool (k : ChipId) (s : State) : KeepsPool s (execGrantStale k s) := by
  simp [execGrantStale]

/-! ### Hif.lean -/

@[simp] theorem execBar2Write_keepsPool (k : ChipId) (off : Nat) (data : List Byte) (en : List Bool) (s : State) :
    KeepsPool s (execBar2Write k off data en s) := by
  simp [execBar2Write]
@[simp] theorem execBar2Read_keepsPool (k : ChipId) (off n : Nat) (s : State) : KeepsPool s (execBar2Read k off n s) := by
  simp [execBar2Read]
@[simp] theorem execCmdTailWrite_keepsPool (k : ChipId) (g : RingId) (v : Word) (s : State) :
    KeepsPool s (execCmdTailWrite k g v s) := by
  simp [execCmdTailWrite]
@[simp] theorem execCplHeadWrite_keepsPool (k : ChipId) (g : RingId) (v : Word) (s : State) :
    KeepsPool s (execCplHeadWrite k g v s) := by
  simp [execCplHeadWrite]
@[simp] theorem execCommandFetch_keepsPool (k : ChipId) (g : RingId) (entry : List Byte) (s : State) :
    KeepsPool s (execCommandFetch k g entry s) := by
  simp [execCommandFetch]
@[simp] theorem execRingEnable_keepsPool (k : ChipId) (g : RingId) (s : State) : KeepsPool s (execRingEnable k g s) := by
  simp [execRingEnable]
@[simp] theorem execRingDisable_keepsPool (k : ChipId) (g : RingId) (s : State) : KeepsPool s (execRingDisable k g s) := by
  simp [execRingDisable]
@[simp] theorem execRingAccessError_keepsPool (k : ChipId) (g : RingId) (s : State) :
    KeepsPool s (execRingAccessError k g s) := by
  simp [execRingAccessError]
@[simp] theorem execCompletionWrite_keepsPool (k : ChipId) (g : RingId) (s : State) :
    KeepsPool s (execCompletionWrite k g s) := by
  simp only [execCompletionWrite]
  split <;> simp
@[simp] theorem execHoldRelease_keepsPool (k : ChipId) (g : RingId) (s : State) : KeepsPool s (execHoldRelease k g s) := by
  simp only [execHoldRelease]
  split <;> simp
@[simp] theorem execMsixMessage_keepsPool (k : ChipId) (v : Fin 128) (s : State) : KeepsPool s (execMsixMessage k v s) := by
  simp [execMsixMessage]
@[simp] theorem execFlashProgram_keepsPool (k : ChipId) (s : State) : KeepsPool s (execFlashProgram k s) := by
  simp [execFlashProgram]
@[simp] theorem execFlashRead_keepsPool (k : ChipId) (s : State) : KeepsPool s (execFlashRead k s) := by
  simp [execFlashRead]
@[simp] theorem execFlashDone_keepsPool (k : ChipId) (ok : Bool) (s : State) : KeepsPool s (execFlashDone k ok s) := by
  simp [execFlashDone]
@[simp] theorem execXdmaCollect_keepsPool (k : ChipId) (s : State) : KeepsPool s (execXdmaCollect k s) := by
  simp only [execXdmaCollect]
  split <;> simp
@[simp] theorem execInboxWrite_keepsPool (k : ChipId) (data : List Byte) (s : State) :
    KeepsPool s (execInboxWrite k data s) := by
  simp [execInboxWrite]
@[simp] theorem execInboxResend_keepsPool (k : ChipId) (i : Nat) (s : State) : KeepsPool s (execInboxResend k i s) := by
  simp only [execInboxResend]
  split <;> simp
@[simp] theorem execInboxExpire_keepsPool (k : ChipId) (i : Nat) (s : State) : KeepsPool s (execInboxExpire k i s) := by
  simp only [execInboxExpire]
  split <;> simp
@[simp] theorem execHifReset_keepsPool (k : ChipId) (cause : HifCause) (s : State) : KeepsPool s (execHifReset k cause s) := by
  simp [execHifReset]
@[simp] theorem execD3hotTransition_keepsPool (k : ChipId) (d3 : Bool) (s : State) :
    KeepsPool s (execD3hotTransition k d3 s) := by
  simp [execD3hotTransition]
@[simp] theorem Chip.readWord_waiters (c : Chip) (i2c : Bool) (off : Nat) (p : RegPlace) :
    (c.readWord i2c off p).2.seq.waiters = c.seq.waiters := by
  simp only [Chip.readWord]
  repeat' split
  all_goals simp
theorem Chip.readBar0_waiters {c : Chip} {x : Nat × Chip} (i2c wide : Bool) (off : Nat) (h : c.readBar0 i2c wide off = some x) :
    x.2.seq.waiters = c.seq.waiters := by
  revert x
  simp only [Chip.readBar0]
  repeat' split
  all_goals simp
@[simp] theorem execReadWithClear_keepsPool (k : ChipId) (off : Nat) (wide : Bool) (s : State) :
    KeepsPool s (execReadWithClear k off wide s) := by
  simp only [execReadWithClear]
  cases h : (s.chip k).readBar0 false wide off with
  | none => simp
  | some x => simp [Chip.readBar0_waiters false wide off h]
@[simp] theorem keepsPool_stateOf {s : State} {o : Out} (h : KeepsPool s o) : s.KeepsPool (stateOf o s) := by
  cases o with
  | next t => exact h t rfl
  | fault => exact .refl s
  | refused => exact .refl s
@[simp] theorem State.keepsPool_imgCommand (k : ChipId) (cmd : Nat) (s : State) : s.KeepsPool (imgCommand k cmd s) := by
  unfold imgCommand
  split <;> simp
@[simp] theorem State.keepsPool_flashCommand (k : ChipId) (cmd : Nat) (s : State) : s.KeepsPool (flashCommand k cmd s) := by
  unfold flashCommand
  split <;> simp
theorem State.keepsPool_writeReg (s : State) (k : ChipId) (i2c : Bool) (r : Reg) (i v : Nat) :
    s.KeepsPool (s.writeReg k i2c r i v) := by
  unfold State.writeReg
  split
  case h_6 => exact .trans (by simp) (State.keepsPool_flashCommand k _ _)
  case h_5 => split <;> simp
  all_goals simp
theorem State.keepsPool_writeWord (s : State) (k : ChipId) (i2c : Bool) (p : RegPlace) (v : Nat) :
    s.KeepsPool (s.writeWord k i2c p v) := by
  unfold State.writeWord
  split <;> exact State.keepsPool_writeReg _ _ _ _ _ _
theorem State.keepsPool_writeBar0 {s t : State} (k : ChipId) (i2c wide : Bool) (off v : Nat)
    (h : s.writeBar0 k i2c wide off v = some t) : s.KeepsPool t := by
  revert h
  unfold State.writeBar0
  split
  · split
    · split
      · nofun
      · split
        · rintro ⟨⟩
          exact State.keepsPool_writeReg _ _ _ _ _ _
        · rintro ⟨⟩
          exact (State.keepsPool_writeWord _ _ _ _ _).trans (State.keepsPool_writeWord _ _ _ _ _)
    · nofun
  · split
    · split
      · rintro ⟨⟩
        exact State.keepsPool_writeWord _ _ _ _ _
      · nofun
    · nofun
@[simp] theorem execBar0Write_keepsPool (k : ChipId) (off : Nat) (wide : Bool) (v : Nat) (s : State) :
    KeepsPool s (execBar0Write k off wide v s) := by
  refine (keepsPool_occurs _ _ _).2 fun _ => ?_
  cases h : s.writeBar0 k false wide off v with
  | none => simp
  | some t => exact State.keepsPool_writeBar0 k false wide off v h
@[simp] theorem execMgmtI2cAccess_keepsPool (k : ChipId) (off : Nat) (v : Option Nat) (s : State) :
    KeepsPool s (execMgmtI2cAccess k off v s) := by
  refine (keepsPool_occurs _ _ _).2 fun _ => ?_
  cases v with
  | some x =>
    dsimp only
    cases h : (s.onChip k (fun c => c.onHif (fun h => { h with i2cOffset := off }))).writeBar0 k true false off x with
    | none => simp
    | some t => exact .trans (by simp) (State.keepsPool_writeBar0 k true false off x h)
  | none =>
    dsimp only
    cases h : ((s.onChip k (fun c => c.onHif (fun h => { h with i2cOffset := off }))).chip k).readBar0 true false off with
    | none => simp
    | some x => simp [Chip.readBar0_waiters true false off h]

/-! ### Lamps.lean -/

@[simp] theorem execLampDiagnosis_keepsPool (e : LampId) (sense : LampSense) (us : Nat) (s : State) :
    KeepsPool s (execLampDiagnosis e sense us s) := by
  simp [execLampDiagnosis]
@[simp] theorem execProofPulse_keepsPool (e : LampId) (sense : LampSense) (ms : Nat) (s : State) :
    KeepsPool s (execProofPulse e sense ms s) := by
  simp [execProofPulse]
@[simp] theorem execLampPoll_keepsPool (s : State) : KeepsPool s (execLampPoll s) := by
  simp [execLampPoll]
@[simp] theorem execModAlert_keepsPool (n : SlotId) (s : State) : KeepsPool s (execModAlert n s) := by
  simp [execModAlert]

/-! ### Matrix.lean -/

@[simp] theorem execMatrix_keepsPool (k : ChipId) (r : RegionId) (p : TileId) (s : State) :
    KeepsPool s (execMatrix k r p s) := by
  simp [execMatrix]
@[simp] theorem execPrescan_keepsPool (k : ChipId) (r : RegionId) (p : TileId) (s : State) :
    KeepsPool s (execPrescan k r p s) := by
  simp [execPrescan]
@[simp] theorem execConvert_keepsPool (k : ChipId) (r : RegionId) (p : TileId) (s : State) :
    KeepsPool s (execConvert k r p s) := by
  simp [execConvert]

/-! ### Tray.lean -/

@[simp] theorem execSlotOccupied_keepsPool (n : SlotId) (m : Option ModuleNv) (s : State) :
    KeepsPool s (execSlotOccupied n m s) := by
  refine (keepsPool_occurs _ _ _).2 fun _ => ?_
  cases m with
  | none => exact .refl s
  | some nv => exact (State.KeepsPool.refl s).setChip (by simp)
@[simp] theorem execPresenceLost_keepsPool (n : SlotId) (early late : Bool) (s : State) :
    KeepsPool s (execPresenceLost n early late s) := by
  simp [execPresenceLost]
@[simp] theorem execSlotBypassLeave_keepsPool (n : SlotId) (s : State) : KeepsPool s (execSlotBypassLeave n s) := by
  simp [execSlotBypassLeave]
@[simp] theorem State.keepsPool_slotResetNow {s u : State} (n : Nat) (h : s.KeepsPool u) : s.KeepsPool (u.slotResetNow n) := by
  unfold State.slotResetNow
  split
  · exact h.setChip (c := (u.chip n).wholeReset 1) (by simp)
  · exact h
@[simp] theorem execSlotRequestDeliver_keepsPool (n : SlotId) (us : Nat) (s : State) :
    KeepsPool s (execSlotRequestDeliver n us s) := by
  simp [execSlotRequestDeliver]
@[simp] theorem State.keepsPool_tripBreaker {s u : State} (n : Nat) (h : s.KeepsPool u) : s.KeepsPool (u.tripBreaker n) := by
  simp [State.tripBreaker, h]
@[simp] theorem execBreakerTrip_keepsPool (n : SlotId) (s : State) : KeepsPool s (execBreakerTrip n s) := by
  simp [execBreakerTrip]
@[simp] theorem execBusbarUndervoltage_keepsPool (mv : Nat) (s : State) :
    KeepsPool s (execBusbarUndervoltage mv s) :=
  (keepsPool_occurs _ _ _).2 fun _ => State.KeepsPool.foldl (fun u n => State.keepsPool_tripBreaker n (.refl u)) _ (.refl s)
@[simp] theorem execFacilityInputLost_keepsPool (c : Side) (ps : Int) (s : State) :
    KeepsPool s (execFacilityInputLost c ps s) := by
  simp [execFacilityInputLost]
@[simp] theorem execTrcOutputEnable_keepsPool (c : Side) (ns warm : Nat) (s : State) :
    KeepsPool s (execTrcOutputEnable c ns warm s) := by
  simp [execTrcOutputEnable]
@[simp] theorem execPpsCompare_keepsPool (ns : Nat) (s : State) : KeepsPool s (execPpsCompare ns s) := by
  simp [execPpsCompare]
@[simp] theorem State.keepsPool_spoilNvm (s u : State) (x : Side) (n : Nat) :
    s.KeepsPool (u.spoilNvm x n) ↔ s.KeepsPool u := Iff.rfl
@[simp] theorem State.keepsPool_rewriteNvm {s u : State} (x : Side) (ok : Bool) (h : s.KeepsPool u) :
    s.KeepsPool (u.rewriteNvm x ok) := by
  unfold State.rewriteNvm
  split <;> simp [h]
@[simp] theorem execNvmCardInsert_keepsPool (c : Side) (card : List Host.Cell) (ok : Bool) (s : State) :
    KeepsPool s (execNvmCardInsert c card ok s) := by
  simp [execNvmCardInsert]
@[simp] theorem State.keepsPool_moveUpstream {s u : State} (port : Nat) (h : s.KeepsPool u) :
    s.KeepsPool (u.moveUpstream port) := by
  simp only [State.moveUpstream, State.keepsPool_onTray]
  exact h.foldl (fun v n => by split <;> simp) _
@[simp] theorem execUpstreamFailover_keepsPool (ms : Nat) (s : State) : KeepsPool s (execUpstreamFailover ms s) := by
  simp [execUpstreamFailover]
@[simp] theorem execP2pWriteForward_keepsPool (k : ChipId) (s : State) : KeepsPool s (execP2pWriteForward k s) := by
  simp only [execP2pWriteForward]
  split <;> simp
@[simp] theorem execCoolantStopAssert_keepsPool (fa fb : Nat) (s : State) : KeepsPool s (execCoolantStopAssert fa fb s) := by
  simp [execCoolantStopAssert]
@[simp] theorem execCoolantStopClear_keepsPool (flow : Nat) (s : State) : KeepsPool s (execCoolantStopClear flow s) := by
  simp [execCoolantStopClear]
@[simp] theorem execSlotPowerupRequest_keepsPool (n : SlotId) (flow ms : Nat) (s : State) :
    KeepsPool s (execSlotPowerupRequest n flow ms s) := by
  simp [execSlotPowerupRequest]
@[simp] theorem execFlowDisagree_keepsPool (fa fb : Nat) (s : State) : KeepsPool s (execFlowDisagree fa fb s) := by
  simp [execFlowDisagree]
@[simp] theorem execLampBoardRemoved_keepsPool (s : State) : KeepsPool s (execLampBoardRemoved s) := by
  simp [execLampBoardRemoved]
@[simp] theorem execEnvironmentOutOfRange_keepsPool (e : EnvKind) (v : Int) (s : State) :
    KeepsPool s (execEnvironmentOutOfRange e v s) := by
  simp [execEnvironmentOutOfRange]
@[simp] theorem execI2cSegmentStuck_keepsPool (n : SlotId) (ms : Nat) (s : State) :
    KeepsPool s (execI2cSegmentStuck n ms s) := by
  simp [execI2cSegmentStuck]
@[simp] theorem execPhaseModuleFail_keepsPool (n : SlotId) (q : Fin 14) (s : State) :
    KeepsPool s (execPhaseModuleFail n q s) := by
  simp [execPhaseModuleFail]
@[simp] theorem State.keepsPool_readNvm {s u : State} (ok : Bool) (h : s.KeepsPool u) : s.KeepsPool (u.readNvm ok) := by
  simp [State.readNvm, h]
@[simp] theorem execTrayStart_keepsPool (ok : Bool) (s : State) : KeepsPool s (execTrayStart ok s) := by
  simp only [execTrayStart]
  split <;> simp
@[simp] theorem execPowerUpSequence_keepsPool (n : SlotId) (s : State) : KeepsPool s (execPowerUpSequence n s) := by
  simp only [execPowerUpSequence]
  split <;> simp
@[simp] theorem execRailNotGood_keepsPool (n : SlotId) (s : State) : KeepsPool s (execRailNotGood n s) := by
  simp [execRailNotGood]
@[simp] theorem execRailsStable_keepsPool (n : SlotId) (s : State) :
    KeepsPool s (execRailsStable n s) :=
  (keepsPool_occurs _ _ _).2 fun _ => (State.KeepsPool.refl s).setChip (by simp)
@[simp] theorem execPowerDownSequence_keepsPool (n : SlotId) (s : State) :
    KeepsPool s (execPowerDownSequence n s) := by
  simp only [execPowerDownSequence]
  split
  case h_1 => exact (keepsPool_occurs _ _ _).2 fun _ => (State.KeepsPool.refl s).setChip (by simp)
  all_goals simp
@[simp] theorem execSlotFullyOff_keepsPool (n : SlotId) (s : State) :
    KeepsPool s (execSlotFullyOff n s) :=
  (keepsPool_occurs _ _ _).2 fun _ => (State.KeepsPool.refl s).setChip (by simp)
@[simp] theorem execPowerupInhibitEnd_keepsPool (n : SlotId) (s : State) : KeepsPool s (execPowerupInhibitEnd n s) := by
  simp [execPowerupInhibitEnd]
@[simp] theorem execVidFrame_keepsPool (n : SlotId) (frame : BitVec 16) (s : State) : KeepsPool s (execVidFrame n frame s) := by
  simp [execVidFrame]
@[simp] theorem execMeterLinkLock_keepsPool (node : NodeId) (rev lock : Bool) (s : State) :
    KeepsPool s (execMeterLinkLock node rev lock s) := by
  simp [execMeterLinkLock]
@[simp] theorem execTrcSourceGained_keepsPool (c : Side) (fac : Bool) (ps : Int) (s : State) :
    KeepsPool s (execTrcSourceGained c fac ps s) := by
  simp [execTrcSourceGained]
@[simp] theorem execTrcPartnerLost_keepsPool (c : Side) (s : State) : KeepsPool s (execTrcPartnerLost c s) := by
  simp [execTrcPartnerLost]

/-! ### Units.lean -/

@[simp] theorem execUnitReadyToRemove_keepsPool (s : State) : KeepsPool s (execUnitReadyToRemove s) := by
  simp only [execUnitReadyToRemove]
  split <;> simp
@[simp] theorem execPrepareTimeout_keepsPool (s : State) : KeepsPool s (execPrepareTimeout s) := by
  simp only [execPrepareTimeout]
  split <;> simp
@[simp] theorem execUnitRemoved_keepsPool (typ idx : Nat) (s : State) : KeepsPool s (execUnitRemoved typ idx s) := by
  simp [execUnitRemoved]
@[simp] theorem execUnitInsert_keepsPool (typ idx : Nat) (s : State) : KeepsPool s (execUnitInsert typ idx s) := by
  simp [execUnitInsert]
@[simp] theorem execUnitJoin_keepsPool (typ idx : Nat) (s : State) : KeepsPool s (execUnitJoin typ idx s) := by
  simp only [execUnitJoin]
  split <;> simp

/-! ### Mgmt.lean -/

@[simp] theorem State.keepsPool_finishWrite (s u : State) (x : Side) (im : List Host.Cell) (good : Bool) :
    s.KeepsPool (u.finishWrite x im good) ↔ s.KeepsPool u := Iff.rfl
@[simp] theorem State.keepsPool_continueWrite {s u : State} (x : Side) (w : NvmWrite) (reads : List Bool) (h : s.KeepsPool u) :
    s.KeepsPool (u.continueWrite x w reads).1 := by
  cases reads with
  | nil => exact h
  | cons ok rest =>
    simp only [State.continueWrite]
    repeat' split
    all_goals simp [h]
@[simp] theorem State.keepsPool_adopt {s u : State} (x : Side) (q : MgmtReq) (len : Nat) (reads : List Bool)
    (h : s.KeepsPool u) :
    
    s.KeepsPool (u.adopt x q len reads).1 := by
  simp only [State.adopt]
  repeat' split
  all_goals simp [h]
@[simp] theorem State.keepsPool_switchUpstream {s u : State} (port : Nat) (h : s.KeepsPool u) :
    s.KeepsPool (u.switchUpstream port).1 := by
  unfold State.switchUpstream
  split <;> simp [h]
@[simp] theorem State.keepsPool_chipRestart {s u : State} (n : Nat) (h : s.KeepsPool u) :
    s.KeepsPool (u.chipRestart n).1 := by
  unfold State.chipRestart
  split
  · exact h
  · split
    · exact h
    · exact h.setChip (by dsimp only; split <;> simp)
@[simp] theorem State.keepsPool_onTrayWith (s u : State) (r : Tray × Answer) :
    s.KeepsPool (u.onTrayWith r).1 ↔ s.KeepsPool u := Iff.rfl
@[simp] theorem State.keepsPool_runActive {s u : State} (x : Side) (q : MgmtReq) (cmd : SvcCmd) (h : s.KeepsPool u) :
    s.KeepsPool (u.runActive x q cmd).1 := by
  unfold State.runActive
  cases cmd <;> dsimp only <;> repeat' split
  all_goals simp [h]
@[simp] theorem State.keepsPool_execute {s u : State} (x : Side) (q : MgmtReq) (cmd : SvcCmd) (h : s.KeepsPool u) :
    s.KeepsPool (u.execute x q cmd) := by
  have hr := State.keepsPool_runActive x q cmd h
  unfold State.execute
  split <;> simp_all
@[simp] theorem State.keepsPool_serve {s u : State} (q : MgmtReq) (cmd : SvcCmd) (h : s.KeepsPool u) :
    s.KeepsPool (u.serve q cmd) := by
  simp only [State.serve]
  repeat' split
  all_goals simp [h]
@[simp] theorem mgmt_keepsPool (q : MgmtReq) (cmd : SvcCmd) (s : State) : KeepsPool s (mgmt q cmd s) := by
  simp [mgmt]
@[simp] theorem execMgmtDoorbell_keepsPool (x : Side) (frame : List Byte) (samples : List LampSense) (reads : List Bool)
    (s : State) :
    
    KeepsPool s (execMgmtDoorbell x frame samples reads s) := by
  simp [execMgmtDoorbell]
@[simp] theorem execMgmtConnect_keepsPool (x : Side) (chain : Option Nat) (s : State) :
    KeepsPool s (execMgmtConnect x chain s) := by
  simp [execMgmtConnect]
@[simp] theorem execForwardTimeout_keepsPool (x : Side) (s : State) : KeepsPool s (execForwardTimeout x s) := by
  simp only [execForwardTimeout]
  split <;> simp
@[simp] theorem State.keepsPool_runList {s u : State} (x : Side) (cmds : List (MgmtReq × SvcCmd)) (h : s.KeepsPool u) :
    s.KeepsPool (u.runList x cmds) := by
  induction cmds generalizing u with
  | nil => exact h
  | cons e rest ih =>
    unfold State.runList
    split
    · simp [h]
    · exact ih (by split <;> simp [h])
@[simp] theorem State.keepsPool_runHeld {s u : State} (x : Side) (h : s.KeepsPool u) : s.KeepsPool (u.runHeld x) := by
  simp [State.runHeld, h]
@[simp] theorem State.keepsPool_resumeWrite {s u : State} (x : Side) (w : NvmWrite) (reads : List Bool) (h : s.KeepsPool u) :
    s.KeepsPool (u.resumeWrite x w reads) := by
  have hw := State.keepsPool_continueWrite x w reads h
  unfold State.resumeWrite
  split <;> simp_all
@[simp] theorem execTrayImageAdopt_keepsPool (q : MgmtReq) (len : Nat) (reads : List Bool) (s : State) :
    KeepsPool s (execTrayImageAdopt q len reads s) := by
  unfold execTrayImageAdopt
  split
  · split
    · simp
    · simp
  · simp

/-! ### Regions.lean -/

@[simp] theorem execGeneratorLocked_keepsPool (k : ChipId) (r : RegionId) (s : State) :
    KeepsPool s (execGeneratorLocked k r s) := by
  simp [execGeneratorLocked]
@[simp] theorem execGangSkewFault_keepsPool (k : ChipId) (r : RegionId) (ps cycles : Nat) (s : State) :
    KeepsPool s (execGangSkewFault k r ps cycles s) := by
  simp [execGangSkewFault]
@[simp] theorem execGangMemberDeskewed_keepsPool (k : ChipId) (r : RegionId) (ps steps : Int) (s : State) :
    KeepsPool s (execGangMemberDeskewed k r ps steps s) := by
  simp [execGangMemberDeskewed]
@[simp] theorem execGangDissolveApply_keepsPool (k : ChipId) (m : RegionId) (s : State) :
    KeepsPool s (execGangDissolveApply k m s) := by
  simp only [execGangDissolveApply]
  split <;> simp
@[simp] theorem execGangDissolveTimeout_keepsPool (k : ChipId) (m : RegionId) (s : State) :
    KeepsPool s (execGangDissolveTimeout k m s) := by
  simp only [execGangDissolveTimeout]
  split <;> simp
@[simp] theorem execTileFailed_keepsPool (k : ChipId) (r : RegionId) (q : PosId) (s : State) :
    KeepsPool s (execTileFailed k r q s) := by
  simp [execTileFailed]

/-! ### Responses.lean -/

@[simp] theorem execRspArrive_keepsPool (k : ChipId) (e : EpId) (s : State) : KeepsPool s (execRspArrive k e s) := by
  simp only [execRspArrive]
  split <;> simp
@[simp] theorem execRspTimeout_keepsPool (k : ChipId) (e : EpId) (tag : Nat) (s : State) :
    KeepsPool s (execRspTimeout k e tag s) := by
  simp only [execRspTimeout]
  split <;> simp

/-! ### Roles.lean -/

@[simp] theorem execRoleGrant_keepsPool (x : Side) (s : State) : KeepsPool s (execRoleGrant x s) := by
  simp [execRoleGrant]
@[simp] theorem execAliveToggle_keepsPool (s : State) : KeepsPool s (execAliveToggle s) := by
  simp only [execAliveToggle]
  split <;> simp
@[simp] theorem execHeartbeatSend_keepsPool (x : Side) (s : State) : KeepsPool s (execHeartbeatSend x s) := by
  simp [execHeartbeatSend]
@[simp] theorem execHeartbeatReceive_keepsPool (x : Side) (s : State) : KeepsPool s (execHeartbeatReceive x s) := by
  simp only [execHeartbeatReceive]
  split <;> simp
@[simp] theorem execHeartbeatLost_keepsPool (x : Side) (s : State) : KeepsPool s (execHeartbeatLost x s) := by
  simp [execHeartbeatLost]
@[simp] theorem State.keepsPool_failover {s u : State} (y : Side) (ok : Bool) (h : s.KeepsPool u) :
    s.KeepsPool (u.failover y ok) := by
  simp [State.failover, h]
@[simp] theorem execRoleFailover_keepsPool (ok : Bool) (s : State) : KeepsPool s (execRoleFailover ok s) := by
  simp only [execRoleFailover]
  split <;> simp
theorem State.keepsPool_handoverStep {s t : State} (x : Side) (e : Nat) (h : s.handoverStep x e = some t) : s.KeepsPool t := by
  revert t
  simp only [State.handoverStep]
  repeat' split
  all_goals simp
@[simp] theorem execHandover_keepsPool (s : State) :
    KeepsPool s (execHandover s) := by
  unfold execHandover
  split
  · simp
  · split
    · simp
    next h => simp [State.keepsPool_handoverStep _ _ h]
@[simp] theorem execHandoverMessage_keepsPool (s : State) : KeepsPool s (execHandoverMessage s) := by
  simp only [execHandoverMessage]
  split <;> simp

/-! ### Spine.lean -/

@[simp] theorem execSpineStartCheck_keepsPool (k : ChipId) (back : List Bool) (s : State) :
    KeepsPool s (execSpineStartCheck k back s) := by
  simp [execSpineStartCheck]
@[simp] theorem execMessageInject_keepsPool (k : ChipId) (m : Msg) (at_ : Moment) (s : State) :
    KeepsPool s (execMessageInject k m at_ s) := by
  simp [execMessageInject]
@[simp] theorem execRouterForward_keepsPool (k : ChipId) (r : RegionId) (d : OutPort) (s : State) :
    KeepsPool s (execRouterForward k r d s) := by
  simp only [execRouterForward]
  split <;> simp
@[simp] theorem execWseqResync_keepsPool (k : ChipId) (e : EpId) (s : State) : KeepsPool s (execWseqResync k e s) := by
  simp only [execWseqResync]
  split <;> simp
@[simp] theorem execFlitUncorrectable_keepsPool (k : ChipId) (r : RegionId) (d : OutPort) (s : State) :
    KeepsPool s (execFlitUncorrectable k r d s) := by
  simp only [execFlitUncorrectable]
  split <;> simp
@[simp] theorem execLaneStallTimeout_keepsPool (k : ChipId) (r : RegionId) (d : OutPort) (lane : Lane) (s : State) :
    KeepsPool s (execLaneStallTimeout k r d lane s) := by
  simp [execLaneStallTimeout]
@[simp] theorem execLinkCeRate_keepsPool (k : ChipId) (r : RegionId) (d : OutPort) (n : Nat) (s : State) :
    KeepsPool s (execLinkCeRate k r d n s) := by
  simp [execLinkCeRate]

/-! ### Vector.lean -/

@[simp] theorem vectorStep_keepsPool (k : ChipId) (r : RegionId) (p : TileId) (code : Nat)
    (f : Tile → List Nat → List Nat) (s : State) :
    
    KeepsPool s (vectorStep k r p code f s) := by
  simp [vectorStep]
@[simp] theorem execLd_keepsPool (k : ChipId) (r : RegionId) (p : TileId) (s : State) : KeepsPool s (execLd k r p s) := by
  simp [execLd]
@[simp] theorem execSt_keepsPool (k : ChipId) (r : RegionId) (p : TileId) (s : State) : KeepsPool s (execSt k r p s) := by
  simp [execSt]
@[simp] theorem execCvt_keepsPool (k : ChipId) (r : RegionId) (p : TileId) (s : State) : KeepsPool s (execCvt k r p s) := by
  simp [execCvt]
@[simp] theorem setaStep_keepsPool (k : ChipId) (r : RegionId) (p : TileId) (code : Nat) (f : Tile → List Nat → Nat)
    (s : State) :
    
    KeepsPool s (setaStep k r p code f s) := by
  simp [setaStep]

/-! ### Dispatch.lean -/

/-- Every command keeps the bound: each by its own lemma, and one that is an application of a shared meaning (`vectorStep`, `mgmt`,
`tableMove` and the like) by the lemma of that meaning. -/
theorem exec_keepsPool (i : Instr) (s : State) : KeepsPool s (exec i s) := by
  cases i <;> simp [exec,
    execGather, execScatter, execSelectSkewer, execSelectColander, execSignalAdd, execSignalSet, execArm, execArmPredict,
    execEpochBoundary, execPpsHoldEnd, execTrayStatus, execFaultLog, execMeterStatus, execLampStatus, execRoleSwap,
    execUnitPrepare, execUnitResume, execSlotPower, execSlotReset, execChipRestart, execTrayImageWrite, execSwitchUpstream,
    execTimeLoad, execLocate, execLampTest, execLampLevel, execCaInstall, execCaRemove, execIadd, execIsub, execImul,
    execImin, execImax, execAnd, execOr, execXor, execShl, execShr, execSar, execIcmplt, execFadd, execFsub, execFmul,
    execFma, execFmin, execFmax, execFcmplt, execRecip, execRsqrt, execSqrt, execExp2, execLog2, execPerm, execBcast,
    execLshift, execSel, execRsum, execRmax, execRmin, execSetaImm, execSetaV]

end Sys2Proof.Machine
end

section
/-! THE WAITER POOL (R387): a WAIT_GE at a full pool, and the settled obligation. -/

namespace Sys2Proof.Machine

/-- A WAIT_GE that is not met and finds the pool full is counted in POOL_FULL and answered POOL_FULL (R387). -/
theorem Chip.waitCounter_full {c : Chip} {w : Waiter} (hv : c.seq.ctr.get 0 w.counter < w.value)
    (hf : 4096 ≤ c.seq.waiters.length) :
    c.waitCounter w =
      ((c.countAux 3 1).onSeq (fun q => { q with poolFull := satAdd 32 q.poolFull 1 })).answerWaiter w 2 := by
  simp [Chip.waitCounter, Nat.not_le.2 hv, hf]

/-- The answer to a waiter of another endpoint is an RSP that joins SEQ's outgoing messages (R386). -/
theorem Chip.answerWaiter_message {c : Chip} {w : Waiter} (outcome : Nat) (hr : w.ring = none) (hs : w.src ≠ epSeq) :
    c.answerWaiter w outcome = c.send
      { lane := .rsp, src := epSeq, dst := w.src, tag := w.tag, arg := outcome + c.seq.ctr.get 0 w.counter * 2 ^ 4 } := by
  simp [Chip.answerWaiter, hr, Chip.issueMsg, hs]

/-- The answer to a COUNTER command that waits in the background is its completion, with the outcome and the counter's
value as its results (R629). -/
theorem Chip.answerWaiter_command {c : Chip} {w : Waiter} {g : Nat} {bs : List Byte} (outcome : Nat) (hr : w.ring = some g)
    (hb : c.background g 0x40 = some bs) :
    c.answerWaiter w outcome =
      (c.endBackground g 0x40).post g (c.commandEntry bs 0 0 outcome (c.seq.ctr.get 0 w.counter)) := by
  simp [Chip.answerWaiter, hr, hb, Chip.complete, Chip.commandEntry, Chip.endBackground]

/-- A completion that is posted is on its way to the ring or held (R620). -/
theorem Chip.hasPosted_post (c : Chip) (g : Nat) (x : Completion) : (c.post g x).hasPosted g x := by
  unfold Chip.post
  split <;> simp [Chip.hasPosted, Chip.compQueue]

/-- A command taken from the front of its ring waits in the background: no other of its opcode does. -/
theorem Chip.background_toBackground {c : Chip} {g op : Nat} {bs : List Byte} (h : c.front g op = some bs) :
    (c.toBackground g).background g op = some bs := by
  unfold Chip.front at h
  split at h
  next e he =>
    dsimp only at h
    split at h
    next hc =>
      obtain rfl := Option.some.inj h
      simp only [Bool.and_eq_true, decide_eq_true_eq, List.all_eq_true, bne_iff_ne] at hc
      obtain ⟨⟨hop, -⟩, hbg⟩ := hc
      have hnone : (c.ring g).background.find? (fun h => entryOp h.bytes == op) = none := by
        simpa using hbg
      simp [Chip.background, Chip.toBackground, he, hnone, hop]
    · cases h
  · cases h

/-- At a full pool nothing is parked. -/
theorem Chip.waitCounter_full_waiters {c : Chip} {w : Waiter} (hv : c.seq.ctr.get 0 w.counter < w.value)
    (hf : 4096 ≤ c.seq.waiters.length) : (c.waitCounter w).seq.waiters = c.seq.waiters := by
  simp [Chip.waitCounter_full hv hf]

/-- At a full pool a message's WAIT_GE is counted and its sender gets an RSP with outcome 2 (R386, R387). -/
theorem Chip.waitCounter_full_message {c : Chip} {w : Waiter} (hv : c.seq.ctr.get 0 w.counter < w.value)
    (hf : 4096 ≤ c.seq.waiters.length) (hr : w.ring = none) (hs : w.src ≠ epSeq) :
    (c.waitCounter w).seq.poolFull = satAdd 32 c.seq.poolFull 1 ∧
      ((c.waitCounter w).ep epSeq).out = (c.ep epSeq).out ++
        [{ lane := .rsp, src := epSeq, dst := w.src, tag := w.tag, arg := 2 + c.seq.ctr.get 0 w.counter * 2 ^ 4 }] := by
  rw [Chip.waitCounter_full hv hf, Chip.answerWaiter_message 2 hr hs]
  simp [Chip.send]

/-- At a full pool a COUNTER command's WAIT_GE completes with outcome 2 (R387, R629). -/
theorem Chip.waitCounter_full_command {c : Chip} {w : Waiter} {g : Nat} {bs : List Byte}
    (hv : c.seq.ctr.get 0 w.counter < w.value) (hf : 4096 ≤ c.seq.waiters.length) (hr : w.ring = some g)
    (hb : c.background g 0x40 = some bs) :
    (c.waitCounter w).hasPosted g (c.commandEntry bs 0 0 2 (c.seq.ctr.get 0 w.counter)) := by
  rw [Chip.waitCounter_full hv hf, Chip.answerWaiter_command 2 hr (by exact hb)]
  exact Chip.hasPosted_post _ g _

/-- EVT_WAIT_GE of an admitted message: the waiter is parked or answered. -/
theorem exec_evtWaitGe_admitted {k : ChipId} {m : Msg} {s : State} (hrun : (s.chip k).running = true)
    (hm : (s.chip k).headEvt 3 = some m) (hadm : (s.chip k).admitsCounter (evtCounter m) m.src = true) :
    exec (.evtWaitGe k) s = .next (s.setChip k ((s.chip k).dropEvt.waitCounter (waiterOf m))) := by
  change execEvtWaitGe k s = _
  simp [execEvtWaitGe, hm, hrun, waiterOf, hadm]

/-- The waiter that a COUNTER WAIT_GE command stands for (R629). -/
def waiterOfCommand (g : RingId) (bs : List Byte) : Waiter :=
  { counter := cnIndex bs, value := cnValue bs, src := epHif, tag := g, timeout := entryField bs 12 4, ring := some g.val }

/-- COUNTER WAIT_GE at the front of its ring: the command moves to the background and is parked or answered. -/
theorem exec_counterWaitGe_atCommand {k : ChipId} {g : RingId} {bs : List Byte} {s : State}
    (hat : (s.chip k).atCommand g 0x40 1 bs) (hopc : entryField bs 10 1 = 2) :
    exec (.counterWaitGe k g) s = .next (s.setChip k (((s.chip k).toBackground g).waitCounter (waiterOfCommand g bs))) := by
  obtain ⟨hrun, hready, hroom, hfront⟩ := hat
  change execCounterWaitGe k g s = _
  simp [execCounterWaitGe, counterOp, hfront, hrun, hready, hopc, Chip.roomForAll, hroom, waiterOfCommand]

theorem Chip.dropEvt_out (c : Chip) (e : Nat) : (c.dropEvt.ep e).out = (c.ep e).out := by
  by_cases h : e = epSeq <;> simp [Chip.dropEvt, h]

/-- An EVT_WAIT_GE that finds the pool full parks nothing and is answered POOL_FULL (R387). -/
theorem evtWaitGe_poolFull {k : ChipId} {m : Msg} {s : State} (hrun : (s.chip k).running = true)
    (hm : (s.chip k).headEvt 3 = some m) (hadm : (s.chip k).admitsCounter (evtCounter m) m.src = true)
    (hsrc : m.src ≠ epSeq) (hv : (s.chip k).seq.ctr.get 0 (evtCounter m) < field m.arg 0 64)
    (hfull : 4096 ≤ (s.chip k).seq.waiters.length) :
    ∃ t, exec (.evtWaitGe k) s = .next t ∧ (t.chip k).seq.waiters = (s.chip k).seq.waiters ∧
      (t.chip k).seq.poolFull = satAdd 32 (s.chip k).seq.poolFull 1 ∧
      ((t.chip k).ep epSeq).out = ((s.chip k).ep epSeq).out ++
        [{ lane := .rsp, src := epSeq, dst := m.src, tag := field m.arg 88 8
           arg := 2 + (s.chip k).seq.ctr.get 0 (evtCounter m) * 2 ^ 4 }] := by
  have hv' : (s.chip k).dropEvt.seq.ctr.get 0 (waiterOf m).counter < (waiterOf m).value := by simpa [waiterOf]
  have hf : 4096 ≤ (s.chip k).dropEvt.seq.waiters.length := by simpa
  obtain ⟨hcount, hout⟩ := Chip.waitCounter_full_message hv' hf rfl hsrc
  refine ⟨_, exec_evtWaitGe_admitted hrun hm hadm, ?_⟩
  rw [State.chip_setChip_self]
  exact ⟨by simpa using Chip.waitCounter_full_waiters hv' hf, by simpa using hcount,
    by simpa [Chip.dropEvt_out, waiterOf] using hout⟩

/-- A COUNTER WAIT_GE that finds the pool full parks nothing and completes with POOL_FULL (R387, R629). -/
theorem counterWaitGe_poolFull {k : ChipId} {g : RingId} {bs : List Byte} {s : State} (hat : (s.chip k).atCommand g 0x40 1 bs)
    (hopc : entryField bs 10 1 = 2) (hv : (s.chip k).seq.ctr.get 0 (cnIndex bs) < cnValue bs)
    (hfull : 4096 ≤ (s.chip k).seq.waiters.length) :
    ∃ t, exec (.counterWaitGe k g) s = .next t ∧ (t.chip k).seq.waiters = (s.chip k).seq.waiters ∧
      (t.chip k).hasPosted g ((s.chip k).commandEntry bs 0 0 2 ((s.chip k).seq.ctr.get 0 (cnIndex bs))) := by
  have hv' : ((s.chip k).toBackground g).seq.ctr.get 0 (waiterOfCommand g bs).counter < (waiterOfCommand g bs).value := by
    simpa [waiterOfCommand]
  have hf : 4096 ≤ ((s.chip k).toBackground g).seq.waiters.length := by simpa
  have ⟨_, _, _, hfront⟩ := hat
  refine ⟨_, exec_counterWaitGe_atCommand hat hopc, ?_⟩
  rw [State.chip_setChip_self]
  exact ⟨by simpa using Chip.waitCounter_full_waiters hv' hf,
    Chip.waitCounter_full_command hv' hf rfl (Chip.background_toBackground hfront)⟩

/-- Settles O60: every command keeps the bound of the pool, and at a full pool both forms of WAIT_GE are answered at once. -/
theorem waiterPoolIsBounded : Obligations.WaiterPoolIsBounded :=
  ⟨fun i s t n h => exec_keepsPool i s t h n,
    fun _ _ _ hrun hm hadm hsrc hv hfull => evtWaitGe_poolFull hrun hm hadm hsrc hv hfull,
    fun _ _ _ _ hat hopc hv hfull => counterWaitGe_poolFull hat hopc hv hfull⟩

end Sys2Proof.Machine
end

section
/-! DOORBELLS (R611): which doorbell writes are dropped, what a dropped one leaves and what a stored one writes, and the settled
obligation. -/

namespace Sys2Proof.Machine

/-! ### The three cases -/

/-- The host reaches HIF only while the function is out of D3hot (R603). -/
theorem Chip.d3_of_linkUp {c : Chip} (h : c.linkUp = true) : c.hif.d3 = false := by
  simp only [Chip.linkUp, Bool.and_eq_true, Bool.not_eq_true'] at h
  exact h.2

/-- While the link is up, the doorbells that are dropped are those of the three cases of R611. -/
theorem Chip.dropsDoorbell_iff {c : Chip} (h : c.linkUp = true) (g v : Nat) :
    c.dropsDoorbell g v = true ↔ c.ringN ≤ v ∨ c.bru.ready = false ∨ (c.ring g).enable = false := by
  simp [Chip.dropsDoorbell, Chip.ringOn, Chip.d3_of_linkUp h, or_assoc]

/-- While the link is up, a doorbell outside the three cases is not dropped. -/
theorem Chip.dropsDoorbell_eq_false {c : Chip} {g v : Nat} (h : c.linkUp = true) (hv : v < c.ringN)
    (hready : c.bru.ready = true) (hon : (c.ring g).enable = true) : c.dropsDoorbell g v = false := by
  simp [← Bool.not_eq_true, Chip.dropsDoorbell_iff h, hv, hready, hon]

/-! ### What a dropped doorbell leaves -/

/-- A fault that is raised is the newest entry of the log (R635). -/
theorem Chip.logged_fault (c : Chip) (t : Tag) (nn inst : Nat) : (c.fault t nn inst).logged t nn inst := by
  simp [Chip.logged, Chip.fault]

@[simp] theorem Chip.ring_dropDoorbell (c : Chip) (j : Nat) : c.dropDoorbell.ring j = c.ring j := (rfl)

@[simp] theorem Chip.dropDoorbell_dbDrop (c : Chip) : c.dropDoorbell.hif.dbDrop = satAdd 32 c.hif.dbDrop 1 := (rfl)

theorem Chip.logged_dropDoorbell (c : Chip) : c.dropDoorbell.logged .hif 2 noInstance := Chip.logged_fault _ _ _ _

/-! ### The FLUSHes a stored CMD_TAIL starts touch neither a ring nor the count (R612) -/

@[simp] theorem Chip.send_hif (c : Chip) (m : Msg) : (c.send m).hif = c.hif := (rfl)

/-- A fold over a chip beside something else keeps HIF's state when each of its steps does. -/
theorem foldl_fst_hif {α β : Type} {f : Chip × β → α → Chip × β} (hf : ∀ x a, (f x a).1.hif = x.1.hif) (l : List α)
    (x : Chip × β) : (l.foldl f x).1.hif = x.1.hif :=
  List.foldlRecOn (motive := fun y => y.1.hif = x.1.hif) l f rfl fun y hy a _ => (hf y a).trans hy

/-- Of HIF's state, sending the FLUSHes that wait for a tag changes the list of FLUSHes only. -/
theorem Chip.pumpFlush_hif (c : Chip) : ∃ fs, c.pumpFlush.hif = { c.hif with flushes := fs } := by
  rw [Chip.pumpFlush, Chip.onHif_hif_eq, foldl_fst_hif]
  · exact ⟨_, rfl⟩
  · intro acc x
    split
    · rfl
    · split <;> simp

@[simp] theorem Chip.ring_pumpFlush (c : Chip) (j : Nat) : c.pumpFlush.ring j = c.ring j := by
  obtain ⟨fs, h⟩ := c.pumpFlush_hif
  simp [Chip.ring, h]

@[simp] theorem Chip.pumpFlush_dbDrop (c : Chip) : c.pumpFlush.hif.dbDrop = c.hif.dbDrop := by
  obtain ⟨fs, h⟩ := c.pumpFlush_hif
  rw [h]

@[simp] theorem Chip.ring_flushFor (c : Chip) (g j : Nat) : (c.flushFor g).ring j = c.ring j :=
  Chip.ring_pumpFlush _ j

@[simp] theorem Chip.flushFor_dbDrop (c : Chip) (g : Nat) : (c.flushFor g).hif.dbDrop = c.hif.dbDrop :=
  Chip.pumpFlush_dbDrop _

@[simp] theorem Chip.setRing_dbDrop (c : Chip) (g : Nat) (x : Ring) : (c.setRing g x).hif.dbDrop = c.hif.dbDrop := (rfl)

/-! ### The two doorbells -/

/-- CMD_TAIL_WRITE while the link is up: dropped, or stored with the FLUSHes due before the next fetch (R611, R612). -/
theorem exec_cmdTailWrite_linkUp {k : ChipId} {s : State} (g : RingId) (v : Word) (h : (s.chip k).linkUp = true) :
    exec (.cmdTailWrite k g v) s = .next (s.setChip k (if (s.chip k).dropsDoorbell g v.toNat then (s.chip k).dropDoorbell
      else ((s.chip k).onRing g (fun r => { r with cmdTail := v.toNat })).flushFor g)) := by
  change execCmdTailWrite k g v s = _
  simp only [execCmdTailWrite, h, occurs_true]

/-- CPL_HEAD_WRITE while the link is up: dropped or stored (R611, R615). -/
theorem exec_cplHeadWrite_linkUp {k : ChipId} {s : State} (g : RingId) (v : Word) (h : (s.chip k).linkUp = true) :
    exec (.cplHeadWrite k g v) s = .next (s.setChip k (if (s.chip k).dropsDoorbell g v.toNat then (s.chip k).dropDoorbell
      else (s.chip k).onRing g (fun r => { r with cplHead := v.toNat }))) := by
  change execCplHeadWrite k g v s = _
  simp only [execCplHeadWrite, h, occurs_true]

/-- A command that leaves chip `k` with a dropped doorbell leaves the ring's indices, counts the drop and reports F-HIF-02
(R611). -/
theorem dropped_of_exec {i : Instr} {k : ChipId} {s : State} (g : RingId)
    (h : exec i s = .next (s.setChip k (s.chip k).dropDoorbell)) :
    ∃ t, exec i s = .next t ∧ (t.chip k).ring g = (s.chip k).ring g ∧
      (t.chip k).hif.dbDrop = satAdd 32 (s.chip k).hif.dbDrop 1 ∧ (t.chip k).logged .hif 2 noInstance := by
  refine ⟨_, h, ?_⟩
  rw [State.chip_setChip_self]
  exact ⟨Chip.ring_dropDoorbell _ _, Chip.dropDoorbell_dbDrop _, Chip.logged_dropDoorbell _⟩

/-- A CMD_TAIL_WRITE that is not dropped stores its value and counts no drop. -/
theorem cmdTailWrite_stored {k : ChipId} {g : RingId} {v : Word} {s : State} (h : (s.chip k).linkUp = true)
    (hd : (s.chip k).dropsDoorbell g v.toNat = false) :
    ∃ t, exec (.cmdTailWrite k g v) s = .next t ∧ ((t.chip k).ring g).cmdTail = v.toNat ∧
      (t.chip k).hif.dbDrop = (s.chip k).hif.dbDrop :=
  ⟨_, exec_cmdTailWrite_linkUp g v h, by simp [hd], by simp [hd]⟩

/-- A CPL_HEAD_WRITE that is not dropped stores its value and counts no drop. -/
theorem cplHeadWrite_stored {k : ChipId} {g : RingId} {v : Word} {s : State} (h : (s.chip k).linkUp = true)
    (hd : (s.chip k).dropsDoorbell g v.toNat = false) :
    ∃ t, exec (.cplHeadWrite k g v) s = .next t ∧ ((t.chip k).ring g).cplHead = v.toNat ∧
      (t.chip k).hif.dbDrop = (s.chip k).hif.dbDrop :=
  ⟨_, exec_cplHeadWrite_linkUp g v h, by simp [hd], by simp [hd]⟩

/-- Settles O58: the guard of both doorbells is R611's three cases, and a drop is the same step for both. -/
theorem doorbellDropped : Obligations.DoorbellDropped := by
  intro k g v s c hlink
  constructor
  · intro hcases
    have hd : c.dropsDoorbell g v.toNat = true := (Chip.dropsDoorbell_iff hlink g v.toNat).2 hcases
    exact ⟨dropped_of_exec g (by rw [exec_cmdTailWrite_linkUp g v hlink, if_pos hd]),
      dropped_of_exec g (by rw [exec_cplHeadWrite_linkUp g v hlink, if_pos hd])⟩
  · intro hv hready hon
    have hd : c.dropsDoorbell g v.toNat = false := Chip.dropsDoorbell_eq_false hlink hv hready hon
    exact ⟨cmdTailWrite_stored hlink hd, cplHeadWrite_stored hlink hd⟩

end Sys2Proof.Machine
end

section
/-! SUPPORT. What each operation on the tray leaves of the role latch (R649), and what those that follow a taking of the role leave
of the TMCs and of their ROLE_GEN. -/

namespace Sys2Proof.Machine

/-- A fold whose every step leaves `g` alone leaves `g` alone. -/
theorem foldl_keeps {α β γ : Type} (g : β → γ) {f : β → α → β} (hf : ∀ b a, g (f b a) = g b) (l : List α) (b : β) :
    g (l.foldl f b) = g b := by
  induction l generalizing b with
  | nil => rfl
  | cons a l ih => rw [List.foldl_cons, ih, hf]

/-! ### The role after an operation on the tray -/

@[simp] theorem Tray.setThreshold_role (t : Tray) : t.setThreshold.role = t.role := by
  simp [Tray.setThreshold]
@[simp] theorem Tray.noteStanding_role (t : Tray) : t.noteStanding.role = t.role := by
  unfold Tray.noteStanding
  split
  · refine (foldl_keeps Tray.role (fun t n => ?_) _ _).trans (by simp)
    split <;> simp
  · rfl
@[simp] theorem Tray.checkStandby_role (t : Tray) : t.checkStandby.role = t.role := by
  unfold Tray.checkStandby
  split <;> simp
@[simp] theorem Tray.takeSource_role (t : Tray) (x : Side) (ps : Int) : (t.takeSource x ps).role = t.role := by
  simp [Tray.takeSource]
@[simp] theorem Tray.exchange_role (t : Tray) (e : Nat) (ns : List Nat) : (t.exchange e ns).role = t.role := (rfl)
@[simp] theorem Tray.beginPowerUp_role (t : Tray) (n : Nat) : (t.beginPowerUp n).role = t.role := by
  simp [Tray.beginPowerUp]
@[simp] theorem Tray.beginPowerDown_role (t : Tray) (n : Nat) : (t.beginPowerDown n).role = t.role := (rfl)
@[simp] theorem Tray.overrideCores_role (t : Tray) : t.overrideCores.role = t.role := by
  unfold Tray.overrideCores
  split
  · exact foldl_keeps Tray.role (fun t n => by split <;> simp) _ _
  · rfl
@[simp] theorem Tray.older_role (t : Tray) (ep : Nat) : (t.older ep).role = t.role := by
  simp [Tray.older]
@[simp] theorem Tray.epochBoundary_role (t : Tray) (x : Side) : (t.epochBoundary x).role = t.role := by
  simp [Tray.epochBoundary]
@[simp] theorem Tray.startSweep_role (t : Tray) (b : Nat) : (t.startSweep b).role = t.role := (rfl)
@[simp] theorem Tray.takeReports_role (t : Tray) : t.takeReports.role = t.role :=
  foldl_keeps Tray.role (fun _ _ => by rfl) _ _
@[simp] theorem Tray.endSweep_role (t : Tray) (e : Nat) : (t.endSweep e).role = t.role := by
  simp [Tray.endSweep]
@[simp] theorem Tray.drivePatterns_role (t : Tray) : t.drivePatterns.role = t.role := by
  simp [Tray.drivePatterns]
@[simp] theorem Tray.setLamp_role (t : Tray) (e : Nat) (x : Lamp) (d : LampStatus) : (t.setLamp e x d).role = t.role := by
  simp [Tray.setLamp]
@[simp] theorem Tray.diagnose_role (t : Tray) (e : Nat) (x : LampSense) : (t.diagnose e x).role = t.role := by
  simp [Tray.diagnose]
@[simp] theorem Tray.testLamp_role (t : Tray) (e : Nat) (x : LampSense) : (t.testLamp e x).role = t.role := by
  simp [Tray.testLamp]
@[simp] theorem Tray.readNvm_role (t : Tray) : t.readNvm.role = t.role := by
  simp [Tray.readNvm]
@[simp] theorem Tray.prepareUnit_role (t : Tray) (typ i : Nat) : (t.prepareUnit typ i).role = t.role := by
  unfold Tray.prepareUnit
  simp only [Tray.checkStandby_role]
  split <;> simp
@[simp] theorem Tray.resumeUnit_role (t : Tray) (typ i : Nat) : (t.resumeUnit typ i).role = t.role := by
  unfold Tray.resumeUnit
  dsimp only
  split <;> simp
@[simp] theorem Tray.forget_role (t : Tray) (typ i : Nat) : (t.forget typ i).role = t.role := by
  simp [Tray.forget]
@[simp] theorem Tray.insertUnit_role (t : Tray) (typ i : Nat) : (t.insertUnit typ i).role = t.role := by
  unfold Tray.insertUnit
  dsimp only
  split <;> simp
@[simp] theorem Tray.joinUnit_role (t : Tray) (typ i : Nat) : (t.joinUnit typ i).role = t.role := by
  unfold Tray.joinUnit
  simp only [Tray.checkStandby_role, Tray.forget_role]
  split <;> simp
@[simp] theorem Tray.softStart_role (t : Tray) (i : Nat) : (t.softStart i).role = t.role := (rfl)
@[simp] theorem Tray.respond_role (t : Tray) (q : MgmtReq) (op : Nat) (a : Answer) : (t.respond q op a).role = t.role := by
  simp [Tray.respond]
@[simp] theorem Tray.slotPower_role (t : Tray) (n on : Nat) : (t.slotPower n on).1.role = t.role := by
  unfold Tray.slotPower
  repeat' split
  all_goals simp
@[simp] theorem Tray.useImage_role (t : Tray) (im : List Host.Cell) : (t.useImage im).role = t.role := by
  simp [Tray.useImage]
@[simp] theorem Tray.putImage_role (t : Tray) (x : Side) (w : NvmWrite) : (t.putImage x w).role = t.role := by
  simp [Tray.putImage]
@[simp] theorem Tray.timeLoad_role (t : Tray) (x : Side) (ep : Nat) : (t.timeLoad x ep).1.role = t.role := by
  unfold Tray.timeLoad
  dsimp only
  split <;> simp
@[simp] theorem Tray.lampTest_role (t : Tray) (samples : List LampSense) : (t.lampTest samples).1.role = t.role := by
  unfold Tray.lampTest
  split
  · exact foldl_keeps Tray.role (fun t e => t.testLamp_role e _) _ _
  · rfl
@[simp] theorem Tray.setCa_role (t : Tray) (q : MgmtReq) (idx : Nat) (cert : Option (List Byte)) :
    (t.setCa q idx cert).1.role = t.role := by
  cases cert <;> simp only [Tray.setCa] <;> split <;> simp
@[simp] theorem Tray.noteRefusal_role (t : Tray) (x : Side) (a : Answer) : (t.noteRefusal x a).role = t.role := by
  simp [Tray.noteRefusal]
@[simp] theorem Tray.roleSwap_role (t : Tray) (q : MgmtReq) (gen : Nat) : (t.roleSwap q gen).role = t.role := by
  simp [Tray.roleSwap]
@[simp] theorem Tray.takeMirror_role (t : Tray) (h : Mirror) : (t.takeMirror h).role = t.role := (rfl)
@[simp] theorem Tray.answerSwaps_role (t : Tray) (a : Answer) : (t.answerSwaps a).role = t.role :=
  foldl_keeps Tray.role (fun t q => by split <;> simp) _ _
@[simp] theorem Tray.failWrite_role (t : Tray) : t.failWrite.role = t.role := by
  unfold Tray.failWrite
  split <;> simp
@[simp] theorem Tray.refuseHandover_role (t : Tray) (x : Side) : (t.refuseHandover x).role = t.role := by
  simp [Tray.refuseHandover]

/-! ### The role after an operation on the machine -/

@[simp] theorem State.removePower_role (s : State) (n : Nat) : (s.removePower n).tray.role = s.tray.role := by
  simp [State.removePower]
/-- The reference lines are followed by the chips only. -/
@[simp] theorem State.followLines_tray (s u : State) : (s.followLines u).tray = u.tray :=
  foldl_keeps State.tray (fun _ _ => foldl_keeps State.tray (fun _ _ => by dsimp only; split <;> rfl) _ _) _ _
@[simp] theorem State.tripBreaker_role (s : State) (n : Nat) : (s.tripBreaker n).tray.role = s.tray.role := by
  simp [State.tripBreaker]
@[simp] theorem State.slotResetNow_role (s : State) (n : Nat) : (s.slotResetNow n).tray.role = s.tray.role := by
  simp [State.slotResetNow]
@[simp] theorem State.spoilNvm_role (s : State) (x : Side) (n : Nat) : (s.spoilNvm x n).tray.role = s.tray.role := by
  simp [State.spoilNvm]
@[simp] theorem State.rewriteNvm_role (s : State) (x : Side) (ok : Bool) : (s.rewriteNvm x ok).tray.role = s.tray.role := by
  simp [State.rewriteNvm]
@[simp] theorem State.moveUpstream_role (s : State) (port : Nat) : (s.moveUpstream port).tray.role = s.tray.role :=
  foldl_keeps (fun u : State => u.tray.role) (fun _ _ => by split <;> rfl) _ _
@[simp] theorem State.readNvm_role (s : State) (ok : Bool) : (s.readNvm ok).tray.role = s.tray.role := by
  simp [State.readNvm]
@[simp] theorem State.passNode_role (s : State) (node : Nat) (rev out : Bool) (meas mv : List Nat) (crcOk : Bool) :
    (s.passNode node rev out meas mv crcOk).tray.role = s.tray.role := by
  simp [State.passNode]
@[simp] theorem State.finishWrite_role (s : State) (x : Side) (im : List Host.Cell) (good : Bool) :
    (s.finishWrite x im good).tray.role = s.tray.role := by
  simp [State.finishWrite]
@[simp] theorem State.continueWrite_role (s : State) (x : Side) (w : NvmWrite) (reads : List Bool) :
    (s.continueWrite x w reads).1.tray.role = s.tray.role := by
  cases reads with
  | nil => rfl
  | cons ok rest =>
    simp only [State.continueWrite]
    repeat' split
    all_goals simp
@[simp] theorem State.adopt_role (s : State) (x : Side) (q : MgmtReq) (len : Nat) (reads : List Bool) :
    (s.adopt x q len reads).1.tray.role = s.tray.role := by
  simp only [State.adopt]
  repeat' split
  all_goals simp
@[simp] theorem State.switchUpstream_role (s : State) (port : Nat) : (s.switchUpstream port).1.tray.role = s.tray.role := by
  unfold State.switchUpstream
  split <;> simp
@[simp] theorem State.chipRestart_role (s : State) (n : Nat) : (s.chipRestart n).1.tray.role = s.tray.role := by
  unfold State.chipRestart
  repeat' split
  all_goals rfl
@[simp] theorem State.onTrayWith_role (s : State) (r : Tray × Answer) : (s.onTrayWith r).1.tray.role = r.1.role := (rfl)
/-- No command of the active TMC moves the role: ROLE_SWAP only asks for a handover. -/
@[simp] theorem State.runActive_role (s : State) (x : Side) (q : MgmtReq) (cmd : SvcCmd) :
    (s.runActive x q cmd).1.tray.role = s.tray.role := by
  cases cmd <;> simp only [State.runActive] <;> repeat' split
  all_goals simp
@[simp] theorem State.execute_role (s : State) (x : Side) (q : MgmtReq) (cmd : SvcCmd) :
    (s.execute x q cmd).tray.role = s.tray.role := by
  have hr := s.runActive_role x q cmd
  unfold State.execute
  split <;> simp_all
@[simp] theorem State.serve_role (s : State) (q : MgmtReq) (cmd : SvcCmd) : (s.serve q cmd).tray.role = s.tray.role := by
  simp only [State.serve]
  repeat' split
  all_goals simp
@[simp] theorem State.runList_role (s : State) (x : Side) (cmds : List (MgmtReq × SvcCmd)) :
    (s.runList x cmds).tray.role = s.tray.role := by
  induction cmds generalizing s with
  | nil => rfl
  | cons e rest ih =>
    unfold State.runList
    split
    · rfl
    · rw [ih]
      split <;> simp
@[simp] theorem State.runHeld_role (s : State) (x : Side) : (s.runHeld x).tray.role = s.tray.role := by
  simp [State.runHeld]
@[simp] theorem State.resumeWrite_role (s : State) (x : Side) (w : NvmWrite) (reads : List Bool) :
    (s.resumeWrite x w reads).tray.role = s.tray.role := by
  have hw := s.continueWrite_role x w reads
  unfold State.resumeWrite
  split <;> simp_all

/-! ### The TMCs, and their ROLE_GEN, after what follows a taking of the role -/

theorem Tray.tmc_congr {t u : Tray} (ha : u.tmcA = t.tmcA) (hb : u.tmcB = t.tmcB) (y : Side) : u.tmc y = t.tmc y := by
  cases y
  · exact ha
  · exact hb
@[simp] theorem Tray.setThreshold_tmc (t : Tray) (y : Side) : t.setThreshold.tmc y = t.tmc y := by
  unfold Tray.setThreshold
  split
  · cases y <;> rfl
  · rfl
@[simp] theorem Tray.noteStanding_tmc (t : Tray) (y : Side) : t.noteStanding.tmc y = t.tmc y := by
  unfold Tray.noteStanding
  split
  · refine (foldl_keeps (fun t : Tray => t.tmc y) (fun t n => ?_) _ _).trans (by simp)
    split <;> simp
  · rfl
@[simp] theorem Tray.checkStandby_tmc (t : Tray) (y : Side) : t.checkStandby.tmc y = t.tmc y := by
  unfold Tray.checkStandby
  split
  · rfl
  · dsimp only
    split <;> simp
@[simp] theorem Tray.takeMirror_tmc (t : Tray) (h : Mirror) (y : Side) : (t.takeMirror h).tmc y = t.tmc y := by
  cases y <;> rfl
@[simp] theorem Tray.respond_roleGen (t : Tray) (q : MgmtReq) (op : Nat) (a : Answer) (y : Side) :
    ((t.respond q op a).tmc y).roleGen = (t.tmc y).roleGen := by
  unfold Tray.respond
  by_cases h : y = q.tmc <;> simp [h]
@[simp] theorem Tray.answerSwaps_roleGen (t : Tray) (a : Answer) (y : Side) :
    ((t.answerSwaps a).tmc y).roleGen = (t.tmc y).roleGen := by
  have hf := foldl_keeps (fun t : Tray => (t.tmc y).roleGen)
    (f := fun t q => if (t.tmc q.tmc).present then t.respond q 0x10 a else t) (fun t q => by split <;> simp) t.swapWaiters t
  cases y <;> exact hf
@[simp] theorem Tray.failWrite_roleGen (t : Tray) (y : Side) : (t.failWrite.tmc y).roleGen = (t.tmc y).roleGen := by
  unfold Tray.failWrite
  split
  · rfl
  · dsimp only
    split
    · rw [Tray.respond_roleGen]
      cases y <;> rfl
    · cases y <;> rfl
@[simp] theorem Tray.setNvm_tmc (t : Tray) (x y : Side) (v : Nvm) : (t.setNvm x v).tmc y = t.tmc y := by
  cases x <;> cases y <;> rfl
theorem Tray.tmc_with_ring (t : Tray) (r : MeterRing) (y : Side) : ({ t with ring := r } : Tray).tmc y = t.tmc y := by
  cases y <;> rfl
theorem Tray.tmc_with_hand (t : Tray) (p : HandPhase) (m : Option Mirror) (cs : List (MgmtReq × SvcCmd)) (y : Side) :
    ({ t with hand := p, handMsg := m, heldCmds := cs } : Tray).tmc y = t.tmc y := by
  cases y <;> rfl
@[simp] theorem Tray.readNvm_tmc (t : Tray) (y : Side) : t.readNvm.tmc y = t.tmc y := by
  unfold Tray.readNvm
  dsimp only
  split
  · exact Tray.tmc_congr (by simp) (by simp) y
  · rw [Tray.noteStanding_tmc]
    exact Tray.tmc_congr (by simp) (by simp) y
@[simp] theorem State.spoilNvm_tmc (s : State) (x : Side) (n : Nat) (y : Side) : (s.spoilNvm x n).tray.tmc y = s.tray.tmc y := by
  simp [State.spoilNvm]
@[simp] theorem State.rewriteNvm_tmc (s : State) (x : Side) (ok : Bool) (y : Side) :
    (s.rewriteNvm x ok).tray.tmc y = s.tray.tmc y := by
  unfold State.rewriteNvm
  split <;> simp
@[simp] theorem State.readNvm_tmc (s : State) (ok : Bool) (y : Side) : (s.readNvm ok).tray.tmc y = s.tray.tmc y := by
  unfold State.readNvm
  dsimp only
  repeat' split
  all_goals simp

end Sys2Proof.Machine
end

section
/-! SUPPORT. The commands that no unit of the tray takes part in leave the tray as it is. -/

namespace Sys2Proof.Machine

/-- The next state of the outcome `o`, where it is one, has the tray of `s`. -/
def KeepsTray (s : State) (o : Out) : Prop := ∀ t, o = .next t → t.tray = s.tray

theorem keepsTray_occurs {b : Bool} {s t : State} (h : t.tray = s.tray) : KeepsTray s (occurs b s t) := by
  rintro u ⟨⟩
  cases b
  · rfl
  · exact h

/-! ### Commands of a ring -/

theorem ringCommand_keepsTray (k : ChipId) (g : RingId) (op n : Nat) (s : State) (f : Chip → List Byte → Chip) :
    KeepsTray s (ringCommand k g op n s f) := by
  unfold ringCommand
  dsimp only
  split <;> exact keepsTray_occurs rfl

theorem armOf_keepsTray (k : ChipId) (g : RingId) (predict : Bool) (s : State) : KeepsTray s (armOf k g predict s) := by
  unfold armOf
  dsimp only
  split <;> exact keepsTray_occurs rfl

theorem counterOp_keepsTray (k : ChipId) (g : RingId) (opc : Nat) (s : State) (woken : Chip → List Byte → List Nat)
    (f : Chip → List Byte → Chip) : KeepsTray s (counterOp k g opc s woken f) := by
  unfold counterOp
  dsimp only
  split <;> exact keepsTray_occurs rfl

/-! ### Writes of BAR0 and of the management I2C -/

theorem stateOf_tray {s : State} {o : Out} (h : KeepsTray s o) : (stateOf o s).tray = s.tray := by
  cases o with
  | next t => exact h t rfl
  | fault => rfl
  | refused => rfl

theorem imgCommand_tray (k : ChipId) (cmd : Nat) (s : State) : (imgCommand k cmd s).tray = s.tray := by
  unfold imgCommand
  split
  · exact stateOf_tray (keepsTray_occurs rfl)
  · exact stateOf_tray (keepsTray_occurs rfl)
  · exact stateOf_tray (keepsTray_occurs rfl)
  · exact stateOf_tray (keepsTray_occurs rfl)
  · rfl

theorem flashCommand_tray (k : ChipId) (cmd : Nat) (s : State) : (flashCommand k cmd s).tray = s.tray := by
  unfold flashCommand
  split
  · exact stateOf_tray (keepsTray_occurs rfl)
  · exact stateOf_tray (keepsTray_occurs rfl)
  · rfl

theorem State.writeReg_tray (s : State) (k : ChipId) (i2c : Bool) (r : Reg) (i v : Nat) :
    (s.writeReg k i2c r i v).tray = s.tray := by
  unfold State.writeReg
  split
  case h_1 =>
    split
    · exact stateOf_tray (keepsTray_occurs rfl)
    · rfl
  case h_2 =>
    split
    · exact stateOf_tray (keepsTray_occurs rfl)
    · rfl
  case h_3 => exact stateOf_tray (keepsTray_occurs rfl)
  case h_4 => exact imgCommand_tray k _ s
  case h_5 => split <;> exact stateOf_tray (keepsTray_occurs rfl)
  case h_6 => exact flashCommand_tray k _ _
  case h_7 => rfl

theorem State.writeWord_tray (s : State) (k : ChipId) (i2c : Bool) (p : RegPlace) (v : Nat) :
    (s.writeWord k i2c p v).tray = s.tray := by
  unfold State.writeWord
  split <;> exact State.writeReg_tray _ _ _ _ _ _

theorem State.writeBar0_tray {s t : State} (k : ChipId) (i2c wide : Bool) (off v : Nat)
    (h : s.writeBar0 k i2c wide off v = some t) : t.tray = s.tray := by
  unfold State.writeBar0 at h
  split at h
  · split at h
    · split at h
      · cases h
      · split at h
        · cases h
          exact State.writeReg_tray _ _ _ _ _ _
        · cases h
          exact (State.writeWord_tray _ _ _ _ _).trans (State.writeWord_tray _ _ _ _ _)
    · cases h
  · split at h
    · split at h
      · cases h
        exact State.writeWord_tray _ _ _ _ _
      · cases h
    · cases h

/-- A write that R606 turns away counts a bad access of the chip. -/
theorem State.writeBar0_getD_tray (s : State) (k : ChipId) (i2c wide : Bool) (off v : Nat) :
    ((s.writeBar0 k i2c wide off v).getD (s.onChip k Chip.badBar0)).tray = s.tray := by
  cases h : s.writeBar0 k i2c wide off v with
  | none => rfl
  | some t => exact State.writeBar0_tray k i2c wide off v h

theorem execBar0Write_keepsTray (k : ChipId) (off : Nat) (wide : Bool) (v : Nat) (s : State) :
    KeepsTray s (execBar0Write k off wide v s) :=
  keepsTray_occurs (s.writeBar0_getD_tray k false wide off v)

theorem execMgmtI2cAccess_keepsTray (k : ChipId) (off : Nat) (v : Option Nat) (s : State) :
    KeepsTray s (execMgmtI2cAccess k off v s) := by
  refine keepsTray_occurs ?_
  cases v with
  | none => rfl
  | some x => exact State.writeBar0_getD_tray _ k true false off x

/-! ### Every command -/

/-- Where a command waits for something to be there (an entry at the front of a ring, a flit, a waiter), nothing occurs without it;
what occurs writes chips, host memory and the counter of free values. -/
theorem exec_keepsTray {i : Instr} (h : mayChangeTray i = false) (s : State) : KeepsTray s (exec i s) := by
  cases i <;> simp only [mayChangeTray, Bool.true_eq_false] at h
  case openSession | confirm | cancel | close | modelLoad | tileReload | energyRead | nop =>
    simp only [exec, execOpenSession, execConfirm, execCancel, execClose, execModelLoad, execTileReload, execEnergyRead, execNop,
      ringCommand_keepsTray]
  case arm | armPredict => simp only [exec, execArm, execArmPredict, armOf_keepsTray]
  case counterAdd | counterSet | counterWaitGe | counterRead =>
    simp only [exec, execCounterAdd, execCounterSet, execCounterWaitGe, execCounterRead, counterOp_keepsTray]
  case bar0Write => exact execBar0Write_keepsTray _ _ _ _ _
  case mgmtI2cAccess => exact execMgmtI2cAccess_keepsTray _ _ _ _
  case p2pWriteForward =>
    simp only [exec, execP2pWriteForward]
    split
    · rintro _ ⟨⟩
      rfl
    · refine keepsTray_occurs ?_
      split <;> rfl
  case startPhaseAdvance | gangDissolveApply | gangDissolveTimeout | memoryUe | fixedItemRelease
    | isolationSinkAccept | routerForward | rspArrive | rspTimeout | wseqResync | flitUncorrectable | rollStepApply
    | rollForcedDrain | rollSingleTimeout | tileWrite | tileRead | start | collectiveTimeout | collect | waitRetry
    | waitReservationTimeout | flush | evtAdd | evtSet | evtWaitGe | ctrRead | waiterTimeout | sessionRead
    | modelLoadCopyDone | residencyRead | energyCapture | energyReadResult | admission | stageStart | itemEndReport
    | memoryRead | memoryWrite | void | readGroupComplete | grantFallApply | grantRiseApply | energyBooking
    | completionWrite | holdRelease | xdmaCollect | inboxResend | inboxExpire | tileReloadCopyDone =>
    simp only [exec, execStartPhaseAdvance, execGangDissolveApply, execGangDissolveTimeout, execMemoryUe,
      execFixedItemRelease, execIsolationSinkAccept, execRouterForward, execRspArrive, execRspTimeout, execWseqResync,
      execFlitUncorrectable, execRollStepApply, execRollForcedDrain, execRollSingleTimeout, execTileWrite, execTileRead,
      execStart, execCollectiveTimeout, execCollect, execWaitRetry, execWaitReservationTimeout, execFlush, execEvtAdd,
      execEvtSet, execEvtWaitGe, execCtrRead, execWaiterTimeout, execSessionRead, execModelLoadCopyDone, execResidencyRead,
      execEnergyCapture, execEnergyReadResult, execAdmission, execStageStart, execItemEndReport, execMemoryRead,
      execMemoryWrite, execVoid, execReadGroupComplete, execGrantFallApply, execGrantRiseApply, execEnergyBooking,
      execCompletionWrite, execHoldRelease, execXdmaCollect, execInboxResend, execInboxExpire, execTileReloadCopyDone]
    repeat' split
    all_goals exact keepsTray_occurs rfl
  all_goals exact keepsTray_occurs rfl

end Sys2Proof.Machine
end

section
/-! THE ROLE LATCH (R649, R653): which commands move it, what they do to the ROLE_GEN of the TMC that takes it, and the settled
obligation. -/

namespace Sys2Proof.Machine

/-- The next state of the outcome `o`, where it is one, has the role where `s` has it. -/
def KeepsRole (s : State) (o : Out) : Prop := ∀ t, o = .next t → t.tray.role = s.tray.role

theorem KeepsTray.keepsRole {s : State} {o : Out} (h : KeepsTray s o) : KeepsRole s o := fun t ht => by rw [h t ht]

@[simp] theorem keepsRole_next (s t : State) : KeepsRole s (.next t) ↔ t.tray.role = s.tray.role := by
  simp [KeepsRole]

@[simp] theorem keepsRole_occurs (b : Bool) (s t : State) :
    KeepsRole s (occurs b s t) ↔ (b → t.tray.role = s.tray.role) := by
  cases b <;> simp [KeepsRole]

/-! ### The commands of the tray that leave the role where it is -/

theorem mgmt_keepsRole (q : MgmtReq) (cmd : SvcCmd) (s : State) : KeepsRole s (mgmt q cmd s) := by
  simp [mgmt]

theorem boundaryAt_keepsRole (pl : Place) (cycles : List Nat) (held : Bool) (s : State) :
    KeepsRole s (boundaryAt pl cycles held s) := by
  cases pl <;> simp [boundaryAt]

theorem execSlotOccupied_keepsRole (n : SlotId) (m : Option ModuleNv) (s : State) : KeepsRole s (execSlotOccupied n m s) := by
  cases m <;> simp [execSlotOccupied]

theorem execBusbarUndervoltage_keepsRole (mv : Nat) (s : State) : KeepsRole s (execBusbarUndervoltage mv s) := by
  refine (keepsRole_occurs _ _ _).2 fun _ => ?_
  exact foldl_keeps (fun u : State => u.tray.role) State.tripBreaker_role _ _

theorem execEnvironmentOutOfRange_keepsRole (e : EnvKind) (v : Int) (s : State) :
    KeepsRole s (execEnvironmentOutOfRange e v s) := by
  cases e <;> simp [execEnvironmentOutOfRange]

theorem execTrayStart_keepsRole (ok : Bool) (s : State) : KeepsRole s (execTrayStart ok s) := by
  simp only [execTrayStart]
  repeat' split
  all_goals simp

theorem execLampPoll_keepsRole (s : State) : KeepsRole s (execLampPoll s) := by
  refine (keepsRole_occurs _ _ _).2 fun _ => (Tray.drivePatterns_role _).trans ?_
  exact foldl_keeps Tray.role (fun t n => by split <;> rfl) _ _

theorem execHeartbeatReceive_keepsRole (x : Side) (s : State) : KeepsRole s (execHeartbeatReceive x s) := by
  simp only [execHeartbeatReceive]
  split <;> simp

theorem execTrayImageAdopt_keepsRole (q : MgmtReq) (len : Nat) (reads : List Bool) (s : State) :
    KeepsRole s (execTrayImageAdopt q len reads s) := by
  unfold execTrayImageAdopt
  split
  · split
    · simp
    · exact mgmt_keepsRole q _ s
  · exact mgmt_keepsRole q _ s

/-- The commands that can move the role: the latch grants it or moves it, the active TMC hands it over, a TMC is withdrawn. -/
def movesRole (i : Instr) : Bool :=
  match i with
  | .roleGrant _ => true
  | .roleFailover _ => true
  | .handover => true
  | .unitRemoved _ _ => true
  | _ => false

/-- Every other command leaves the role where it is: without touching the tray, or by what it writes there. -/
theorem exec_keepsRole {i : Instr} (h : movesRole i = false) (s : State) : KeepsRole s (exec i s) := by
  by_cases ht : mayChangeTray i = false
  · exact (exec_keepsTray ht s).keepsRole
  cases i <;> simp only [mayChangeTray, not_true_eq_false] at ht
  case roleGrant | roleFailover | handover | unitRemoved => simp only [movesRole, Bool.true_eq_false] at h
  case trayStatus | faultLog | meterStatus | lampStatus | roleSwap | unitPrepare | unitResume | slotPower | slotReset
    | chipRestart | trayImageWrite | switchUpstream | timeLoad | locate | lampTest | lampLevel | caInstall | caRemove =>
    exact mgmt_keepsRole _ _ s
  case epochBoundary | ppsHoldEnd => exact boundaryAt_keepsRole _ _ _ s
  case slotOccupied => exact execSlotOccupied_keepsRole _ _ s
  case busbarUndervoltage => exact execBusbarUndervoltage_keepsRole _ s
  case environmentOutOfRange => exact execEnvironmentOutOfRange_keepsRole _ _ s
  case trayStart => exact execTrayStart_keepsRole _ s
  case lampPoll => exact execLampPoll_keepsRole s
  case heartbeatReceive => exact execHeartbeatReceive_keepsRole _ s
  case trayImageAdopt => exact execTrayImageAdopt_keepsRole _ _ _ s
  -- Commands that are one event.
  case presenceLost | slotBypassLeave | slotRequestDeliver | breakerTrip | facilityInputLost | trcOutputEnable | ppsCompare
    | nvmCardInsert | upstreamFailover | coolantStopAssert | coolantStopClear | slotPowerupRequest | flowDisagree
    | lampBoardRemoved | i2cSegmentStuck | phaseModuleFail | railNotGood | railsStable | slotFullyOff | powerupInhibitEnd
    | powerOnReset | modRstAssert | startBegin | perstRelease | stepRailCheck | hifReset | heartbeatSend | heartbeatLost
    | mgmtDoorbell | mgmtConnect | unitInsert | lampDiagnosis | proofPulse | modAlert | vidFrame | meterLinkLock
    | trcSourceGained | trcPartnerLost =>
    simp [exec, execPresenceLost, execSlotBypassLeave, execSlotRequestDeliver, execBreakerTrip, execFacilityInputLost,
      execTrcOutputEnable, execPpsCompare, execNvmCardInsert, execUpstreamFailover, execCoolantStopAssert,
      execCoolantStopClear, execSlotPowerupRequest, execFlowDisagree, execLampBoardRemoved, execI2cSegmentStuck,
      execPhaseModuleFail, execRailNotGood, execRailsStable, execSlotFullyOff, execPowerupInhibitEnd, execPowerOnReset,
      execModRstAssert, execStartBegin, execPerstRelease, execStepRailCheck, execHifReset, execHeartbeatSend,
      execHeartbeatLost, execMgmtDoorbell, execMgmtConnect, execUnitInsert, execLampDiagnosis, execProofPulse, execModAlert,
      execVidFrame, execMeterLinkLock, execTrcSourceGained, execTrcPartnerLost]
  -- Commands whose event depends on what stands in the tray, or that name a chip or a TMC.
  case powerUpSequence | powerDownSequence | ppsEdge | ppsLost | grantExchange | sweepStart | meterFramePass | sweepBroken
    | handoverMessage | forwardTimeout | unitReadyToRemove | prepareTimeout | unitJoin | aliveToggle =>
    simp only [exec, execPowerUpSequence, execPowerDownSequence, execPpsEdge, execPpsLost, execGrantExchange,
      execSweepStart, execMeterFramePass, execSweepBroken, execHandoverMessage, execForwardTimeout, execUnitReadyToRemove,
      execPrepareTimeout, execUnitJoin, execAliveToggle]
    repeat' split
    all_goals simp

/-! ### The commands that move it -/

/-- In `u`, which comes of `t`, TMC `y` holds the role and its ROLE_GEN is one more (R653). -/
def Tray.TakesRole (t u : Tray) (y : Side) : Prop :=
  u.role = some y ∧ (u.tmc y).roleGen = ((t.tmc y).roleGen + 1) % 2 ^ 32

@[simp] theorem Tray.takeRole_role (t : Tray) (x : Side) : (t.takeRole x).role = some x := by
  simp [Tray.takeRole]

@[simp] theorem Tray.takeRole_roleGen (t : Tray) (x : Side) :
    ((t.takeRole x).tmc x).roleGen = ((t.tmc x).roleGen + 1) % 2 ^ 32 := by
  simp only [Tray.takeRole, Tray.checkStandby_tmc, Tray.noteStanding_tmc, Tray.setThreshold_tmc]
  cases x <;> rfl

theorem Tray.takesRole_takeRole (t : Tray) (x : Side) : t.TakesRole (t.takeRole x) x :=
  ⟨t.takeRole_role x, t.takeRole_roleGen x⟩

theorem Tray.takesRole_handOver (t : Tray) (y : Side) : t.TakesRole (t.handOver y) y :=
  ⟨t.takeRole_role y, (congrArg Tmc.roleGen (Tray.tmc_congr rfl rfl y)).trans (t.takeRole_roleGen y)⟩

/-- The mirror that is applied before the taking changes no TMC, and after it the end of an interrupted write, the check of the NVM
copies and the answers to requests touch neither the role nor a ROLE_GEN. -/
theorem State.takesRole_failover (s : State) (y : Side) (ok : Bool) : s.tray.TakesRole (s.failover y ok).tray y := by
  unfold State.failover
  constructor
  · simp
  · simp only [State.onTray_tray_eq, Tray.answerSwaps_roleGen, State.readNvm_tmc, Tray.failWrite_roleGen, Tray.tmc_fault_frame,
      Tray.tmc_with_ring, Tray.takeRole_roleGen, Tray.onTmc_eq, Tray.tmc_setTmc, if_true]
    split
    · rw [Tray.takeMirror_tmc, Tray.tmc_with_hand]
    · rw [Tray.tmc_with_hand]

/-- A step of the handover leaves the role with the active TMC but for step 5, which moves it (Table SVC-2). -/
theorem State.handoverStep_role {s t : State} {x : Side} {e : Nat} (h : s.handoverStep x e = some t) :
    t.tray.role = s.tray.role ∨ t.tray = s.tray.handOver x.other := by
  revert t
  simp only [State.handoverStep]
  repeat' split
  all_goals simp

/-- Withdrawing a TMC can only take the role from it. -/
theorem Tray.removeUnit_role (t : Tray) (typ i : Nat) :
    (t.removeUnit typ i).role = t.role ∨ (t.removeUnit typ i).role = none := by
  unfold Tray.removeUnit
  dsimp only
  split
  · split <;> simp
  all_goals simp

/-- What a command can do to the role: leave it where it is, leave it with no TMC, or have a TMC take it. -/
def Tray.RoleStep (t u : Tray) : Prop := u.role = t.role ∨ u.role = none ∨ ∃ y, t.TakesRole u y

/-- An event leaves the role where it is when it does not take place. -/
theorem roleStep_occurs {b : Bool} {s u t : State} (hu : s.tray.RoleStep u.tray) (h : occurs b s u = .next t) :
    s.tray.RoleStep t.tray := by
  cases b
  · cases h
    exact .inl rfl
  · cases h
    exact hu

theorem execRoleFailover_roleStep {ok : Bool} {s t : State} (h : execRoleFailover ok s = .next t) :
    s.tray.RoleStep t.tray := by
  unfold execRoleFailover at h
  dsimp only at h
  split at h
  · exact roleStep_occurs (.inl rfl) h
  · exact roleStep_occurs (.inr (.inr ⟨_, s.takesRole_failover _ ok⟩)) h

theorem execHandover_roleStep {s t : State} (h : execHandover s = .next t) : s.tray.RoleStep t.tray := by
  unfold execHandover at h
  split at h
  · exact roleStep_occurs (.inl rfl) h
  · split at h
    · exact roleStep_occurs (.inl rfl) h
    next u hu =>
      refine roleStep_occurs ?_ h
      obtain hrole | hover := State.handoverStep_role hu
      · exact .inl hrole
      · exact .inr (.inr ⟨_, hover ▸ s.tray.takesRole_handOver _⟩)

theorem execUnitRemoved_roleStep {typ idx : Nat} {s t : State} (h : execUnitRemoved typ idx s = .next t) :
    s.tray.RoleStep t.tray := by
  refine roleStep_occurs ?_ h
  simp only [Tray.RoleStep, State.followLines_tray, State.onTray_tray_eq, Tray.forget_role]
  exact (s.tray.removeUnit_role typ idx).imp_right .inl

/-- Every command takes such a step: the four that can move the role by their own cases, any other by leaving it. -/
theorem exec_roleStep {i : Instr} {s t : State} (h : exec i s = .next t) : s.tray.RoleStep t.tray := by
  by_cases hm : movesRole i = false
  · exact .inl (exec_keepsRole hm s t h)
  cases i <;> simp only [movesRole, not_true_eq_false] at hm
  case roleGrant x => exact roleStep_occurs (.inr (.inr ⟨x, s.tray.takesRole_takeRole x⟩)) h
  case roleFailover ok => exact execRoleFailover_roleStep h
  case handover => exact execHandover_roleStep h
  case unitRemoved typ idx => exact execUnitRemoved_roleStep h

/-- Settles O59: the role comes to a TMC that did not hold it only by a taking, at ROLE_GRANT, ROLE_FAILOVER or step 5 of
HANDOVER, and each taking increments the taker's ROLE_GEN. That the first ROLE_GRANT is one of them is log entry 55. -/
theorem roleChangeIncrementsRoleGen : Obligations.RoleChangeIncrementsRoleGen := by
  intro i s t x hexec hbefore hafter
  obtain hsame | hnone | ⟨y, hrole, hgen⟩ := exec_roleStep hexec
  · exact absurd (hsame.symm.trans hafter) hbefore
  · cases hnone.symm.trans hafter
  · cases hrole.symm.trans hafter
    exact hgen

end Sys2Proof.Machine
end

section
/-! Proofs of this sitting's obligations about `step` and the reset state. -/

namespace Sys2Proof.Machine

-- In order, not in parallel: every elaborator thread that waits for another holds a stack within the check's memory limit.
set_option Elab.async false

theorem step_cons (i : Instr) (rest : List Instr) (s : State) :
    step { s with pending := i :: rest } = exec i { s with pending := rest } :=
  rfl

theorem step_nil {s : State} (h : s.pending = []) : step s = .next s := by
  simp [step, h]

/-- Settles O49: the queue's front is the command that runs, on the state with the queue's rest. -/
theorem stepRunsTheFrontCommand : Obligations.StepRunsTheFrontCommand :=
  ⟨fun i s => step_cons i s.pending s, fun _ => step_nil⟩

theorem State.reset_canonical : MemoriesCanonical State.reset :=
  ⟨rfl, rfl, rfl, rfl, rfl, nofun, fun _ => ⟨rfl, rfl, rfl, fun _ _ => rfl⟩⟩

theorem State.reset_bounded : StoresBounded State.reset :=
  ⟨by decide, fun _ => ⟨Nat.zero_le _, Nat.zero_le _, fun _ => ⟨Nat.zero_le _, Nat.zero_le _⟩⟩⟩

/-- Settles O53: at reset every memory is empty, and so are the stores, the queue and the role (the tray without power:
log entries 1 and 3). -/
theorem resetMeetsTheInvariants : Obligations.ResetMeetsTheInvariants :=
  ⟨State.reset_canonical, State.reset_bounded, rfl, rfl, rfl, fun _ => ⟨rfl, rfl⟩⟩

end Sys2Proof.Machine
end

section
/-! SUPPORT. A change of a chip that keeps to some of its pieces and keeps both invariants of the machine (memories canonical, stores
within their sizes), and the operations of Machine/State.lean as such changes. -/

namespace Sys2Proof.Machine

-- In order, not in parallel: every elaborator thread that waits for another holds a stack within the check's memory limit.
set_option Elab.async false

/-- The memories of a chip are in their canonical form. -/
def Chip.Canonical (c : Chip) : Prop :=
  Memory.wf c.mem = true ∧ Memory.wf c.flash = true ∧ Memory.wf c.hif.flashBuf = true ∧
  ∀ (r : RegionId) (q : PosId), Memory.wf (c.posn r q).mem = true

/-- The stores of a chip are within their sizes. -/
def Chip.Bounded (c : Chip) : Prop :=
  c.hif.log.length ≤ 256 ∧ c.hif.inbox.length ≤ 64 ∧
  ∀ h : ChanId, (c.chan h).store.length ≤ 128 ∧ (c.chan h).shelf.length ≤ 64

/-- Chip `d` comes of chip `b` by a change of the pieces `ps` at most, which keeps both invariants. -/
structure Chip.Within (ps : List Piece) (b d : Chip) : Prop where
  same : ∀ x, x ∉ ps → b.sameAt x d
  canonical : b.Canonical → d.Canonical
  bounded : b.Bounded → d.Bounded

theorem Chip.sameAt_trans {x : Piece} {b c d : Chip} (h : b.sameAt x c) (g : c.sameAt x d) : b.sameAt x d := by
  cases x <;> simp only [Chip.sameAt] at * <;> simp [*]

theorem Chip.Within.refl (ps : List Piece) (b : Chip) : b.Within ps b where
  same x _ := by cases x <;> simp [Chip.sameAt]
  canonical := id
  bounded := id

theorem Chip.Within.trans {ps : List Piece} {b c d : Chip} (h : b.Within ps c) (g : c.Within ps d) : b.Within ps d where
  same x hx := Chip.sameAt_trans (h.same x hx) (g.same x hx)
  canonical hb := g.canonical (h.canonical hb)
  bounded hb := g.bounded (h.bounded hb)

theorem Chip.Within.mono {ps qs : List Piece} {b d : Chip} (h : b.Within ps d) (hq : ps ⊆ qs) : b.Within qs d where
  same x hx := h.same x fun hm => hx (hq hm)
  canonical := h.canonical
  bounded := h.bounded

@[simp] theorem Chip.within_self (ps : List Piece) (b : Chip) : b.Within ps b := .refl ps b

@[simp] theorem Chip.within_ite {ps : List Piece} {b d e : Chip} (p : Prop) [Decidable p] :
    b.Within ps (if p then d else e) ↔ (p → b.Within ps d) ∧ (¬p → b.Within ps e) := by
  by_cases p <;> simp [*]

/-- The same relation, under a name that no lemma rewrites. -/
def Chip.WithinAlso (ps : List Piece) (b d : Chip) : Prop := b.Within ps d

/-- The step from `c` to `d` changes the pieces `qs` at most. Said as a rewriting: `simp` leads a question about `d` back to one about
`c`; the right alternative makes it an equivalence. -/
abbrev Chip.Step (qs : List Piece) (c d : Chip) : Prop :=
  ∀ {ps : List Piece} {b : Chip}, qs ⊆ ps → (b.Within ps d ↔ b.Within ps c ∨ b.WithinAlso ps d)

theorem Chip.Within.step {qs : List Piece} {c d : Chip} (h : c.Within qs d) : c.Step qs d :=
  fun hq => ⟨.inr, fun g => g.elim (·.trans (h.mono hq)) id⟩

theorem Chip.Step.within {qs : List Piece} {c d : Chip} (h : c.Step qs d) : c.Within qs d :=
  (h (List.Subset.refl _)).2 (.inl (.refl _ _))

/-- A change that leaves the pieces with memories and stores alone keeps the invariants. -/
theorem Chip.Within.of_same {ps : List Piece} {b d : Chip} (h : ∀ x, x ∉ ps → b.sameAt x d)
    (hp : ∀ x ∈ ps, x ∉ [Piece.posns, .mem, .chans, .hif, .flash]) : b.Within ps d where
  same := h
  canonical hb := by
    obtain ⟨hm, hf, hi, hq⟩ := hb
    have e1 : d.mem = b.mem := h .mem fun hx => hp _ hx (by simp)
    have e2 : d.flash = b.flash := h .flash fun hx => hp _ hx (by simp)
    have e3 : d.hif = b.hif := h .hif fun hx => hp _ hx (by simp)
    have e4 : d.posns = b.posns := h .posns fun hx => hp _ hx (by simp)
    simp only [Chip.Canonical, e1, e2, e3, Chip.posn, e4]
    exact ⟨hm, hf, hi, hq⟩
  bounded hb := by
    have e3 : d.hif = b.hif := h .hif fun hx => hp _ hx (by simp)
    have e4 : d.chans = b.chans := h .chans fun hx => hp _ hx (by simp)
    simp only [Chip.Bounded, e3, Chip.chan, e4]
    exact hb

/-- One piece is replaced, and it holds neither memories nor stores. -/
theorem Chip.step_of_piece {c d : Chip} (p : Piece) (hp : p ∉ [Piece.posns, .mem, .chans, .hif, .flash])
    (h : ∀ x, x ≠ p → c.sameAt x d) : c.Step [p] d :=
  Chip.Within.step (.of_same (fun x hx => h x (by simpa using hx)) (by simpa using hp))

@[simp] theorem Chip.setGen_step (c : Chip) (r : Nat) (x : Gen) : c.Step [.gens] (c.setGen r x) :=
  Chip.step_of_piece _ (by simp) fun x hx => by cases x <;> simp_all [Chip.sameAt]
@[simp] theorem Chip.setRegion_step (c : Chip) (r : Nat) (x : Region) : c.Step [.regions] (c.setRegion r x) :=
  Chip.step_of_piece _ (by simp) fun x hx => by cases x <;> simp_all [Chip.sameAt]
@[simp] theorem Chip.setTile_step (c : Chip) (t : Nat) (x : Tile) : c.Step [.tiles] (c.setTile t x) :=
  Chip.step_of_piece _ (by simp) fun x hx => by cases x <;> simp_all [Chip.sameAt]
@[simp] theorem Chip.setQueue_step (c : Chip) (q : Nat) (x : Queue) : c.Step [.queues] (c.setQueue q x) :=
  Chip.step_of_piece _ (by simp) fun x hx => by cases x <;> simp_all [Chip.sameAt]
@[simp] theorem Chip.setEp_step (c : Chip) (e : Nat) (x : Endpoint) : c.Step [.eps] (c.setEp e x) :=
  Chip.step_of_piece _ (by simp) fun x hx => by cases x <;> simp_all [Chip.sameAt]
@[simp] theorem Chip.onLink_step (c : Chip) (r d : Nat) (f : OutLink → OutLink) : c.Step [.links] (c.onLink r d f) :=
  Chip.step_of_piece _ (by simp) fun x hx => by cases x <;> simp_all [Chip.sameAt]
@[simp] theorem Chip.setSession_step (c : Chip) (i : Nat) (x : Session) : c.Step [.seq] (c.setSession i x) :=
  Chip.step_of_piece _ (by simp) fun x hx => by cases x <;> simp_all [Chip.sameAt]
@[simp] theorem Chip.setPart_step (c : Chip) (p : Nat) (x : Part) : c.Step [.seq] (c.setPart p x) :=
  Chip.step_of_piece _ (by simp) fun x hx => by cases x <;> simp_all [Chip.sameAt]
@[simp] theorem Chip.setItem_step (c : Chip) (i : Nat) (x : Item) : c.Step [.seq] (c.setItem i x) :=
  Chip.step_of_piece _ (by simp) fun x hx => by cases x <;> simp_all [Chip.sameAt]
@[simp] theorem Chip.dropItem_step (c : Chip) (i : Nat) : c.Step [.seq] (c.dropItem i) :=
  Chip.step_of_piece _ (by simp) fun x hx => by cases x <;> simp_all [Chip.sameAt]
@[simp] theorem Chip.onRailGroup_step (c : Chip) (g : Nat) (f : RailGroup → RailGroup) : c.Step [.stew] (c.onRailGroup g f) :=
  Chip.step_of_piece _ (by simp) fun x hx => by cases x <;> simp_all [Chip.sameAt]
@[simp] theorem Chip.onClk_step (c : Chip) (f : Clock → Clock) : c.Step [.clk] (c.onClk f) :=
  Chip.step_of_piece _ (by simp) fun x hx => by cases x <;> simp_all [Chip.sameAt]
@[simp] theorem Chip.onTime_step (c : Chip) (f : TimeBase → TimeBase) : c.Step [.time] (c.onTime f) :=
  Chip.step_of_piece _ (by simp) fun x hx => by cases x <;> simp_all [Chip.sameAt]
@[simp] theorem Chip.onXng_step (c : Chip) (f : Xng → Xng) : c.Step [.xng] (c.onXng f) :=
  Chip.step_of_piece _ (by simp) fun x hx => by cases x <;> simp_all [Chip.sameAt]
@[simp] theorem Chip.onStew_step (c : Chip) (f : Stew → Stew) : c.Step [.stew] (c.onStew f) :=
  Chip.step_of_piece _ (by simp) fun x hx => by cases x <;> simp_all [Chip.sameAt]
@[simp] theorem Chip.onSeq_step (c : Chip) (f : Seq → Seq) : c.Step [.seq] (c.onSeq f) :=
  Chip.step_of_piece _ (by simp) fun x hx => by cases x <;> simp_all [Chip.sameAt]
@[simp] theorem Chip.onImg_step (c : Chip) (f : Img → Img) : c.Step [.img] (c.onImg f) :=
  Chip.step_of_piece _ (by simp) fun x hx => by cases x <;> simp_all [Chip.sameAt]
@[simp] theorem Chip.onBru_step (c : Chip) (f : Bru → Bru) : c.Step [.bru] (c.onBru f) :=
  Chip.step_of_piece _ (by simp) fun x hx => by cases x <;> simp_all [Chip.sameAt]

/-- Only HIF's state is replaced, and its log, its inbox and its flash buffer keep their bounds and form. -/
theorem Chip.within_of_hif {c d : Chip} (h : ∀ x, x ≠ .hif → c.sameAt x d)
    (hl : c.hif.log.length ≤ 256 → d.hif.log.length ≤ 256) (hi : c.hif.inbox.length ≤ 64 → d.hif.inbox.length ≤ 64)
    (hf : Memory.wf c.hif.flashBuf = true → Memory.wf d.hif.flashBuf = true) : c.Within [.hif] d := by
  refine ⟨fun x hx => h x (by simpa using hx), fun hc => ?_, fun hc => ?_⟩
  · obtain ⟨h1, h2, h3, h4⟩ := hc
    have e1 : d.mem = c.mem := h .mem (by simp)
    have e2 : d.flash = c.flash := h .flash (by simp)
    have e3 : d.posns = c.posns := h .posns (by simp)
    refine ⟨e1 ▸ h1, e2 ▸ h2, hf h3, ?_⟩
    simpa only [Chip.posn, e3] using h4
  · obtain ⟨h1, h2, h3⟩ := hc
    have e : d.chans = c.chans := h .chans (by simp)
    refine ⟨hl h1, hi h2, ?_⟩
    simpa only [Chip.chan, e] using h3

theorem Chip.step_of_hif {c d : Chip} (h : ∀ x, x ≠ .hif → c.sameAt x d)
    (hl : c.hif.log.length ≤ 256 → d.hif.log.length ≤ 256) (hi : c.hif.inbox.length ≤ 64 → d.hif.inbox.length ≤ 64)
    (hf : Memory.wf c.hif.flashBuf = true → Memory.wf d.hif.flashBuf = true) : c.Step [.hif] d :=
  (Chip.within_of_hif h hl hi hf).step

@[simp] theorem Chip.onHif_step (c : Chip) (f : Hif → Hif) (hl : (f c.hif).log = c.hif.log)
    (hi : (f c.hif).inbox = c.hif.inbox) (hf : (f c.hif).flashBuf = c.hif.flashBuf) : c.Step [.hif] (c.onHif f) :=
  Chip.step_of_hif (fun x hx => by cases x <;> simp_all [Chip.sameAt]) (by simp [hl]) (by simp [hi]) (by simp [hf])
@[simp] theorem Chip.setRing_step (c : Chip) (g : Nat) (x : Ring) : c.Step [.hif] (c.setRing g x) :=
  Chip.step_of_hif (fun x hx => by cases x <;> simp_all [Chip.sameAt]) (by simp [Chip.setRing]) (by simp [Chip.setRing])
    (by simp [Chip.setRing])
@[simp] theorem Chip.fault_step (c : Chip) (t : Tag) (nn inst : Nat) : c.Step [.hif] (c.fault t nn inst) :=
  Chip.step_of_hif (fun x hx => by cases x <;> simp_all [Chip.sameAt]) (fun _ => by simp [Chip.fault]) (by simp [Chip.fault])
    (by simp [Chip.fault])
@[simp] theorem Chip.faultIf_step (c : Chip) (b : Bool) (t : Tag) (nn inst : Nat) :
    c.Step [.hif] (c.faultIf b t nn inst) :=
  Chip.Within.step (by simp [Chip.faultIf])

/-- A position is replaced by one whose memory keeps its form. -/
theorem Chip.setPosn_within {c : Chip} {r q : Nat} {x : Position}
    (hm : Memory.wf (c.posn r q).mem = true → Memory.wf x.mem = true) : c.Within [.posns] (c.setPosn r q x) where
  same y hy := by cases y <;> simp_all [Chip.sameAt]
  canonical hc := by
    obtain ⟨h1, h2, h3, h4⟩ := hc
    refine ⟨h1, h2, h3, fun r' q' => ?_⟩
    simp only [Chip.posn, Chip.setPosn, Bank.get_set]
    split
    case isTrue e => exact hm (by simpa only [Chip.posn, e] using h4 r' q')
    case isFalse => exact h4 r' q'
  bounded := id

@[simp] theorem Chip.setPosn_step (c : Chip) (r q : Nat) (x : Position) (hm : x.mem = (c.posn r q).mem) :
    c.Step [.posns] (c.setPosn r q x) :=
  (Chip.setPosn_within fun h => hm ▸ h).step

/-- A channel is replaced by one whose store and shelf keep their bounds. -/
theorem Chip.setChan_within {c : Chip} {h : Nat} {x : Channel}
    (hs : (c.chan h).store.length ≤ 128 → x.store.length ≤ 128) (hl : (c.chan h).shelf.length ≤ 64 → x.shelf.length ≤ 64) :
    c.Within [.chans] (c.setChan h x) where
  same y hy := by cases y <;> simp_all [Chip.sameAt]
  canonical := id
  bounded hc := by
    obtain ⟨h1, h2, h3⟩ := hc
    refine ⟨h1, h2, fun i => ?_⟩
    rw [Chip.chan_setChan]
    split
    case isTrue e => exact ⟨hs (e ▸ (h3 i).1), hl (e ▸ (h3 i).2)⟩
    case isFalse => exact h3 i

@[simp] theorem Chip.setChan_step (c : Chip) (h : Nat) (x : Channel) (hs : x.store = (c.chan h).store)
    (hl : x.shelf = (c.chan h).shelf) : c.Step [.chans] (c.setChan h x) :=
  (Chip.setChan_within (fun _ => by simpa [hs]) (fun _ => by simpa [hl])).step

theorem Chip.Within.foldl {α : Type} {ps : List Piece} {b c : Chip} {f : Chip → α → Chip} (h : b.Within ps c)
    (hf : ∀ (c : Chip) a, c.Within ps (f c a)) (l : List α) : b.Within ps (l.foldl f c) := by
  induction l generalizing c with
  | nil => exact h
  | cons a l ih => exact ih (h.trans (hf c a))

@[simp] theorem Chip.within_foldl {α : Type} {ps : List Piece} {b c : Chip} {f : Chip → α → Chip}
    (hf : ∀ (c : Chip) a, c.Within ps (f c a)) (l : List α) :
    b.Within ps (l.foldl f c) ↔ b.Within ps c ∨ b.WithinAlso ps (l.foldl f c) :=
  ⟨.inr, fun h => h.elim (·.foldl hf l) id⟩

@[simp] theorem Chip.within_forRegions {ps : List Piece} {b c : Chip} {f : Chip → Nat → Chip}
    (hf : ∀ (c : Chip) a, c.Within ps (f c a)) (rs : List Nat) :
    b.Within ps (c.forRegions rs f) ↔ b.Within ps c ∨ b.WithinAlso ps (c.forRegions rs f) :=
  Chip.within_foldl hf rs

@[simp] theorem Chip.within_noting {ps : List Piece} {b : Chip} (c d : Chip) (hp : [.hif] ⊆ ps) :
    b.Within ps (c.noting d) ↔ b.Within ps d ∨ b.WithinAlso ps (c.noting d) := by
  refine Chip.Within.step ?_ hp
  simp [Chip.noting]

end Sys2Proof.Machine
end

section
/-! SUPPORT. Each operation of the model on a chip as a change of the pieces that it writes. An operation that only calls others needs
no more than their lemmas; the ones that write a memory, a log, a store or an inbox have their reason here. -/

namespace Sys2Proof.Machine

-- In order, not in parallel: every elaborator thread that waits for another holds a stack within the check's memory limit.
set_option Elab.async false

/-! ### One field of a chip written in place -/

theorem Bank.look_mapCells {α : Type} (b : Bank α) (f : Nat → α → α) (k : Nat) :
    Bank.look (b.mapCells f).cells k = (Bank.look b.cells k).map (f k) := by
  obtain ⟨l⟩ := b
  simp only [Bank.mapCells]
  induction l with
  | nil => rfl
  | cons e l ih =>
    obtain ⟨j, v⟩ := e
    by_cases h : j = k <;> simp_all [Bank.look]

/-- What `f` leaves alone in every cell, a mapping over the cells leaves alone at every index. -/
theorem Bank.get_mapCells_proj {α β : Type} (g : α → β) {f : Nat → α → α} (hf : ∀ k v, g (f k v) = g v) (b : Bank α) (d : α)
    (k : Nat) : g ((b.mapCells f).get d k) = g (b.get d k) := by
  simp only [Bank.get, Bank.look_mapCells]
  cases Bank.look b.cells k <;> simp [hf]

theorem Chip.Within.flying {ps : List Piece} {b c : Chip} (h : b.Within ps c) (hp : [.flying] ⊆ ps) (l : List Flying) :
    b.Within ps { c with flying := l } :=
  (Chip.step_of_piece .flying (by simp) (fun x hx => by cases x <;> simp_all [Chip.sameAt]) hp).2 (.inl h)

theorem Chip.Within.time {ps : List Piece} {b c : Chip} (h : b.Within ps c) (hp : [.time] ⊆ ps) (t : TimeBase) :
    b.Within ps { c with time := t } :=
  (Chip.step_of_piece .time (by simp) (fun x hx => by cases x <;> simp_all [Chip.sameAt]) hp).2 (.inl h)

theorem Chip.Within.xng {ps : List Piece} {b c : Chip} (h : b.Within ps c) (hp : [.xng] ⊆ ps) (x : Xng) :
    b.Within ps { c with xng := x } :=
  (Chip.step_of_piece .xng (by simp) (fun x hx => by cases x <;> simp_all [Chip.sameAt]) hp).2 (.inl h)

theorem Chip.timeTick_within (c : Chip) (t : TimeBase) (due : Bool) :
    c.Within [.time, .tickDue] { c with time := t, tickDue := due } :=
  .of_same (fun x hx => by cases x <;> simp_all [Chip.sameAt]) (by simp)

theorem Chip.Within.tiles {ps : List Piece} {b c : Chip} (h : b.Within ps c) (hp : [.tiles] ⊆ ps) (l : Bank Tile) :
    b.Within ps { c with tiles := l } :=
  (Chip.step_of_piece .tiles (by simp) (fun x hx => by cases x <;> simp_all [Chip.sameAt]) hp).2 (.inl h)

theorem Chip.Within.dissolves {ps : List Piece} {b c : Chip} (h : b.Within ps c) (hp : [.dissolves] ⊆ ps)
    (l : List Dissolve) : b.Within ps { c with dissolves := l } :=
  (Chip.step_of_piece .dissolves (by simp) (fun x hx => by cases x <;> simp_all [Chip.sameAt]) hp).2 (.inl h)

theorem Chip.Within.mem {ps : List Piece} {b c : Chip} {m : List Host.Cell} (h : b.Within ps c) (hp : [.mem] ⊆ ps)
    (hm : Memory.wf c.mem = true → Memory.wf m = true) : b.Within ps { c with mem := m } :=
  h.trans (.mono ⟨fun x hx => by cases x <;> simp_all [Chip.sameAt], fun hc => ⟨hm hc.1, hc.2⟩, id⟩ hp)

theorem Chip.Within.flash {ps : List Piece} {b c : Chip} {m : List Host.Cell} (h : b.Within ps c) (hp : [.flash] ⊆ ps)
    (hm : Memory.wf c.flash = true → Memory.wf m = true) : b.Within ps { c with flash := m } :=
  h.trans (.mono ⟨fun x hx => by cases x <;> simp_all [Chip.sameAt], fun hc => ⟨hc.1, hm hc.2.1, hc.2.2⟩, id⟩ hp)

/-- The two invariants by the fields they speak of. -/
theorem Chip.Within.of_fields {ps : List Piece} {c d : Chip} (h : ∀ x, x ∉ ps → c.sameAt x d)
    (hm : Memory.wf c.mem = true → Memory.wf d.mem = true) (hf : Memory.wf c.flash = true → Memory.wf d.flash = true)
    (hb : Memory.wf c.hif.flashBuf = true → Memory.wf d.hif.flashBuf = true)
    (hp : ∀ r q, Memory.wf (c.posn r q).mem = true → Memory.wf (d.posn r q).mem = true)
    (hl : c.hif.log.length ≤ 256 → d.hif.log.length ≤ 256) (hi : c.hif.inbox.length ≤ 64 → d.hif.inbox.length ≤ 64)
    (hs : ∀ h, (c.chan h).store.length ≤ 128 → (d.chan h).store.length ≤ 128)
    (hw : ∀ h, (c.chan h).shelf.length ≤ 64 → (d.chan h).shelf.length ≤ 64) : c.Within ps d where
  same := h
  canonical := fun ⟨h1, h2, h3, h4⟩ => ⟨hm h1, hf h2, hb h3, fun r q => hp r q (h4 r q)⟩
  bounded := fun ⟨h1, h2, h3⟩ => ⟨hl h1, hi h2, fun i => ⟨hs i (h3 i).1, hw i (h3 i).2⟩⟩

/-! ### A fold over a chip beside something else -/

theorem Chip.Within.foldl_fst {α β : Type} {ps : List Piece} {b : Chip} {x : Chip × β} {f : Chip × β → α → Chip × β}
    (h : b.Within ps x.1) (hf : ∀ (x : Chip × β) a, x.1.Within ps (f x a).1) (l : List α) : b.Within ps (l.foldl f x).1 := by
  induction l generalizing x with
  | nil => exact h
  | cons a l ih => exact ih (h.trans (hf x a))

/-! ### Ops.lean -/
@[simp] theorem Chip.wholeReset_step (c : Chip) (cause : Nat) :
    c.Step [.power, .time, .clk, .tickDue, .gens, .regions, .tiles, .posns, .xng, .queues, .eps, .flying, .links, .mem,
      .chans, .seq, .stew, .bru, .img, .hif, .dissolves] (c.wholeReset cause) :=
  Chip.Within.step <| by
    refine .of_fields (fun x hx => ?_) (fun _ => rfl) id (fun _ => rfl) (fun _ _ _ => rfl) (fun _ => Nat.zero_le _)
      (fun _ => Nat.zero_le _) (fun _ _ => Nat.zero_le _) (fun _ _ => Nat.zero_le _)
    cases x <;> simp_all [Chip.sameAt, Chip.wholeReset]
@[simp] theorem Chip.unpowered_step (c : Chip) :
    c.Step [.power, .time, .clk, .tickDue, .gens, .regions, .tiles, .posns, .xng, .queues, .eps, .flying, .links, .mem,
      .chans, .seq, .stew, .bru, .img, .hif, .dissolves] c.unpowered :=
  Chip.Within.step <| by
    refine .of_fields (fun x hx => ?_) (fun _ => rfl) id (fun _ => rfl) (fun _ _ _ => rfl) (fun _ => Nat.zero_le _)
      (fun _ => Nat.zero_le _) (fun _ _ => Nat.zero_le _) (fun _ _ => Nat.zero_le _)
    cases x <;> simp_all [Chip.sameAt, Chip.unpowered]
@[simp] theorem Chip.referenceInvalid_step (c : Chip) (line : Side) :
    c.Step [.clk, .hif] (c.referenceInvalid line) :=
  Chip.Within.step (by
    simp only [Chip.referenceInvalid]
    repeat' split
    all_goals simp)
@[simp] theorem Chip.setLine_step (c : Chip) (x : Side) (on : Bool) :
    c.Step [.clk, .hif] (c.setLine x on) :=
  Chip.Within.step (by simp [Chip.setLine])
@[simp] theorem Chip.closeLedger_step (c : Chip) (r pos n : Nat) :
    c.Step [.gens, .regions] (c.closeLedger r pos n) :=
  Chip.Within.step (by simp [Chip.closeLedger])
@[simp] theorem Chip.haltGen_step (c : Chip) (m pos : Nat) (cycles : List Nat) (h : HaltCause) :
    c.Step [.gens, .regions] (c.haltGen m pos cycles h) :=
  Chip.Within.step (by simp [Chip.haltGen])
@[simp] theorem Chip.mapGens_step (c : Chip) (f : Nat → Gen → Gen) : c.Step [.gens] (c.mapGens f) :=
  Chip.step_of_piece .gens (by simp) fun x hx => by cases x <;> simp_all [Chip.sameAt, Chip.mapGens]
@[simp] theorem Chip.enterHoldover_step (c : Chip) :
    c.Step [.time, .clk, .gens, .hif] c.enterHoldover :=
  Chip.Within.step (by simp [Chip.enterHoldover])
@[simp] theorem Chip.setIslands_step (c : Chip) (m : Nat) :
    c.Step [.stew] (c.setIslands m) :=
  Chip.Within.step (by simp [Chip.setIslands])
@[simp] theorem Chip.cancelStep_step (c : Chip) :
    c.Step [.clk, .stew] c.cancelStep :=
  Chip.Within.step (by
    unfold Chip.cancelStep
    repeat' split
    all_goals simp)
@[simp] theorem Chip.renumber_step (c : Chip) (d : Nat) :
    c.Step [.clk, .seq, .stew, .img] (c.renumber d) :=
  Chip.Within.step (by simp [Chip.renumber])
@[simp] theorem Chip.feedTo_step (c : Chip) (b : Nat) : c.Step [.xng] (c.feedTo b) := by
  refine Chip.Within.step ?_
  unfold Chip.feedTo
  split
  · exact Chip.within_self _ c
  · exact (Chip.within_self _ c).xng (by simp) _
@[simp] theorem Chip.popFeed_step (c : Chip) (d : Nat) : c.Step [.xng] (c.popFeed d) := by
  refine Chip.Within.step ?_
  unfold Chip.popFeed
  split
  · exact Chip.within_self _ c
  · exact (Chip.within_self _ c).xng (by simp) _
theorem Chip.feedAt_within (c : Chip) (x : Moment) :
    c.Within [.time, .xng] (if c.time.pos < x.pos && x.pos < c.time.len then
      { c.feedTo (c.time.tick + (x.pos - c.time.pos)) with
        time := { c.time with tick := c.time.tick + (x.pos - c.time.pos), pos := x.pos } } else c) := by
  split
  · exact Chip.Within.time (by simp) (by simp) _
  · simp
@[simp] theorem Chip.at_step (c : Chip) (x : Moment) (d : Nat) : c.Step [.time, .xng] (c.at_ x d) := by
  refine Chip.Within.step ?_
  simp only [Chip.at_]
  split
  · exact c.feedAt_within x
  · exact (Chip.popFeed_step _ d (by simp)).2 (.inl (c.feedAt_within x))
@[simp] theorem Chip.gotWr_step (c : Chip) (e src : Nat) :
    c.Step [.eps] (c.gotWr e src) :=
  Chip.Within.step (by simp [Chip.gotWr])
@[simp] theorem Chip.countDiscard_step (c : Chip) (e n : Nat) :
    c.Step [.regions, .xng] (c.countDiscard e n) :=
  Chip.Within.step (by simp [Chip.countDiscard])
@[simp] theorem Chip.injected_step (c : Chip) (m : Msg) :
    c.Step [.tiles, .eps] (c.injected m) :=
  Chip.Within.step (by simp [Chip.injected])
@[simp] theorem Chip.discardOut_step (c : Chip) (q : Nat) (writer : Bool) :
    c.Step [.regions, .tiles, .xng, .queues, .eps, .flying] (c.discardOut q writer) := by
  refine Chip.Within.step ?_
  simp only [Chip.discardOut]
  generalize (c.queue q).items ++ (match (c.queue q).waiting with
    | [] => []
    | f :: _ => if writer || (!(c.queue q).items.isEmpty && !f.head) then (c.queue q).waiting else []) = gone
  generalize (match (c.queue q).waiting with
    | [] => []
    | f :: _ => if writer || (!(c.queue q).items.isEmpty && !f.head) then (c.queue q).waiting else []) = held
  split
  · split <;> simp
  · split
    · split <;> simp
    · refine Chip.Within.flying ?_ (by simp) _
      split <;> simp
@[simp] theorem Chip.discardIn_step (c : Chip) (q : Nat) (reader : Bool) :
    c.Step [.regions, .xng, .eps] (c.discardIn q reader) :=
  Chip.Within.step (by simp [Chip.discardIn])
@[simp] theorem Chip.discardAt_step (c : Chip) (q : Nat) (writer : Bool) :
    c.Step [.regions, .tiles, .xng, .queues, .eps, .flying] (c.discardAt q writer) :=
  Chip.Within.step (by simp [Chip.discardAt])
@[simp] theorem Chip.resetSide_step (c : Chip) (q : Nat) (writer : Bool) :
    c.Step [.regions, .tiles, .xng, .queues, .eps, .flying] (c.resetSide q writer) :=
  Chip.Within.step (by simp [Chip.resetSide])
@[simp] theorem Chip.resetQueue_step (c : Chip) (q : Nat) :
    c.Step [.regions, .tiles, .xng, .queues, .eps, .flying] (c.resetQueue q) :=
  Chip.Within.step (by simp [Chip.resetQueue])
@[simp] theorem Chip.switchQueues_step (c : Chip) (rs : List Nat) (single : Bool) :
    c.Step [.regions, .tiles, .xng, .queues, .eps, .flying] (c.switchQueues rs single) :=
  Chip.Within.step ((Chip.within_self _ c).foldl (fun _ _ => (Chip.within_self _ _).foldl (by simp) _) _)
@[simp] theorem Chip.reportUnfixed_step (c : Chip) (s old new : Nat) :
    c.Step [.hif] (c.reportUnfixed s old new) :=
  Chip.Within.step (by simp [Chip.reportUnfixed])
@[simp] theorem Chip.send_step (c : Chip) (m : Msg) :
    c.Step [.eps] (c.send m) :=
  Chip.Within.step (by simp [Chip.send])
@[simp] theorem Chip.countInjected_step (c : Chip) (e : Nat) :
    c.Step [.regions] (c.countInjected e) :=
  Chip.Within.step (by simp [Chip.countInjected])
@[simp] theorem Chip.pushNext_step (c : Chip) (q : Nat) :
    c.Step [.regions, .tiles, .queues, .eps] (c.pushNext q) :=
  Chip.Within.step (by
    simp only [Chip.pushNext]
    repeat' split
    all_goals simp)
@[simp] theorem Chip.pushMany_step (n : Nat) (c : Chip) (q : Nat) :
    c.Step [.regions, .tiles, .queues, .eps] (Chip.pushMany n c q) := by
  refine Chip.Within.step ?_
  induction n generalizing c with
  | zero => exact Chip.within_self _ c
  | succ n ih => exact Chip.Within.trans (by simp) (ih (c.pushNext q))
@[simp] theorem Chip.inject_step (c : Chip) (m0 : Msg) :
    c.Step [.regions, .tiles, .queues, .eps, .hif] (c.inject m0) :=
  Chip.Within.step (by
    simp only [Chip.inject]
    repeat' split
    all_goals simp)
@[simp] theorem Chip.afterTransfer_step (c : Chip) (r d : Nat) (x : Candidate) :
    c.Step [.links] (c.afterTransfer r d x) :=
  Chip.Within.step (by simp [Chip.afterTransfer])
/-- What a flit passes on to, `take`, keeps to the pieces `ps`. -/
theorem Chip.Within.passFlit {ps : List Piece} {b c : Chip} (h : b.Within ps c) (r d : Nat) (x : Candidate)
    {take : Chip → Flit → Chip} (ht : ∀ c f, Chip.Within ps c (take c f)) (hp : [.regions, .flying, .links, .stew] ⊆ ps) :
    b.Within ps (c.passFlit r d x take) := by
  obtain ⟨hr, hf, hl, hs⟩ : Piece.regions ∈ ps ∧ Piece.flying ∈ ps ∧ Piece.links ∈ ps ∧ Piece.stew ∈ ps := by
    simpa using hp
  have h1 : b.Within ps { c.afterTransfer r d x with flying := c.flying.eraseIdx x.place } :=
    Chip.Within.flying (by simp [h, hl]) (by simp [hf]) _
  have h2 : b.Within ps ((if d < 4 && routeSide r (routerOf x.flit.msg.dst) = 4
      then ({ c.afterTransfer r d x with flying := c.flying.eraseIdx x.place } : Chip).countAux 2 1
      else { c.afterTransfer r d x with flying := c.flying.eraseIdx x.place }).onRegion r (fun g =>
        { g with flitEvents := g.flitEvents + 1 })) := by
    refine (Chip.setRegion_step _ _ _ (by simp [hr])).2 (.inl ?_)
    split
    · exact (Chip.onStew_step _ _ (by simp [hs])).2 (.inl h1)
    · exact h1
  simp only [Chip.passFlit]
  split
  · exact h2
  · exact h2.trans (ht _ _)
@[simp] theorem Chip.sinkFlit_step (c : Chip) (e : Nat) (f : Flit) : c.Step [.regions, .eps, .flying] (c.sinkFlit e f) := by
  refine Chip.Within.step ?_
  simp only [Chip.sinkFlit]
  split
  · split
    · exact Chip.Within.flying (by simp) (by simp) _
    · simp
  · simp
@[simp] theorem Chip.takeFlit_step (r d : Nat) (c : Chip) (f : Flit) :
    c.Step [.regions, .queues, .eps, .flying] (Chip.takeFlit r d c f) := by
  refine Chip.Within.step ?_
  unfold Chip.takeFlit
  split
  · simp
  · exact (Chip.within_self _ c).flying (by simp) _
@[simp] theorem Chip.transfer_step (c : Chip) (r d : Nat) (x : Candidate) (poison : Bool) :
    c.Step [.regions, .queues, .eps, .flying, .links, .stew] (c.transfer r d x poison) :=
  Chip.Within.step ((Chip.within_self _ c).passFlit r d x (fun _ _ => by simp) (by simp))
@[simp] theorem Chip.popAt_step (c : Chip) (q i : Nat) :
    c.Step [.queues, .eps] (c.popAt q i) :=
  Chip.Within.step (by
    unfold Chip.popAt
    repeat' split
    all_goals simp)
@[simp] theorem Chip.seeAt_step (c : Chip) (q n : Nat) :
    c.Step [.queues] (c.seeAt q n) :=
  Chip.Within.step (by simp [Chip.seeAt])
@[simp] theorem Chip.popInjection_step (c : Chip) (q : Nat) :
    c.Step [.xng, .queues, .eps, .flying, .stew] (c.popInjection q) := by
  refine Chip.Within.step ?_
  simp only [Chip.popInjection]
  split
  · simp
  · split
    · simp
    · exact Chip.Within.flying (by simp) (by simp) _
/-- A change of a memory keeps its canonical form. -/
def Memory.Keeps (f : List Host.Cell → List Host.Cell) : Prop := ∀ m, Memory.wf m = true → Memory.wf (f m) = true

theorem Memory.wf_foldl {α β : Type} {g : β → List Host.Cell} {f : β → α → β} {x : β} (h : Memory.wf (g x) = true)
    (hf : ∀ x a, Memory.wf (g x) = true → Memory.wf (g (f x a)) = true) (l : List α) :
    Memory.wf (g (l.foldl f x)) = true := by
  induction l generalizing x with
  | nil => exact h
  | cons a l ih => exact ih (hf x a h)
@[simp] theorem Memory.keeps_write (a : Nat) (f : List Host.Cell → List Byte) :
    Memory.Keeps fun m => Memory.write m a (f m) :=
  fun m => Memory.wf_write m _ _
@[simp] theorem Memory.keeps_writeEnabled (a : Nat) (bs : List Byte) (en : List Bool) :
    Memory.Keeps fun m => Memory.writeEnabled m a bs en :=
  fun m => Memory.wf_writeEnabled m _ _ _
@[simp] theorem Memory.keeps_clear (a n : Nat) : Memory.Keeps fun m => Memory.clear m a n :=
  fun m => Memory.wf_clear m _ _
@[simp] theorem Memory.keeps_copyLines (seq : Bool) (l : List (Nat × Nat)) : Memory.Keeps fun m => copyLines m seq l :=
  fun _ h => Memory.wf_foldl (g := id) h (fun x _ hx => Memory.wf_write x _ _ hx) l
@[simp] theorem Memory.keeps_linesTaken (dsts : List (Nat × Nat)) (data : List Byte) : Memory.Keeps fun m =>
    dsts.foldl (fun m e => Memory.write m e.1 ((data.drop (64 * e.2)).take 64)) m :=
  fun _ h => Memory.wf_foldl (g := id) h (fun x _ hx => Memory.wf_write x _ _ hx) dsts

theorem convertRun_wf {m : List Host.Cell} (h : Memory.wf m = true) (src dst sf df n : Nat) (sat seq : Bool) :
    Memory.wf (convertRun m src dst sf df n sat seq).1 = true := by
  unfold convertRun
  refine Memory.wf_foldl (g := Prod.fst) h (fun y i hy => ?_) _
  dsimp only
  exact Memory.wf_write _ _ _ hy
theorem Tile.writeBlock_wf {m : List Host.Cell} (h : Memory.wf m = true) (x : Tile) (d : List Nat) (as : List Accum) :
    Memory.wf (x.writeBlock m d as).1 = true := by
  unfold Tile.writeBlock
  refine Memory.wf_foldl (g := Prod.fst) h (fun y e hy => ?_) _
  dsimp only
  exact Memory.wf_write _ _ _ hy
theorem combineInto_wf {m : List Host.Cell} (h : Memory.wf m = true) (x : Slot) (i : Nat) (bs : List Byte) :
    Memory.wf (combineInto x m i bs).1 = true := by
  simp only [combineInto]
  repeat' split
  all_goals
    dsimp only
    exact Memory.wf_write _ _ _ h

/-- A tile's memory is changed by what keeps its form. -/
@[simp] theorem Chip.onTileMem_step (c : Chip) (r p : Nat) (f : List Host.Cell → List Host.Cell) (hf : Memory.Keeps f) :
    c.Step [.posns] (c.onTileMem r p f) :=
  (Chip.setPosn_within (hf _)).step

/-- The same, when the change keeps the form of the memory that stands there. -/
theorem Chip.onTileMem_within (c : Chip) (r p : Nat) (f : List Host.Cell → List Host.Cell)
    (hf : Memory.wf (c.tileMem r p) = true → Memory.wf (f (c.tileMem r p)) = true) :
    c.Within [.posns] (c.onTileMem r p f) :=
  Chip.setPosn_within hf
@[simp] theorem Chip.raiseFlags_step (c : Chip) (r p fl : Nat) :
    c.Step [.tiles, .hif] (c.raiseFlags r p fl) :=
  Chip.Within.step (by simp [Chip.raiseFlags])
@[simp] theorem Chip.itemErrorAt_step (c : Chip) (r p code off : Nat) :
    c.Step [.tiles, .hif] (c.itemErrorAt r p code off) :=
  Chip.Within.step (by simp [Chip.itemErrorAt])
@[simp] theorem Chip.itemError_step (c : Chip) (r p code : Nat) :
    c.Step [.tiles, .hif] (c.itemError r p code) :=
  Chip.Within.step (by simp [Chip.itemError])
@[simp] theorem Chip.issueOp_within {ps : List Piece} {b c : Chip} (r p err : Nat) (d : List Nat) {f : Chip → Chip}
    (hp : [.tiles, .hif] ⊆ ps) (hf : c.Within ps (f c)) :
    b.Within ps (c.issueOp r p err d f) ↔ b.Within ps c ∨ b.WithinAlso ps (c.issueOp r p err d f) := by
  obtain ⟨ht, hh⟩ : Piece.tiles ∈ ps ∧ Piece.hif ∈ ps := by simpa using hp
  refine ⟨.inr, fun h => h.elim (fun h => h.trans ?_) id⟩
  unfold Chip.issueOp
  split <;> simp [hf, ht, hh]
@[simp] theorem Chip.issueMsg_step (c : Chip) (m : Msg) :
    c.Step [.eps] (c.issueMsg m) :=
  Chip.Within.step (by simp [Chip.issueMsg])
theorem pumpSend_within {c : Chip} (ms : List SendMsg) : c.Within [.eps] (pumpSend c ms).1 := by
  refine Chip.Within.foldl_fst (Chip.within_self _ c) (fun x m => ?_) ms
  split
  · simp
  · split <;> simp
theorem pumpReads_within {c : Chip} (todo : List (Msg × List Nat)) : c.Within [.eps] (pumpReads c todo).1 := by
  refine Chip.Within.foldl_fst (Chip.within_self _ c) (fun x m => ?_) todo
  split <;> simp
@[simp] theorem Chip.pump_step (c : Chip) (r p : Nat) : c.Step [.tiles, .eps] (c.pump r p) := by
  refine Chip.Within.step ?_
  unfold Chip.pump
  refine (Chip.setTile_step _ _ _ (by simp)).2 (.inl ?_)
  refine Chip.Within.foldl_fst (Chip.within_self _ c) (fun x i => ?_) _
  split
  · exact (pumpSend_within _).mono (by simp)
  · exact (pumpReads_within _).mono (by simp)
  all_goals simp
@[simp] theorem Chip.doRuns_step (c : Chip) (r p : Nat) (seq : Bool) (runs : List Run) (reads writes : List (Nat × Nat)) :
    c.Step [.tiles, .posns, .eps] (c.doRuns r p seq runs reads writes) :=
  Chip.Within.step (by
    simp only [Chip.doRuns]
    repeat' split
    all_goals simp)
@[simp] theorem Chip.doSelect_step (c : Chip) (r p : Nat) (d : List Nat) :
    c.Step [.tiles, .hif] (c.doSelect r p d) :=
  Chip.Within.step (by simp [Chip.doSelect])
@[simp] theorem Chip.answer_step (c : Chip) (e : Nat) (rsp : Msg) :
    c.Step [.eps] (c.answer e rsp) :=
  Chip.Within.step (by simp [Chip.answer])
@[simp] theorem Chip.combineMsg_step (c : Chip) (r p n : Nat) (q : Msg) :
    c.Step [.regions, .tiles, .posns, .hif] (c.combineMsg r p n q) := by
  refine Chip.Within.step ?_
  unfold Chip.combineMsg
  extract_lets t s ix out acc s1 c1
  have hmem : c.Within [.regions, .tiles, .posns, .hif] (c.onTileMem r p (fun _ => out.1)) := by
    refine (c.onTileMem_within r p _ fun h => ?_).mono (by simp)
    refine Memory.wf_foldl (g := Prod.fst) h (fun x i hx => ?_) _
    exact combineInto_wf hx _ _ _
  simp [c1, hmem]
@[simp] theorem Chip.post_step (c : Chip) (g : Nat) (x : Completion) :
    c.Step [.seq, .hif] (c.post g x) :=
  Chip.Within.step (by simp [Chip.post])
@[simp] theorem Chip.popCommand_step (c : Chip) (g : Nat) :
    c.Step [.hif] (c.popCommand g) :=
  Chip.Within.step (by simp [Chip.popCommand])
@[simp] theorem Chip.toBackground_step (c : Chip) (g : Nat) :
    c.Step [.hif] (c.toBackground g) :=
  Chip.Within.step (by simp [Chip.toBackground])
@[simp] theorem Chip.endBackground_step (c : Chip) (g op : Nat) :
    c.Step [.hif] (c.endBackground g op) :=
  Chip.Within.step (by simp [Chip.endBackground])
@[simp] theorem Chip.complete_step (c : Chip) (g : Nat) (bs : List Byte) (status code : Nat) (res0 res1 : Nat := 0) :
    c.Step [.seq, .hif] (c.complete g bs status code res0 res1) :=
  Chip.Within.step (by simp [Chip.complete])
@[simp] theorem Chip.refuse_step (c : Chip) (g : Nat) (bs : List Byte) (tag : Tag) (nn inst : Nat) :
    c.Step [.seq, .hif] (c.refuse g bs tag nn inst) :=
  Chip.Within.step (by simp [Chip.refuse])
@[simp] theorem Chip.cacheSession_step (c : Chip) (i : Nat) : c.Step [.mem, .seq] (c.cacheSession i) := by
  refine Chip.Within.step ?_
  simp only [Chip.cacheSession]
  split
  · simp
  · split
    · simp
    · exact (Chip.onSeq_step _ _ (by simp)).2 (.inl ((Chip.within_self _ c).mem (by simp) (Memory.wf_write _ _ _)))
@[simp] theorem Chip.useSession_step (c : Chip) (i : Nat) (f : Session → Session) :
    c.Step [.mem, .seq] (c.useSession i f) :=
  Chip.Within.step (by simp [Chip.useSession])
@[simp] theorem Chip.frameCompletion_step (c : Chip) (i : Nat) (status gen : Nat) (err flags : Nat) (late spec : Bool) (epoch releases : Nat) :
    c.Step [.seq, .hif] (c.frameCompletion i status gen err flags late spec epoch releases) :=
  Chip.Within.step (by simp [Chip.frameCompletion])
@[simp] theorem Chip.closeNow_step (c : Chip) (i : Nat) (releases : Nat) :
    c.Step [.seq, .hif] (c.closeNow i releases) :=
  Chip.Within.step (by
    simp only [Chip.closeNow]
    repeat' split
    all_goals simp)
@[simp] theorem Chip.afterFinal_step (c : Chip) (i : Nat) (releases : Nat) :
    c.Step [.seq, .hif] (c.afterFinal i releases) :=
  Chip.Within.step (by simp [Chip.afterFinal])
@[simp] theorem Chip.confirmHeld_step (c : Chip) (i : Nat) (late : Bool) :
    c.Step [.seq, .hif] (c.confirmHeld i late) :=
  Chip.Within.step (by simp [Chip.confirmHeld])
@[simp] theorem Chip.finishItem_step (c : Chip) (n : Nat) :
    c.Step [.mem, .seq, .hif] (c.finishItem n) :=
  Chip.Within.step (by
    unfold Chip.finishItem
    repeat' split
    all_goals simp)
@[simp] theorem Chip.settleItem_step (c : Chip) (n : Nat) :
    c.Step [.mem, .seq, .hif] (c.settleItem n) :=
  Chip.Within.step (by
    unfold Chip.settleItem
    repeat' split
    all_goals simp)
@[simp] theorem Chip.startStage_step (c : Chip) (n l : Nat) :
    c.Step [.tiles, .eps, .seq, .stew] (c.startStage n l) :=
  Chip.Within.step (by
    unfold Chip.startStage
    repeat' split
    all_goals simp)
@[simp] theorem Chip.admitItem_step (c : Chip) (i : Nat) (lanes : Bool × Bool) :
    c.Step [.tiles, .eps, .mem, .seq, .stew] (c.admitItem i lanes) :=
  Chip.Within.step (by simp [Chip.admitItem])
@[simp] theorem Chip.returnItem_step (c : Chip) (n : Nat) :
    c.Step [.tiles, .mem, .seq, .hif] (c.returnItem n) :=
  Chip.Within.step (by
    unfold Chip.returnItem
    repeat' split
    all_goals simp)
@[simp] theorem Chip.returnQueued_step (c : Chip) (r : Nat) :
    c.Step [.tiles, .mem, .seq, .hif] (c.returnQueued r) :=
  Chip.Within.step (by simp [Chip.returnQueued])
@[simp] theorem Chip.stopTiles_step (c : Chip) (r : Nat) :
    c.Step [.tiles] (c.stopTiles r) :=
  Chip.Within.step (by simp [Chip.stopTiles])
@[simp] theorem Chip.abortRegion_step (c : Chip) (r : Nat) : c.Step [.tiles, .mem, .seq, .hif] (c.abortRegion r) := by
  refine Chip.Within.step ?_
  have hfold : ∀ l : List (Nat × Item), c.Within [.tiles, .mem, .seq, .hif] (l.foldl (fun c e =>
      match c.item e.1 with
      | none => c
      | some it =>
        let cut := fun (l : LaneRun) => { l with waitEnds := l.waitEnds.filter (fun t => t / 15 != r) }
        (c.setItem e.1 { it with aborted := true, lane0 := cut it.lane0, lane1 := cut it.lane1 }).settleItem e.1) c) :=
    (Chip.within_self _ c).foldl fun c e => by split <;> simp
  simp only [Chip.abortRegion]
  exact (Chip.stopTiles_step _ r (by simp)).2 (.inl ((Chip.returnQueued_step _ r (by simp)).2 (.inl (hfold _))))
@[simp] theorem Chip.abortAll_step (c : Chip) : c.Step [.tiles, .mem, .seq, .hif] c.abortAll := by
  refine Chip.Within.step ?_
  unfold Chip.abortAll
  exact ((Chip.within_self _ c).foldl (fun c e => by split <;> simp) _).tiles (by simp) _
@[simp] theorem Chip.refreshPart_step (c : Chip) (p : Nat) :
    c.Step [.seq, .hif] (c.refreshPart p) :=
  Chip.Within.step (by simp [Chip.refreshPart])
@[simp] theorem Chip.refreshAll_step (c : Chip) :
    c.Step [.seq, .hif] c.refreshAll :=
  Chip.Within.step (by simp [Chip.refreshAll])
@[simp] theorem Chip.loseModel_step (c : Chip) (p : Nat) :
    c.Step [.seq, .hif] (c.loseModel p) :=
  Chip.Within.step (by simp [Chip.loseModel])
@[simp] theorem Chip.checkLanes_step (c : Chip) (p : Nat) :
    c.Step [.seq, .hif] (c.checkLanes p) :=
  Chip.Within.step (by simp [Chip.checkLanes])
@[simp] theorem Chip.changeRegion_step (c : Chip) (r : Nat) (f : Region → Region) :
    c.Step [.regions, .seq, .hif] (c.changeRegion r f) :=
  Chip.Within.step (by simp [Chip.changeRegion])
@[simp] theorem Chip.hwSetB_step (c : Chip) (r : Nat) (f : ClassB → ClassB) :
    c.Step [.img] (c.hwSetB r f) :=
  Chip.Within.step (by simp [Chip.hwSetB])
@[simp] theorem Chip.serve_step (c : Chip) (r : Nat) :
    c.Step [.regions] (c.serve r) :=
  Chip.Within.step (by simp [Chip.serve])
@[simp] theorem Chip.serveIfReady_step (c : Chip) (r : Nat) :
    c.Step [.regions] (c.serveIfReady r) :=
  Chip.Within.step (by simp [Chip.serveIfReady])
@[simp] theorem Chip.serveWaiting_step (c : Chip) :
    c.Step [.regions] c.serveWaiting :=
  Chip.Within.step (by simp [Chip.serveWaiting])
@[simp] theorem Chip.goOut_step (c : Chip) (r : Nat) :
    c.Step [.regions, .tiles, .mem, .seq, .hif] (c.goOut r) :=
  Chip.Within.step (by simp [Chip.goOut])
@[simp] theorem Chip.answerIsolated_step (c : Chip) (r : Nat) : c.Step [.eps] (c.answerIsolated r) :=
  Chip.step_of_piece .eps (by simp) fun x hx => by cases x <;> simp_all [Chip.sameAt, Chip.answerIsolated]
@[simp] theorem Chip.isolate_step (c : Chip) (r : Nat) :
    c.Step [.regions, .tiles, .xng, .queues, .eps, .flying, .mem, .seq, .hif] (c.isolate r) :=
  Chip.Within.step (by simp [Chip.isolate])
@[simp] theorem Chip.retire_step (c0 : Chip) (r : Nat) :
    c0.Step [.regions, .tiles, .mem, .seq, .img, .hif] (c0.retire r) :=
  Chip.Within.step (by simp [Chip.retire])
@[simp] theorem Chip.startDissolve_step (c : Chip) (r : Nat) :
    c.Step [.regions, .tiles, .mem, .seq, .hif, .dissolves] (c.startDissolve r) := by
  refine Chip.Within.step ?_
  simp only [Chip.startDissolve]
  split
  · simp
  · exact Chip.Within.dissolves (by simp) (by simp) _
@[simp] theorem Chip.failTile_step (c : Chip) (r q : Nat) :
    c.Step [.regions, .tiles, .mem, .seq, .img, .hif, .dissolves] (c.failTile r q) :=
  Chip.Within.step (by
    unfold Chip.failTile
    repeat' split
    all_goals simp)
/-- Step 4 of a dissolution at one member: it is its own master, and recalibrates where it was slaved. -/
theorem Chip.ownMaster_within {c : Chip} (r : Nat) (f : ClassB → ClassB) (p : Bool) :
    c.Within [.gens, .regions, .img] (if p then ((c.hwSetB r f).onRegion r (fun x => { x with cfg := f x.cfg })).onGen r
      Gen.enterCal else (c.hwSetB r f).onRegion r (fun x => { x with cfg := f x.cfg })) := by
  simp
@[simp] theorem Chip.applyDissolve_step (c : Chip) (d : Dissolve) :
    c.Step [.gens, .regions, .tiles, .xng, .queues, .eps, .flying, .mem, .seq, .img, .hif, .dissolves]
      (c.applyDissolve d) := by
  refine Chip.Within.step ?_
  unfold Chip.applyDissolve
  refine Chip.Within.foldl (Chip.Within.foldl ?_ (by simp) _) (by simp) _
  refine (Chip.switchQueues_step _ _ _ (by simp)).2 (.inl (Chip.Within.foldl ?_ (fun c r => ?_) _))
  · exact (Chip.onImg_step _ _ (by simp)).2 (.inl ((Chip.within_self _ c).dissolves (by simp) _))
  · exact (Chip.ownMaster_within r _ _).mono (by simp)
@[simp] theorem Chip.denyCounter_step (c : Chip) :
    c.Step [.seq, .hif] c.denyCounter :=
  Chip.Within.step (by simp [Chip.denyCounter])
@[simp] theorem Chip.answerWaiter_step (c : Chip) (w : Waiter) (outcome : Nat) :
    c.Step [.eps, .seq, .hif] (c.answerWaiter w outcome) :=
  Chip.Within.step (by
    unfold Chip.answerWaiter
    repeat' split
    all_goals simp)
@[simp] theorem Chip.wakeCounter_step (c : Chip) (n : Nat) :
    c.Step [.eps, .seq, .hif] (c.wakeCounter n) :=
  Chip.Within.step (by simp [Chip.wakeCounter])
@[simp] theorem Chip.addCounter_step (c : Chip) (n v : Nat) :
    c.Step [.eps, .seq, .stew, .hif] (c.addCounter n v) :=
  Chip.Within.step (by simp [Chip.addCounter])
@[simp] theorem Chip.setCounter_step (c : Chip) (n v : Nat) :
    c.Step [.eps, .seq, .stew, .hif] (c.setCounter n v) :=
  Chip.Within.step (by simp [Chip.setCounter])
@[simp] theorem Chip.waitCounter_step (c0 : Chip) (w : Waiter) :
    c0.Step [.eps, .seq, .stew, .hif] (c0.waitCounter w) :=
  Chip.Within.step (by simp [Chip.waitCounter])
@[simp] theorem Chip.dropEvt_step (c : Chip) :
    c.Step [.eps] c.dropEvt :=
  Chip.Within.step (by simp [Chip.dropEvt])
@[simp] theorem Chip.writeOwner_step (c : Chip) (i v : Nat) :
    c.Step [.seq, .hif] (c.writeOwner i v) :=
  Chip.Within.step (by simp [Chip.writeOwner])
@[simp] theorem Chip.fenceFor_step (c : Chip) (r p : Nat) (k : List Nat → Pending) :
    c.Step [.tiles, .eps] (c.fenceFor r p k) :=
  Chip.Within.step (by simp [Chip.fenceFor])
@[simp] theorem Chip.issueEvt_step (c : Chip) (r p : Nat) (m : Msg) :
    c.Step [.tiles, .eps] (c.issueEvt r p m) :=
  Chip.Within.step (by simp [Chip.issueEvt])
@[simp] theorem Chip.waitFails_step (c : Chip) (r p : Nat) (i : Issued) (code : Nat) :
    c.Step [.tiles, .hif] (c.waitFails r p i code) :=
  Chip.Within.step (by simp [Chip.waitFails])
@[simp] theorem Chip.dropWr_step (c : Chip) (e : Nat) :
    c.Step [.eps] (c.dropWr e) :=
  Chip.Within.step (by simp [Chip.dropWr])
@[simp] theorem Chip.countEndpoint_step (c : Chip) (r off n : Nat) :
    c.Step [.regions] (c.countEndpoint r off n) :=
  Chip.Within.step (by simp [Chip.countEndpoint])
@[simp] theorem Chip.flushTile_step (c : Chip) (t : Nat) :
    c.Step [.tiles, .stew] (c.flushTile t) :=
  Chip.Within.step (by simp [Chip.flushTile])
@[simp] theorem Chip.itemStops_step (c : Chip) (r p code : Nat) :
    c.Step [.tiles, .hif] (c.itemStops r p code) :=
  Chip.Within.step (by simp [Chip.itemStops])
@[simp] theorem Chip.residue_step (c : Chip) (r p : Nat) :
    c.Step [.tiles, .posns, .hif] (c.residue r p) :=
  Chip.Within.step (by simp [Chip.residue])
@[simp] theorem Chip.poisoned_step (c : Chip) (r p off : Nat) (reader : LineReader) :
    c.Step [.tiles, .eps, .hif] (c.poisoned r p off reader) :=
  Chip.Within.step (by
    simp only [Chip.poisoned]
    repeat' split
    all_goals simp)
@[simp] theorem Chip.lineZeroed_step (c : Chip) (r p off : Nat) :
    c.Step [.regions, .tiles, .posns, .mem, .seq, .hif] (c.lineZeroed r p off) :=
  Chip.Within.step (by simp [Chip.lineZeroed])
@[simp] theorem Chip.lineError_step (c : Chip) (r p off : Nat) (reader : LineReader) (rewriteOk res resFirst : Bool) :
    c.Step [.regions, .tiles, .posns, .eps, .mem, .seq, .img, .hif, .dissolves] (c.lineError r p off reader rewriteOk res resFirst) :=
  Chip.Within.step (by simp [Chip.lineError])
@[simp] theorem Chip.tookWr_step (c : Chip) (h : Nat) :
    c.Step [.chans] (c.tookWr h) :=
  Chip.Within.step (by simp [Chip.tookWr])
@[simp] theorem Chip.tookReq_step (c : Chip) (h : Nat) :
    c.Step [.chans] (c.tookReq h) :=
  Chip.Within.step (by simp [Chip.tookReq])
@[simp] theorem Chip.grantBurst_step (c : Chip) (h : Nat) (g : Group) (err : LinkErr) :
    c.Step [.regions, .mem, .chans, .stew, .hif] (c.grantBurst h g err) := by
  refine Chip.Within.step ?_
  have hmem : c.Within [.regions, .mem, .chans, .stew, .hif] (if g.write then
      { c with mem := (Memory.writeEnabled c.mem (g.addr + 64 * g.granted) ((g.data.drop (64 * g.granted)).take 64)
        ((g.en.drop (64 * g.granted)).take 64)) } else c) := by
    split
    · exact (Chip.within_self _ c).mem (by simp) (Memory.wf_writeEnabled _ _ _ _)
    · simp
  unfold Chip.grantBurst
  extract_lets a c1 bad again g1 last c2 c3
  have hchan : c1.Within [.regions, .mem, .chans, .stew, .hif] c2 := by
    refine (Chip.setChan_within (fun hs => ?_) (fun hl => ?_)).mono (by simp)
    · dsimp only
      split
      · exact (List.length_filter_le _ _).trans hs
      · simpa [Channel.onGroup] using hs
    · dsimp only
      split
      · exact (List.length_filter_le _ _).trans hl
      · exact hl
  have h3 : c.Within [.regions, .mem, .chans, .stew, .hif] c3 := by
    refine (Chip.onStew_step _ _ (by simp)).2 (.inl ?_)
    split
    · exact (Chip.fault_step _ _ _ _ (by simp)).2 (.inl (hmem.trans hchan))
    · exact hmem.trans hchan
  split
  · exact (Chip.setRegion_step _ _ _ (by simp)).2 (.inl h3)
  · exact h3
@[simp] theorem Chip.switchTable_step (c : Chip) (h : Nat) :
    c.Step [.chans, .seq, .hif] (c.switchTable h) :=
  Chip.Within.step (by
    simp only [Chip.switchTable]
    repeat' split
    all_goals simp)
/-- Channel `y` comes of channel `x` with no more groups in its store, and a shelf within its size where it was so. -/
def Channel.Kept (x y : Channel) : Prop := y.store.length = x.store.length ∧ (x.shelf.length ≤ 64 → y.shelf.length ≤ 64)

theorem Channel.Kept.trans {x y z : Channel} (h : x.Kept y) (g : y.Kept z) : x.Kept z :=
  ⟨g.1.trans h.1, fun hx => g.2 (h.2 hx)⟩

theorem Channel.kept_lose (x : Channel) (i : Nat) (g : Group) (park pushed : Bool) : x.Kept (x.lose i g park pushed).1 := by
  unfold Channel.lose
  repeat' split
  case isFalse.isTrue.isTrue hroom =>
    simp only [Bool.and_eq_true, decide_eq_true_eq] at hroom
    exact ⟨by simp [Channel.onGroup], fun _ => by simp; omega⟩
  all_goals simp [Channel.Kept, Channel.onGroup, Channel.backOff]

theorem LoseWalk.kept_turn (a : LoseWalk) (i : Nat) (cand : Option Group) (park : Bool) :
    a.chan.Kept (a.turn i cand park).chan := by
  unfold LoseWalk.turn
  extract_lets x w x1 bo
  split
  next x2 pushed full hturn =>
  have hkept : x.Kept x2 := by
    have hfst : _ = x2 := congrArg Prod.fst hturn
    rw [← hfst]
    split
    · exact ⟨rfl, id⟩
    · cases cand with
      | none => exact ⟨rfl, id⟩
      | some g => exact Channel.Kept.trans (y := x1) ⟨rfl, id⟩ (Channel.kept_lose _ _ _ _ _)
  dsimp only
  split
  · exact hkept.trans ⟨rfl, id⟩
  · exact hkept
theorem LoseWalk.kept_foldl {f : LoseWalk → Nat → LoseWalk} (hf : ∀ (a : LoseWalk) i, a.chan.Kept (f a i).chan) (l : List Nat)
    (a : LoseWalk) : a.chan.Kept (l.foldl f a).chan := by
  induction l generalizing a with
  | nil => exact ⟨rfl, id⟩
  | cons i l ih => exact (hf a i).trans (ih _)

theorem Chip.Within.grantBurst {ps : List Piece} {b c : Chip} (hc : b.Within ps c)
    (hp : [.regions, .mem, .chans, .stew, .hif] ⊆ ps) (h : Nat) (err : LinkErr) (o : Option Group) :
    b.Within ps (match o with
      | some g => c.grantBurst h g err
      | none => c) := by
  cases o with
  | none => exact hc
  | some g => exact (Chip.grantBurst_step c h g err hp).2 (.inl hc)

@[simp] theorem Chip.arbitrate_step (c : Chip) (h : Nat) (busy : Bool) (err : LinkErr) :
    c.Step [.regions, .mem, .chans, .seq, .stew, .hif] (c.arbitrate h busy err) := by
  refine Chip.Within.step ?_
  unfold Chip.arbitrate
  extract_lets c' x off win gid g x0 walk forced src x1 c1 c2
  have hx0 : (x.store.length ≤ 128 → x0.store.length ≤ 128) ∧ (x.shelf.length ≤ 64 → x0.shelf.length ≤ 64) := by
    refine ⟨fun hs => by simpa [x0] using hs, fun hl => ?_⟩
    simp only [x0]
    cases g with
    | none => exact hl
    | some y =>
      dsimp only
      split
      · exact (List.length_filter_le _ _).trans hl
      · exact hl
  have hwalk : x0.Kept walk.chan := by
    refine LoseWalk.kept_foldl (a := { chan := x0 }) (fun (a : LoseWalk) i => ?_) _
    split
    · exact ⟨rfl, id⟩
    · exact a.kept_turn _ _ _
  have hset : c'.Within [.regions, .mem, .chans, .seq, .stew, .hif] (c'.setChan h x1) := by
    refine Chip.Within.mono (ps := [.chans]) ?_ (by simp)
    exact Chip.setChan_within (fun hs => hwalk.1.trans_le (hx0.1 hs)) (fun hl => hwalk.2 (hx0.2 hl))
  have hc' : c.Within [.regions, .mem, .chans, .seq, .stew, .hif] c' := by simp [c']
  have hc2 : c.Within [.regions, .mem, .chans, .seq, .stew, .hif] c2 := by
    have hfaults := Chip.Within.foldl (f := fun c _ => c.fault .arb 1 h) (hc'.trans hset)
      (fun c _ => Chip.Within.mono (Chip.Step.within (Chip.fault_step c .arb 1 h)) (by simp)) walk.starving
    exact (Chip.faultIf_step _ _ _ _ _ (by simp)).2 (.inl ((Chip.faultIf_step _ _ _ _ _ (by simp)).2 (.inl hfaults)))
  exact hc2.grantBurst (by simp) h err g
@[simp] theorem Chip.acceptCommit_step (c : Chip) :
    c.Step [.clk, .img] c.acceptCommit :=
  Chip.Within.step (by simp [Chip.acceptCommit])
@[simp] theorem Chip.endRoll_step (c : Chip) :
    c.Step [.img, .hif] c.endRoll :=
  Chip.Within.step (by simp [Chip.endRoll])
@[simp] theorem Chip.endRollIfDone_step (c : Chip) :
    c.Step [.img, .hif] c.endRollIfDone :=
  Chip.Within.step (by simp [Chip.endRollIfDone])
@[simp] theorem Chip.applyA_step (c : Chip) (a : ClassA) :
    c.Step [.chans, .img] (c.applyA a) :=
  Chip.Within.step (by simp [Chip.applyA])
@[simp] theorem Chip.programCommitWord_step (c : Chip) (ok : Bool) :
    c.Step [.bru, .img, .hif, .flash] (c.programCommitWord ok) := by
  refine Chip.Within.step ?_
  simp only [Chip.programCommitWord]
  refine (Chip.onImg_step _ _ (by simp)).2 (.inl ?_)
  split
  · refine (Chip.onBru_step _ _ (by simp)).2 (.inl ((Chip.onImg_step _ _ (by simp)).2 (.inl ?_)))
    exact Chip.Within.flash (by simp) (by simp) (Memory.wf_write _ _ _)
  · simp
@[simp] theorem Chip.leaveGang_step (c : Chip) (r : Nat) :
    c.Step [.gens, .regions, .tiles, .xng, .queues, .eps, .flying] (c.leaveGang r) :=
  Chip.Within.step (by simp [Chip.leaveGang])
@[simp] theorem Chip.joinGang_step (c : Chip) (r m : Nat) :
    c.Step [.gens, .regions, .tiles, .xng, .queues, .eps, .flying] (c.joinGang r m) :=
  Chip.Within.step (by simp [Chip.joinGang])
/-- Position `q` of a region takes over a memory that is in its form wherever the memories of the region are. -/
theorem Chip.Within.copyPosn {ps : List Piece} {b c : Chip} {m : List Host.Cell} (h : b.Within ps c) (hp : [.posns] ⊆ ps)
    {r q : Nat} (hq : q < 16) (hm : (∀ i < 16, Memory.wf (b.posn r i).mem = true) → Memory.wf m = true) :
    b.Within ps (c.onPosn r q (fun x => { x with mem := m })) where
  same x hx := Chip.sameAt_trans (h.same x hx) (by cases x <;> simp_all [Chip.sameAt])
  canonical hb := by
    obtain ⟨h1, h2, h3, h4⟩ := h.canonical hb
    refine ⟨h1, h2, h3, fun r' q' => ?_⟩
    simp only [Chip.onPosn_eq, Chip.posn, Chip.setPosn, Bank.get_set]
    split
    next e =>
      have hr : r = r'.val := by omega
      exact hm fun i hi => hr ▸ hb.2.2.2 r' ⟨i, hi⟩
    next => exact h4 r' q'
  bounded hb := h.bounded hb
@[simp] theorem Chip.moveSpare_step (c : Chip) (r new : Nat) : c.Step [.regions, .posns] (c.moveSpare r new) := by
  refine Chip.Within.step ?_
  simp only [Chip.moveSpare]
  split
  · simp
  refine (Chip.setRegion_step _ _ _ (by simp)).2 (.inl ?_)
  have h1 : c.Within [.regions, .posns] (if (c.region r).cfg.spareFor < 15
      then c.onPosn r (c.region r).cfg.spareFor (fun x => { x with mem := (c.posn r 15).mem }) else c) := by
    split
    · exact (Chip.within_self _ c).copyPosn (by simp) (by omega) fun h => h 15 (by omega)
    · simp
  split
  · exact h1.copyPosn (by simp) (by omega) fun h => h new (by omega)
  · exact h1
@[simp] theorem Chip.applyStep_step (c : Chip) (r : Nat) (copyUe : Bool) :
    c.Step [.gens, .regions, .tiles, .posns, .xng, .queues, .eps, .flying, .seq, .img, .hif] (c.applyStep r copyUe) :=
  Chip.Within.step (by simp [Chip.applyStep])
@[simp] theorem Chip.resume_step (c : Chip) (r : Nat) :
    c.Step [.regions] (c.resume r) :=
  Chip.Within.step (by simp [Chip.resume])
@[simp] theorem Chip.stepStatus_step (c : Chip) (r : Nat) :
    c.Step [.regions, .hif] (c.stepStatus r) :=
  Chip.Within.step (by simp [Chip.stepStatus])
@[simp] theorem Chip.drainWrites_step (c : Chip) : c.Step [.mem] c.drainWrites := by
  refine Chip.Within.step ((Chip.within_self _ c).foldl (fun c h => (Chip.within_self _ c).foldl (fun c g => ?_) _) _)
  split
  · exact (Chip.within_self _ c).mem (by simp) (Memory.wf_writeEnabled _ _ _ _)
  · simp
theorem Chip.mem_canonical_drainWrites {c : Chip} (h : c.Canonical) : Memory.wf c.drainWrites.mem = true :=
  ((Chip.Step.within (Chip.drainWrites_step c)).canonical h).1
@[simp] theorem Chip.restart_step (c : Chip) (cause : Nat) :
    c.Step [.power, .time, .clk, .tickDue, .gens, .regions, .tiles, .posns, .xng, .queues, .eps, .flying, .links, .mem,
      .chans, .seq, .stew, .bru, .img, .hif, .dissolves] (c.restart cause) := by
  refine Chip.Within.step ?_
  have hdrain := Chip.Step.within (Chip.drainWrites_step c)
  simp only [Chip.restart]
  generalize c.drainWrites = d at hdrain ⊢
  refine (Chip.setLine_step _ _ _ (by simp)).2 (.inl ((Chip.setLine_step _ _ _ (by simp)).2 (.inl ?_)))
  refine ⟨fun x hx => ?_, fun hc => ?_, fun _ => ?_⟩
  · have hflash : d.flash = c.flash := hdrain.same .flash (by simp)
    have hotp : d.otp = c.otp := hdrain.same .otp (by simp)
    obtain rfl | rfl : x = .flash ∨ x = .otp := by
      cases x <;> simp at hx <;> simp
    · exact hflash
    · exact hotp
  · exact ⟨(hdrain.canonical hc).1, (hdrain.canonical hc).2.1, rfl, fun _ _ => rfl⟩
  · exact ⟨Nat.zero_le _, Nat.zero_le _, fun _ => ⟨Nat.zero_le _, Nat.zero_le _⟩⟩
@[simp] theorem Chip.enter_step (c : Chip) (p : Phase) :
    c.Step [.bru] (c.enter p) :=
  Chip.Within.step (by simp [Chip.enter])
@[simp] theorem Chip.startFails_step (c : Chip) (nn inst : Nat) :
    c.Step [.bru, .hif] (c.startFails nn inst) :=
  Chip.Within.step (by simp [Chip.startFails])
@[simp] theorem Chip.readSlot_step (c : Chip) (n : Nat) :
    c.Step [.bru] (c.readSlot n) :=
  Chip.Within.step (by simp [Chip.readSlot])
@[simp] theorem Chip.trySlots_step (c : Chip) (ns : List Nat) : c.Step [.bru, .hif] (c.trySlots ns).1 := by
  refine Chip.Within.step ?_
  induction ns generalizing c with
  | nil => exact Chip.within_self _ c
  | cons n t ih =>
    simp only [Chip.trySlots]
    split
    · simp
    · exact Chip.Within.trans (by simp) (ih _)
@[simp] theorem Chip.rejectImage_step (c : Chip) :
    c.Step [.power, .time, .clk, .tickDue, .gens, .regions, .tiles, .posns, .xng, .queues, .eps, .flying, .links, .mem, .chans, .seq, .stew, .bru, .img, .hif, .dissolves] c.rejectImage :=
  Chip.Within.step (by simp [Chip.rejectImage])
@[simp] theorem Chip.selectReference_step (c : Chip) :
    c.Step [.clk, .hif] c.selectReference :=
  Chip.Within.step (by
    unfold Chip.selectReference
    repeat' split
    all_goals simp)
@[simp] theorem Chip.applyC_step (c : Chip) (v : ClassC) :
    c.Step [.xng, .img] (c.applyC v) :=
  Chip.Within.step (by simp [Chip.applyC])
@[simp] theorem Chip.selectImage_step (c : Chip) :
    c.Step [.power, .time, .clk, .tickDue, .gens, .regions, .tiles, .posns, .xng, .queues, .eps, .flying, .links, .mem, .chans, .seq, .stew, .bru, .img, .hif, .dissolves] c.selectImage :=
  Chip.Within.step (by
    simp only [Chip.selectImage]
    repeat' split
    all_goals simp)
@[simp] theorem Chip.enterClocks_step (c : Chip) :
    c.Step [.clk, .gens, .stew, .bru] c.enterClocks :=
  Chip.Within.step (by simp [Chip.enterClocks])
@[simp] theorem Chip.initMemory_step (c : Chip) : c.Step [.mem, .chans, .bru] c.initMemory := by
  refine Chip.Within.step ?_
  have htrain : c.Within [.mem, .chans, .bru]
      ((List.range 16).foldl (fun c h => c.onChan h (fun x => { x with trained := true })) c) :=
    (Chip.within_self _ c).foldl (by simp) _
  simp only [Chip.initMemory]
  refine (Chip.onBru_step _ _ (by simp)).2 (.inl ⟨fun x hx => ?_, fun hc => ⟨?_, (htrain.canonical hc).2⟩, htrain.bounded⟩)
  · exact Chip.sameAt_trans (htrain.same x hx) (by cases x <;> simp_all [Chip.sameAt])
  · dsimp only
    split
    · exact Memory.wf_clear _ _ _ hc.1
    · rfl
@[simp] theorem Chip.configure_step (c : Chip) :
    c.Step [.power, .time, .clk, .tickDue, .gens, .regions, .tiles, .posns, .xng, .queues, .eps, .flying, .links, .mem, .chans, .seq, .stew, .bru, .img, .hif, .dissolves] c.configure :=
  Chip.Within.step (by simp [Chip.configure])
@[simp] theorem Chip.applyRepair_step (c : Chip) : c.Step [.posns] c.applyRepair := by
  refine Chip.Within.step ?_
  refine (.of_fields (fun x hx => by cases x <;> simp_all [Chip.sameAt, Chip.applyRepair])
    id id id (fun r q h => ?_) id id (fun _ => id) (fun _ => id))
  have hfold : ∀ (l : List (Nat × Nat)) (b : Bank Position) (i : Nat),
      ((l.foldl (fun b e => b.update {} e.1 (fun x => { x with repair := e.2 })) b).get {} i).mem = (b.get {} i).mem := by
    intro l
    induction l with
    | nil => intro _ _; rfl
    | cons e l ih =>
      intro b i
      rw [List.foldl_cons, ih]
      by_cases hi : i = e.1 <;> simp [Bank.update, Bank.get_set, hi]
  simpa only [Chip.posn, Chip.applyRepair, hfold] using h
@[simp] theorem Chip.selfTested_step (c : Chip) (f : PosFail) :
    c.Step [.regions, .tiles, .mem, .seq, .img, .hif] (c.selfTested f) :=
  Chip.Within.step (by
    simp only [Chip.selfTested]
    repeat' split
    all_goals simp)
@[simp] theorem Chip.reportAllUnfixed_step (c : Chip) :
    c.Step [.hif] c.reportAllUnfixed :=
  Chip.Within.step (by simp [Chip.reportAllUnfixed])
@[simp] theorem Chip.deliver_step (c : Chip) (q : Nat) :
    c.Step [.regions, .queues, .eps, .flying, .links, .stew] (c.deliver q) := by
  refine Chip.Within.step ?_
  simp only [Chip.deliver]
  split
  · split <;> simp
  · simp
@[simp] theorem Chip.offer_step (c : Chip) (q : Nat) :
    c.Step [.regions, .tiles, .queues, .eps, .hif] (c.offer q) :=
  Chip.Within.step (by
    unfold Chip.offer
    repeat' split
    all_goals simp)
@[simp] theorem Chip.countIdle_step (c : Chip) (act : Activity) :
    c.Step [.gens] (c.countIdle act) :=
  Chip.Within.step (by simp [Chip.countIdle])
@[simp] theorem Chip.clearInterval_step (c : Chip) : c.Step [.regions, .tiles, .stew] c.clearInterval :=
  Chip.Within.step (.of_same (fun x hx => by cases x <;> simp_all [Chip.sameAt, Chip.clearInterval]) (by simp))
@[simp] theorem Chip.addInterval_step (c : Chip) (v : Interval) :
    c.Step [.stew] (c.addInterval v) :=
  Chip.Within.step (by simp [Chip.addInterval])
@[simp] theorem Chip.latchSweep_step (c : Chip) :
    c.Step [.stew] c.latchSweep :=
  Chip.Within.step (by simp [Chip.latchSweep])
@[simp] theorem Chip.closeFrame_step (c : Chip) :
    c.Step [.stew] c.closeFrame :=
  Chip.Within.step (by simp [Chip.closeFrame])
@[simp] theorem Chip.accept_step (c : Chip) (g : Nat) (bs : List Byte) (res0 : Nat := 0) :
    c.Step [.seq, .hif] (c.accept g bs res0) :=
  Chip.Within.step (by simp [Chip.accept])
@[simp] theorem Chip.refuseSession_step (c : Chip) (g : Nat) (bs : List Byte) :
    c.Step [.seq, .hif] (c.refuseSession g bs) :=
  Chip.Within.step (by simp [Chip.refuseSession])
@[simp] theorem Chip.armWith_step (c : Chip) (g : Nat) (bs : List Byte) (predict : Bool) :
    c.Step [.mem, .seq, .hif] (c.armWith g bs predict) :=
  Chip.Within.step (by
    simp only [Chip.armWith]
    repeat' split
    all_goals simp)
@[simp] theorem Chip.cancelAhead_step (c : Chip) (i : Nat) :
    c.Step [.seq, .hif] (c.cancelAhead i) :=
  Chip.Within.step (by simp [Chip.cancelAhead])
@[simp] theorem Chip.decideCancel_step (c : Chip) (i : Nat) :
    c.Step [.mem, .seq, .hif] (c.decideCancel i) :=
  Chip.Within.step (by simp [Chip.decideCancel])
@[simp] theorem Chip.reported_step (c : Chip) (n t err fl : Nat) :
    c.Step [.tiles, .mem, .seq, .hif] (c.reported n t err fl) :=
  Chip.Within.step (by
    unfold Chip.reported
    repeat' split
    all_goals simp)
@[simp] theorem Chip.showResidency_step (c : Chip) (bs : List Byte) :
    c.Step [.seq] (c.showResidency bs) :=
  Chip.Within.step (by simp [Chip.showResidency])
@[simp] theorem Chip.doCopies_step (c : Chip) (es : List CopyEntry) :
    c.Step [.posns, .stew] (c.doCopies es) :=
  Chip.Within.step (by simp [Chip.doCopies])
@[simp] theorem Chip.applyMap_step (c : Chip) (p : Nat) (es : List (Nat × MapEntry)) :
    c.Step [.seq] (c.applyMap p es) :=
  Chip.Within.step (by simp [Chip.applyMap])
@[simp] theorem Chip.finishLoad_step (c : Chip) (bs : List Byte) :
    c.Step [.regions, .seq, .hif] (c.finishLoad bs) :=
  Chip.Within.step (by simp [Chip.finishLoad])
@[simp] theorem Chip.counterDone_step (c : Chip) (g : Nat) (bs : List Byte) (v : Nat) :
    c.Step [.seq, .hif] (c.counterDone g bs v) :=
  Chip.Within.step (by simp [Chip.counterDone])
@[simp] theorem Chip.bookOne_step (c : Chip) (missing : Nat → Bool) (b : Booking) :
    c.Step [.stew] (c.bookOne missing b) :=
  Chip.Within.step (by simp [Chip.bookOne])
@[simp] theorem Chip.bookSweep_step (c : Chip) (x : Sweep) :
    c.Step [.stew] (c.bookSweep x) :=
  Chip.Within.step (by simp [Chip.bookSweep])
@[simp] theorem Chip.updateGain_step (c : Chip) (i free : Nat) :
    c.Step [.stew, .hif] (c.updateGain i free) :=
  Chip.Within.step (by simp [Chip.updateGain])
@[simp] theorem Chip.endGenerators_step (c : Chip) (len : Nat) (cycles : List Nat) :
    c.Step [.gens, .regions] (c.endGenerators len cycles) :=
  Chip.Within.step (by simp [Chip.endGenerators])
@[simp] theorem Chip.switchNow_step (c : Chip) :
    c.Step [.clk, .hif] c.switchNow :=
  Chip.Within.step (by
    unfold Chip.switchNow
    repeat' split
    all_goals simp)
@[simp] theorem Chip.ageWatchdogs_step (c : Chip) :
    c.Step [.regions] c.ageWatchdogs :=
  Chip.Within.step (by simp [Chip.ageWatchdogs])
@[simp] theorem Chip.ageHandshakes_step (c : Chip) : c.Step [.queues] c.ageHandshakes :=
  Chip.step_of_piece .queues (by simp) fun x hx => by cases x <;> simp_all [Chip.sameAt, Chip.ageHandshakes]
@[simp] theorem Chip.ageLanes_step (c : Chip) : c.Step [.links] c.ageLanes :=
  Chip.step_of_piece .links (by simp) fun x hx => by cases x <;> simp_all [Chip.sameAt, Chip.ageLanes]
@[simp] theorem Chip.ageEndpoints_step (c : Chip) : c.Step [.eps] c.ageEndpoints :=
  Chip.step_of_piece .eps (by simp) fun x hx => by cases x <;> simp_all [Chip.sameAt, Chip.ageEndpoints]
@[simp] theorem Chip.older_step (c : Chip) :
    c.Step [.clk, .regions, .tiles, .posns, .xng, .queues, .eps, .links, .chans, .seq, .stew, .bru, .img, .hif, .dissolves] c.older := by
  refine Chip.Within.step ?_
  have h1 : c.Within [.clk, .regions, .tiles, .posns, .xng, .queues, .eps, .links, .chans, .seq, .stew, .bru, .img, .hif, .dissolves]
      ((c.ageWatchdogs.ageHandshakes).ageEndpoints).ageLanes := by simp
  refine h1.trans ?_
  simp only [Chip.older]
  generalize ((c.ageWatchdogs.ageHandshakes).ageEndpoints).ageLanes = d
  refine .of_fields (fun x hx => by cases x <;> simp_all [Chip.sameAt]) id id id (fun r q h => ?_) id
    (fun h => by simpa [Hif.older] using h) (fun i h => ?_) (fun i h => ?_)
  · simp only [Chip.posn] at h ⊢
    rwa [Bank.get_mapCells_proj Position.mem]
    exact fun _ _ => rfl
  · simp only [Chip.chan] at h ⊢
    rwa [Bank.get_mapCells_proj Channel.store]
    intro _ _
    split <;> rfl
  · simp only [Chip.chan] at h ⊢
    rwa [Bank.get_mapCells_proj Channel.shelf]
    intro _ _
    split <;> rfl
@[simp] theorem Chip.newSecond_step (c : Chip) : c.Step [.tiles, .links, .chans] c.newSecond := by
  refine Chip.Within.step ?_
  refine (.of_fields (fun x hx => by cases x <;> simp_all [Chip.sameAt, Chip.newSecond])
    id id id (fun _ _ => id) id id (fun i h => ?_) (fun i h => ?_))
  · simp only [Chip.chan, Chip.newSecond] at h ⊢
    rwa [Bank.get_mapCells_proj Channel.store]
    exact fun _ _ => rfl
  · simp only [Chip.chan, Chip.newSecond] at h ⊢
    rwa [Bank.get_mapCells_proj Channel.shelf]
    exact fun _ _ => rfl
@[simp] theorem Chip.passBoundary_step (c : Chip) (t : TimeBase) (len shift : Nat) (cycles : List Nat) :
    c.Step [.time, .clk, .tickDue, .gens, .regions, .tiles, .posns, .xng, .queues, .eps, .links, .chans, .seq, .stew, .bru,
      .img, .hif, .dissolves] (c.passBoundary t len shift cycles) := by
  refine Chip.Within.step ?_
  unfold Chip.passBoundary
  extract_lets c1 c2 c3 c4
  have hold : c.Within [.time, .clk, .tickDue, .gens, .regions, .tiles, .posns, .xng, .queues, .eps, .links, .chans, .seq, .stew, .bru,
      .img, .hif, .dissolves] c1 := by
    simp [c1]
  have h34 : c2.Within [.time, .clk, .tickDue, .gens, .regions, .tiles, .posns, .xng, .queues, .eps, .links, .chans, .seq, .stew, .bru,
      .img, .hif, .dissolves] ((c4.renumber shift).switchNow) := by
    simp [c4, c3]
  exact Chip.Within.trans (hold.trans ((c1.timeTick_within _ _).mono (by simp))) h34
@[simp] theorem Chip.within_notingTime {ps : List Piece} {b : Chip} (c d : Chip) (hp : [.hif] ⊆ ps) :
    b.Within ps (c.notingTime d) ↔ b.Within ps d ∨ b.WithinAlso ps (c.notingTime d) := by
  refine Chip.Within.step ?_ hp
  simp [Chip.notingTime]
@[simp] theorem Chip.epochBoundary_step (c : Chip) (cycles : List Nat) :
    c.Step [.time, .clk, .tickDue, .gens, .regions, .tiles, .posns, .xng, .queues, .eps, .links, .chans, .seq, .stew, .bru, .img, .hif, .dissolves] (c.epochBoundary cycles) :=
  Chip.Within.step (by simp [Chip.epochBoundary])
@[simp] theorem Chip.ppsEdge_step (c : Chip) (pos : Nat) (cycles : List Nat) :
    c.Step [.time, .clk, .tickDue, .gens, .regions, .tiles, .posns, .xng, .queues, .eps, .links, .chans, .seq, .stew, .bru, .img, .hif, .dissolves] (c.ppsEdge pos cycles) := by
  refine Chip.Within.step ?_
  simp only [Chip.ppsEdge]
  split
  · simp
  · have hfeed := (Chip.feedTo_step c (c.time.edge pos).time.tick (List.Subset.refl _)).2 (.inl (.refl _ c))
    refine (Chip.within_notingTime _ _ (by simp)).2 (.inl ((Chip.faultIf_step _ _ _ _ _ (by simp)).2 (.inl
      ((Chip.faultIf_step _ _ _ _ _ (by simp)).2 (.inl ((Chip.renumber_step _ _ (by simp)).2 (.inl ?_)))))))
    exact Chip.Within.time (hfeed.mono (by simp)) (by simp) _
@[simp] theorem Chip.newFrame_step (c : Chip) : c.Step [.regions, .tiles, .chans, .seq, .stew, .img] c.newFrame := by
  refine Chip.Within.step ?_
  refine (.of_fields (fun x hx => by cases x <;> simp_all [Chip.sameAt, Chip.newFrame])
    id id id (fun _ _ => id) id id (fun i h => ?_) (fun i h => ?_))
  · simp only [Chip.chan, Chip.newFrame] at h ⊢
    rwa [Bank.get_mapCells_proj Channel.store]
    exact fun _ _ => rfl
  · simp only [Chip.chan, Chip.newFrame] at h ⊢
    rwa [Bank.get_mapCells_proj Channel.shelf]
    exact fun _ _ => rfl
@[simp] theorem Chip.frameTick_step (c : Chip) :
    c.Step [.regions, .tiles, .mem, .chans, .seq, .stew, .img] c.frameTick :=
  Chip.Within.step (by simp [Chip.frameTick])
@[simp] theorem Chip.pumpFlush_step (c : Chip) : c.Step [.eps, .hif] c.pumpFlush := by
  refine Chip.Within.step ?_
  unfold Chip.pumpFlush
  refine (Chip.onHif_step _ _ rfl rfl rfl (by simp)).2 (.inl ?_)
  refine Chip.Within.foldl_fst (Chip.within_self _ c) (fun x m => ?_) _
  split
  · simp
  · split <;> simp
@[simp] theorem Chip.flushFor_step (c : Chip) (g : Nat) :
    c.Step [.eps, .hif] (c.flushFor g) :=
  Chip.Within.step (by simp [Chip.flushFor])
@[simp] theorem Chip.flushRsp_step (c : Chip) (tag status : Nat) :
    c.Step [.eps, .hif] (c.flushRsp tag status) :=
  Chip.Within.step (by simp [Chip.flushRsp])
@[simp] theorem Chip.answerReads_step (c : Chip) :
    c.Step [.stew, .hif] c.answerReads :=
  Chip.Within.step (by
    unfold Chip.answerReads
    repeat' split
    all_goals simp)
/-- A fold that puts each element of a list, changed or not, behind what stands there keeps the number of elements. -/
theorem foldl_snd_length {α β : Type} {f : Chip × List β → α → Chip × List β}
    (hf : ∀ x a, (f x a).2.length = x.2.length + 1) (l : List α) (x : Chip × List β) :
    (l.foldl f x).2.length = x.2.length + l.length := by
  induction l generalizing x with
  | nil => rfl
  | cons a l ih =>
    rw [List.foldl_cons, ih, hf, List.length_cons]
    omega
@[simp] theorem Chip.pumpInbox_step (c : Chip) : c.Step [.eps, .hif] c.pumpInbox := by
  refine Chip.Within.step ?_
  unfold Chip.pumpInbox
  extract_lets out
  have hout : c.Within [.eps, .hif] out.1 :=
    Chip.Within.foldl_fst (Chip.within_self _ c) (fun x m => by
      split
      · simp
      · split <;> simp) _
  have hlen : out.2.length = c.hif.inbox.length :=
    (foldl_snd_length (fun x m => by
      split
      · simp
      · split <;> simp) _ _).trans (by simp)
  exact ⟨fun x hx => Chip.sameAt_trans (hout.same x hx) (by cases x <;> simp_all [Chip.sameAt]), hout.canonical,
    fun hc => ⟨(hout.bounded hc).1, hlen.trans_le hc.2.1, (hout.bounded hc).2.2⟩⟩
@[simp] theorem Chip.inboxRsp_step (c : Chip) (m : Msg) : c.Step [.hif] (c.inboxRsp m) := by
  refine Chip.Within.step ?_
  refine Chip.within_of_hif (fun x hx => by cases x <;> simp_all [Chip.sameAt, Chip.inboxRsp]) id (fun h => ?_) id
  simp only [Chip.inboxRsp, Chip.onHif]
  split
  · simpa using h
  · exact (List.length_filter_le _ _).trans h
@[simp] theorem Chip.hifRsp_step (c : Chip) (m : Msg) :
    c.Step [.eps, .stew, .hif] (c.hifRsp m) :=
  Chip.Within.step (by simp [Chip.hifRsp])
@[simp] theorem Chip.holdAll_step (c : Chip) (g : Nat) :
    c.Step [.seq, .hif] (c.holdAll g) :=
  Chip.Within.step (by simp [Chip.holdAll])
@[simp] theorem Chip.disableRing_step (c : Chip) (g : Nat) :
    c.Step [.seq, .hif] (c.disableRing g) :=
  Chip.Within.step (by simp [Chip.disableRing])
@[simp] theorem Chip.voidReads_step (c : Chip) :
    c.Step [.queues, .eps, .hif] c.voidReads :=
  Chip.Within.step (by simp [Chip.voidReads])
@[simp] theorem Chip.resetHif_step (c : Chip) :
    c.Step [.queues, .eps, .seq, .hif] c.resetHif :=
  Chip.Within.step (by simp [Chip.resetHif])
@[simp] theorem Chip.takeBank_step (c : Chip) (b : Nat) (slot : List Nat) :
    c.Step [.stew] (c.takeBank b slot) :=
  Chip.Within.step (by simp [Chip.takeBank])
@[simp] theorem Chip.takeGrant_step (c : Chip) (g x b : Nat) :
    c.Step [.stew, .hif] (c.takeGrant g x b) :=
  Chip.Within.step (by simp [Chip.takeGrant])
@[simp] theorem Chip.readFrame_step (c : Chip) (r : MeterRing) (node : Nat) :
    c.Step [.stew, .hif] (c.readFrame r node) :=
  Chip.Within.step (by
    unfold Chip.readFrame
    repeat' split
    all_goals simp)
@[simp] theorem Chip.takeCap_step (c : Chip) :
    c.Step [.stew] c.takeCap :=
  Chip.Within.step (by simp [Chip.takeCap])
@[simp] theorem Chip.pushWindow_step (c : Chip) (v : Interval) :
    c.Step [.stew] (c.pushWindow v) :=
  Chip.Within.step (by simp [Chip.pushWindow])
@[simp] theorem Chip.capStep_step (c : Chip) (v : Interval) :
    c.Step [.regions, .stew, .hif] (c.capStep v) :=
  Chip.Within.step (by simp [Chip.capStep])
@[simp] theorem Chip.heatAll_step (c : Chip) :
    c.Step [.regions, .stew, .hif] c.heatAll :=
  Chip.Within.step (by simp [Chip.heatAll])
@[simp] theorem Chip.stir_step (c : Chip) (v : Interval) (capFill : Nat) :
    c.Step [.stew] (c.stir v capFill) :=
  Chip.Within.step (by simp [Chip.stir])
@[simp] theorem Chip.trip_step (c : Chip) (r pos : Nat) (cycles : List Nat) :
    c.Step [.gens, .regions, .tiles, .xng, .queues, .eps, .flying, .mem, .seq, .hif] (c.trip r pos cycles) :=
  Chip.Within.step (by simp [Chip.trip])
@[simp] theorem Chip.regClear_step (c : Chip) (r : Reg) (i : Nat) :
    c.Step [.time, .gens, .regions, .tiles, .xng, .eps, .links, .chans, .seq, .stew, .hif] (c.regClear r i) :=
  Chip.Within.step (by
    unfold Chip.regClear
    repeat' split
    all_goals simp)
@[simp] theorem Chip.stageA_step (c : Chip) (f : ClassA → ClassA) :
    c.Step [.img] (c.stageA f) :=
  Chip.Within.step (by simp [Chip.stageA])
@[simp] theorem Chip.stageB_step (c : Chip) (r : Nat) (f : ClassB → ClassB) :
    c.Step [.img] (c.stageB r f) :=
  Chip.Within.step (by simp [Chip.stageB])
@[simp] theorem Chip.regStore_step (c : Chip) (r : Reg) (i v : Nat) :
    c.Step [.time, .tiles, .chans, .seq, .stew, .img, .hif] (c.regStore r i v) := by
  refine Chip.Within.step ?_
  cases r
  case flashBuf =>
    refine Chip.Within.mono (ps := [.hif]) ?_ (by simp)
    exact Chip.within_of_hif (fun x hx => by cases x <;> simp_all [Chip.sameAt, Chip.regStore]) id id
      (Memory.wf_write _ _ _)
  all_goals simp [Chip.regStore]
@[simp] theorem Chip.dropDoorbell_step (c : Chip) :
    c.Step [.hif] c.dropDoorbell :=
  Chip.Within.step (by simp [Chip.dropDoorbell])
@[simp] theorem Chip.refuseFlash_step (c : Chip) (reason : Nat) :
    c.Step [.hif] (c.refuseFlash reason) :=
  Chip.Within.step (by simp [Chip.refuseFlash])
@[simp] theorem Chip.startFlash_step (c : Chip) (cmd : Nat) :
    c.Step [.hif] (c.startFlash cmd) :=
  Chip.Within.step (by simp [Chip.startFlash])
@[simp] theorem Chip.dropContribution_step (c : Chip) :
    c.Step [.hif] c.dropContribution :=
  Chip.Within.step (by simp [Chip.dropContribution])
@[simp] theorem Chip.badBar0_step (c : Chip) :
    c.Step [.hif] c.badBar0 :=
  Chip.Within.step (by simp [Chip.badBar0])
@[simp] theorem Hif.setLatches_log (h : Hif) (i2c : Bool) (b : Bank Nat) : (h.setLatches i2c b).log = h.log := by
  cases i2c <;> rfl
@[simp] theorem Hif.setLatches_inbox (h : Hif) (i2c : Bool) (b : Bank Nat) : (h.setLatches i2c b).inbox = h.inbox := by
  cases i2c <;> rfl
@[simp] theorem Hif.setLatches_flashBuf (h : Hif) (i2c : Bool) (b : Bank Nat) :
    (h.setLatches i2c b).flashBuf = h.flashBuf := by
  cases i2c <;> rfl
@[simp] theorem Chip.readWord_step (c : Chip) (i2c : Bool) (off : Nat) (p : RegPlace) :
    c.Step [.time, .gens, .regions, .tiles, .xng, .eps, .links, .chans, .seq, .stew, .hif] (c.readWord i2c off p).2 := by
  refine Chip.Within.step ?_
  simp only [Chip.readWord]
  split
  · simp
  · split
    · simp
    · split <;> simp
@[simp] theorem Chip.doMatrix_step (c : Chip) (r p : Nat) (d : List Nat) :
    c.Step [.tiles, .posns, .hif] (c.doMatrix r p d) := by
  refine Chip.Within.step ?_
  unfold Chip.doMatrix
  extract_lets t x m e
  split
  next as fl _ =>
  extract_lets e1 c1
  split
  · split
    next m1 fo hblock =>
    have hmem : c1.Within [.posns] (c1.onTileMem r p (fun _ => m1)) :=
      c1.onTileMem_within r p _ fun h => by
        have hm := Tile.writeBlock_wf (m := m) h x d as
        rwa [hblock] at hm
    have hc1 : c.Within [.tiles, .posns, .hif] c1 := by simp [c1]
    simpa using .inl (hc1.trans (hmem.mono (by simp)))
  · simp [c1]
@[simp] theorem Chip.endFences_step (c : Chip) (r p : Nat) :
    c.Step [.tiles, .eps] (c.endFences r p) :=
  Chip.Within.step (by simp [Chip.endFences])
@[simp] theorem Chip.remoteFails_step (c : Chip) (r p off : Nat) :
    c.Step [.tiles, .hif] (c.remoteFails r p off) :=
  Chip.Within.step (by simp [Chip.remoteFails])
@[simp] theorem Chip.takeLines_step (c : Chip) (r p : Nat) (dsts : List Nat) (data : List Byte) :
    c.Step [.posns] (c.takeLines r p dsts data) :=
  Chip.onTileMem_step _ _ _ _ (Memory.keeps_linesTaken _ _)
@[simp] theorem Chip.waitOutcome_step (c : Chip) (r p : Nat) (i : Issued) (tag outcome : Nat) :
    c.Step [.tiles, .hif] (c.waitOutcome r p i tag outcome) :=
  Chip.Within.step (by
    unfold Chip.waitOutcome
    repeat' split
    all_goals simp)
@[simp] theorem Chip.opRsp_step (c : Chip) (r p : Nat) (i : Issued) (m : Msg) :
    c.Step [.tiles, .posns, .eps, .hif] (c.opRsp r p i m) :=
  Chip.Within.step (by
    unfold Chip.opRsp
    repeat' split
    all_goals simp)
@[simp] theorem Chip.pumpRegion_step (c : Chip) (r : Nat) :
    c.Step [.tiles, .eps] (c.pumpRegion r) :=
  Chip.Within.step (by simp [Chip.pumpRegion])
@[simp] theorem Chip.regionRsp_step (c : Chip) (r : Nat) (m : Msg) :
    c.Step [.tiles, .posns, .eps, .hif] (c.regionRsp r m) :=
  Chip.Within.step (by
    unfold Chip.regionRsp
    repeat' split
    all_goals simp)
@[simp] theorem Chip.consume_step (c : Chip) (e : Nat) (m : Msg) :
    c.Step [.tiles, .posns, .eps, .stew, .hif] (c.consume e m) :=
  Chip.Within.step (by simp [Chip.consume])

end Sys2Proof.Machine
end

section
/-! SUPPORT. The reach of a command: the pieces of a chip, the chips, the tray and host memory that it may change. -/

namespace Sys2Proof.Machine

-- In order, not in parallel: every elaborator thread that waits for another holds a stack within the check's memory limit.
set_option Elab.async false

/-! ### What a command reaches -/

/-- What a command may change: the pieces of a chip, the chips, the tray, host memory. -/
structure Reach where
  pieces : List Piece
  chips : Nat → Bool
  tray : Bool
  host : Bool

/-- The reach of a command, by the model's own tables. -/
def reachOf (i : Instr) : Reach :=
  { pieces := piecesOf i, chips := mayChange i, tray := mayChangeTray i, host := writesHost i }

/-- The reach of a command of one chip. -/
def Reach.chip (k : Nat) (ps : List Piece) : Reach :=
  { pieces := ps, chips := fun n => n == k, tray := false, host := false }

/-- The memories of a tray are in their canonical form. -/
def Tray.Canonical (t : Tray) : Prop :=
  Memory.wf t.staging = true ∧ Memory.wf t.nvmA.image = true ∧ Memory.wf t.nvmB.image = true ∧
  Memory.wf t.imageBytes = true ∧ ∀ w, t.nvmWrite = some w → Memory.wf w.image = true

/-- Tray `u` comes of tray `t` by a change that keeps both invariants. -/
structure Tray.Keeps (t u : Tray) : Prop where
  canonical : t.Canonical → u.Canonical
  bounded : t.log.length ≤ 1024 → u.log.length ≤ 1024

theorem Tray.Keeps.refl (t : Tray) : t.Keeps t := ⟨id, id⟩
theorem Tray.Keeps.trans {t u v : Tray} (h : t.Keeps u) (g : u.Keeps v) : t.Keeps v :=
  ⟨fun c => g.canonical (h.canonical c), fun c => g.bounded (h.bounded c)⟩

/-- State `t` comes of state `s` by a change within the reach `F`, which keeps both invariants. -/
structure State.Within (F : Reach) (s t : State) : Prop where
  pending : t.pending = s.pending
  host : F.host = false → t.hostMem = s.hostMem
  hostCanonical : Memory.wf s.hostMem = true → Memory.wf t.hostMem = true
  tray : F.tray = false → t.tray = s.tray
  trayKeeps : s.tray.Keeps t.tray
  chips : ∀ n, F.chips n = false → t.chip n = s.chip n
  chip : ∀ n, (s.chip n).Within F.pieces (t.chip n)

theorem State.Within.refl (F : Reach) (s : State) : s.Within F s :=
  ⟨rfl, fun _ => rfl, id, fun _ => rfl, .refl _, fun _ _ => rfl, fun _ => .refl _ _⟩

theorem State.Within.trans {F : Reach} {s t u : State} (h : s.Within F t) (g : t.Within F u) : s.Within F u where
  pending := g.pending.trans h.pending
  host hf := (g.host hf).trans (h.host hf)
  hostCanonical hs := g.hostCanonical (h.hostCanonical hs)
  tray hf := (g.tray hf).trans (h.tray hf)
  trayKeeps := h.trayKeeps.trans g.trayKeeps
  chips n hn := (g.chips n hn).trans (h.chips n hn)
  chip n := (h.chip n).trans (g.chip n)

/-- The outcome is a next state within the reach. -/
def Reach.Covers (F : Reach) (s : State) (o : Out) : Prop := ∃ t, o = .next t ∧ s.Within F t

@[simp] theorem Reach.covers_next (F : Reach) (s t : State) : F.Covers s (.next t) ↔ s.Within F t := by
  simp [Reach.Covers]

@[simp] theorem Reach.covers_occurs (F : Reach) (s t : State) (b : Bool) :
    F.Covers s (occurs b s t) ↔ (b = true → s.Within F t) := by
  cases b <;> simp [occurs, State.Within.refl]

@[simp] theorem State.within_self (F : Reach) (s : State) : s.Within F s := .refl F s

@[simp] theorem State.within_ite {F : Reach} {s t u : State} (p : Prop) [Decidable p] :
    s.Within F (if p then t else u) ↔ (p → s.Within F t) ∧ (¬p → s.Within F u) := by
  by_cases p <;> simp [*]

/-- A chip is replaced by one within the reach. -/
theorem State.Within.setChip {F : Reach} {s t : State} (h : s.Within F t) {k : Nat} {c : Chip} (hk : F.chips k = true)
    (hc : (t.chip k).Within F.pieces c) : s.Within F (t.setChip k c) := by
  refine h.trans ⟨rfl, fun _ => rfl, id, fun _ => rfl, .refl _, fun n hn => ?_, fun n => ?_⟩
  · rw [State.chip_setChip, if_neg]
    rintro rfl
    simp [hk] at hn
  · rw [State.chip_setChip]
    split
    case isTrue e => exact e ▸ hc
    case isFalse => exact .refl _ _

theorem State.Within.onChip {F : Reach} {s t : State} (h : s.Within F t) {k : Nat} {f : Chip → Chip} (hk : F.chips k = true)
    (hc : (t.chip k).Within F.pieces (f (t.chip k))) : s.Within F (t.onChip k f) :=
  h.setChip hk hc

@[simp] theorem State.within_setChip_self (s : State) (k : Nat) (ps : List Piece) (c : Chip) :
    s.Within (.chip k ps) (s.setChip k c) ↔ (s.chip k).Within ps c :=
  ⟨fun h => by simpa [Reach.chip] using h.chip k, fun h => (State.Within.refl _ s).setChip (by simp [Reach.chip]) h⟩

@[simp] theorem State.within_onChip_self (s : State) (k : Nat) (ps : List Piece) (f : Chip → Chip) :
    s.Within (.chip k ps) (s.onChip k f) ↔ (s.chip k).Within ps (f (s.chip k)) :=
  State.within_setChip_self s k ps _

end Sys2Proof.Machine
end

section
/-! SUPPORT. The reach of each command that acts on one chip alone. -/

namespace Sys2Proof.Machine

-- In order, not in parallel: every elaborator thread that waits for another holds a stack within the check's memory limit.
set_option Elab.async false

theorem Reach.covers_chip_fresh {k : Nat} {ps : List Piece} {s : State} {c : Chip} (b : Bool) (n : Nat)
    (h : b = true → (s.chip k).Within ps c) :
    (Reach.chip k ps).Covers s (occurs b s { s.setChip k c with fresh := n }) := by
  refine (Reach.covers_occurs _ _ _ _).2 fun hb => ?_
  obtain ⟨h1, h2, h3, h4, h5, h6, h7⟩ := (State.within_setChip_self s k ps c).2 (h hb)
  exact ⟨h1, h2, h3, h4, h5, h6, h7⟩

@[simp] theorem vectorStep_reach (k : ChipId) (r : RegionId) (p : TileId) (code : Nat) (f : Tile → List Nat → List Nat)
    (s : State) : (Reach.chip k [.tiles, .hif]).Covers s (vectorStep k r p code f s) := by
  simp [vectorStep]
@[simp] theorem setaStep_reach (k : ChipId) (r : RegionId) (p : TileId) (code : Nat) (f : Tile → List Nat → Nat)
    (s : State) : (Reach.chip k [.tiles, .hif]).Covers s (setaStep k r p code f s) := by
  simp [setaStep]
@[simp] theorem selectIn_reach (k : ChipId) (r : RegionId) (p : TileId) (colander : Bool) (s : State) :
    (Reach.chip k [.tiles, .hif]).Covers s (selectIn k r p colander s) := by
  simp [selectIn]
@[simp] theorem signalWith_reach (k : ChipId) (r : RegionId) (p : TileId) (set_ : Bool) (s : State) :
    (Reach.chip k [.tiles, .eps, .hif]).Covers s (signalWith k r p set_ s) := by
  simp [signalWith]
@[simp] theorem tableMove_reach (k : ChipId) (r : RegionId) (p : TileId) (op : Nat) (gather : Bool) (s : State) :
    (Reach.chip k [.tiles, .posns, .eps, .hif]).Covers s (tableMove k r p op gather s) :=
  Reach.covers_chip_fresh _ _ fun _ => by simp
@[simp] theorem ringCommand_reach (k : ChipId) (g : RingId) (op n : Nat) (s : State) {ps : List Piece}
    {f : Chip → List Byte → Chip} (hf : ∀ (c : Chip) bs, c.Within ps (f c bs)) :
    (Reach.chip k ps).Covers s (ringCommand k g op n s f) := by
  simp only [ringCommand]
  split <;> simp [hf]
@[simp] theorem armOf_reach (k : ChipId) (g : RingId) (predict : Bool) (s : State) :
    (Reach.chip k [.mem, .seq, .hif]).Covers s (armOf k g predict s) := by
  simp only [armOf]
  split <;> simp
@[simp] theorem counterOp_reach (k : ChipId) (g : RingId) (opc : Nat) (s : State) (woken : Chip → List Byte → List Nat)
    {ps : List Piece} {f : Chip → List Byte → Chip} (hf : ∀ (c : Chip) bs, c.Within ps (f c bs)) :
    (Reach.chip k ps).Covers s (counterOp k g opc s woken f) := by
  simp only [counterOp]
  split <;> simp [hf]

theorem Channel.room_of_popsWr {x : Channel} (h : x.popsWr = true) : x.store.length < 128 := by
  simp only [Channel.popsWr, Channel.hasRoom, Bool.and_eq_true, decide_eq_true_eq] at h
  exact h.1
theorem Channel.room_of_popsReq {x : Channel} (h : x.popsReq = true) : x.store.length < 128 := by
  simp only [Channel.popsReq, Channel.hasRoom, Bool.and_eq_true, decide_eq_true_eq] at h
  exact h.1
@[simp] theorem Chip.dropWr_chan (c : Chip) (e h : Nat) : (c.dropWr e).chan h = c.chan h := by
  simp [Chip.dropWr]
theorem Chip.enter_within (c : Chip) (h : Nat) (g : Group) (hroom : (c.chan h).store.length < 128) :
    c.Within [.chans] (c.onChan h (fun x => x.enter g)) :=
  Chip.setChan_within (fun _ => by simpa [Channel.enter] using hroom) id
@[simp] theorem Chip.withdraw_step (c : Chip) (h req tag : Nat) (x : Channel) (hs : x.store = (c.chan h).store)
    (hl : x.shelf = (c.chan h).shelf) : c.Step [.chans] (c.setChan h (x.withdraw req tag)) := by
  refine Chip.Within.step (Chip.setChan_within (fun h => ?_) (fun h => ?_))
  · rw [← hs] at h
    unfold Channel.withdraw
    split
    · exact h
    · exact (List.length_filter_le _ _).trans h
  · rw [← hl] at h
    unfold Channel.withdraw
    split
    · exact h
    · exact (List.length_filter_le _ _).trans h
theorem Chip.Within.tickDue {ps : List Piece} {b c : Chip} (h : b.Within ps c) (hp : [.tickDue] ⊆ ps) (due : Bool) :
    b.Within ps { c with tickDue := due } :=
  (Chip.step_of_piece .tickDue (by simp) (fun x hx => by cases x <;> simp_all [Chip.sameAt]) hp).2 (.inl h)
theorem Bank.get_mapCells_wf {f : Nat → Position → Position} (b : Bank Position) (k : Nat)
    (hf : ∀ k x, Memory.wf (f k x).mem = true) : Memory.wf ((b.mapCells f).get {} k).mem = true := by
  simp only [Bank.get, Bank.look_mapCells]
  cases Bank.look b.cells k with
  | none => rfl
  | some x => exact hf k x
theorem Chip.readBar0_some_within {c : Chip} {x : Nat × Chip} (i2c wide : Bool) (off : Nat)
    (h : c.readBar0 i2c wide off = some x) :
    c.Within [.time, .gens, .regions, .tiles, .xng, .eps, .links, .chans, .seq, .stew, .hif] x.2 := by
  revert x
  simp only [Chip.readBar0]
  repeat' split
  all_goals simp
theorem Chip.readBar0_within (c : Chip) (i2c wide : Bool) (off : Nat) :
    c.Within [.time, .gens, .regions, .tiles, .xng, .eps, .links, .chans, .seq, .stew, .hif]
      ((c.readBar0 i2c wide off).getD (0, c.badBar0)).2 := by
  cases h : c.readBar0 i2c wide off with
  | none => simp
  | some x => simpa using Chip.readBar0_some_within i2c wide off h
theorem Chip.takeP2p_within (c : Chip) (data : List Byte) : c.Within [.hif]
    (c.onHif (fun h => if h.p2pIn.head? = some data then { h with p2pIn := h.p2pIn.tail } else h)) :=
  Chip.Step.within (Chip.onHif_step c _ (by split <;> rfl) (by split <;> rfl) (by split <;> rfl))
theorem Chip.putInbox_within {c : Chip} (data : List Byte) (hroom : c.hif.inbox.length < 64) :
    c.Within [.hif] (c.onHif (fun h => { h with inbox := h.inbox ++ [{ bytes := data }] })) := by
  refine Chip.within_of_hif (fun x hx => by cases x <;> simp_all [Chip.sameAt]) id (fun _ => ?_) id
  simp only [Chip.onHif, List.length_append, List.length_singleton]
  omega
theorem Chip.flashRead_within (c : Chip) (l : List Host.Cell) :
    c.Within [.hif] (c.onHif (fun h => { h with flashBuf := Memory.ofCells l })) :=
  Chip.within_of_hif (fun x hx => by cases x <;> simp_all [Chip.sameAt]) id id (fun _ => Memory.wf_ofCells l)
theorem Chip.countAux_step (c : Chip) (i n : Nat) : c.Step [.stew] (c.countAux i n) :=
  Chip.Within.step (by simp)
theorem Chip.cause_step (c : Chip) (v : Nat) : c.Step [.hif] (c.cause v) :=
  Chip.Within.step (by simp)
theorem execStartPhaseAdvance_reach (k : ChipId) (s : State) :
    (Reach.chip k [.power, .time, .clk, .tickDue, .gens, .regions, .tiles, .posns, .xng, .queues, .eps, .flying, .links, .mem, .chans, .seq, .stew, .bru, .img, .hif, .dissolves]).Covers s (execStartPhaseAdvance k s) := by
  simp only [execStartPhaseAdvance]
  repeat' split
  all_goals simp
theorem execSelftestComplete_reach (k : ChipId) (fails : List PosFail) (s : State) :
    (Reach.chip k [.regions, .tiles, .posns, .mem, .seq, .bru, .img, .hif]).Covers s (execSelftestComplete k fails s) := by
  simp only [execSelftestComplete, Reach.covers_occurs, State.within_setChip_self]
  intro _
  refine (Chip.onBru_step _ _ (by simp)).2 (.inl (Chip.Within.foldl ?_ (fun c f => by simp) _))
  refine .of_fields (fun x hx => by cases x <;> simp_all [Chip.sameAt]) id id id (fun i q _ => ?_) id id (fun _ => id)
    (fun _ => id)
  simp only [Chip.posn]
  refine Bank.get_mapCells_wf _ _ ?_
  exact fun _ _ => rfl
theorem execChannelTrainingFail_reach (k : ChipId) (h : ChanId) (s : State) :
    (Reach.chip k [.chans, .bru, .hif]).Covers s (execChannelTrainingFail k h s) := by simp [execChannelTrainingFail]
theorem execReadyPoint_reach (k : ChipId) (s : State) :
    (Reach.chip k [.regions, .bru, .hif]).Covers s (execReadyPoint k s) := by simp [execReadyPoint]
theorem execStartTimeout_reach (k : ChipId) (s : State) :
    (Reach.chip k [.bru, .hif]).Covers s (execStartTimeout k s) := by simp [execStartTimeout]
theorem execRestart_reach (k : ChipId) (i2c : Bool) (s : State) :
    (Reach.chip k [.power, .time, .clk, .tickDue, .gens, .regions, .tiles, .posns, .xng, .queues, .eps, .flying, .links, .mem, .chans, .seq, .stew, .bru, .img, .hif, .dissolves]).Covers s (execRestart k i2c s) := by simp [execRestart]
theorem execFrameTick_reach (k : ChipId) (s : State) :
    (Reach.chip k [.tickDue, .regions, .tiles, .mem, .chans, .seq, .stew, .img]).Covers s (execFrameTick k s) := by
  simp only [execFrameTick, Reach.covers_occurs, State.within_setChip_self]
  exact fun _ => Chip.Within.tickDue (by simp) (by simp) _
theorem execEpochLoadArm_reach (k : ChipId) (v : Word) (s : State) :
    (Reach.chip k [.time, .hif]).Covers s (execEpochLoadArm k v s) := by
  simp only [execEpochLoadArm, Reach.covers_occurs, State.within_setChip_self]
  intro _
  split
  · exact (Chip.faultIf_step _ _ _ _ _ (by simp)).2 (.inl ((Chip.within_self _ _).time (by simp) _))
  · exact (Chip.within_self _ _).time (by simp) _
theorem execRefSwitch_reach (k : ChipId) (s : State) :
    (Reach.chip k [.clk]).Covers s (execRefSwitch k s) := by simp [execRefSwitch]
theorem execReferenceInvalid_reach (k : ChipId) (line : Side) (ns : Nat) (duty : List Nat) (s : State) :
    (Reach.chip k [.clk, .hif]).Covers s (execReferenceInvalid k line ns duty s) := by simp [execReferenceInvalid]
theorem execFreqWindowEnd_reach (k : ChipId) (line : Side) (ppm : Int) (s : State) :
    (Reach.chip k [.clk]).Covers s (execFreqWindowEnd k line ppm s) := by simp [execFreqWindowEnd]
theorem execReferenceQualified_reach (k : ChipId) (line : Side) (s : State) :
    (Reach.chip k [.clk, .hif]).Covers s (execReferenceQualified k line s) := by
  simp only [execReferenceQualified]
  repeat' split
  all_goals simp
theorem execFreqHoldEnd_reach (k : ChipId) (s : State) :
    (Reach.chip k [.time, .clk, .gens, .regions, .hif]).Covers s (execFreqHoldEnd k s) := by simp [execFreqHoldEnd]
theorem execRefPllLocked_reach (k : ChipId) (s : State) :
    (Reach.chip k [.clk]).Covers s (execRefPllLocked k s) := by simp [execRefPllLocked]
theorem execHoldoverExit_reach (k : ChipId) (s : State) :
    (Reach.chip k [.time, .clk, .gens, .hif]).Covers s (execHoldoverExit k s) := by simp [execHoldoverExit]
theorem execHoldoverTimeout_reach (k : ChipId) (s : State) :
    (Reach.chip k [.time, .clk, .hif]).Covers s (execHoldoverTimeout k s) := by simp [execHoldoverTimeout]
theorem execNoReferenceTimeout_reach (k : ChipId) (s : State) :
    (Reach.chip k [.clk, .hif]).Covers s (execNoReferenceTimeout k s) := by simp [execNoReferenceTimeout]
theorem execGuardCalibrate_reach (k : ChipId) (s : State) :
    (Reach.chip k [.clk, .gens]).Covers s (execGuardCalibrate k s) := by simp [execGuardCalibrate]
theorem execGeneratorStart_reach (k : ChipId) (r : RegionId) (s : State) :
    (Reach.chip k [.gens]).Covers s (execGeneratorStart k r s) := by simp [execGeneratorStart]
theorem execCalComplete_reach (k : ChipId) (r : RegionId) (s : State) :
    (Reach.chip k [.gens, .regions]).Covers s (execCalComplete k r s) := by simp [execCalComplete]
theorem execGeneratorLocked_reach (k : ChipId) (r : RegionId) (s : State) :
    (Reach.chip k [.gens, .regions]).Covers s (execGeneratorLocked k r s) := by simp [execGeneratorLocked]
theorem execLockLost_reach (k : ChipId) (r : RegionId) (s : State) :
    (Reach.chip k [.gens, .hif]).Covers s (execLockLost k r s) := by simp [execLockLost]
theorem execStretchEvent_reach (k : ChipId) (r : RegionId) (fs : Nat) (s : State) :
    (Reach.chip k [.gens]).Covers s (execStretchEvent k r fs s) := by simp [execStretchEvent]
theorem execGeneratorJitterFault_reach (k : ChipId) (r : RegionId) (duty changes : List Nat) (s : State) :
    (Reach.chip k [.hif]).Covers s (execGeneratorJitterFault k r duty changes s) := by simp [execGeneratorJitterFault]
theorem execStepVoltageRaise_reach (k : ChipId) (s : State) :
    (Reach.chip k [.clk, .stew]).Covers s (execStepVoltageRaise k s) := by simp [execStepVoltageRaise]
theorem execStepSlewStart_reach (k : ChipId) (s : State) :
    (Reach.chip k [.clk, .gens]).Covers s (execStepSlewStart k s) := by simp [execStepSlewStart]
theorem execStepSubstep_reach (k : ChipId) (j : Nat) (s : State) :
    (Reach.chip k [.clk, .gens]).Covers s (execStepSubstep k j s) := by simp [execStepSubstep]
theorem execStepSlewEnd_reach (k : ChipId) (s : State) :
    (Reach.chip k [.clk, .gens, .regions, .stew]).Covers s (execStepSlewEnd k s) := by simp [execStepSlewEnd]
theorem execStepLowerDone_reach (k : ChipId) (s : State) :
    (Reach.chip k [.clk]).Covers s (execStepLowerDone k s) := by simp [execStepLowerDone]
theorem execStepCancelSettled_reach (k : ChipId) (s : State) :
    (Reach.chip k [.clk]).Covers s (execStepCancelSettled k s) := by simp [execStepCancelSettled]
theorem execGangSkewFault_reach (k : ChipId) (r : RegionId) (ps cycles : Nat) (s : State) :
    (Reach.chip k [.gens, .regions, .tiles, .mem, .seq, .hif, .dissolves]).Covers s (execGangSkewFault k r ps cycles s) := by simp [execGangSkewFault]
theorem execGangSkewHalt_reach (k : ChipId) (r : RegionId) (ps pos : Nat) (cycles : List Nat) (s : State) :
    (Reach.chip k [.gens, .regions]).Covers s (execGangSkewHalt k r ps pos cycles s) := by simp [execGangSkewHalt]
theorem execGangMemberDeskewed_reach (k : ChipId) (r : RegionId) (ps steps : Int) (s : State) :
    (Reach.chip k [.gens, .regions]).Covers s (execGangMemberDeskewed k r ps steps s) := by simp [execGangMemberDeskewed]
theorem execGangDissolveApply_reach (k : ChipId) (m : RegionId) (s : State) :
    (Reach.chip k [.gens, .regions, .tiles, .xng, .queues, .eps, .flying, .mem, .seq, .img, .hif, .dissolves]).Covers s (execGangDissolveApply k m s) := by
  simp only [execGangDissolveApply]
  repeat' split
  all_goals simp
theorem execGangDissolveTimeout_reach (k : ChipId) (m : RegionId) (s : State) :
    (Reach.chip k [.tiles, .mem, .seq, .hif, .dissolves]).Covers s (execGangDissolveTimeout k m s) := by
  simp only [execGangDissolveTimeout]
  split
  · simp
  next d _ =>
    have hfold : ∀ c : Chip, c.Within [.tiles, .mem, .seq, .hif, .dissolves]
        (d.members.foldl (fun c r => if c.clockRuns r then c.returnQueued r else c.abortRegion r) c) := fun c =>
      (Chip.within_self _ c).foldl (fun c r => by simp) _
    simp only [Reach.covers_occurs, State.within_setChip_self]
    exact fun _ => (hfold _).dissolves (by simp) _
theorem execTileFailed_reach (k : ChipId) (r : RegionId) (q : PosId) (s : State) :
    (Reach.chip k [.regions, .tiles, .mem, .seq, .img, .hif, .dissolves]).Covers s (execTileFailed k r q s) := by simp [execTileFailed]
theorem execMemoryUe_reach (k : ChipId) (r : RegionId) (p : TileId) (off : Nat) (reader : LineReader) (rewriteOk residue : Bool) (s : State) :
    (Reach.chip k [.regions, .tiles, .posns, .eps, .mem, .seq, .img, .hif, .dissolves]).Covers s (execMemoryUe k r p off reader rewriteOk residue s) := by
  simp only [execMemoryUe]
  cases residue
  · simp
  · exact Reach.covers_chip_fresh _ _ fun _ => by simp
theorem execResidueError_reach (k : ChipId) (r : RegionId) (p : TileId) (s : State) :
    (Reach.chip k [.regions, .tiles, .posns, .mem, .seq, .img, .hif, .dissolves]).Covers s (execResidueError k r p s) := by simp [execResidueError]
theorem execSequencerHang_reach (k : ChipId) (r : RegionId) (p : TileId) (s : State) :
    (Reach.chip k [.regions, .tiles, .mem, .seq, .img, .hif, .dissolves]).Covers s (execSequencerHang k r p s) := by simp [execSequencerHang]
theorem execScrubLine_reach (k : ChipId) (r : RegionId) (p : TileId) (corrected : Nat) (s : State) :
    (Reach.chip k [.tiles]).Covers s (execScrubLine k r p corrected s) := by simp [execScrubLine]
theorem execCeRateFault_reach (k : ChipId) (r : RegionId) (p : TileId) (s : State) :
    (Reach.chip k [.tiles, .hif]).Covers s (execCeRateFault k r p s) := by simp [execCeRateFault]
theorem execXngCalibration_reach (k : ChipId) (trips : List Nat) (s : State) :
    (Reach.chip k [.xng, .links]).Covers s (execXngCalibration k trips s) := by simp [execXngCalibration]
theorem execXngCalibrationDone_reach (k : ChipId) (s : State) :
    (Reach.chip k [.xng, .hif]).Covers s (execXngCalibrationDone k s) := by simp [execXngCalibrationDone]
theorem execXngCalibrationTimeout_reach (k : ChipId) (s : State) :
    (Reach.chip k [.xng, .hif]).Covers s (execXngCalibrationTimeout k s) := by simp [execXngCalibrationTimeout]
theorem execQueuePush_reach (k : ChipId) (q : QueueId) (seen : Nat) (at_ : Moment) (s : State) :
    (Reach.chip k [.time, .regions, .tiles, .xng, .queues, .eps, .flying, .links, .stew, .hif]).Covers s (execQueuePush k q seen at_ s) := by simp [execQueuePush]
theorem execQueuePop_reach (k : ChipId) (q : QueueId) (seen : Nat) (at_ : Moment) (s : State) :
    (Reach.chip k [.time, .xng, .queues, .eps, .flying, .stew]).Covers s (execQueuePop k q seen at_ s) := by
  simp only [execQueuePop]
  repeat' split
  all_goals simp
theorem execFixedItemRelease_reach (k : ChipId) (r : RegionId) (lane : Lane) (src : EpId) (seen : Nat) (at_ : Moment) (s : State) :
    (Reach.chip k [.time, .regions, .xng, .queues, .eps, .hif]).Covers s (execFixedItemRelease k r lane src seen at_ s) := by
  simp only [execFixedItemRelease]
  repeat' split
  all_goals simp
theorem execRegionIsolate_reach (k : ChipId) (r : RegionId) (s : State) :
    (Reach.chip k [.regions, .tiles, .xng, .queues, .eps, .flying, .mem, .seq, .hif]).Covers s (execRegionIsolate k r s) := by simp [execRegionIsolate]
theorem execIsolationSinkAccept_reach (k : ChipId) (r : RegionId) (lane : Lane) (s : State) :
    (Reach.chip k [.regions, .queues, .eps, .flying, .links, .stew]).Covers s (execIsolationSinkAccept k r lane s) := by
  simp only [execIsolationSinkAccept]
  repeat' split
  all_goals simp
theorem execQueueReset_reach (k : ChipId) (q : QueueId) (writer : Bool) (s : State) :
    (Reach.chip k [.regions, .tiles, .xng, .queues, .eps, .flying]).Covers s (execQueueReset k q writer s) := by simp [execQueueReset]
theorem execQueueRipSeen_reach (k : ChipId) (q : QueueId) (writer : Bool) (s : State) :
    (Reach.chip k [.regions, .tiles, .xng, .queues, .eps, .flying]).Covers s (execQueueRipSeen k q writer s) := by simp [execQueueRipSeen]
theorem execQueueAckSeen_reach (k : ChipId) (q : QueueId) (writer : Bool) (s : State) :
    (Reach.chip k [.queues]).Covers s (execQueueAckSeen k q writer s) := by simp [execQueueAckSeen]
theorem execHandshakeTimeout_reach (k : ChipId) (q : QueueId) (s : State) :
    (Reach.chip k [.regions, .tiles, .xng, .queues, .eps, .flying, .hif]).Covers s (execHandshakeTimeout k q s) := by simp [execHandshakeTimeout]
theorem execIsolationEnd_reach (k : ChipId) (r : RegionId) (s : State) :
    (Reach.chip k [.regions, .seq, .hif]).Covers s (execIsolationEnd k r s) := by simp [execIsolationEnd]
theorem execSpineStartCheck_reach (k : ChipId) (back : List Bool) (s : State) :
    (Reach.chip k [.xng, .links, .bru, .hif]).Covers s (execSpineStartCheck k back s) := by simp [execSpineStartCheck]
theorem execMessageInject_reach (k : ChipId) (m : Msg) (at_ : Moment) (s : State) :
    (Reach.chip k [.time, .regions, .tiles, .xng, .queues, .eps, .hif]).Covers s (execMessageInject k m at_ s) := by simp [execMessageInject]
theorem execRouterForward_reach (k : ChipId) (r : RegionId) (d : OutPort) (s : State) :
    (Reach.chip k [.regions, .queues, .eps, .flying, .links, .stew]).Covers s (execRouterForward k r d s) := by
  simp only [execRouterForward]
  repeat' split
  all_goals simp
theorem execRspArrive_reach (k : ChipId) (e : EpId) (s : State) :
    (Reach.chip k [.tiles, .posns, .eps, .stew, .hif]).Covers s (execRspArrive k e s) := by
  simp only [execRspArrive]
  repeat' split
  all_goals simp
theorem execRspTimeout_reach (k : ChipId) (e : EpId) (tag : Nat) (s : State) :
    (Reach.chip k [.tiles, .posns, .eps, .stew, .hif]).Covers s (execRspTimeout k e tag s) := by
  simp only [execRspTimeout]
  repeat' split
  all_goals simp
theorem execWseqResync_reach (k : ChipId) (e : EpId) (s : State) :
    (Reach.chip k [.eps, .hif]).Covers s (execWseqResync k e s) := by
  simp only [execWseqResync]
  repeat' split
  all_goals simp
theorem execFlitUncorrectable_reach (k : ChipId) (r : RegionId) (d : OutPort) (s : State) :
    (Reach.chip k [.regions, .queues, .eps, .flying, .links, .stew, .hif]).Covers s (execFlitUncorrectable k r d s) := by
  simp only [execFlitUncorrectable]
  repeat' split
  all_goals simp
theorem execLaneStallTimeout_reach (k : ChipId) (r : RegionId) (d : OutPort) (lane : Lane) (s : State) :
    (Reach.chip k [.links, .hif]).Covers s (execLaneStallTimeout k r d lane s) := by simp [execLaneStallTimeout]
theorem execLinkCeRate_reach (k : ChipId) (r : RegionId) (d : OutPort) (n : Nat) (s : State) :
    (Reach.chip k [.links, .hif]).Covers s (execLinkCeRate k r d n s) := by simp [execLinkCeRate]
theorem execCommit_reach (k : ChipId) (s : State) :
    (Reach.chip k [.clk, .img, .hif]).Covers s (execCommit k s) := by
  simp only [execCommit]
  repeat' split
  all_goals simp
theorem execCommitCancel_reach (k : ChipId) (s : State) :
    (Reach.chip k [.clk, .stew, .img, .hif]).Covers s (execCommitCancel k s) := by simp [execCommitCancel]
theorem execStage_reach (k : ChipId) (s : State) :
    (Reach.chip k [.img, .hif]).Covers s (execStage k s) := by simp [execStage]
theorem execStageComplete_reach (k : ChipId) (s : State) :
    (Reach.chip k [.img, .hif]).Covers s (execStageComplete k s) := by simp [execStageComplete]
theorem execAbandon_reach (k : ChipId) (s : State) :
    (Reach.chip k [.img]).Covers s (execAbandon k s) := by simp [execAbandon]
theorem execCommitApply_reach (k : ChipId) (programOk : Bool) (s : State) :
    (Reach.chip k [.chans, .seq, .bru, .img, .hif, .flash]).Covers s (execCommitApply k programOk s) := by simp [execCommitApply]
theorem execRollStepStart_reach (k : ChipId) (s : State) :
    (Reach.chip k [.regions, .img, .hif]).Covers s (execRollStepStart k s) := by
  simp only [execRollStepStart]
  repeat' split
  all_goals simp
theorem execRollStepApply_reach (k : ChipId) (copyUe : Bool) (s : State) :
    (Reach.chip k [.gens, .regions, .tiles, .posns, .xng, .queues, .eps, .flying, .seq, .img, .hif]).Covers s (execRollStepApply k copyUe s) := by
  simp only [execRollStepApply]
  repeat' split
  all_goals simp
theorem execRollForcedDrain_reach (k : ChipId) (s : State) :
    (Reach.chip k [.tiles, .mem, .seq, .img, .hif]).Covers s (execRollForcedDrain k s) := by
  simp only [execRollForcedDrain]
  repeat' split
  all_goals simp
theorem execRollSingleTimeout_reach (k : ChipId) (s : State) :
    (Reach.chip k [.regions, .img, .hif]).Covers s (execRollSingleTimeout k s) := by
  simp only [execRollSingleTimeout]
  repeat' split
  all_goals simp
theorem execRollStepEnd_reach (k : ChipId) (s : State) :
    (Reach.chip k [.regions, .img, .hif]).Covers s (execRollStepEnd k s) := by simp [execRollStepEnd]
theorem execTileWrite_reach (k : ChipId) (r : RegionId) (s : State) :
    (Reach.chip k [.regions, .posns, .eps, .hif]).Covers s (execTileWrite k r s) := by
  simp only [execTileWrite]
  repeat' split
  all_goals simp
theorem execTileRead_reach (k : ChipId) (r : RegionId) (s : State) :
    (Reach.chip k [.regions, .eps, .hif]).Covers s (execTileRead k r s) := by
  simp only [execTileRead]
  repeat' split
  all_goals simp
theorem execStart_reach (k : ChipId) (r : RegionId) (s : State) :
    (Reach.chip k [.tiles, .eps, .seq, .stew]).Covers s (execStart k r s) := by
  simp only [execStart]
  split
  · simp
  · simp only [Reach.covers_occurs, State.within_setChip_self]
    intro _
    split
    · simp
    · refine Chip.Within.foldl (by simp) (fun c p => ?_) _
      split <;> simp
theorem execMatrix_reach (k : ChipId) (r : RegionId) (p : TileId) (s : State) :
    (Reach.chip k [.tiles, .posns, .hif]).Covers s (execMatrix k r p s) := by simp [execMatrix]
theorem execPrescan_reach (k : ChipId) (r : RegionId) (p : TileId) (s : State) :
    (Reach.chip k [.tiles, .hif]).Covers s (execPrescan k r p s) := by simp [execPrescan]
theorem execConvert_reach (k : ChipId) (r : RegionId) (p : TileId) (s : State) :
    (Reach.chip k [.tiles, .posns, .hif]).Covers s (execConvert k r p s) := by
  simp only [execConvert]
  refine Reach.covers_chip_fresh _ _ fun _ => ?_
  refine (Chip.issueOp_within r p _ _ (by simp) ?_).2 (.inl (.refl _ _))
  refine (Chip.setTile_step _ _ _ (by simp)).2 (.inl ((Chip.raiseFlags_step _ _ _ _ (by simp)).2 (.inl ?_)))
  exact ((s.chip k).onTileMem_within r p _ fun h => convertRun_wf h _ _ _ _ _ _ _).mono (by simp)
theorem execMove_reach (k : ChipId) (r : RegionId) (p : TileId) (s : State) :
    (Reach.chip k [.tiles, .posns, .eps, .hif]).Covers s (execMove k r p s) := by
  exact Reach.covers_chip_fresh _ _ fun _ => by simp
theorem execGather_reach (k : ChipId) (r : RegionId) (p : TileId) (s : State) :
    (Reach.chip k [.tiles, .posns, .eps, .hif]).Covers s (execGather k r p s) := by simp [execGather]
theorem execScatter_reach (k : ChipId) (r : RegionId) (p : TileId) (s : State) :
    (Reach.chip k [.tiles, .posns, .eps, .hif]).Covers s (execScatter k r p s) := by simp [execScatter]
theorem execSelectSkewer_reach (k : ChipId) (r : RegionId) (p : TileId) (s : State) :
    (Reach.chip k [.tiles, .hif]).Covers s (execSelectSkewer k r p s) := by simp [execSelectSkewer]
theorem execSelectColander_reach (k : ChipId) (r : RegionId) (p : TileId) (s : State) :
    (Reach.chip k [.tiles, .hif]).Covers s (execSelectColander k r p s) := by simp [execSelectColander]
theorem execCollectiveArm_reach (k : ChipId) (r : RegionId) (p : TileId) (s : State) :
    (Reach.chip k [.tiles, .posns, .hif]).Covers s (execCollectiveArm k r p s) := by simp [execCollectiveArm]
theorem execCollectiveSend_reach (k : ChipId) (r : RegionId) (p : TileId) (s : State) :
    (Reach.chip k [.tiles, .eps, .hif]).Covers s (execCollectiveSend k r p s) := by simp [execCollectiveSend]
theorem execCollectiveWait_reach (k : ChipId) (r : RegionId) (p : TileId) (s : State) :
    (Reach.chip k [.tiles, .hif]).Covers s (execCollectiveWait k r p s) := by simp [execCollectiveWait]
theorem execCollectiveDisarm_reach (k : ChipId) (r : RegionId) (p : TileId) (s : State) :
    (Reach.chip k [.tiles, .hif]).Covers s (execCollectiveDisarm k r p s) := by simp [execCollectiveDisarm]
theorem execCollectiveTimeout_reach (k : ChipId) (r : RegionId) (p : TileId) (s : State) :
    (Reach.chip k [.tiles, .hif]).Covers s (execCollectiveTimeout k r p s) := by
  simp only [execCollectiveTimeout]
  repeat' split
  all_goals simp
theorem execCollect_reach (k : ChipId) (r : RegionId) (s : State) :
    (Reach.chip k [.regions, .tiles, .posns, .eps, .hif]).Covers s (execCollect k r s) := by
  simp only [execCollect]
  repeat' split
  all_goals simp
theorem execCollectResend_reach (k : ChipId) (r : RegionId) (p : TileId) (s : State) :
    (Reach.chip k [.tiles, .eps]).Covers s (execCollectResend k r p s) := by simp [execCollectResend]
theorem execSignalAdd_reach (k : ChipId) (r : RegionId) (p : TileId) (s : State) :
    (Reach.chip k [.tiles, .eps, .hif]).Covers s (execSignalAdd k r p s) := by simp [execSignalAdd]
theorem execSignalSet_reach (k : ChipId) (r : RegionId) (p : TileId) (s : State) :
    (Reach.chip k [.tiles, .eps, .hif]).Covers s (execSignalSet k r p s) := by simp [execSignalSet]
theorem execWait_reach (k : ChipId) (r : RegionId) (p : TileId) (s : State) :
    (Reach.chip k [.tiles, .eps, .hif]).Covers s (execWait k r p s) := by simp [execWait]
theorem execWaitRetry_reach (k : ChipId) (r : RegionId) (p : TileId) (s : State) :
    (Reach.chip k [.tiles, .eps]).Covers s (execWaitRetry k r p s) := by
  simp only [execWaitRetry]
  repeat' split
  all_goals simp
theorem execWaitReservationTimeout_reach (k : ChipId) (r : RegionId) (p : TileId) (s : State) :
    (Reach.chip k [.tiles, .eps, .hif]).Covers s (execWaitReservationTimeout k r p s) := by
  simp only [execWaitReservationTimeout]
  repeat' split
  all_goals simp
theorem execLoop_reach (k : ChipId) (r : RegionId) (p : TileId) (s : State) :
    (Reach.chip k [.tiles, .hif]).Covers s (execLoop k r p s) := by simp [execLoop]
theorem execCall_reach (k : ChipId) (r : RegionId) (p : TileId) (s : State) :
    (Reach.chip k [.tiles, .hif]).Covers s (execCall k r p s) := by simp [execCall]
theorem execRet_reach (k : ChipId) (r : RegionId) (p : TileId) (s : State) :
    (Reach.chip k [.tiles, .hif]).Covers s (execRet k r p s) := by simp [execRet]
theorem execFence_reach (k : ChipId) (r : RegionId) (p : TileId) (s : State) :
    (Reach.chip k [.tiles, .eps, .hif]).Covers s (execFence k r p s) := by simp [execFence]
theorem execFlush_reach (k : ChipId) (e : EpId) (s : State) :
    (Reach.chip k [.eps, .chans, .hif]).Covers s (execFlush k e s) := by
  simp only [execFlush]
  repeat' split
  all_goals simp
theorem execItemEnd_reach (k : ChipId) (r : RegionId) (p : TileId) (s : State) :
    (Reach.chip k [.tiles, .eps]).Covers s (execItemEnd k r p s) := by simp [execItemEnd]
theorem execLd_reach (k : ChipId) (r : RegionId) (p : TileId) (s : State) :
    (Reach.chip k [.tiles, .hif]).Covers s (execLd k r p s) := by simp [execLd]
theorem execSt_reach (k : ChipId) (r : RegionId) (p : TileId) (s : State) :
    (Reach.chip k [.tiles, .posns, .hif]).Covers s (execSt k r p s) := by simp [execSt]
theorem execIadd_reach (k : ChipId) (r : RegionId) (p : TileId) (s : State) :
    (Reach.chip k [.tiles, .hif]).Covers s (execIadd k r p s) := by simp [execIadd]
theorem execIsub_reach (k : ChipId) (r : RegionId) (p : TileId) (s : State) :
    (Reach.chip k [.tiles, .hif]).Covers s (execIsub k r p s) := by simp [execIsub]
theorem execImul_reach (k : ChipId) (r : RegionId) (p : TileId) (s : State) :
    (Reach.chip k [.tiles, .hif]).Covers s (execImul k r p s) := by simp [execImul]
theorem execImin_reach (k : ChipId) (r : RegionId) (p : TileId) (s : State) :
    (Reach.chip k [.tiles, .hif]).Covers s (execImin k r p s) := by simp [execImin]
theorem execImax_reach (k : ChipId) (r : RegionId) (p : TileId) (s : State) :
    (Reach.chip k [.tiles, .hif]).Covers s (execImax k r p s) := by simp [execImax]
theorem execAnd_reach (k : ChipId) (r : RegionId) (p : TileId) (s : State) :
    (Reach.chip k [.tiles, .hif]).Covers s (execAnd k r p s) := by simp [execAnd]
theorem execOr_reach (k : ChipId) (r : RegionId) (p : TileId) (s : State) :
    (Reach.chip k [.tiles, .hif]).Covers s (execOr k r p s) := by simp [execOr]
theorem execXor_reach (k : ChipId) (r : RegionId) (p : TileId) (s : State) :
    (Reach.chip k [.tiles, .hif]).Covers s (execXor k r p s) := by simp [execXor]
theorem execShl_reach (k : ChipId) (r : RegionId) (p : TileId) (s : State) :
    (Reach.chip k [.tiles, .hif]).Covers s (execShl k r p s) := by simp [execShl]
theorem execShr_reach (k : ChipId) (r : RegionId) (p : TileId) (s : State) :
    (Reach.chip k [.tiles, .hif]).Covers s (execShr k r p s) := by simp [execShr]
theorem execSar_reach (k : ChipId) (r : RegionId) (p : TileId) (s : State) :
    (Reach.chip k [.tiles, .hif]).Covers s (execSar k r p s) := by simp [execSar]
theorem execIcmplt_reach (k : ChipId) (r : RegionId) (p : TileId) (s : State) :
    (Reach.chip k [.tiles, .hif]).Covers s (execIcmplt k r p s) := by simp [execIcmplt]
theorem execFadd_reach (k : ChipId) (r : RegionId) (p : TileId) (s : State) :
    (Reach.chip k [.tiles, .hif]).Covers s (execFadd k r p s) := by simp [execFadd]
theorem execFsub_reach (k : ChipId) (r : RegionId) (p : TileId) (s : State) :
    (Reach.chip k [.tiles, .hif]).Covers s (execFsub k r p s) := by simp [execFsub]
theorem execFmul_reach (k : ChipId) (r : RegionId) (p : TileId) (s : State) :
    (Reach.chip k [.tiles, .hif]).Covers s (execFmul k r p s) := by simp [execFmul]
theorem execFma_reach (k : ChipId) (r : RegionId) (p : TileId) (s : State) :
    (Reach.chip k [.tiles, .hif]).Covers s (execFma k r p s) := by simp [execFma]
theorem execFmin_reach (k : ChipId) (r : RegionId) (p : TileId) (s : State) :
    (Reach.chip k [.tiles, .hif]).Covers s (execFmin k r p s) := by simp [execFmin]
theorem execFmax_reach (k : ChipId) (r : RegionId) (p : TileId) (s : State) :
    (Reach.chip k [.tiles, .hif]).Covers s (execFmax k r p s) := by simp [execFmax]
theorem execFcmplt_reach (k : ChipId) (r : RegionId) (p : TileId) (s : State) :
    (Reach.chip k [.tiles, .hif]).Covers s (execFcmplt k r p s) := by simp [execFcmplt]
theorem execRecip_reach (k : ChipId) (r : RegionId) (p : TileId) (s : State) :
    (Reach.chip k [.tiles, .hif]).Covers s (execRecip k r p s) := by simp [execRecip]
theorem execRsqrt_reach (k : ChipId) (r : RegionId) (p : TileId) (s : State) :
    (Reach.chip k [.tiles, .hif]).Covers s (execRsqrt k r p s) := by simp [execRsqrt]
theorem execSqrt_reach (k : ChipId) (r : RegionId) (p : TileId) (s : State) :
    (Reach.chip k [.tiles, .hif]).Covers s (execSqrt k r p s) := by simp [execSqrt]
theorem execExp2_reach (k : ChipId) (r : RegionId) (p : TileId) (s : State) :
    (Reach.chip k [.tiles, .hif]).Covers s (execExp2 k r p s) := by simp [execExp2]
theorem execLog2_reach (k : ChipId) (r : RegionId) (p : TileId) (s : State) :
    (Reach.chip k [.tiles, .hif]).Covers s (execLog2 k r p s) := by simp [execLog2]
theorem execPerm_reach (k : ChipId) (r : RegionId) (p : TileId) (s : State) :
    (Reach.chip k [.tiles, .hif]).Covers s (execPerm k r p s) := by simp [execPerm]
theorem execBcast_reach (k : ChipId) (r : RegionId) (p : TileId) (s : State) :
    (Reach.chip k [.tiles, .hif]).Covers s (execBcast k r p s) := by simp [execBcast]
theorem execLshift_reach (k : ChipId) (r : RegionId) (p : TileId) (s : State) :
    (Reach.chip k [.tiles, .hif]).Covers s (execLshift k r p s) := by simp [execLshift]
theorem execSel_reach (k : ChipId) (r : RegionId) (p : TileId) (s : State) :
    (Reach.chip k [.tiles, .hif]).Covers s (execSel k r p s) := by simp [execSel]
theorem execRsum_reach (k : ChipId) (r : RegionId) (p : TileId) (s : State) :
    (Reach.chip k [.tiles, .hif]).Covers s (execRsum k r p s) := by simp [execRsum]
theorem execRmax_reach (k : ChipId) (r : RegionId) (p : TileId) (s : State) :
    (Reach.chip k [.tiles, .hif]).Covers s (execRmax k r p s) := by simp [execRmax]
theorem execRmin_reach (k : ChipId) (r : RegionId) (p : TileId) (s : State) :
    (Reach.chip k [.tiles, .hif]).Covers s (execRmin k r p s) := by simp [execRmin]
theorem execCvt_reach (k : ChipId) (r : RegionId) (p : TileId) (s : State) :
    (Reach.chip k [.tiles, .hif]).Covers s (execCvt k r p s) := by simp [execCvt]
theorem execSetaImm_reach (k : ChipId) (r : RegionId) (p : TileId) (s : State) :
    (Reach.chip k [.tiles, .hif]).Covers s (execSetaImm k r p s) := by simp [execSetaImm]
theorem execSetaV_reach (k : ChipId) (r : RegionId) (p : TileId) (s : State) :
    (Reach.chip k [.tiles, .hif]).Covers s (execSetaV k r p s) := by simp [execSetaV]
theorem execEvtAdd_reach (k : ChipId) (s : State) :
    (Reach.chip k [.eps, .seq, .stew, .hif]).Covers s (execEvtAdd k s) := by
  simp only [execEvtAdd]
  repeat' split
  all_goals simp
theorem execEvtSet_reach (k : ChipId) (s : State) :
    (Reach.chip k [.eps, .seq, .stew, .hif]).Covers s (execEvtSet k s) := by
  simp only [execEvtSet]
  repeat' split
  all_goals simp
theorem execEvtWaitGe_reach (k : ChipId) (s : State) :
    (Reach.chip k [.eps, .seq, .stew, .hif]).Covers s (execEvtWaitGe k s) := by
  simp only [execEvtWaitGe]
  repeat' split
  all_goals simp
theorem execCtrRead_reach (k : ChipId) (s : State) :
    (Reach.chip k [.eps, .seq, .hif]).Covers s (execCtrRead k s) := by
  simp only [execCtrRead]
  repeat' split
  all_goals simp
theorem execWaiterTimeout_reach (k : ChipId) (src : EpId) (tag : Nat) (s : State) :
    (Reach.chip k [.eps, .seq, .hif]).Covers s (execWaiterTimeout k src tag s) := by
  simp only [execWaiterTimeout]
  repeat' split
  all_goals simp
theorem execEvtOwnerWrite_reach (k : ChipId) (i : Fin 1024) (v : Word) (s : State) :
    (Reach.chip k [.seq, .hif]).Covers s (execEvtOwnerWrite k i v s) := by simp [execEvtOwnerWrite]
theorem execOpenSession_reach (k : ChipId) (g : RingId) (s : State) :
    (Reach.chip k [.mem, .seq, .hif]).Covers s (execOpenSession k g s) := by simp [execOpenSession]
theorem execArm_reach (k : ChipId) (g : RingId) (s : State) :
    (Reach.chip k [.mem, .seq, .hif]).Covers s (execArm k g s) := by simp [execArm]
theorem execArmPredict_reach (k : ChipId) (g : RingId) (s : State) :
    (Reach.chip k [.mem, .seq, .hif]).Covers s (execArmPredict k g s) := by simp [execArmPredict]
theorem execConfirm_reach (k : ChipId) (g : RingId) (s : State) :
    (Reach.chip k [.mem, .seq, .hif]).Covers s (execConfirm k g s) := by simp [execConfirm]
theorem execCancel_reach (k : ChipId) (g : RingId) (s : State) :
    (Reach.chip k [.mem, .seq, .hif]).Covers s (execCancel k g s) := by simp [execCancel]
theorem execClose_reach (k : ChipId) (g : RingId) (s : State) :
    (Reach.chip k [.mem, .seq, .hif]).Covers s (execClose k g s) := by simp [execClose]
theorem execModelLoad_reach (k : ChipId) (g : RingId) (s : State) :
    (Reach.chip k [.seq, .hif]).Covers s (execModelLoad k g s) := by
  refine ringCommand_reach _ _ _ _ _ fun c bs => ?_
  dsimp only
  split <;> simp
theorem execModelLoadCopyDone_reach (k : ChipId) (g : RingId) (ok : Bool) (s : State) :
    (Reach.chip k [.regions, .posns, .seq, .stew, .hif]).Covers s (execModelLoadCopyDone k g ok s) := by
  simp only [execModelLoadCopyDone]
  split
  · simp
  · refine Reach.covers_chip_fresh _ _ fun _ => ?_
    split <;> simp
theorem execTileReload_reach (k : ChipId) (g : RingId) (s : State) :
    (Reach.chip k [.seq, .hif]).Covers s (execTileReload k g s) := by simp [execTileReload]
theorem execEnergyRead_reach (k : ChipId) (g : RingId) (s : State) :
    (Reach.chip k [.seq, .stew, .hif]).Covers s (execEnergyRead k g s) := by simp [execEnergyRead]
theorem execEnergyCapture_reach (k : ChipId) (s : State) :
    (Reach.chip k [.stew]).Covers s (execEnergyCapture k s) := by
  simp only [execEnergyCapture]
  repeat' split
  all_goals simp
theorem execCounterAdd_reach (k : ChipId) (g : RingId) (s : State) :
    (Reach.chip k [.eps, .seq, .stew, .hif]).Covers s (execCounterAdd k g s) := by simp [execCounterAdd]
theorem execCounterSet_reach (k : ChipId) (g : RingId) (s : State) :
    (Reach.chip k [.eps, .seq, .stew, .hif]).Covers s (execCounterSet k g s) := by simp [execCounterSet]
theorem execCounterWaitGe_reach (k : ChipId) (g : RingId) (s : State) :
    (Reach.chip k [.eps, .seq, .stew, .hif]).Covers s (execCounterWaitGe k g s) := by simp [execCounterWaitGe]
theorem execCounterRead_reach (k : ChipId) (g : RingId) (s : State) :
    (Reach.chip k [.seq, .hif]).Covers s (execCounterRead k g s) := by simp [execCounterRead]
theorem execNop_reach (k : ChipId) (g : RingId) (s : State) :
    (Reach.chip k [.seq, .hif]).Covers s (execNop k g s) := by simp [execNop]
theorem execAdmission_reach (k : ChipId) (p : RingId) (s : State) :
    (Reach.chip k [.tiles, .eps, .mem, .seq, .stew]).Covers s (execAdmission k p s) := by
  simp only [execAdmission]
  repeat' split
  all_goals simp
theorem execStageStart_reach (k : ChipId) (item : Nat) (s : State) :
    (Reach.chip k [.tiles, .eps, .seq, .stew]).Covers s (execStageStart k item s) := by
  simp only [execStageStart]
  repeat' split
  all_goals simp
theorem execItemEndReport_reach (k : ChipId) (s : State) :
    (Reach.chip k [.tiles, .eps, .mem, .seq, .hif]).Covers s (execItemEndReport k s) := by
  simp only [execItemEndReport]
  repeat' split
  all_goals simp
theorem execRunaheadDeadline_reach (k : ChipId) (i : Nat) (s : State) :
    (Reach.chip k [.mem, .seq, .hif]).Covers s (execRunaheadDeadline k i s) := by simp [execRunaheadDeadline]
theorem execArbiterCycle_reach (k : ChipId) (h : ChanId) (busy : Bool) (err : LinkErr) (s : State) :
    (Reach.chip k [.regions, .mem, .chans, .seq, .stew, .hif]).Covers s (execArbiterCycle k h busy err s) := by simp [execArbiterCycle]
theorem execMemoryWrite_reach (k : ChipId) (h : ChanId) (s : State) :
    (Reach.chip k [.eps, .chans, .hif]).Covers s (execMemoryWrite k h s) := by
  simp only [execMemoryWrite]
  split
  · simp
  next m _ =>
    simp only [Reach.covers_occurs, State.within_setChip_self]
    intro hpop
    refine (Chip.tookWr_step _ _ (by simp)).2 (.inl ?_)
    split
    · simp
    · split
      · simp
      · split
        · simp
        · simp only [Bool.and_eq_true] at hpop
          exact Chip.Within.trans (c := (s.chip k).dropWr (epMem h)) (by simp)
            ((Chip.enter_within _ _ _ (by simpa using Channel.room_of_popsWr hpop.2)).mono (by simp))
theorem execMemoryRead_reach (k : ChipId) (h : ChanId) (s : State) :
    (Reach.chip k [.eps, .chans, .hif]).Covers s (execMemoryRead k h s) := by
  simp only [execMemoryRead]
  split
  · simp
  next q _ =>
    simp only [Reach.covers_occurs, State.within_setChip_self]
    intro hpop
    refine (Chip.tookReq_step _ _ (by simp)).2 (.inl ?_)
    split
    · simp
    · split
      · simp
      · split
        · simp
        · simp only [Bool.and_eq_true] at hpop
          exact Chip.Within.trans (c := (s.chip k).onEp (epMem h) (fun x => { x with popReq := x.popReq.tail })) (by simp)
            ((Chip.enter_within _ _ _ (by simpa using Channel.room_of_popsReq hpop.2)).mono (by simp))
theorem execVoid_reach (k : ChipId) (h : ChanId) (s : State) :
    (Reach.chip k [.eps, .chans, .hif]).Covers s (execVoid k h s) := by
  simp only [execVoid]
  split
  · simp
  · simp only [Reach.covers_occurs, State.within_setChip_self]
    intro _
    refine (Chip.tookWr_step _ _ (by simp)).2 (.inl ?_)
    split
    · simp
    · simp
theorem execReadGroupComplete_reach (k : ChipId) (h : ChanId) (s : State) :
    (Reach.chip k [.eps, .chans]).Covers s (execReadGroupComplete k h s) := by
  simp only [execReadGroupComplete]
  repeat' split
  all_goals simp
theorem execEcsRead_reach (k : ChipId) (h : ChanId) (count : Nat) (s : State) :
    (Reach.chip k [.chans, .hif]).Covers s (execEcsRead k h count s) := by simp [execEcsRead]
theorem execRepeatRateFault_reach (k : ChipId) (h : ChanId) (s : State) :
    (Reach.chip k [.chans, .hif]).Covers s (execRepeatRateFault k h s) := by simp [execRepeatRateFault]
theorem execPowerEvaluation_reach (k : ChipId) (act : Activity) (s : State) :
    (Reach.chip k [.gens, .regions, .tiles, .stew, .hif]).Covers s (execPowerEvaluation k act s) := by simp [execPowerEvaluation]
theorem execTempSample_reach (k : ChipId) (temps : List Int) (pos : Nat) (cycles : List Nat) (s : State) :
    (Reach.chip k [.gens, .regions, .tiles, .xng, .queues, .eps, .flying, .mem, .seq, .hif]).Covers s (execTempSample k temps pos cycles s) := by simp [execTempSample]
theorem execTripRestart_reach (k : ChipId) (r : RegionId) (s : State) :
    (Reach.chip k [.gens, .regions, .hif]).Covers s (execTripRestart k r s) := by simp [execTripRestart]
theorem execCoolantStop_reach (k : ChipId) (ns pos : Nat) (cycles : List Nat) (s : State) :
    (Reach.chip k [.gens, .regions, .tiles, .mem, .seq, .stew, .bru, .hif]).Covers s (execCoolantStop k ns pos cycles s) := by simp [execCoolantStop]
theorem execCoolantStopRelease_reach (k : ChipId) (s : State) :
    (Reach.chip k [.stew, .hif]).Covers s (execCoolantStopRelease k s) := by simp [execCoolantStopRelease]
theorem execCoolantResumeStart_reach (k : ChipId) (s : State) :
    (Reach.chip k [.gens, .stew]).Covers s (execCoolantResumeStart k s) := by simp [execCoolantResumeStart]
theorem execGrantFallApply_reach (k : ChipId) (s : State) :
    (Reach.chip k [.stew]).Covers s (execGrantFallApply k s) := by
  simp only [execGrantFallApply]
  repeat' split
  all_goals simp
theorem execGrantRiseApply_reach (k : ChipId) (s : State) :
    (Reach.chip k [.stew]).Covers s (execGrantRiseApply k s) := by
  simp only [execGrantRiseApply]
  repeat' split
  all_goals simp
theorem execGrantStale_reach (k : ChipId) (s : State) :
    (Reach.chip k [.stew, .hif]).Covers s (execGrantStale k s) := by simp [execGrantStale]
theorem execEnergyBooking_reach (k : ChipId) (s : State) :
    (Reach.chip k [.stew]).Covers s (execEnergyBooking k s) := by
  simp only [execEnergyBooking]
  repeat' split
  all_goals simp
theorem execGainUpdate_reach (k : ChipId) (s : State) :
    (Reach.chip k [.stew, .hif]).Covers s (execGainUpdate k s) := by
  refine Reach.covers_chip_fresh _ _ fun _ => (Chip.onStew_step _ _ (by simp)).2 (.inl ?_)
  exact (Chip.within_self _ _).foldl (fun c i => by simp) _
theorem execBar2Write_reach (k : ChipId) (off : Nat) (data : List Byte) (en : List Bool) (s : State) :
    (Reach.chip k [.eps, .stew, .hif]).Covers s (execBar2Write k off data en s) := by simp [execBar2Write]
theorem execBar2Read_reach (k : ChipId) (off n : Nat) (s : State) :
    (Reach.chip k [.eps, .hif]).Covers s (execBar2Read k off n s) := by simp [execBar2Read]
theorem execCmdTailWrite_reach (k : ChipId) (g : RingId) (v : Word) (s : State) :
    (Reach.chip k [.eps, .hif]).Covers s (execCmdTailWrite k g v s) := by simp [execCmdTailWrite]
theorem execCplHeadWrite_reach (k : ChipId) (g : RingId) (v : Word) (s : State) :
    (Reach.chip k [.hif]).Covers s (execCplHeadWrite k g v s) := by simp [execCplHeadWrite]
theorem execCommandFetch_reach (k : ChipId) (g : RingId) (entry : List Byte) (s : State) :
    (Reach.chip k [.seq, .stew, .hif]).Covers s (execCommandFetch k g entry s) := by simp [execCommandFetch]
theorem execRingEnable_reach (k : ChipId) (g : RingId) (s : State) :
    (Reach.chip k [.hif]).Covers s (execRingEnable k g s) := by simp [execRingEnable]
theorem execRingDisable_reach (k : ChipId) (g : RingId) (s : State) :
    (Reach.chip k [.seq, .hif]).Covers s (execRingDisable k g s) := by simp [execRingDisable]
theorem execRingAccessError_reach (k : ChipId) (g : RingId) (s : State) :
    (Reach.chip k [.seq, .hif]).Covers s (execRingAccessError k g s) := by simp [execRingAccessError]
theorem execMsixMessage_reach (k : ChipId) (v : Fin 128) (s : State) :
    (Reach.chip k [.hif]).Covers s (execMsixMessage k v s) := by simp [execMsixMessage]
theorem execFlashProgram_reach (k : ChipId) (s : State) :
    (Reach.chip k [.hif]).Covers s (execFlashProgram k s) := by simp [execFlashProgram]
theorem execFlashRead_reach (k : ChipId) (s : State) :
    (Reach.chip k [.hif]).Covers s (execFlashRead k s) := by simp [execFlashRead]
theorem execFlashDone_reach (k : ChipId) (ok : Bool) (s : State) :
    (Reach.chip k [.hif, .flash]).Covers s (execFlashDone k ok s) := by
  refine Reach.covers_chip_fresh _ _ fun _ => ?_
  refine (Chip.cause_step _ _ (by simp)).2 (.inl ((Chip.faultIf_step _ _ _ _ _ (by simp)).2 (.inl
    ((Chip.onHif_step _ _ rfl rfl rfl (by simp)).2 (.inl ?_)))))
  split
  · exact (Chip.within_self _ _).flash (by simp) (Memory.wf_write _ _ _)
  · exact (Chip.flashRead_within _ _).mono (by simp)
theorem execXdmaCollect_reach (k : ChipId) (s : State) :
    (Reach.chip k [.eps, .stew, .hif]).Covers s (execXdmaCollect k s) := by
  simp only [execXdmaCollect]
  repeat' split
  all_goals simp
theorem execInboxWrite_reach (k : ChipId) (data : List Byte) (s : State) :
    (Reach.chip k [.eps, .stew, .hif]).Covers s (execInboxWrite k data s) := by
  simp only [execInboxWrite, Reach.covers_occurs, State.within_setChip_self]
  intro _
  refine (Chip.countAux_step _ _ _ (by simp)).2 (.inl ?_)
  have htake := ((s.chip k).takeP2p_within data).mono (show [Piece.hif] ⊆ [.eps, .stew, .hif] by simp)
  split
  · exact (Chip.dropContribution_step _ (by simp)).2 (.inl htake)
  next hroom =>
    have hput := Chip.putInbox_within (c := (s.chip k).onHif (fun h =>
      if h.p2pIn.head? = some data then { h with p2pIn := h.p2pIn.tail } else h)) data
      (by simp only [Bool.or_eq_true, decide_eq_true_eq, not_or] at hroom; omega)
    exact (Chip.pumpInbox_step _ (by simp)).2 (.inl (htake.trans (hput.mono (by simp))))
theorem execInboxResend_reach (k : ChipId) (i : Nat) (s : State) :
    (Reach.chip k [.eps, .hif]).Covers s (execInboxResend k i s) := by
  simp only [execInboxResend]
  split
  · simp
  next x _ =>
    have hinbox : (s.chip k).Within [.hif]
        ((s.chip k).onHif (fun h => { h with inbox := h.inbox.set i { x with waiting := false } })) :=
      Chip.within_of_hif (fun y hy => by cases y <;> simp_all [Chip.sameAt]) id
        (fun h => (List.length_set ..).trans_le h) id
    simp [hinbox.mono (show [Piece.hif] ⊆ [.eps, .hif] by simp)]
theorem execInboxExpire_reach (k : ChipId) (i : Nat) (s : State) :
    (Reach.chip k [.hif]).Covers s (execInboxExpire k i s) := by
  simp only [execInboxExpire]
  split
  · simp
  · have hinbox : (s.chip k).Within [.hif] ((s.chip k).onHif (fun h => { h with inbox := h.inbox.eraseIdx i })) :=
      Chip.within_of_hif (fun x hx => by cases x <;> simp_all [Chip.sameAt]) id
        (fun h => (List.length_eraseIdx_le _ _).trans h) id
    simp [hinbox]
theorem execTileReloadCopyDone_reach (k : ChipId) (g : RingId) (ok : Bool) (s : State) :
    (Reach.chip k [.regions, .posns, .seq, .stew, .hif]).Covers s (execTileReloadCopyDone k g ok s) := by
  simp only [execTileReloadCopyDone]
  split
  · simp
  · refine Reach.covers_chip_fresh _ _ fun _ => ?_
    split <;> simp
theorem execInvalidOp_reach (k : ChipId) (r : RegionId) (p : TileId) (s : State) :
    (Reach.chip k [.tiles, .hif]).Covers s (execInvalidOp k r p s) := by simp [execInvalidOp]
theorem execReadWithClear_reach (k : ChipId) (off : Nat) (wide : Bool) (s : State) :
    (Reach.chip k [.time, .gens, .regions, .tiles, .xng, .eps, .links, .chans, .seq, .stew, .hif]).Covers s (execReadWithClear k off wide s) := by
  simp only [execReadWithClear, Reach.covers_occurs, State.within_setChip_self]
  exact fun _ => (Chip.onHif_step _ _ rfl rfl rfl (by simp)).2 (.inl (Chip.readBar0_within _ _ _ _))
theorem execD3hotTransition_reach (k : ChipId) (d3 : Bool) (s : State) :
    (Reach.chip k [.hif]).Covers s (execD3hotTransition k d3 s) := by simp [execD3hotTransition]

/-- The pieces that a restart of a chip starts anew: all but the flash and the OTP bits. -/
abbrev restartedPieces : List Piece :=
  [.power, .time, .clk, .tickDue, .gens, .regions, .tiles, .posns, .xng, .queues, .eps, .flying, .links, .mem, .chans, .seq,
    .stew, .bru, .img, .hif, .dissolves]

theorem State.Within.chip_mono {k : Nat} {ps qs : List Piece} {s t : State} (h : s.Within (.chip k ps) t) (hq : ps ⊆ qs) :
    s.Within (.chip k qs) t :=
  ⟨h.pending, h.host, h.hostCanonical, h.tray, h.trayKeeps, h.chips, fun n => (h.chip n).mono hq⟩

/-- A command that a register write sets off reaches no further than the write. -/
theorem State.stateOf_within {k : Nat} {ps : List Piece} {s : State} {o : Out} (h : (Reach.chip k ps).Covers s o)
    (hp : ps ⊆ restartedPieces) : s.Within (.chip k restartedPieces) (stateOf o s) := by
  obtain ⟨t, rfl, ht⟩ := h
  exact ht.chip_mono hp

theorem State.imgCommand_within (s : State) (k : ChipId) (cmd : Nat) :
    s.Within (.chip k restartedPieces) (imgCommand k cmd s) := by
  unfold imgCommand
  split
  · exact State.stateOf_within (execCommit_reach k s) (by simp)
  · exact State.stateOf_within (execCommitCancel_reach k s) (by simp)
  · exact State.stateOf_within (execStage_reach k s) (by simp)
  · exact State.stateOf_within (execAbandon_reach k s) (by simp)
  · exact .refl _ s

theorem State.flashCommand_within (s : State) (k : ChipId) (cmd : Nat) :
    s.Within (.chip k restartedPieces) (flashCommand k cmd s) := by
  unfold flashCommand
  split
  · exact State.stateOf_within (execFlashProgram_reach k s) (by simp)
  · exact State.stateOf_within (execFlashRead_reach k s) (by simp)
  · exact .refl _ s

theorem State.writeReg_within (s : State) (k : ChipId) (i2c : Bool) (r : Reg) (i v : Nat) :
    s.Within (.chip k restartedPieces) (s.writeReg k i2c r i v) := by
  have hstore : ∀ r, s.Within (.chip k restartedPieces) (s.onChip k (fun c => c.regStore r i v)) := fun r =>
    (State.within_onChip_self ..).2 (by simp)
  unfold State.writeReg
  split
  · split
    · exact State.stateOf_within (execRestart_reach k i2c s) (by simp)
    · exact .refl _ s
  · split
    · exact State.stateOf_within (execRefSwitch_reach k s) (by simp)
    · exact .refl _ s
  · exact State.stateOf_within (execEpochLoadArm_reach k _ s) (by simp)
  · exact s.imgCommand_within k _
  · split
    · exact State.stateOf_within (execRingEnable_reach k _ s) (by simp)
    · exact State.stateOf_within (execRingDisable_reach k _ s) (by simp)
  · exact (hstore _).trans (State.flashCommand_within _ k _)
  · exact hstore _

theorem State.writeWord_within (s : State) (k : ChipId) (i2c : Bool) (p : RegPlace) (v : Nat) :
    s.Within (.chip k restartedPieces) (s.writeWord k i2c p v) := by
  unfold State.writeWord
  split <;> exact s.writeReg_within k _ _ _ _

theorem State.writeBar0_within (s : State) (k : ChipId) (i2c wide : Bool) (off v : Nat) :
    s.Within (.chip k restartedPieces) ((s.writeBar0 k i2c wide off v).getD (s.onChip k Chip.badBar0)) := by
  have hbad : s.Within (.chip k restartedPieces) (s.onChip k Chip.badBar0) := (State.within_onChip_self ..).2 (by simp)
  unfold State.writeBar0
  split
  · split
    · split
      · exact hbad
      · split
        · exact s.writeReg_within k _ _ _ _
        · exact (s.writeWord_within k _ _ _).trans (State.writeWord_within _ k _ _ _)
    · exact hbad
  · split
    · split
      · exact s.writeWord_within k _ _ _
      · exact hbad
    · exact hbad

theorem execBar0Write_reach (k : ChipId) (off : Nat) (wide : Bool) (v : Nat) (s : State) :
    (Reach.chip k [.power, .time, .clk, .tickDue, .gens, .regions, .tiles, .posns, .xng, .queues, .eps, .flying, .links, .mem, .chans, .seq, .stew, .bru, .img, .hif, .dissolves]).Covers s (execBar0Write k off wide v s) := by
  simp only [execBar0Write, Reach.covers_occurs]
  exact fun _ => s.writeBar0_within k _ _ _ _
theorem execMgmtI2cAccess_reach (k : ChipId) (off : Nat) (v : Option Nat) (s : State) :
    (Reach.chip k [.power, .time, .clk, .tickDue, .gens, .regions, .tiles, .posns, .xng, .queues, .eps, .flying, .links, .mem, .chans, .seq, .stew, .bru, .img, .hif, .dissolves]).Covers s (execMgmtI2cAccess k off v s) := by
  simp only [execMgmtI2cAccess, Reach.covers_occurs]
  intro _
  have hoff : s.Within (.chip k restartedPieces) (s.onChip k (fun c => c.onHif (fun h => { h with i2cOffset := off }))) :=
    (State.within_onChip_self ..).2 (by simp [restartedPieces])
  split
  · exact hoff.trans (State.writeBar0_within _ _ _ _ _ _)
  · refine hoff.trans ((State.within_setChip_self ..).2 ((Chip.onHif_step _ _ rfl rfl rfl (by simp [restartedPieces])).2 (.inl ?_)))
    exact (Chip.readBar0_within _ _ _ _).mono (by simp [restartedPieces])

end Sys2Proof.Machine
end

section
/-! SUPPORT. Each operation of the model on the tray as a change that keeps both invariants. -/

namespace Sys2Proof.Machine

-- In order, not in parallel: every elaborator thread that waits for another holds a stack within the check's memory limit.
set_option Elab.async false

/-! ### What each operation on the tray leaves of its memories and of its log -/

/-- A change of other fields than the memories and the log. -/
theorem Tray.Keeps.of_eq {t u : Tray} (h1 : u.staging = t.staging := by rfl) (h2 : u.nvmA.image = t.nvmA.image := by rfl)
    (h3 : u.nvmB.image = t.nvmB.image := by rfl) (h4 : u.imageBytes = t.imageBytes := by rfl)
    (h5 : u.nvmWrite = t.nvmWrite := by rfl) (h6 : u.log = t.log := by rfl) : t.Keeps u :=
  ⟨by simp [Tray.Canonical, *], by simp [*]⟩

@[simp] theorem Tray.keeps_self (t : Tray) : t.Keeps t := .refl t

@[simp] theorem Tray.keeps_ite {t u v : Tray} (p : Prop) [Decidable p] :
    t.Keeps (if p then u else v) ↔ (p → t.Keeps u) ∧ (¬p → t.Keeps v) := by
  by_cases p <;> simp [*]

/-- The same relation, under a name that no lemma rewrites. -/
def Tray.KeepsAlso (t u : Tray) : Prop := t.Keeps u

/-- The step from `t` to `u` keeps both invariants, said as a rewriting (see `Chip.Step`). -/
abbrev Tray.Step (t u : Tray) : Prop := ∀ {b : Tray}, b.Keeps u ↔ b.Keeps t ∨ b.KeepsAlso u

theorem Tray.Keeps.step {t u : Tray} (h : t.Keeps u) : t.Step u :=
  ⟨.inr, fun g => g.elim (·.trans h) id⟩

theorem Tray.Keeps.foldl {α : Type} {b t : Tray} {f : Tray → α → Tray} (h : b.Keeps t)
    (hf : ∀ (t : Tray) a, t.Keeps (f t a)) (l : List α) : b.Keeps (l.foldl f t) := by
  induction l generalizing t with
  | nil => exact h
  | cons a l ih => exact ih (h.trans (hf t a))

@[simp] theorem Tray.keeps_foldl {α : Type} {b t : Tray} {f : Tray → α → Tray} (hf : ∀ (t : Tray) a, t.Keeps (f t a))
    (l : List α) : b.Keeps (l.foldl f t) ↔ b.Keeps t ∨ b.KeepsAlso (l.foldl f t) :=
  ⟨.inr, fun h => h.elim (·.foldl hf l) id⟩

@[simp] theorem Tray.setSlot_keeps (t : Tray) (n : Nat) (x : TraySlot) : t.Step (t.setSlot n x) :=
  Tray.Keeps.step .of_eq
@[simp] theorem Tray.onSlot_keeps (t : Tray) (n : Nat) (f : TraySlot → TraySlot) : t.Step (t.onSlot n f) :=
  Tray.setSlot_keeps t n _
@[simp] theorem Tray.setTmc_keeps (t : Tray) (x : Side) (m : Tmc) : t.Step (t.setTmc x m) := by
  cases x <;> exact Tray.Keeps.step .of_eq
@[simp] theorem Tray.onTmc_keeps (t : Tray) (x : Side) (f : Tmc → Tmc) : t.Step (t.onTmc x f) :=
  Tray.setTmc_keeps t x _
@[simp] theorem Tray.setTrc_keeps (t : Tray) (x : Side) (m : Trc) : t.Step (t.setTrc x m) := by
  cases x <;> exact Tray.Keeps.step .of_eq
@[simp] theorem Tray.setFlow_keeps (t : Tray) (x : Side) (m : FlowSensor) : t.Step (t.setFlow x m) := by
  cases x <;> exact Tray.Keeps.step .of_eq
@[simp] theorem Tray.clearFault_keeps (t : Tray) (tag : Tag) (nn inst : Nat) : t.Step (t.clearFault tag nn inst) :=
  Tray.Keeps.step .of_eq
@[simp] theorem Tray.fault_keeps (t : Tray) (tag : Tag) (nn inst : Nat) : t.Step (t.fault tag nn inst) :=
  Tray.Keeps.step (by exact ⟨id, fun _ => by simp [Tray.fault]⟩)
@[simp] theorem Tray.faultIf_keeps (t : Tray) (b : Bool) (tag : Tag) (nn inst : Nat) :
    t.Step (t.faultIf b tag nn inst) :=
  Tray.Keeps.step (by simp [Tray.faultIf])

/-- A card is replaced by one whose image keeps its form. -/
theorem Tray.Keeps.setNvm {b t : Tray} (h : b.Keeps t) (x : Side) {m : Nvm}
    (hm : b.Canonical → Memory.wf m.image = true) : b.Keeps (t.setNvm x m) := by
  refine ⟨fun hb => ?_, fun hb => ?_⟩
  · obtain ⟨h1, h2, h3, h4, h5⟩ := h.canonical hb
    cases x
    · exact ⟨h1, hm hb, h3, h4, h5⟩
    · exact ⟨h1, h2, hm hb, h4, h5⟩
  · cases x <;> exact h.bounded hb

theorem Tray.Canonical.nvm {t : Tray} (h : t.Canonical) (x : Side) : Memory.wf (t.nvm x).image = true := by
  obtain ⟨-, ha, hb, -, -⟩ := h
  cases x
  · exact ha
  · exact hb

@[simp] theorem Tray.setNvm_keeps (t : Tray) (x : Side) (m : Nvm) (hm : m.image = (t.nvm x).image) :
    t.Step (t.setNvm x m) :=
  Tray.Keeps.step ((Tray.Keeps.refl t).setNvm x fun h => hm ▸ h.nvm x)

/-- An image write is noted whose image keeps its form. -/
theorem Tray.Keeps.nvmWrite {b t : Tray} (h : b.Keeps t) {w : Option NvmWrite}
    (hw : b.Canonical → ∀ v, w = some v → Memory.wf v.image = true) : b.Keeps { t with nvmWrite := w } :=
  ⟨fun hb => by
    obtain ⟨h1, h2, h3, h4, -⟩ := h.canonical hb
    exact ⟨h1, h2, h3, h4, hw hb⟩, h.bounded⟩
/-! Fields other than the memories and the log written in place. -/

theorem Tray.Keeps.unitFields {b t : Tray} (h : b.Keeps t) {p : Option (Nat × Nat)} {r : Bool} {n : Nat}
    {l : List Joining} : b.Keeps { t with prepared := p, prepReady := r, prepAge := n, joining := l } :=
  h.trans .of_eq
theorem Tray.Keeps.roleFields {b t : Tray} (h : b.Keeps t) {role : Option Side} {held : Bool} {n : Nat} {hand : HandPhase}
    {msg : Option Mirror} {cmds : List (MgmtReq × SvcCmd)} {ring : MeterRing} {ack : Bool} {st : Nat} :
    b.Keeps { t with
      role := role, everHeld := held, aliveAge := n, hand := hand, handMsg := msg, heldCmds := cmds
      ring := ring, acked := ack, start := st } :=
  h.trans .of_eq
theorem Tray.Keeps.handFields {b t : Tray} (h : b.Keeps t) {d : Bool} {n : Nat} {w : List MgmtReq} {hand : HandPhase}
    {cmds : List (MgmtReq × SvcCmd)} :
    b.Keeps { t with swapWaiters := w, heldCmds := cmds, handDefer := d, handAt := n, hand := hand } :=
  h.trans .of_eq

@[simp] theorem Tray.setThreshold_keeps (t : Tray) : t.Step t.setThreshold :=
  Tray.Keeps.step (by
    unfold Tray.setThreshold
    split
    · exact .of_eq
    · simp)
@[simp] theorem Tray.exchange_keeps (t : Tray) (e : Nat) (ns : List Nat) : t.Step (t.exchange e ns) :=
  Tray.Keeps.step .of_eq
@[simp] theorem Tray.beginPowerUp_keeps (t : Tray) (n : Nat) : t.Step (t.beginPowerUp n) :=
  Tray.Keeps.step (by simp [Tray.beginPowerUp])
@[simp] theorem Tray.beginPowerDown_keeps (t : Tray) (n : Nat) : t.Step (t.beginPowerDown n) :=
  Tray.Keeps.step (by simp [Tray.beginPowerDown])
@[simp] theorem Tray.overrideCores_keeps (t : Tray) : t.Step t.overrideCores :=
  Tray.Keeps.step (by simp [Tray.overrideCores])
@[simp] theorem Tray.takeSource_keeps (t : Tray) (x : Side) (ps : Int) : t.Step (t.takeSource x ps) :=
  Tray.Keeps.step (by simp [Tray.takeSource])
@[simp] theorem Tray.noteStanding_keeps (t : Tray) : t.Step t.noteStanding :=
  Tray.Keeps.step (by simp [Tray.noteStanding])
@[simp] theorem Tray.older_keeps (t : Tray) (ep : Nat) : t.Step (t.older ep) :=
  Tray.Keeps.step (by
    simp only [Tray.older]
    split <;> exact .of_eq)
@[simp] theorem Tray.epochBoundary_keeps (t : Tray) (x : Side) : t.Step (t.epochBoundary x) :=
  Tray.Keeps.step (by
    simp only [Tray.epochBoundary]
    have hage : ∀ u : Tray, t.Keeps u → t.Keeps (if t.role == some x then u else
        { u with aliveAge := Machine.older 1000 u.aliveAge }) := fun u hu => by
      split
      · exact hu
      · exact hu.trans .of_eq
    split
    · exact (Tray.older_keeps _ _).2 (.inl (hage _ (by simp)))
    · exact hage _ (by simp))
@[simp] theorem Tray.startSweep_keeps (t : Tray) (b : Nat) : t.Step (t.startSweep b) :=
  Tray.Keeps.step .of_eq
@[simp] theorem Tray.takeReports_keeps (t : Tray) : t.Step t.takeReports :=
  Tray.Keeps.step (by simp [Tray.takeReports])
@[simp] theorem Tray.endSweep_keeps (t : Tray) (epoch : Nat) : t.Step (t.endSweep epoch) := by
  refine Tray.Keeps.step ?_
  simp only [Tray.endSweep]
  refine Tray.Keeps.roleFields ((Tray.keeps_ite _).2 ⟨fun _ => ?_, fun _ => (Tray.keeps_ite _).2 ⟨fun _ => ?_, fun _ => ?_⟩⟩)
  · exact (Tray.clearFault_keeps _ _ _ _).2 (.inl (Tray.Keeps.refl t).roleFields)
  · exact (Tray.Keeps.refl t).roleFields
  · exact (Tray.fault_keeps _ _ _ _).2 (.inl (Tray.Keeps.refl t).roleFields)
@[simp] theorem Tray.drivePatterns_keeps (t : Tray) : t.Step t.drivePatterns :=
  Tray.Keeps.step (by
    simp only [Tray.drivePatterns]
    split <;> exact .of_eq)
@[simp] theorem Tray.setLamp_keeps (t : Tray) (e : Nat) (x : Lamp) (d : LampStatus) : t.Step (t.setLamp e x d) :=
  Tray.Keeps.step (by
    simp only [Tray.setLamp]
    exact (Tray.faultIf_keeps _ _ _ _ _).2 (.inl ((Tray.faultIf_keeps _ _ _ _ _).2 (.inl .of_eq))))
@[simp] theorem Tray.diagnose_keeps (t : Tray) (e : Nat) (sense : LampSense) : t.Step (t.diagnose e sense) :=
  Tray.Keeps.step (by
    simp only [Tray.diagnose]
    split
    · simp
    · exact .of_eq)
@[simp] theorem Tray.testLamp_keeps (t : Tray) (e : Nat) (sense : LampSense) : t.Step (t.testLamp e sense) :=
  Tray.Keeps.step (by
    simp only [Tray.testLamp]
    exact ((Tray.setLamp_keeps _ _ _ _).2 (.inl (.refl t))).trans .of_eq)
@[simp] theorem Tray.checkStandby_keeps (t : Tray) : t.Step t.checkStandby :=
  Tray.Keeps.step (by
    simp only [Tray.checkStandby]
    split <;> simp)
@[simp] theorem Tray.prepareUnit_keeps (t : Tray) (typ i : Nat) : t.Step (t.prepareUnit typ i) := by
  refine Tray.Keeps.step ?_
  simp only [Tray.prepareUnit]
  refine (Tray.checkStandby_keeps _).2 (.inl (Tray.Keeps.unitFields ?_))
  split <;> simp
@[simp] theorem Tray.resumeUnit_keeps (t : Tray) (typ i : Nat) : t.Step (t.resumeUnit typ i) := by
  refine Tray.Keeps.step ?_
  simp only [Tray.resumeUnit]
  refine Tray.Keeps.unitFields ?_
  split
  case h_5 =>
    refine (Tray.Keeps.refl t).setNvm _ fun h => ?_
    split
    · exact h.2.2.2.1
    · exact h.nvm _
  all_goals simp
@[simp] theorem Tray.forget_keeps (t : Tray) (typ i : Nat) : t.Step (t.forget typ i) :=
  Tray.Keeps.step (by
    simp only [Tray.forget]
    split <;> exact .of_eq)
@[simp] theorem Tray.removeUnit_keeps (t : Tray) (typ i : Nat) : t.Step (t.removeUnit typ i) := by
  refine Tray.Keeps.step ?_
  simp only [Tray.removeUnit]
  split
  · split
    · exact Tray.Keeps.roleFields ((Tray.setTmc_keeps _ _ _).2 (.inl (.refl t)))
    · simp
  · simp
  · exact (Tray.faultIf_keeps _ _ _ _ _).2 (.inl ((Tray.Keeps.refl t).setNvm _ fun _ => (rfl)))
  · simp
  · simp
@[simp] theorem Tray.insertUnit_keeps (t : Tray) (typ i : Nat) : t.Step (t.insertUnit typ i) := by
  refine Tray.Keeps.step ?_
  simp only [Tray.insertUnit]
  refine Tray.Keeps.unitFields ?_
  split
  case h_5 => exact .of_eq
  all_goals simp
@[simp] theorem Tray.joinUnit_keeps (t : Tray) (typ i : Nat) : t.Step (t.joinUnit typ i) :=
  Tray.Keeps.step (by
    simp only [Tray.joinUnit]
    split <;> simp)
@[simp] theorem Tray.softStart_keeps (t : Tray) (i : Nat) : t.Step (t.softStart i) :=
  Tray.Keeps.step .of_eq
@[simp] theorem Tray.respond_keeps (t : Tray) (q : MgmtReq) (op : Nat) (a : Answer) : t.Step (t.respond q op a) :=
  Tray.Keeps.step (by simp [Tray.respond])
@[simp] theorem Tray.slotPower_keeps (t : Tray) (n on : Nat) : t.Step (t.slotPower n on).1 :=
  Tray.Keeps.step (by
    unfold Tray.slotPower
    repeat' split
    all_goals simp)
@[simp] theorem Tray.timeLoad_keeps (t : Tray) (x : Side) (ep : Nat) : t.Step (t.timeLoad x ep).1 :=
  Tray.Keeps.step (by
    simp only [Tray.timeLoad]
    split <;> simp)
@[simp] theorem Tray.lampTest_keeps (t : Tray) (samples : List LampSense) : t.Step (t.lampTest samples).1 :=
  Tray.Keeps.step (by
    unfold Tray.lampTest
    split <;> simp)
@[simp] theorem Tray.setCa_keeps (t : Tray) (q : MgmtReq) (idx : Nat) (cert : Option (List Byte)) : t.Step (t.setCa q idx cert).1 := by
  refine Tray.Keeps.step ?_
  simp only [Tray.setCa]
  split <;> split <;> simp
@[simp] theorem Tray.noteRefusal_keeps (t : Tray) (x : Side) (a : Answer) : t.Step (t.noteRefusal x a) :=
  Tray.Keeps.step (by simp [Tray.noteRefusal])
@[simp] theorem Tray.roleSwap_keeps (t : Tray) (q : MgmtReq) (gen : Nat) : t.Step (t.roleSwap q gen) :=
  Tray.Keeps.step (by
    simp only [Tray.roleSwap]
    split
    · simp
    · split
      · simp
      · split
        · exact .of_eq
        · split
          · exact (Tray.onTmc_keeps _ _ _).2 (.inl .of_eq)
          · exact .of_eq)
@[simp] theorem Tray.takeRole_keeps (t : Tray) (x : Side) : t.Step (t.takeRole x) := by
  refine Tray.Keeps.step ?_
  simp only [Tray.takeRole]
  refine (Tray.checkStandby_keeps _).2 (.inl ((Tray.noteStanding_keeps _).2 (.inl ((Tray.setThreshold_keeps _).2 (.inl ?_)))))
  exact Tray.Keeps.roleFields (by simp)
@[simp] theorem Tray.takeMirror_keeps (t : Tray) (h : Mirror) : t.Step (t.takeMirror h) :=
  Tray.Keeps.step .of_eq
@[simp] theorem Tray.answerSwaps_keeps (t : Tray) (a : Answer) : t.Step (t.answerSwaps a) := by
  refine Tray.Keeps.step ?_
  simp only [Tray.answerSwaps]
  exact Tray.Keeps.handFields (by simp)
@[simp] theorem Tray.failWrite_keeps (t : Tray) : t.Step t.failWrite :=
  Tray.Keeps.step (by
    simp only [Tray.failWrite]
    split
    · simp
    · have hdrop : t.Keeps { t with nvmWrite := none, handDefer := false } :=
        ((Tray.Keeps.refl t).nvmWrite (w := none) fun _ => nofun).trans .of_eq
      split
      · exact (Tray.respond_keeps _ _ _ _).2 (.inl hdrop)
      · exact hdrop)
@[simp] theorem Tray.refuseHandover_keeps (t : Tray) (x : Side) : t.Step (t.refuseHandover x) :=
  Tray.Keeps.step (by
    simp only [Tray.refuseHandover]
    exact (Tray.answerSwaps_keeps _ _).2 (.inl ((Tray.fault_keeps _ _ _ _).2 (.inl .of_eq))))
@[simp] theorem Tray.handOver_keeps (t : Tray) (y : Side) : t.Step (t.handOver y) :=
  Tray.Keeps.step (by
    simp only [Tray.handOver]
    exact ((Tray.takeRole_keeps _ _).2 (.inl (.refl t))).trans .of_eq)

end Sys2Proof.Machine
end

section
/-! SUPPORT. Reaches that hold more than one chip. -/

namespace Sys2Proof.Machine

-- In order, not in parallel: every elaborator thread that waits for another holds a stack within the check's memory limit.
set_option Elab.async false

/-! ### Reaches beyond one chip -/

/-- The reach of a command of the tray alone. -/
@[simps] def Reach.trayOnly : Reach :=
  { pieces := [], chips := fun _ => false, tray := true, host := false }

/-- The reach of a command of one chip and the tray. -/
@[simps] def Reach.chipAndTray (k : Nat) (ps : List Piece) : Reach :=
  { pieces := ps, chips := fun n => n == k, tray := true, host := false }

/-- The reach of a command of every chip and the tray. -/
@[simps] def Reach.chipsAndTray (ps : List Piece) : Reach :=
  { pieces := ps, chips := fun _ => true, tray := true, host := false }

/-- The reach of a command of one chip and host memory. -/
@[simps] def Reach.chipAndHost (k : Nat) (ps : List Piece) : Reach :=
  { pieces := ps, chips := fun n => n == k, tray := false, host := true }

theorem State.Within.setTray {F : Reach} {s t : State} (h : s.Within F t) (hF : F.tray = true) {u : Tray} {n : Nat}
    (hu : t.tray.Keeps u) : s.Within F { t with tray := u, fresh := n } :=
  h.trans ⟨rfl, fun _ => rfl, id, by simp [hF], hu, fun _ _ => rfl, fun _ => .refl _ _⟩

theorem State.Within.onTray {F : Reach} {s t : State} (h : s.Within F t) (hF : F.tray = true) {f : Tray → Tray}
    (hu : t.tray.Keeps (f t.tray)) : s.Within F (t.onTray f) :=
  h.setTray hF hu

theorem State.Within.setHost {F : Reach} {s t : State} (h : s.Within F t) (hF : F.host = true) {m : List Host.Cell}
    (hm : Memory.wf t.hostMem = true → Memory.wf m = true) : s.Within F { t with hostMem := m } :=
  h.trans ⟨rfl, by simp [hF], hm, fun _ => rfl, .refl _, fun _ _ => rfl, fun _ => .refl _ _⟩

theorem State.Within.foldl {F : Reach} {α : Type} {s t : State} {f : State → α → State} (h : s.Within F t)
    (hf : ∀ (t : State) a, t.Within F (f t a)) (l : List α) : s.Within F (l.foldl f t) := by
  induction l generalizing t with
  | nil => exact h
  | cons a l ih => exact ih (h.trans (hf t a))

@[simp] theorem State.within_setTray_self (s : State) (u : Tray) :
    s.Within .trayOnly { s with tray := u } ↔ s.tray.Keeps u :=
  ⟨fun h => h.trayKeeps, fun h => (State.Within.refl _ s).setTray rfl h⟩

@[simp] theorem State.within_onTray_self (s : State) (f : Tray → Tray) :
    s.Within .trayOnly (s.onTray f) ↔ s.tray.Keeps (f s.tray) :=
  s.within_setTray_self _

end Sys2Proof.Machine
end

section
/-! SUPPORT. The reach of each command that acts on the tray alone. -/

namespace Sys2Proof.Machine

-- In order, not in parallel: every elaborator thread that waits for another holds a stack within the check's memory limit.
set_option Elab.async false

/-! The tray image and its cards. -/

theorem Tray.Keeps.useImage {b t : Tray} (h : b.Keeps t) {im : List Host.Cell} (hi : b.Canonical → Memory.wf im = true) :
    b.Keeps (t.useImage im) := by
  simp only [Tray.useImage]
  refine (Tray.noteStanding_keeps _).2 (.inl ((Tray.setThreshold_keeps _).2 (.inl ⟨fun hb => ?_, h.bounded⟩)))
  obtain ⟨h1, h2, h3, -, h5⟩ := h.canonical hb
  exact ⟨h1, h2, h3, hi hb, h5⟩

theorem Tray.Keeps.putImage {b t : Tray} (h : b.Keeps t) (x : Side) {w : NvmWrite}
    (hw : b.Canonical → Memory.wf w.image = true) : b.Keeps (t.putImage x w) :=
  h.setNvm x hw

@[simp] theorem Tray.readNvm_keeps (t : Tray) : t.Step t.readNvm := by
  refine Tray.Keeps.step ?_
  unfold Tray.readNvm
  extract_lets va vb ga gb found t0 lost src bad t1 t2 t3
  have hfound : ∀ (x : Side) v g (u : Tray), u.Keeps (found x v g u) := fun x v g u =>
    (Tray.setNvm_keeps u x { u.nvm x with valid := v, generation := if v then g else (u.nvm x).generation } rfl).2
      (.inl (.refl u))
  have h0 : t.Keeps t0 := (hfound _ _ _ _).trans (hfound _ _ _ _)
  have h3 : t.Keeps t3 := by simp [t3, t2, t1, h0]
  split
  · exact Tray.Keeps.trans ((Tray.faultIf_keeps _ _ _ _ _).2 (.inl h0)) .of_eq
  · refine (Tray.noteStanding_keeps _).2 (.inl ⟨fun ht => ?_, h3.bounded⟩)
    obtain ⟨h1, h2, h4, -, h5⟩ := h3.canonical ht
    refine ⟨h1, h2, h4, ?_, h5⟩
    simp only [src]
    split
    · exact ht.2.2.1
    · exact ht.2.1

theorem State.Within.spoilNvm {F : Reach} {s t : State} (h : s.Within F t) (hF : F.tray = true) (x : Side) (n : Nat) :
    s.Within F (t.spoilNvm x n) :=
  h.setTray hF ((Tray.Keeps.refl _).setNvm x fun ht => Memory.wf_write _ _ _ (ht.nvm x))

theorem State.Within.rewriteNvm {F : Reach} {s t : State} (h : s.Within F t) (hF : F.tray = true) (x : Side) (ok : Bool) :
    s.Within F (t.rewriteNvm x ok) := by
  simp only [State.rewriteNvm]
  split
  · exact h.onTray hF ((Tray.clearFault_keeps _ _ _ _).2 (.inl ((Tray.Keeps.refl _).setNvm x fun ht => ht.2.2.2.1)))
  · exact (h.spoilNvm hF x _).setTray hF ((Tray.faultIf_keeps _ _ _ _ _).2 (.inl (.refl _)))

theorem State.Within.readNvm {F : Reach} {s t : State} (h : s.Within F t) (hF : F.tray = true) (ok : Bool) :
    s.Within F (t.readNvm ok) := by
  have h1 : s.Within F { t with tray := t.tray.readNvm } := h.setTray hF ((Tray.readNvm_keeps _).2 (.inl (.refl _)))
  simp only [State.readNvm]
  refine (State.within_ite _).2 ⟨fun _ => h1, fun _ => (State.within_ite _).2 ⟨fun _ => ?_, fun _ => h1⟩⟩
  exact h1.rewriteNvm hF _ ok


theorem Tray.Keeps.flowFields {b t : Tray} (h : b.Keeps t) {n m : Nat} : b.Keeps { t with threshold := n, flowNow := m } :=
  h.trans .of_eq

theorem execSlotBypassLeave_reach (n : SlotId) (s : State) :
    Reach.trayOnly.Covers s (execSlotBypassLeave n s) := by
  simp [execSlotBypassLeave]
theorem execFacilityInputLost_reach (c : Side) (ps : Int) (s : State) :
    Reach.trayOnly.Covers s (execFacilityInputLost c ps s) := by
  simp [execFacilityInputLost]
theorem execPpsCompare_reach (ns : Nat) (s : State) :
    Reach.trayOnly.Covers s (execPpsCompare ns s) := by
  simp [execPpsCompare]
theorem execNvmCardInsert_reach (c : Side) (card : List Host.Cell) (ok : Bool) (s : State) :
    Reach.trayOnly.Covers s (execNvmCardInsert c card ok s) := by
  simp only [execNvmCardInsert, Reach.covers_occurs]
  intro _
  have h1 : s.Within .trayOnly { s with
      tray := s.tray.setNvm c { present := true, valid := false, generation := 0, image := Memory.ofCells card } } :=
    (State.within_setTray_self ..).2 ((Tray.Keeps.refl _).setNvm c fun _ => Memory.wf_ofCells card)
  split
  · exact h1.rewriteNvm rfl c ok
  · exact h1
theorem execCoolantStopAssert_reach (fa fb : Nat) (s : State) :
    Reach.trayOnly.Covers s (execCoolantStopAssert fa fb s) := by
  simp only [execCoolantStopAssert, Reach.covers_occurs, State.within_setTray_self]
  intro _
  exact (Tray.fault_keeps _ _ _ _).2 (.inl ((Tray.overrideCores_keeps _).2 (.inl .of_eq)))
theorem execCoolantStopClear_reach (flow : Nat) (s : State) :
    Reach.trayOnly.Covers s (execCoolantStopClear flow s) := by
  simp only [execCoolantStopClear, Reach.covers_occurs, State.within_setTray_self]
  intro _
  exact (Tray.clearFault_keeps _ _ _ _).2 (.inl .of_eq)
theorem execSlotPowerupRequest_reach (n : SlotId) (flow ms : Nat) (s : State) :
    Reach.trayOnly.Covers s (execSlotPowerupRequest n flow ms s) := by
  simp only [execSlotPowerupRequest, Reach.covers_occurs, State.within_setTray_self]
  exact fun _ => Tray.Keeps.flowFields (by simp)
theorem execFlowDisagree_reach (fa fb : Nat) (s : State) :
    Reach.trayOnly.Covers s (execFlowDisagree fa fb s) := by
  simp only [execFlowDisagree, Reach.covers_occurs, State.within_setTray_self]
  intro _
  have hage : ∀ (p : Prop) [Decidable p] (t : Tray) l, t.Keeps (if p then { t with joining := l } else t) := fun p _ t l => by
    split
    · exact .of_eq
    · simp
  refine (Tray.keeps_ite _).2 ⟨fun _ => (Tray.keeps_ite _).2 ⟨fun _ => ?_, fun _ => ?_⟩, fun _ => hage ..⟩
  · exact (Tray.fault_keeps _ _ _ _).2 (.inl (hage ..))
  · exact (Tray.clearFault_keeps _ _ _ _).2 (.inl (hage ..))
theorem execLampBoardRemoved_reach (s : State) :
    Reach.trayOnly.Covers s (execLampBoardRemoved  s) := by
  simp only [execLampBoardRemoved, Reach.covers_occurs, State.within_setTray_self]
  intro _
  exact (Tray.noteStanding_keeps _).2 (.inl .of_eq)
theorem execEnvironmentOutOfRange_reach (e : EnvKind) (v : Int) (s : State) :
    Reach.trayOnly.Covers s (execEnvironmentOutOfRange e v s) := by
  simp only [execEnvironmentOutOfRange, Reach.covers_occurs, State.within_setTray_self]
  intro _
  refine (Tray.keeps_ite _).2 ⟨fun _ => (Tray.clearFault_keeps _ _ _ _).2 (.inl ?_), fun _ => (Tray.fault_keeps _ _ _ _).2 (.inl ?_)⟩
  all_goals split <;> exact .of_eq
theorem execI2cSegmentStuck_reach (n : SlotId) (ms : Nat) (s : State) :
    Reach.trayOnly.Covers s (execI2cSegmentStuck n ms s) := by
  simp [execI2cSegmentStuck]
theorem execPhaseModuleFail_reach (n : SlotId) (q : Fin 14) (s : State) :
    Reach.trayOnly.Covers s (execPhaseModuleFail n q s) := by
  simp only [execPhaseModuleFail, Reach.covers_occurs, State.within_onTray_self]
  exact fun _ => (Tray.fault_keeps _ _ _ _).2 (.inl (Tray.Keeps.unitFields (by simp)))
theorem execTrayStart_reach (ok : Bool) (s : State) :
    Reach.trayOnly.Covers s (execTrayStart ok s) := by
  simp only [execTrayStart]
  split
  · exact (Reach.covers_next ..).2 ((State.within_setTray_self ..).2 .of_eq)
  · exact (Reach.covers_occurs ..).2 fun _ => (State.within_setTray_self ..).2 .of_eq
  · exact (Reach.covers_occurs ..).2 fun _ => ((State.Within.refl _ s).readNvm rfl ok).onTray rfl .of_eq
  · split
    · exact (Reach.covers_next ..).2 ((State.within_setTray_self ..).2 (Tray.Keeps.roleFields (by simp)))
    · exact (Reach.covers_next ..).2 ((State.Within.refl _ s).readNvm rfl ok)
  · exact (Reach.covers_occurs ..).2 fun _ => (State.within_setTray_self ..).2 .of_eq
  · exact (Reach.covers_next ..).2 ((State.within_setTray_self ..).2 .of_eq)
  · exact (Reach.covers_occurs ..).2 fun _ => (State.within_setTray_self ..).2 .of_eq
  · simp
theorem execPowerUpSequence_reach (n : SlotId) (s : State) :
    Reach.trayOnly.Covers s (execPowerUpSequence n s) := by
  simp only [execPowerUpSequence]
  repeat' split
  all_goals simp
theorem execRailNotGood_reach (n : SlotId) (s : State) :
    Reach.trayOnly.Covers s (execRailNotGood n s) := by
  simp [execRailNotGood]
theorem execPowerupInhibitEnd_reach (n : SlotId) (s : State) :
    Reach.trayOnly.Covers s (execPowerupInhibitEnd n s) := by
  simp [execPowerupInhibitEnd]
theorem execGrantExchange_reach (s : State) :
    Reach.trayOnly.Covers s (execGrantExchange  s) := by
  simp only [execGrantExchange]
  repeat' split
  all_goals simp
theorem execSweepStart_reach (s : State) :
    Reach.trayOnly.Covers s (execSweepStart  s) := by
  simp only [execSweepStart]
  repeat' split
  all_goals simp
theorem execSweepBroken_reach (s : State) :
    Reach.trayOnly.Covers s (execSweepBroken  s) := by
  simp only [execSweepBroken]
  split
  · simp
  · simp only [Reach.covers_occurs, State.within_setTray_self]
    exact fun _ => (Tray.fault_keeps _ _ _ _).2 (.inl .of_eq)
theorem execRoleGrant_reach (x : Side) (s : State) :
    Reach.trayOnly.Covers s (execRoleGrant x s) := by
  simp [execRoleGrant]
theorem execHeartbeatSend_reach (x : Side) (s : State) :
    Reach.trayOnly.Covers s (execHeartbeatSend x s) := by
  simp only [execHeartbeatSend, Reach.covers_occurs, State.within_setTray_self]
  intro _
  refine (Tray.checkStandby_keeps _).2 (.inl ((Tray.keeps_ite _).2 ⟨fun _ => Tray.Keeps.handFields ?_, fun _ => ?_⟩)) <;> simp
theorem execHeartbeatReceive_reach (x : Side) (s : State) :
    Reach.trayOnly.Covers s (execHeartbeatReceive x s) := by
  simp only [execHeartbeatReceive]
  repeat' split
  all_goals simp
theorem execHeartbeatLost_reach (x : Side) (s : State) :
    Reach.trayOnly.Covers s (execHeartbeatLost x s) := by
  simp [execHeartbeatLost]
theorem execHandoverMessage_reach (s : State) :
    Reach.trayOnly.Covers s (execHandoverMessage  s) := by
  simp only [execHandoverMessage]
  split
  · exact (Reach.covers_occurs ..).2 fun _ => (State.within_setTray_self ..).2 (Tray.Keeps.handFields (by simp))
  · simp
theorem execMgmtConnect_reach (x : Side) (chain : Option Nat) (s : State) :
    Reach.trayOnly.Covers s (execMgmtConnect x chain s) := by
  simp [execMgmtConnect]
theorem execForwardTimeout_reach (x : Side) (s : State) :
    Reach.trayOnly.Covers s (execForwardTimeout x s) := by
  simp only [execForwardTimeout]
  repeat' split
  all_goals simp
theorem execUnitReadyToRemove_reach (s : State) :
    Reach.trayOnly.Covers s (execUnitReadyToRemove  s) := by
  simp only [execUnitReadyToRemove]
  split
  · simp
  · exact (Reach.covers_occurs ..).2 fun _ => (State.within_onTray_self ..).2 .of_eq
theorem execPrepareTimeout_reach (s : State) :
    Reach.trayOnly.Covers s (execPrepareTimeout  s) := by
  simp only [execPrepareTimeout]
  repeat' split
  all_goals simp
theorem execUnitInsert_reach (typ idx : Nat) (s : State) :
    Reach.trayOnly.Covers s (execUnitInsert typ idx s) := by
  simp [execUnitInsert]
theorem execUnitJoin_reach (typ idx : Nat) (s : State) :
    Reach.trayOnly.Covers s (execUnitJoin typ idx s) := by
  simp only [execUnitJoin]
  repeat' split
  all_goals simp
theorem execLampPoll_reach (s : State) :
    Reach.trayOnly.Covers s (execLampPoll  s) := by
  simp [execLampPoll]
theorem execLampDiagnosis_reach (e : LampId) (sense : LampSense) (us : Nat) (s : State) :
    Reach.trayOnly.Covers s (execLampDiagnosis e sense us s) := by
  simp [execLampDiagnosis]
theorem execProofPulse_reach (e : LampId) (sense : LampSense) (ms : Nat) (s : State) :
    Reach.trayOnly.Covers s (execProofPulse e sense ms s) := by
  simp [execProofPulse]
theorem execModAlert_reach (n : SlotId) (s : State) :
    Reach.trayOnly.Covers s (execModAlert n s) := by
  simp [execModAlert]
theorem execVidFrame_reach (n : SlotId) (frame : BitVec 16) (s : State) :
    Reach.trayOnly.Covers s (execVidFrame n frame s) := by
  simp [execVidFrame]
theorem execMeterLinkLock_reach (node : NodeId) (rev lock : Bool) (s : State) :
    Reach.trayOnly.Covers s (execMeterLinkLock node rev lock s) := by
  exact (Reach.covers_next ..).2 ((State.within_onTray_self ..).2 .of_eq)
theorem execAliveToggle_reach (s : State) :
    Reach.trayOnly.Covers s (execAliveToggle  s) := by
  simp only [execAliveToggle]
  split
  · simp
  · exact (Reach.covers_occurs ..).2 fun _ => (State.within_onTray_self ..).2 .of_eq
theorem execTrcSourceGained_reach (c : Side) (fac : Bool) (ps : Int) (s : State) :
    Reach.trayOnly.Covers s (execTrcSourceGained c fac ps s) := by
  simp [execTrcSourceGained]
theorem execTrcPartnerLost_reach (c : Side) (s : State) :
    Reach.trayOnly.Covers s (execTrcPartnerLost c s) := by
  simp [execTrcPartnerLost]

end Sys2Proof.Machine
end

section
/-! SUPPORT. The reach of each command that acts on chips and the tray, or writes host memory. -/

namespace Sys2Proof.Machine

-- In order, not in parallel: every elaborator thread that waits for another holds a stack within the check's memory limit.
set_option Elab.async false

/-! ### State operations that reach chips and the tray -/

theorem Chip.Within.power {ps : List Piece} {b c : Chip} (h : b.Within ps c) (hp : [.power] ⊆ ps) {p q : Bool} {n : Nat} :
    b.Within ps { c with powered := p, held := q, slotId := n } :=
  (Chip.step_of_piece .power (by simp) (fun x hx => by cases x <;> simp_all [Chip.sameAt]) hp).2 (.inl h)

theorem Chip.released_within (c : Chip) (n : Nat) (x : Bru) :
    c.Within [.power, .bru] { c with held := false, slotId := n, bru := x } :=
  .of_same (fun y hy => by cases y <;> simp_all [Chip.sameAt]) (by simp)

theorem Chip.Within.hif {ps : List Piece} {b c : Chip} (h : b.Within ps c) (hp : [.hif] ⊆ ps) {x : Hif} (hl : x.log = [])
    (hi : x.inbox = []) (hf : x.flashBuf = []) : b.Within ps { c with hif := x } :=
  h.trans ((Chip.within_of_hif (fun x hx => by cases x <;> simp_all [Chip.sameAt]) (fun _ => by simp [hl])
    (fun _ => by simp [hi]) (fun _ => by simp only [hf]; rfl)).mono hp)

theorem State.Within.removePower {F : Reach} {s t : State} (h : s.Within F t) (n : Nat) (hF : F.tray = true)
    (hn : F.chips n = true) (hp : restartedPieces ⊆ F.pieces) : s.Within F (t.removePower n) := by
  simp only [State.removePower]
  exact State.Within.onTray (h.onChip hn ((Chip.unpowered_step _ hp).2 (.inl (.refl _ _)))) hF (by simp)

theorem State.Within.tripBreaker {F : Reach} {s t : State} (h : s.Within F t) (n : Nat) (hF : F.tray = true)
    (hn : F.chips n = true) (hp : restartedPieces ⊆ F.pieces) : s.Within F (t.tripBreaker n) :=
  (h.removePower n hF hn hp).onTray hF (by simp)

theorem State.Within.followLines {F : Reach} {s t : State} (h : s.Within F t) (u : State) (hn : ∀ n, F.chips n = true)
    (hp : [.clk, .hif] ⊆ F.pieces) : s.Within F (u.followLines t) := by
  unfold State.followLines
  refine h.foldl (fun t x => (State.Within.refl F t).foldl (fun v n => ?_) _) _
  dsimp only
  split
  · exact (State.Within.refl F v).onChip (hn n) ((Chip.setLine_step _ _ _ hp).2 (.inl (.refl _ _)))
  · exact .refl F v

theorem State.Within.moveUpstream {F : Reach} {s t : State} (h : s.Within F t) (port : Nat) (hF : F.tray = true)
    (hn : ∀ n, F.chips n = true) (hp : [.queues, .eps, .seq, .hif] ⊆ F.pieces) : s.Within F (t.moveUpstream port) := by
  unfold State.moveUpstream
  refine State.Within.onTray (h.foldl (fun u n => ?_) _) hF .of_eq
  split
  · exact (State.Within.refl F u).onChip (hn n) ((Chip.resetHif_step _ hp).2 (.inl (.refl _ _)))
  · exact .refl F u

theorem State.Within.slotResetNow {F : Reach} {s t : State} (h : s.Within F t) (n : Nat) (hF : F.tray = true)
    (hn : F.chips n = true) (hp : restartedPieces ⊆ F.pieces) : s.Within F (t.slotResetNow n) := by
  unfold State.slotResetNow
  split
  · exact State.Within.onChip (h.onTray hF (by simp)) hn ((Chip.wholeReset_step _ _ hp).2 (.inl (.refl _ _)))
  · exact h

theorem State.Within.writeCompletion {F : Reach} {s t : State} (h : s.Within F t) (k g : Nat) (x : Completion)
    (hF : F.host = true) (hk : F.chips k = true) (hp : [.seq, .hif] ⊆ F.pieces) :
    s.Within F (t.writeCompletion k g x) := by
  refine State.Within.setHost (h.setChip hk ?_) hF (Memory.wf_write _ _ _)
  obtain ⟨hs, hh⟩ : Piece.seq ∈ F.pieces ∧ Piece.hif ∈ F.pieces := by simpa using hp
  simp [hs, hh]

/-! ### Slots and power -/

theorem execSlotOccupied_reach (n : SlotId) (m : Option ModuleNv) (s : State) :
    (Reach.chipAndTray n everyPiece).Covers s (execSlotOccupied n m s) := by
  simp only [execSlotOccupied, Reach.covers_occurs]
  intro _
  have h1 : s.Within (.chipAndTray n everyPiece) (match m with
      | some nv => s.setChip n { flash := Memory.ofCells nv.flash, otp := nv.otp }
      | none => s) := by
    split
    · refine (State.Within.refl _ s).setChip (by simp) ?_
      refine ⟨fun x hx => absurd ?_ hx, fun _ => ⟨rfl, Memory.wf_ofCells _, rfl, fun _ _ => rfl⟩, fun _ =>
        ⟨Nat.zero_le _, Nat.zero_le _, fun _ => ⟨Nat.zero_le _, Nat.zero_le _⟩⟩⟩
      cases x <;> simp [everyPiece]
    · exact .refl _ s
  refine h1.setTray rfl ((Tray.noteStanding_keeps _).2 (.inl ((Tray.keeps_ite _).2 ⟨fun _ => ?_, fun _ => ?_⟩)))
  · exact Tray.Keeps.unitFields ((Tray.onSlot_keeps _ _ _).2 (.inl (.refl _)))
  · exact (Tray.onSlot_keeps _ _ _).2 (.inl (.refl _))

theorem execPresenceLost_reach (n : SlotId) (early late : Bool) (s : State) :
    (Reach.chipAndTray n restartedPieces).Covers s (execPresenceLost n early late s) := by
  simp only [execPresenceLost, Reach.covers_occurs]
  intro _
  have h1 := (State.Within.refl (.chipAndTray n restartedPieces) s).removePower n rfl (by simp) (by simp)
  refine (State.within_ite _).2 ⟨fun _ => h1.setTray rfl (by simp), fun _ => (State.Within.refl _ s).onTray rfl (by simp)⟩

theorem execSlotRequestDeliver_reach (n : SlotId) (us : Nat) (s : State) :
    (Reach.chipAndTray n restartedPieces).Covers s (execSlotRequestDeliver n us s) := by
  simp only [execSlotRequestDeliver, Reach.covers_occurs]
  intro _
  refine State.Within.onTray ((State.within_ite _).2 ⟨fun _ => ?_, fun _ => .refl _ s⟩) rfl (by simp)
  exact (State.Within.refl _ s).slotResetNow n rfl (by simp) (by simp)

theorem execBreakerTrip_reach (n : SlotId) (s : State) :
    (Reach.chipAndTray n restartedPieces).Covers s (execBreakerTrip n s) :=
  (Reach.covers_occurs ..).2 fun _ =>
    (State.Within.refl _ s).tripBreaker n rfl (by simp) (by simp)

theorem execBusbarUndervoltage_reach (mv : Nat) (s : State) :
    (Reach.chipsAndTray restartedPieces).Covers s (execBusbarUndervoltage mv s) := by
  simp only [execBusbarUndervoltage, Reach.covers_occurs]
  exact fun _ => ((State.Within.refl _ s).onTray rfl .of_eq).foldl
    (fun t n => (State.Within.refl _ t).tripBreaker n rfl rfl (by simp)) _

theorem execRailsStable_reach (n : SlotId) (s : State) :
    (Reach.chipAndTray n restartedPieces).Covers s (execRailsStable n s) := by
  simp only [execRailsStable, Reach.covers_occurs]
  intro _
  refine State.Within.setTray ((State.Within.refl _ s).onChip (by simp) ?_) rfl (by simp)
  exact Chip.Within.power ((Chip.unpowered_step _ (by simp)).2 (.inl (.refl _ _))) (by simp)

theorem execPowerDownSequence_reach (n : SlotId) (s : State) :
    (Reach.chipAndTray n restartedPieces).Covers s (execPowerDownSequence n s) := by
  simp only [execPowerDownSequence]
  split
  · refine (Reach.covers_occurs ..).2 fun _ => ?_
    refine State.Within.onChip ((State.Within.refl _ s).onTray rfl (by simp)) (by simp) ?_
    exact Chip.Within.hif ((Chip.wholeReset_step _ _ (by simp)).2 (.inl (.refl _ _))) (by simp) rfl rfl rfl
  · exact (Reach.covers_next ..).2 ((State.Within.refl _ s).onTray rfl (by simp))
  all_goals simp

theorem execSlotFullyOff_reach (n : SlotId) (s : State) :
    (Reach.chipAndTray n restartedPieces).Covers s (execSlotFullyOff n s) := by
  simp only [execSlotFullyOff, Reach.covers_occurs]
  intro _
  refine State.Within.setTray ((State.Within.refl _ s).onChip (by simp) ?_) rfl (by simp)
  exact (Chip.unpowered_step _ (by simp)).2 (.inl (.refl _ _))

theorem execPowerOnReset_reach (k : ChipId) (s : State) :
    (Reach.chipAndTray k restartedPieces).Covers s (execPowerOnReset k s) := by
  simp only [execPowerOnReset, Reach.covers_occurs]
  intro _
  refine State.Within.onTray ((State.Within.refl _ s).onChip (by simp) ?_) rfl (by simp)
  exact Chip.Within.hif ((Chip.wholeReset_step _ _ (by simp)).2 (.inl (.refl _ _))) (by simp) rfl rfl rfl

theorem execModRstAssert_reach (k : ChipId) (s : State) :
    (Reach.chipAndTray k restartedPieces).Covers s (execModRstAssert k s) := by
  simp only [execModRstAssert, Reach.covers_occurs]
  intro _
  refine State.Within.onChip ((State.Within.refl _ s).onTray rfl (by simp)) (by simp) ?_
  exact (Chip.wholeReset_step _ _ (by simp)).2 (.inl (.refl _ _))

theorem execStartBegin_reach (k : ChipId) (s : State) :
    (Reach.chipAndTray k [.power, .clk, .bru, .hif]).Covers s (execStartBegin k s) := by
  simp only [execStartBegin, Reach.covers_occurs]
  intro _
  refine State.Within.setChip ((State.Within.refl _ s).onTray rfl (by simp)) (by simp) ?_
  refine (Chip.setLine_step _ _ _ (by simp)).2 (.inl ((Chip.setLine_step _ _ _ (by simp)).2 (.inl ?_)))
  exact ((s.chip k).released_within k _).mono (by simp)

theorem execPerstRelease_reach (k : ChipId) (s : State) :
    (Reach.chipAndTray k [.hif]).Covers s (execPerstRelease k s) := by
  simp only [execPerstRelease, Reach.covers_occurs]
  intro _
  exact State.Within.onChip ((State.Within.refl _ s).onTray rfl (by simp)) (by simp) (by simp)

theorem execHifReset_reach (k : ChipId) (cause : HifCause) (s : State) :
    (Reach.chipAndTray k [.queues, .eps, .seq, .hif]).Covers s (execHifReset k cause s) := by
  simp only [execHifReset, Reach.covers_occurs]
  intro _
  exact State.Within.setChip ((State.Within.refl _ s).onTray rfl (by simp)) (by simp) (by simp)

theorem execStepRailCheck_reach (k : ChipId) (uv : List Nat) (s : State) :
    (Reach.chipAndTray k [.clk, .hif]).Covers s (execStepRailCheck k uv s) := by
  simp only [execStepRailCheck, Reach.covers_occurs]
  intro _
  exact State.Within.setChip ((State.Within.refl _ s).onTray rfl (by simp)) (by simp) (by simp)

/-! ### Cards, uplinks and chip-to-chip writes -/

theorem execTrcOutputEnable_reach (c : Side) (ns warm : Nat) (s : State) :
    (Reach.chipsAndTray [.clk, .hif]).Covers s (execTrcOutputEnable c ns warm s) := by
  simp only [execTrcOutputEnable, Reach.covers_occurs]
  exact fun _ => ((State.Within.refl _ s).setTray rfl (by simp)).followLines s (fun _ => rfl) (by simp)

theorem execUnitRemoved_reach (typ idx : Nat) (s : State) :
    (Reach.chipsAndTray [.clk, .hif]).Covers s (execUnitRemoved typ idx s) := by
  simp only [execUnitRemoved, Reach.covers_occurs]
  exact fun _ => ((State.Within.refl _ s).onTray rfl (by simp)).followLines s (fun _ => rfl) (by simp)

theorem execUpstreamFailover_reach (ms : Nat) (s : State) :
    (Reach.chipsAndTray [.queues, .eps, .seq, .hif]).Covers s (execUpstreamFailover ms s) := by
  simp only [execUpstreamFailover, Reach.covers_occurs]
  exact fun _ => ((State.Within.refl _ s).moveUpstream 1 rfl (fun _ => rfl) (by simp)).setTray rfl (by simp)

theorem execP2pWriteForward_reach (k : ChipId) (s : State) :
    Reach.Covers { pieces := [.hif], chips := fun _ => true, tray := false, host := false } s (execP2pWriteForward k s) := by
  simp only [execP2pWriteForward]
  split
  · simp
  · refine (Reach.covers_occurs ..).2 fun _ => (State.within_ite _).2 ⟨fun _ => ?_, fun _ => ?_⟩
    · exact State.Within.onChip ((State.Within.refl _ s).onChip rfl (by simp)) rfl (by simp)
    · exact (State.Within.refl _ s).onChip rfl (by simp)

/-! ### Places: a chip or a TMC -/

/-- The chip of a place. -/
def placeHas (pl : Place) (n : Nat) : Bool :=
  match pl with
  | .chip k => n == k.val
  | .tmc _ => false

/-- The reach of a command of a place. -/
@[simps] def Reach.place (pl : Place) (ps : List Piece) : Reach :=
  { pieces := ps, chips := placeHas pl, tray := true, host := false }

theorem boundaryAt_reach (pl : Place) (cycles : List Nat) (held : Bool) (s : State) :
    (Reach.place pl [.time, .clk, .tickDue, .gens, .regions, .tiles, .posns, .xng, .queues, .eps, .links, .chans, .seq,
      .stew, .bru, .img, .hif, .dissolves]).Covers s (boundaryAt pl cycles held s) := by
  unfold boundaryAt
  split
  · refine (Reach.covers_occurs ..).2 fun _ => (State.Within.refl _ s).setChip (by simp [placeHas]) ?_
    simp
  · exact (Reach.covers_occurs ..).2 fun _ => (State.Within.refl _ s).setTray rfl (by simp)

theorem execPpsEdge_reach (pl : Place) (line : Side) (pos : Nat) (cycles : List Nat) (s : State) :
    (Reach.place pl [.time, .clk, .tickDue, .gens, .regions, .tiles, .posns, .xng, .queues, .eps, .links, .chans, .seq,
      .stew, .bru, .img, .hif, .dissolves]).Covers s (execPpsEdge pl line pos cycles s) := by
  unfold execPpsEdge
  split
  · refine (Reach.covers_occurs ..).2 fun _ => (State.Within.refl _ s).setChip (by simp [placeHas]) ?_
    simp
  · exact (Reach.covers_occurs ..).2 fun _ => (State.Within.refl _ s).onTray rfl (by simp)

theorem execPpsLost_reach (pl : Place) (s : State) : (Reach.place pl [.time, .hif]).Covers s (execPpsLost pl s) := by
  unfold execPpsLost
  split
  · refine (Reach.covers_occurs ..).2 fun _ => (State.Within.refl _ s).onChip (by simp [placeHas]) ?_
    simp
  · exact (Reach.covers_occurs ..).2 fun _ => (State.Within.refl _ s).onTray rfl (by simp)

/-! ### The meter ring -/

theorem State.passNode_within (s : State) (node : NodeId) (rev out : Bool) (meas mv : List Nat) (crcOk : Bool) (hnode : node.val ≠ 0) :
    s.Within { pieces := [.stew, .hif], chips := fun n => node.val == 2 * n + 2, tray := true, host := false }
      (s.passNode node rev out meas mv crcOk) := by
  unfold State.passNode
  split
  · exact (State.Within.refl _ s).onTray rfl .of_eq
  next heven =>
    dsimp only
    split
    · exact (State.Within.refl _ s).onTray rfl .of_eq
    · refine State.Within.onTray ((State.Within.refl _ s).setChip (by simp; omega) ?_) rfl .of_eq
      split <;> simp

theorem execMeterFramePass_reach (node : NodeId) (rev : Bool) (meas mv : List Nat) (crcOk : Bool) (s : State) :
    Reach.Covers { pieces := [.stew, .hif], chips := fun n => node.val == 2 * n + 2, tray := true, host := false } s
      (execMeterFramePass node rev meas mv crcOk s) := by
  unfold execMeterFramePass
  split
  · simp
  · split
    · split
      · simp
      · refine (Reach.covers_next ..).2 ((State.Within.refl _ s).setTray rfl ?_)
        have hring : ∀ r, s.tray.Keeps { s.tray with ring := r } := fun _ => .of_eq
        have htake : ∀ r, s.tray.Keeps (if crcOk then ({ s.tray with ring := r } : Tray).takeReports
            else ({ s.tray with ring := r } : Tray).fault .nrg 6 noInstance) := fun r => by
          refine (Tray.keeps_ite _).2 ⟨fun _ => (Tray.takeReports_keeps _).2 (.inl (hring r)), fun _ => ?_⟩
          exact (Tray.fault_keeps _ _ _ _).2 (.inl (hring r))
        exact (Tray.keeps_ite _).2 ⟨fun _ => (Tray.endSweep_keeps _ _).2 (.inl (htake _)), fun _ => htake _⟩
    next hnode =>
      split
      · simp
      · exact (Reach.covers_next ..).2 (s.passNode_within node _ _ _ _ _ hnode)
      · exact (Reach.covers_next ..).2 (s.passNode_within node _ _ _ _ _ hnode)

/-! ### Host memory -/

theorem execSessionRead_reach (k : ChipId) (g : RingId) (s : State) :
    (Reach.chipAndHost k [.mem, .seq, .stew, .hif]).Covers s (execSessionRead k g s) := by
  simp only [execSessionRead]
  split
  · simp
  · refine (Reach.covers_occurs ..).2 fun _ => (State.within_ite _).2 ⟨fun _ => ?_, fun _ => ?_⟩
    · exact (State.Within.refl _ s).setChip (by simp) (by simp)
    · refine State.Within.setHost ((State.Within.refl _ s).setChip (by simp) ?_) rfl (Memory.wf_write _ _ _)
      simp

theorem execResidencyRead_reach (k : ChipId) (g : RingId) (s : State) :
    (Reach.chipAndHost k [.seq, .stew, .hif]).Covers s (execResidencyRead k g s) := by
  simp only [execResidencyRead]
  split
  · simp
  · refine (Reach.covers_occurs ..).2 fun _ => ?_
    refine State.Within.setHost ((State.Within.refl _ s).setChip (by simp) ?_) rfl (Memory.wf_write _ _ _)
    simp

theorem execEnergyReadResult_reach (k : ChipId) (g : RingId) (s : State) :
    (Reach.chipAndHost k [.seq, .stew, .hif]).Covers s (execEnergyReadResult k g s) := by
  simp only [execEnergyReadResult]
  split
  · refine (Reach.covers_occurs ..).2 fun _ => ?_
    refine State.Within.setHost ((State.Within.refl _ s).setChip (by simp) ?_) rfl (Memory.wf_write _ _ _)
    simp
  · simp

theorem execCompletionWrite_reach (k : ChipId) (g : RingId) (s : State) :
    (Reach.chipAndHost k [.seq, .stew, .hif]).Covers s (execCompletionWrite k g s) := by
  simp only [execCompletionWrite]
  split
  · simp
  · split
    · refine (Reach.covers_occurs ..).2 fun _ => State.Within.writeCompletion
        ((State.Within.refl _ s).setChip (by simp) ?_) _ _ _ rfl (by simp)
        (by simp)
      simp
    · exact (Reach.covers_occurs ..).2 fun _ =>
        (State.Within.refl _ s).setChip (by simp) (by simp)

theorem execHoldRelease_reach (k : ChipId) (g : RingId) (s : State) :
    (Reach.chipAndHost k [.seq, .stew, .hif]).Covers s (execHoldRelease k g s) := by
  simp only [execHoldRelease]
  split
  · simp
  · refine (Reach.covers_occurs ..).2 fun _ => State.Within.writeCompletion
      ((State.Within.refl _ s).setChip (by simp) ?_) _ _ _ rfl (by simp)
      (by simp)
    simp

end Sys2Proof.Machine
end

section
/-! SUPPORT. The reach of the management commands, by the command that a TMC runs. -/

namespace Sys2Proof.Machine

-- In order, not in parallel: every elaborator thread that waits for another holds a stack within the check's memory limit.
set_option Elab.async false

/-! ### Management commands -/

theorem State.Within.replaceTray {F : Reach} {s t : State} (h : s.Within F t) (hF : F.tray = true) {u : Tray}
    (hu : s.tray.Keeps u) : s.Within F { t with tray := u } :=
  { h with
    tray := by simp [hF]
    trayKeeps := hu }

theorem Tray.Keeps.endWrite {b t : Tray} (h : b.Keeps t) {d : Bool} {n : Nat} :
    b.Keeps { t with nvmWrite := none, handDefer := d, handAt := n } :=
  (h.nvmWrite (w := none) fun _ => nofun).trans .of_eq

theorem Tray.Keeps.wrote {b t : Tray} (h : b.Keeps t) (x : Side) :
    b.Keeps ((t.setNvm x { t.nvm x with valid := true }).clearFault .try_ 15 x.ix) :=
  (Tray.clearFault_keeps _ _ _ _).2 (.inl ((Tray.setNvm_keeps t x { t.nvm x with valid := true } rfl).2 (.inl h)))

section
variable {F : Reach} {s t : State} (h : s.Within F t) (hF : F.tray = true)
include h hF

theorem State.Within.finishWrite (x : Side) {im : List Host.Cell} (good : Bool)
    (hi : s.tray.Canonical → Memory.wf im = true) : s.Within F (t.finishWrite x im good) := by
  refine h.replaceTray hF (Tray.Keeps.endWrite ?_)
  split
  · exact h.trayKeeps.useImage hi
  · exact h.trayKeeps

theorem State.Within.missWrite (x : Side) (n : Nat) : s.Within F ((t.spoilNvm x n).onTray (fun t =>
    t.faultIf (!t.faulty .try_ 15 x.ix) .try_ 15 x.ix)) :=
  (h.spoilNvm hF x n).onTray hF (by simp)

theorem State.Within.continueWrite (x : Side) {w : NvmWrite} (reads : List Bool)
    (hw : s.tray.Canonical → Memory.wf w.image = true) : s.Within F (t.continueWrite x w reads).1 := by
  unfold State.continueWrite
  split
  · exact h.replaceTray hF (h.trayKeeps.nvmWrite fun hb v hv => by cases hv; exact hw hb)
  next ok rest =>
    extract_lets card good s1 w2 s2
    have h1 : s.Within F s1 := by
      refine (State.within_ite _).2 ⟨fun _ => ?_, fun _ => (State.within_ite _).2 ⟨fun _ => ?_, fun _ => h⟩⟩
      · exact h.onTray hF ((Tray.Keeps.refl _).wrote card)
      · exact h.missWrite hF card w.len
    split
    · exact h1.finishWrite hF x true hw
    · split
      · exact h1.finishWrite hF x false hw
      · split
        · exact h1.finishWrite hF x true hw
        · have h2 : s.Within F s2 := h1.replaceTray hF (h1.trayKeeps.putImage _ hw)
          split
          · exact h2.replaceTray hF (h2.trayKeeps.nvmWrite fun hb v hv => by cases hv; exact hw hb)
          · extract_lets s3
            have h3 : s.Within F s3 := by
              refine (State.within_ite _).2 ⟨fun _ => ?_, fun _ => ?_⟩
              · exact h2.onTray hF ((Tray.Keeps.refl _).wrote _)
              · exact h2.missWrite hF _ w.len
            exact h3.finishWrite hF x true hw

theorem State.Within.adopt (x : Side) (q : MgmtReq) (len : Nat) (reads : List Bool) :
    s.Within F (t.adopt x q len reads).1 := by
  unfold State.adopt
  extract_lets u im m v useB first w
  have hi : s.tray.Canonical → Memory.wf im = true := fun hb =>
    Memory.wfFrom_filter 0 _ _ (h.trayKeeps.canonical hb).1
  split
  · exact h
  · split
    · exact h
    · exact (h.replaceTray hF (h.trayKeeps.putImage _ hi)).continueWrite hF x reads hi

end

/-- What a management command that a TMC runs may change. -/
def svcReach (cmd : SvcCmd) : Reach :=
  match cmd with
  | .unitPrepare _ _ => .chipsAndTray [.clk, .hif]
  | .chipRestart n => .chipAndTray n restartedPieces
  | .switchUpstream _ => .chipsAndTray [.queues, .eps, .seq, .hif]
  | _ => .trayOnly

@[simp] theorem svcReach_tray (cmd : SvcCmd) : (svcReach cmd).tray = true := by
  cases cmd <;> rfl
@[simp] theorem svcReach_host (cmd : SvcCmd) : (svcReach cmd).host = false := by
  cases cmd <;> rfl

theorem State.onTrayWith_within {F : Reach} {s : State} (hF : F.tray = true) {r : Tray × Answer} (hr : s.tray.Keeps r.1) :
    s.Within F (s.onTrayWith r).1 :=
  (State.Within.refl F s).setTray hF hr

theorem State.runActive_within (s : State) (x : Side) (q : MgmtReq) (cmd : SvcCmd) :
    s.Within (svcReach cmd) (s.runActive x q cmd).1 := by
  have hrefl := State.Within.refl (svcReach cmd) s
  cases cmd with
  | unitPrepare typ i =>
    simp only [State.runActive]
    split
    · exact hrefl
    · split
      · exact hrefl.setTray rfl (by simp)
      · exact (hrefl.setTray rfl (by simp)).followLines s (fun _ => rfl) (by simp [svcReach])
  | unitResume typ i =>
    simp only [State.runActive]
    split
    · exact State.onTrayWith_within rfl (by simp)
    · exact hrefl
  | slotPower n on => exact State.onTrayWith_within rfl (by simp)
  | slotReset n =>
    simp only [State.runActive]
    split
    · exact State.onTrayWith_within rfl (by simp)
    · exact hrefl
  | chipRestart n =>
    simp only [State.runActive, State.chipRestart]
    split
    · exact hrefl
    · split
      · exact hrefl
      · have hrestart : (s.chip n).Within restartedPieces (if (s.chip n).bru.stuck then s.chip n else (s.chip n).restart 2) := by simp
        exact hrefl.onChip (f := fun c => if c.bru.stuck then c else c.restart 2) (by simp [svcReach]) hrestart
  | imageWrite off data =>
    simp only [State.runActive]
    split
    · exact hrefl
    · refine State.onTrayWith_within rfl ⟨fun ht => ?_, id⟩
      exact ⟨Memory.wf_write _ _ _ ht.1, ht.2⟩
  | imageAdopt len reads => exact hrefl.adopt rfl x q len reads
  | switchUpstream port =>
    simp only [State.runActive, State.switchUpstream]
    split
    · exact hrefl
    · exact (hrefl.moveUpstream port rfl (fun _ => rfl) (by simp [svcReach])).onTray rfl (by simp)
  | timeLoad ep => exact State.onTrayWith_within rfl (by simp)
  | locate on =>
    simp only [State.runActive]
    split
    · exact hrefl
    · exact State.onTrayWith_within rfl ((Tray.drivePatterns_keeps _).2 (.inl .of_eq))
  | lampTest samples => exact State.onTrayWith_within rfl (by simp)
  | lampLevel pct =>
    simp only [State.runActive]
    split
    · exact hrefl
    · exact State.onTrayWith_within rfl .of_eq
  | caInstall idx cert => exact State.onTrayWith_within rfl (by simp)
  | caRemove idx => exact State.onTrayWith_within rfl (by simp)
  | trayStatus => exact hrefl
  | faultLog _ => exact hrefl
  | meterStatus => exact hrefl
  | lampStatus => exact hrefl
  | roleSwap _ => exact hrefl
  | bad _ => exact hrefl

theorem State.execute_within (s : State) (x : Side) (q : MgmtReq) (cmd : SvcCmd) :
    s.Within (svcReach cmd) (s.execute x q cmd) := by
  have h := s.runActive_within x q cmd
  unfold State.execute
  split
  next s1 a he =>
    rw [he] at h
    exact h.onTray (svcReach_tray cmd) (by simp)
  next s1 he =>
    rw [he] at h
    exact h

theorem Tray.Keeps.heldCmds {b t : Tray} (h : b.Keeps t) {l : List (MgmtReq × SvcCmd)} : b.Keeps { t with heldCmds := l } :=
  h.trans .of_eq

theorem State.serve_within (s : State) (q : MgmtReq) (cmd : SvcCmd) : s.Within (svcReach cmd) (s.serve q cmd) := by
  unfold State.serve
  extract_lets s0
  have h0 : s.Within (svcReach cmd) s0 := (State.Within.refl _ s).onTray (svcReach_tray cmd) (by simp)
  split
  · exact h0.onTray (svcReach_tray _) (by simp)
  · split
    · exact h0.onTray (svcReach_tray cmd) (by simp)
    · split
      · split
        · exact h0.onTray (svcReach_tray cmd) .of_eq
        · split
          · exact h0.trans (State.execute_within _ _ _ _)
          · exact h0.onTray (svcReach_tray cmd) (by simp)
      · exact h0.onTray (svcReach_tray cmd) (by simp)

/-- A management request of a TMC reaches what its command reaches. -/
theorem mgmt_reach (q : MgmtReq) (cmd : SvcCmd) (s : State) : (svcReach cmd).Covers s (mgmt q cmd s) :=
  (Reach.covers_occurs ..).2 fun _ => s.serve_within q cmd

/-- The reach of a command that runs what management requests it finds. -/
abbrev Reach.managed : Reach := .chipsAndTray restartedPieces

theorem State.Within.managed {cmd : SvcCmd} {s t : State} (h : s.Within (svcReach cmd) t) : s.Within .managed t where
  pending := h.pending
  host _ := h.host (svcReach_host cmd)
  hostCanonical := h.hostCanonical
  tray := nofun
  trayKeeps := h.trayKeeps
  chips _ := nofun
  chip n := (h.chip n).mono (by cases cmd <;> simp [svcReach])

theorem State.runList_within (s : State) (x : Side) (cmds : List (MgmtReq × SvcCmd)) :
    s.Within .managed (s.runList x cmds) := by
  induction cmds generalizing s with
  | nil => exact .refl _ s
  | cons e rest ih =>
    simp only [State.runList]
    split
    · exact (State.Within.refl _ s).onTray rfl .of_eq
    · refine State.Within.trans ?_ (ih _)
      split
      · exact (State.Within.refl _ s).onTray rfl (by simp)
      · exact (s.execute_within x e.1 _).managed

theorem State.runHeld_within (s : State) (x : Side) : s.Within .managed (s.runHeld x) :=
  State.Within.trans ((State.Within.refl _ s).onTray rfl .of_eq) (State.runList_within _ _ _)

theorem State.resumeWrite_within (s : State) (x : Side) {w : NvmWrite} (reads : List Bool) (hw : s.tray.nvmWrite = some w) :
    s.Within .managed (s.resumeWrite x w reads) := by
  have h := (State.Within.refl .managed s).continueWrite rfl x reads (w := w) fun ht => ht.2.2.2.2 w hw
  unfold State.resumeWrite
  split
  next s1 he =>
    rw [he] at h
    exact h
  next s1 a he =>
    rw [he] at h
    have h2 : s.Within .managed (s1.onTray (fun t => t.respond w.req 0x31 a)) := h.onTray rfl (by simp)
    dsimp only
    split
    · exact h2
    · exact h2.trans (State.runHeld_within _ _)

theorem State.handoverStep_within {s u : State} {x : Side} {e : Nat} (hu : s.handoverStep x e = some u) :
    s.Within .managed u := by
  have hrefl := State.Within.refl .managed s
  have hput : ∀ t : Tray, s.tray.Keeps t → s.Within .managed { s with tray := t } := fun t ht => hrefl.setTray rfl ht
  unfold State.handoverStep at hu
  dsimp only at hu
  split at hu
  · cases hu
  · split at hu
    · cases hu
    · split at hu
      · split at hu
        · cases hu
        · cases hu
          exact hput _ .of_eq
      · split at hu
        · cases hu
          exact hput _ .of_eq
        · cases hu
          exact hput _ (by simp)
  · split at hu
    · cases hu
    · cases hu
      exact hput _ .of_eq
  · split at hu
    · cases hu
    · cases hu
      exact (hput _ (by simp)).trans (State.runHeld_within _ _)
  · split at hu
    · cases hu
    · cases hu
      exact hput _ (by simp)
  · split at hu
    · cases hu
    · cases hu
      exact (State.Within.onTray (hput _ .of_eq) rfl (by simp)).trans (State.runHeld_within _ _)

theorem State.failover_within (s : State) (y : Side) (ok : Bool) : s.Within .trayOnly (s.failover y ok) := by
  unfold State.failover
  extract_lets t lost t1 t2 t3 src t4
  have h1 : s.tray.Keeps t1 := .of_eq
  have h2 : s.tray.Keeps t2 := by
    simp only [t2]
    split
    · exact (Tray.takeMirror_keeps _ _).2 (.inl h1)
    · exact h1
  have h3 : s.tray.Keeps t3 := by simp [t3, h2]
  have h4 : s.tray.Keeps t4 := h3.trans .of_eq
  exact (State.Within.readNvm ((State.Within.refl _ s).setTray rfl (by simp [h4])) rfl ok).onTray rfl (by simp)

theorem execRoleFailover_reach (ok : Bool) (s : State) : Reach.trayOnly.Covers s (execRoleFailover ok s) := by
  unfold execRoleFailover
  dsimp only
  split
  · simp
  · exact (Reach.covers_occurs ..).2 fun _ => s.failover_within _ ok

theorem execHandover_reach (s : State) : Reach.managed.Covers s (execHandover s) := by
  unfold execHandover
  split
  · simp
  · split
    · simp
    next u hu => exact (Reach.covers_occurs ..).2 fun _ => State.handoverStep_within hu

theorem execMgmtDoorbell_reach (x : Side) (frame : List Byte) (samples : List LampSense) (reads : List Bool) (s : State) :
    Reach.managed.Covers s (execMgmtDoorbell x frame samples reads s) := by
  unfold execMgmtDoorbell
  refine (Reach.covers_occurs ..).2 fun _ => ?_
  have h1 : s.Within .managed (s.onTray (fun t => t.onTmc x (fun m => { m with request := frame }))) :=
    (State.Within.refl _ s).onTray rfl (by simp)
  exact (State.within_ite _).2 ⟨fun _ => h1, fun _ => h1.trans (State.serve_within _ _ _).managed⟩

theorem execTrayImageAdopt_reach (q : MgmtReq) (len : Nat) (reads : List Bool) (s : State) :
    Reach.managed.Covers s (execTrayImageAdopt q len reads s) := by
  have hmgmt : Reach.managed.Covers s (mgmt q (.imageAdopt len reads) s) :=
    (Reach.covers_occurs ..).2 fun _ => (s.serve_within q _).managed
  unfold execTrayImageAdopt
  split
  next w x hw _ =>
    split
    · exact (Reach.covers_occurs ..).2 fun _ => s.resumeWrite_within x reads hw
    · exact hmgmt
  · exact hmgmt

end Sys2Proof.Machine
end

section
/-! SUPPORT. Every command keeps to its reach. -/

namespace Sys2Proof.Machine

-- In order, not in parallel: every elaborator thread that waits for another holds a stack within the check's memory limit.
set_option Elab.async false

/-- Every command answers a next state within its reach. -/
theorem exec_reach (i : Instr) (s : State) : (reachOf i).Covers s (exec i s) :=
  match i with
  | .slotOccupied n m => execSlotOccupied_reach n m s
  | .presenceLost n early late => execPresenceLost_reach n early late s
  | .slotBypassLeave n => execSlotBypassLeave_reach n s
  | .slotRequestDeliver n us => execSlotRequestDeliver_reach n us s
  | .breakerTrip n => execBreakerTrip_reach n s
  | .busbarUndervoltage mv => execBusbarUndervoltage_reach mv s
  | .facilityInputLost c ps => execFacilityInputLost_reach c ps s
  | .trcOutputEnable c ns warm => execTrcOutputEnable_reach c ns warm s
  | .ppsCompare ns => execPpsCompare_reach ns s
  | .nvmCardInsert c card ok => execNvmCardInsert_reach c card ok s
  | .upstreamFailover ms => execUpstreamFailover_reach ms s
  | .p2pWriteForward k => execP2pWriteForward_reach k s
  | .coolantStopAssert fa fb => execCoolantStopAssert_reach fa fb s
  | .coolantStopClear flow => execCoolantStopClear_reach flow s
  | .slotPowerupRequest n flow ms => execSlotPowerupRequest_reach n flow ms s
  | .flowDisagree fa fb => execFlowDisagree_reach fa fb s
  | .lampBoardRemoved => execLampBoardRemoved_reach s
  | .environmentOutOfRange e v => execEnvironmentOutOfRange_reach e v s
  | .i2cSegmentStuck n ms => execI2cSegmentStuck_reach n ms s
  | .phaseModuleFail n q => execPhaseModuleFail_reach n q s
  | .trayStart ok => execTrayStart_reach ok s
  | .powerUpSequence n => execPowerUpSequence_reach n s
  | .railNotGood n => execRailNotGood_reach n s
  | .railsStable n => execRailsStable_reach n s
  | .powerDownSequence n => execPowerDownSequence_reach n s
  | .slotFullyOff n => execSlotFullyOff_reach n s
  | .powerupInhibitEnd n => execPowerupInhibitEnd_reach n s
  | .powerOnReset k => execPowerOnReset_reach k s
  | .modRstAssert k => execModRstAssert_reach k s
  | .startBegin k => execStartBegin_reach k s
  | .startPhaseAdvance k => execStartPhaseAdvance_reach k s
  | .selftestComplete k fails => execSelftestComplete_reach k fails s
  | .channelTrainingFail k c => execChannelTrainingFail_reach k c s
  | .readyPoint k => execReadyPoint_reach k s
  | .startTimeout k => execStartTimeout_reach k s
  | .perstRelease k => execPerstRelease_reach k s
  | .restart k i2c => execRestart_reach k i2c s
  | .epochBoundary pl cycles => boundaryAt_reach pl cycles _ s
  | .frameTick k => execFrameTick_reach k s
  | .ppsEdge pl line pos cycles => execPpsEdge_reach pl line pos cycles s
  | .ppsHoldEnd pl cycles => boundaryAt_reach pl cycles _ s
  | .ppsLost pl => execPpsLost_reach pl s
  | .epochLoadArm k v => execEpochLoadArm_reach k v s
  | .refSwitch k => execRefSwitch_reach k s
  | .referenceInvalid k line ns duty => execReferenceInvalid_reach k line ns duty s
  | .freqWindowEnd k line ppm => execFreqWindowEnd_reach k line ppm s
  | .referenceQualified k line => execReferenceQualified_reach k line s
  | .freqHoldEnd k => execFreqHoldEnd_reach k s
  | .refPllLocked k => execRefPllLocked_reach k s
  | .holdoverExit k => execHoldoverExit_reach k s
  | .holdoverTimeout k => execHoldoverTimeout_reach k s
  | .noReferenceTimeout k => execNoReferenceTimeout_reach k s
  | .guardCalibrate k => execGuardCalibrate_reach k s
  | .generatorStart k r => execGeneratorStart_reach k r s
  | .calComplete k r => execCalComplete_reach k r s
  | .generatorLocked k r => execGeneratorLocked_reach k r s
  | .lockLost k r => execLockLost_reach k r s
  | .stretchEvent k r fs => execStretchEvent_reach k r fs s
  | .generatorJitterFault k r duty changes => execGeneratorJitterFault_reach k r duty changes s
  | .stepVoltageRaise k => execStepVoltageRaise_reach k s
  | .stepRailCheck k uv => execStepRailCheck_reach k uv s
  | .stepSlewStart k => execStepSlewStart_reach k s
  | .stepSubstep k j => execStepSubstep_reach k j s
  | .stepSlewEnd k => execStepSlewEnd_reach k s
  | .stepLowerDone k => execStepLowerDone_reach k s
  | .stepCancelSettled k => execStepCancelSettled_reach k s
  | .gangSkewFault k r ps cycles => execGangSkewFault_reach k r ps cycles s
  | .gangSkewHalt k r ps pos cycles => execGangSkewHalt_reach k r ps pos cycles s
  | .gangMemberDeskewed k r ps steps => execGangMemberDeskewed_reach k r ps steps s
  | .gangDissolveApply k m => execGangDissolveApply_reach k m s
  | .gangDissolveTimeout k m => execGangDissolveTimeout_reach k m s
  | .tileFailed k r q => execTileFailed_reach k r q s
  | .memoryUe k r p off reader rewriteOk residue => execMemoryUe_reach k r p off reader rewriteOk residue s
  | .residueError k r p => execResidueError_reach k r p s
  | .sequencerHang k r p => execSequencerHang_reach k r p s
  | .scrubLine k r p corrected => execScrubLine_reach k r p corrected s
  | .ceRateFault k r p => execCeRateFault_reach k r p s
  | .xngCalibration k trips => execXngCalibration_reach k trips s
  | .xngCalibrationDone k => execXngCalibrationDone_reach k s
  | .xngCalibrationTimeout k => execXngCalibrationTimeout_reach k s
  | .queuePush k q seen at_ => execQueuePush_reach k q seen at_ s
  | .queuePop k q seen at_ => execQueuePop_reach k q seen at_ s
  | .fixedItemRelease k r lane src seen at_ => execFixedItemRelease_reach k r lane src seen at_ s
  | .regionIsolate k r => execRegionIsolate_reach k r s
  | .isolationSinkAccept k r lane => execIsolationSinkAccept_reach k r lane s
  | .queueReset k q writer => execQueueReset_reach k q writer s
  | .queueRipSeen k q writer => execQueueRipSeen_reach k q writer s
  | .queueAckSeen k q writer => execQueueAckSeen_reach k q writer s
  | .handshakeTimeout k q => execHandshakeTimeout_reach k q s
  | .isolationEnd k r => execIsolationEnd_reach k r s
  | .spineStartCheck k back => execSpineStartCheck_reach k back s
  | .messageInject k m at_ => execMessageInject_reach k m at_ s
  | .routerForward k r d => execRouterForward_reach k r d s
  | .rspArrive k e => execRspArrive_reach k e s
  | .rspTimeout k e tag => execRspTimeout_reach k e tag s
  | .wseqResync k e => execWseqResync_reach k e s
  | .flitUncorrectable k r d => execFlitUncorrectable_reach k r d s
  | .laneStallTimeout k r d lane => execLaneStallTimeout_reach k r d lane s
  | .linkCeRate k r d n => execLinkCeRate_reach k r d n s
  | .commit k => execCommit_reach k s
  | .commitCancel k => execCommitCancel_reach k s
  | .stage k => execStage_reach k s
  | .stageComplete k => execStageComplete_reach k s
  | .abandon k => execAbandon_reach k s
  | .commitApply k programOk => execCommitApply_reach k programOk s
  | .rollStepStart k => execRollStepStart_reach k s
  | .rollStepApply k copyUe => execRollStepApply_reach k copyUe s
  | .rollForcedDrain k => execRollForcedDrain_reach k s
  | .rollSingleTimeout k => execRollSingleTimeout_reach k s
  | .rollStepEnd k => execRollStepEnd_reach k s
  | .tileWrite k r => execTileWrite_reach k r s
  | .tileRead k r => execTileRead_reach k r s
  | .start k r => execStart_reach k r s
  | .matrix k r p => execMatrix_reach k r p s
  | .prescan k r p => execPrescan_reach k r p s
  | .convert k r p => execConvert_reach k r p s
  | .move k r p => execMove_reach k r p s
  | .gather k r p => execGather_reach k r p s
  | .scatter k r p => execScatter_reach k r p s
  | .selectSkewer k r p => execSelectSkewer_reach k r p s
  | .selectColander k r p => execSelectColander_reach k r p s
  | .collectiveArm k r p => execCollectiveArm_reach k r p s
  | .collectiveSend k r p => execCollectiveSend_reach k r p s
  | .collectiveWait k r p => execCollectiveWait_reach k r p s
  | .collectiveDisarm k r p => execCollectiveDisarm_reach k r p s
  | .collectiveTimeout k r p => execCollectiveTimeout_reach k r p s
  | .collect k r => execCollect_reach k r s
  | .collectResend k r p => execCollectResend_reach k r p s
  | .signalAdd k r p => execSignalAdd_reach k r p s
  | .signalSet k r p => execSignalSet_reach k r p s
  | .wait k r p => execWait_reach k r p s
  | .waitRetry k r p => execWaitRetry_reach k r p s
  | .waitReservationTimeout k r p => execWaitReservationTimeout_reach k r p s
  | .loop k r p => execLoop_reach k r p s
  | .call k r p => execCall_reach k r p s
  | .ret k r p => execRet_reach k r p s
  | .fence k r p => execFence_reach k r p s
  | .flush k e => execFlush_reach k e s
  | .itemEnd k r p => execItemEnd_reach k r p s
  | .ld k r p => execLd_reach k r p s
  | .st k r p => execSt_reach k r p s
  | .iadd k r p => execIadd_reach k r p s
  | .isub k r p => execIsub_reach k r p s
  | .imul k r p => execImul_reach k r p s
  | .imin k r p => execImin_reach k r p s
  | .imax k r p => execImax_reach k r p s
  | .and k r p => execAnd_reach k r p s
  | .or k r p => execOr_reach k r p s
  | .xor k r p => execXor_reach k r p s
  | .shl k r p => execShl_reach k r p s
  | .shr k r p => execShr_reach k r p s
  | .sar k r p => execSar_reach k r p s
  | .icmplt k r p => execIcmplt_reach k r p s
  | .fadd k r p => execFadd_reach k r p s
  | .fsub k r p => execFsub_reach k r p s
  | .fmul k r p => execFmul_reach k r p s
  | .fma k r p => execFma_reach k r p s
  | .fmin k r p => execFmin_reach k r p s
  | .fmax k r p => execFmax_reach k r p s
  | .fcmplt k r p => execFcmplt_reach k r p s
  | .recip k r p => execRecip_reach k r p s
  | .rsqrt k r p => execRsqrt_reach k r p s
  | .sqrt k r p => execSqrt_reach k r p s
  | .exp2 k r p => execExp2_reach k r p s
  | .log2 k r p => execLog2_reach k r p s
  | .perm k r p => execPerm_reach k r p s
  | .bcast k r p => execBcast_reach k r p s
  | .lshift k r p => execLshift_reach k r p s
  | .sel k r p => execSel_reach k r p s
  | .rsum k r p => execRsum_reach k r p s
  | .rmax k r p => execRmax_reach k r p s
  | .rmin k r p => execRmin_reach k r p s
  | .cvt k r p => execCvt_reach k r p s
  | .setaImm k r p => execSetaImm_reach k r p s
  | .setaV k r p => execSetaV_reach k r p s
  | .evtAdd k => execEvtAdd_reach k s
  | .evtSet k => execEvtSet_reach k s
  | .evtWaitGe k => execEvtWaitGe_reach k s
  | .ctrRead k => execCtrRead_reach k s
  | .waiterTimeout k src tag => execWaiterTimeout_reach k src tag s
  | .evtOwnerWrite k n v => execEvtOwnerWrite_reach k n v s
  | .openSession k g => execOpenSession_reach k g s
  | .arm k g => execArm_reach k g s
  | .armPredict k g => execArmPredict_reach k g s
  | .confirm k g => execConfirm_reach k g s
  | .cancel k g => execCancel_reach k g s
  | .close k g => execClose_reach k g s
  | .sessionRead k g => execSessionRead_reach k g s
  | .modelLoad k g => execModelLoad_reach k g s
  | .modelLoadCopyDone k g ok => execModelLoadCopyDone_reach k g ok s
  | .tileReload k g => execTileReload_reach k g s
  | .residencyRead k g => execResidencyRead_reach k g s
  | .energyRead k g => execEnergyRead_reach k g s
  | .energyCapture k => execEnergyCapture_reach k s
  | .energyReadResult k g => execEnergyReadResult_reach k g s
  | .counterAdd k g => execCounterAdd_reach k g s
  | .counterSet k g => execCounterSet_reach k g s
  | .counterWaitGe k g => execCounterWaitGe_reach k g s
  | .counterRead k g => execCounterRead_reach k g s
  | .nop k g => execNop_reach k g s
  | .admission k p => execAdmission_reach k p s
  | .stageStart k item => execStageStart_reach k item s
  | .itemEndReport k => execItemEndReport_reach k s
  | .runaheadDeadline k n => execRunaheadDeadline_reach k n s
  | .arbiterCycle k c busy err => execArbiterCycle_reach k c busy err s
  | .memoryWrite k c => execMemoryWrite_reach k c s
  | .memoryRead k c => execMemoryRead_reach k c s
  | .void k c => execVoid_reach k c s
  | .readGroupComplete k c => execReadGroupComplete_reach k c s
  | .ecsRead k c count => execEcsRead_reach k c count s
  | .repeatRateFault k c => execRepeatRateFault_reach k c s
  | .powerEvaluation k act => execPowerEvaluation_reach k act s
  | .tempSample k temps pos cycles => execTempSample_reach k temps pos cycles s
  | .tripRestart k r => execTripRestart_reach k r s
  | .coolantStop k ns pos cycles => execCoolantStop_reach k ns pos cycles s
  | .coolantStopRelease k => execCoolantStopRelease_reach k s
  | .coolantResumeStart k => execCoolantResumeStart_reach k s
  | .grantExchange => execGrantExchange_reach s
  | .grantFallApply k => execGrantFallApply_reach k s
  | .grantRiseApply k => execGrantRiseApply_reach k s
  | .grantStale k => execGrantStale_reach k s
  | .sweepStart => execSweepStart_reach s
  | .meterFramePass node rev meas mv crcOk => execMeterFramePass_reach node rev meas mv crcOk s
  | .sweepBroken => execSweepBroken_reach s
  | .energyBooking k => execEnergyBooking_reach k s
  | .gainUpdate k => execGainUpdate_reach k s
  | .bar0Write k off wide v => execBar0Write_reach k off wide v s
  | .mgmtI2cAccess k off v => execMgmtI2cAccess_reach k off v s
  | .bar2Write k off data en => execBar2Write_reach k off data en s
  | .bar2Read k off n => execBar2Read_reach k off n s
  | .cmdTailWrite k g v => execCmdTailWrite_reach k g v s
  | .cplHeadWrite k g v => execCplHeadWrite_reach k g v s
  | .commandFetch k g entry => execCommandFetch_reach k g entry s
  | .ringEnable k g => execRingEnable_reach k g s
  | .ringDisable k g => execRingDisable_reach k g s
  | .completionWrite k g => execCompletionWrite_reach k g s
  | .holdRelease k g => execHoldRelease_reach k g s
  | .ringAccessError k g => execRingAccessError_reach k g s
  | .msixMessage k v => execMsixMessage_reach k v s
  | .flashProgram k => execFlashProgram_reach k s
  | .flashRead k => execFlashRead_reach k s
  | .flashDone k ok => execFlashDone_reach k ok s
  | .xdmaCollect k => execXdmaCollect_reach k s
  | .inboxWrite k data => execInboxWrite_reach k data s
  | .inboxResend k n => execInboxResend_reach k n s
  | .inboxExpire k n => execInboxExpire_reach k n s
  | .hifReset k cause => execHifReset_reach k cause s
  | .roleGrant x => execRoleGrant_reach x s
  | .roleFailover ok => execRoleFailover_reach ok s
  | .heartbeatSend x => execHeartbeatSend_reach x s
  | .heartbeatReceive x => execHeartbeatReceive_reach x s
  | .heartbeatLost x => execHeartbeatLost_reach x s
  | .handover => execHandover_reach s
  | .handoverMessage => execHandoverMessage_reach s
  | .mgmtDoorbell x frame samples ok => execMgmtDoorbell_reach x frame samples ok s
  | .mgmtConnect x chain => execMgmtConnect_reach x chain s
  | .forwardTimeout x => execForwardTimeout_reach x s
  | .trayStatus .. => mgmt_reach _ _ s
  | .faultLog .. => mgmt_reach _ _ s
  | .meterStatus .. => mgmt_reach _ _ s
  | .lampStatus .. => mgmt_reach _ _ s
  | .roleSwap .. => mgmt_reach _ _ s
  | .unitPrepare .. => mgmt_reach _ _ s
  | .unitReadyToRemove => execUnitReadyToRemove_reach s
  | .prepareTimeout => execPrepareTimeout_reach s
  | .unitResume .. => mgmt_reach _ _ s
  | .unitInsert typ idx => execUnitInsert_reach typ idx s
  | .unitJoin typ idx => execUnitJoin_reach typ idx s
  | .slotPower .. => mgmt_reach _ _ s
  | .slotReset .. => mgmt_reach _ _ s
  | .chipRestart .. => mgmt_reach _ _ s
  | .trayImageWrite .. => mgmt_reach _ _ s
  | .trayImageAdopt q len writeOk => execTrayImageAdopt_reach q len writeOk s
  | .switchUpstream .. => mgmt_reach _ _ s
  | .timeLoad .. => mgmt_reach _ _ s
  | .locate .. => mgmt_reach _ _ s
  | .lampTest .. => mgmt_reach _ _ s
  | .lampLevel .. => mgmt_reach _ _ s
  | .caInstall .. => mgmt_reach _ _ s
  | .caRemove .. => mgmt_reach _ _ s
  | .lampPoll => execLampPoll_reach s
  | .lampDiagnosis e sense us => execLampDiagnosis_reach e sense us s
  | .proofPulse e sense ms => execProofPulse_reach e sense ms s
  | .modAlert n => execModAlert_reach n s
  | .vidFrame n frame => execVidFrame_reach n frame s
  | .tileReloadCopyDone k g ok => execTileReloadCopyDone_reach k g ok s
  | .invalidOp k r p => execInvalidOp_reach k r p s
  | .readWithClear k off wide => execReadWithClear_reach k off wide s
  | .d3hotTransition k d3 => execD3hotTransition_reach k d3 s
  | .meterLinkLock node rev lock => execMeterLinkLock_reach node rev lock s
  | .aliveToggle => execAliveToggle_reach s
  | .trcSourceGained c fac ps => execTrcSourceGained_reach c fac ps s
  | .trcPartnerLost c => execTrcPartnerLost_reach c s
  | .unitRemoved typ idx => execUnitRemoved_reach typ idx s

end Sys2Proof.Machine
end

section
/-! Proofs of this sitting's obligations about every command and every step: what it may change, and the invariants. -/

namespace Sys2Proof.Machine

-- In order, not in parallel: every elaborator thread that waits for another holds a stack within the check's memory limit.
set_option Elab.async false

theorem exec_within {i : Instr} {s t : State} (h : exec i s = .next t) : s.Within (reachOf i) t := by
  obtain ⟨u, hu, hw⟩ := exec_reach i s
  cases h.symm.trans hu
  exact hw

theorem State.Within.memoriesCanonical {F : Reach} {s t : State} (h : s.Within F t) (hs : MemoriesCanonical s) :
    MemoriesCanonical t := by
  obtain ⟨hhost, h1, h2, h3, h4, h5, hchips⟩ := hs
  obtain ⟨g1, g2, g3, g4, g5⟩ := h.trayKeeps.canonical ⟨h1, h2, h3, h4, h5⟩
  exact ⟨h.hostCanonical hhost, g1, g2, g3, g4, g5, fun n => (h.chip n).canonical (hchips n)⟩

theorem State.Within.storesBounded {F : Reach} {s t : State} (h : s.Within F t) (hs : StoresBounded s) :
    StoresBounded t :=
  ⟨h.trayKeeps.bounded hs.1, fun n => (h.chip n).bounded (hs.2 n)⟩

/-- A step leaves the state as it is, or runs the front command on the state with the queue's rest. -/
theorem step_cases {s t : State} (h : step s = .next t) :
    t = s ∨ ∃ i rest, s.pending = i :: rest ∧ exec i { s with pending := rest } = .next t := by
  unfold step at h
  split at h
  · cases h
    exact .inl rfl
  next i rest hq => exact .inr ⟨i, rest, hq, h⟩

/-- Settles O51: each operation of the model writes memory through `Memory.write`, `writeEnabled`, `clear` or `ofCells`, or
moves a memory that stands; the commands' reaches carry that to the step. -/
theorem stepKeepsMemoriesCanonical : Obligations.StepKeepsMemoriesCanonical := by
  intro s t hs hstep
  obtain rfl | ⟨i, rest, -, hexec⟩ := step_cases hstep
  · exact hs
  · exact (exec_within hexec).memoriesCanonical hs

/-- Settles O52: a log is cut at its size, and a store, a shelf and an inbox take an entry only where they have room. -/
theorem stepKeepsStoresBounded : Obligations.StepKeepsStoresBounded := by
  intro s t hs hstep
  obtain rfl | ⟨i, rest, -, hexec⟩ := step_cases hstep
  · exact hs
  · exact (exec_within hexec).storesBounded hs

/-- Settles O50: no command stops with a fault or a refusal (log entry 2), and none writes the queue (log entry 1). -/
theorem everyCommandCompletes : Obligations.EveryCommandCompletes := by
  intro i s
  obtain ⟨t, hnext, hw⟩ := exec_reach i s
  exact ⟨t, hnext, hw.pending⟩

/-- Settles O54, by the reach of each command. -/
theorem commandsReachOnlyTheirUnit : Obligations.CommandsReachOnlyTheirUnit := by
  intro i s t h
  have hw := exec_within h
  exact ⟨fun n => hw.chips n, hw.tray, hw.host⟩

/-- Settles O55, by the pieces of each command's reach. -/
theorem descriptorCommandsFrame : Obligations.DescriptorCommandsFrame :=
  fun _ _ _ _ h n x => ((exec_within h).chip n).same x

/-- Settles O56, by the pieces of each command's reach. -/
theorem chipCommandsFrame : Obligations.ChipCommandsFrame :=
  fun _ _ _ _ h n x => ((exec_within h).chip n).same x

end Sys2Proof.Machine
end

section
/-! LEMMAS. The vector operations (R321 to R324, R375, R376): what an issue leaves of a tile's vector registers, and
the lanes that each operation of Table OPS-7 writes. Settles O18, O19, O20 and O57. -/

namespace Sys2Proof.Machine

-- In order, not in parallel: every elaborator thread that waits for another holds a stack within the check's memory limit.
set_option Elab.async false

/-! ## What an issue leaves of a tile -/

@[simp] theorem Tile.goTo_vreg (x : Tile) (ls : List LoopFrame) (pc : Nat) : (x.goTo ls pc).vreg = x.vreg := by
  induction ls generalizing x with
  | nil => rfl
  | cons f ls ih => simp only [Tile.goTo]; split_ifs <;> simp [ih]

@[simp] theorem Tile.goTo_engines (x : Tile) (ls : List LoopFrame) (pc : Nat) : (x.goTo ls pc).engines = x.engines := by
  induction ls generalizing x with
  | nil => rfl
  | cons f ls ih => simp only [Tile.goTo]; split_ifs <;> simp [ih]

@[simp] theorem Tile.goTo_calls (x : Tile) (ls : List LoopFrame) (pc : Nat) : (x.goTo ls pc).calls = x.calls := by
  induction ls generalizing x with
  | nil => rfl
  | cons f ls ih => simp only [Tile.goTo]; split_ifs <;> simp [ih]

/-- Where the innermost loop does not end at `pc`, an address register keeps its value. -/
theorem Tile.goTo_a_of_stop_ne (x : Tile) (ls : List LoopFrame) (pc : Nat)
    (h : ∀ f, ls.head? = some f → f.stop ≠ pc) : (x.goTo ls pc).a = x.a := by
  cases ls with
  | nil => rfl
  | cons f ls => simp [Tile.goTo, h f rfl]

@[simp] theorem Tile.issuedNext_vreg (x : Tile) (d : List Nat) : (x.issuedNext d).vreg = x.vreg := by
  simp [Tile.issuedNext, Tile.issuedTo]

@[simp] theorem Tile.issuedNext_engines (x : Tile) (d : List Nat) : (x.issuedNext d).engines = x.engines := by
  simp [Tile.issuedNext, Tile.issuedTo]

@[simp] theorem Tile.issuedNext_calls (x : Tile) (d : List Nat) : (x.issuedNext d).calls = x.calls := by
  simp [Tile.issuedNext, Tile.issuedTo]

theorem Tile.issuedNext_a_of_stop_ne (x : Tile) (d : List Nat)
    (h : ∀ f, x.loops.head? = some f → f.stop ≠ x.pc + 64) : (x.issuedNext d).a = x.a := by
  simp [Tile.issuedNext, Tile.issuedTo, Tile.goTo_a_of_stop_ne _ _ _ h]

@[simp] theorem Tile.lane_countVop (x : Tile) (v n : Nat) : x.countVop.lane v n = x.lane v n := rfl

@[simp] theorem Tile.lane_countLines (x : Tile) (o l v n : Nat) : (x.countLines o l).lane v n = x.lane v n := by
  simp only [Tile.countLines, Tile.lane]; split <;> rfl

@[simp] theorem Tile.lane_issuedNext (x : Tile) (d : List Nat) (v n : Nat) : (x.issuedNext d).lane v n = x.lane v n := by
  simp [Tile.lane]

@[simp] theorem Tile.countLines_engines (x : Tile) (o l : Nat) : (x.countLines o l).engines = x.engines := by
  simp only [Tile.countLines]; split <;> rfl

@[simp] theorem Tile.countLines_calls (x : Tile) (o l : Nat) : (x.countLines o l).calls = x.calls := by
  simp only [Tile.countLines]; split <;> rfl

/-! ## A vector register written whole -/

/-- Lane `n` after the first `m` lanes of register `v` are written. -/
theorem Bank.get_setLanes (b : Bank Word) (v w n m : Nat) (f : Nat → Word) (hm : m ≤ 64) (hn : n < 64) :
    ((List.range m).foldl (fun b i => b.set (64 * v + i) (f i)) b).get 0 (64 * w + n) =
      if w = v ∧ n < m then f n else b.get 0 (64 * w + n) := by
  induction m with
  | zero => simp
  | succ m ih =>
    rw [List.range_succ, List.foldl_append, List.foldl_cons, List.foldl_nil, Bank.get_set, ih (by omega)]
    by_cases h : 64 * w + n = 64 * v + m
    · obtain ⟨rfl, rfl⟩ : w = v ∧ n = m := by omega
      simp
    · rw [if_neg h]
      congr 1
      exact propext ⟨fun ⟨hw, hl⟩ => ⟨hw, by omega⟩, fun ⟨hw, hl⟩ => ⟨hw, by subst hw; omega⟩⟩

theorem Tile.lane_setVec (x : Tile) (v w n : Nat) (ls : List Nat) (hn : n < 64) :
    (x.setVec v ls).lane w n = if w = v then BitVec.ofNat 32 (ls.getD n 0) else x.lane w n := by
  simp only [Tile.lane, Tile.setVec, Bank.get_setLanes _ _ _ _ 64 (fun i => BitVec.ofNat 32 (ls.getD i 0)) le_rfl hn,
    hn, and_true]

@[simp] theorem Tile.setVec_engines (x : Tile) (v : Nat) (ls : List Nat) : (x.setVec v ls).engines = x.engines := by simp [Tile.setVec]
@[simp] theorem Tile.setVec_calls (x : Tile) (v : Nat) (ls : List Nat) : (x.setVec v ls).calls = x.calls := by simp [Tile.setVec]
@[simp] theorem Tile.countVop_engines (x : Tile) : x.countVop.engines = x.engines := rfl
@[simp] theorem Tile.countVop_calls (x : Tile) : x.countVop.calls = x.calls := rfl

/-! ## The tiles of a chip after an issue -/

/-- What an error at issue leaves: the vector registers, the engines and the call stack of its tile, and every other
tile. -/
theorem Chip.tile_itemError_other (c : Chip) (r p code q : Nat) (h : q ≠ tileIx r p) :
    (c.itemError r p code).tile q = c.tile q := by
  simp [Chip.itemError, Chip.itemErrorAt, h]

@[simp] theorem Chip.lane_itemError (c : Chip) (r p code v n : Nat) :
    ((c.itemError r p code).tile (tileIx r p)).lane v n = (c.tile (tileIx r p)).lane v n := by
  simp [Chip.itemError, Chip.itemErrorAt, Tile.lane]

@[simp] theorem Chip.engines_itemError (c : Chip) (r p code : Nat) :
    ((c.itemError r p code).tile (tileIx r p)).engines = (c.tile (tileIx r p)).engines := by
  simp [Chip.itemError, Chip.itemErrorAt]

@[simp] theorem Chip.calls_itemError (c : Chip) (r p code : Nat) :
    ((c.itemError r p code).tile (tileIx r p)).calls = (c.tile (tileIx r p)).calls := by
  simp [Chip.itemError, Chip.itemErrorAt]

theorem Chip.tile_raiseFlags_other (c : Chip) (r p fl q : Nat) (h : q ≠ tileIx r p) :
    (c.raiseFlags r p fl).tile q = c.tile q := by
  simp only [Chip.raiseFlags]; split <;> simp [h]

@[simp] theorem Chip.lane_raiseFlags (c : Chip) (r p fl v n : Nat) :
    ((c.raiseFlags r p fl).tile (tileIx r p)).lane v n = (c.tile (tileIx r p)).lane v n := by
  simp only [Chip.raiseFlags]; split <;> simp [Tile.lane]

@[simp] theorem Chip.engines_raiseFlags (c : Chip) (r p fl : Nat) :
    ((c.raiseFlags r p fl).tile (tileIx r p)).engines = (c.tile (tileIx r p)).engines := by
  simp only [Chip.raiseFlags]; split <;> simp

@[simp] theorem Chip.calls_raiseFlags (c : Chip) (r p fl : Nat) :
    ((c.raiseFlags r p fl).tile (tileIx r p)).calls = (c.tile (tileIx r p)).calls := by
  simp only [Chip.raiseFlags]; split <;> simp

/-! ## Operands as lists of numbers -/

@[simp] theorem Tile.vec_length (x : Tile) (v : Nat) : (x.vec v).length = 64 := by simp [Tile.vec]

theorem Tile.vec_getD (x : Tile) (v n : Nat) (hn : n < 64) : (x.vec v).getD n 0 = (x.lane v n).toNat := by
  simp [Tile.vec, Tile.lane, List.getD, hn]

@[simp] theorem Tile.vecA_length (x : Tile) (d : List Nat) : (x.vecA d).length = 64 := x.vec_length _
@[simp] theorem Tile.vecC_length (x : Tile) (d : List Nat) : (x.vecC d).length = 64 := x.vec_length _

@[simp] theorem Tile.vecB_length (x : Tile) (d : List Nat) : (x.vecB d).length = 64 := by
  simp only [Tile.vecB]; split <;> simp

theorem Tile.vecA_eq_range (x : Tile) (d : List Nat) :
    x.vecA d = (List.range 64).map fun n => (x.lane (va d) n).toNat := rfl

theorem imm_lt (d : List Nat) : imm d < 2 ^ 32 := Nat.mod_lt _ (by decide)

theorem Tile.vecB_eq_range (x : Tile) (d : List Nat) :
    x.vecB d = (List.range 64).map fun n => (x.laneB d n).toNat := by
  by_cases h : useImm d = true
  · simp only [Tile.vecB, Tile.laneB, h, if_true, BitVec.toNat_ofNat, Nat.mod_eq_of_lt (imm_lt d)]
    rw [List.map_const', List.length_range]
  · simp [Tile.vecB, Tile.laneB, h, Tile.vec, Tile.lane]

theorem Tile.vecC_eq_range (x : Tile) (d : List Nat) :
    x.vecC d = (List.range 64).map fun n => (x.lane (vc d) n).toNat := rfl

/-- Lane `n` of a list written lane by lane. -/
theorem getD_map_range (f : Nat → Nat) (n : Nat) (hn : n < 64) : ((List.range 64).map f).getD n 0 = f n := by
  simp [List.getD, hn]

theorem lanes1_getD (f : Nat → Nat) (x : Tile) (d : List Nat) (n : Nat) (hn : n < 64) :
    (lanes1 f x d).getD n 0 = f (x.lane (va d) n).toNat := by
  rw [lanes1, Tile.vecA_eq_range, List.map_map]
  exact getD_map_range _ n hn

theorem lanes2_getD (f : Nat → Nat → Nat) (x : Tile) (d : List Nat) (n : Nat) (hn : n < 64) :
    (lanes2 f x d).getD n 0 = f (x.lane (va d) n).toNat (x.laneB d n).toNat := by
  rw [lanes2, Tile.vecA_eq_range, Tile.vecB_eq_range, List.zipWith_map, List.zipWith_self]
  exact getD_map_range _ n hn

theorem lanes3_getD (f : Nat → Nat → Nat → Nat) (x : Tile) (d : List Nat) (n : Nat) (hn : n < 64) :
    (lanes3 f x d).getD n 0 = f (x.lane (va d) n).toNat (x.laneB d n).toNat (x.lane (vc d) n).toNat := by
  rw [lanes3, Tile.vecA_eq_range, Tile.vecB_eq_range, Tile.vecC_eq_range, List.zip_map', List.zipWith_map,
    List.zipWith_self]
  exact getD_map_range _ n hn

theorem reduced_getD (f : Nat → Nat → Nat) (x : Tile) (d : List Nat) (n : Nat) :
    (reduced f x d).getD n 0 =
      if n = 0 then reduceLanes f ((List.range 64).map fun n => (x.lane (va d) n).toNat) else 0 := by
  cases n with
  | zero => rfl
  | succ n =>
    rw [reduced, List.getD_cons_succ, if_neg (Nat.succ_ne_zero n)]
    rcases lt_or_ge n 63 with h | h
    · exact List.getD_replicate _ h
    · exact List.getD_eq_default _ _ (by simpa using h)

/-! ## Numbers as words of 32 bits -/

theorem signed_toNat (a : Word) : signed 32 a.toNat = a.toInt := by
  rw [signed, BitVec.toInt_eq_toNat_cond]
  have h := a.isLt
  split <;> split <;> omega

/-! ## One issue of a register operation -/

theorem vectorReserved_err (d : List Nat) (h : vectorReserved d = false) :
    firstError [(vectorReserved d, eReserved)] = 0 := by
  simp [firstError, h]

/-- A register operation leaves at lane `n` of VD what its function gives. -/
theorem lanesAfter_vectorStep {i : Instr} {k : ChipId} {r : RegionId} {p : TileId} {code : Nat}
    {f : Tile → List Nat → List Nat} {s : State} {g : Nat → Word} (hi : exec i s = vectorStep k r p code f s)
    (h : VectorRuns k r p code s)
    (hf : ∀ n < 64, BitVec.ofNat 32
      ((f ((s.chip k).tile (tileIx r p)) ((s.chip k).desc r p)).getD n 0) = g n) :
    LanesAfter i k r p s g := by
  obtain ⟨hat, hres⟩ := h
  refine ⟨_, hi.trans (by rw [vectorStep, hat, occurs_true]), fun n hn => ?_⟩
  simpa [Chip.issueOp, vectorReserved_err _ hres, Tile.lane_setVec, hn] using hf n hn

/-! ## Integer lanes as operations on words -/

theorem ofNat_iadd (a b : Word) : BitVec.ofNat 32 (iadd a.toNat b.toNat) = a + b := by
  apply BitVec.eq_of_toNat_eq; simp [iadd]

theorem ofNat_isub (a b : Word) : BitVec.ofNat 32 (isub a.toNat b.toNat) = a - b := by
  apply BitVec.eq_of_toNat_eq
  have := b.isLt
  simp [isub, BitVec.toNat_sub]; omega

theorem ofNat_imul (a b : Word) : BitVec.ofNat 32 (imul a.toNat b.toNat) = a * b := by
  apply BitVec.eq_of_toNat_eq; simp [imul]

theorem ofNat_imin (a b : Word) : BitVec.ofNat 32 (imin a.toNat b.toNat) = if a.sle b then a else b := by
  simp only [imin, signed_toNat, BitVec.sle]
  by_cases h : a.toInt ≤ b.toInt <;> simp [h]

theorem ofNat_imax (a b : Word) : BitVec.ofNat 32 (imax a.toNat b.toNat) = if a.sle b then b else a := by
  simp only [imax, signed_toNat, BitVec.sle]
  rcases lt_trichotomy a.toInt b.toInt with h | h | h
  · simp [h.le, not_le.2 h]
  · simp [BitVec.eq_of_toInt_eq h]
  · simp [h.le, not_le.2 h]

theorem ofNat_iand (a b : Word) : BitVec.ofNat 32 (iand a.toNat b.toNat) = a &&& b := by
  show BitVec.ofNat 32 (a.toNat &&& b.toNat) = _
  rw [← BitVec.toNat_and, BitVec.ofNat_toNat, BitVec.setWidth_eq]

theorem ofNat_ior (a b : Word) : BitVec.ofNat 32 (ior a.toNat b.toNat) = a ||| b := by
  show BitVec.ofNat 32 (a.toNat ||| b.toNat) = _
  rw [← BitVec.toNat_or, BitVec.ofNat_toNat, BitVec.setWidth_eq]

theorem ofNat_ixor (a b : Word) : BitVec.ofNat 32 (ixor a.toNat b.toNat) = a ^^^ b := by
  show BitVec.ofNat 32 (a.toNat ^^^ b.toNat) = _
  rw [← BitVec.toNat_xor, BitVec.ofNat_toNat, BitVec.setWidth_eq]

theorem ofNat_ishl (a b : Word) : BitVec.ofNat 32 (ishl a.toNat b.toNat) = a <<< b.toNat := by
  apply BitVec.eq_of_toNat_eq
  rcases lt_or_ge b.toNat 32 with h | h
  · simp [ishl, h, Nat.shiftLeft_eq]
  · rw [BitVec.shiftLeft_eq_zero h]
    simp [ishl, not_lt.2 h]

theorem ofNat_ishr (a b : Word) : BitVec.ofNat 32 (ishr a.toNat b.toNat) = a >>> b.toNat := by
  apply BitVec.eq_of_toNat_eq
  have ha := a.isLt
  rcases lt_or_ge b.toNat 32 with h | h
  · simp only [ishr, h, if_true, BitVec.toNat_ofNat, BitVec.toNat_ushiftRight, Nat.shiftRight_eq_div_pow]
    exact Nat.mod_eq_of_lt ((Nat.div_le_self _ _).trans_lt ha)
  · simp only [ishr, not_lt.2 h, if_false, BitVec.toNat_ofNat, BitVec.toNat_ushiftRight, Nat.shiftRight_eq_div_pow]
    exact (Nat.div_eq_of_lt (ha.trans_le (Nat.pow_le_pow_right (by decide) h))).symm

/-- A shift by 31 or more leaves the sign alone. -/
theorem toInt_ediv_two_pow_min (a : Word) (n : Nat) :
    a.toInt / ((2 ^ min n 31 : Nat) : Int) = a.toInt / ((2 ^ n : Nat) : Int) := by
  rcases le_total n 31 with h | h
  · rw [min_eq_left h]
  · rw [min_eq_right h]
    have hp : ((2 ^ 31 : Nat) : Int) ≤ ((2 ^ n : Nat) : Int) := by
      exact_mod_cast Nat.pow_le_pow_right (by decide) h
    have hlo : -2 ^ 31 ≤ a.toInt := BitVec.le_toInt a
    have hhi : a.toInt < 2 ^ 31 := BitVec.toInt_lt
    rcases lt_or_ge a.toInt 0 with hs | hs
    · rw [Int.ediv_eq_neg_one_of_neg_of_le hs (by push_cast; omega),
        Int.ediv_eq_neg_one_of_neg_of_le hs (by push_cast at *; omega)]
    · rw [Int.ediv_eq_zero_of_lt hs (by push_cast; omega), Int.ediv_eq_zero_of_lt hs (by push_cast at *; omega)]

theorem ofNat_isar (a b : Word) : BitVec.ofNat 32 (isar a.toNat b.toNat) = a.sshiftRight b.toNat := by
  rw [isar, signed_toNat, toInt_ediv_two_pow_min, BitVec.sshiftRight, Int.shiftRight_eq_div_pow]
  apply BitVec.eq_of_toNat_eq
  rw [unsigned, BitVec.toNat_ofInt, BitVec.toNat_ofNat]
  omega

theorem ofNat_icmplt (a b : Word) : BitVec.ofNat 32 (icmplt a.toNat b.toNat) = if a.slt b then 1 else 0 := by
  simp only [icmplt, signed_toNat, BitVec.slt]
  by_cases h : a.toInt < b.toInt <;> simp [h]

/-! ## Lane moves and lane functions -/

/-- An operation on the lanes of VA, of VA and VB, and of VA, VB and VC, as words. -/
theorem lanesAfter_lanes1 {i : Instr} {k : ChipId} {r : RegionId} {p : TileId} {code : Nat} {f : Nat → Nat} {s : State}
    (hi : exec i s = vectorStep k r p code (lanes1 f) s) (h : VectorRuns k r p code s) :
    LanesAfter i k r p s fun n => BitVec.ofNat 32
      (f (((s.chip k).tile (tileIx r p)).lane (va ((s.chip k).desc r p)) n).toNat) :=
  lanesAfter_vectorStep hi h fun n hn => by rw [lanes1_getD _ _ _ _ hn]

theorem lanesAfter_lanes2 {i : Instr} {k : ChipId} {r : RegionId} {p : TileId} {code : Nat} {f : Nat → Nat → Nat}
    {s : State} (hi : exec i s = vectorStep k r p code (lanes2 f) s) (h : VectorRuns k r p code s) :
    LanesAfter i k r p s fun n => BitVec.ofNat 32
      (f (((s.chip k).tile (tileIx r p)).lane (va ((s.chip k).desc r p)) n).toNat
        (((s.chip k).tile (tileIx r p)).laneB ((s.chip k).desc r p) n).toNat) :=
  lanesAfter_vectorStep hi h fun n hn => by rw [lanes2_getD _ _ _ _ hn]

theorem lanesAfter_lanes3 {i : Instr} {k : ChipId} {r : RegionId} {p : TileId} {code : Nat} {f : Nat → Nat → Nat → Nat}
    {s : State} (hi : exec i s = vectorStep k r p code (lanes3 f) s) (h : VectorRuns k r p code s) :
    LanesAfter i k r p s fun n => BitVec.ofNat 32
      (f (((s.chip k).tile (tileIx r p)).lane (va ((s.chip k).desc r p)) n).toNat
        (((s.chip k).tile (tileIx r p)).laneB ((s.chip k).desc r p) n).toNat
        (((s.chip k).tile (tileIx r p)).lane (vc ((s.chip k).desc r p)) n).toNat) :=
  lanesAfter_vectorStep hi h fun n hn => by rw [lanes3_getD _ _ _ _ hn]

theorem lanesAfter_reduced {i : Instr} {k : ChipId} {r : RegionId} {p : TileId} {code : Nat} {f : Nat → Nat → Nat}
    {s : State} (hi : exec i s = vectorStep k r p code (reduced f) s) (h : VectorRuns k r p code s) :
    LanesAfter i k r p s fun n => if n = 0 then BitVec.ofNat 32 (reduceLanes f ((List.range 64).map fun n =>
      (((s.chip k).tile (tileIx r p)).lane (va ((s.chip k).desc r p)) n).toNat)) else 0 :=
  lanesAfter_vectorStep hi h fun n _ => by rw [reduced_getD]; split <;> rfl

/-- A claim on lanes follows from one with equal words. -/
theorem LanesAfter.congr {i : Instr} {k : ChipId} {r : RegionId} {p : TileId} {s : State} {f g : Nat → Word}
    (h : LanesAfter i k r p s f) (hfg : ∀ n, f n = g n) : LanesAfter i k r p s g := by
  rwa [← funext hfg]

theorem permLanes_getD (x : Tile) (d : List Nat) (n : Nat) (hn : n < 64) :
    (permLanes x d).getD n 0 = (x.lane (va d) ((x.laneB d n).toNat % 64)).toNat := by
  rw [permLanes, Tile.vecB_eq_range, List.map_map, getD_map_range _ n hn]
  exact x.vec_getD _ _ (Nat.mod_lt _ (by decide))

theorem bcastLanes_getD (x : Tile) (d : List Nat) (n : Nat) (hn : n < 64) :
    (bcastLanes x d).getD n 0 = (x.lane (va d) (imm d % 64)).toNat := by
  rw [bcastLanes, List.getD_replicate _ hn]
  exact x.vec_getD _ _ (Nat.mod_lt _ (by decide))

theorem lshiftLanes_getD (x : Tile) (d : List Nat) (n : Nat) (hn : n < 64) :
    (lshiftLanes x d).getD n 0 =
      if 0 ≤ (n : Int) - signed 32 (imm d) ∧ (n : Int) - signed 32 (imm d) < 64
      then (x.lane (va d) ((n : Int) - signed 32 (imm d)).toNat).toNat else 0 := by
  have hr : (do let a ← List.range 64; pure (a : Int)) = (List.range 64).map fun a : Nat => (a : Int) :=
    List.flatMap_pure_eq_map _ _
  rw [lshiftLanes, hr, List.map_map, getD_map_range _ n hn]
  simp only [Function.comp_apply]
  split
  next h => exact x.vec_getD _ _ (by omega)
  next => rfl

theorem ofNat_toNat_word (a : Word) : BitVec.ofNat 32 a.toNat = a := by simp

/-- SEL takes VA where VC's word is not zero. -/
theorem ofNat_selLane (a b c : Word) : BitVec.ofNat 32 (selLane a.toNat b.toNat c.toNat) = if c ≠ 0 then a else b := by
  have h : c.toNat ≠ 0 ↔ c ≠ 0 := not_congr (BitVec.toNat_eq (y := 0#32)).symm
  simp only [selLane, h]
  split <;> exact ofNat_toNat_word _

/-- Settles O18. -/
theorem lanesAreExact : Obligations.LanesAreExact := by
  refine ⟨fun k r p s => ⟨?_, ?_, ?_, ?_, ?_, ?_, ?_, ?_, ?_, ?_, ?_, ?_⟩, fun k r p s => ⟨?_, ?_, ?_, ?_⟩⟩ <;> intro h
  · exact (lanesAfter_lanes2 rfl h).congr fun n => ofNat_iadd _ _
  · exact (lanesAfter_lanes2 rfl h).congr fun n => ofNat_isub _ _
  · exact (lanesAfter_lanes2 rfl h).congr fun n => ofNat_imul _ _
  · exact (lanesAfter_lanes2 rfl h).congr fun n => ofNat_imin _ _
  · exact (lanesAfter_lanes2 rfl h).congr fun n => ofNat_imax _ _
  · exact (lanesAfter_lanes2 rfl h).congr fun n => ofNat_iand _ _
  · exact (lanesAfter_lanes2 rfl h).congr fun n => ofNat_ior _ _
  · exact (lanesAfter_lanes2 rfl h).congr fun n => ofNat_ixor _ _
  · exact (lanesAfter_lanes2 rfl h).congr fun n => ofNat_ishl _ _
  · exact (lanesAfter_lanes2 rfl h).congr fun n => ofNat_ishr _ _
  · exact (lanesAfter_lanes2 rfl h).congr fun n => ofNat_isar _ _
  · exact (lanesAfter_lanes2 rfl h).congr fun n => ofNat_icmplt _ _
  · exact lanesAfter_vectorStep rfl h fun n hn => by rw [permLanes_getD _ _ _ hn, ofNat_toNat_word]
  · exact lanesAfter_vectorStep rfl h fun n hn => by rw [bcastLanes_getD _ _ _ hn, ofNat_toNat_word]
  · exact lanesAfter_vectorStep rfl h fun n hn => by
      rw [lshiftLanes_getD _ _ _ hn]
      split <;> simp
  · exact (lanesAfter_lanes3 rfl h).congr fun n => ofNat_selLane _ _ _

/-! ## CVT, LD, ST and SETA -/

theorem lanesAfter_cvt {k : ChipId} {r : RegionId} {p : TileId} {s : State} (h : VectorRuns k r p 0x40 s)
    (hok : cvtOk ((s.chip k).desc r p) = true) :
    LanesAfter (.cvt k r p) k r p s fun n =>
      BitVec.ofNat 32 (convertElem (field (imm ((s.chip k).desc r p)) 0 4) (field (imm ((s.chip k).desc r p)) 4 4)
        (descSat ((s.chip k).desc r p))
        (if field (imm ((s.chip k).desc r p)) 0 4 = 3
          then (((s.chip k).tile (tileIx r p)).lane (va ((s.chip k).desc r p)) n).toNat % 65536
          else (((s.chip k).tile (tileIx r p)).lane (va ((s.chip k).desc r p)) n).toNat)).bits := by
  obtain ⟨hat, hres⟩ := h
  have he : firstError [(vectorReserved ((s.chip k).desc r p), eReserved), (!cvtOk ((s.chip k).desc r p), eFormat)] = 0 := by
    simp [firstError, hres, hok]
  refine ⟨_, by rw [exec, execCvt, hat, occurs_true], fun n hn => ?_⟩
  rw [State.chip_setChip_self, Chip.issueOp, he, if_neg (by simp), Chip.onTile_eq, Chip.tile_setTile, if_pos rfl,
    Tile.lane_issuedNext, Chip.lane_raiseFlags, Chip.onTile_eq, Chip.tile_setTile, if_pos rfl, Tile.lane_countVop,
    Tile.lane_setVec _ _ _ _ _ hn, if_pos rfl, Tile.vecA_eq_range, List.map_map, List.map_map, getD_map_range _ n hn]
  rfl

/-- Settles O19. -/
theorem floatLanesFollowTheirFunction : Obligations.FloatLanesFollowTheirFunction := by
  intro k r p s
  refine ⟨?_, ?_, ?_, ?_, ?_, ?_, ?_, ?_, ?_, ?_, ?_, ?_, ?_, ?_, ?_, ?_⟩ <;> intro h
  · exact lanesAfter_lanes2 rfl h
  · exact lanesAfter_lanes2 rfl h
  · exact lanesAfter_lanes2 rfl h
  · exact lanesAfter_lanes3 rfl h
  · exact lanesAfter_lanes2 rfl h
  · exact lanesAfter_lanes2 rfl h
  · exact lanesAfter_lanes2 rfl h
  · exact lanesAfter_lanes1 rfl h
  · exact lanesAfter_lanes1 rfl h
  · exact lanesAfter_lanes1 rfl h
  · exact lanesAfter_lanes1 rfl h
  · exact lanesAfter_lanes1 rfl h
  · exact lanesAfter_reduced rfl h
  · exact lanesAfter_reduced rfl h
  · exact lanesAfter_reduced rfl h
  · exact lanesAfter_cvt h

/-! ## The frame of the operations that write VD -/

/-- What an operation that writes VD keeps of chip `c`: every lane of every other register of the tile, its matrix
engines and its call stack, and every other tile. -/
structure Chip.KeepsButVd (t v : Nat) (c d : Chip) : Prop where
  lanes : ∀ w n, w ≠ v → n < 64 → (d.tile t).lane w n = (c.tile t).lane w n
  engines : (d.tile t).engines = (c.tile t).engines
  calls : (d.tile t).calls = (c.tile t).calls
  others : ∀ q, q ≠ t → d.tile q = c.tile q

theorem Chip.KeepsButVd.refl (t v : Nat) (c : Chip) : c.KeepsButVd t v c :=
  ⟨fun _ _ _ _ => rfl, rfl, rfl, fun _ _ => rfl⟩

theorem Chip.KeepsButVd.trans {t v : Nat} {c d e : Chip} (h : c.KeepsButVd t v d) (h' : d.KeepsButVd t v e) :
    c.KeepsButVd t v e :=
  ⟨fun w n hw hn => (h'.lanes w n hw hn).trans (h.lanes w n hw hn), h'.engines.trans h.engines,
    h'.calls.trans h.calls, fun q hq => (h'.others q hq).trans (h.others q hq)⟩

theorem Chip.keepsButVd_setTile (c : Chip) (t v : Nat) (x : Tile) (hl : ∀ w n, w ≠ v → n < 64 → x.lane w n = (c.tile t).lane w n)
    (he : x.engines = (c.tile t).engines) (hc : x.calls = (c.tile t).calls) : c.KeepsButVd t v (c.setTile t x) :=
  ⟨by simpa using hl, by simpa using he, by simpa using hc, fun q hq => by simp [hq]⟩

theorem Chip.keepsButVd_itemError (c : Chip) (r p v code : Nat) : c.KeepsButVd (tileIx r p) v (c.itemError r p code) :=
  ⟨fun w n _ _ => c.lane_itemError r p code w n, c.engines_itemError r p code, c.calls_itemError r p code,
    fun _ hq => c.tile_itemError_other r p code _ hq⟩

theorem Chip.keepsButVd_raiseFlags (c : Chip) (r p v fl : Nat) : c.KeepsButVd (tileIx r p) v (c.raiseFlags r p fl) :=
  ⟨fun w n _ _ => c.lane_raiseFlags r p fl w n, c.engines_raiseFlags r p fl, c.calls_raiseFlags r p fl,
    fun _ hq => c.tile_raiseFlags_other r p fl _ hq⟩

/-- An issue keeps all but VD where its effect does. -/
theorem Chip.keepsButVd_issueOp (c : Chip) (r p v err : Nat) (d : List Nat) (f : Chip → Chip)
    (h : c.KeepsButVd (tileIx r p) v (f c)) : c.KeepsButVd (tileIx r p) v (c.issueOp r p err d f) := by
  rw [Chip.issueOp]
  split
  · exact c.keepsButVd_itemError r p v err
  · exact h.trans (Chip.keepsButVd_setTile _ _ _ _ (by simp) (by simp) (by simp))

/-- A guarded command of one chip keeps all but VD where its effect does. -/
theorem keepsButVd_of_occurs {b : Bool} {k t v : Nat} {s u : State} {c : Chip}
    (h : occurs b s (s.setChip k c) = .next u) (hc : (s.chip k).KeepsButVd t v c) :
    (s.chip k).KeepsButVd t v (u.chip k) := by
  rw [occurs_next] at h
  subst h
  cases b
  · exact .refl t v _
  · simpa using hc

theorem Chip.keepsButVd_setVec (c : Chip) (t v : Nat) (ls : Tile → List Nat) :
    c.KeepsButVd t v (c.onTile t fun x => (x.setVec v (ls x)).countVop) :=
  c.keepsButVd_setTile t v _ (fun w n hw hn => by rw [Tile.lane_countVop, Tile.lane_setVec _ _ _ _ _ hn, if_neg hw])
    (by simp) (by simp)

theorem keepsButVd_vectorStep {k : ChipId} {r : RegionId} {p : TileId} {code : Nat} {f : Tile → List Nat → List Nat}
    {s t : State} (h : vectorStep k r p code f s = .next t) :
    (s.chip k).KeepsButVd (tileIx r p) (vd ((s.chip k).desc r p)) (t.chip k) := by
  refine keepsButVd_of_occurs h (Chip.keepsButVd_issueOp _ _ _ _ _ _ _ ?_)
  exact Chip.keepsButVd_setVec _ _ _ fun x => f x ((s.chip k).desc r p)

theorem keepsButVd_cvt {k : ChipId} {r : RegionId} {p : TileId} {s t : State} (h : execCvt k r p s = .next t) :
    (s.chip k).KeepsButVd (tileIx r p) (vd ((s.chip k).desc r p)) (t.chip k) :=
  keepsButVd_of_occurs h (Chip.keepsButVd_issueOp _ _ _ _ _ _ _
    ((Chip.keepsButVd_setVec _ _ _ _).trans (Chip.keepsButVd_raiseFlags _ _ _ _ _)))

theorem keepsButVd_ld {k : ChipId} {r : RegionId} {p : TileId} {s t : State} (h : execLd k r p s = .next t) :
    (s.chip k).KeepsButVd (tileIx r p) (vd ((s.chip k).desc r p)) (t.chip k) :=
  keepsButVd_of_occurs h (Chip.keepsButVd_issueOp _ _ _ _ _ _ _ (Chip.keepsButVd_setTile _ _ _ _
    (fun w n hw hn => by rw [Tile.lane_countLines, Tile.lane_countVop, Tile.lane_setVec _ _ _ _ _ hn, if_neg hw])
    (by simp) (by simp)))

/-- Every operation that writes VD keeps all but VD. -/
theorem keepsButVd_of_mem_vectorOps {k : ChipId} {r : RegionId} {p : TileId} {s t : State} {i : Instr}
    (hi : i ∈ vectorOps k r p) (h : exec i s = .next t) :
    (s.chip k).KeepsButVd (tileIx r p) (vd ((s.chip k).desc r p)) (t.chip k) := by
  simp only [vectorOps, List.mem_cons, List.not_mem_nil, or_false] at hi
  obtain rfl | hi := hi
  · exact keepsButVd_ld h
  iterate 31
    obtain rfl | hi := hi
    · exact keepsButVd_vectorStep h
  subst hi
  exact keepsButVd_cvt h

/-- Settles O57. -/
theorem vectorOperationsFrame : Obligations.VectorOperationsFrame := by
  intro k r p s t i hi h
  have hk := keepsButVd_of_mem_vectorOps hi h
  exact ⟨fun v n hv hn => hk.lanes v n hv hn, hk.engines, hk.calls, hk.others⟩

/-! ## LD, ST and SETA -/

theorem lanesAfter_ld {k : ChipId} {r : RegionId} {p : TileId} {s : State} {m : List Host.Cell} {a : Nat}
    (hm : m = (s.chip k).tileMem r p) (ha : a = ((s.chip k).tile (tileIx r p)).eff (word ((s.chip k).desc r p) 1))
    (hat : (s.chip k).atVop r p 0x00 [span a 256] [] = true)
    (he : ((s.chip k).tile (tileIx r p)).memError ((s.chip k).desc r p) = 0) :
    LanesAfter (.ld k r p) k r p s fun n => BitVec.ofNat 32 (Memory.readLE m (a + 4 * n) 4) := by
  subst hm ha
  refine ⟨_, by rw [exec, execLd, hat, occurs_true], fun n hn => ?_⟩
  rw [State.chip_setChip_self, Chip.issueOp, he, if_neg (by simp), Chip.onTile_eq, Chip.tile_setTile, if_pos rfl,
    Tile.lane_issuedNext, Chip.onTile_eq, Chip.tile_setTile, if_pos rfl, Tile.lane_countLines, Tile.lane_countVop,
    Tile.lane_setVec _ _ _ _ _ hn, if_pos rfl, getD_map_range _ n hn]

theorem exec_st {k : ChipId} {r : RegionId} {p : TileId} {s : State} {a : Nat}
    (ha : a = ((s.chip k).tile (tileIx r p)).eff (word ((s.chip k).desc r p) 1))
    (hat : (s.chip k).atVop r p 0x01 [] [span a 256] = true)
    (he : ((s.chip k).tile (tileIx r p)).memError ((s.chip k).desc r p) = 0) :
    ∃ t, exec (.st k r p) s = .next t ∧ (t.chip k).tileMem r p = Memory.write ((s.chip k).tileMem r p) a
      ((((s.chip k).tile (tileIx r p)).vec (vd ((s.chip k).desc r p))).flatMap fun v => natLE 4 v) := by
  subst ha
  refine ⟨_, by rw [exec, execSt, hat, occurs_true], ?_⟩
  rw [State.chip_setChip_self, Chip.issueOp, he, if_neg (by simp)]
  simp [Chip.tileMem, Chip.onTileMem, Chip.positionOf]

@[simp] theorem natLE_words_length (l : List Nat) : (l.flatMap fun v => natLE 4 v).length = 4 * l.length := by
  induction l with
  | nil => rfl
  | cons v l ih => simp [ih]; omega

/-- Byte `4 n + j` of words laid out in memory order. -/
theorem natLE_words_getElem (l : List Nat) (n j : Nat) (hn : n < l.length) (hj : j < 4)
    (h : 4 * n + j < (l.flatMap fun v => natLE 4 v).length) :
    (l.flatMap fun v => natLE 4 v)[4 * n + j] = (natLE 4 l[n])[j]'(by simpa using hj) := by
  induction l generalizing n with
  | nil => simp at hn
  | cons v l ih =>
    cases n with
    | zero => simp [hj]
    | succ n =>
      have hk : ¬ 4 * (n + 1) + j < 4 := by omega
      have he : 4 * (n + 1) + j - 4 = 4 * n + j := by omega
      simp only [List.flatMap_cons, List.getElem_append, natLE_length, hk, dif_neg, not_false_eq_true, he]
      exact ih n (by simpa using hn) _

theorem leNat_natLE (n v : Nat) (h : v < 256 ^ n) : leNat (natLE n v) = v := by
  induction n generalizing v with
  | zero => simp [natLE, leNat]; simp at h; omega
  | succ n ih =>
    have hd : v / 256 < 256 ^ n := Nat.div_lt_of_lt_mul (by rwa [pow_succ'] at h)
    simp [natLE, leNat, ih _ hd]
    omega

/-- Word `n` of words written to memory reads back. -/
theorem Memory.readLE_write_words (m : List Host.Cell) (a n : Nat) (l : List Nat) (hm : Memory.wf m = true)
    (hn : n < l.length) (hl : l[n] < 2 ^ 32) :
    Memory.readLE (Memory.write m a (l.flatMap fun v => natLE 4 v)) (a + 4 * n) 4 = l[n] := by
  have hb : ∀ j (hj : j < 4), Memory.readByte (Memory.write m a (l.flatMap fun v => natLE 4 v)) (a + 4 * n + j) =
      (natLE 4 l[n])[j]'(by simpa using hj) := by
    intro j hj
    have hlt : 4 * n + j < (l.flatMap fun v => natLE 4 v).length := by rw [natLE_words_length]; omega
    rw [Nat.add_assoc, Memory.readByte_write_inside m a _ _ hm hlt, natLE_words_getElem l n j hn hj]
  have hr : Memory.read (Memory.write m a (l.flatMap fun v => natLE 4 v)) (a + 4 * n) 4 = natLE 4 l[n] := by
    apply List.ext_getElem
    · simp [Memory.read]
    · intro j h1 h2
      simp [Memory.read] at h1
      simp [Memory.read, hb j h1]
  rw [Memory.readLE, hr, leNat_natLE 4 _ (by simpa using hl)]

theorem exec_st_lanes {k : ChipId} {r : RegionId} {p : TileId} {s : State} {a : Nat}
    (ha : a = ((s.chip k).tile (tileIx r p)).eff (word ((s.chip k).desc r p) 1))
    (hat : (s.chip k).atVop r p 0x01 [] [span a 256] = true)
    (he : ((s.chip k).tile (tileIx r p)).memError ((s.chip k).desc r p) = 0)
    (hm : Memory.wf ((s.chip k).tileMem r p) = true) :
    ∃ t, exec (.st k r p) s = .next t ∧
      (∀ n, n < 64 → Memory.readLE ((t.chip k).tileMem r p) (a + 4 * n) 4 =
        (((s.chip k).tile (tileIx r p)).lane (vd ((s.chip k).desc r p)) n).toNat) ∧
      ∀ o, (o < a ∨ a + 256 ≤ o) →
        Memory.readByte ((t.chip k).tileMem r p) o = Memory.readByte ((s.chip k).tileMem r p) o := by
  obtain ⟨t, ht, hw⟩ := exec_st ha hat he
  refine ⟨t, ht, fun n hn => ?_, fun o ho => ?_⟩
  · have hl : (((s.chip k).tile (tileIx r p)).vec (vd ((s.chip k).desc r p)))[n]'(by simpa using hn) =
        (((s.chip k).tile (tileIx r p)).lane (vd ((s.chip k).desc r p)) n).toNat := by
      simp [Tile.vec, Tile.lane]
    rw [hw, Memory.readLE_write_words _ _ _ _ hm (by simpa using hn) (hl ▸ BitVec.isLt _), hl]
  · rw [hw, Memory.readByte_write_other _ _ _ _ hm (by simpa using ho)]

/-- SETA leaves its value in a[VD[2:0]] where no loop body ends at the next descriptor. -/
theorem exec_seta {k : ChipId} {r : RegionId} {p : TileId} {code : Nat} {f : Tile → List Nat → Nat} {s : State} {i : Instr}
    (hi : exec i s = setaStep k r p code f s) (h : VectorRuns k r p code s)
    (hl : ∀ g, ((s.chip k).tile (tileIx r p)).loops.head? = some g →
      g.stop ≠ ((s.chip k).tile (tileIx r p)).pc + 64) :
    ∃ t, exec i s = .next t ∧ ((t.chip k).tile (tileIx r p)).a.get 0 (vd ((s.chip k).desc r p) % 8) =
      f ((s.chip k).tile (tileIx r p)) ((s.chip k).desc r p) := by
  obtain ⟨hat, hres⟩ := h
  refine ⟨_, hi.trans (by rw [setaStep, hat, occurs_true]), ?_⟩
  rw [State.chip_setChip_self, Chip.issueOp, vectorReserved_err _ hres, if_neg (by simp), Chip.onTile_eq, Chip.tile_setTile,
    if_pos rfl, Chip.onTile_eq, Chip.tile_setTile, if_pos rfl, Tile.issuedNext_a_of_stop_ne _ _ (by exact hl)]
  exact Bank.get_set_self _ _ _ _

/-- Settles O20. -/
theorem vectorMemoryTakesEffect : Obligations.VectorMemoryTakesEffect := by
  intro k r p s
  refine ⟨fun hat he => lanesAfter_ld rfl rfl hat he, fun hat he hm => exec_st_lanes rfl hat he hm,
    fun h hl => exec_seta (f := fun _ d => imm d) rfl h hl,
    fun h hl => ?_⟩
  obtain ⟨t, ht, ha⟩ := exec_seta (i := .setaV k r p)
    (f := fun x d => (x.vecA d).getD 0 0 + 2 ^ 32 * ((x.vecA d).getD 1 0 % 256)) rfl h hl
  refine ⟨t, ht, ha.trans ?_⟩
  simp only [Tile.vecA]
  rw [Tile.vec_getD _ _ 0 (by decide), Tile.vec_getD _ _ 1 (by decide)]

end Sys2Proof.Machine
end

section
/-! LEMMAS. What the operations that a tile's commands share leave of a tile, of its memory and of its region's endpoint:
the step of the sequencer, the messages it issues and what waits for a tag. -/

namespace Sys2Proof.Machine

-- In order, not in parallel: every elaborator thread that waits for another holds a stack within the check's memory limit.
set_option Elab.async false

/-! ## The step of the sequencer -/

/-- The step of the sequencer changes only PC, loop stack, address registers and END. -/
theorem Tile.goTo_eq (x : Tile) (ls : List LoopFrame) (pc : Nat) :
    ∃ q l a, x.goTo ls pc = { x with pc := q, loops := l, a := a } := by
  induction ls generalizing x with
  | nil => exact ⟨pc, [], x.a, rfl⟩
  | cons f ls ih =>
    simp only [Tile.goTo]
    split_ifs
    · exact ⟨_, _, _, rfl⟩
    · obtain ⟨q, l, a, h⟩ := ih { x with a := restoreReg (restoreReg x.a f.regA f.saveA) f.regB f.saveB }
      exact ⟨q, l, a, h⟩
    · exact ⟨pc, f :: ls, x.a, rfl⟩

theorem Tile.issuedTo_eq (x : Tile) (d : List Nat) (pc : Nat) :
    ∃ q l a, x.issuedTo d pc = { x with pc := q, loops := l, a := a, ended := descEnd d } := by
  obtain ⟨q, l, a, h⟩ := x.goTo_eq x.loops pc
  exact ⟨q, l, a, by rw [Tile.issuedTo, h]⟩

@[simp] theorem Tile.issuedTo_issued (x : Tile) (d : List Nat) (pc : Nat) : (x.issuedTo d pc).issued = x.issued := by
  obtain ⟨q, l, a, h⟩ := x.issuedTo_eq d pc; rw [h]
@[simp] theorem Tile.issuedTo_written (x : Tile) (d : List Nat) (pc : Nat) : (x.issuedTo d pc).written = x.written := by
  obtain ⟨q, l, a, h⟩ := x.issuedTo_eq d pc; rw [h]
@[simp] theorem Tile.issuedTo_calls (x : Tile) (d : List Nat) (pc : Nat) : (x.issuedTo d pc).calls = x.calls := by
  obtain ⟨q, l, a, h⟩ := x.issuedTo_eq d pc; rw [h]
@[simp] theorem Tile.issuedNext_issued (x : Tile) (d : List Nat) : (x.issuedNext d).issued = x.issued := x.issuedTo_issued d _
@[simp] theorem Tile.issuedNext_written (x : Tile) (d : List Nat) : (x.issuedNext d).written = x.written :=
  x.issuedTo_written d _
@[simp] theorem Tile.issuedNext_slots (x : Tile) (d : List Nat) : (x.issuedNext d).slots = x.slots := by
  obtain ⟨q, l, a, h⟩ := x.issuedTo_eq d (x.pc + 64); rw [Tile.issuedNext, h]
@[simp] theorem Tile.issuedNext_selExact (x : Tile) (d : List Nat) : (x.issuedNext d).selExact = x.selExact := by
  obtain ⟨q, l, a, h⟩ := x.issuedTo_eq d (x.pc + 64); rw [Tile.issuedNext, h]
@[simp] theorem Tile.issuedNext_selColander (x : Tile) (d : List Nat) : (x.issuedNext d).selColander = x.selColander := by
  obtain ⟨q, l, a, h⟩ := x.issuedTo_eq d (x.pc + 64); rw [Tile.issuedNext, h]
@[simp] theorem Tile.issuedNext_selCount (x : Tile) (d : List Nat) : (x.issuedNext d).selCount = x.selCount := by
  obtain ⟨q, l, a, h⟩ := x.issuedTo_eq d (x.pc + 64); rw [Tile.issuedNext, h]
@[simp] theorem Tile.issuedNext_selPasses (x : Tile) (d : List Nat) : (x.issuedNext d).selPasses = x.selPasses := by
  obtain ⟨q, l, a, h⟩ := x.issuedTo_eq d (x.pc + 64); rw [Tile.issuedNext, h]

/-- Where no loop body ends at `pc`, the sequencer goes there and keeps its loops. -/
theorem Tile.issuedTo_of_stop_ne (x : Tile) (d : List Nat) (pc : Nat) (h : ∀ f, x.loops.head? = some f → f.stop ≠ pc) :
    (x.issuedTo d pc).pc = pc ∧ (x.issuedTo d pc).loops = x.loops := by
  rcases hl : x.loops with _ | ⟨f, ls⟩
  · simp [Tile.issuedTo, hl, Tile.goTo]
  · simp [Tile.issuedTo, hl, Tile.goTo, h f (by simp [hl])]

/-- Counting line accesses changes the two counts alone. -/
theorem Tile.countLines_eq (x : Tile) (o l : Nat) :
    ∃ b s, x.countLines o l = { x with lineB := b, lineS := s } := by
  simp only [Tile.countLines]; split
  · exact ⟨_, _, rfl⟩
  · exact ⟨_, _, rfl⟩

@[simp] theorem Tile.countLines_issued (x : Tile) (o l : Nat) : (x.countLines o l).issued = x.issued := by
  obtain ⟨b, s, h⟩ := x.countLines_eq o l; rw [h]
@[simp] theorem Tile.countLines_written (x : Tile) (o l : Nat) : (x.countLines o l).written = x.written := by
  obtain ⟨b, s, h⟩ := x.countLines_eq o l; rw [h]
@[simp] theorem Tile.countLines_slots (x : Tile) (o l : Nat) : (x.countLines o l).slots = x.slots := by
  obtain ⟨b, s, h⟩ := x.countLines_eq o l; rw [h]
@[simp] theorem Tile.countLines_vreg (x : Tile) (o l : Nat) : (x.countLines o l).vreg = x.vreg := by
  obtain ⟨b, s, h⟩ := x.countLines_eq o l; rw [h]
@[simp] theorem Tile.countLines_selExact (x : Tile) (o l : Nat) : (x.countLines o l).selExact = x.selExact := by
  obtain ⟨b, s, h⟩ := x.countLines_eq o l; rw [h]
@[simp] theorem Tile.countLines_selColander (x : Tile) (o l : Nat) : (x.countLines o l).selColander = x.selColander := by
  obtain ⟨b, s, h⟩ := x.countLines_eq o l; rw [h]
@[simp] theorem Tile.countLines_selCount (x : Tile) (o l : Nat) : (x.countLines o l).selCount = x.selCount := by
  obtain ⟨b, s, h⟩ := x.countLines_eq o l; rw [h]
@[simp] theorem Tile.countLines_selPasses (x : Tile) (o l : Nat) : (x.countLines o l).selPasses = x.selPasses := by
  obtain ⟨b, s, h⟩ := x.countLines_eq o l; rw [h]

/-- Counting the lines of a list of intervals keeps whatever one count keeps. -/
theorem Tile.foldl_countLines {α : Type} (g : Tile → α) (hg : ∀ x o l, g (Tile.countLines x o l) = g x)
    (l : List (Nat × Nat)) (x : Tile) : g (l.foldl (fun y s => y.countLines s.1 (s.2 - s.1)) x) = g x :=
  foldl_keeps g (fun _ _ => hg _ _ _) l x

@[simp] theorem Tile.foldl_countLines_issued (l : List (Nat × Nat)) (x : Tile) :
    (l.foldl (fun y s => y.countLines s.1 (s.2 - s.1)) x).issued = x.issued :=
  Tile.foldl_countLines Tile.issued Tile.countLines_issued l x
@[simp] theorem Tile.foldl_countLines_written (l : List (Nat × Nat)) (x : Tile) :
    (l.foldl (fun y s => y.countLines s.1 (s.2 - s.1)) x).written = x.written :=
  Tile.foldl_countLines Tile.written Tile.countLines_written l x
@[simp] theorem Tile.foldl_countLines_lane (l : List (Nat × Nat)) (x : Tile) (v n : Nat) :
    (l.foldl (fun y s => y.countLines s.1 (s.2 - s.1)) x).lane v n = x.lane v n :=
  Tile.foldl_countLines (fun x => x.lane v n) (fun x o l => x.lane_countLines o l v n) l x

@[simp] theorem Tile.hold_issued (x : Tile) (k : Pending) (reads writes : List (Nat × Nat)) :
    (x.hold k reads writes).issued = x.issued ++ [{ off := x.pc, kind := k, reads := reads, writes := writes }] := rfl
@[simp] theorem Tile.hold_written (x : Tile) (k : Pending) (reads writes : List (Nat × Nat)) :
    (x.hold k reads writes).written = x.written := rfl

/-! ## Tile memory -/

@[simp] theorem Chip.tileMem_setTile (c : Chip) (t : Nat) (x : Tile) (r p : Nat) :
    (c.setTile t x).tileMem r p = c.tileMem r p := rfl

@[simp] theorem Chip.tileMem_setEp (c : Chip) (e : Nat) (x : Endpoint) (r p : Nat) :
    (c.setEp e x).tileMem r p = c.tileMem r p := rfl

@[simp] theorem Chip.tileMem_fault (c : Chip) (g : Tag) (n i r p : Nat) : (c.fault g n i).tileMem r p = c.tileMem r p := rfl

@[simp] theorem Chip.tileMem_faultIf (c : Chip) (b : Bool) (g : Tag) (n i r p : Nat) :
    (c.faultIf b g n i).tileMem r p = c.tileMem r p := by
  rw [Chip.faultIf]; split <;> rfl

@[simp] theorem Chip.tileMem_raiseFlags (c : Chip) (r p fl r' p' : Nat) :
    (c.raiseFlags r p fl).tileMem r' p' = c.tileMem r' p' := by
  rw [Chip.raiseFlags]; split <;> simp

@[simp] theorem Chip.tileMem_onTileMem (c : Chip) (r p : Nat) (f : List Host.Cell → List Host.Cell) :
    (c.onTileMem r p f).tileMem r p = f (c.tileMem r p) := by
  simp [Chip.tileMem, Chip.onTileMem, Chip.positionOf]

@[simp] theorem Chip.tile_onTileMem (c : Chip) (r p : Nat) (f : List Host.Cell → List Host.Cell) (t : Nat) :
    (c.onTileMem r p f).tile t = c.tile t := rfl

/-! ## One issue -/

/-- What an issue without an error leaves of its tile and of its tile's memory. -/
theorem Chip.tile_issueOp (c : Chip) (r p : Nat) (d : List Nat) (f : Chip → Chip) :
    (c.issueOp r p 0 d f).tile (tileIx r p) = ((f c).tile (tileIx r p)).issuedNext d := by
  simp [Chip.issueOp]

@[simp] theorem Chip.tileMem_issueOp (c : Chip) (r p : Nat) (d : List Nat) (f : Chip → Chip) (r' p' : Nat) :
    (c.issueOp r p 0 d f).tileMem r' p' = (f c).tileMem r' p' := by
  simp [Chip.issueOp]

@[simp] theorem Chip.ep_issueOp (c : Chip) (r p : Nat) (d : List Nat) (f : Chip → Chip) (e : Nat) :
    (c.issueOp r p 0 d f).ep e = (f c).ep e := by
  simp [Chip.issueOp]

/-! ## Messages -/

/-- Two chips that differ in their endpoints at most. -/
def Chip.OnlyEps (c d : Chip) : Prop := ∃ b, d = { c with eps := b }

theorem Chip.OnlyEps.refl (c : Chip) : c.OnlyEps c := ⟨c.eps, rfl⟩

theorem Chip.OnlyEps.trans {c d e : Chip} (h : c.OnlyEps d) (h' : d.OnlyEps e) : c.OnlyEps e := by
  obtain ⟨b, rfl⟩ := h; obtain ⟨b', rfl⟩ := h'; exact ⟨b', rfl⟩

theorem Chip.OnlyEps.tile {c d : Chip} (h : c.OnlyEps d) (t : Nat) : d.tile t = c.tile t := by
  obtain ⟨b, rfl⟩ := h; rfl

theorem Chip.OnlyEps.tileMem {c d : Chip} (h : c.OnlyEps d) (r p : Nat) : d.tileMem r p = c.tileMem r p := by
  obtain ⟨b, rfl⟩ := h; rfl

theorem Chip.OnlyEps.hif {c d : Chip} (h : c.OnlyEps d) : d.hif = c.hif := by
  obtain ⟨b, rfl⟩ := h; rfl

theorem Chip.OnlyEps.seq {c d : Chip} (h : c.OnlyEps d) : d.seq = c.seq := by
  obtain ⟨b, rfl⟩ := h; rfl

theorem Chip.OnlyEps.foldl {α : Type} {f : Chip → α → Chip} (hf : ∀ (c : Chip) a, c.OnlyEps (f c a)) (l : List α) (c : Chip) :
    c.OnlyEps (l.foldl f c) := by
  induction l generalizing c with
  | nil => exact .refl c
  | cons a l ih => exact (hf c a).trans (ih _)

theorem Chip.OnlyEps.foldl_fst {α β : Type} {f : Chip × β → α → Chip × β} (hf : ∀ (x : Chip × β) a, x.1.OnlyEps (f x a).1)
    (l : List α) (x : Chip × β) : x.1.OnlyEps (l.foldl f x).1 := by
  induction l generalizing x with
  | nil => exact .refl _
  | cons a l ih => exact (hf x a).trans (ih _)

/-- A message that is not for its own endpoint joins what the endpoint sends. -/
theorem Chip.issueMsg_of_ne (c : Chip) (m : Msg) (h : m.dst ≠ m.src) :
    c.issueMsg m = c.setEp m.src { c.ep m.src with out := (c.ep m.src).out ++ [m] } := by
  simp [Chip.issueMsg, h, Chip.send]

theorem Chip.onlyEps_setEp (c : Chip) (e : Nat) (x : Endpoint) : c.OnlyEps (c.setEp e x) := ⟨_, rfl⟩

theorem Chip.onlyEps_issueMsg (c : Chip) (m : Msg) : c.OnlyEps (c.issueMsg m) := by
  rw [Chip.issueMsg]
  split
  · exact c.onlyEps_setEp _ _
  · exact c.onlyEps_setEp _ _

theorem Chip.onlyEps_answer (c : Chip) (e : Nat) (m : Msg) : c.OnlyEps (c.answer e m) :=
  (c.onlyEps_setEp e _).trans (Chip.onlyEps_issueMsg _ m)

@[simp] theorem Chip.tile_issueMsg (c : Chip) (m : Msg) (t : Nat) : (c.issueMsg m).tile t = c.tile t :=
  (c.onlyEps_issueMsg m).tile t
@[simp] theorem Chip.tileMem_issueMsg (c : Chip) (m : Msg) (r p : Nat) : (c.issueMsg m).tileMem r p = c.tileMem r p :=
  (c.onlyEps_issueMsg m).tileMem r p
@[simp] theorem Chip.tile_foldl_issueMsg (l : List Msg) (c : Chip) (t : Nat) :
    (l.foldl (fun c m => c.issueMsg m) c).tile t = c.tile t :=
  (Chip.OnlyEps.foldl (fun c m => c.onlyEps_issueMsg m) l c).tile t
@[simp] theorem Chip.tileMem_foldl_issueMsg (l : List Msg) (c : Chip) (r p : Nat) :
    (l.foldl (fun c m => c.issueMsg m) c).tileMem r p = c.tileMem r p :=
  (Chip.OnlyEps.foldl (fun c m => c.onlyEps_issueMsg m) l c).tileMem r p

@[simp] theorem Chip.tile_answer (c : Chip) (e : Nat) (m : Msg) (t : Nat) : (c.answer e m).tile t = c.tile t :=
  (c.onlyEps_answer e m).tile t
@[simp] theorem Chip.tileMem_answer (c : Chip) (e : Nat) (m : Msg) (r p : Nat) : (c.answer e m).tileMem r p = c.tileMem r p :=
  (c.onlyEps_answer e m).tileMem r p

/-- What the endpoint sends after a message for another place is issued. -/
theorem Chip.ep_issueMsg (c : Chip) (m : Msg) (h : m.dst ≠ m.src) :
    (c.issueMsg m).ep m.src = { c.ep m.src with out := (c.ep m.src).out ++ [m] } := by
  rw [c.issueMsg_of_ne m h]; simp

/-- A request answered to another place leaves the requests and its answer goes out. -/
theorem Chip.ep_answer (c : Chip) (m : Msg) (h : m.dst ≠ m.src) :
    (c.answer m.src m).ep m.src =
      { c.ep m.src with popReq := (c.ep m.src).popReq.tail, out := (c.ep m.src).out ++ [m] } := by
  rw [Chip.answer, Chip.ep_issueMsg _ m h]; simp

/-! ## What waits for a tag -/

theorem Chip.onlyEps_pumpSend (c : Chip) (ms : List SendMsg) : c.OnlyEps (pumpSend c ms).1 := by
  refine Chip.OnlyEps.foldl_fst (fun x a => ?_) ms (c, [])
  split_ifs
  · exact .refl _
  · split
    · exact .refl _
    · exact Chip.onlyEps_issueMsg _ _

theorem Chip.onlyEps_pumpReads (c : Chip) (todo : List (Msg × List Nat)) : c.OnlyEps (pumpReads c todo).1 := by
  refine Chip.OnlyEps.foldl_fst (fun x a => ?_) todo (c, [], [])
  split
  · exact .refl _
  · exact Chip.onlyEps_issueMsg _ _

/-- Issuing what waits for a tag changes endpoints, and of the tile its operations, none of which comes or goes. -/
theorem Chip.pump_eq (c : Chip) (r p : Nat) : ∃ d l, c.OnlyEps d ∧ l.length = (c.tile (tileIx r p)).issued.length ∧
    c.pump r p = d.setTile (tileIx r p) { c.tile (tileIx r p) with issued := l } := by
  unfold Chip.pump
  extract_lets t out
  have heps : c.OnlyEps out.1 := Chip.OnlyEps.foldl_fst (fun x i => by
    cases i.kind with
    | send since tmo ms => exact x.1.onlyEps_pumpSend ms
    | moveIn rs todo => exact x.1.onlyEps_pumpReads todo
    | wait | collWait | fence | signalFence | out => exact .refl _) _ (c, [])
  have hlen : out.2.length = (c.tile t).issued.length :=
    (foldl_snd_length (fun x i => by cases i.kind <;> simp) _ _).trans (by simp)
  exact ⟨out.1, out.2, heps, hlen, by rw [Chip.onTile_eq, heps.tile]⟩

@[simp] theorem Chip.tileMem_pump (c : Chip) (r p r' p' : Nat) : (c.pump r p).tileMem r' p' = c.tileMem r' p' := by
  obtain ⟨d, l, hd, -, h⟩ := c.pump_eq r p
  rw [h, Chip.tileMem_setTile, hd.tileMem]

@[simp] theorem Chip.length_issued_pump (c : Chip) (r p : Nat) :
    ((c.pump r p).tile (tileIx r p)).issued.length = (c.tile (tileIx r p)).issued.length := by
  obtain ⟨d, l, -, hl, h⟩ := c.pump_eq r p
  simp [h, hl]

@[simp] theorem Chip.written_pump (c : Chip) (r p : Nat) :
    ((c.pump r p).tile (tileIx r p)).written = (c.tile (tileIx r p)).written := by
  obtain ⟨d, l, -, -, h⟩ := c.pump_eq r p
  simp [h]

@[simp] theorem Chip.retry_pump (c : Chip) (r p : Nat) :
    ((c.pump r p).tile (tileIx r p)).retry = (c.tile (tileIx r p)).retry := by
  obtain ⟨d, l, -, -, h⟩ := c.pump_eq r p
  simp [h]

end Sys2Proof.Machine
end

section
/-! LEMMAS. MATRIX, pre-scan, CONVERT (R335, R343, R370 to R374), the copies of a tile (R379) and SELECT (R416, R419 to R428).
Settles O21, O22 and O23. -/

namespace Sys2Proof.Machine

-- In order, not in parallel: every elaborator thread that waits for another holds a stack within the check's memory limit.
set_option Elab.async false

/-! ## MATRIX, pre-scan and CONVERT -/

theorem Chip.tileMem_doMatrix_write (c : Chip) (r p : Nat) (d : List Nat) (h : mWrites d = true) :
    (c.doMatrix r p d).tileMem r p =
      ((c.tile (tileIx r p)).writeBlock (c.tileMem r p) d ((c.tile (tileIx r p)).block (c.tileMem r p) d).1).1 := by
  simp [Chip.doMatrix, h]

theorem Chip.tileMem_doMatrix_held (c : Chip) (r p : Nat) (d : List Nat) (h : mWrites d = false) :
    (c.doMatrix r p d).tileMem r p = c.tileMem r p := by
  simp [Chip.doMatrix, h]

/-- A block that OUT_FMT 6 holds stands in its engine. -/
theorem Chip.engine_doMatrix_held (c : Chip) (r p : Nat) (d : List Nat) (h : mOut d = 6) :
    ((c.doMatrix r p d).tile (tileIx r p)).engines.get {} (mEng d) =
      { held := true, family := familyOf (mAFmt d), accums := ((c.tile (tileIx r p)).block (c.tileMem r p) d).1 } := by
  simp [Chip.doMatrix, mWrites, h]

theorem exec_matrix {k : ChipId} {r : RegionId} {p : TileId} {s : State} (hat : (s.chip k).atOp r p 0x01 = true)
    (ho : mOut ((s.chip k).desc r p) ≠ 7)
    (hc : ((s.chip k).tile (tileIx r p)).clear (((s.chip k).tile (tileIx r p)).matrixReads ((s.chip k).desc r p))
      (((s.chip k).tile (tileIx r p)).matrixWrites ((s.chip k).desc r p)) = true)
    (he : ((s.chip k).tile (tileIx r p)).matrixError ((s.chip k).tileMem r p) ((s.chip k).desc r p) = 0) :
    exec (.matrix k r p) s = .next (s.setChip k ((s.chip k).issueOp r p 0 ((s.chip k).desc r p)
      (fun c => c.doMatrix r p ((s.chip k).desc r p)))) := by
  rw [exec, execMatrix, hat, bne_iff_ne.2 ho, hc, he]
  exact occurs_true _ _

theorem exec_prescan {k : ChipId} {r : RegionId} {p : TileId} {s : State} {m : List Host.Cell}
    (hm : m = (s.chip k).tileMem r p) (hat : (s.chip k).atOp r p 0x01 = true)
    (ho : mOut ((s.chip k).desc r p) = 7)
    (hc : ((s.chip k).tile (tileIx r p)).clear (((s.chip k).tile (tileIx r p)).matrixReads ((s.chip k).desc r p)) [] = true)
    (he : ((s.chip k).tile (tileIx r p)).prescanError ((s.chip k).desc r p) = 0) :
    ∃ t, exec (.prescan k r p) s = .next t ∧ ∀ n, n < 64 →
      ((t.chip k).tile (tileIx r p)).lane (mVmax ((s.chip k).desc r p)) n =
        BitVec.ofNat 32 ((((s.chip k).tile (tileIx r p)).sliceMaxima m ((s.chip k).desc r p)).getD n 0) := by
  subst hm
  refine ⟨_, by rw [exec, execPrescan, hat, ho, hc, he]; exact occurs_true _ _, fun n hn => ?_⟩
  rw [State.chip_setChip_self, Chip.tile_issueOp, Tile.lane_issuedNext, Chip.onTile_eq, Chip.tile_setTile, if_pos rfl,
    Tile.foldl_countLines_lane, Tile.lane_setVec _ _ _ _ _ hn, if_pos rfl]

theorem exec_convert {k : ChipId} {r : RegionId} {p : TileId} {s : State} {x : Tile} {d : List Nat}
    (hx : x = (s.chip k).tile (tileIx r p)) (hd : d = (s.chip k).desc r p) (hat : (s.chip k).atOp r p 0x03 = true)
    (hc : x.clear [span (x.eff (word d 1)) (cvN d * elemBytes (cvSrc d))]
      [span (x.eff (word d 2)) (cvN d * elemBytes (cvDst d))] = true)
    (he : x.convertError d = 0) :
    ∃ t seq, exec (.convert k r p) s = .next t ∧ (t.chip k).tileMem r p =
      (convertRun ((s.chip k).tileMem r p) (x.eff (word d 1)) (x.eff (word d 2)) (cvSrc d) (cvDst d) (cvN d) (descSat d) seq).1 := by
  subst hx hd
  refine ⟨_, decide (Config.free s.fresh % 2 = 1), by rw [exec, execConvert, hat, hc, he]; exact occurs_true _ _, ?_⟩
  rw [State.chip_with_fresh, State.chip_setChip_self, Chip.tileMem_issueOp, Chip.onTile_eq, Chip.tileMem_setTile,
    Chip.tileMem_raiseFlags, Chip.tileMem_onTileMem]
  rfl

/-- Settles O21. -/
theorem matrixAndConvertTakeEffect : Obligations.MatrixAndConvertTakeEffect := by
  intro k r p s
  refine ⟨fun hat ho hc he => ⟨_, exec_matrix hat ho hc he, fun h5 => ?_, fun h6 => ⟨?_, ?_⟩⟩,
    fun hat ho hc he => exec_prescan rfl hat ho hc he, fun hat hc he => exec_convert rfl rfl hat hc he⟩
  · rw [State.chip_setChip_self, Chip.tileMem_issueOp, Chip.tileMem_doMatrix_write _ _ _ _ (by simpa [mWrites] using h5)]
  · rw [State.chip_setChip_self, Chip.tileMem_issueOp, Chip.tileMem_doMatrix_held _ _ _ _ (by simp [mWrites, h6])]
  · rw [State.chip_setChip_self, Chip.tile_issueOp, Tile.issuedNext_engines, Chip.engine_doMatrix_held _ _ _ _ h6]

/-! ## SELECT -/

@[simp] theorem Tile.setVec_selPasses (x : Tile) (v : Nat) (ls : List Nat) : (x.setVec v ls).selPasses = x.selPasses := by
  simp [Tile.setVec]

/-- The entries of a pass stand in VD in rank order. -/
theorem Tile.lane_writeEntries (x : Tile) (v n : Nat) (es : List Entry) (hn : n < 64) :
    (x.writeEntries v es).lane v n = BitVec.ofNat 32 ((es.map fun e => e.key).getD n 0) := by
  rw [Tile.writeEntries, Tile.lane_setVec _ _ _ _ _ hn, if_neg (by omega), Tile.lane_setVec _ _ _ _ _ hn, if_pos rfl]

@[simp] theorem Tile.lane_report (x : Tile) (d : List Nat) (pg g cnt : Nat) (coll ex : Bool) (v n : Nat) :
    (x.report d pg coll g ex cnt).lane v n = x.lane v n := rfl

theorem Tile.selPasses_doColander (x : Tile) (m : List Host.Cell) (d : List Nat) :
    (x.doColander m d).selPasses = satAdd 32 x.selPasses 1 := by
  have hw : ∀ (y : Tile) v es, (y.writeEntries v es).selPasses = y.selPasses := fun y v es => by simp [Tile.writeEntries]
  simp only [Tile.doColander, Tile.report, hw]
  split
  · rfl
  · rw [foldl_keeps Tile.selPasses (fun y i => Tile.setVec_selPasses _ _ _)]

theorem Tile.selPasses_doSkewer (x : Tile) (m : List Host.Cell) (d : List Nat) :
    (x.doSkewer m d).selPasses = satAdd 32 x.selPasses 1 := by
  simp [Tile.doSkewer, Tile.report, Tile.writeEntries]

/-- What a pass leaves of its tile, but for counts of lines and of skipped keys. -/
theorem Chip.tile_doSelect (c : Chip) (r p : Nat) (d : List Nat) (y : Tile)
    (hy : (if (c.tile (tileIx r p)).colander d then (c.tile (tileIx r p)).doColander (c.tileMem r p) d
      else (c.tile (tileIx r p)).doSkewer (c.tileMem r p) d) = y) :
    ∃ b l n v, (c.doSelect r p d).tile (tileIx r p) = { y with lineB := b, lineS := l, tagSkip := n, tagFault := v } := by
  rw [Chip.doSelect, Chip.tile_faultIf_frame, Chip.tile_setTile, if_pos rfl, hy]
  split
  · obtain ⟨b, l, h⟩ := y.countLines_eq (y.eff (word d 1)) (keyElem (slFmt d) * slN d)
    exact ⟨b, l, _, _, by simp only [h]; rfl⟩
  · obtain ⟨b, l, h⟩ := y.countLines_eq (y.eff (word d 2)) (4 * slN d)
    obtain ⟨b', l', h'⟩ := (y.countLines (y.eff (word d 2)) (4 * slN d)).countLines_eq (y.eff (word d 1))
      (keyElem (slFmt d) * slN d)
    exact ⟨b', l', _, _, by simp only [h']; simp only [h]; rfl⟩

/-- A SELECT in its mode runs its pass. -/
theorem selectIn_runs {k : ChipId} {r : RegionId} {p : TileId} {s : State} {x : Tile} {d : List Nat} {y : Tile} (coll : Bool)
    (hx : x = (s.chip k).tile (tileIx r p)) (hd : d = (s.chip k).desc r p) (hat : (s.chip k).atOp r p 0x07 = true)
    (hc : x.clear ([span (x.eff (word d 1)) (keyElem (slFmt d) * slN d)] ++
      (if word d 2 = 0 then [] else [span (x.eff (word d 2)) (4 * slN d)])) [] = true)
    (he : x.selectError d = 0) (hcoll : x.colander d = coll)
    (hy : (if coll then x.doColander ((s.chip k).tileMem r p) d else x.doSkewer ((s.chip k).tileMem r p) d) = y) :
    ∃ t, selectIn k r p coll s = .next t ∧
      (∀ v n, ((t.chip k).tile (tileIx r p)).lane v n = y.lane v n) ∧
      ((t.chip k).tile (tileIx r p)).selExact = y.selExact ∧ ((t.chip k).tile (tileIx r p)).selColander = y.selColander ∧
      ((t.chip k).tile (tileIx r p)).selCount = y.selCount ∧ ((t.chip k).tile (tileIx r p)).selPasses = y.selPasses := by
  subst hx hd
  refine ⟨_, by rw [selectIn, hat, hcoll, beq_self_eq_true, hc, he]; exact occurs_true _ _, ?_⟩
  obtain ⟨b, l, n, v, h⟩ := Chip.tile_doSelect (s.chip k) r p ((s.chip k).desc r p) y (by rw [hcoll, hy])
  rw [State.chip_setChip_self, Chip.tile_issueOp, h]
  exact ⟨fun v n => by rw [Tile.lane_issuedNext]; rfl, by simp, by simp, by simp, by simp⟩

/-- Settles O23. -/
theorem selectTakesEffect : Obligations.SelectTakesEffect := by
  intro k r p s x d m reads hat hc he
  refine ⟨fun hcoll => ?_, fun hcoll => ?_⟩
  · obtain ⟨t, ht, hl, hex, -, hcount, hp⟩ := selectIn_runs false rfl rfl hat hc he hcoll rfl
    refine ⟨t, ht, fun n hn => ?_, hex, hcount, hp.trans (Tile.selPasses_doSkewer _ _ _)⟩
    rw [hl, if_neg Bool.false_ne_true, Tile.doSkewer, Tile.lane_report, Tile.lane_writeEntries _ _ _ _ hn]
  · obtain ⟨t, ht, hl, -, hco, hcount, hp⟩ := selectIn_runs true rfl rfl hat hc he hcoll rfl
    exact ⟨t, ht, fun n hn => hl _ _, hco, hcount, hp.trans (Tile.selPasses_doColander _ _ _)⟩

/-! ## Copies -/

theorem copyLines_append (m : List Host.Cell) (seq : Bool) (ps : List (Nat × Nat)) (p : Nat × Nat) :
    copyLines m seq (ps ++ [p]) =
      Memory.write (copyLines m seq ps) p.2 (Memory.read (if seq then copyLines m seq ps else m) p.1 64) := by
  simp [copyLines]

@[simp] theorem Memory.read_length (m : List Host.Cell) (a n : Nat) : (Memory.read m a n).length = n := by
  simp [Memory.read]

/-- Runs of bytes that agree byte by byte read alike. -/
theorem Memory.read_congr {m m' : List Host.Cell} {a b n : Nat}
    (h : ∀ i < n, Memory.readByte m' (b + i) = Memory.readByte m (a + i)) : Memory.read m' b n = Memory.read m a n := by
  simp only [Memory.read]
  exact List.map_congr_left fun i hi => h i (List.mem_range.1 hi)

/-- The lines of a copy whose source and destination do not meet: the destination holds the source's lines, every other
byte is as it was. -/
theorem copyLines_disjoint (m : List Host.Cell) (seq : Bool) (a b n : Nat) (hm : Memory.wf m = true)
    (hd : ∀ i j, i < n → j < n → a + 64 * i + 64 ≤ b + 64 * j ∨ b + 64 * j + 64 ≤ a + 64 * i) :
    let m' := copyLines m seq ((List.range n).map fun i => (a + 64 * i, b + 64 * i))
    Memory.wf m' = true ∧ (∀ i, i < n → Memory.read m' (b + 64 * i) 64 = Memory.read m (a + 64 * i) 64) ∧
      ∀ o, (o < b ∨ b + 64 * n ≤ o) → Memory.readByte m' o = Memory.readByte m o := by
  induction n with
  | zero => exact ⟨hm, by simp, fun _ _ => rfl⟩
  | succ n ih =>
    obtain ⟨hw, hin, hout⟩ := ih fun i j hi hj => hd i j (by omega) (by omega)
    generalize hq : copyLines m seq ((List.range n).map fun i => (a + 64 * i, b + 64 * i)) = q at hw hin hout
    have hstep : copyLines m seq ((List.range (n + 1)).map fun i => (a + 64 * i, b + 64 * i)) =
        Memory.write q (b + 64 * n) (Memory.read m (a + 64 * n) 64) := by
      rw [List.range_succ, List.map_append, List.map_singleton, copyLines_append, hq]
      cases seq
      · rfl
      · congr 1
        refine Memory.read_congr fun i hi => hout _ ?_
        rcases Nat.eq_zero_or_pos n with rfl | hn
        · omega
        · have h0 := hd n 0 (by omega) (by omega)
          have h1 := hd n (n - 1) (by omega) (by omega)
          have hk : ∀ j < n, ¬ (b + 64 * j ≤ a + 64 * n + i ∧ a + 64 * n + i < b + 64 * j + 64) := fun j hj => by
            have := hd n j (by omega) (by omega)
            omega
          by_contra hc
          have hlo : b ≤ a + 64 * n + i := by omega
          exact hk ((a + 64 * n + i - b) / 64) (by omega) (by omega)
    rw [hstep]
    refine ⟨Memory.wf_write _ _ _ hw, fun i hi => ?_, fun o ho => ?_⟩
    · rcases Nat.lt_succ_iff_lt_or_eq.1 hi with h | rfl
      · rw [← hin i h]
        exact Memory.read_congr fun j hj => Memory.readByte_write_other _ _ _ _ hw (by simp; omega)
      · refine List.ext_getElem (by simp) fun j h1 h2 => ?_
        have hj : j < 64 := by simpa using h2
        have := Memory.readByte_write_inside q (b + 64 * i) j (Memory.read m (a + 64 * i) 64) hw (by simpa using hj)
        simpa [Memory.read] using this
    · rw [Memory.readByte_write_other _ _ _ _ hw (by simp; omega)]
      exact hout o (by omega)

/-- The line pairs that a list of runs copies within the tile, and the messages it sends and reads. -/
def pairsInTile (runs : List Run) : List (Nat × Nat) :=
  (runs.filter fun x => awSpace x.src == 0 && awSpace x.dst == 0).flatMap Run.pairs
def runWrites (r : Nat) (m : List Host.Cell) (runs : List Run) : List Msg :=
  (runs.filter fun x => awSpace x.src == 0 && awSpace x.dst != 0).flatMap fun x => x.writes r m
def runReads (r : Nat) (runs : List Run) : List (Msg × List Nat) :=
  (runs.filter fun x => awSpace x.src != 0).flatMap fun x => x.reads r

theorem Chip.tileMem_doRuns (c : Chip) (r p : Nat) (seq : Bool) (runs : List Run) (reads writes : List (Nat × Nat)) :
    (c.doRuns r p seq runs reads writes).tileMem r p = copyLines (c.tileMem r p) seq (pairsInTile runs) := by
  simp [Chip.doRuns, pairsInTile]

theorem Chip.length_issued_doRuns (c : Chip) (r p : Nat) (seq : Bool) (runs : List Run) (reads writes : List (Nat × Nat)) :
    ((c.doRuns r p seq runs reads writes).tile (tileIx r p)).issued.length = (c.tile (tileIx r p)).issued.length +
      (if ((runWrites r (c.tileMem r p) runs).filter fun m => m.dst != r) = [] then 0 else 1) +
      (if runReads r runs = [] then 0 else 1) := by
  rw [Chip.doRuns, Chip.length_issued_pump, Chip.onTile_eq, Chip.tile_setTile, if_pos rfl]
  simp only [← runReads.eq_1, ← runWrites.eq_1, List.isEmpty_iff]
  split <;> split <;> simp [*]

theorem Chip.written_doRuns (c : Chip) (r p : Nat) (seq : Bool) (runs : List Run) (reads writes : List (Nat × Nat)) :
    ((c.doRuns r p seq runs reads writes).tile (tileIx r p)).written =
      (runWrites r (c.tileMem r p) runs).foldl (fun l m => insertOnce l m.dst) (c.tile (tileIx r p)).written := by
  rw [Chip.doRuns, Chip.written_pump, Chip.onTile_eq, Chip.tile_setTile, if_pos rfl]
  simp only [← runReads.eq_1, ← runWrites.eq_1, List.isEmpty_iff]
  split <;> split <;> simp

/-- A run of at least one line has a first message, for the place its address names. -/
theorem cuts_head (a n f : Nat) (hn : n ≠ 0) : ∃ l rest, cuts (f + 1) a n = (a, l) :: rest := by
  simp [cuts, hn]

theorem Run.writes_head (x : Run) (r : Nat) (m : List Host.Cell) (h : x.lines ≠ 0) :
    ∃ w rest, x.writes r m = w :: rest ∧ w.dst = spaceEp x.dst x.dstAt := by
  obtain ⟨l, rest, hc⟩ := cuts_head x.dstAt x.lines x.lines h
  exact ⟨_, _, by rw [Run.writes, hc, List.map_cons], rfl⟩

theorem Run.reads_ne_nil (x : Run) (r : Nat) (h : x.lines ≠ 0) : x.reads r ≠ [] := by
  obtain ⟨l, rest, hc⟩ := cuts_head x.srcAt x.lines x.lines h
  simp [Run.reads, hc]

theorem mem_foldl_insertOnce (ms : List Msg) (l : List Nat) (e : Nat) (h : e ∈ l ∨ ∃ m ∈ ms, m.dst = e) :
    e ∈ ms.foldl (fun l m => insertOnce l m.dst) l := by
  induction ms generalizing l with
  | nil => simpa using h
  | cons m ms ih =>
    refine ih _ ?_
    simp only [mem_insertOnce]
    rcases h with h | ⟨w, hw, rfl⟩
    · exact .inl (.inr h)
    · rcases List.mem_cons.1 hw with rfl | hw
      · exact .inl (.inl rfl)
      · exact .inr ⟨w, hw, rfl⟩

/-- What an issue that carries runs out leaves: the lines copied within the tile, the operations that stand incomplete, the
places written. -/
structure Chip.RunsOut (c c' : Chip) (r p : Nat) (seq : Bool) (runs : List Run) : Prop where
  mem : c'.tileMem r p = copyLines (c.tileMem r p) seq (pairsInTile runs)
  issued : (c'.tile (tileIx r p)).issued.length = (c.tile (tileIx r p)).issued.length +
    (if ((runWrites r (c.tileMem r p) runs).filter fun m => m.dst != r) = [] then 0 else 1) +
    (if runReads r runs = [] then 0 else 1)
  written : (c'.tile (tileIx r p)).written =
    (runWrites r (c.tileMem r p) runs).foldl (fun l m => insertOnce l m.dst) (c.tile (tileIx r p)).written

theorem Chip.runsOut_issueOp (c : Chip) (r p : Nat) (d : List Nat) (seq : Bool) (runs : List Run)
    (reads writes : List (Nat × Nat)) :
    c.RunsOut (c.issueOp r p 0 d fun c => c.doRuns r p seq runs reads writes) r p seq runs := by
  constructor
  · rw [Chip.tileMem_issueOp, Chip.tileMem_doRuns]
  · rw [Chip.tile_issueOp, Tile.issuedNext_issued, Chip.length_issued_doRuns]
  · rw [Chip.tile_issueOp, Tile.issuedNext_written, Chip.written_doRuns]

theorem exec_move {k : ChipId} {r : RegionId} {p : TileId} {s : State} {x : Tile} {d : List Nat}
    (hx : x = (s.chip k).tile (tileIx r p)) (hd : d = (s.chip k).desc r p) (hat : (s.chip k).atOp r p 0x04 = true)
    (hb : x.moveBusy = false) (hc : x.clear (x.moveRun d).localReads (x.moveRun d).localWrites = true)
    (he : x.moveError d = 0) :
    ∃ t seq, exec (.move k r p) s = .next t ∧ (s.chip k).RunsOut (t.chip k) r p seq [x.moveRun d] := by
  subst hx hd
  refine ⟨_, decide (Config.free s.fresh % 2 = 1), by rw [exec, execMove, hat, hb, hc, he]; exact occurs_true _ _, ?_⟩
  change (s.chip k).RunsOut ((s.setChip k _).chip k) r p _ _
  rw [State.chip_setChip_self]
  exact Chip.runsOut_issueOp _ _ _ _ _ _ _ _

theorem tableMove_runs {k : ChipId} {r : RegionId} {p : TileId} {s : State} {op : Nat} {g : Bool} {x : Tile} {d : List Nat}
    {m : List Host.Cell} (hx : x = (s.chip k).tile (tileIx r p)) (hd : d = (s.chip k).desc r p)
    (hm : m = (s.chip k).tileMem r p) (hat : (s.chip k).atOp r p op = true) (hb : x.moveBusy = false)
    (hc : x.clear (x.tableReads d (x.tableRuns m d g)) ((x.tableRuns m d g).flatMap Run.localWrites) = true)
    (he : x.tableError m d = 0) :
    ∃ t seq, tableMove k r p op g s = .next t ∧ (s.chip k).RunsOut (t.chip k) r p seq (x.tableRuns m d g) := by
  subst hx hd hm
  refine ⟨_, decide (Config.free s.fresh % 2 = 1), by rw [tableMove, hat, hb, hc, he]; exact occurs_true _ _, ?_⟩
  change (s.chip k).RunsOut ((s.setChip k _).chip k) r p _ _
  rw [State.chip_setChip_self]
  exact Chip.runsOut_issueOp _ _ _ _ _ _ _ _

/-! ### MOVE -/

theorem firstError_eq_zero {l : List (Bool × Nat)} (h : firstError l = 0) (hl : ∀ e ∈ l, e.2 ≠ 0) : ∀ e ∈ l, e.1 = false := by
  intro e he
  by_contra hc
  unfold firstError at h
  cases hf : l.find? fun e => e.1 with
  | none => exact hc (by simpa using List.find?_eq_none.1 hf e he)
  | some y => exact hl y (List.mem_of_find?_eq_some hf) (by simpa [hf] using h)

theorem mvLines_ne_zero {x : Tile} {d : List Nat} (he : x.moveError d = 0) : mvLines d ≠ 0 := by
  have := firstError_eq_zero he (by simp [eReserved, eCount, eAddress])
  simp at this
  exact this.2.1.1

theorem pairsInTile_moveRun (x : Tile) (d : List Nat) (h1 : awSpace (word d 1) = 0) (h2 : awSpace (word d 2) = 0) :
    pairsInTile [x.moveRun d] =
      (List.range (mvLines d)).map fun i => (x.eff (word d 1) + 64 * i, x.eff (word d 2) + 64 * i) := by
  simp [pairsInTile, Tile.moveRun, h1, h2, Run.pairs]

theorem pairsInTile_moveRun_away (x : Tile) (d : List Nat) (h : awSpace (word d 1) ≠ 0 ∨ awSpace (word d 2) ≠ 0) :
    pairsInTile [x.moveRun d] = [] := by
  rcases h with h | h <;> simp [pairsInTile, Tile.moveRun, h]

/-- A MOVE out of the tile stands incomplete, and the place it writes first counts as written. -/
theorem runsOut_move_away {c c' : Chip} {r p : Nat} {seq : Bool} {x : Tile} {d : List Nat} (hx : x = c.tile (tileIx r p))
    (h : c.RunsOut c' r p seq [x.moveRun d]) (h1 : awSpace (word d 1) = 0) (h2 : awSpace (word d 2) ≠ 0)
    (hr : spaceEp (word d 2) (x.eff (word d 2)) ≠ r) (hn : mvLines d ≠ 0) :
    (c'.tile (tileIx r p)).issued.length = x.issued.length + 1 ∧
      spaceEp (word d 2) (x.eff (word d 2)) ∈ (c'.tile (tileIx r p)).written ∧ c'.tileMem r p = c.tileMem r p := by
  subst hx
  generalize hxx : c.tile (tileIx r p) = x at *
  obtain ⟨w, rest, hw, hdst⟩ := (x.moveRun d).writes_head r (c.tileMem r p) hn
  have hws : runWrites r (c.tileMem r p) [x.moveRun d] = w :: rest := by
    simp [runWrites, Tile.moveRun, h1, h2] at hw ⊢
    exact hw
  have hrs : runReads r [x.moveRun d] = [] := by simp [runReads, Tile.moveRun, h1]
  have hwr : w.dst ≠ r := by rw [hdst]; exact hr
  refine ⟨?_, ?_, ?_⟩
  · rw [h.issued, hws, hrs, hxx]
    simp [hwr]
  · rw [h.written, hws]
    exact mem_foldl_insertOnce _ _ _ (.inr ⟨w, List.mem_cons_self, hdst⟩)
  · rw [h.mem, pairsInTile_moveRun_away _ _ (.inr h2)]
    rfl

/-- A MOVE into the tile stands incomplete until its lines have come. -/
theorem runsOut_move_in {c c' : Chip} {r p : Nat} {seq : Bool} {x : Tile} {d : List Nat} (hx : x = c.tile (tileIx r p))
    (h : c.RunsOut c' r p seq [x.moveRun d]) (h1 : awSpace (word d 1) ≠ 0) (hn : mvLines d ≠ 0) :
    (c'.tile (tileIx r p)).issued.length = x.issued.length + 1 ∧ c'.tileMem r p = c.tileMem r p := by
  subst hx
  have hws : runWrites r (c.tileMem r p) [(c.tile (tileIx r p)).moveRun d] = [] := by simp [runWrites, Tile.moveRun, h1]
  have hrs : runReads r [(c.tile (tileIx r p)).moveRun d] ≠ [] := by
    have := ((c.tile (tileIx r p)).moveRun d).reads_ne_nil r hn
    simp [runReads, Tile.moveRun, h1] at this ⊢
    exact this
  refine ⟨?_, ?_⟩
  · rw [h.issued, hws]
    simp [hrs]
  · rw [h.mem, pairsInTile_moveRun_away _ _ (.inl h1)]
    rfl

/-! ### GATHER and SCATTER -/

theorem awSpace_of_tableError {x : Tile} {m : List Host.Cell} {d : List Nat} (he : x.tableError m d = 0) :
    awSpace (word d 2) = 0 := by
  unfold Tile.tableError at he
  extract_lets head at he
  by_cases h : head = 0
  · have := firstError_eq_zero (h : firstError _ = 0) (by simp [eReserved, eAddress])
    simp [Tile.badLocal] at this
    tauto
  · simp [h] at he

theorem tbLines_ne_zero (d : List Nat) : tbLines d ≠ 0 := Nat.succ_ne_zero _

/-- Every run of a table goes between one of its addresses and the local run. -/
theorem mem_tableRuns {x : Tile} {m : List Host.Cell} {d : List Nat} {g : Bool} {y : Run} (h : y ∈ x.tableRuns m d g) :
    y.lines = tbLines d ∧ ∃ w ∈ x.table m d, (if g then y.src else y.dst) = w ∧ (if g then y.dst else y.src) = word d 2 := by
  simp only [Tile.tableRuns, List.mem_map] at h
  obtain ⟨e, he, rfl⟩ := h
  cases g <;> exact ⟨rfl, e.1, List.fst_mem_of_mem_zipIdx he, rfl, rfl⟩

/-- Every address of a table has its run. -/
theorem exists_mem_tableRuns {x : Tile} {m : List Host.Cell} {d : List Nat} {w : Nat} (h : w ∈ x.table m d) :
    (∃ y ∈ x.tableRuns m d true, y.src = w) ∧ ∃ y ∈ x.tableRuns m d false, y.dst = w ∧ y.dstAt = x.eff w := by
  obtain ⟨i, hi⟩ := List.mem_iff_getElem?.1 h
  have hz : (w, i) ∈ (x.table m d).zipIdx := List.mk_mem_zipIdx_iff_getElem?.2 hi
  exact ⟨⟨_, List.mem_map_of_mem hz, rfl⟩, ⟨_, List.mem_map_of_mem hz, rfl, rfl⟩⟩

theorem pairsInTile_of_local {runs : List Run} (h : ∀ y ∈ runs, awSpace y.src = 0 ∧ awSpace y.dst = 0) :
    pairsInTile runs = runs.flatMap Run.pairs := by
  rw [pairsInTile, List.filter_eq_self.2 fun y hy => by simp [h y hy]]

theorem runReads_ne_nil {r : Nat} {runs : List Run} {y : Run} (hy : y ∈ runs) (h : awSpace y.src ≠ 0) (hn : y.lines ≠ 0) :
    runReads r runs ≠ [] := by
  obtain ⟨q, hq⟩ := List.exists_mem_of_ne_nil _ (y.reads_ne_nil r hn)
  exact List.ne_nil_of_mem (List.mem_flatMap.2 ⟨y, by simp [hy, h], hq⟩)

theorem runWrites_away_ne_nil {r : Nat} {m : List Host.Cell} {runs : List Run} {y : Run} (hy : y ∈ runs)
    (h1 : awSpace y.src = 0) (h2 : awSpace y.dst ≠ 0) (hn : y.lines ≠ 0) (hr : spaceEp y.dst y.dstAt ≠ r) :
    ((runWrites r m runs).filter fun m => m.dst != r) ≠ [] := by
  obtain ⟨w, rest, hw, hd⟩ := y.writes_head r m hn
  have hmem : w ∈ runWrites r m runs := List.mem_flatMap.2 ⟨y, by simp [hy, h1, h2], by rw [hw]; exact List.mem_cons_self⟩
  exact List.ne_nil_of_mem (List.mem_filter.2 ⟨hmem, by rw [hd]; simpa using hr⟩)

/-- No run of a gather is written to a remote place. -/
theorem runWrites_gather {x : Tile} {m m' : List Host.Cell} {d : List Nat} {r : Nat} (h2 : awSpace (word d 2) = 0) :
    runWrites r m' (x.tableRuns m d true) = [] := by
  rw [runWrites, List.filter_eq_nil_iff.2, List.flatMap_nil]
  intro y hy
  obtain ⟨-, w, -, -, hd⟩ := mem_tableRuns hy
  have hd : y.dst = word d 2 := hd
  simp [hd, h2]

/-- No run of a scatter is read from a remote place. -/
theorem runReads_scatter {x : Tile} {m : List Host.Cell} {d : List Nat} {r : Nat} (h2 : awSpace (word d 2) = 0) :
    runReads r (x.tableRuns m d false) = [] := by
  rw [runReads, List.filter_eq_nil_iff.2, List.flatMap_nil]
  intro y hy
  obtain ⟨-, w, -, -, hd⟩ := mem_tableRuns hy
  have hd : y.src = word d 2 := hd
  simp [hd, h2]

theorem pairsInTile_table {x : Tile} {m : List Host.Cell} {d : List Nat} (g : Bool) (h2 : awSpace (word d 2) = 0)
    (ht : ∀ w ∈ x.table m d, awSpace w = 0) : pairsInTile (x.tableRuns m d g) = (x.tableRuns m d g).flatMap Run.pairs := by
  refine pairsInTile_of_local fun y hy => ?_
  obtain ⟨-, w, hw, hs, hd⟩ := mem_tableRuns hy
  have hl : awSpace w = 0 := ht w hw
  cases g <;> simp_all

/-- A gather from a remote place stands incomplete until its lines have come. -/
theorem runsOut_gather_in {c c' : Chip} {r p : Nat} {seq : Bool} {m : List Host.Cell} {x : Tile} {d : List Nat}
    (hx : x = c.tile (tileIx r p)) (h : c.RunsOut c' r p seq (x.tableRuns m d true)) (he : x.tableError m d = 0)
    (ht : ∃ w ∈ x.table m d, awSpace w ≠ 0) : (c'.tile (tileIx r p)).issued.length = x.issued.length + 1 := by
  subst hx
  obtain ⟨w, hw, hs⟩ := ht
  obtain ⟨y, hy, rfl⟩ := (exists_mem_tableRuns hw).1
  rw [h.issued, runWrites_gather (awSpace_of_tableError he),
    if_neg (runReads_ne_nil hy hs ((mem_tableRuns hy).1 ▸ tbLines_ne_zero d))]
  simp

/-- A scatter to a remote place stands incomplete until its messages are injected. -/
theorem runsOut_scatter_away {c c' : Chip} {r p : Nat} {seq : Bool} {m : List Host.Cell} {x : Tile} {d : List Nat}
    (hx : x = c.tile (tileIx r p)) (h : c.RunsOut c' r p seq (x.tableRuns m d false)) (he : x.tableError m d = 0)
    (ht : ∃ w ∈ x.table m d, awSpace w ≠ 0 ∧ spaceEp w (x.eff w) ≠ r) :
    (c'.tile (tileIx r p)).issued.length = x.issued.length + 1 := by
  subst hx
  obtain ⟨w, hw, hs, hr⟩ := ht
  obtain ⟨y, hy, rfl, ha⟩ := (exists_mem_tableRuns hw).2
  obtain ⟨hn, v, -, -, hsrc⟩ := mem_tableRuns hy
  have hsrc : y.src = word d 2 := hsrc
  have h2 := awSpace_of_tableError he
  rw [h.issued, runReads_scatter h2,
    if_neg (runWrites_away_ne_nil hy (hsrc ▸ h2) hs (hn ▸ tbLines_ne_zero d) (ha ▸ hr))]
  simp

/-- Settles O22. -/
theorem copiesWithinATile : Obligations.CopiesWithinATile := by
  intro k r p s x d m a b
  refine ⟨fun hat hb hc he h1 h2 hm hd => ?_, fun hat hb hc he => ⟨fun h1 h2 hr => ?_, fun h1 => ?_⟩,
    fun hat hb hc he ht => ?_, fun hat hb hc he ht => ?_, fun hat hb hc he ht => ?_, fun hat hb hc he ht => ?_⟩
  · obtain ⟨t, seq, hex, h⟩ := exec_move rfl rfl hat hb hc he
    obtain ⟨-, hin, hout⟩ := copyLines_disjoint m seq a b (mvLines d) hm (by omega)
    refine ⟨t, hex, ?_⟩
    rw [h.mem, pairsInTile_moveRun _ _ h1 h2]
    exact ⟨hin, hout⟩
  · obtain ⟨t, seq, hex, h⟩ := exec_move rfl rfl hat hb hc he
    exact ⟨t, hex, runsOut_move_away rfl h h1 h2 hr (mvLines_ne_zero he)⟩
  · obtain ⟨t, seq, hex, h⟩ := exec_move rfl rfl hat hb hc he
    exact ⟨t, hex, runsOut_move_in rfl h h1 (mvLines_ne_zero he)⟩
  · obtain ⟨t, seq, hex, h⟩ := tableMove_runs rfl rfl rfl hat hb hc he
    exact ⟨t, seq, hex, by rw [h.mem, pairsInTile_table true (awSpace_of_tableError he) ht]⟩
  · obtain ⟨t, seq, hex, h⟩ := tableMove_runs rfl rfl rfl hat hb hc he
    exact ⟨t, hex, runsOut_gather_in rfl h he ht⟩
  · obtain ⟨t, seq, hex, h⟩ := tableMove_runs rfl rfl rfl hat hb hc he
    exact ⟨t, seq, hex, by rw [h.mem, pairsInTile_table false (awSpace_of_tableError he) ht]⟩
  · obtain ⟨t, seq, hex, h⟩ := tableMove_runs rfl rfl rfl hat hb hc he
    exact ⟨t, hex, runsOut_scatter_away rfl h he ht⟩

end Sys2Proof.Machine
end

section
/-! LEMMAS. The collectives at a tile (R394, R397, R398, R400), SIGNAL and WAIT (R382, R391, R392) and the control of the
sequencer (R369, R377, R378, R380 to R382, R402, R464). Settles O24, O25 and O26. -/

namespace Sys2Proof.Machine

-- In order, not in parallel: every elaborator thread that waits for another holds a stack within the check's memory limit.
set_option Elab.async false

/-! ## Banks with an entry erased -/

theorem Bank.look_filter {α : Type} (l : List (Nat × α)) (k j : Nat) :
    Bank.look (l.filter fun e => e.1 != k) j = if j = k then none else Bank.look l j := by
  induction l with
  | nil => simp [Bank.look]
  | cons e l ih =>
    obtain ⟨i, v⟩ := e
    by_cases hi : i = k
    · subst hi
      by_cases hj : j = i
      · subst hj; simpa using ih
      · simp [ih, Bank.look, hj, Ne.symm hj]
    · by_cases hj : i = j
      · subst hj; simp [hi, Bank.look]
      · simp [hi, Bank.look, hj, ih]

theorem Bank.get_erase {α : Type} (b : Bank α) (d : α) (k j : Nat) :
    (b.erase k).get d j = if j = k then d else b.get d j := by
  simp only [Bank.get, Bank.erase, Bank.look_filter]
  by_cases h : j = k <;> simp [h]

/-- A field that is false by default and in entry `j` stays false when entries are erased. -/
theorem Bank.get_foldl_erase {α : Type} (f : α → Bool) (d : α) (hd : f d = false) (l : List Nat) (b : Bank α) (j : Nat)
    (hj : f (b.get d j) = false) : f ((l.foldl (fun b n => b.erase n) b).get d j) = false := by
  induction l generalizing b with
  | nil => exact hj
  | cons n l ih =>
    refine ih _ ?_
    rw [Bank.get_erase]
    split
    · exact hd
    · exact hj

/-! ## What an error at issue leaves -/

theorem Chip.tile_itemErrorAt (c : Chip) (r p code off : Nat) :
    ∃ l, (c.itemErrorAt r p code off).tile (tileIx r p) =
      { c.tile (tileIx r p) with
        ended := true, errOff := off, errCode := code, issued := l, armedSlots := []
        err := if (c.tile (tileIx r p)).err = 0 then code else (c.tile (tileIx r p)).err
        slots := (c.tile (tileIx r p)).armedSlots.foldl (fun b n => b.erase n) (c.tile (tileIx r p)).slots } := by
  simp only [Chip.itemErrorAt, Chip.tile_faultIf_frame, Chip.onTile_eq, Chip.tile_setTile, if_pos]
  exact ⟨_, rfl⟩

@[simp] theorem Chip.itemErrorAt_time (c : Chip) (r p code off : Nat) : (c.itemErrorAt r p code off).time = c.time := by
  simp [Chip.itemErrorAt]

@[simp] theorem Chip.ep_itemErrorAt (c : Chip) (r p code off e : Nat) : (c.itemErrorAt r p code off).ep e = c.ep e := by
  simp [Chip.itemErrorAt]

/-! ## Collectives -/

theorem exec_collectiveArm {k : ChipId} {r : RegionId} {p : TileId} {s : State} {x : Tile} {d : List Nat} {a : Slot}
    (hx : x = (s.chip k).tile (tileIx r p)) (hd : d = (s.chip k).desc r p) (ha : a = x.armedSlot d)
    (hat : (s.chip k).atCollective r p 0 = true) (hc : x.clear [] [span a.area (64 * a.r)] = true) (he : x.armError d = 0)
    (hm : Memory.wf ((s.chip k).tileMem r p) = true) :
    ∃ t, exec (.collectiveArm k r p) s = .next t ∧ ((t.chip k).tile (tileIx r p)).slot (clSlot d) = a ∧
      Memory.read ((t.chip k).tileMem r p) a.area a.blankArea.length = a.blankArea := by
  subst hx hd ha
  refine ⟨_, by rw [exec, execCollectiveArm, hat, hc, he]; exact occurs_true _ _, ?_, ?_⟩
  · rw [State.chip_setChip_self, Chip.tile_issueOp]
    simp [Tile.slot]
  · rw [State.chip_setChip_self, Chip.tileMem_issueOp, Chip.onTile_eq, Chip.tileMem_setTile, Chip.tileMem_onTileMem]
    exact Memory.read_write_self _ _ _ hm

theorem exec_collectiveSend {k : ChipId} {r : RegionId} {p : TileId} {s : State} {x : Tile} {d : List Nat}
    (hx : x = (s.chip k).tile (tileIx r p)) (hd : d = (s.chip k).desc r p) (hat : (s.chip k).atCollective r p 1 = true)
    (hb : x.moveBusy = false) (hc : x.clear [span (x.eff (word d 2)) (64 * clRecords d)] [] = true)
    (he : x.sendError d = 0) :
    ∃ t, exec (.collectiveSend k r p) s = .next t ∧
      ((t.chip k).tile (tileIx r p)).issued.length = x.issued.length + 1 := by
  subst hx hd
  refine ⟨_, by rw [exec, execCollectiveSend, hat, hb, hc, he]; exact occurs_true _ _, ?_⟩
  rw [State.chip_setChip_self, Chip.tile_issueOp, Tile.issuedNext_issued, Chip.length_issued_pump]
  simp

theorem exec_collectiveWait {k : ChipId} {r : RegionId} {p : TileId} {s : State} {x : Tile} {d : List Nat}
    (hx : x = (s.chip k).tile (tileIx r p)) (hd : d = (s.chip k).desc r p) (hat : (s.chip k).atCollective r p 2 = true)
    (he : waitSlotError d = 0) :
    ∃ t, exec (.collectiveWait k r p) s = .next t ∧ ((t.chip k).tile (tileIx r p)).issued.length =
      x.issued.length + (if (x.slot (clSlot d)).done then 0 else 1) := by
  subst hx hd
  refine ⟨_, by rw [exec, execCollectiveWait, hat, he]; exact occurs_true _ _, ?_⟩
  rw [State.chip_setChip_self, Chip.tile_issueOp, Tile.issuedNext_issued]
  split <;> simp

theorem exec_collectiveDisarm {k : ChipId} {r : RegionId} {p : TileId} {s : State} {d : List Nat}
    (hd : d = (s.chip k).desc r p) (hat : (s.chip k).atCollective r p 3 = true) (he : clReserved d = false) :
    ∃ t, exec (.collectiveDisarm k r p) s = .next t ∧
      (((t.chip k).tile (tileIx r p)).slot (clSlot d)).armed = false := by
  subst hd
  have herr : firstError [(clReserved ((s.chip k).desc r p), eReserved)] = 0 := by simp [firstError, he]
  refine ⟨_, by rw [exec, execCollectiveDisarm, hat, herr]; exact occurs_true _ _, ?_⟩
  rw [State.chip_setChip_self, Chip.tile_issueOp]
  simp [Tile.slot, Tile.disarm, Bank.get_erase]

/-- The tile whose operation has outlived its TIMEOUT, without that operation and with its slot disarmed. -/
def Tile.timedOut (x : Tile) (i : Issued) (slot : Option Nat) : Tile :=
  match slot with
  | some n => ({ x with issued := x.issued.erase i } : Tile).disarm n
  | none => { x with issued := x.issued.erase i }

theorem Tile.timedOut_err (x : Tile) (i : Issued) (slot : Option Nat) : (x.timedOut i slot).err = x.err := by
  cases slot <;> rfl

theorem exec_collectiveTimeout {k : ChipId} {r : RegionId} {p : TileId} {s : State} {i : Issued} {slot : Option Nat}
    (hrun : (s.chip k).running = true) (hx : ((s.chip k).tile (tileIx r p)).expired = some (i, slot))
    (he : ((s.chip k).tile (tileIx r p)).err = 0) :
    ∃ t, exec (.collectiveTimeout k r p) s = .next t ∧ ((t.chip k).tile (tileIx r p)).err = eCollective ∧
      (t.chip k).hif.log.head? = some ⟨codeOf .ops 7, r.val, (s.chip k).time.epoch⟩ ∧
      ∀ n, slot = some n → (((t.chip k).tile (tileIx r p)).slot n).armed = false := by
  have hex : exec (.collectiveTimeout k r p) s = .next (s.setChip k
      (((((s.chip k).onTile (tileIx r p) fun x => x.timedOut i slot).itemErrorAt r p eCollective i.off)).fault .ops 7 r)) := by
    rw [exec, execCollectiveTimeout, hx]
    simp only [hrun, occurs_true]
    cases slot <;> rfl
  refine ⟨_, hex, ?_⟩
  rw [State.chip_setChip_self]
  obtain ⟨l, hl⟩ := ((s.chip k).onTile (tileIx r p) fun x => x.timedOut i slot).tile_itemErrorAt r p eCollective i.off
  refine ⟨?_, ?_, fun n hn => ?_⟩
  · rw [Chip.tile_fault_frame, hl]
    simp [Tile.timedOut_err, he]
  · simp
  · subst hn
    rw [Chip.tile_fault_frame, hl, Tile.slot]
    refine Bank.get_foldl_erase Slot.armed {} rfl _ _ n ?_
    simp [Tile.timedOut, Tile.disarm, Bank.get_erase]

theorem exec_collectResend {k : ChipId} {r : RegionId} {p : TileId} {s : State} (hrun : (s.chip k).running = true)
    (hclk : (s.chip k).clockRuns r = true) (he : ((s.chip k).tile (tileIx r p)).err = 0)
    (hn : 0 < (((s.chip k).tile (tileIx r p)).issued.map fun i => i.kind.resends).sum) :
    ∃ t, exec (.collectResend k r p) s = .next t ∧ ((t.chip k).tile (tileIx r p)).retry =
      satAdd 32 ((s.chip k).tile (tileIx r p)).retry (((s.chip k).tile (tileIx r p)).issued.map fun i => i.kind.resends).sum := by
  refine ⟨_, by rw [exec, execCollectResend, hrun, hclk, he, decide_eq_true hn]; exact occurs_true _ _, ?_⟩
  rw [State.chip_setChip_self, Chip.retry_pump]
  simp

@[simp] theorem Chip.slots_raiseFlags (c : Chip) (r p fl : Nat) :
    ((c.raiseFlags r p fl).tile (tileIx r p)).slots = (c.tile (tileIx r p)).slots := by
  rw [Chip.raiseFlags]; split <;> simp

@[simp] theorem Tile.wakeSlot_slots (x : Tile) (n : Nat) : (x.wakeSlot n).slots = x.slots := rfl

/-- A record that combines is counted in its slot. -/
theorem Chip.accepted_combineMsg (c : Chip) (r p n : Nat) (q : Msg) :
    (((c.combineMsg r p n q).tile (tileIx r p)).slot n).accepted = ((c.tile (tileIx r p)).slot n).accepted + q.len := by
  unfold Chip.combineMsg
  extract_lets t sl ix out acc s1 c1
  have hs : (c1.tile t).slots = (c.tile t).slots.set n s1 := by
    simp only [c1, Chip.onTile_eq, Chip.tile_setTile, if_pos, Chip.tile_onTileMem]
    split <;> rfl
  rw [Tile.slot, Chip.onRegion_eq, Chip.tile_setRegion_frame, Chip.tile_faultIf_frame, Chip.slots_raiseFlags, hs,
    Bank.get_set_self]

theorem exec_collect {k : ChipId} {r : RegionId} {p : TileId} {s : State} {q : Msg} (hrun : (s.chip k).running = true)
    (hclk : (s.chip k).clockRuns r = true) (hq : (s.chip k).headReq r = some q) (hop : q.op = 0x03) (hpo : q.poison = false)
    (ha : tileAddr q.addr 1 = some (p.val, 0)) (hlo : 1 ≤ q.len) (hhi : q.len ≤ 3)
    (hres : (((s.chip k).tile (tileIx r p)).slot (field q.arg 0 4)).result (field q.arg 4 8) (field q.arg 28 2)
      (field q.arg 12 16) q.len = 0) :
    ∃ t, exec (.collect k r) s = .next t ∧ (((t.chip k).tile (tileIx r p)).slot (field q.arg 0 4)).accepted =
      (((s.chip k).tile (tileIx r p)).slot (field q.arg 0 4)).accepted + q.len := by
  have hex : exec (.collect k r) s = .next (s.setChip k (((s.chip k).answer r (rspTo r q 0 0 [] 0)).combineMsg r p
      (field q.arg 0 4) q)) := by
    rw [exec, execCollect, hq]
    simp only [hrun, hclk, hop, hpo, ha, hres]
    simp [show q.len ≠ 0 by omega, show ¬ 3 < q.len by omega]
  refine ⟨_, hex, ?_⟩
  rw [State.chip_setChip_self, Chip.accepted_combineMsg, Chip.tile_answer]

/-- Settles O24. -/
theorem collectivesTakeEffect : Obligations.CollectivesTakeEffect := by
  intro k r p s x d m a
  exact ⟨fun hat hc he hm => exec_collectiveArm rfl rfl rfl hat hc he hm,
    fun hat hb hc he => exec_collectiveSend rfl rfl hat hb hc he, fun hat he => exec_collectiveWait rfl rfl hat he,
    fun hat he => exec_collectiveDisarm rfl hat he, fun i slot hrun hx he => exec_collectiveTimeout hrun hx he,
    fun hrun hclk he hn => exec_collectResend hrun hclk he hn,
    fun q hrun hclk hq hop hpo ha hlo hhi hres => exec_collect hrun hclk hq hop hpo ha hlo hhi hres⟩

/-! ## SIGNAL and WAIT -/

@[simp] theorem signalMsg_src (r : Nat) (d : List Nat) : (signalMsg r d).src = r := rfl
@[simp] theorem signalMsg_dst (r : Nat) (d : List Nat) : (signalMsg r d).dst = epSeq := rfl
@[simp] theorem waitMsg_src (r tag counter value timeout : Nat) : (waitMsg r tag counter value timeout).src = r := rfl
@[simp] theorem waitMsg_dst (r tag counter value timeout : Nat) : (waitMsg r tag counter value timeout).dst = epSeq := rfl

theorem epSeq_ne_region (r : RegionId) : epSeq ≠ r.val := by
  have := r.isLt
  simp only [epSeq]
  omega

/-- The endpoint of a region after it issues a message for SEQ. -/
theorem Chip.out_issueMsg_seq (c : Chip) (r : RegionId) (m : Msg) (hs : m.src = r) (hd : m.dst = epSeq) :
    ((c.issueMsg m).ep r).out = (c.ep r).out ++ [m] := by
  have h := c.ep_issueMsg m (by rw [hs, hd]; exact epSeq_ne_region r)
  rw [hs] at h
  rw [h]

theorem Chip.out_issueEvt (c : Chip) (r : RegionId) (p : Nat) (m : Msg) (hs : m.src = r) (hd : m.dst = epSeq) :
    ((c.issueEvt r p m).ep r).out = (c.ep r).out ++ [m] := by
  rw [← c.out_issueMsg_seq r m hs hd]
  rfl

/-- A FENCE leaves no endpoint to flush, and one operation more. -/
theorem Chip.tile_fenceFor (c : Chip) (r p : Nat) (k : List Nat → Pending) :
    ∃ ts, (c.fenceFor r p k).tile (tileIx r p) =
      ({ c.tile (tileIx r p) with written := [] } : Tile).hold (k ts) [] [] := by
  rw [Chip.fenceFor]
  exact ⟨_, by rw [Chip.tile_foldl_issueMsg, Chip.onTile_eq, Chip.tile_setTile, if_pos rfl]⟩

/-- A SIGNAL that may issue sends its EVT, or first flushes what the tile wrote. -/
theorem signalWith_runs {k : ChipId} {r : RegionId} {p : TileId} {s : State} {x : Tile} {d : List Nat} (b : Bool)
    (hx : x = (s.chip k).tile (tileIx r p)) (hd : d = (s.chip k).desc r p) (hat : (s.chip k).atOp r p 0x09 = true)
    (hb : x.moveBusy = false) (hset : bit (word d 1) 10 = b) (he : signalError d = 0)
    (hf : sgFence d = true → x.issued = [] ∧ (s.chip k).canFlush r x = true) :
    signalWith k r p b s = .next (s.setChip k ((s.chip k).issueOp r p 0 d fun c =>
      if sgFence d && !x.written.isEmpty then c.fenceFor r p (fun ts => .signalFence ts (signalMsg r d))
      else c.issueEvt r p (signalMsg r d))) := by
  subst hx hd
  have hg : (!sgFence ((s.chip k).desc r p) || (((s.chip k).tile (tileIx r p)).issued.isEmpty &&
      (s.chip k).canFlush r ((s.chip k).tile (tileIx r p)))) = true := by
    cases h : sgFence ((s.chip k).desc r p)
    · rfl
    · simp [hf h]
  rw [signalWith, hat, hb, hset, hg, he, beq_self_eq_true]
  exact occurs_true _ _

theorem signalWith_out {k : ChipId} {r : RegionId} {p : TileId} {s : State} {x : Tile} {d : List Nat} (b : Bool)
    (hx : x = (s.chip k).tile (tileIx r p)) (hd : d = (s.chip k).desc r p) (hat : (s.chip k).atOp r p 0x09 = true)
    (hb : x.moveBusy = false) (hf : sgFence d = false) (he : signalError d = 0) (hset : bit (word d 1) 10 = b) :
    ∃ t, signalWith k r p b s = .next t ∧ ((t.chip k).ep r).out = ((s.chip k).ep r).out ++ [signalMsg r d] := by
  refine ⟨_, signalWith_runs b hx hd hat hb hset he (by simp [hf]), ?_⟩
  rw [State.chip_setChip_self, Chip.ep_issueOp, hf]
  exact Chip.out_issueEvt _ _ _ _ rfl rfl

theorem signalWith_fence {k : ChipId} {r : RegionId} {p : TileId} {s : State} {x : Tile} {d : List Nat} (b : Bool)
    (hx : x = (s.chip k).tile (tileIx r p)) (hd : d = (s.chip k).desc r p) (hat : (s.chip k).atOp r p 0x09 = true)
    (hb : x.moveBusy = false) (hf : sgFence d = true) (hi : x.issued = []) (hcan : (s.chip k).canFlush r x = true)
    (he : signalError d = 0) (hset : bit (word d 1) 10 = b) :
    ∃ t, signalWith k r p b s = .next t ∧ ((t.chip k).tile (tileIx r p)).written = [] ∧
      ((t.chip k).tile (tileIx r p)).issued.length = 1 := by
  refine ⟨_, signalWith_runs b hx hd hat hb hset he fun _ => ⟨hi, hcan⟩, ?_⟩
  subst hx
  rw [State.chip_setChip_self, Chip.tile_issueOp, Tile.issuedNext_written, Tile.issuedNext_issued, hf]
  by_cases hw : ((s.chip k).tile (tileIx r p)).written = []
  · simp [hw, Chip.issueEvt, hi]
  · rw [if_pos (by simp [hw])]
    obtain ⟨ts, ht⟩ := (s.chip k).tile_fenceFor r p fun ts => .signalFence ts (signalMsg r d)
    rw [ht]
    simp [hi]

theorem exec_wait {k : ChipId} {r : RegionId} {p : TileId} {s : State} {x : Tile} {d : List Nat}
    (hx : x = (s.chip k).tile (tileIx r p)) (hd : d = (s.chip k).desc r p) (hat : (s.chip k).atOp r p 0x0A = true)
    (hb : x.moveBusy = false) (ht : (s.chip k).freeTags r ≠ []) (he : waitError d = 0) :
    ∃ t, exec (.wait k r p) s = .next t ∧ ((t.chip k).ep r).out = ((s.chip k).ep r).out ++
      [waitMsg r ((s.chip k).freeTag r) (sgCounter d) (word d 2) (wtTimeout d)] := by
  subst hx hd
  have htag : ((s.chip k).freeTags r).isEmpty = false := by simpa using ht
  refine ⟨_, by rw [exec, execWait, hat, hb, he, htag]; exact occurs_true _ _, ?_⟩
  rw [State.chip_setChip_self, Chip.ep_issueOp]
  exact Chip.out_issueMsg_seq _ _ _ rfl rfl

theorem exec_waitRetry {k : ChipId} {r : RegionId} {p : TileId} {s : State} {i : Issued} {tag n v tmo : Nat}
    (hrun : (s.chip k).running = true) (hclk : (s.chip k).clockRuns r = true) (ht : (s.chip k).freeTags r ≠ [])
    (hx : ((s.chip k).tile (tileIx r p)).retrying = some i) (hi : i.kind = .wait tag n v tmo true) :
    ∃ t, exec (.waitRetry k r p) s = .next t ∧
      ((t.chip k).tile (tileIx r p)).retry = satAdd 32 ((s.chip k).tile (tileIx r p)).retry 1 ∧
      ((t.chip k).ep r).out = ((s.chip k).ep r).out ++ [waitMsg r ((s.chip k).freeTag r) n v tmo] := by
  have htag : ((s.chip k).freeTags r).isEmpty = false := by simpa using ht
  have hex : exec (.waitRetry k r p) s = .next (s.setChip k
      (((s.chip k).issueMsg (waitMsg r ((s.chip k).freeTag r) n v tmo)).onTile (tileIx r p) (fun x => { x with
        retry := satAdd 32 x.retry 1
        issued := x.issued.map (fun j =>
          if j = i then { i with kind := .wait ((s.chip k).freeTag r) n v tmo false } else j) }))) := by
    rw [exec, execWaitRetry, hx]
    simp only [hi, hrun, hclk, htag]
    exact occurs_true _ _
  refine ⟨_, hex, ?_, ?_⟩
  · rw [State.chip_setChip_self]; simp
  · rw [State.chip_setChip_self]
    exact Chip.out_issueMsg_seq _ _ _ rfl rfl

/-- The reservation of a WAIT of tile `p` is freed, and the WAIT ends its item. -/
theorem exec_waitReservationTimeout_mine {k : ChipId} {r : RegionId} {p : TileId} {s : State} {late : List OutReq}
    {o : OutReq} (hlate : late = ((s.chip k).ep r).outstanding.filter (fun o => o.wait_ && decide (o.limit + 1000 ≤ o.age)))
    (hrun : (s.chip k).running = true)
    (ho : late.find? (fun o => (((s.chip k).tile (tileIx r p)).waitOf o.tag).isSome) = some o) :
    ∃ t, exec (.waitReservationTimeout k r p) s = .next t ∧
      ((t.chip k).ep r).outstanding = ((s.chip k).ep r).outstanding.filter (fun y => y.tag != o.tag) ∧
      ((t.chip k).tile (tileIx r p)).err =
        (if ((s.chip k).tile (tileIx r p)).err = 0 then eWait else ((s.chip k).tile (tileIx r p)).err) ∧
      (t.chip k).hif.log.head? = some ⟨codeOf .ops 6, r.val, (s.chip k).time.epoch⟩ := by
  subst hlate
  obtain ⟨i, hi⟩ := Option.isSome_iff_exists.1 (List.find?_some (p := fun o : OutReq =>
    (((s.chip k).tile (tileIx r p)).waitOf o.tag).isSome) ho)
  have hex : exec (.waitReservationTimeout k r p) s = .next (s.setChip k
      ((((s.chip k).onEp r fun x => x.release o.tag).waitFails r p i eWait).fault .ops 6 r)) := by
    rw [exec, execWaitReservationTimeout]
    simp only [ho, hi, hrun, occurs_true]
  refine ⟨_, hex, ?_⟩
  rw [State.chip_setChip_self, Chip.waitFails]
  obtain ⟨l, hl⟩ := (((s.chip k).onEp r fun x => x.release o.tag).onTile (tileIx r p)
    fun x => { x with issued := x.issued.erase i }).tile_itemErrorAt r p eWait i.off
  refine ⟨?_, ?_, ?_⟩
  · simp [Endpoint.release]
  · rw [Chip.tile_fault_frame, hl]; simp
  · simp

/-- A reservation whose item abandoned the WAIT is only freed. -/
theorem exec_waitReservationTimeout_orphan {k : ChipId} {r : RegionId} {p : TileId} {s : State} {late : List OutReq}
    {o : OutReq} (hlate : late = ((s.chip k).ep r).outstanding.filter (fun o => o.wait_ && decide (o.limit + 1000 ≤ o.age)))
    (hrun : (s.chip k).running = true)
    (hmine : late.find? (fun o => (((s.chip k).tile (tileIx r p)).waitOf o.tag).isSome) = none)
    (ho : late.find? (fun o => (List.range 15).all (fun q => (((s.chip k).tile (tileIx r q)).waitOf o.tag).isNone)) = some o) :
    ∃ t, exec (.waitReservationTimeout k r p) s = .next t ∧
      ((t.chip k).ep r).outstanding = ((s.chip k).ep r).outstanding.filter (fun y => y.tag != o.tag) ∧
      (t.chip k).tile (tileIx r p) = (s.chip k).tile (tileIx r p) := by
  subst hlate
  have hex : exec (.waitReservationTimeout k r p) s = .next (s.setChip k ((s.chip k).onEp r fun x => x.release o.tag)) := by
    rw [exec, execWaitReservationTimeout]
    simp only [hmine, ho, hrun, occurs_true]
  exact ⟨_, hex, by simp [Endpoint.release], by simp⟩

/-- Settles O25. -/
theorem signalsAndWaitsTakeEffect : Obligations.SignalsAndWaitsTakeEffect := by
  intro k r p s x d
  exact ⟨fun hat hb hf he => ⟨signalWith_out false rfl rfl hat hb hf he, signalWith_out true rfl rfl hat hb hf he⟩,
    fun hat hb hf hi hc he =>
      ⟨signalWith_fence false rfl rfl hat hb hf hi hc he, signalWith_fence true rfl rfl hat hb hf hi hc he⟩,
    fun hat hb ht he => exec_wait rfl rfl hat hb ht he,
    fun i tag n v tmo hrun hclk ht hx hi => exec_waitRetry hrun hclk ht hx hi,
    fun hrun => ⟨fun o ho => exec_waitReservationTimeout_mine rfl hrun ho,
      fun o hmine ho => exec_waitReservationTimeout_orphan rfl hrun hmine ho⟩⟩

/-! ## LOOP, CALL, RET and FENCE -/

theorem exec_loop {k : ChipId} {r : RegionId} {p : TileId} {s : State} {x : Tile} {d : List Nat}
    (hx : x = (s.chip k).tile (tileIx r p)) (hd : d = (s.chip k).desc r p) (hat : (s.chip k).atOp r p 0x0B = true)
    (he : x.loopError d = 0) :
    ∃ t, exec (.loop k r p) s = .next t ∧ ((t.chip k).tile (tileIx r p)).loops = x.loopFrame d :: x.loops ∧
      ((t.chip k).tile (tileIx r p)).pc = x.pc + 64 := by
  subst hx hd
  have hbody : lpBody ((s.chip k).desc r p) ≠ 0 := by
    have := firstError_eq_zero he (by simp [eReserved, eCount, eStack])
    simp at this
    exact this.2.1.1.1
  refine ⟨_, by rw [exec, execLoop, hat, he]; exact occurs_true _ _, ?_⟩
  rw [State.chip_setChip_self, Chip.tile_issueOp, Chip.onTile_eq, Chip.tile_setTile, if_pos rfl, Tile.issuedNext]
  have hstop : (((s.chip k).tile (tileIx r p)).loopFrame ((s.chip k).desc r p)).stop ≠
      ((s.chip k).tile (tileIx r p)).pc + 64 := by
    simp only [Tile.loopFrame]; omega
  obtain ⟨hpc, hloops⟩ := Tile.issuedTo_of_stop_ne { (s.chip k).tile (tileIx r p) with
    loops := ((s.chip k).tile (tileIx r p)).loopFrame ((s.chip k).desc r p) :: ((s.chip k).tile (tileIx r p)).loops }
    ((s.chip k).desc r p) (((s.chip k).tile (tileIx r p)).pc + 64) (by simpa using hstop)
  exact ⟨hloops, hpc⟩

theorem exec_call {k : ChipId} {r : RegionId} {p : TileId} {s : State} {x : Tile} {d : List Nat}
    (hx : x = (s.chip k).tile (tileIx r p)) (hd : d = (s.chip k).desc r p) (hat : (s.chip k).atOp r p 0x0C = true)
    (hc : caRet d = false) (hres : callReserved d = false) (hal : field (word d 1) 0 21 % 64 = 0) (hl : x.calls.length < 8) :
    ∃ t, exec (.call k r p) s = .next t ∧ ((t.chip k).tile (tileIx r p)).calls = (x.pc + 64) :: x.calls ∧
      ((∀ f, x.loops.head? = some f → f.stop ≠ field (word d 1) 0 21) →
        ((t.chip k).tile (tileIx r p)).pc = field (word d 1) 0 21) := by
  subst hx hd
  have herr : firstError [(callReserved ((s.chip k).desc r p), eReserved),
      (field (word ((s.chip k).desc r p) 1) 0 21 % 64 != 0, eAddress),
      (decide (8 ≤ ((s.chip k).tile (tileIx r p)).calls.length), eStack)] = 0 := by
    simp [firstError, hres, hal, hl]
  refine ⟨_, by rw [exec, execCall, hat, hc]; simp only [herr]; exact occurs_true _ _, ?_⟩
  rw [State.chip_setChip_self, if_neg (by simp), Chip.onTile_eq, Chip.tile_setTile, if_pos rfl]
  exact ⟨Tile.issuedTo_calls _ _ _, fun hf => (Tile.issuedTo_of_stop_ne _ _ _ (by exact hf)).1⟩

theorem exec_ret {k : ChipId} {r : RegionId} {p : TileId} {s : State} {x : Tile} {d : List Nat} {ret : Nat} {rest : List Nat}
    (hx : x = (s.chip k).tile (tileIx r p)) (hd : d = (s.chip k).desc r p) (hat : (s.chip k).atOp r p 0x0C = true)
    (hc : caRet d = true) (hres : callReserved d = false) (hcalls : x.calls = ret :: rest)
    (hlev : ∀ f, x.loops.head? = some f → f.level ≠ x.calls.length) :
    ∃ t, exec (.ret k r p) s = .next t ∧ ((t.chip k).tile (tileIx r p)).calls = rest ∧
      ((∀ f, x.loops.head? = some f → f.stop ≠ ret) → ((t.chip k).tile (tileIx r p)).pc = ret) := by
  subst hx hd
  have hex : exec (.ret k r p) s = .next (s.setChip k ((s.chip k).onTile (tileIx r p) fun x =>
      ({ x with calls := x.calls.tail }).issuedTo ((s.chip k).desc r p) (x.calls.headD 0))) := by
    rw [exec, execRet]
    rcases hl : ((s.chip k).tile (tileIx r p)).loops with _ | ⟨f, ls⟩
    · simp [hat, hc, hres, hcalls, firstError]
    · have hf : f.level ≠ rest.length + 1 := by simpa [hcalls] using hlev f (by simp [hl])
      simp [hat, hc, hres, hcalls, firstError, hf]
  refine ⟨_, hex, ?_⟩
  rw [State.chip_setChip_self, Chip.onTile_eq, Chip.tile_setTile, if_pos rfl, Tile.issuedTo_calls, hcalls]
  exact ⟨rfl, fun hf => (Tile.issuedTo_of_stop_ne _ _ _ (by exact hf)).1⟩

theorem exec_fence {k : ChipId} {r : RegionId} {p : TileId} {s : State} {x : Tile} {d : List Nat}
    (hx : x = (s.chip k).tile (tileIx r p)) (hd : d = (s.chip k).desc r p) (hat : (s.chip k).atOp r p 0x0D = true)
    (hi : x.issued = []) (hcan : (s.chip k).canFlush r x = true) (he : reservedFrom d 1 = false) :
    ∃ t, exec (.fence k r p) s = .next t ∧ ((t.chip k).tile (tileIx r p)).written = [] ∧
      ((t.chip k).tile (tileIx r p)).issued.length = (if x.written = [] then 0 else 1) := by
  subst hx hd
  have herr : firstError [(reservedFrom ((s.chip k).desc r p) 1, eReserved)] = 0 := by simp [firstError, he]
  refine ⟨_, by rw [exec, execFence, hat, hi, hcan, herr]; exact occurs_true _ _, ?_⟩
  rw [State.chip_setChip_self, Chip.tile_issueOp, Tile.issuedNext_written, Tile.issuedNext_issued]
  by_cases hw : ((s.chip k).tile (tileIx r p)).written = []
  · simp [hw, hi]
  · rw [if_neg (by simp [hw]), if_neg hw]
    obtain ⟨ts, ht⟩ := (s.chip k).tile_fenceFor r p .fence
    rw [ht]
    simp [hi]

/-! ## The end of an item and FLUSH -/

theorem exec_invalidOp {k : ChipId} {r : RegionId} {p : TileId} {s : State} (hf : (s.chip k).canFetch r p = true)
    (hd : descOp ((s.chip k).desc r p) = 0) :
    ∃ t, exec (.invalidOp k r p) s = .next t ∧ ((t.chip k).tile (tileIx r p)).errCode = eInvalid ∧
      ((t.chip k).tile (tileIx r p)).ended = true ∧
      (t.chip k).hif.log.head? = some ⟨codeOf .ops 1, r.val, (s.chip k).time.epoch⟩ := by
  simp only [Chip.canFetch, Bool.and_eq_true, decide_eq_true_eq] at hf
  obtain ⟨⟨⟨⟨hrun, hx⟩, hend⟩, hclk⟩, hpc⟩ := hf
  have hex : exec (.invalidOp k r p) s = .next (s.setChip k ((s.chip k).itemError r p eInvalid)) := by
    rw [exec, execInvalidOp]
    simp [hrun, hx, hend, hclk, hd, not_le.2 hpc]
  refine ⟨_, hex, ?_⟩
  rw [State.chip_setChip_self, Chip.itemError]
  obtain ⟨l, hl⟩ := (s.chip k).tile_itemErrorAt r p eInvalid ((s.chip k).tile (tileIx r p)).pc
  refine ⟨by rw [hl], by rw [hl], ?_⟩
  simp [Chip.itemErrorAt, eInvalid, Chip.faultIf]

theorem exec_itemEnd_report {k : ChipId} {r : RegionId} {p : TileId} {s : State} {x : Tile}
    (hx : x = (s.chip k).tile (tileIx r p)) (hrun : (s.chip k).running = true) (hclk : (s.chip k).clockRuns r = true)
    (hr : x.running = true) (hend : x.ended = true) (hi : x.issued = [])
    (h : x.err ≠ 0 ∨ x.endFence = true ∨ x.written = []) :
    ∃ t, exec (.itemEnd k r p) s = .next t ∧ ((t.chip k).tile (tileIx r p)).running = false ∧
      ((t.chip k).ep r).out = ((s.chip k).ep r).out ++ [endReport r p x] := by
  subst hx
  have hfence : (((s.chip k).tile (tileIx r p)).err == 0 && !((s.chip k).tile (tileIx r p)).endFence &&
      !((s.chip k).tile (tileIx r p)).written.isEmpty) = false := by
    rcases h with h | h | h <;> simp [h]
  refine ⟨_, by rw [exec, execItemEnd]; simp only [hfence, hrun, hclk, hr, hend, hi]; exact occurs_true _ _, ?_⟩
  rw [State.chip_setChip_self]
  refine ⟨by simp [Tile.finished], ?_⟩
  exact Chip.out_issueMsg_seq _ _ _ rfl rfl

theorem exec_itemEnd_fence {k : ChipId} {r : RegionId} {p : TileId} {s : State} {x : Tile}
    (hx : x = (s.chip k).tile (tileIx r p)) (hrun : (s.chip k).running = true) (hclk : (s.chip k).clockRuns r = true)
    (hr : x.running = true) (hend : x.ended = true) (hi : x.issued = []) (herr : x.err = 0) (hf : x.endFence = false)
    (hw : x.written ≠ []) (hcan : (s.chip k).canFlush r x = true) :
    ∃ t, exec (.itemEnd k r p) s = .next t ∧ ((t.chip k).tile (tileIx r p)).endFence = true ∧
      ((t.chip k).tile (tileIx r p)).running = true ∧ ((t.chip k).tile (tileIx r p)).issued.length = 1 := by
  subst hx
  have hfence : (((s.chip k).tile (tileIx r p)).err == 0 && !((s.chip k).tile (tileIx r p)).endFence &&
      !((s.chip k).tile (tileIx r p)).written.isEmpty) = true := by
    simp [herr, hf, hw]
  refine ⟨_, by rw [exec, execItemEnd]; simp only [hfence, hrun, hclk, hr, hend, hi, hcan]; exact occurs_true _ _, ?_⟩
  obtain ⟨ts, ht⟩ := (s.chip k).tile_fenceFor r p .fence
  rw [State.chip_setChip_self, if_pos trivial, Chip.onTile_eq, Chip.tile_setTile, if_pos rfl, ht]
  exact ⟨rfl, hr, by simp [hi]⟩

theorem Endpoint.with_popWr_nil (x : Endpoint) (h : x.popWr = []) : ({ x with popWr := [] } : Endpoint) = x := by
  rw [← h]

/-- A block that drops its writes before a FLUSH leaves its endpoint as it is where there is none. -/
theorem Chip.flushStart_eq (c0 : Chip) (e : EpId) (hw : (c0.ep e).popWr = []) :
    ∃ c, (if answersAll e || e.val = epXdma then c0.onEp e (fun x => { x with popWr := [] }) else c0) = c ∧
      c.ep e = c0.ep e ∧ (∀ h, c.chan h = c0.chan h) ∧ c.running = c0.running ∧ ∀ r, c.clockRuns r = c0.clockRuns r := by
  refine ⟨_, rfl, ?_⟩
  split
  · exact ⟨by simp [Endpoint.with_popWr_nil _ hw], fun _ => rfl, rfl, fun _ => rfl⟩
  · exact ⟨rfl, fun _ => rfl, rfl, fun _ => rfl⟩

theorem exec_flush {k : ChipId} {e : EpId} {s : State} {q : Msg} {rest : List Msg} (hrun : (s.chip k).running = true)
    (hq : ((s.chip k).ep e).popReq = q :: rest) (hw : ((s.chip k).ep e).popWr = []) (hop : q.op = 0x04)
    (hpo : q.poison = false) (href : flushRefused e q = false) (hsrc : q.src ≠ e.val)
    (hclk : isRegionEp e = true → (s.chip k).clockRuns e = true)
    (hmem : isMemoryEp e = true → ((s.chip k).chan (e.val - 72)).popsReq = true) :
    ∃ t, exec (.flush k e) s = .next t ∧ ((t.chip k).ep e).popReq = rest ∧
      ((t.chip k).ep e).out = ((s.chip k).ep e).out ++ [rspTo e q 0 0 []] := by
  obtain ⟨c, hc, hep, hch, hrun', hclk'⟩ := (s.chip k).flushStart_eq e hw
  have hex : exec (.flush k e) s = .next (s.setChip k
      (if isMemoryEp e then (c.answer e (rspTo e q 0 0 [])).onChan (e - 72) (fun x => { x with reqTaken := true })
        else c.answer e (rspTo e q 0 0 []))) := by
    have hgate : (isRegionEp e && !c.clockRuns e) = false := by
      rw [hclk']; cases h : isRegionEp e <;> simp [hclk, h]
    have hfull : (isMemoryEp e && (decide (128 ≤ (c.chan (e - 72)).store.length) || (c.chan (e - 72)).reqTaken)) = false := by
      rw [hch]
      cases h : isMemoryEp e
      · rfl
      · simpa [Channel.popsReq, Channel.hasRoom] using hmem h
    rw [exec, execFlush]
    simp only [hc, hep, hq, List.head?_cons, hrun', hrun, hop, href, hpo, hgate, hfull, Chip.writesDone, hw]
    simp [Chip.faultIf]
  refine ⟨_, hex, ?_⟩
  have hans := c.ep_answer (rspTo e q 0 0 []) (show q.src ≠ e.val from hsrc)
  rw [show (rspTo e q 0 0 []).src = e.val from rfl, hep] at hans
  have hfin : (if isMemoryEp e then (c.answer e (rspTo e q 0 0 [])).onChan (e - 72) (fun x => { x with reqTaken := true })
      else c.answer e (rspTo e q 0 0 [])).ep e = (c.answer e (rspTo e q 0 0 [])).ep e := by
    split <;> rfl
  rw [State.chip_setChip_self, hfin, hans, hq]
  exact ⟨rfl, rfl⟩

/-- Settles O26. -/
theorem sequencerControlTakesEffect : Obligations.SequencerControlTakesEffect := by
  intro k r p s x d
  exact ⟨fun hat he => exec_loop rfl rfl hat he, fun hat hc hres hal hl => exec_call rfl rfl hat hc hres hal hl,
    fun ret rest hat hc hres hcalls hlev => exec_ret rfl rfl hat hc hres hcalls hlev,
    fun hat hi hcan he => exec_fence rfl rfl hat hi hcan he, fun hf hd => exec_invalidOp hf hd,
    fun hrun hclk hr hend hi => ⟨exec_itemEnd_report rfl hrun hclk hr hend hi,
      exec_itemEnd_fence rfl hrun hclk hr hend hi⟩,
    fun e q rest hrun hq hw hop hpo href hsrc hclk hmem => exec_flush hrun hq hw hop hpo href hsrc hclk hmem⟩

end Sys2Proof.Machine
end

section
/-! LEMMAS. The region endpoint (R314 to R316, R360, R463), the errors of tile memory and engines (R318 to R320, R349 to R355) and the
event counters (R384 to R391). Settles O27, O28 and O29. -/

namespace Sys2Proof.Machine

-- In order, not in parallel: every elaborator thread that waits for another holds a stack within the check's memory limit.
set_option Elab.async false

/-! ## Event counters -/

@[simp] theorem Chip.post_ctr (c : Chip) (g : Nat) (x : Completion) : (c.post g x).seq.ctr = c.seq.ctr := by
  unfold Chip.post
  split <;> simp

@[simp] theorem Chip.answerWaiter_ctr (c : Chip) (w : Waiter) (outcome : Nat) :
    (c.answerWaiter w outcome).seq.ctr = c.seq.ctr := by
  unfold Chip.answerWaiter
  split
  · rw [(Chip.onlyEps_issueMsg c _).seq]
  · split
    · simp [Chip.complete, Chip.endBackground]
    · rfl

@[simp] theorem Chip.wakeCounter_ctr (c : Chip) (n : Nat) : (c.wakeCounter n).seq.ctr = c.seq.ctr := by
  unfold Chip.wakeCounter
  exact foldl_keeps (fun c : Chip => c.seq.ctr) (fun c w => c.answerWaiter_ctr w 0) _ _

@[simp] theorem Chip.dropEvt_time (c : Chip) : c.dropEvt.time = c.time := rfl

theorem Chip.ctr_addCounter (c : Chip) (n v : Nat) : (c.addCounter n v).seq.ctr.get 0 n = c.sumCounter n v := by
  simp [Chip.addCounter, Chip.countAux, Chip.sumCounter]

theorem Chip.ctr_setCounter (c : Chip) (n v : Nat) : (c.setCounter n v).seq.ctr.get 0 n = v := by
  simp [Chip.setCounter, Chip.countAux]

theorem exec_evtAdd {k : ChipId} {s : State} {m : Msg} (hrun : (s.chip k).running = true)
    (hm : (s.chip k).headEvt 1 = some m)
    (hroom : (s.chip k).roomForAll ((s.chip k).ringsWoken (evtCounter m)
      ((s.chip k).sumCounter (evtCounter m) (field m.arg 0 32))) = true) :
    exec (.evtAdd k) s = .next (s.setChip k (if (s.chip k).admitsCounter (evtCounter m) m.src
      then (s.chip k).dropEvt.addCounter (evtCounter m) (field m.arg 0 32) else (s.chip k).dropEvt.denyCounter)) := by
  rw [exec, execEvtAdd, hm]
  simp only [hrun, hroom]
  exact occurs_true _ _

theorem exec_evtSet {k : ChipId} {s : State} {m : Msg} (hrun : (s.chip k).running = true)
    (hm : (s.chip k).headEvt 2 = some m) (ha : (s.chip k).admitsCounter (evtCounter m) m.src = true)
    (hroom : (s.chip k).roomForAll ((s.chip k).ringsWoken (evtCounter m) (field m.arg 0 64)) = true) :
    ∃ t, exec (.evtSet k) s = .next t ∧ (t.chip k).seq.ctr.get 0 (evtCounter m) = field m.arg 0 64 := by
  refine ⟨_, by rw [exec, execEvtSet, hm]; simp only [hrun, hroom, ha]; exact occurs_true _ _, ?_⟩
  rw [State.chip_setChip_self, if_pos trivial, Chip.ctr_setCounter]

theorem exec_evtWaitGe_park {k : ChipId} {s : State} {m : Msg} (hrun : (s.chip k).running = true)
    (hm : (s.chip k).headEvt 3 = some m) (ha : (s.chip k).admitsCounter (evtCounter m) m.src = true)
    (hv : (s.chip k).seq.ctr.get 0 (evtCounter m) < field m.arg 0 64) (hl : (s.chip k).seq.waiters.length < 4096) :
    ∃ t, exec (.evtWaitGe k) s = .next t ∧
      (t.chip k).seq.waiters.length = (s.chip k).seq.waiters.length + 1 := by
  have ha' : (s.chip k).admitsCounter (waiterOf m).counter m.src = true := ha
  have hv' : ¬ field m.arg 0 64 ≤ (s.chip k).seq.ctr.get 0 (evtCounter m) := not_le.2 hv
  refine ⟨_, by rw [exec, execEvtWaitGe, hm]; simp only [hrun, ha']; exact occurs_true _ _, ?_⟩
  rw [State.chip_setChip_self, if_pos trivial]
  simp [Chip.waitCounter, Chip.countAux, waiterOf, hv', not_le.2 hl]

theorem exec_ctrRead {k : ChipId} {s : State} {q : Msg} (hrun : (s.chip k).running = true)
    (hq : (s.chip k).headReq epSeq = some q) (hpo : q.poison = false) (hop : q.op = 0x08)
    (hevt : ((s.chip k).ep epSeq).popEvt = []) (ha : (s.chip k).admitsCounter (field q.addr 0 10) q.src = true)
    (hsrc : q.src ≠ epSeq) :
    ∃ t, exec (.ctrRead k) s = .next t ∧ ((t.chip k).ep epSeq).out = ((s.chip k).ep epSeq).out ++
      [rspTo epSeq q 0 0 [] ((s.chip k).seq.ctr.get 0 (field q.addr 0 10) * 16)] := by
  have hex : exec (.ctrRead k) s = .next (s.setChip k ((s.chip k).answer epSeq
      (rspTo epSeq q 0 0 [] ((s.chip k).seq.ctr.get 0 (field q.addr 0 10) * 16)))) := by
    rw [exec, execCtrRead, hq]
    simp [hrun, hpo, hop, hevt, ha]
  refine ⟨_, hex, ?_⟩
  rw [State.chip_setChip_self]
  have h := (s.chip k).ep_answer (rspTo epSeq q 0 0 [] ((s.chip k).seq.ctr.get 0 (field q.addr 0 10) * 16)) hsrc
  exact congrArg Endpoint.out h

theorem exec_waiterTimeout {k : ChipId} {s : State} {src : EpId} {tag : Nat} {w : Waiter}
    (hrun : (s.chip k).running = true)
    (hw : (s.chip k).seq.waiters.find? (fun w => w.src == src.val && w.tag == tag && decide (w.timeout < w.since)) = some w)
    (hroom : (s.chip k).roomForAll w.ring.toList = true) :
    ∃ t, exec (.waiterTimeout k src tag) s = .next t ∧ (t.chip k).seq.waiters = (s.chip k).seq.waiters.erase w := by
  refine ⟨_, by rw [exec, execWaiterTimeout, hw]; simp only [hrun, hroom]; exact occurs_true _ _, ?_⟩
  rw [State.chip_setChip_self, Chip.answerWaiter_waiters]
  rfl

theorem exec_evtOwnerWrite {k : ChipId} {s : State} (i : Fin 1024) (v : Word) (hrun : (s.chip k).running = true) :
    exec (.evtOwnerWrite k i v) s = .next (s.setChip k ((s.chip k).writeOwner i v.toNat)) := by
  rw [exec, execEvtOwnerWrite, hrun]
  exact occurs_true _ _

theorem Chip.owner_writeOwner (c : Chip) (i v : Nat) (h : ¬ (16 ≤ v % 32 ∧ v % 32 ≤ 29)) :
    (c.writeOwner i v).seq.owner.get 31 i = v % 32 := by
  simp [Chip.writeOwner, h]

theorem Chip.writeOwner_refused (c : Chip) (i v : Nat) (h : 16 ≤ v % 32 ∧ v % 32 ≤ 29) :
    c.writeOwner i v = (c.onHif fun h => { h with badAccess := satAdd 32 h.badAccess 1 }).fault .hif 1 noInstance := by
  simp [Chip.writeOwner, h]

/-- Settles O29. -/
theorem eventCountersTakeEffect : Obligations.EventCountersTakeEffect := by
  intro k s hrun
  refine ⟨fun m hm hroom => ⟨fun ha => ?_, fun ha => ?_⟩, fun m hm ha hroom => exec_evtSet hrun hm ha hroom,
    fun m hm ha hv hl => exec_evtWaitGe_park hrun hm ha hv hl,
    fun q hq hpo hop hevt ha hsrc => exec_ctrRead hrun hq hpo hop hevt ha hsrc,
    fun src tag w hw hroom => exec_waiterTimeout hrun hw hroom, fun i v => ⟨fun h => ?_, fun h1 h2 => ?_⟩⟩
  · refine ⟨_, exec_evtAdd hrun hm hroom, ?_⟩
    rw [State.chip_setChip_self, if_pos ha, Chip.ctr_addCounter]
    rfl
  · refine ⟨_, exec_evtAdd hrun hm hroom, ?_⟩
    rw [State.chip_setChip_self, if_neg (by simp [ha])]
    exact ⟨rfl, rfl, rfl⟩
  · exact ⟨_, exec_evtOwnerWrite i v hrun, by rw [State.chip_setChip_self, Chip.owner_writeOwner _ _ _ h]⟩
  · refine ⟨_, exec_evtOwnerWrite i v hrun, ?_⟩
    rw [State.chip_setChip_self, Chip.writeOwner_refused _ _ _ ⟨h1, h2⟩]
    exact ⟨rfl, rfl, rfl⟩

/-! ## The region endpoint -/

theorem exec_tileWrite {k : ChipId} {r : RegionId} {s : State} {m : Msg} {rest : List Msg} {tile off : Nat}
    (hrun : (s.chip k).running = true) (hclk : (s.chip k).clockRuns r = true)
    (hw : ((s.chip k).ep r).popWr = m :: rest) (hpo : m.poison = false) (hop : m.op = 0x01) (hlo : 1 ≤ m.len) (hhi : m.len ≤ 4)
    (ha : tileAddr m.addr m.len = some (tile, off)) :
    exec (.tileWrite k r) s = .next (s.setChip k ((((s.chip k).dropWr r).onTileMem r tile
      (fun mem => Memory.writeEnabled mem off m.data m.en)).countEndpoint r off m.len)) := by
  have hh : (s.chip k).headWr r = some m := by simp [Chip.headWr, hw]
  rw [exec, execTileWrite, hh]
  simp only [hrun, hclk, hpo, hop, ha, show m.len ≠ 0 by omega, show ¬ 4 < m.len by omega]
  simp

theorem exec_tileWrite_badAddress {k : ChipId} {r : RegionId} {s : State} {m : Msg} {rest : List Msg}
    (hrun : (s.chip k).running = true) (hclk : (s.chip k).clockRuns r = true)
    (hw : ((s.chip k).ep r).popWr = m :: rest) (hpo : m.poison = false) (hop : m.op = 0x01) (hlo : 1 ≤ m.len) (hhi : m.len ≤ 4)
    (ha : tileAddr m.addr m.len = none) :
    exec (.tileWrite k r) s = .next (s.setChip k
      ((((s.chip k).dropWr r).onRegion r (fun g => { g with addrErr := satAdd 32 g.addrErr 1 })).fault .til 5 r)) := by
  have hh : (s.chip k).headWr r = some m := by simp [Chip.headWr, hw]
  rw [exec, execTileWrite, hh]
  simp only [hrun, hclk, hpo, hop, ha, show m.len ≠ 0 by omega, show ¬ 4 < m.len by omega]
  simp

@[simp] theorem Chip.tileMem_countEndpoint (c : Chip) (r off n r' p : Nat) :
    (c.countEndpoint r off n).tileMem r' p = c.tileMem r' p := by
  have hcfg : ((c.countEndpoint r off n).region r').cfg = (c.region r').cfg := by
    simp only [Chip.countEndpoint, Chip.onRegion_eq, Chip.region_setRegion]
    split
    next h => subst h; split <;> rfl
    next => rfl
  simp only [Chip.tileMem, Chip.positionOf, hcfg]
  rfl

theorem exec_tileRead {k : ChipId} {r : RegionId} {s : State} {q : Msg} {tile off : Nat} (hrun : (s.chip k).running = true)
    (hclk : (s.chip k).clockRuns r = true) (hq : (s.chip k).headReq r = some q) (hpo : q.poison = false) (hop : q.op = 0x02)
    (hlo : 1 ≤ q.rlen) (hhi : q.rlen ≤ 4) (hlen : q.len = 0) (ha : tileAddr q.addr q.rlen = some (tile, off))
    (hsrc : q.src ≠ r.val) :
    ∃ t, exec (.tileRead k r) s = .next t ∧ ((t.chip k).ep r).out = ((s.chip k).ep r).out ++
      [rspTo r q 0 q.rlen (Memory.read ((s.chip k).tileMem r tile) off (64 * q.rlen))] := by
  have hex : exec (.tileRead k r) s = .next (s.setChip k (((s.chip k).answer r
      (rspTo r q 0 q.rlen (Memory.read ((s.chip k).tileMem r tile) off (64 * q.rlen)))).countEndpoint r off q.rlen)) := by
    rw [exec, execTileRead, hq]
    simp only [hrun, hclk, hpo, hop, hlen, ha, show q.rlen ≠ 0 by omega, show ¬ 4 < q.rlen by omega]
    simp
  refine ⟨_, hex, ?_⟩
  rw [State.chip_setChip_self]
  exact congrArg Endpoint.out
    ((s.chip k).ep_answer (rspTo r q 0 q.rlen (Memory.read ((s.chip k).tileMem r tile) off (64 * q.rlen))) hsrc)

/-! ### START -/

/-- START at logical tile `p` of region `r` (R463): the tile begins where the item with number `n` still waits for it. -/
def Chip.startOne (r n gen mask : Nat) (bs : List Byte) (c : Chip) (p : Nat) : Chip :=
  match c.item n with
  | none => c
  | some it =>
    if bit mask p && it.awaits gen (tileIx r p) && (c.mapEntry (tileIx r p)).valid then
      ((c.setItem n { it with begun := insertOnce it.begun (tileIx r p) }).flushTile (tileIx r p)).onTile (tileIx r p) (fun x =>
        { x.begin_ (c.mapEntry (tileIx r p)).entry bs (c.session it.session) with part := it.partition, cls := it.cls })
    else c

/-- Tile `t` may begin item `n`: the item waits for it. -/
def Chip.mayBegin (c : Chip) (n gen t : Nat) : Prop := ∃ it, c.item n = some it ∧ it.awaits gen t = true

theorem Chip.tile_flushTile_other (c : Chip) (t u : Nat) (h : u ≠ t) : (c.flushTile t).tile u = c.tile u := by
  unfold Chip.flushTile
  extract_lets x counts
  split
  · rfl
  · simp [h]

theorem Chip.item_setItem (c : Chip) (n : Nat) (it : Item) : (c.setItem n it).item n = some it :=
  Bank.look_put_self _ _ _

theorem tileIx_ne {r p q : Nat} (h : q ≠ p) : tileIx r q ≠ tileIx r p := by
  simp only [tileIx]; omega

/-- A START at another tile leaves tile `p`, its map entry and the item's wait for it. -/
theorem Chip.startOne_other {c : Chip} {r n gen mask p q : Nat} {bs : List Byte} (h : q ≠ p)
    (hc : c.mayBegin n gen (tileIx r p)) :
    (c.startOne r n gen mask bs q).mayBegin n gen (tileIx r p) ∧
      (c.startOne r n gen mask bs q).mapEntry (tileIx r p) = c.mapEntry (tileIx r p) := by
  obtain ⟨it, hit, haw⟩ := hc
  rw [Chip.startOne, hit]
  simp only
  split
  · refine ⟨⟨{ it with begun := insertOnce it.begun (tileIx r q) }, ?_, ?_⟩, ?_⟩
    · simp only [Chip.item, Chip.onTile_eq, Chip.setTile, Chip.flushTile_seq]
      exact Bank.look_put_self _ _ _
    · simp only [Item.awaits, Item.unbegun, Bool.and_eq_true, beq_iff_eq, List.contains_iff_mem, List.mem_filter,
        Bool.not_eq_true', Bool.eq_false_iff, ne_eq, mem_insertOnce] at haw ⊢
      exact ⟨haw.1, haw.2.1, fun hc => hc.elim (fun he => tileIx_ne h he.symm) haw.2.2⟩
    · simp only [Chip.mapEntry, Chip.onTile_eq, Chip.setTile, Chip.flushTile_seq]
      rfl
  · exact ⟨⟨it, hit, haw⟩, rfl⟩

theorem Chip.tile_startOne_other {c : Chip} {r n gen mask p q : Nat} {bs : List Byte} (h : q ≠ p) :
    (c.startOne r n gen mask bs q).tile (tileIx r p) = c.tile (tileIx r p) := by
  have hne : tileIx r p ≠ tileIx r q := tileIx_ne (Ne.symm h)
  rw [Chip.startOne]
  split
  · rfl
  · split
    · rw [Chip.onTile_eq, Chip.tile_setTile, if_neg hne, Chip.tile_flushTile_other _ _ _ hne]
      rfl
    · rfl

theorem Chip.foldl_startOne_other {r n gen mask p : Nat} {bs : List Byte} (l : List Nat) (hp : p ∉ l) (c : Chip) :
    (l.foldl (Chip.startOne r n gen mask bs) c).tile (tileIx r p) = c.tile (tileIx r p) ∧
    (c.mayBegin n gen (tileIx r p) → (l.foldl (Chip.startOne r n gen mask bs) c).mayBegin n gen (tileIx r p) ∧
      (l.foldl (Chip.startOne r n gen mask bs) c).mapEntry (tileIx r p) = c.mapEntry (tileIx r p)) := by
  induction l generalizing c with
  | nil => exact ⟨rfl, fun h => ⟨h, rfl⟩⟩
  | cons q l ih =>
    have hq : q ≠ p := fun h => hp (h ▸ List.mem_cons_self)
    obtain ⟨ht, hm⟩ := ih (fun h => hp (List.mem_cons_of_mem _ h)) (c.startOne r n gen mask bs q)
    refine ⟨ht.trans (Chip.tile_startOne_other hq), fun h => ?_⟩
    obtain ⟨h1, h2⟩ := Chip.startOne_other (bs := bs) (mask := mask) hq h
    exact ⟨(hm h1).1, (hm h1).2.trans h2⟩

/-- A tile that begins runs from its entry with a0 as delivered. -/
theorem Chip.tile_startOne_self {c : Chip} {r n gen mask p : Nat} {bs : List Byte} (hm : bit mask p = true)
    (hc : c.mayBegin n gen (tileIx r p)) (hv : (c.mapEntry (tileIx r p)).valid = true) :
    ((c.startOne r n gen mask bs p).tile (tileIx r p)).running = true ∧
      ((c.startOne r n gen mask bs p).tile (tileIx r p)).pc = 64 * (c.mapEntry (tileIx r p)).entry ∧
      ((c.startOne r n gen mask bs p).tile (tileIx r p)).a.get 0 0 = entryField bs 0 8 % 2 ^ 40 := by
  obtain ⟨it, hit, haw⟩ := hc
  rw [Chip.startOne, hit]
  simp only [hm, haw, hv, Bool.and_self, if_true, Chip.onTile_eq, Chip.tile_setTile, if_pos]
  exact ⟨rfl, rfl, rfl⟩

theorem exec_start {k : ChipId} {r : RegionId} {p : TileId} {s : State} {m : Msg} {rest : List Msg} {it : Item}
    (hrun : (s.chip k).running = true) (hclk : (s.chip k).clockRuns r = true) (hw : ((s.chip k).ep r).popWr = m :: rest)
    (hpo : m.poison = false) (hop : m.op = 0x10) (hit : (s.chip k).item (entryField m.data 38 2 % 4096) = some it)
    (hm : bit (entryField m.data 32 2) p = true) (haw : it.awaits (entryField m.data 34 1) (tileIx r p) = true)
    (hv : ((s.chip k).mapEntry (tileIx r p)).valid = true) :
    ∃ t, exec (.start k r) s = .next t ∧ ((t.chip k).tile (tileIx r p)).running = true ∧
      ((t.chip k).tile (tileIx r p)).pc = 64 * ((s.chip k).mapEntry (tileIx r p)).entry ∧
      ((t.chip k).tile (tileIx r p)).a.get 0 0 = entryField m.data 0 8 % 2 ^ 40 := by
  have hh : (s.chip k).headWr r = some m := by simp [Chip.headWr, hw]
  have hex : exec (.start k r) s = .next (s.setChip k ((List.range 15).foldl (Chip.startOne r
      (entryField m.data 38 2 % 4096) (entryField m.data 34 1) (entryField m.data 32 2) m.data) ((s.chip k).dropWr r))) := by
    rw [exec, execStart, hh]
    simp only [hrun, hclk, hpo, hop]
    exact occurs_true _ _
  refine ⟨_, hex, ?_⟩
  obtain ⟨l, l', hl⟩ := List.append_of_mem (List.mem_range.2 p.isLt)
  have hnd : (l ++ p.val :: l').Nodup := hl ▸ List.nodup_range
  have hpl : p.val ∉ l := fun h => (List.nodup_append.1 hnd).2.2 _ h _ List.mem_cons_self rfl
  have hpl' : p.val ∉ l' := (List.nodup_cons.1 (List.nodup_append.1 hnd).2.1).1
  rw [State.chip_setChip_self, hl, List.foldl_append, List.foldl_cons, (Chip.foldl_startOne_other l' hpl' _).1]
  obtain ⟨hmay, hmap⟩ := (Chip.foldl_startOne_other (mask := entryField m.data 32 2) (bs := m.data) l hpl
    ((s.chip k).dropWr r)).2 ⟨it, hit, haw⟩
  have hmap' := hmap.trans (show ((s.chip k).dropWr r).mapEntry (tileIx r p) = (s.chip k).mapEntry (tileIx r p) from rfl)
  have h := Chip.tile_startOne_self (bs := m.data) hm hmay (hmap'.symm ▸ hv)
  rwa [hmap'] at h

/-- Settles O27. -/
theorem regionEndpointTakesEffect : Obligations.RegionEndpointTakesEffect := by
  intro k r s hrun hclk
  refine ⟨fun m rest tile off hw hpo hop hlo hhi ha => ?_, fun m rest hw hpo hop hlo hhi ha => ?_,
    fun q tile off hq hpo hop hlo hhi hlen ha hsrc => exec_tileRead hrun hclk hq hpo hop hlo hhi hlen ha hsrc,
    fun m rest it p hw hpo hop hit hm haw hv => exec_start hrun hclk hw hpo hop hit hm haw hv⟩
  · refine ⟨_, exec_tileWrite hrun hclk hw hpo hop hlo hhi ha, ?_, ?_⟩
    · rw [State.chip_setChip_self]
      simp [Chip.countEndpoint, Chip.onTileMem, Chip.dropWr, hw]
    · rw [State.chip_setChip_self, Chip.tileMem_countEndpoint, Chip.tileMem_onTileMem]
      rfl
  · refine ⟨_, exec_tileWrite_badAddress hrun hclk hw hpo hop hlo hhi ha, ?_, ?_⟩
    · rw [State.chip_setChip_self]
      simp [Chip.dropWr]
    · rw [State.chip_setChip_self]
      rfl

/-! ## What the events of a whole region leave of its tiles and regions -/

/-- The tiles of chip `d` are those of chip `c` as far as `g` shows. -/
def Chip.TileEq {α : Type} (g : Tile → α) (c d : Chip) : Prop := ∀ t, g (d.tile t) = g (c.tile t)

/-- The regions of chip `d` are those of chip `c` as far as `g` shows. -/
def Chip.RegionEq {α : Type} (g : Region → α) (c d : Chip) : Prop := ∀ r, g (d.region r) = g (c.region r)

section
variable {α : Type}

theorem Chip.TileEq.refl (g : Tile → α) (c : Chip) : c.TileEq g c := fun _ => rfl

theorem Chip.TileEq.trans {g : Tile → α} {c d e : Chip} (h : c.TileEq g d) (h' : d.TileEq g e) : c.TileEq g e :=
  fun t => (h' t).trans (h t)

theorem Chip.TileEq.foldl {β : Type} {g : Tile → α} {f : Chip → β → Chip} (hf : ∀ (c : Chip) b, c.TileEq g (f c b)) (l : List β)
    (c : Chip) : c.TileEq g (l.foldl f c) := by
  induction l generalizing c with
  | nil => exact .refl g c
  | cons b l ih => exact (hf c b).trans (ih _)

theorem Chip.TileEq.of_within {ps : List Piece} {c d : Chip} (g : Tile → α) (h : c.Within ps d) (hp : Piece.tiles ∉ ps) :
    c.TileEq g d := fun t => by
  have ht : d.tiles = c.tiles := h.same _ hp
  simp [Chip.tile, ht]

theorem Chip.TileEq.setTile {g : Tile → α} (c : Chip) (t : Nat) (x : Tile) (hx : g x = g (c.tile t)) :
    c.TileEq g (c.setTile t x) := fun u => by
  rw [Chip.tile_setTile]
  split
  next h => rw [hx, h]
  next => rfl

theorem Chip.RegionEq.refl (g : Region → α) (c : Chip) : c.RegionEq g c := fun _ => rfl

theorem Chip.RegionEq.trans {g : Region → α} {c d e : Chip} (h : c.RegionEq g d) (h' : d.RegionEq g e) : c.RegionEq g e :=
  fun t => (h' t).trans (h t)

theorem Chip.RegionEq.foldl {β : Type} {g : Region → α} {f : Chip → β → Chip} (hf : ∀ (c : Chip) b, c.RegionEq g (f c b))
    (l : List β) (c : Chip) : c.RegionEq g (l.foldl f c) := by
  induction l generalizing c with
  | nil => exact .refl g c
  | cons b l ih => exact (hf c b).trans (ih _)

theorem Chip.RegionEq.of_within {ps : List Piece} {c d : Chip} (g : Region → α) (h : c.Within ps d)
    (hp : Piece.regions ∉ ps) : c.RegionEq g d := fun t => by
  have ht : d.regions = c.regions := h.same _ hp
  simp [Chip.region, ht]

theorem Chip.RegionEq.setRegion {g : Region → α} (c : Chip) (r : Nat) (x : Region) (hx : g x = g (c.region r)) :
    c.RegionEq g (c.setRegion r x) := fun u => by
  rw [Chip.region_setRegion]
  split
  next h => rw [hx, h]
  next => rfl

theorem Chip.RegionEq.onRegion {g : Region → α} (c : Chip) (r : Nat) (f : Region → Region) (hf : ∀ x, g (f x) = g x) :
    c.RegionEq g (c.onRegion r f) := .setRegion c r _ (hf _)

theorem Chip.RegionEq.fault (g : Region → α) (c : Chip) (t : Tag) (n i : Nat) : c.RegionEq g (c.fault t n i) := fun _ => rfl

theorem Chip.RegionEq.hwSetB (g : Region → α) (c : Chip) (r : Nat) (f : ClassB → ClassB) : c.RegionEq g (c.hwSetB r f) :=
  fun _ => rfl

end

/-- Position `q` of region `r` marked in POS_FAIL. -/
def Chip.markFailed (c : Chip) (r q : Nat) : Chip :=
  c.onRegion r (fun x => { x with posFail := if bit x.posFail q then x.posFail else x.posFail + 2 ^ q })

/-- The failure of a position: a mark alone, the spare put in its place, the gang's dissolution begun, or the region's
retirement. -/
theorem Chip.failTile_cases (c : Chip) (r q : Nat) :
    c.failTile r q = c.markFailed r q ∨
    (∃ (p : Nat) (tiles : Region → List Nat), c.failTile r q = ((((c.markFailed r q).goOut r).hwSetB r (fun b => { b with spareFor := p })).onRegion r
      (fun x => { x with cfg := { x.cfg with spareFor := p }, awaitTiles := tiles x })).fault .die 2 r) ∨
    c.failTile r q = ((((c.markFailed r q).goOut r).fault .die 3 r).onRegion r
      (fun x => { x with retireLater := true })).startDissolve r ∨
    c.failTile r q = (((c.markFailed r q).goOut r).fault .die 3 r).retire r := by
  unfold Chip.failTile
  extract_lets x c1
  split
  · exact .inl rfl
  · split
    · exact .inl rfl
    · next p _ =>
      by_cases hfree : (x.cfg.spareFor == 15 && !x.spareBad && !bit x.posFail 15) = true
      · rw [if_pos hfree]
        exact .inr (.inl ⟨p, fun x => if c.bru.ready then insertOnce x.awaitTiles p else x.awaitTiles, rfl⟩)
      · rw [if_neg hfree]
        by_cases hgang : c.inGang r = true
        · rw [if_pos hgang]
          exact .inr (.inr (.inl rfl))
        · rw [if_neg hgang]
          exact .inr (.inr (.inr rfl))

section
variable {α : Type} {g : Tile → α} (hi : ∀ x : Tile, g { x with seqIdle := true } = g x)
include hi

theorem Chip.tileEq_returnItem (c : Chip) (n : Nat) : c.TileEq g (c.returnItem n) := by
  cases hit : c.item n with
  | none => simp only [Chip.returnItem, hit]; exact .refl g c
  | some it =>
    have h1 : c.TileEq g (it.unbegun.foldl (fun c t => c.onTile t (fun x => { x with seqIdle := true })) (c.dropItem n)) :=
      Chip.TileEq.trans (d := c.dropItem n) (fun _ => rfl) (Chip.TileEq.foldl (fun c t => .setTile c t _ (hi _)) _ _)
    refine h1.trans (.of_within (ps := [.mem, .seq, .hif]) g ?_ (by simp))
    simp only [Chip.returnItem, hit]
    split_ifs <;> simp

theorem Chip.tileEq_returnQueued (c : Chip) (r : Nat) : c.TileEq g (c.returnQueued r) :=
  Chip.TileEq.foldl (fun c (e : Nat × Item) => c.tileEq_returnItem hi e.1) _ c

theorem Chip.tileEq_goOut (c : Chip) (r : Nat) : c.TileEq g (c.goOut r) :=
  Chip.TileEq.trans (d := c.onRegion r _) (fun _ => rfl) (Chip.tileEq_returnQueued hi _ r)

theorem Chip.tileEq_startDissolve (c : Chip) (r : Nat) : c.TileEq g (c.startDissolve r) := by
  unfold Chip.startDissolve
  extract_lets m ms c1
  split
  · exact .refl g c
  · have h1 : c.TileEq g c1 :=
      Chip.TileEq.foldl (fun c x => (c.tileEq_goOut hi x).trans (Chip.TileEq.of_within (ps := [.regions]) g (by simp) (by simp))) ms c
    exact h1

variable (hs : ∀ x : Tile, g x.stopped = g x)
include hs

omit hi in
theorem Chip.tileEq_stopTiles (c : Chip) (r : Nat) : c.TileEq g (c.stopTiles r) := by
  refine Chip.TileEq.foldl (fun c p => ?_) _ c
  split
  · exact .setTile c _ _ (hs _)
  · exact .refl g c

theorem Chip.tileEq_abortRegion (c : Chip) (r : Nat) : c.TileEq g (c.abortRegion r) := by
  unfold Chip.abortRegion
  refine Chip.TileEq.trans ?_ ((Chip.tileEq_returnQueued hi _ r).trans (Chip.tileEq_stopTiles hs _ r))
  refine Chip.TileEq.foldl (fun c e => ?_) _ c
  split
  · exact .refl g c
  · exact .of_within (ps := [.mem, .seq, .hif]) g (by simp) (by simp)

theorem Chip.tileEq_retire (c : Chip) (r : Nat) : c.TileEq g (c.retire r) := by
  unfold Chip.retire
  extract_lets c0 f c1
  exact (Chip.TileEq.of_within (ps := [.regions, .seq, .img, .hif]) g (by simp [c1, c0]) (by simp)).trans
    (c1.tileEq_abortRegion hi hs r)

/-- The failure of a position changes of the tiles only what stops or idles them. -/
theorem Chip.tileEq_failTile (c : Chip) (r q : Nat) : c.TileEq g (c.failTile r q) := by
  have h1 : c.TileEq g (c.markFailed r q) := fun _ => rfl
  have h2 := h1.trans (Chip.tileEq_goOut hi _ r)
  rcases c.failTile_cases r q with h | ⟨p, tiles, h⟩ | h | h <;> rw [h]
  · exact h1
  · exact h2.trans (.of_within (ps := [.regions, .img, .hif]) g (by simp) (by simp))
  · exact h2.trans ((Chip.TileEq.of_within (ps := [.regions, .hif]) g (by simp) (by simp)).trans
      (Chip.tileEq_startDissolve hi _ r))
  · exact h2.trans ((Chip.TileEq.of_within (ps := [.hif]) g (by simp) (by simp)).trans (Chip.tileEq_retire hi hs _ r))

end

/-! ### The failed positions -/

theorem Chip.regionEq_goOut {α : Type} {g : Region → α} (c : Chip) (r : Nat)
    (hg : ∀ (x : Region) (y : RegionStatus), g { x with status := y } = g x) : c.RegionEq g (c.goOut r) :=
  (Chip.RegionEq.setRegion c r _ (hg _ _)).trans
    (.of_within (ps := [.tiles, .mem, .seq, .hif]) g ((Chip.returnQueued_step _ r (by simp)).2 (.inl (.refl _ _))) (by simp))

theorem Chip.regionEq_changeRegion {α : Type} {g : Region → α} (c : Chip) (r : Nat) (f : Region → Region)
    (hf : g (f (c.region r)) = g (c.region r)) : c.RegionEq g (c.changeRegion r f) := by
  unfold Chip.changeRegion
  extract_lets x y p p' gone c1 c2 c3
  have h1 : c.RegionEq g c1 := .of_within (ps := [.seq, .hif]) g (by simp [c1]) (by simp)
  have h2 : c1.RegionEq g c2 := .setRegion c1 r y (by rw [h1 r]; exact hf)
  exact h1.trans (h2.trans (.of_within (ps := [.seq, .hif]) g (by simp [c3]) (by simp)))

theorem Chip.posFail_retire (c : Chip) (r : Nat) : c.RegionEq Region.posFail (c.retire r) := by
  unfold Chip.retire
  extract_lets c0 f c1
  have h0 : c.RegionEq Region.posFail (c0.hwSetB r f) :=
    .of_within (ps := [.img]) _ (by simp [c0]) (by simp)
  have h1 : (c0.hwSetB r f).RegionEq Region.posFail c1 := Chip.regionEq_changeRegion _ r _ rfl
  exact h0.trans (h1.trans (.of_within (ps := [.tiles, .mem, .seq, .hif]) _ (by simp) (by simp)))

theorem Chip.posFail_startDissolve (c : Chip) (r : Nat) : c.RegionEq Region.posFail (c.startDissolve r) := by
  unfold Chip.startDissolve
  extract_lets m ms c1
  split
  · exact .refl _ c
  · have h1 : c.RegionEq Region.posFail c1 := by
      refine Chip.RegionEq.foldl (fun c x => ?_) ms c
      exact (c.regionEq_goOut x fun _ _ => rfl).trans (.onRegion _ x _ fun _ => rfl)
    exact h1

theorem bit_add_two_pow (v q : Nat) (h : bit v q = false) : bit (v + 2 ^ q) q = true := by
  simp only [bit, field, decide_eq_true_eq, decide_eq_false_iff_not, pow_one] at *
  rw [Nat.add_div_right _ (Nat.two_pow_pos q)]
  omega

/-- A position that fails is marked in POS_FAIL. -/
theorem Chip.bit_posFail_failTile (c : Chip) (r q : Nat) : bit ((c.failTile r q).region r).posFail q = true := by
  have hmark : ∀ x : Region, bit (if bit x.posFail q then x.posFail else x.posFail + 2 ^ q) q = true := fun x => by
    split
    next h => exact h
    next h => exact bit_add_two_pow _ _ (by simpa using h)
  have key : ∀ d : Chip, (c.markFailed r q).RegionEq Region.posFail d → bit (d.region r).posFail q = true := fun d hd => by
    rw [hd r]
    simpa [Chip.markFailed] using hmark (c.region r)
  have h1 : (c.markFailed r q).RegionEq Region.posFail ((c.markFailed r q).goOut r) := Chip.regionEq_goOut _ r fun _ _ => rfl
  apply key
  rcases c.failTile_cases r q with h | ⟨p, tiles, h⟩ | h | h <;> rw [h]
  · exact .refl _ _
  · refine Chip.RegionEq.trans ?_ (.fault _ _ .die 2 r)
    refine Chip.RegionEq.trans ?_ (.onRegion _ r _ fun _ => rfl)
    exact h1.trans (.hwSetB _ _ r _)
  · refine h1.trans ((Chip.RegionEq.fault _ _ .die 3 r).trans (.trans ?_ (Chip.posFail_startDissolve _ r)))
    exact .onRegion _ r _ fun _ => rfl
  · exact h1.trans ((Chip.RegionEq.of_within (ps := [.hif]) _ (by simp) (by simp)).trans (Chip.posFail_retire _ r))

/-! ## Errors of a tile -/

/-- What of a tile neither a stop nor a mark of idleness changes: its counters of errors. -/
def Tile.errorCounts (x : Tile) : Nat × Nat := (x.ueCount, x.residueErr)

/-- What of a tile a mark of idleness leaves: the end of its item as well. -/
def Tile.itemEnd (x : Tile) : Bool × Nat := (x.ended, x.errCode)

@[simp] theorem Chip.itemError_errorCounts (c : Chip) (r p code : Nat) :
    ((c.itemError r p code).tile (tileIx r p)).errorCounts = (c.tile (tileIx r p)).errorCounts := by
  obtain ⟨l, hl⟩ := c.tile_itemErrorAt r p code (c.tile (tileIx r p)).pc
  rw [Chip.itemError, hl]
  rfl

@[simp] theorem Chip.itemStops_errorCounts (c : Chip) (r p code : Nat) :
    ((c.itemStops r p code).tile (tileIx r p)).errorCounts = (c.tile (tileIx r p)).errorCounts := by
  rw [Chip.itemStops]
  split <;> simp

/-- An item that runs and has not ended ends with `code`. -/
theorem Chip.itemStops_itemEnd (c : Chip) (r p code : Nat) (hr : (c.tile (tileIx r p)).running = true)
    (he : (c.tile (tileIx r p)).ended = false) : ((c.itemStops r p code).tile (tileIx r p)).itemEnd = (true, code) := by
  obtain ⟨l, hl⟩ := c.tile_itemErrorAt r p code (c.tile (tileIx r p)).pc
  rw [Chip.itemStops, if_pos (by simp [hr, he]), Chip.itemError, hl]
  rfl

theorem Chip.ueCount_poisoned (c : Chip) (r p off : Nat) (reader : LineReader) :
    ((c.poisoned r p off reader).tile (tileIx r p)).ueCount = satAdd 16 (c.tile (tileIx r p)).ueCount 1 := by
  cases reader with
  | item =>
    refine (congrArg Prod.fst (Chip.itemStops_errorCounts _ r p ePoison)).trans ?_
    simp [Tile.errorCounts]
  | endpoint =>
    simp only [Chip.poisoned]
    split <;> simp
  | scrub => simp [Chip.poisoned]

/-- The line that is zeroed: every byte of it reads as cleared, and the tiles are marked idle at most. -/
theorem Chip.tileEq_lineZeroed {α : Type} {g : Tile → α} (hi : ∀ x : Tile, g { x with seqIdle := true } = g x) (c : Chip)
    (r p off : Nat) : c.TileEq g (c.lineZeroed r p off) := by
  unfold Chip.lineZeroed
  extract_lets c1
  exact Chip.TileEq.trans (d := c1) (fun _ => rfl) ((c1.tileEq_goOut hi r).trans fun _ => rfl)

theorem Chip.tileMem_lineZeroed (c : Chip) (r p off : Nat) :
    (c.lineZeroed r p off).tileMem r p = Memory.clear (c.tileMem r p) (off / 64 * 64) 64 := by
  have hpos : (c.lineZeroed r p off).positionOf r p = c.positionOf r p := by
    have hcfg : c.RegionEq Region.cfg (c.lineZeroed r p off) := by
      unfold Chip.lineZeroed
      extract_lets c1
      refine Chip.RegionEq.trans (d := c1) (fun _ => rfl) ((c1.regionEq_goOut r fun _ _ => rfl).trans ?_)
      refine .onRegion _ r _ fun x => ?_
      split <;> rfl
    simp only [Chip.positionOf, hcfg r]
  have hposns : (c.lineZeroed r p off).posns = (c.onTileMem r p fun m => Memory.clear m (off / 64 * 64) 64).posns :=
    Chip.Within.same (ps := [.regions, .tiles, .mem, .seq, .hif]) (by simp [Chip.lineZeroed]) .posns (by simp)
  rw [Chip.tileMem, hpos, Chip.posn, hposns, ← Chip.posn]
  exact Chip.tileMem_onTileMem c r p _

/-- Without a residue error, a line that fails the rewrite test fails its position, one that passes is zeroed. -/
theorem Chip.lineError_cases (c : Chip) (r p off : Nat) (reader : LineReader) (first : Bool) :
    c.lineError r p off reader false false first = (c.poisoned r p off reader).failTile r (c.positionOf r p) ∧
    (c.lineError r p off reader true false first = c.poisoned r p off reader ∨
      c.lineError r p off reader true false first = (c.poisoned r p off reader).lineZeroed r p off) := by
  refine ⟨by simp [Chip.lineError], ?_⟩
  simp only [Chip.lineError, Bool.not_true, Bool.not_false, Bool.false_and, Bool.or_false, if_true, Bool.false_eq_true, if_false]
  split
  · exact .inl rfl
  · exact .inr rfl

theorem Chip.ueCount_lineError (c : Chip) (r p off : Nat) (reader : LineReader) (rw_ first : Bool) :
    ((c.lineError r p off reader rw_ false first).tile (tileIx r p)).ueCount =
      satAdd 16 (c.tile (tileIx r p)).ueCount 1 := by
  rw [← c.ueCount_poisoned r p off reader]
  obtain ⟨h1, h2⟩ := c.lineError_cases r p off reader first
  cases rw_
  · rw [h1]
    exact Chip.tileEq_failTile (g := Tile.ueCount) (fun _ => rfl) (fun _ => rfl) _ _ _ _
  · rcases h2 with h | h <;> rw [h]
    exact Chip.tileEq_lineZeroed (g := Tile.ueCount) (fun _ => rfl) _ _ _ _ _

/-- The line test that passes leaves an item that read the line ended with POISON. -/
theorem Chip.itemEnd_lineError (c : Chip) (r p off : Nat) (first : Bool) (hr : (c.tile (tileIx r p)).running = true)
    (he : (c.tile (tileIx r p)).ended = false) :
    ((c.lineError r p off .item true false first).tile (tileIx r p)).itemEnd = (true, ePoison) := by
  have hp : ((c.poisoned r p off .item).tile (tileIx r p)).itemEnd = (true, ePoison) :=
    Chip.itemStops_itemEnd _ r p ePoison (by simpa using hr) (by simpa using he)
  rcases (c.lineError_cases r p off .item first).2 with h | h <;> rw [h]
  · exact hp
  · exact (Chip.tileEq_lineZeroed (g := Tile.itemEnd) (fun _ => rfl) _ _ _ _ _).trans hp

/-- MEMORY_UE without a residue error, where the reader may read the line. -/
theorem exec_memoryUe {k : ChipId} {r : RegionId} {p : TileId} {s : State} {off : Nat} {reader : LineReader} {rw_ : Bool}
    (hrun : (s.chip k).running = true) (hoff : off < tileTop)
    (hmay : (match reader with
      | .item => ((s.chip k).tile (tileIx r p)).running
      | .endpoint => (s.chip k).readsLine r p off
      | .scrub => (s.chip k).bru.ready) = true) :
    ∃ first, exec (.memoryUe k r p off reader rw_ false) s =
      .next (s.setChip k ((s.chip k).lineError r p off reader rw_ false first)) := by
  refine ⟨decide (Config.free s.fresh % 2 = 1), ?_⟩
  show execMemoryUe k r p off reader rw_ false s = _
  cases reader <;> simp_all [execMemoryUe]

theorem Chip.mem_onPosn (c : Chip) (r q : Nat) (f : Position → Position) (hf : ∀ x, (f x).mem = x.mem) (r' q' : Nat) :
    ((c.onPosn r q f).posn r' q').mem = (c.posn r' q').mem := by
  simp only [Chip.onPosn_eq, Chip.posn, Chip.setPosn, Bank.get_set]
  split
  next h => rw [hf, h]
  next => rfl

theorem Chip.mem_residue (c : Chip) (r p r' q' : Nat) : ((c.residue r p).posn r' q').mem = (c.posn r' q').mem := by
  unfold Chip.residue
  extract_lets c1
  have h : c1.posns = c.posns := Chip.Within.same (ps := [.tiles, .hif]) (by simp [c1]) .posns (by simp)
  have hp : (c1.posn r' q').mem = (c.posn r' q').mem := by simp only [Chip.posn, h]
  rw [← hp]
  exact Chip.mem_onPosn c1 r (c.positionOf r p) (fun y => { y with residueAt := some 0 }) (fun _ => rfl) r' q'

theorem Chip.mem_poisoned (c : Chip) (r p off : Nat) (reader : LineReader) (r' q' : Nat) :
    ((c.poisoned r p off reader).posn r' q').mem = (c.posn r' q').mem := by
  have h : (c.poisoned r p off reader).posns = c.posns :=
    Chip.Within.same (ps := [.tiles, .eps, .hif]) (by simp) .posns (by simp)
  simp only [Chip.posn, h]

theorem exec_memoryUe_residue {k : ChipId} {r : RegionId} {p : TileId} {s : State} {off n : Nat}
    (hrun : (s.chip k).running = true) (hoff : off < tileTop) (hx : ((s.chip k).tile (tileIx r p)).running = true)
    (hn : ((s.chip k).posn r ((s.chip k).positionOf r p)).residueAt = some n) (hle : n ≤ 1000000) :
    ∃ t, exec (.memoryUe k r p off .item true true) s = .next t ∧
      bit ((t.chip k).region r).posFail ((s.chip k).positionOf r p) = true ∧
      ((t.chip k).posn r ((s.chip k).positionOf r p)).mem = ((s.chip k).posn r ((s.chip k).positionOf r p)).mem := by
  have hsec : (s.chip k).secondResidue r p = true := by simp [Chip.secondResidue, hn, hle]
  have hmem : ∀ (c : Chip) (r' q' : Nat), ((c.failTile r q').posn r' q').mem = (c.posn r' q').mem := fun c r' q' => by
    have h : (c.failTile r q').posns = c.posns :=
      Chip.Within.same (ps := [.regions, .tiles, .mem, .seq, .img, .hif, .dissolves]) (by simp) .posns (by simp)
    simp only [Chip.posn, h]
  have hex : exec (.memoryUe k r p off .item true true) s = .next { s.setChip k ((s.chip k).lineError r p off .item true true
      (decide (Config.free s.fresh % 2 = 1))) with fresh := s.fresh + 1 } := by
    show execMemoryUe k r p off .item true true s = _
    simp [execMemoryUe, hrun, hx, hoff]
  refine ⟨_, hex, ?_⟩
  rw [State.chip_with_fresh, State.chip_setChip_self, Chip.lineError, hsec]
  refine ⟨Chip.bit_posFail_failTile _ _ _, ?_⟩
  simp only [Bool.not_true, Bool.and_self, Bool.or_true, if_true, Bool.false_eq_true, if_false, hmem]
  split
  · rw [Chip.mem_poisoned, Chip.mem_residue]
  · rw [Chip.mem_residue, Chip.mem_poisoned]

theorem exec_residueError {k : ChipId} {r : RegionId} {p : TileId} {s : State} (hrun : (s.chip k).running = true)
    (hx : ((s.chip k).tile (tileIx r p)).running = true)
    (hn : ((s.chip k).posn r ((s.chip k).positionOf r p)).residueAt = none) :
    ∃ t, exec (.residueError k r p) s = .next t ∧
      ((t.chip k).tile (tileIx r p)).residueErr = satAdd 16 ((s.chip k).tile (tileIx r p)).residueErr 1 ∧
      (((s.chip k).tile (tileIx r p)).ended = false → ((t.chip k).tile (tileIx r p)).errCode = eResidue) ∧
      (t.chip k).hif.log.head? = some ⟨codeOf .til 2, r.val, (s.chip k).time.epoch⟩ := by
  have hsec : (s.chip k).secondResidue r p = false := by simp [Chip.secondResidue, hn]
  refine ⟨_, by rw [exec, execResidueError, hrun, hx, hsec]; exact occurs_true _ _, ?_⟩
  rw [State.chip_setChip_self, if_neg (by simp), Chip.residue]
  simp only [Chip.tile_fault_frame, Chip.onPosn_eq, Chip.tile_setPosn_frame]
  refine ⟨?_, fun he => ?_, ?_⟩
  · refine (congrArg Prod.snd (Chip.itemStops_errorCounts _ r p eResidue)).trans ?_
    simp [Tile.errorCounts]
  · exact congrArg Prod.snd (Chip.itemStops_itemEnd _ r p eResidue (by simpa using hx) (by simpa using he))
  · have ht : (((s.chip k).onTile (tileIx r p) fun x => { x with residueErr := satAdd 16 x.residueErr 1 }).itemStops r p
        eResidue).time = (s.chip k).time :=
      Chip.Within.same (ps := [.tiles, .hif]) (by simp) .time (by simp)
    rw [Chip.fault_log_head, Chip.setPosn, ht]

theorem exec_sequencerHang {k : ChipId} {r : RegionId} {p : TileId} {s : State} (hrun : (s.chip k).running = true)
    (hclk : (s.chip k).clockRuns r = true) (hx : ((s.chip k).tile (tileIx r p)).running = true)
    (hh : 100 ≤ ((s.chip k).tile (tileIx r p)).hang) :
    ∃ t, exec (.sequencerHang k r p) s = .next t ∧
      bit ((t.chip k).region r).posFail ((s.chip k).positionOf r p) = true := by
  refine ⟨_, by rw [exec, execSequencerHang, hrun, hclk, hx, decide_eq_true hh]; exact occurs_true _ _, ?_⟩
  rw [State.chip_setChip_self]
  exact Chip.bit_posFail_failTile _ _ _

theorem exec_scrubLine {k : ChipId} {r : RegionId} {p : TileId} {s : State} {n : Nat} (hrun : (s.chip k).running = true)
    (hn : n ≤ 8) (hready : (s.chip k).bru.ready = true) (hclk : (s.chip k).clockRuns r = true)
    (hre : (s.chip k).reloading r = false) (hroll : (s.chip k).img.rollRegion ≠ r.val) :
    ∃ t, exec (.scrubLine k r p n) s = .next t ∧
      ((t.chip k).tile (tileIx r p)).scrubLine = (((s.chip k).tile (tileIx r p)).scrubLine + 1) % 24576 ∧
      ((t.chip k).tile (tileIx r p)).ceCount = satAdd 32 ((s.chip k).tile (tileIx r p)).ceCount n := by
  refine ⟨_, by rw [exec, execScrubLine, hrun, hready, hclk, hre, bne_iff_ne.2 hroll]; exact occurs_true _ _, ?_⟩
  rw [State.chip_setChip_self, Chip.onTile_eq, Chip.tile_setTile, if_pos rfl, min_eq_left hn]
  exact ⟨rfl, rfl⟩

theorem exec_ceRateFault {k : ChipId} {r : RegionId} {p : TileId} {s : State} (hrun : (s.chip k).running = true)
    (h : 1000 < ((s.chip k).tile (tileIx r p)).ceSecond) :
    ∃ t, exec (.ceRateFault k r p) s = .next t ∧
      (t.chip k).hif.log.head? = some ⟨codeOf .til 3, r.val, (s.chip k).time.epoch⟩ :=
  ⟨_, by rw [exec, execCeRateFault, hrun, decide_eq_true h]; exact occurs_true _ _, by rw [State.chip_setChip_self]; rfl⟩

/-- Settles O28. -/
theorem tileErrorsTakeEffect : Obligations.TileErrorsTakeEffect := by
  intro k r p s hrun x q
  refine ⟨fun off hoff hready => ⟨fun hfail => ?_, ?_⟩, fun off rw_ hoff hx => ?_, fun off rw_ hoff hread => ?_,
    fun off n hoff hx hn hle => exec_memoryUe_residue hrun hoff hx hn hle, fun hx hn => exec_residueError hrun hx hn,
    fun hclk hx hh => exec_sequencerHang hrun hclk hx hh,
    fun n hn hready hclk hre hroll => exec_scrubLine hrun hn hready hclk hre hroll, fun h => exec_ceRateFault hrun h⟩
  · obtain ⟨first, hex⟩ := exec_memoryUe (rw_ := true) (r := r) (p := p) (reader := .scrub) hrun hoff hready
    refine ⟨_, hex, ?_⟩
    rw [State.chip_setChip_self]
    refine ⟨Chip.ueCount_lineError _ _ _ _ _ _ _, ?_⟩
    have hz : (s.chip k).lineError r p off .scrub true false first = ((s.chip k).poisoned r p off .scrub).lineZeroed r p off := by
      have hf : bit (((s.chip k).poisoned r p off .scrub).region r).posFail ((s.chip k).positionOf r p) = false := hfail
      simp [Chip.lineError, hf]
    rw [hz, Chip.tileMem_lineZeroed]
    rfl
  · obtain ⟨first, hex⟩ := exec_memoryUe (rw_ := false) (r := r) (p := p) (reader := .scrub) hrun hoff hready
    refine ⟨_, hex, ?_⟩
    rw [State.chip_setChip_self]
    refine ⟨Chip.ueCount_lineError _ _ _ _ _ _ _, ?_⟩
    rw [(Chip.lineError_cases _ _ _ _ _ _).1]
    exact Chip.bit_posFail_failTile _ _ _
  · obtain ⟨first, hex⟩ := exec_memoryUe (rw_ := rw_) (r := r) (p := p) (reader := .item) hrun hoff hx
    refine ⟨_, hex, ?_⟩
    rw [State.chip_setChip_self]
    refine ⟨Chip.ueCount_lineError _ _ _ _ _ _ _, fun hrw he => ?_⟩
    subst hrw
    have h := Chip.itemEnd_lineError (s.chip k) r p off first hx he
    exact ⟨congrArg Prod.fst h, congrArg Prod.snd h⟩
  · obtain ⟨first, hex⟩ := exec_memoryUe (rw_ := rw_) (r := r) (p := p) (reader := .endpoint) hrun hoff hread
    refine ⟨_, hex, ?_⟩
    rw [State.chip_setChip_self]
    exact Chip.ueCount_lineError _ _ _ _ _ _ _

end Sys2Proof.Machine
end

section
/-! LEMMAS. What the operations on the tray leave of its slots, cards and faults, and the events of slots, cards, the flow guard, the
switch and the tray start (chapters 01, 06, 13 and 18). Settles O1 to O5. -/

namespace Sys2Proof.Machine

-- In order, not in parallel: every elaborator thread that waits for another holds a stack within the check's memory limit.
set_option Elab.async false

/-- A fold in which each step changes its own entry alone: every entry of the list is changed once. -/
theorem foldl_own {σ γ : Type} (p : σ → Nat → γ) {f : σ → Nat → σ} {g : Nat → γ → γ} (own : ∀ s n, p (f s n) n = g n (p s n))
    (other : ∀ s n j, j ≠ n → p (f s n) j = p s j) {l : List Nat} (hl : l.Nodup) (s : σ) (j : Nat) :
    p (l.foldl f s) j = if j ∈ l then g j (p s j) else p s j := by
  induction l generalizing s with
  | nil => rfl
  | cons n l ih =>
    obtain ⟨hn, hl⟩ := List.nodup_cons.1 hl
    rw [List.foldl_cons, ih hl]
    by_cases h : j = n
    · subst h
      rw [if_neg hn, if_pos List.mem_cons_self, own]
    · simp [h, other]

/-! ## The slots of the tray -/

/-- A change of other fields leaves the slots. -/
theorem Tray.slot_congr {t u : Tray} (h : u.slots = t.slots) (n : Nat) : u.slot n = t.slot n := by
  simp only [Tray.slot, h]

@[simp] theorem Tray.setThreshold_slots (t : Tray) : t.setThreshold.slots = t.slots := by
  unfold Tray.setThreshold; split <;> rfl

@[simp] theorem Tray.slot_setThreshold (t : Tray) (n : Nat) : t.setThreshold.slot n = t.slot n :=
  Tray.slot_congr t.setThreshold_slots n

@[simp] theorem Tray.noteStanding_slots (t : Tray) : t.noteStanding.slots = t.slots := by
  unfold Tray.noteStanding
  split
  · refine (foldl_keeps Tray.slots (fun t n => ?_) _ _).trans (by simp)
    split <;> simp [Tray.clearFault]
  · rfl

@[simp] theorem Tray.slot_noteStanding (t : Tray) (n : Nat) : t.noteStanding.slot n = t.slot n :=
  Tray.slot_congr t.noteStanding_slots n

/-- A unit that was prepared and has come: the slots keep. -/
theorem Tray.slots_unprepare (t : Tray) (u : Nat × Nat) :
    (if t.prepared = some u then { t with prepared := none, prepReady := false } else t).slots = t.slots := by
  split <;> rfl

@[simp] theorem Tray.slot_beginPowerDown_self (t : Tray) (n : Nat) : (t.beginPowerDown n).slot n =
    { (t.slot n).isolate with seq := .poweringDown, modRst := true, perst := true, i2cReady := false } := by
  simp [Tray.beginPowerDown]

theorem Tray.seq_beginPowerUp (t : Tray) (n : Nat) : ((t.beginPowerUp n).slot n).seq = .poweringUp := by
  simp [Tray.beginPowerUp]

/-! ## The rails of a slot -/

/-- A power-up event changes the rails alone. -/
theorem TraySlot.railUp_eq (x : TraySlot) : ∃ sw va ae mu ap cu cv, x.railUp =
    { x with switch_ := sw, vauxEn := va, auxEn := ae, modUp := mu, auxPg := ap, coreUp := cu, coreUv := cv } := by
  unfold TraySlot.railUp
  split_ifs <;> exact ⟨_, _, _, _, _, _, _, rfl⟩

theorem TraySlot.railsUp_eq (n : Nat) (x : TraySlot) : ∃ sw va ae mu ap cu cv, x.railsUp n =
    { x with switch_ := sw, vauxEn := va, auxEn := ae, modUp := mu, auxPg := ap, coreUp := cu, coreUv := cv } := by
  induction n generalizing x with
  | zero => exact ⟨_, _, _, _, _, _, _, rfl⟩
  | succ n ih =>
    obtain ⟨_, _, _, _, _, _, _, h⟩ := x.railUp_eq
    obtain ⟨a, b, c, d, e, f, g, h'⟩ := ih x.railUp
    exact ⟨a, b, c, d, e, f, g, by rw [TraySlot.railsUp, h', h]⟩

/-- A VCORE rail rises only once AUX_PG is set (R715). -/
theorem TraySlot.auxPg_of_coreUp_lt (x : TraySlot) (h : x.coreUp < x.railUp.coreUp) : x.auxPg = true := by
  unfold TraySlot.railUp at h
  split_ifs at h with h1 h2 h3 h4 h5 h6 <;> simp_all

/-- AUX_EN falls only once every VCORE rail is down (R715). -/
theorem TraySlot.coreUp_of_auxEn_falls (x : TraySlot) (h : x.auxEn = true) (h' : x.railDown.auxEn = false) : x.coreUp = 0 := by
  unfold TraySlot.railDown at h'
  split_ifs at h' <;> simp_all

/-! ## The removal of power -/

theorem State.slot_removePower_self (s : State) (n : Nat) : ((s.removePower n).tray.slot n) =
    { (s.tray.slot n).dark with
      seq := if (s.tray.slot n).counted then .inhibited else (s.tray.slot n).seq
      pendReq := none, offHeld := false, resetHeld := false, wantOn := false } := by
  simp [State.removePower]

theorem State.slot_removePower_other (s : State) (n j : Nat) (h : j ≠ n) :
    (s.removePower n).tray.slot j = s.tray.slot j := by
  simp [State.removePower, h]

theorem State.chip_removePower (s : State) (n j : Nat) :
    (s.removePower n).chip j = if j = n then (s.chip n).unpowered else s.chip j := by
  simp [State.removePower, State.chip_onChip]

theorem State.slot_tripBreaker_other (s : State) (n j : Nat) (h : j ≠ n) :
    (s.tripBreaker n).tray.slot j = s.tray.slot j := by
  simp [State.tripBreaker, h, State.slot_removePower_other]

theorem State.chip_tripBreaker (s : State) (n j : Nat) :
    (s.tripBreaker n).chip j = if j = n then (s.chip n).unpowered else s.chip j := by
  simp [State.tripBreaker, State.chip_removePower]

/-- A slot that its breaker has cut off. -/
structure State.Tripped (s : State) (n : Nat) : Prop where
  seq : (s.tray.slot n).seq = .inhibited
  pendReq : (s.tray.slot n).pendReq = none
  breaker : (s.tray.slot n).breaker = true
  powered : (s.chip n).powered = false

theorem State.tripped_tripBreaker (s : State) (n : Nat) (h : (s.tray.slot n).counted = true) : (s.tripBreaker n).Tripped n := by
  constructor <;> simp [State.tripBreaker, State.slot_removePower_self, State.chip_removePower, h, Chip.unpowered]

theorem State.Tripped.tripBreaker_other {s : State} {n : Nat} (h : s.Tripped n) (j : Nat) (hj : n ≠ j) :
    (s.tripBreaker j).Tripped n := by
  obtain ⟨h1, h2, h3, h4⟩ := h
  constructor <;> simp [State.slot_tripBreaker_other _ _ _ hj, State.chip_tripBreaker, hj, *]

/-- Breakers that trip one after another: each powered slot of the list is cut off. -/
theorem State.tripped_foldl (l : List Nat) (hl : l.Nodup) (s : State) (n : Nat) (hn : n ∈ l)
    (h : (s.tray.slot n).counted = true) : (l.foldl State.tripBreaker s).Tripped n := by
  have keep : ∀ (l : List Nat) (s : State), n ∉ l → s.Tripped n → (l.foldl State.tripBreaker s).Tripped n := by
    intro l
    induction l with
    | nil => intro s _ h; exact h
    | cons j l ih =>
      intro s hn h
      exact ih _ (fun hm => hn (List.mem_cons_of_mem _ hm)) (h.tripBreaker_other j fun e => hn (e ▸ List.mem_cons_self))
  induction l generalizing s with
  | nil => cases hn
  | cons j l ih =>
    obtain ⟨hj, hl⟩ := List.nodup_cons.1 hl
    by_cases hnj : n = j
    · subst hnj
      exact keep l _ hj (s.tripped_tripBreaker n h)
    · refine ih hl _ ((List.mem_cons.1 hn).resolve_left hnj) ?_
      rw [State.slot_tripBreaker_other _ _ _ hnj]
      exact h

/-! ## Presence and power sequences -/

theorem exec_slotOccupied {n : SlotId} {s : State} (m : Option ModuleNv) (h : (s.tray.slot n).occupied = false) :
    ∃ t, exec (.slotOccupied n m) s = .next t ∧ (t.tray.slot n).occupied = true := by
  refine ⟨_, by rw [exec]; unfold execSlotOccupied; extract_lets; rw [h]; exact occurs_true _ _, ?_⟩
  rw [Tray.slot_noteStanding, Tray.slot_congr (Tray.slots_unprepare _ _)]
  simp

theorem exec_presenceLost {n : SlotId} {s : State} {early late : Bool} (he : (early || late) = true)
    (h : (s.tray.slot n).occupied = true) :
    ∃ t, exec (.presenceLost n early late) s = .next t ∧ (t.tray.slot n).occupied = false ∧
      (t.chip n).powered = false ∧ (t.tray.slot n).pendReq = none ∧ t.tray.faulty .bru 10 n = true := by
  refine ⟨_, by rw [exec, execPresenceLost, he, h]; exact occurs_true _ _, ?_⟩
  simp [State.slot_removePower_self, State.chip_removePower, Chip.unpowered]

theorem exec_breakerTrip {n : SlotId} {s : State} (h : (s.tray.slot n).counted = true) :
    ∃ t, exec (.breakerTrip n) s = .next t ∧ t.Tripped n ∧ t.tray.faulty .try_ 4 n = true :=
  ⟨_, by rw [exec, execBreakerTrip, h]; exact occurs_true _ _, s.tripped_tripBreaker n h, by simp [State.tripBreaker]⟩

theorem exec_powerUpSequence_accept {n : SlotId} {s : State} (hseq : (s.tray.slot n).seq = .off)
    (hreq : (s.tray.slot n).pendReq = some true) (hmay : s.tray.mayPower n = true) :
    ∃ t, exec (.powerUpSequence n) s = .next t ∧ (t.tray.slot n).seq = .poweringUp := by
  refine ⟨s.onTray fun t => t.beginPowerUp n, ?_, Tray.seq_beginPowerUp _ _⟩
  rw [exec, execPowerUpSequence]
  simp [hseq, hreq, hmay]

theorem exec_railNotGood {n : SlotId} {s : State} (hseq : (s.tray.slot n).seq = .poweringUp) :
    ∃ t, exec (.railNotGood n) s = .next t ∧ (t.tray.slot n).seq = .poweringDown ∧ t.tray.faulty .bru 5 n = true := by
  refine ⟨_, by rw [exec, execRailNotGood, hseq]; exact occurs_true _ _, ?_⟩
  simp

theorem exec_railsStable {n : SlotId} {s : State} (hseq : (s.tray.slot n).seq = .poweringUp) :
    ∃ t, exec (.railsStable n) s = .next t ∧ (t.chip n).powered = true ∧
      (t.tray.slot n).seq = (if (s.tray.slot n).pendReq = some false then .poweringDown else .on) := by
  refine ⟨_, by rw [exec, execRailsStable, hseq]; exact occurs_true _ _, ?_, ?_⟩
  · change ((s.onChip n (fun c => { c.unpowered with powered := true })).chip n).powered = true
    rw [State.chip_onChip_self]
  · split <;> simp

theorem exec_powerUpSequence_rail {n : SlotId} {s : State} (hseq : (s.tray.slot n).seq = .poweringUp) :
    ∃ t, exec (.powerUpSequence n) s = .next t ∧ t.tray.slot n = (s.tray.slot n).railUp := by
  refine ⟨s.onTray fun t => t.onSlot n TraySlot.railUp, ?_, by simp⟩
  rw [exec, execPowerUpSequence]
  simp [hseq]

theorem exec_powerDownSequence_accept {n : SlotId} {s : State} (hseq : (s.tray.slot n).seq = .on)
    (hreq : (s.tray.slot n).pendReq = some false) (hsw : s.tray.ring.sweeping = false) :
    ∃ t, exec (.powerDownSequence n) s = .next t ∧ (t.tray.slot n).seq = .poweringDown ∧
      (t.tray.slot n).pendReq = none ∧ (t.tray.slot n).modRst = true ∧ (t.chip n).held = true := by
  have hex : exec (.powerDownSequence n) s = .next
      ((s.onTray (fun t => (t.beginPowerDown n).onSlot n (fun x => { x with pendReq := none }))).onChip n
        (fun c => { c.wholeReset 1 with hif := { perst := true } })) := by
    rw [exec, execPowerDownSequence]
    simp [hseq, hreq, hsw]
  refine ⟨_, hex, ?_⟩
  simp [Chip.wholeReset]

theorem exec_slotFullyOff {n : SlotId} {s : State} (hseq : (s.tray.slot n).seq = .poweringDown) :
    ∃ t, exec (.slotFullyOff n) s = .next t ∧ (t.tray.slot n).seq = .inhibited ∧ (t.chip n).powered = false := by
  refine ⟨_, by rw [exec, execSlotFullyOff, hseq]; exact occurs_true _ _, by simp, ?_⟩
  change ((s.onChip n Chip.unpowered).chip n).powered = false
  rw [State.chip_onChip_self]
  rfl

theorem exec_powerDownSequence_rail {n : SlotId} {s : State} (hseq : (s.tray.slot n).seq = .poweringDown) :
    ∃ t, exec (.powerDownSequence n) s = .next t ∧ t.tray.slot n = (s.tray.slot n).railDown := by
  refine ⟨s.onTray fun t => t.onSlot n TraySlot.railDown, ?_, by simp⟩
  rw [exec, execPowerDownSequence]
  simp [hseq]

theorem exec_powerupInhibitEnd {n : SlotId} {s : State} (hseq : (s.tray.slot n).seq = .inhibited) :
    ∃ t, exec (.powerupInhibitEnd n) s = .next t ∧ (t.tray.slot n).seq =
      (if (s.tray.slot n).pendReq = some true ∧ s.tray.mayPower n = true then .poweringUp else .off) := by
  refine ⟨_, by rw [exec, execPowerupInhibitEnd, hseq]; exact occurs_true _ _, ?_⟩
  have hmay : (s.tray.onSlot n fun x => { x with seq := .off }).mayPower n = s.tray.mayPower n := by
    simp [Tray.mayPower, Tray.slotEnabled]
  simp only [hmay, Bool.and_eq_true, decide_eq_true_eq]
  split
  · exact Tray.seq_beginPowerUp _ _
  · simp

theorem exec_busbarUndervoltage {n : SlotId} {s : State} {mv : Nat} (hmv : mv < 42000)
    (h : (s.tray.slot n).counted = true) : ∃ t, exec (.busbarUndervoltage mv) s = .next t ∧ t.Tripped n := by
  refine ⟨_, by rw [exec, execBusbarUndervoltage, decide_eq_true hmv]; exact occurs_true _ _, ?_⟩
  exact State.tripped_foldl _ (List.nodup_range.filter _) _ n
    (List.mem_filter.2 ⟨List.mem_range.2 n.isLt, h⟩) h

/-- Settles O1. -/
theorem slotPowerEventsTakeEffect : Obligations.SlotPowerEventsTakeEffect := by
  intro n s
  refine ⟨fun m h => exec_slotOccupied m h, fun early late he h => exec_presenceLost he h, fun h => ?_,
    fun hseq hreq hmay => exec_powerUpSequence_accept hseq hreq hmay,
    fun hseq => ⟨exec_railNotGood hseq, exec_railsStable hseq, ?_⟩,
    fun hseq hreq hsw => exec_powerDownSequence_accept hseq hreq hsw, fun hseq => ⟨exec_slotFullyOff hseq, ?_⟩,
    fun hseq => exec_powerupInhibitEnd hseq, fun mv hmv h => ?_⟩
  · obtain ⟨t, ht, htrip, hf⟩ := exec_breakerTrip h
    exact ⟨t, ht, htrip.powered, htrip.pendReq, htrip.seq, hf⟩
  · obtain ⟨t, ht, hs⟩ := exec_powerUpSequence_rail hseq
    exact ⟨t, ht, hs, fun hlt => TraySlot.auxPg_of_coreUp_lt _ (hs ▸ hlt)⟩
  · obtain ⟨t, ht, hs⟩ := exec_powerDownSequence_rail hseq
    exact ⟨t, ht, hs, fun ha hb => TraySlot.coreUp_of_auxEn_falls _ ha (hs ▸ hb)⟩
  · obtain ⟨t, ht, htrip⟩ := exec_busbarUndervoltage hmv h
    exact ⟨t, ht, htrip.seq, htrip.powered, htrip.breaker⟩

/-! ## The interfaces of a slot -/

theorem TraySlot.pendReq_request_off_of_on {x : TraySlot} (h : x.seq = .on) : (x.request false).pendReq = some false := by
  simp [TraySlot.request, h]

theorem TraySlot.modRst_request (x : TraySlot) (on : Bool) : (x.request on).modRst = x.modRst := by
  unfold TraySlot.request; split <;> rfl

theorem TraySlot.bypass_request (x : TraySlot) (on : Bool) : (x.request on).bypass = x.bypass := by
  unfold TraySlot.request; split <;> rfl

theorem State.slot_slotResetNow {s : State} {n : Nat} (h : (s.tray.slot n).seq = .on) :
    (s.slotResetNow n).tray.slot n = { (s.tray.slot n).isolate with modRst := true } := by
  simp [State.slotResetNow, h]

theorem State.chip_slotResetNow {s : State} {n : Nat} (h : (s.tray.slot n).seq = .on) :
    (s.slotResetNow n).chip n = (s.chip n).wholeReset 1 := by
  simp [State.slotResetNow, h]

theorem exec_slotBypassLeave {n : SlotId} {s : State} (hb : (s.tray.slot n).bypass = true)
    (ho : (s.tray.slot n).occupied = true) (hr : (s.chip n).running = true) (hsw : s.tray.ring.sweeping = false)
    (hrole : s.tray.role.isSome = true) :
    ∃ t, exec (.slotBypassLeave n) s = .next t ∧ (t.tray.slot n).bypass = false := by
  refine ⟨_, by rw [exec, execSlotBypassLeave, hb, ho, hr, hsw, hrole]; exact occurs_true _ _, ?_⟩
  simp

theorem exec_slotRequestDeliver_off {n : SlotId} {s : State} {us : Nat} (hgap : s.tray.inGap us = true)
    (hseq : (s.tray.slot n).seq = .on) (h : (s.tray.slot n).offHeld = true) :
    ∃ t, exec (.slotRequestDeliver n us) s = .next t ∧ (t.tray.slot n).offHeld = false ∧
      (t.tray.slot n).pendReq = some false := by
  refine ⟨_, by rw [exec, execSlotRequestDeliver, hgap, h]; exact occurs_true _ _, ?_⟩
  have hon : ((if (s.tray.slot n).resetHeld then s.slotResetNow n else s).tray.slot n).seq = .on := by
    split
    · rw [State.slot_slotResetNow hseq]; exact hseq
    · exact hseq
  refine ⟨by simp, ?_⟩
  rw [State.onTray_tray_eq, Tray.onSlot, Tray.slot_setSlot, if_pos rfl, if_pos rfl]
  exact TraySlot.pendReq_request_off_of_on hon

theorem exec_slotRequestDeliver_reset {n : SlotId} {s : State} {us : Nat} (hgap : s.tray.inGap us = true)
    (hseq : (s.tray.slot n).seq = .on) (h : (s.tray.slot n).resetHeld = true) :
    ∃ t, exec (.slotRequestDeliver n us) s = .next t ∧ (t.tray.slot n).resetHeld = false ∧
      (t.tray.slot n).modRst = true ∧ (t.tray.slot n).bypass = true ∧ (t.chip n).held = true := by
  refine ⟨_, by rw [exec, execSlotRequestDeliver, hgap, h, Bool.or_true]; exact occurs_true _ _, ?_⟩
  simp only [if_true, State.onTray_tray_eq, Tray.onSlot, Tray.slot_setSlot, State.chip_onTray,
    State.slot_slotResetNow hseq, State.chip_slotResetNow hseq, true_and]
  refine ⟨?_, ?_, rfl⟩
  · split
    · rw [TraySlot.modRst_request]
    · rfl
  · split
    · rw [TraySlot.bypass_request]; rfl
    · rfl

theorem exec_i2cSegmentStuck {n : SlotId} {s : State} {ms : Nat} (hms : 25 < ms) (h : (s.tray.slot n).i2c = true) :
    ∃ t, exec (.i2cSegmentStuck n ms) s = .next t ∧ (t.tray.slot n).i2c = false := by
  refine ⟨_, by rw [exec, execI2cSegmentStuck, h, decide_eq_true hms]; exact occurs_true _ _, ?_⟩
  simp

theorem exec_phaseModuleFail {n : SlotId} {s : State} (q : Fin 14) (hst : s.tray.standby = true)
    (h : (s.tray.slot n).phases.getD q true = true) :
    ∃ t, exec (.phaseModuleFail n q) s = .next t ∧ (t.tray.slot n).phases = (s.tray.slot n).phases.set q false ∧
      t.tray.faulty .try_ 12 (14 * n.val + q.val) = true := by
  refine ⟨_, by rw [exec, execPhaseModuleFail, hst, h]; exact occurs_true _ _, ?_, by simp⟩
  rw [State.onTray_tray_eq, Tray.slot_fault_frame]
  change ((s.tray.onSlot n fun x => { x with phases := x.phases.set q false }).slot n).phases = _
  simp

theorem exec_vidFrame {n : SlotId} {s : State} {frame : BitVec 16}
    (hp : ((List.range 16).filter (fun i => bit frame.toNat i)).length % 2 = 1) (h0 : field frame.toNat 1 5 = 0)
    (hlo : 40 ≤ field frame.toNat 6 8) (hhi : field frame.toNat 6 8 ≤ 160) (hc : (s.tray.slot n).counted = true)
    (ho : (s.tray.slot n).overridden = false) :
    ∃ t, exec (.vidFrame n frame) s = .next t ∧
      (t.tray.slot n).bankV = (s.tray.slot n).bankV.set (field frame.toNat 14 2) (field frame.toNat 6 8) := by
  refine ⟨s.onTray _, by simp [exec, execVidFrame, hp, h0, hlo, hhi, hc, ho, occurs]; rfl, ?_⟩
  simp [TraySlot.setCore]

theorem exec_meterLinkLock (s : State) (node : NodeId) (rev : Bool) :
    (∃ t, exec (.meterLinkLock node rev true) s = .next t ∧ (node.val + if rev then 17 else 0) ∉ t.tray.ring.unlocked) ∧
    (∃ t, exec (.meterLinkLock node rev false) s = .next t ∧ (node.val + if rev then 17 else 0) ∈ t.tray.ring.unlocked) :=
  ⟨⟨_, rfl, fun h => ((mem_removeAll _ _ _).1 h).2 rfl⟩, ⟨_, rfl, (mem_insertOnce _ _ _).2 (.inl rfl)⟩⟩

/-- Settles O2. -/
theorem slotInterfacesTakeEffect : Obligations.SlotInterfacesTakeEffect :=
  fun n s => ⟨exec_slotBypassLeave,
    fun _ hgap hseq => ⟨exec_slotRequestDeliver_off hgap hseq, exec_slotRequestDeliver_reset hgap hseq⟩,
    fun _ hms h => exec_i2cSegmentStuck hms h, fun q hst h => exec_phaseModuleFail q hst h,
    fun _ hp h0 hlo hhi hc ho => exec_vidFrame hp h0 hlo hhi hc ho,
    fun node rev => (exec_meterLinkLock s node rev).1, fun node rev => (exec_meterLinkLock s node rev).2⟩

/-! ## The reference cards -/

/-- R27 with no facility input: the source of the card is another. -/
theorem Tray.bestSource_ne_facility {t : Tray} {x : Side} (h : (t.trc x).facility = false) : t.bestSource x ≠ .facility := by
  simp only [Tray.bestSource, h, Bool.false_eq_true, if_false]
  split <;> decide

theorem Tray.source_takeSource (t : Tray) (x : Side) (ps : Int) : ((t.takeSource x ps).trc x).source = t.bestSource x := by
  unfold Tray.takeSource
  extract_lets best
  split
  next h => exact h.symm
  next => simp [best]

theorem Tray.facility_takeSource (t : Tray) (x : Side) (ps : Int) (y : Side) :
    ((t.takeSource x ps).trc y).facility = (t.trc y).facility := by
  unfold Tray.takeSource
  extract_lets best
  split
  · rfl
  · rw [Tray.trc_setTrc]
    split
    next h => subst h; rfl
    next => rfl

theorem Tray.trc_takeSource_other (t : Tray) {x y : Side} (h : y ≠ x) (ps : Int) : (t.takeSource x ps).trc y = t.trc y := by
  unfold Tray.takeSource
  extract_lets best
  split
  · rfl
  · simp [h]

theorem side_ne_other (x : Side) : x ≠ x.other := by cases x <;> decide

theorem exec_facilityInputLost {c : Side} {s : State} (hp : (s.tray.trc c).present = true)
    (hf : (s.tray.trc c).facility = true) (hst : s.tray.standby = true) (ps : Int) :
    ∃ t, exec (.facilityInputLost c ps) s = .next t ∧ (t.tray.trc c).facility = false ∧
      (t.tray.trc c).source ≠ .facility ∧ t.tray.faulty .try_ 8 c.ix = true := by
  refine ⟨_, by rw [exec, execFacilityInputLost, hp, hf, hst]; exact occurs_true _ _, ?_, ?_, by simp⟩
  · simp [Tray.facility_takeSource]
  · rw [Tray.trc_fault_frame, Tray.trc_takeSource_other _ (side_ne_other c), Tray.source_takeSource]
    exact Tray.bestSource_ne_facility (by simp)

theorem exec_trcSourceGained {c : Side} {s : State} (hst : s.tray.standby = true) (hp : (s.tray.trc c).present = true)
    (h : (s.tray.trc c).source ≠ .facility) (ps : Int) :
    ∃ t, exec (.trcSourceGained c true ps) s = .next t ∧ (t.tray.trc c).source = .facility ∧
      t.tray.faulty .try_ 8 c.ix = false := by
  have hbest : (s.tray.setTrc c { s.tray.trc c with facility := (s.tray.trc c).facility || true }).bestSource c = .facility := by
    simp [Tray.bestSource]
  have hrank : TrcSource.facility.rank < (s.tray.trc c).source.rank := by
    cases hs : (s.tray.trc c).source
    · exact absurd hs h
    · decide
    · decide
  refine ⟨_, by rw [exec, execTrcSourceGained, hbest, hst, hp, decide_eq_true hrank]; exact occurs_true _ _, ?_, by simp⟩
  rw [if_pos rfl, Tray.trc_clearFault_frame, Tray.source_takeSource]
  simp [Tray.bestSource]

theorem exec_trcPartnerLost {c : Side} {s : State} (hp : (s.tray.trc c).present = true)
    (hs : (s.tray.trc c).source = .partner) (hd : s.tray.trcDrives c.other = false) :
    ∃ t, exec (.trcPartnerLost c) s = .next t ∧ (t.tray.trc c).source = .own := by
  refine ⟨_, by rw [exec, execTrcPartnerLost, hp, hs, hd]; exact occurs_true _ _, ?_⟩
  simp

theorem exec_ppsCompare {s : State} (ns : Nat) (hr : s.tray.role.isSome = true) (ha : s.tray.trcDrives .a = true)
    (hb : s.tray.trcDrives .b = true) :
    ∃ t, exec (.ppsCompare ns) s = .next t ∧ t.tray.faulty .try_ 5 noInstance = decide (60 < ns) := by
  refine ⟨_, by rw [exec, execPpsCompare, hr, ha, hb]; exact occurs_true _ _, ?_⟩
  by_cases h : 60 < ns <;> simp [h]

theorem State.nvm_rewriteNvm {s : State} (x : Side) (ok : Bool) (hp : (s.tray.nvm x).present = true)
    (hv : (s.tray.nvm x).valid = false) :
    ((s.rewriteNvm x ok).tray.nvm x).present = true ∧ ((s.rewriteNvm x ok).tray.nvm x).valid = ok ∧
      (ok = true → ((s.rewriteNvm x ok).tray.nvm x).image = s.tray.imageBytes) := by
  cases ok <;> simp [State.rewriteNvm, State.spoilNvm, hp]

theorem exec_nvmCardInsert {c : Side} {s : State} (card : List Host.Cell) (ok : Bool) (hp : (s.tray.nvm c).present = false)
    (hr : s.tray.role.isSome = true) (hi : s.tray.haveImage = true) :
    ∃ t, exec (.nvmCardInsert c card ok) s = .next t ∧ (t.tray.nvm c).present = true ∧
      (t.tray.nvm c).valid = ok ∧ (ok = true → (t.tray.nvm c).image = s.tray.imageBytes) := by
  refine ⟨_, by rw [exec, execNvmCardInsert, hp, hr, hi]; exact occurs_true _ _, ?_⟩
  have hb : (s.tray.setNvm c { present := true, valid := false, generation := 0, image := Memory.ofCells card }).imageBytes =
      s.tray.imageBytes := by cases c <;> rfl
  rw [← hb]
  exact State.nvm_rewriteNvm c ok (by simp) (by simp)

/-! ## The reference lines to the chips -/

theorem Clock.refOf_setRef (q : Clock) (x y : Side) (m : RefMon) : (q.setRef x m).refOf y = if y = x then m else q.refOf y := by
  cases x <;> cases y <;> rfl

theorem Chip.live_setLine_on (c : Chip) (x : Side) : ((c.setLine x true).clk.refOf x).live = true := by
  unfold Chip.setLine
  extract_lets m
  split
  next h => exact h
  next => simp [Chip.onClk, Clock.refOf_setRef]

/-- One line of the eight slots: the chips whose condition `cond` holds and that run follow it. -/
def State.followLine (x : Side) (on : Nat → Bool) (cond : Nat → Bool) (v : State) (n : Nat) : State :=
  if cond n && (v.chip n).running then v.onChip n (fun c => c.setLine x (on n)) else v

theorem State.chip_followLine_other {x : Side} {on cond : Nat → Bool} {v : State} {n j : Nat} (h : n ≠ j) :
    (v.followLine x on cond j).chip n = v.chip n := by
  unfold State.followLine
  split
  · exact State.chip_onChip_other _ _ _ _ h
  · rfl

theorem State.chip_followLine_self {x : Side} {on cond : Nat → Bool} {v : State} {n : Nat} :
    (v.followLine x on cond n).chip n = if cond n && (v.chip n).running then (v.chip n).setLine x (on n) else v.chip n := by
  unfold State.followLine
  split
  · exact State.chip_onChip_self _ _ _
  · rfl

/-- The chips after a tray event that changes line A or B of slot `n`. -/
theorem State.chip_followLines (s u : State) (n : Nat) (hn : n < 8) :
    (s.followLines u).chip n =
      (let c := if (s.tray.lineDriven n .a != u.tray.lineDriven n .a && (u.chip n).running) = true
          then (u.chip n).setLine .a (u.tray.lineDriven n .a) else u.chip n
       if (s.tray.lineDriven n .b != u.tray.lineDriven n .b && c.running) = true
          then c.setLine .b (u.tray.lineDriven n .b) else c) := by
  have fold : ∀ (x : Side) (v : State), ((List.range 8).foldl (fun (w : State) n =>
      if s.tray.lineDriven n x != v.tray.lineDriven n x && (w.chip n).running then
        w.onChip n (fun c => c.setLine x (v.tray.lineDriven n x)) else w) v) =
      (List.range 8).foldl (State.followLine x (fun n => v.tray.lineDriven n x)
        (fun n => s.tray.lineDriven n x != v.tray.lineDriven n x)) v := fun _ _ => rfl
  have htray : ∀ (x : Side) on cond (v : State), ((List.range 8).foldl (State.followLine x on cond) v).tray = v.tray := by
    intro x on cond v
    refine foldl_keeps State.tray (fun v n => ?_) _ _
    unfold State.followLine
    split <;> simp
  have hmem : n ∈ List.range 8 := List.mem_range.2 hn
  simp only [State.followLines, List.foldl_cons, List.foldl_nil]
  have own : ∀ (x : Side) on cond (v : State), ((List.range 8).foldl (State.followLine x on cond) v).chip n =
      if cond n && (v.chip n).running then (v.chip n).setLine x (on n) else v.chip n := fun x on cond v =>
    (foldl_own State.chip (g := fun n c => if cond n && c.running then c.setLine x (on n) else c)
      (fun _ _ => State.chip_followLine_self) (fun _ _ _ h => State.chip_followLine_other h) List.nodup_range v n).trans (if_pos hmem)
  rw [fold, fold, own, htray, own]

/-- A line newly driven reaches the running chip behind it, the other line standing as it was. -/
theorem State.live_followLines {s u : State} {c : Side} {n : Nat} (hn : n < 8) (hs : s.tray.lineDriven n c = false)
    (hu : u.tray.lineDriven n c = true) (hother : u.tray.lineDriven n c.other = s.tray.lineDriven n c.other)
    (hr : (u.chip n).running = true) : (((s.followLines u).chip n).clk.refOf c).live = true := by
  rw [State.chip_followLines _ _ _ hn]
  cases c
  · simp only [Side.other] at hother
    simp [hs, hu, hother, hr, Chip.live_setLine_on]
  · simp only [Side.other] at hother
    simp [hs, hu, hother, hr, Chip.live_setLine_on]

theorem exec_trcOutputEnable {c : Side} {s : State} {ns warm : Nat} (hst : s.tray.standby = true) (hstart : 4 ≤ s.tray.start)
    (hp : (s.tray.trc c).present = true) (he : (s.tray.trc c).enabled = false) (hprep : (s.tray.trc c).prepared = false)
    (hown : s.tray.bestSource c = .own → 300 ≤ warm) (hns : s.tray.bestSource c ≠ .own → ns ≤ 10) :
    ∃ t, exec (.trcOutputEnable c ns warm) s = .next t ∧ (t.tray.trc c).enabled = true ∧
      (t.tray.trc c).source = s.tray.bestSource c ∧
      ∀ n : SlotId, (s.chip n).running = true → (s.tray.slot n).fanout = true → ((t.chip n).clk.refOf c).live = true := by
  have hok : (if s.tray.bestSource c = .own then decide (300 ≤ warm) else decide (ns ≤ 10)) = true := by
    split
    next h => exact decide_eq_true (hown h)
    next h => exact decide_eq_true (hns h)
  refine ⟨_, by
    rw [exec, execTrcOutputEnable]
    simp only [hst, hstart, hp, he, hprep, hok, decide_true, Bool.not_false, Bool.and_self]
    exact occurs_true _ _, by simp, by simp, fun n hr hf => ?_⟩
  refine State.live_followLines n.isLt ?_ ?_ ?_ (by simpa using hr)
  · simp [Tray.lineDriven, Tray.trcDrives, he]
  · simp [Tray.lineDriven, Tray.trcDrives, hp, hf]
  · simp [Tray.lineDriven, Tray.trcDrives, (side_ne_other c).symm]

/-- Settles O3. -/
theorem cardEventsTakeEffect : Obligations.CardEventsTakeEffect :=
  fun _ _ => ⟨fun hp hf hst ps => exec_facilityInputLost hp hf hst ps,
    fun _ _ hst hstart hp he hprep hown hns => exec_trcOutputEnable hst hstart hp he hprep hown hns,
    fun ns hr ha hb => exec_ppsCompare ns hr ha hb, fun hst hp h ps => exec_trcSourceGained hst hp h ps,
    fun hp hs hd => exec_trcPartnerLost hp hs hd, fun card ok hp hr hi => exec_nvmCardInsert card ok hp hr hi⟩

/-! ## The flow guard and the environment -/

/-- The override of the core rails leaves a slot's COOLANT_STOP_N. -/
theorem Tray.coolantN_overrideCores (t : Tray) (n : Nat) : (t.overrideCores.slot n).coolantN = (t.slot n).coolantN := by
  have core : ∀ (l : List Nat) (x : TraySlot), (l.foldl (fun y i => y.setCore i 40) x).coolantN = x.coolantN :=
    fun l x => foldl_keeps (f := fun (y : TraySlot) i => y.setCore i 40) TraySlot.coolantN (fun _ _ => rfl) l x
  unfold Tray.overrideCores
  split
  · refine (foldl_keeps (fun u : Tray => (u.slot n).coolantN) (fun u j => ?_) _ _)
    split
    · rw [Tray.onSlot, Tray.slot_setSlot]
      split
      next h => subst h; exact core _ _
      next => rfl
    · rfl
  · rfl

theorem Tray.stop_overrideCores (t : Tray) : t.overrideCores.stop = t.stop := by
  unfold Tray.overrideCores
  split
  · exact foldl_keeps Tray.stop (fun t n => by split <;> rfl) _ _
  · rfl

theorem exec_coolantStopAssert {s : State} {fa fb : Nat} (hst : s.tray.standby = true) (hstop : s.tray.stop = false)
    (hca : s.tray.flowA.counts = true) (hcb : s.tray.flowB.counts = true) (ha : fa < s.tray.threshold)
    (hb : fb < s.tray.threshold) :
    ∃ t, exec (.coolantStopAssert fa fb) s = .next t ∧ t.tray.stop = true ∧ t.tray.faulty .try_ 2 noInstance = true ∧
      ∀ n : SlotId, (s.tray.slot n).counted = true → (t.tray.slot n).coolantN = true := by
  have hlow : ((s.tray.flowA.counts || s.tray.flowB.counts) && (!s.tray.flowA.counts || decide (fa < s.tray.threshold)) &&
      (!s.tray.flowB.counts || decide (fb < s.tray.threshold))) = true := by
    simp [hca, ha, hb]
  refine ⟨_, by rw [exec, execCoolantStopAssert, hlow, hst, hstop]; exact occurs_true _ _, ?_, by simp, fun n hn => ?_⟩
  · rw [Tray.fault_stop, Tray.stop_overrideCores]
  · rw [Tray.slot_fault_frame, Tray.coolantN_overrideCores, Tray.slot, Bank.get_updateMany_range, if_pos n.isLt]
    exact hn

theorem exec_coolantStopClear {s : State} {flow : Nat} (hstop : s.tray.stop = true) (hr : s.tray.role.isSome = true)
    (hf : s.tray.threshold ≤ flow) :
    ∃ t, exec (.coolantStopClear flow) s = .next t ∧ t.tray.stop = false ∧ t.tray.faulty .try_ 2 noInstance = false ∧
      ∀ n : SlotId, (t.tray.slot n).coolantN = false ∧ (t.tray.slot n).overridden = false ∧
        (t.tray.slot n).bankV = (s.tray.slot n).bankV := by
  refine ⟨_, by rw [exec, execCoolantStopClear, hstop, hr, decide_eq_true hf]; exact occurs_true _ _, rfl, by simp,
    fun n => ?_⟩
  rw [Tray.slot_clearFault_frame, Tray.slot, Bank.get_updateMany_range, if_pos n.isLt]
  exact ⟨rfl, rfl, rfl⟩

theorem Tray.seq_exchange (t : Tray) (e : Nat) (ns : List Nat) (n : SlotId) : ((t.exchange e ns).slot n).seq = (t.slot n).seq := by
  rw [Tray.exchange, Tray.slot, Bank.get_updateMany_range, if_pos n.isLt]
  rfl

/-- The tray as slot `n`'s power-up is requested (R45): the budget divided anew, the slot's breaker and start faults cleared. -/
def Tray.requestUp (t : Tray) (n : Nat) : Tray :=
  (((t.exchange t.epoch ((List.range 8).filter (fun j => j == n || (t.slot j).counted))).onSlot n
    (fun x => { x.request true with wantOn := false, breaker := false })).clearFault .try_ 4 n).clearFault .bru 5 n

theorem Tray.slot_requestUp {t : Tray} {n : SlotId} (h : (t.slot n).seq = .off) :
    ((t.requestUp n).slot n).pendReq = some true ∧ ((t.requestUp n).slot n).wantOn = false := by
  simp [Tray.requestUp, TraySlot.request, Tray.seq_exchange, h]

theorem exec_slotPowerupRequest {n : SlotId} {s : State} {flow : Nat} (ms : Nat) (hr : s.tray.role.isSome = true)
    (hstart : 7 ≤ s.tray.start) (hw : (s.tray.slot n).wantOn = true) (ho : (s.tray.slot n).occupied = true)
    (he : s.tray.slotEnabled n = true) (hseq : (s.tray.slot n).seq = .off) (hreq : (s.tray.slot n).pendReq ≠ some true)
    (hflow : s.tray.image.perModule * (s.tray.countedSlots + 1) ≤ flow) :
    ∃ t, exec (.slotPowerupRequest n flow ms) s = .next t ∧ (t.tray.slot n).pendReq = some true ∧
      (t.tray.slot n).wantOn = false ∧ t.tray.threshold = s.tray.image.perModule * (s.tray.countedSlots + 1) := by
  have hneed : (s.tray.slot n).needsFlow = false := by simp [TraySlot.needsFlow, TraySlot.counted, hseq, hreq]
  have h6 : 6 ≤ s.tray.start := Nat.le_of_succ_le hstart
  have hflag : flag (!false) = 1 := rfl
  obtain ⟨hp, hw'⟩ := Tray.slot_requestUp hseq
  refine ⟨{ s with tray := { s.tray.requestUp n with
      threshold := s.tray.image.perModule * (s.tray.countedSlots + 1), flowNow := flow } }, ?_, hp, hw', rfl⟩
  rw [exec, execSlotPowerupRequest, hneed, hflag, hr, hw, ho, he, decide_eq_true hstart, decide_eq_true h6,
    decide_eq_true hflow]
  exact occurs_true _ _

theorem exec_flowDisagree {s : State} (fa fb : Nat) (hr : s.tray.role.isSome = true) (ha : s.tray.flowA.counts = true)
    (hb : s.tray.flowB.counts = true) :
    ∃ t, exec (.flowDisagree fa fb) s = .next t ∧ t.tray.stop = s.tray.stop ∧
      t.tray.faulty .try_ 1 noInstance = decide (15 * max fa fb < 100 * (max fa fb - min fa fb)) := by
  have present : ∀ {x : FlowSensor}, x.counts = true → x.present = true := by
    intro x h
    simp only [FlowSensor.counts, Bool.and_eq_true] at h
    exact h.1.1
  refine ⟨_, by
    rw [exec, execFlowDisagree, hr, present ha, present hb, ha, hb]
    exact occurs_true _ _, ?_⟩
  by_cases h : 15 * max fa fb < 100 * (max fa fb - min fa fb)
  · simp [h]
  · simp [h]

theorem exec_environmentOutOfRange {s : State} (e : EnvKind) (v : Int) (hr : s.tray.role.isSome = true) :
    ∃ t, exec (.environmentOutOfRange e v) s = .next t ∧ t.tray.faulty .try_ (envCode e) noInstance = !(envInRange e v) := by
  refine ⟨_, by rw [exec]; unfold execEnvironmentOutOfRange; rw [hr]; exact occurs_true _ _, ?_⟩
  cases envInRange e v <;> simp

theorem Tray.noteStanding_lamps (t : Tray) : t.noteStanding.lamps = t.lamps ∧ t.noteStanding.lampBoard = t.lampBoard := by
  unfold Tray.noteStanding
  split
  · constructor
    · refine (foldl_keeps Tray.lamps (fun t n => ?_) _ _).trans (by simp)
      split <;> simp
    · refine (foldl_keeps Tray.lampBoard (fun t n => ?_) _ _).trans (by simp)
      split <;> simp
  · exact ⟨rfl, rfl⟩

theorem exec_lampBoardRemoved {s : State} (h : s.tray.lampBoard = true) :
    ∃ t, exec .lampBoardRemoved s = .next t ∧ t.tray.lampBoard = false ∧
      ∀ e : LampId, (t.tray.lamps.get {} e).status = .unproven := by
  refine ⟨_, by rw [exec, execLampBoardRemoved, h]; exact occurs_true _ _, (Tray.noteStanding_lamps _).2, fun e => ?_⟩
  rw [(Tray.noteStanding_lamps _).1, Bank.get_updateMany_range, if_pos e.isLt]

/-- Settles O4. -/
theorem flowGuardTakesEffect : Obligations.FlowGuardTakesEffect :=
  fun _ => ⟨fun _ _ hst hstop hca hcb ha hb => exec_coolantStopAssert hst hstop hca hcb ha hb,
    fun _ hstop hr hf => exec_coolantStopClear hstop hr hf,
    fun _ _ ms hr hstart hw ho he hseq hreq hflow => exec_slotPowerupRequest ms hr hstart hw ho he hseq hreq hflow,
    fun fa fb hr ha hb => exec_flowDisagree fa fb hr ha hb, fun e v hr => exec_environmentOutOfRange e v hr,
    exec_lampBoardRemoved⟩

/-! ## The switch and the tray start -/

theorem State.tray_moveUpstream (s : State) (port : Nat) : (s.moveUpstream port).tray = { s.tray with
    activeUp := port
    slots := s.tray.slots.updateMany (fun _ => {}) (List.range 8) (fun _ x => { x with upstream := port }) } := by
  have hfold : ∀ u : State, ((List.range 8).foldl (fun (u : State) n =>
      if (s.tray.slot n).upstream ≠ port && (s.chip n).running && !(s.chip n).hif.perst then u.onChip n Chip.resetHif
      else u) u).tray = u.tray := fun u => foldl_keeps State.tray (fun u n => by split <;> simp) _ _
  unfold State.moveUpstream
  extract_lets s1
  rw [State.onTray_tray_eq, show s1.tray = s.tray from hfold s]

theorem exec_upstreamFailover {s : State} {ms : Nat} (hms : 100 ≤ ms) (hm : s.tray.modeInForce = false)
    (hu : s.tray.activeUp = 0) (hst : 5 ≤ s.tray.start) :
    ∃ t, exec (.upstreamFailover ms) s = .next t ∧ t.tray.activeUp = 1 ∧ t.tray.faulty .try_ 14 noInstance = true ∧
      ∀ n : SlotId, (t.tray.slot n).upstream = 1 := by
  refine ⟨_, by
    rw [exec, execUpstreamFailover, hm, hu, decide_eq_true hms, decide_eq_true hst]
    exact occurs_true _ _, ?_, by simp, fun n => ?_⟩
  · rw [State.tray_moveUpstream]; rfl
  · rw [Tray.slot_fault_frame, State.tray_moveUpstream, Tray.slot, Bank.get_updateMany_range, if_pos n.isLt]

theorem exec_p2pWriteForward {s : State} {k d : ChipId} {tag : Nat} {bytes : List Byte} {rest : List (Nat × Nat × List Byte)}
    (h : (s.chip k).hif.p2pOut = (d.val, tag, bytes) :: rest) (hkd : k ≠ d) (hm : s.tray.modeInForce = false)
    (hr : (s.chip d).running = true) (hp : (s.tray.slot d).perst = false) :
    ∃ t, exec (.p2pWriteForward k) s = .next t ∧ (t.chip k).hif.p2pOut = rest ∧
      (t.chip d).hif.p2pIn = (s.chip d).hif.p2pIn ++ [bytes] := by
  have hne : (d : Nat) ≠ k := fun e => hkd (Fin.ext e.symm)
  refine ⟨_, by
    rw [exec]
    unfold execP2pWriteForward
    rw [h]
    simp only [hm, hr, hp, Bool.not_false, Bool.true_or, Bool.and_self, if_true]
    exact occurs_true _ _, ?_⟩
  rw [State.chip_onChip_self, State.chip_onChip_other _ _ _ _ hne.symm, State.chip_onChip_self,
    State.chip_onChip_other _ _ _ _ hne]
  exact ⟨rfl, rfl⟩

theorem Tray.noteStanding_haveImage (t : Tray) : t.noteStanding.haveImage = t.haveImage := by
  unfold Tray.noteStanding
  split
  · refine (foldl_keeps Tray.haveImage (fun t n => ?_) _ _).trans (by simp)
    split <;> simp
  · rfl

theorem Tray.haveImage_readNvm (t : Tray) : t.readNvm.haveImage = (t.copyValid .a || t.copyValid .b) := by
  unfold Tray.readNvm
  extract_lets va vb ga gb found t0 src bad t1 t2 t3
  change _ = (va || vb)
  split
  next h => simp at h; simp [h]
  next h => rw [Tray.noteStanding_haveImage]; revert h; cases va <;> cases vb <;> simp

theorem State.haveImage_rewriteNvm (s : State) (x : Side) (ok : Bool) : (s.rewriteNvm x ok).tray.haveImage = s.tray.haveImage := by
  cases ok <;> simp [State.rewriteNvm, State.spoilNvm]

theorem State.haveImage_readNvm (s : State) (ok : Bool) :
    (s.readNvm ok).tray.haveImage = (s.tray.copyValid .a || s.tray.copyValid .b) := by
  unfold State.readNvm
  extract_lets s1 t bad
  have h : s1.tray.haveImage = (s.tray.copyValid .a || s.tray.copyValid .b) := Tray.haveImage_readNvm _
  split_ifs
  · exact h
  · rw [State.haveImage_rewriteNvm, h]
  · exact h

theorem exec_trayStart_readNvm {s : State} (h : s.tray.start = 2) (hr : s.tray.role.isSome = true) (ok : Bool) :
    ∃ t, exec (.trayStart ok) s = .next t ∧ t.tray.start = 3 ∧
      t.tray.haveImage = (s.tray.copyValid .a || s.tray.copyValid .b) :=
  ⟨(s.readNvm ok).onTray (fun u => { u with start := 3 }), by simp [exec, execTrayStart, h, hr, occurs], rfl,
    State.haveImage_readNvm s ok⟩

theorem exec_trayStart_wantOn {s : State} (h : s.tray.start = 5) (ok : Bool) :
    ∃ t, exec (.trayStart ok) s = .next t ∧ t.tray.start = 6 ∧
      ∀ n : SlotId, (t.tray.slot n).wantOn = ((s.tray.slot n).occupied && s.tray.slotEnabled n) := by
  refine ⟨{ s with tray := { s.tray with
      start := 6
      slots := s.tray.slots.updateMany (fun _ => {}) (List.range 8) (fun n x =>
        { x with wantOn := x.occupied && s.tray.slotEnabled n }) } },
    by simp only [exec, execTrayStart, h], rfl, fun n => ?_⟩
  rw [Tray.slot, Bank.get_updateMany_range, if_pos n.isLt]
  rfl

theorem exec_trayStart_started {s : State} (h : s.tray.start = 6) (hall : ∀ n : SlotId, (s.tray.slot n).startedUp = true)
    (ok : Bool) : ∃ t, exec (.trayStart ok) s = .next t ∧ t.tray.start = 7 := by
  have hall' : (List.range 8).all (fun n => (s.tray.slot n).startedUp) = true :=
    List.all_eq_true.2 fun n hn => hall ⟨n, List.mem_range.1 hn⟩
  exact ⟨{ s with tray := { s.tray with start := 7 } }, by simp only [exec, execTrayStart, h, hall']; rfl, rfl⟩

/-- Settles O5. -/
theorem trayStartAndSwitchTakeEffect : Obligations.TrayStartAndSwitchTakeEffect := by
  intro s
  refine ⟨fun ms hms hm hu hst => exec_upstreamFailover hms hm hu hst,
    fun k d tag bytes rest h hkd hm hr hp => exec_p2pWriteForward h hkd hm hr hp, fun h ok => ?_, fun h hst ok => ?_,
    exec_trayStart_readNvm, fun h hi ok => ?_, fun h hd ok => ?_, exec_trayStart_wantOn, exec_trayStart_started⟩
  · exact ⟨_, by simp only [exec, execTrayStart, h]; rfl, rfl, rfl⟩
  · exact ⟨{ s with tray := { s.tray with start := 2 } }, by simp only [exec, execTrayStart, h, hst]; rfl, rfl⟩
  · exact ⟨{ s with tray := { (s.tray.takeSource .a 0).takeSource .b 0 with start := 4 } },
      by simp only [exec, execTrayStart, h, hi]; rfl, rfl⟩
  · exact ⟨_, by simp only [exec, execTrayStart, h, hd]; exact occurs_true _ _, rfl, rfl⟩

end Sys2Proof.Machine
end

section
/-! LEMMAS. The resets of a chip, the phases of its start and the epoch counter of a chip and of a TMC (chapters 03
and 06). Settles O6 to O8. -/

namespace Sys2Proof.Machine

-- In order, not in parallel: every elaborator thread that waits for another holds a stack within the check's memory limit.
set_option Elab.async false

/-! ## Cells of a bank mapped, regions and generators changed one by one -/

/-- A generator that has left its reset value is mapped as its cell is. -/
theorem Chip.gen_mapGens {c : Chip} {r : Nat} (f : Nat → Gen → Gen) (h : (c.gen r).state ≠ .off) :
    (c.mapGens f).gen r = f r (c.gen r) := by
  simp only [Chip.gen, Chip.mapGens, Bank.get, Bank.look_mapCells] at *
  cases hl : Bank.look c.gens.cells r with
  | none => rw [hl] at h; exact absurd rfl h
  | some g => rfl

theorem allRegions_nodup : allRegions.Nodup := List.nodup_range

theorem mem_allRegions (r : RegionId) : r.val ∈ allRegions := List.mem_range.2 r.isLt

theorem Chip.gen_forRegions {f : Chip → Nat → Chip} {g : Nat → Gen → Gen} (own : ∀ c r, (f c r).gen r = g r (c.gen r))
    (other : ∀ c r j, j ≠ r → (f c r).gen j = c.gen j) {l : List Nat} (hl : l.Nodup) (c : Chip) (j : Nat) :
    (c.forRegions l f).gen j = if j ∈ l then g j (c.gen j) else c.gen j :=
  foldl_own Chip.gen own other hl c j

theorem Chip.region_forRegions {f : Chip → Nat → Chip} {g : Nat → Region → Region}
    (own : ∀ c r, (f c r).region r = g r (c.region r)) (other : ∀ c r j, j ≠ r → (f c r).region j = c.region j) {l : List Nat}
    (hl : l.Nodup) (c : Chip) (j : Nat) :
    (c.forRegions l f).region j = if j ∈ l then g j (c.region j) else c.region j :=
  foldl_own Chip.region own other hl c j

@[simp] theorem Chip.log_cause (c : Chip) (v : Nat) : (c.cause v).hif.log = c.hif.log := (rfl)

/-! ## Resets -/

/-- A line that goes dead or comes back touches the clock and HIF alone. -/
theorem Chip.within_setLine (c : Chip) (x : Side) (on : Bool) : c.Within [.clk, .hif] (c.setLine x on) := by simp

theorem Chip.drainWrites_of_stores_empty {c : Chip} (h : ∀ i : ChanId, (c.chan i).store = []) : c.drainWrites = c := by
  have step : ∀ l : List Nat, (∀ i ∈ l, i < 16) → l.foldl (fun c i => (c.chan i).store.foldl (fun (c : Chip) (g : Group) =>
      if g.write then { c with mem := Memory.writeEnabled c.mem g.addr (g.data.take (64 * g.lines)) g.en } else c) c) c = c := by
    intro l hl
    induction l with
    | nil => rfl
    | cons i l ih =>
      have hi := h ⟨i, hl i List.mem_cons_self⟩
      simp only at hi
      rw [List.foldl_cons, hi, List.foldl_nil, ih fun j hj => hl j (List.mem_cons_of_mem _ hj)]
  exact step _ fun i hi => List.mem_range.1 hi

/-- A chip restart before its reference lines are looked at: reset, but for its slot, its session memory and the REJECTED flags. -/
def Chip.restarted (c : Chip) (cause : Nat) : Chip :=
  { c.drainWrites.wholeReset cause with
    held := false, slotId := c.slotId, mem := c.drainWrites.mem
    bru := { cause := cause, phase := .otp, restart := true, rejA := c.bru.rejA, rejB := c.bru.rejB } }

theorem Chip.restart_within (c : Chip) (cause : Nat) : (c.restarted cause).Within [.clk, .hif] (c.restart cause) :=
  (Chip.within_setLine (c.restarted cause) .a c.clk.refA.live).trans (Chip.within_setLine _ .b c.clk.refB.live)

/-- What a chip restart leaves (R236 to R238). -/
theorem Chip.restart_leaves (c : Chip) (cause : Nat) : (c.restart cause).bru.phase = .otp ∧ (c.restart cause).bru.cause = cause ∧
    (c.restart cause).mem = c.drainWrites.mem ∧ (c.restart cause).flash = c.flash ∧ (c.restart cause).slotId = c.slotId := by
  have hb : (c.restart cause).bru = (c.restarted cause).bru := (c.restart_within cause).same .bru (by simp)
  have hm : (c.restart cause).mem = (c.restarted cause).mem := (c.restart_within cause).same .mem (by simp)
  have hf : (c.restart cause).flash = (c.restarted cause).flash := (c.restart_within cause).same .flash (by simp)
  obtain ⟨_, _, hs⟩ := (c.restart_within cause).same .power (by simp)
  have hd : c.drainWrites.flash = c.flash := Chip.Within.same (ps := [.mem]) (by simp) .flash (by simp)
  rw [hb, hm, hf, hs]
  simp only [Chip.restarted, Chip.wholeReset, hd, and_self]

theorem exec_powerOnReset {k : ChipId} {s : State} (h : (s.chip k).powered = true) :
    ∃ t, exec (.powerOnReset k) s = .next t ∧ (t.chip k).held = true ∧ (t.chip k).bru.cause = 0 ∧
      (t.chip k).flash = (s.chip k).flash ∧ (t.chip k).mem = [] := by
  refine ⟨_, by rw [exec, execPowerOnReset, h]; exact occurs_true _ _, ?_⟩
  rw [State.chip_onTray, State.chip_onChip_self]
  exact ⟨rfl, rfl, rfl, rfl⟩

theorem exec_modRstAssert {k : ChipId} {s : State} (h : (s.chip k).powered = true) :
    ∃ t, exec (.modRstAssert k) s = .next t ∧ (t.chip k).held = true ∧ (t.chip k).bru.cause = 1 ∧
      (t.tray.slot k).modRst = true ∧ (t.tray.slot k).bypass = true ∧ (t.chip k).flash = (s.chip k).flash := by
  refine ⟨_, by rw [exec, execModRstAssert, h]; exact occurs_true _ _, ?_⟩
  rw [State.chip_onChip_self]
  refine ⟨rfl, rfl, by simp, by simp [TraySlot.isolate], rfl⟩

theorem exec_startBegin {k : ChipId} {s : State} (hp : (s.chip k).powered = true) (hh : (s.chip k).held = true)
    (hseq : (s.tray.slot k).seq = .on) :
    ∃ t, exec (.startBegin k) s = .next t ∧ (t.chip k).held = false ∧ (t.chip k).slotId = k.val ∧
      (t.chip k).bru.phase = .otp ∧ (t.tray.slot k).modRst = false := by
  refine ⟨_, by rw [exec, execStartBegin, hp, hh, hseq]; exact occurs_true _ _, ?_⟩
  rw [State.chip_setChip_self]
  refine ⟨?_, ?_, ?_, by simp⟩
  · obtain ⟨_, hheld, _⟩ := ((Chip.within_setLine _ .a _).trans (Chip.within_setLine _ .b _)).same .power (by simp)
    exact hheld
  · obtain ⟨_, _, hid⟩ := ((Chip.within_setLine _ .a _).trans (Chip.within_setLine _ .b _)).same .power (by simp)
    exact hid
  · exact congrArg Bru.phase (((Chip.within_setLine _ .a _).trans (Chip.within_setLine _ .b _)).same .bru (by simp))

theorem exec_perstRelease {k : ChipId} {s : State} (hp : (s.chip k).powered = true) (hm : (s.tray.slot k).modRst = false)
    (hseq : (s.tray.slot k).seq = .on) :
    ∃ t, exec (.perstRelease k) s = .next t ∧ (t.tray.slot k).perst = false ∧ (t.chip k).hif.perst = false := by
  refine ⟨_, by rw [exec, execPerstRelease, hp, hm, hseq]; exact occurs_true _ _, ?_⟩
  rw [State.chip_onChip_self]
  exact ⟨by simp, rfl⟩

theorem exec_restart {k : ChipId} {s : State} (i2c : Bool) (hr : (s.chip k).running = true) (hs : (s.chip k).bru.stuck = false) :
    exec (.restart k i2c) s = .next (s.setChip k ((s.chip k).restart (if i2c then 2 else 3))) := by
  rw [exec, execRestart, hr, hs]
  exact occurs_true _ _

/-- Settles O6. -/
theorem resetsTakeEffect : Obligations.ResetsTakeEffect := by
  intro k s
  refine ⟨fun h => ⟨exec_powerOnReset h, exec_modRstAssert h, exec_startBegin h, exec_perstRelease h⟩,
    fun i2c hr hs => ⟨_, exec_restart i2c hr hs, ?_⟩⟩
  rw [State.chip_setChip_self]
  obtain ⟨hphase, hcause, hmem, hflash, hslot⟩ := (s.chip k).restart_leaves (if i2c then 2 else 3)
  exact ⟨hphase, hcause, hmem, fun h => by rw [hmem, Chip.drainWrites_of_stores_empty fun i => h i], hflash, hslot⟩

/-! ## The phases of a start -/

/-- A failing start is in FAILED, and the fault that stops it is the log's newest entry. -/
theorem Chip.startFails_leaves (c : Chip) (nn inst : Nat) : (c.startFails nn inst).bru.phase = .failed ∧
    (c.startFails nn inst).hif.log.head? = some ⟨codeOf .bru nn, inst, c.time.epoch⟩ :=
  ⟨rfl, rfl⟩

/-- A start phase whose condition `b` holds takes its step. -/
theorem exec_startPhaseAdvance {k : ChipId} {s : State} {p : Phase} {d : Chip} (hr : (s.chip k).running = true)
    (hp : (s.chip k).bru.phase = p) (h : (match p with
      | .otp => d = if (s.chip k).otp.good then (s.chip k).applyRepair.enter .spine else (s.chip k).startFails 1 noInstance
      | .spine => ((s.chip k).xng.up && (s.chip k).xng.ended) = true ∧ d = (s.chip k).enter .image
      | .image => d = (s.chip k).selectImage
      | .ref => ((s.chip k).clk.refLocked && (s.chip k).clk.lockAged && (s.chip k).time.pos == 0) = true ∧
          d = (s.chip k).enterClocks
      | .clocks => (s.chip k).allLocked = true ∧ d = ((s.chip k).enter .memory).onStew (fun w => { w with evaluating := true })
      | .memory => d = (s.chip k).initMemory.enter .selftest
      | .selftest => (s.chip k).bru.selftested = true ∧ d = (s.chip k).enter .config
      | .config => False | .held => False | .ready => False | .recovery => False | .failed => False)) :
    exec (.startPhaseAdvance k) s = .next (s.setChip k d) := by
  rw [exec]
  unfold execStartPhaseAdvance
  extract_lets c put
  rw [show c.bru.phase = p from hp]
  cases p
  case otp => subst h; exact occurs_next _ _ _ _ |>.2 (by simp [c, hr])
  case spine => obtain ⟨hg, rfl⟩ := h; simp only [put, c, hr, hg]; rfl
  case image => subst h; simp only [put, c, hr]; rfl
  case ref => obtain ⟨hg, rfl⟩ := h; simp only [put, c, hr, hg]; rfl
  case clocks => obtain ⟨hg, rfl⟩ := h; simp only [put, c, hr, hg]; rfl
  case memory => subst h; simp only [put, c, hr]; rfl
  case selftest => obtain ⟨hg, rfl⟩ := h; simp only [put, c, hr, hg]; rfl
  all_goals exact h.elim

/-- With no slot to try the start ends in RECOVERY (R244). -/
theorem Chip.selectImage_of_slotOrder_nil {c : Chip} (h : c.slotOrder = []) :
    c.selectImage.bru.phase = .recovery ∧
      c.selectImage.hif.log.head? = some ⟨codeOf .bru 3, noInstance, c.time.epoch⟩ := by
  have hsel : c.selectImage = ((((c.readSlot 0).readSlot 1).enter .recovery).fault .bru 3 noInstance).cause 18 := by
    rw [Chip.selectImage, h]
    rfl
  rw [hsel]
  exact ⟨rfl, rfl⟩

theorem Chip.enterClocks_leaves (c : Chip) : c.enterClocks.bru.phase = .clocks ∧ c.enterClocks.clk.mNow = c.bru.image.a.step := by
  refine ⟨rfl, ?_⟩
  let c1 := (c.onClk (fun q => { q with mNow := c.bru.image.a.step, leaving := false, guardAge := 0 })).setIslands c.bru.image.a.step
  have hclk : (c1.forRegions allRegions (fun c r => c.onGen r (fun g =>
      { g with guardFs := guardFor c1.clk.mNow, guardCals := g.guardCals + 1 }))).clk = c1.clk :=
    Chip.Within.same (ps := [.gens]) (by simp) .clk (by simp)
  exact congrArg Clock.mNow hclk

theorem exec_channelTrainingFail {k : ChipId} {s : State} (h : ChanId) (hr : (s.chip k).running = true)
    (hp : (s.chip k).bru.phase = .memory) (ht : ((s.chip k).chan h).trained = false) (hf : ((s.chip k).chan h).trainFails = 2) :
    ∃ t, exec (.channelTrainingFail k h) s = .next t ∧ (t.chip k).bru.phase = .failed ∧
      (t.chip k).hif.log.head? = some ⟨codeOf .bru 7, h.val, (s.chip k).time.epoch⟩ := by
  refine ⟨_, by rw [exec, execChannelTrainingFail, hr, hp, ht, hf]; exact occurs_true _ _, ?_⟩
  rw [State.chip_setChip_self]
  exact ⟨rfl, rfl⟩

theorem exec_selftestComplete_nil {k : ChipId} {s : State} (hr : (s.chip k).running = true)
    (hp : (s.chip k).bru.phase = .selftest) (hs : (s.chip k).bru.selftested = false) :
    ∃ t, exec (.selftestComplete k []) s = .next t ∧ (t.chip k).bru.selftested = true := by
  refine ⟨_, by rw [exec, execSelftestComplete, hr, hp, hs]; exact occurs_true _ _, ?_⟩
  rw [State.chip_setChip_self]
  rfl

theorem exec_startTimeout {k : ChipId} {s : State} (hr : (s.chip k).running = true) (hready : (s.chip k).bru.ready = false)
    (hl : (s.chip k).bru.late = false) (he : 2000000 ≤ (s.chip k).bru.epochs) :
    ∃ t, exec (.startTimeout k) s = .next t ∧ (t.chip k).bru.late = true ∧
      (t.chip k).hif.log.head? = some ⟨codeOf .bru 6, noInstance, (s.chip k).time.epoch⟩ := by
  refine ⟨_, by rw [exec, execStartTimeout, hr, hready, hl, decide_eq_true he]; exact occurs_true _ _, ?_⟩
  rw [State.chip_setChip_self]
  exact ⟨rfl, rfl⟩

/-- What READY makes of region `r` (R254): `leaving` holds of a member of a gang that is being dissolved. -/
def readyRegion (leaving : Nat → Bool) (r : Nat) (x : Region) : Region :=
  { x with
    awaitTiles := [], awaitModel := false, awaitLock := leaving r
    status := if x.status = .out && x.cfg.partition < 16 &&
        (List.range 15).all (fun p => !bit x.posFail (if x.cfg.spareFor = p then 15 else p)) && !x.retireLater && !leaving r
      then .serving else x.status }

/-- A member of a gang that is being dissolved. -/
def Chip.dissolving (c : Chip) (r : Nat) : Bool := c.dissolves.any (fun d => d.members.contains r)

/-- The chip at READY before its interrupt (R254). -/
def Chip.readied (c : Chip) : Chip :=
  (c.onBru (fun b => { b with phase := .ready, ready := true, readyEpoch := c.time.epoch })).forRegions allRegions
    (fun d r => d.onRegion r (readyRegion c.dissolving r))

theorem Chip.region_readied (c : Chip) (r : RegionId) : (c.readied).region r = readyRegion c.dissolving r (c.region r) :=
  (Chip.region_forRegions (g := readyRegion c.dissolving) (fun c r => by simp [Chip.onRegion])
    (fun c r j hj => by simp [Chip.onRegion, hj]) allRegions_nodup _ _).trans (if_pos (mem_allRegions r))

theorem Chip.bru_readied (c : Chip) : c.readied.bru = { c.bru with phase := .ready, ready := true, readyEpoch := c.time.epoch } := by
  have h : c.readied.bru = (c.onBru (fun b => { b with phase := .ready, ready := true, readyEpoch := c.time.epoch })).bru :=
    Chip.Within.same (ps := [.regions]) (by simp [Chip.readied]) .bru (by simp)
  exact h

theorem exec_readyPoint {k : ChipId} {s : State} (hr : (s.chip k).running = true) (hm : (s.chip k).mayBeReady = true) :
    exec (.readyPoint k) s = .next (s.setChip k ((s.chip k).readied.cause 18)) := by
  rw [exec, execReadyPoint, hr, hm]
  exact occurs_true _ _

/-- A region that is OUT, whole and in a partition serves from READY on. -/
theorem readyRegion_status {c : Chip} {r : RegionId} (hout : (c.region r).status = .out) (hpart : (c.region r).cfg.partition < 16)
    (hwork : c.tilesWork r = true) (hret : (c.region r).retireLater = false) (hdis : ∀ d ∈ c.dissolves, r.val ∉ d.members) :
    (readyRegion c.dissolving r (c.region r)).status = .serving := by
  have hleave : c.dissolving r = false := by simpa [Chip.dissolving] using hdis
  simp only [Chip.tilesWork, Chip.positionOf] at hwork
  simp only [readyRegion, hout, hpart, hret, hleave, hwork, decide_true, Bool.not_false, Bool.and_self, if_true]

/-- Settles O7. -/
theorem startPhasesAdvance : Obligations.StartPhasesAdvance := by
  intro k s hr
  refine ⟨fun hp => ⟨_, exec_startPhaseAdvance hr hp rfl, ?_⟩,
    fun hp hu he => ⟨_, exec_startPhaseAdvance hr hp ⟨by rw [hu, he]; rfl, rfl⟩, ?_⟩,
    fun hp ho => ⟨_, exec_startPhaseAdvance hr hp rfl, ?_⟩,
    fun hp hl ha h0 => ⟨_, exec_startPhaseAdvance hr hp ⟨by rw [hl, ha, h0]; rfl, rfl⟩, ?_⟩,
    fun hp hl => ⟨_, exec_startPhaseAdvance hr hp ⟨hl, rfl⟩, ?_⟩,
    fun hp => ⟨_, exec_startPhaseAdvance hr hp rfl, ?_⟩, fun hp ht => ⟨_, exec_startPhaseAdvance hr hp ⟨ht, rfl⟩, ?_⟩,
    fun h hp ht hf => exec_channelTrainingFail h hr hp ht hf, fun hp hs => exec_selftestComplete_nil hr hp hs,
    fun hm => ⟨_, exec_readyPoint hr hm, ?_⟩, fun hready hl he => exec_startTimeout hr hready hl he⟩
  all_goals rw [State.chip_setChip_self]
  · split <;> rfl
  · rfl
  · exact Chip.selectImage_of_slotOrder_nil ho
  · exact Chip.enterClocks_leaves _
  · rfl
  · exact ⟨rfl, rfl⟩
  · rfl
  · rw [Chip.cause, Chip.onHif_bru, Chip.bru_readied]
    refine ⟨rfl, rfl, fun r hout hpart hwork hret hdis => ?_⟩
    rw [Chip.region_onHif_frame, Chip.region_readied]
    exact readyRegion_status hout hpart hwork hret hdis

/-! ## The epoch counter -/

/-- A boundary that no load waits for (R93, R94). -/
theorem TimeBase.boundary_leaves {t : TimeBase} (counts : Bool) (h : t.loadDue = none) :
    (t.boundary counts).1.epoch = t.epoch + 1 ∧ (t.boundary counts).1.pos = 0 ∧ (t.boundary counts).1.hold = 0 ∧
      (t.boundary counts).1.tick = t.tick + (t.len - t.pos) ∧ (t.boundary counts).2 = 0 := by
  unfold TimeBase.boundary
  extract_lets tick e isSecond e' t1 t2
  have he : e' = e := by simp [e', h]
  have h1 : t1.epoch = e' ∧ t1.pos = 0 ∧ t1.hold = 0 ∧ t1.tick = tick := by
    simp only [t1]
    split <;> exact ⟨rfl, rfl, rfl, rfl⟩
  have h2 : t2.epoch = t1.epoch ∧ t2.pos = t1.pos ∧ t2.hold = t1.hold ∧ t2.tick = t1.tick := by
    simp only [t2]
    split <;> exact ⟨rfl, rfl, rfl, rfl⟩
  obtain ⟨e1, p1, d1, k1⟩ := h1
  obtain ⟨e2, p2, d2, k2⟩ := h2
  exact ⟨by rw [e2, e1, he], by rw [p2, p1], by rw [d2, d1], by rw [k2, k1], by rw [he]; exact Nat.sub_self _⟩

/-- The edge that aligns a counter (R102, R144): the next second begins. -/
theorem TimeBase.edge_of_not_aligned {t : TimeBase} (pos : Nat) (hh : t.hold = 0) (ha : t.aligned = false) (harm : t.arm = false) :
    (t.edge pos).time.aligned = true ∧ (t.edge pos).time.epoch = (t.epoch / 1000000 + 1) * 1000000 ∧
      (t.edge pos).stepped = true ∧ (t.edge pos).moved = 0 ∧ (t.edge pos).realigned = true ∧ (t.edge pos).refused = false := by
  simp [TimeBase.edge, hh, ha, TimeBase.tryLoad, TimeBase.accept, TimeBase.stepTo, harm, second]

/-- An edge within 100 ticks of its second boundary is accepted and moves nothing (R100, R101). -/
theorem TimeBase.edge_of_near {t : TimeBase} {pos : Nat} (hh : t.hold = 0) (ha : t.aligned = true) (harm : t.arm = false)
    (hd : ({ t with tick := t.tick + (pos - t.pos), pos := pos } : TimeBase).offsetNow.1.natAbs ≤ 100) :
    (t.edge pos).time.epoch = t.epoch ∧ (t.edge pos).time.pos = pos ∧
      (t.edge pos).time.offset = ({ t with tick := t.tick + (pos - t.pos), pos := pos } : TimeBase).offsetNow.1 ∧
      (t.edge pos).stepped = false ∧ (t.edge pos).moved = 0 := by
  unfold TimeBase.edge
  rw [if_neg (by omega)]
  extract_lets t0
  rw [if_neg (by simp [t0, ha])]
  obtain ⟨d, sn, hos⟩ : ∃ d sn, t0.offsetNow = (d, sn) := ⟨_, _, rfl⟩
  have hd0 : t0.offsetNow.1.natAbs ≤ 100 := hd
  have hd' : d.natAbs ≤ 100 := by rwa [hos] at hd0
  have hlo : -100 ≤ d := by omega
  have hhi : d ≤ 100 := by omega
  have hclamp : max (-32767) (min 32767 d) = d := by omega
  simp only [hos, hlo, hhi, decide_true, Bool.and_self, if_true, hclamp, TimeBase.tryLoad, TimeBase.accept,
    show t0.arm = false from harm, Bool.not_false]
  exact ⟨rfl, rfl, (congrArg Prod.fst hos).symm, trivial, trivial⟩

/-! ## The counter of a TMC -/

theorem Tray.tmc_older (t : Tray) (ep : Nat) (x : Side) : (t.older ep).tmc x = t.tmc x := by
  unfold Tray.older
  extract_lets t1
  split <;> cases x <;> rfl

theorem Tray.time_epochBoundary (t : Tray) (x : Side) :
    ((t.epochBoundary x).tmc x).time = ((t.tmc x).time.boundary t.timeSource.isSome).1 := by
  unfold Tray.epochBoundary
  extract_lets t1 t2
  have h1 : (t1.tmc x).time = ((t.tmc x).time.boundary t.timeSource.isSome).1 := by simp [t1, Tray.onTmc]
  have h2 : t2.tmc x = t1.tmc x := by
    simp only [t2]
    split
    · rfl
    · cases x <;> rfl
  split
  · rw [Tray.tmc_older, h2, h1]
  · rw [h2, h1]

theorem exec_epochBoundary_tmc {x : Side} {s : State} (cycles : List Nat) (hr : s.tray.tmcRuns x = true)
    (hh : (s.tray.tmc x).time.hold = 0) :
    exec (.epochBoundary (.tmc x) cycles) s = .next { s with tray := s.tray.epochBoundary x } := by
  rw [exec, execEpochBoundary, boundaryAt, hr, hh]
  exact occurs_true _ _

theorem exec_ppsHoldEnd_tmc {x : Side} {s : State} (cycles : List Nat) (hr : s.tray.tmcRuns x = true)
    (hh : 0 < (s.tray.tmc x).time.hold) :
    exec (.ppsHoldEnd (.tmc x) cycles) s = .next { s with tray := s.tray.epochBoundary x } := by
  rw [exec, execPpsHoldEnd, boundaryAt, hr, decide_eq_true hh]
  exact occurs_true _ _

theorem exec_ppsEdge_tmc {x : Side} {s : State} {line : Side} {pos : Nat} (cycles : List Nat) (hr : s.tray.tmcRuns x = true)
    (hline : s.tray.timeSource = some line) (hh : (s.tray.tmc x).time.hold = 0) (hlo : (s.tray.tmc x).time.pos ≤ pos)
    (hhi : pos < (s.tray.tmc x).time.len) :
    ∃ t, exec (.ppsEdge (.tmc x) line pos cycles) s = .next t ∧ (t.tray.tmc x).time = ((s.tray.tmc x).time.edge pos).time := by
  refine ⟨_, by
    rw [exec]
    unfold execPpsEdge
    simp only [hr, hline, hh, hlo, hhi, decide_true, beq_self_eq_true, Bool.and_self]
    exact occurs_true _ _, ?_⟩
  simp [Tray.onTmc]

theorem exec_ppsLost_tmc {x : Side} {s : State} (hr : s.tray.tmcRuns x = true) (hm : 3 ≤ (s.tray.tmc x).time.missing)
    (hl : (s.tray.tmc x).time.lost = false) :
    ∃ t, exec (.ppsLost (.tmc x)) s = .next t ∧ (t.tray.tmc x).time.lost = true := by
  have hp : (s.tray.tmc x).present = true := (Bool.and_eq_true _ _ ▸ hr).2
  refine ⟨_, by rw [exec, execPpsLost, hp, hl, decide_eq_true hm]; exact occurs_true _ _, ?_⟩
  simp [Tray.onTmc]

/-! ## The counter of a chip -/

/-- A boundary leaves the chip with the counter that it was given. -/
theorem Chip.time_passBoundary (c : Chip) (t : TimeBase) (len shift : Nat) (cycles : List Nat) :
    (c.passBoundary t len shift cycles).time = t := by
  unfold Chip.passBoundary
  extract_lets c1 c2 c3 c4
  exact Chip.Within.same (b := c2) (ps := [.tiles, .links, .chans, .stew, .img, .seq, .clk, .hif]) (by simp [c4, c3])
    .time (by simp)

theorem exec_epochBoundary_chip {k : ChipId} {s : State} (cycles : List Nat) (hr : (s.chip k).running = true)
    (hh : (s.chip k).time.hold = 0) :
    exec (.epochBoundary (.chip k) cycles) s = .next (s.setChip k ((s.chip k).epochBoundary cycles)) := by
  rw [exec, execEpochBoundary, boundaryAt, hr, hh]
  exact occurs_true _ _

theorem exec_ppsHoldEnd_chip {k : ChipId} {s : State} (cycles : List Nat) (hr : (s.chip k).running = true)
    (hh : 0 < (s.chip k).time.hold) :
    exec (.ppsHoldEnd (.chip k) cycles) s = .next (s.setChip k ((s.chip k).epochBoundary cycles)) := by
  rw [exec, execPpsHoldEnd, boundaryAt, hr, decide_eq_true hh]
  exact occurs_true _ _

/-- A boundary on a chip that no load waits for. -/
theorem Chip.time_epochBoundary {c : Chip} (cycles : List Nat) (h : c.time.loadDue = none) :
    (c.epochBoundary cycles).time.epoch = c.time.epoch + 1 ∧ (c.epochBoundary cycles).time.pos = 0 ∧
      (c.epochBoundary cycles).time.hold = 0 ∧ (c.epochBoundary cycles).time.tick = c.time.tick + (c.time.len - c.time.pos) := by
  obtain ⟨he, hp, hh, ht, _⟩ := TimeBase.boundary_leaves (c.clk.refSel != 3 && !c.clk.holdover) h
  rw [Chip.epochBoundary]
  rw [Chip.time_passBoundary]
  exact ⟨he, hp, hh, ht⟩

theorem exec_ppsEdge_chip {k : ChipId} {s : State} {line : Side} {pos : Nat} (cycles : List Nat) (hr : (s.chip k).running = true)
    (hsel : (s.chip k).clk.selects line = true) (hlive : ((s.chip k).clk.refOf line).live = true)
    (hho : (s.chip k).clk.holdover = false) (hh : (s.chip k).time.hold = 0) (hlo : (s.chip k).time.pos ≤ pos)
    (hhi : pos < (s.chip k).time.len) :
    exec (.ppsEdge (.chip k) line pos cycles) s = .next (s.setChip k ((s.chip k).ppsEdge pos cycles)) := by
  rw [exec]
  unfold execPpsEdge
  simp only [hr, hsel, hlive, hho, hh, hlo, hhi, decide_true, beq_self_eq_true, Bool.and_self, Bool.not_false]
  exact occurs_true _ _

theorem Chip.time_ppsEdge (c : Chip) (pos : Nat) (cycles : List Nat) : (c.ppsEdge pos cycles).time = (c.time.edge pos).time := by
  unfold Chip.ppsEdge
  extract_lets e fed c1
  have h1 : c1.time = e.time := by
    simp only [c1]
    split
    · exact Chip.time_passBoundary _ _ _ _ _
    · rfl
  clear_value c1
  rw [← h1]
  exact Chip.Within.same (b := c1) (ps := [.stew, .img, .seq, .clk, .hif]) (by simp) .time (by simp)

/-- The log keeps its entries whether or not TIME_VALID has changed. -/
theorem Chip.log_notingTime (c d : Chip) : (c.notingTime d).hif.log = d.hif.log := by
  unfold Chip.notingTime
  split <;> rfl

theorem Chip.log_ppsEdge_realigned {c : Chip} {pos : Nat} (cycles : List Nat) (hm : (c.time.edge pos).moved = 0)
    (ha : (c.time.edge pos).realigned = true) (hr : (c.time.edge pos).refused = false) :
    (c.ppsEdge pos cycles).hif.log.head? = some ⟨codeOf .clk 6, noInstance, (c.ppsEdge pos cycles).time.epoch⟩ := by
  rw [Chip.time_ppsEdge]
  unfold Chip.ppsEdge
  extract_lets e fed c1
  have h1 : c1.time = e.time := by
    simp only [c1]
    split
    · exact Chip.time_passBoundary _ _ _ _ _
    · rfl
  rw [Chip.log_notingTime, show e.moved = 0 from hm, show e.realigned = true from ha, show e.refused = false from hr, ← h1]
  rfl

theorem exec_ppsLost_chip {k : ChipId} {s : State} (hr : (s.chip k).running = true) (hm : 3 ≤ (s.chip k).time.missing)
    (hl : (s.chip k).time.lost = false) :
    ∃ t, exec (.ppsLost (.chip k)) s = .next t ∧ (t.chip k).time.lost = true ∧
      (t.chip k).hif.log.head? = some ⟨codeOf .clk 5, noInstance, (s.chip k).time.epoch⟩ := by
  refine ⟨_, by rw [exec, execPpsLost, hr, hl, decide_eq_true hm]; exact occurs_true _ _, ?_⟩
  rw [State.chip_onChip_self]
  exact ⟨rfl, rfl⟩

theorem exec_epochLoadArm {k : ChipId} {s : State} {v : Word} (hr : (s.chip k).running = true) (hv : v.toNat % 2 = 1) :
    exec (.epochLoadArm k v) s = .next (s.setChip k
      (({ s.chip k with time := (s.chip k).time.armLoad.1 } : Chip).faultIf (s.chip k).time.armLoad.2 .clk 12 noInstance)) := by
  rw [exec, execEpochLoadArm, hr, hv]
  exact occurs_true _ _

/-- A load is armed unless TIME_VALID is set or the value is not a second's (R96, R98). -/
theorem TimeBase.armLoad_leaves (t : TimeBase) :
    t.armLoad.1.arm = (!t.valid && decide (t.load % 1000000 = 0)) ∧ t.armLoad.1.epoch = t.epoch ∧
      (t.valid = true ∨ t.load % 1000000 ≠ 0 → t.armLoad.2 = true) := by
  by_cases hv : t.valid = true <;> by_cases hl : t.load % 1000000 = 0 <;> simp [TimeBase.armLoad, second, hv, hl]

/-! ## The frame tick -/

theorem Chip.sessions_cacheSession (c : Chip) (i : Nat) : (c.cacheSession i).seq.sessions = c.seq.sessions := by
  unfold Chip.cacheSession
  split_ifs <;> rfl

/-- An ARMED session is READY after the tick, its deadline that of its class (R454). -/
theorem Chip.session_frameTick {c : Chip} {i : Nat} {x : Session} (hx : Bank.look c.seq.sessions.cells i = some x)
    (ha : x.state = .armed) :
    (c.frameTick.session i).state = .ready ∧ (c.frameTick.session i).deadline = c.time.epoch + c.classDeadline x.cls := by
  unfold Chip.frameTick
  extract_lets c1 c2
  have hs : c1.seq.sessions = c.seq.sessions :=
    (foldl_keeps (fun c : Chip => c.seq.sessions) Chip.sessions_cacheSession _ _).trans rfl
  have ht : c1.time = c.time :=
    Chip.Within.same (ps := [.regions, .tiles, .chans, .seq, .stew, .img, .mem]) (by simp [c1]) .time (by simp)
  have hi : c1.img = c.newFrame.img := Chip.Within.same (ps := [.seq, .mem]) (by simp [c1]) .img (by simp)
  have hc2 : c2.session i = c1.tickSession x := by
    simp only [c2, Chip.session, Chip.onSeq, Bank.get, Bank.look_mapCells, hs, hx, Option.map_some]
  have hend : ((if c2.stew.evalDue then c2.onStew (fun w => { w with frameEnd := true }) else c2.closeFrame).session i) =
      c2.session i := by
    split
    · rfl
    · rw [Chip.session, Chip.closeFrame_seq, Chip.session]
  rw [hend, hc2, Chip.tickSession, ha, Chip.classDeadline, ht, hi]
  exact ⟨rfl, rfl⟩

theorem exec_frameTick {k : ChipId} {s : State} (hr : (s.chip k).running = true) (hd : (s.chip k).tickDue = true) :
    exec (.frameTick k) s = .next (s.setChip k { (s.chip k).frameTick with tickDue := false }) := by
  rw [exec, execFrameTick, hr, hd]
  exact occurs_true _ _

/-- O8's clauses on a TMC. -/
theorem tmcCounterTakesEffect {x : Side} {s : State} (hr : s.tray.tmcRuns x = true) :
    let m := s.tray.tmc x
    (∀ cycles, m.time.loadDue = none →
      (m.time.hold = 0 → ∃ t, exec (.epochBoundary (.tmc x) cycles) s = .next t ∧
        (t.tray.tmc x).time.epoch = m.time.epoch + 1 ∧ (t.tray.tmc x).time.pos = 0) ∧
      (0 < m.time.hold → ∃ t, exec (.ppsHoldEnd (.tmc x) cycles) s = .next t ∧
        (t.tray.tmc x).time.epoch = m.time.epoch + 1 ∧ (t.tray.tmc x).time.hold = 0)) ∧
    (∀ line pos cycles, s.tray.timeSource = some line → m.time.hold = 0 → m.time.pos ≤ pos → pos < m.time.len →
      m.time.aligned = false → m.time.arm = false →
      ∃ t, exec (.ppsEdge (.tmc x) line pos cycles) s = .next t ∧ (t.tray.tmc x).time.aligned = true ∧
        (t.tray.tmc x).time.epoch = (m.time.epoch / 1000000 + 1) * 1000000) ∧
    (3 ≤ m.time.missing → m.time.lost = false →
      ∃ t, exec (.ppsLost (.tmc x)) s = .next t ∧ (t.tray.tmc x).time.lost = true) := by
  intro m
  refine ⟨fun cycles hl => ⟨fun hh => ⟨_, exec_epochBoundary_tmc cycles hr hh, ?_⟩,
    fun hh => ⟨_, exec_ppsHoldEnd_tmc cycles hr hh, ?_⟩⟩, fun line pos cycles hline hh hlo hhi ha harm => ?_,
    fun hm hl => exec_ppsLost_tmc hr hm hl⟩
  · rw [Tray.time_epochBoundary]
    obtain ⟨he, hp, _⟩ := TimeBase.boundary_leaves s.tray.timeSource.isSome hl
    exact ⟨he, hp⟩
  · rw [Tray.time_epochBoundary]
    obtain ⟨he, _, hd, _⟩ := TimeBase.boundary_leaves s.tray.timeSource.isSome hl
    exact ⟨he, hd⟩
  · obtain ⟨t, ht, htime⟩ := exec_ppsEdge_tmc cycles hr hline hh hlo hhi
    obtain ⟨h1, h2, _⟩ := TimeBase.edge_of_not_aligned pos hh ha harm
    exact ⟨t, ht, by rw [htime]; exact h1, by rw [htime]; exact h2⟩

/-- Settles O8. -/
theorem epochCounterTakesEffect : Obligations.EpochCounterTakesEffect := by
  refine ⟨fun x s hr => tmcCounterTakesEffect hr, fun k s hr => ?_⟩
  refine ⟨fun cycles hh hl => ⟨_, exec_epochBoundary_chip cycles hr hh, ?_⟩,
    fun cycles hh hl => ⟨_, exec_ppsHoldEnd_chip cycles hr hh, ?_⟩,
    fun line pos cycles hsel hlive hho hh hlo hhi ha harm => ⟨_, exec_ppsEdge_chip cycles hr hsel hlive hho hh hlo hhi, ?_⟩,
    fun line pos cycles hsel hlive hho hh hlo hhi ha harm hd => ⟨_, exec_ppsEdge_chip cycles hr hsel hlive hho hh hlo hhi, ?_⟩,
    exec_ppsLost_chip hr, fun v hv => ⟨_, exec_epochLoadArm hr hv, ?_⟩, fun hd => ⟨_, exec_frameTick hr hd, ?_⟩⟩
  all_goals rw [State.chip_setChip_self]
  · obtain ⟨he, hp, _, ht⟩ := Chip.time_epochBoundary cycles hl
    exact ⟨he, hp, ht⟩
  · obtain ⟨he, _, hh', _⟩ := Chip.time_epochBoundary cycles hl
    exact ⟨he, hh'⟩
  · obtain ⟨h1, h2, h3, h4, h5, h6⟩ := TimeBase.edge_of_not_aligned pos hh ha harm
    refine ⟨?_, ?_, Chip.log_ppsEdge_realigned cycles h4 h5 h6⟩
    · rw [Chip.time_ppsEdge]; exact h1
    · rw [Chip.time_ppsEdge]; exact h2
  · obtain ⟨h1, h2, h3, _⟩ := TimeBase.edge_of_near hh ha harm hd
    rw [Chip.time_ppsEdge]
    exact ⟨h1, h2, h3⟩
  · obtain ⟨harm, hepoch, hrefused⟩ := (s.chip k).time.armLoad_leaves
    rw [Chip.faultIf_time]
    refine ⟨harm, fun h => ?_⟩
    rw [hrefused h, ← hepoch]
    rfl
  · exact ⟨rfl, fun i x hx ha => Chip.session_frameTick hx ha⟩

end Sys2Proof.Machine
end

section
/-! LEMMAS. The references, generators and frequency steps of a chip (chapter 03). Settles O9 to O11. -/

namespace Sys2Proof.Machine

-- In order, not in parallel: every elaborator thread that waits for another holds a stack within the check's memory limit.
set_option Elab.async false

/-! ## The references -/

theorem exec_refSwitch {k : ChipId} {s : State} (hr : (s.chip k).running = true) (hsel : (s.chip k).clk.refSel < 2)
    (hfh : (s.chip k).clk.freqHold = false) (hre : (s.chip k).clk.relock = false) (hho : (s.chip k).clk.holdover = false)
    (hle : (s.chip k).clk.leaving = false) (hq : (s.chip k).clk.qualified (1 - (s.chip k).clk.refSel) = true) :
    ∃ t, exec (.refSwitch k) s = .next t ∧ (t.chip k).clk.switchTo = some (1 - (s.chip k).clk.refSel) := by
  refine ⟨_, by
    rw [exec, execRefSwitch, hr, hfh, hre, hho, hle, hq, decide_eq_true hsel]
    exact occurs_true _ _, ?_⟩
  rw [State.chip_setChip_self]
  rfl

/-- The clock whose input `line` has failed, its hold begun where it was selected (R127, R129). -/
def Clock.inputLost (q : Clock) (line : Side) : Clock :=
  let q1 := q.setRef line { q.refOf line with valid := false, ok := false, clean := 0, windows := 0, badWindow := false }
  if !(q1.selects line) then q1
  else if q1.leaving then { q1 with refSel := 3, refLocked := false, relock := false, leaving := false }
  else q1.beginHold

theorem Clock.refOf_beginHold (q : Clock) (x : Side) : q.beginHold.refOf x = q.refOf x := by
  unfold Clock.beginHold
  split <;> cases x <;> rfl

theorem Clock.refOf_ite_beginHold (q : Clock) (b : Bool) (x : Side) :
    (if b = true then q.beginHold else q).refOf x = q.refOf x := by
  split
  · exact q.refOf_beginHold x
  · rfl

theorem Clock.freqHold_beginHold (q : Clock) : q.beginHold.freqHold = true := by
  unfold Clock.beginHold
  split
  next h => exact h
  next => rfl

theorem Clock.selects_setRef (q : Clock) (x y : Side) (m : RefMon) : (q.setRef x m).selects y = q.selects y := by
  cases x <;> rfl

theorem Clock.leaving_setRef (q : Clock) (x : Side) (m : RefMon) : (q.setRef x m).leaving = q.leaving := by
  cases x <;> rfl

theorem Clock.refOf_inputLost (q : Clock) (line : Side) :
    ((q.inputLost line).refOf line).ok = false ∧ ((q.inputLost line).refOf line).valid = false := by
  unfold Clock.inputLost
  extract_lets m q1
  have h : (q1.refOf line).ok = false ∧ (q1.refOf line).valid = false := by
    simp only [q1]
    rw [Clock.refOf_setRef, if_pos rfl]
    exact ⟨rfl, rfl⟩
  split_ifs
  · exact h
  · cases line <;> exact h
  · rw [Clock.refOf_beginHold]; exact h

theorem Clock.freqHold_inputLost {q : Clock} {line : Side} (hs : q.selects line = true) (hl : q.leaving = false) :
    (q.inputLost line).freqHold = true := by
  unfold Clock.inputLost
  simp only [Clock.selects_setRef, Clock.leaving_setRef, hs, hl]
  exact Clock.freqHold_beginHold _

theorem Clock.refOf_select (q : Clock) (n : Nat) (a b : Bool) (x : Side) : (q.select n a b).refOf x = q.refOf x := by
  cases x <;> rfl

/-- A lost input: the clock is that of `Clock.inputLost`, or has selected the other reference on its way out of holdover. -/
theorem Chip.clk_referenceInvalid (c : Chip) (line : Side) :
    (c.referenceInvalid line).clk = c.clk.inputLost line ∨
      (c.clk.leaving = true ∧ ∃ n, (c.referenceInvalid line).clk = (c.clk.inputLost line).select n false true) := by
  unfold Chip.referenceInvalid
  extract_lets m c1 c2 c3 again c4
  have h3 : c3.clk = c.clk.inputLost line := by simp [c3, c2, c1, m, Clock.inputLost]
  have h4 : c4.clk = c.clk.inputLost line ∨
      (c.clk.leaving = true ∧ ∃ n, c4.clk = (c.clk.inputLost line).select n false true) := by
    simp only [c4]
    split
    · split
      next n _ h => exact .inr ⟨(Bool.and_eq_true _ _ ▸ h).1, n, by rw [← h3]; rfl⟩
      next => exact .inl h3
    · exact .inl h3
  split
  · exact h4
  · exact h4

theorem exec_referenceInvalid {k : ChipId} {s : State} (line : Side) {ns : Nat} {duty : List Nat}
    (hr : (s.chip k).running = true) (h : 40 ≤ ns ∨ dutyFails duty = true) :
    ∃ t, exec (.referenceInvalid k line ns duty) s = .next t ∧ ((t.chip k).clk.refOf line).ok = false ∧
      ((t.chip k).clk.refOf line).valid = false ∧
      ((s.chip k).clk.selects line = true → (s.chip k).clk.leaving = false → (t.chip k).clk.freqHold = true) := by
  have hg : (decide (40 ≤ ns) || dutyFails duty) = true := by simpa using h
  refine ⟨_, by rw [exec, execReferenceInvalid, hr, hg]; exact occurs_true _ _, ?_⟩
  rw [State.chip_setChip_self]
  obtain ⟨hok, hvalid⟩ := (s.chip k).clk.refOf_inputLost line
  rcases (s.chip k).clk_referenceInvalid line with hc | ⟨hle, n, hc⟩
  · rw [hc]
    exact ⟨hok, hvalid, Clock.freqHold_inputLost⟩
  · rw [hc, Clock.refOf_select]
    exact ⟨hok, hvalid, fun _ h => absurd h (by simp [hle])⟩

theorem exec_freqWindowEnd_far {k : ChipId} {s : State} (line : Side) {ppm : Int} (hr : (s.chip k).running = true)
    (h : 100 < ppm.natAbs) :
    ∃ t, exec (.freqWindowEnd k line ppm) s = .next t ∧ ((t.chip k).clk.refOf line).ok = false := by
  refine ⟨_, by rw [exec, execFreqWindowEnd, hr, decide_eq_false (by omega)]; exact occurs_true _ _, ?_⟩
  rw [State.chip_setChip_self, Chip.onClk_clk_eq]
  simp only [Clock.refOf_ite_beginHold, Clock.refOf_setRef, if_true, Bool.false_eq_true, if_false]

theorem exec_freqWindowEnd_near {k : ChipId} {s : State} (line : Side) {ppm : Int} (hr : (s.chip k).running = true)
    (h : ppm.natAbs ≤ 100) :
    ∃ t, exec (.freqWindowEnd k line ppm) s = .next t ∧
      ((t.chip k).clk.refOf line).windows = ((s.chip k).clk.refOf line).windows + 1 ∧
      ((t.chip k).clk.refOf line).ok = ((s.chip k).clk.refOf line).ok := by
  refine ⟨_, by rw [exec, execFreqWindowEnd, hr, decide_eq_true h]; exact occurs_true _ _, ?_⟩
  rw [State.chip_setChip_self, Chip.onClk_clk_eq]
  simp only [Clock.refOf_ite_beginHold, Clock.refOf_setRef, if_true, and_self]

theorem exec_referenceQualified {k : ChipId} {s : State} {line : Side} (hr : (s.chip k).running = true)
    (hlive : ((s.chip k).clk.refOf line).live = true) (hok : ((s.chip k).clk.refOf line).ok = false)
    (hc : 10000 ≤ ((s.chip k).clk.refOf line).clean) (hw : 1 ≤ ((s.chip k).clk.refOf line).windows)
    (hb : ((s.chip k).clk.refOf line).badWindow = false) :
    ∃ t, exec (.referenceQualified k line) s = .next t ∧ ((t.chip k).clk.refOf line).ok = true := by
  have hg : ((s.chip k).running && (((s.chip k).clk.refOf line).live && !((s.chip k).clk.refOf line).ok &&
      decide (10000 ≤ ((s.chip k).clk.refOf line).clean) && decide (1 ≤ ((s.chip k).clk.refOf line).windows) &&
      !((s.chip k).clk.refOf line).badWindow)) = true := by
    simp [hr, hlive, hok, hc, hw, hb]
  refine ⟨_, by rw [exec]; unfold execReferenceQualified; extract_lets; rw [hg]; exact occurs_true _ _, ?_⟩
  rw [State.chip_setChip_self]
  have h1 : (((s.chip k).clk.setRef line { (s.chip k).clk.refOf line with valid := true, ok := true }).refOf line).ok = true := by
    rw [Clock.refOf_setRef, if_pos rfl]
  split
  · split
    · exact (congrArg RefMon.ok (Clock.refOf_select _ _ _ _ _)).trans h1
    · exact h1
  · exact h1

/-- The regions that wait for their clock keep to the regions. -/
theorem Chip.within_serveWaiting (c : Chip) : c.Within [.regions] c.serveWaiting := by simp

theorem Chip.gens_serveEach (c : Chip) (l : List Nat) : (c.forRegions l (fun c x => c.serveIfReady x)).gens = c.gens :=
  Chip.Within.same (ps := [.regions]) (by simp) .gens (by simp)

theorem Chip.gen_of_gens {c d : Chip} (h : d.gens = c.gens) (r : Nat) : d.gen r = c.gen r := by rw [Chip.gen, h]; rfl

/-- Holdover (R131). -/
theorem Chip.enterHoldover_leaves (c : Chip) : c.enterHoldover.clk.holdover = true ∧ c.enterHoldover.clk.refSel = 3 ∧
    c.enterHoldover.clk.freqHold = false ∧
    c.enterHoldover.hif.log.head? = some ⟨codeOf .clk 3, noInstance, c.time.epoch⟩ ∧
    ∀ r, (c.gen r).state = .locked → (c.enterHoldover.gen r).state = .frozen := by
  refine ⟨rfl, rfl, rfl, rfl, fun r h => ?_⟩
  have hg : c.enterHoldover.gen r = (c.mapGens (fun _ g => g.freeze)).gen r := rfl
  rw [hg, Chip.gen_mapGens _ (by rw [h]; nofun), Gen.freeze, h]

theorem exec_freqHoldEnd {k : ChipId} {s : State} (hr : (s.chip k).running = true) (hf : (s.chip k).clk.freqHold = true)
    (he : 100 ≤ (s.chip k).clk.holdEpochs) (hp : (s.chip k).time.pos = 0) :
    exec (.freqHoldEnd k) s = .next (s.setChip k
      (if (s.chip k).clk.qualified (1 - (s.chip k).clk.refSel)
        then ((s.chip k).onClk (fun q => q.select (1 - (s.chip k).clk.refSel) false false)).cause 19
        else (s.chip k).enterHoldover.serveWaiting)) := by
  rw [exec, execFreqHoldEnd, hr, hf, decide_eq_true he, hp]
  exact occurs_true _ _

theorem exec_refPllLocked {k : ChipId} {s : State} (hr : (s.chip k).running = true) (hre : (s.chip k).clk.relock = true)
    (hf : (s.chip k).clk.freqHold = false) :
    ∃ t, exec (.refPllLocked k) s = .next t ∧ (t.chip k).clk.refLocked = true ∧ (t.chip k).clk.relock = false := by
  refine ⟨_, by rw [exec, execRefPllLocked, hr, hre, hf]; exact occurs_true _ _, ?_⟩
  rw [State.chip_setChip_self]
  exact ⟨rfl, rfl⟩

theorem exec_holdoverExit {k : ChipId} {s : State} (hr : (s.chip k).running = true) (hho : (s.chip k).clk.holdover = true)
    (hlk : (s.chip k).clk.refLocked = true) (hle : (s.chip k).clk.leaving = true) (ha : (s.chip k).clk.lockAged = true)
    (hp : (s.chip k).time.pos = 0) :
    ∃ t, exec (.holdoverExit k) s = .next t ∧ (t.chip k).clk.holdover = false ∧
      (t.chip k).hif.log.head? = some ⟨codeOf .clk 4, noInstance, (s.chip k).time.epoch⟩ ∧
      ∀ r : RegionId, ((s.chip k).gen r).state = .frozen → ((t.chip k).gen r).state = .locking := by
  refine ⟨_, by rw [exec, execHoldoverExit, hr, hho, hlk, hle, ha, hp]; exact occurs_true _ _, ?_⟩
  rw [State.chip_setChip_self]
  refine ⟨rfl, rfl, fun r h => ?_⟩
  change (((s.chip k).mapGens (fun _ g => g.thaw)).gen r).state = _
  rw [Chip.gen_mapGens _ (by rw [h]; nofun), Gen.thaw, h]
  rfl

theorem exec_holdoverTimeout {k : ChipId} {s : State} (hr : (s.chip k).running = true) (hho : (s.chip k).clk.holdover = true)
    (hl : (s.chip k).clk.holdLong = false) (ht : 1000000000000 < (s.chip k).time.tick - (s.chip k).clk.holdTick) :
    ∃ t, exec (.holdoverTimeout k) s = .next t ∧ (t.chip k).time.valid = false ∧
      (t.chip k).hif.log.head? = some ⟨codeOf .clk 14, noInstance, (s.chip k).time.epoch⟩ := by
  refine ⟨_, by rw [exec, execHoldoverTimeout, hr, hho, hl, decide_eq_true ht]; exact occurs_true _ _, ?_⟩
  rw [State.chip_setChip_self]
  split <;> exact ⟨rfl, rfl⟩

theorem exec_noReferenceTimeout {k : ChipId} {s : State} (hr : (s.chip k).running = true) (hs : (s.chip k).seeking = true)
    (he : 2000000 ≤ (s.chip k).clk.noRefEpochs) :
    ∃ t, exec (.noReferenceTimeout k) s = .next t ∧ (t.chip k).clk.noRefEpochs = 0 ∧
      (t.chip k).hif.log.head? = some ⟨codeOf .clk 13, noInstance, (s.chip k).time.epoch⟩ := by
  refine ⟨_, by rw [exec, execNoReferenceTimeout, hr, hs, decide_eq_true he]; exact occurs_true _ _, ?_⟩
  rw [State.chip_setChip_self]
  exact ⟨rfl, rfl⟩

/-- Settles O9. -/
theorem referenceEventsTakeEffect : Obligations.ReferenceEventsTakeEffect := by
  intro k s hr
  refine ⟨exec_refSwitch hr, fun line ns duty h => exec_referenceInvalid line hr h,
    fun line ppm h => exec_freqWindowEnd_far line hr h, fun line ppm h => exec_freqWindowEnd_near line hr h,
    fun line hlive hok hc hw hb => exec_referenceQualified hr hlive hok hc hw hb,
    fun hf he hp => ⟨_, exec_freqHoldEnd hr hf he hp, ?_⟩, exec_refPllLocked hr, exec_holdoverExit hr, exec_holdoverTimeout hr,
    exec_noReferenceTimeout hr⟩
  rw [State.chip_setChip_self]
  split
  next hq => exact ⟨rfl, fun _ => ⟨rfl, rfl⟩, fun h => absurd hq (by simp [h])⟩
  next hq =>
    have hw := (s.chip k).enterHoldover.within_serveWaiting
    have hclk : (s.chip k).enterHoldover.serveWaiting.clk = (s.chip k).enterHoldover.clk := hw.same .clk (by simp)
    have hhif : (s.chip k).enterHoldover.serveWaiting.hif = (s.chip k).enterHoldover.hif := hw.same .hif (by simp)
    have hgen : (s.chip k).enterHoldover.serveWaiting.gens = (s.chip k).enterHoldover.gens := hw.same .gens (by simp)
    obtain ⟨h1, h2, h3, h4, h5⟩ := (s.chip k).enterHoldover_leaves
    rw [hclk, hhif]
    refine ⟨h3, fun h => absurd h hq, fun _ => ⟨h1, h2, h4, fun r hl => ?_⟩⟩
    rw [Chip.gen_of_gens hgen]
    exact h5 r hl

/-! ## The generators -/

/-- A guard calibrated for step `m`, but that it keeps its setting while it is `moving` (R107). -/
def Gen.calibrateGuard (moving : Bool) (m : Nat) (g : Gen) : Gen :=
  { g with guardCals := g.guardCals + 1, guardFs := if moving then g.guardFs else guardFor m }

theorem Chip.gen_calibrateGuards (c : Chip) (moving : Bool) (r : RegionId) :
    (c.forRegions allRegions (fun c r => c.onGen r (Gen.calibrateGuard moving c.clk.mNow))).gen r =
      (c.gen r).calibrateGuard moving c.clk.mNow := by
  have h := foldl_own (fun (c : Chip) r => (c.clk.mNow, c.gen r))
    (f := fun c r => c.onGen r (Gen.calibrateGuard moving c.clk.mNow)) (g := fun _ e => (e.1, e.2.calibrateGuard moving e.1))
    (fun c x => by simp [Chip.onGen]) (fun c x j hj => by simp [Chip.onGen, hj]) allRegions_nodup c r.val
  rw [if_pos (mem_allRegions r), Prod.mk.injEq] at h
  exact h.2

theorem exec_guardCalibrate {k : ChipId} {s : State} (r : RegionId) (hr : (s.chip k).running = true)
    (ha : 10000 ≤ (s.chip k).clk.guardAge) :
    ∃ t, exec (.guardCalibrate k) s = .next t ∧
      ((t.chip k).gen r).guardFs =
        (if (s.chip k).clk.freq.phase = .slewing then ((s.chip k).gen r).guardFs else guardFor (s.chip k).clk.mNow) ∧
      ((t.chip k).gen r).guardCals = ((s.chip k).gen r).guardCals + 1 := by
  refine ⟨s.setChip k (((s.chip k).forRegions allRegions (fun c r => c.onGen r
      (Gen.calibrateGuard ((s.chip k).clk.freq.phase == .slewing) c.clk.mNow))).onClk (fun q => { q with guardAge := 0 })), ?_, ?_⟩
  · rw [exec, execGuardCalibrate, hr, decide_eq_true ha]
    exact occurs_true _ _
  · rw [State.chip_setChip_self, Chip.gen_onClk_frame, Chip.gen_calibrateGuards]
    simp only [Gen.calibrateGuard, beq_iff_eq, and_self]

theorem exec_generatorStart {k : ChipId} {r : RegionId} {s : State} (hr : (s.chip k).running = true)
    (hp : (s.chip k).bru.phase = .clocks) (hs : ((s.chip k).gen r).state = .off) (hl : (s.chip k).clk.refLocked = true)
    (ho : ((s.chip k).clk.refA.ok || (s.chip k).clk.refB.ok) = true) (hv : (s.tray.slot k).vcorePg (r.val / 18) = true)
    (hret : ((s.chip k).region r).cfg.retire = false) :
    ∃ t, exec (.generatorStart k r) s = .next t ∧ ((t.chip k).gen r).state = .cal := by
  refine ⟨s.setChip k ((s.chip k).onGen r Gen.enterCal), ?_, ?_⟩
  · rw [exec]
    unfold execGeneratorStart
    simp only [hr, hp, hs, hl, ho, hv, hret, beq_self_eq_true, Bool.not_false, Bool.and_self, occurs_true]
  · simp [Chip.onGen, Gen.enterCal]

theorem exec_calComplete {k : ChipId} {r : RegionId} {s : State} (hr : (s.chip k).running = true)
    (hs : ((s.chip k).gen r).state = .cal) (hb : ((s.chip k).gen r).calBit = 0) (ha : ((s.chip k).gen r).calAbandoned = false) :
    ∃ t, exec (.calComplete k r) s = .next t ∧
      ((t.chip k).gen r).state = (if (s.chip k).clk.holdover then .frozen else .locking) ∧
      ((t.chip k).gen r).code = ((s.chip k).gen r).code := by
  refine ⟨_, by rw [exec, execCalComplete, hr, hs, hb, ha]; exact occurs_true _ _, ?_⟩
  rw [State.chip_setChip_self]
  split
  · rw [Chip.gen_of_gens ((Chip.within_serveWaiting _).same .gens (by simp)), Chip.gen_setGen, if_pos rfl]
    exact ⟨rfl, rfl⟩
  · rw [Chip.gen_setGen, if_pos rfl]
    exact ⟨rfl, rfl⟩

theorem exec_generatorLocked {k : ChipId} {r : RegionId} {s : State} (hr : (s.chip k).running = true)
    (hs : ((s.chip k).gen r).state = .locking) (hl : 16 ≤ ((s.chip k).gen r).lockRun) :
    ∃ t, exec (.generatorLocked k r) s = .next t ∧ ((t.chip k).gen r).state = .locked := by
  refine ⟨_, by rw [exec, execGeneratorLocked, hr, hs, decide_eq_true hl]; exact occurs_true _ _, ?_⟩
  rw [State.chip_setChip_self, Chip.gen_of_gens (Chip.gens_serveEach _ _), Chip.gen_setGen, if_pos rfl]

theorem exec_lockLost {k : ChipId} {r : RegionId} {s : State} (hr : (s.chip k).running = true)
    (hs : ((s.chip k).gen r).state = .locked) (hl : 16 ≤ ((s.chip k).gen r).lossRun) :
    ∃ t, exec (.lockLost k r) s = .next t ∧ ((t.chip k).gen r).state = .locking ∧
      (t.chip k).hif.log.head? = some ⟨codeOf .clk 9, r.val, (s.chip k).time.epoch⟩ := by
  refine ⟨_, by rw [exec, execLockLost, hr, hs, decide_eq_true hl]; exact occurs_true _ _, ?_⟩
  rw [State.chip_setChip_self]
  refine ⟨?_, rfl⟩
  change (((s.chip k).setGen r _).gen r).state = _
  rw [Chip.gen_setGen, if_pos rfl]

/-- A cycle of 17/16 of nominal or more has a depth (R114). -/
theorem one_le_stretchDepth {m fs : Nat} (h : 17 * 80000000 ≤ 16 * m * fs) : 1 ≤ stretchDepth m fs := by
  have : 17 ≤ 16 * m * fs / 80000000 := (Nat.le_div_iff_mul_le (by decide)).2 h
  simp only [stretchDepth]
  omega

theorem exec_stretchEvent {k : ChipId} {r : RegionId} {s : State} {fs : Nat} (hr : (s.chip k).running = true)
    (h : 17 * 80000000 ≤ 16 * (s.chip k).clk.judgedM * fs) (hs : ((s.chip k).gen r).state = .locked) :
    let d := stretchDepth (s.chip k).clk.judgedM fs
    ∃ t, exec (.stretchEvent k r fs) s = .next t ∧ ((t.chip k).gen r).lastDepth = d ∧
      ((t.chip k).gen r).stretch = satAdd 64 ((s.chip k).gen r).stretch 1 ∧
      ((t.chip k).gen r).deepest = max ((s.chip k).gen r).deepest d ∧
      ∀ x : RegionId, x ≠ r → ((s.chip k).gen x).state = .slaved → ((s.chip k).region x).cfg.gangMaster = r.val →
        ((s.chip k).region r).cfg.gangMaster = r.val →
        ((t.chip k).gen x).lastDepth = d ∧ ((t.chip k).gen x).stretch = satAdd 64 ((s.chip k).gen x).stretch 1 := by
  intro d
  let slaves := ((s.chip k).gang r).filter (fun x =>
    x != r.val && ((s.chip k).gen x).state == .slaved && ((s.chip k).region x).cfg.gangMaster == r.val)
  let c1 := (s.chip k).onGen r (fun g => { g.recordStretch d with stretched := true })
  have hex : exec (.stretchEvent k r fs) s = .next (s.setChip k (c1.forRegions slaves (fun c x => c.onGen x (fun g => g.recordStretch d)))) := by
    rw [exec]
    unfold execStretchEvent
    simp only [hr, hs, decide_eq_true (one_le_stretchDepth h), Bool.and_self, occurs_true]
    rfl
  have hnodup : slaves.Nodup := (allRegions_nodup.filter _).filter _
  have hgen : ∀ j, (c1.forRegions slaves (fun c x => c.onGen x (fun g => g.recordStretch d))).gen j =
      if j ∈ slaves then (c1.gen j).recordStretch d else c1.gen j :=
    Chip.gen_forRegions (g := fun _ g => g.recordStretch d) (fun c x => by simp [Chip.onGen])
      (fun c x j hj => by simp [Chip.onGen, hj]) hnodup c1
  have hself : r.val ∉ slaves := by simp [slaves]
  refine ⟨_, hex, ?_⟩
  rw [State.chip_setChip_self, hgen, if_neg hself]
  refine ⟨by simp [c1, Chip.onGen, Gen.recordStretch], by simp [c1, Chip.onGen, Gen.recordStretch],
    by simp [c1, Chip.onGen, Gen.recordStretch], fun x hx hsl hm hmr => ?_⟩
  have hne : x.val ≠ r := fun e => hx (Fin.ext e)
  have hmem : x.val ∈ slaves := by
    simp only [slaves, Chip.gang, List.mem_filter, mem_allRegions, hm, hmr, decide_true, true_and, hsl, beq_self_eq_true,
      bne_iff_ne.2 hne, Bool.and_self]
  rw [hgen, if_pos hmem]
  simp [c1, Chip.onGen, Gen.recordStretch, hne]

theorem exec_generatorJitterFault {k : ChipId} {r : RegionId} {s : State} {duty changes : List Nat}
    (hr : (s.chip k).running = true) (h : (dutyFails duty || jitterFails changes) = true)
    (hs : ((s.chip k).gen r).state = .locked) :
    ∃ t, exec (.generatorJitterFault k r duty changes) s = .next t ∧ ((t.chip k).gen r) = ((s.chip k).gen r) ∧
      (t.chip k).hif.log.head? = some ⟨codeOf .clk 10, r.val, (s.chip k).time.epoch⟩ := by
  have hruns : (s.chip k).clockRuns r = true := by simp [Chip.clockRuns, Chip.clockState, hs]
  refine ⟨_, by rw [exec, execGeneratorJitterFault, hr, hruns, hs, h]; exact occurs_true _ _, ?_⟩
  rw [State.chip_setChip_self]
  exact ⟨rfl, rfl⟩

/-- Settles O10. -/
theorem generatorEventsTakeEffect : Obligations.GeneratorEventsTakeEffect :=
  fun _ r _ hr => ⟨exec_guardCalibrate r hr, exec_generatorStart hr, exec_calComplete hr, exec_generatorLocked hr,
    exec_lockLost hr, fun _ h hs => exec_stretchEvent hr h hs, fun _ _ h hs => exec_generatorJitterFault hr h hs⟩

/-! ## A frequency step -/

theorem exec_stepVoltageRaise {k : ChipId} {s : State} (hr : (s.chip k).running = true)
    (hp : (s.chip k).clk.freq.phase = .waiting) (hm : (s.chip k).clk.freq.mOld < (s.chip k).clk.freq.mNew)
    (he : (s.chip k).clk.freq.at_ ≤ (s.chip k).time.epoch + 50) :
    ∃ t, exec (.stepVoltageRaise k) s = .next t ∧ (t.chip k).clk.freq.phase = .raised ∧
      (t.chip k).stew.islandV =
        (List.range 4).map (fun i => (s.chip k).otp.vf.get 0 (32 * i + vfPoint (s.chip k).clk.freq.mNew)) := by
  refine ⟨_, by
    rw [exec, execStepVoltageRaise, hr, hp, decide_eq_true hm, decide_eq_true he]
    exact occurs_true _ _, ?_⟩
  rw [State.chip_setChip_self]
  exact ⟨rfl, rfl⟩

/-- The rail check's four reports: none where every island is good, and that of island 3 last (R119, R714). -/
theorem Chip.log_railReports (c : Chip) (pg : Nat → Bool) :
    let d := (List.range 4).foldl (fun c i => c.faultIf (!pg i) .clk 8 i) c
    (pg 3 = false → d.hif.log.head? = some ⟨codeOf .clk 8, 3, c.time.epoch⟩) ∧
    ((∀ i, i < 4 → pg i = true) → d.hif.log = c.hif.log) := by
  intro d
  constructor
  · intro h
    have hd : d = (((c.faultIf (!pg 0) .clk 8 0).faultIf (!pg 1) .clk 8 1).faultIf (!pg 2) .clk 8 2).fault .clk 8 3 := by
      simp only [d, List.range_succ, List.range_zero, List.nil_append, List.foldl_append, List.foldl_cons, List.foldl_nil, h]
      rfl
    rw [hd, Chip.fault_log_head, Chip.faultIf_time, Chip.faultIf_time, Chip.faultIf_time]
  · intro h
    simp only [d, List.range_succ, List.range_zero, List.nil_append, List.foldl_append, List.foldl_cons, List.foldl_nil,
      h 0 (by decide), h 1 (by decide), h 2 (by decide), h 3 (by decide)]
    rfl

theorem exec_stepRailCheck {k : ChipId} {s : State} (uv : List Nat) (hr : (s.chip k).running = true)
    (hp : (s.chip k).clk.freq.phase = .raised) (hc : (s.chip k).clk.freq.checked = false)
    (he : (s.chip k).clk.freq.at_ ≤ (s.chip k).time.epoch + 1) :
    ∃ t, exec (.stepRailCheck k uv) s = .next t ∧ (t.chip k).clk.freq.checked = true ∧ (t.tray.slot k).coreUv = uv ∧
      ((t.tray.slot k).vcorePg 3 = false →
        (t.chip k).hif.log.head? = some ⟨codeOf .clk 8, 3, (s.chip k).time.epoch⟩) ∧
      ((∀ i, i < 4 → (t.tray.slot k).vcorePg i = true) → (t.chip k).hif.log = (s.chip k).hif.log) := by
  refine ⟨_, by rw [exec, execStepRailCheck, hr, hp, hc, decide_eq_true he]; exact occurs_true _ _, ?_⟩
  rw [State.chip_setChip_self]
  refine ⟨rfl, by simp, ?_⟩
  exact Chip.log_railReports (s.chip k) (fun i =>
    ((s.onTray fun t => t.onSlot k fun x => { x with coreUv := uv }).tray.slot k).vcorePg i)

theorem Gen.startSlew_locked {g : Gen} (mOld mNew : Nat) (h : g.state = .locked) :
    (g.startSlew mOld mNew).state = .slew ∧ (g.startSlew mOld mNew).codeNew = slewCode g.code mOld mNew := by
  unfold Gen.startSlew
  simp only [h]
  split <;> exact ⟨rfl, rfl⟩

theorem exec_stepSlewStart {k : ChipId} {s : State} (hr : (s.chip k).running = true)
    (hp : (s.chip k).clk.freq.phase = .raised) (he : (s.chip k).clk.freq.at_ ≤ (s.chip k).time.epoch) :
    ∃ t, exec (.stepSlewStart k) s = .next t ∧ (t.chip k).clk.freq.phase = .slewing ∧
      (t.chip k).clk.mNow = (s.chip k).clk.freq.mNew ∧
      ∀ r : RegionId, ((s.chip k).gen r).state = .locked → ((t.chip k).gen r).state = .slew ∧
        ((t.chip k).gen r).codeNew =
          slewCode ((s.chip k).gen r).code (s.chip k).clk.freq.mOld (s.chip k).clk.freq.mNew := by
  refine ⟨_, by rw [exec, execStepSlewStart, hr, hp, decide_eq_true he]; exact occurs_true _ _, ?_⟩
  rw [State.chip_setChip_self]
  refine ⟨rfl, rfl, fun r hs => ?_⟩
  rw [Chip.gen_onClk_frame, Chip.gen_mapGens _ (by rw [hs]; nofun)]
  exact Gen.startSlew_locked _ _ hs

theorem exec_stepSubstep {k : ChipId} {s : State} {j : Nat} (hr : (s.chip k).running = true)
    (hp : (s.chip k).clk.freq.phase = .slewing) (hj : j = (s.chip k).clk.freq.sub + 1) (h15 : j ≤ 15)
    (hd : (s.chip k).clk.freq.start + subTick j < (s.chip k).time.epochTick + (s.chip k).time.len) :
    ∃ t, exec (.stepSubstep k j) s = .next t ∧ (t.chip k).clk.freq.sub = j ∧
      ∀ r : RegionId, ((s.chip k).gen r).state = .slew →
        ((t.chip k).gen r).code = subCode ((s.chip k).gen r).codeOld ((s.chip k).gen r).codeNew j := by
  refine ⟨_, by
    rw [exec, execStepSubstep, hr, hp, beq_iff_eq.2 hj, decide_eq_true h15, decide_eq_true hd]
    exact occurs_true _ _, ?_⟩
  rw [State.chip_setChip_self]
  refine ⟨rfl, fun r hs => ?_⟩
  rw [Chip.gen_onClk_frame, Chip.gen_mapGens _ (by rw [hs]; nofun), if_pos hs]

/-- At most the fifteen sub-steps of a slew are due. -/
theorem dueSubsteps_le (a b : Nat) :
    ((List.range 16).filter (fun j => decide (1 ≤ j) && decide (a + subTick j < b))).length ≤ 15 := by
  rw [show List.range 16 = 0 :: (List.range 15).map (· + 1) from rfl, List.filter_cons_of_neg (by simp)]
  exact (List.length_filter_le _ _).trans (by simp)

theorem Gen.endSlew_slew {g : Gen} (m : Nat) (h : g.state = .slew) :
    (g.endSlew m).state = g.before ∧ (g.endSlew m).code = min 4095 g.codeNew := by
  simp only [Gen.endSlew, h, and_self]

theorem exec_stepSlewEnd {k : ChipId} {s : State} (hr : (s.chip k).running = true)
    (hp : (s.chip k).clk.freq.phase = .slewing) (hsub : (s.chip k).clk.freq.sub = 15) (h2 : 2 ≤ (s.chip k).clk.freq.since) :
    ∃ t, exec (.stepSlewEnd k) s = .next t ∧
      (t.chip k).clk.freq.phase =
        (if (s.chip k).clk.freq.mOld < (s.chip k).clk.freq.mNew then .none else .lowering) ∧
      ∀ r : RegionId, ((s.chip k).gen r).state = .slew →
        ((t.chip k).gen r).state = ((s.chip k).gen r).before ∧
        ((t.chip k).gen r).code = min 4095 ((s.chip k).gen r).codeNew := by
  refine ⟨_, by
    rw [exec, execStepSlewEnd, hr, hp, hsub, decide_eq_true (dueSubsteps_le _ _), decide_eq_true h2]
    exact occurs_true _ _, ?_⟩
  rw [State.chip_setChip_self]
  refine ⟨?_, fun r hs => ?_⟩
  · have hw := fun c : Chip => c.within_serveWaiting.same .clk (by simp)
    exact (congrArg (fun q : Clock => q.freq.phase) (hw _)).trans (by split <;> rfl)
  · rw [Chip.gen_of_gens ((Chip.within_serveWaiting _).same .gens (by simp))]
    have hgens : ∀ b : Prop, [Decidable b] → ∀ c d : Chip, (if b then c else d).gen r = if b then c.gen r else d.gen r :=
      fun b _ c d => apply_ite (fun c : Chip => c.gen r) b c d
    rw [hgens]
    change (if _ then ((s.chip k).mapGens _).gen r else ((s.chip k).mapGens _).gen r).state = _ ∧ 
      (if _ then ((s.chip k).mapGens _).gen r else ((s.chip k).mapGens _).gen r).code = _
    rw [ite_self, Chip.gen_mapGens _ (by rw [hs]; nofun)]
    exact Gen.endSlew_slew _ hs

theorem exec_stepLowerDone {k : ChipId} {s : State} (hr : (s.chip k).running = true)
    (hp : (s.chip k).clk.freq.phase = .lowering) (h : 52 ≤ (s.chip k).clk.freq.since) :
    ∃ t, exec (.stepLowerDone k) s = .next t ∧ (t.chip k).clk.stepBusy = false := by
  refine ⟨_, by rw [exec, execStepLowerDone, hr, hp, decide_eq_true h]; exact occurs_true _ _, ?_⟩
  rw [State.chip_setChip_self]
  rfl

theorem exec_stepCancelSettled {k : ChipId} {s : State} (hr : (s.chip k).running = true)
    (hp : (s.chip k).clk.freq.phase = .settling) (h : 50 ≤ (s.chip k).clk.freq.since) :
    ∃ t, exec (.stepCancelSettled k) s = .next t ∧ (t.chip k).clk.stepBusy = false := by
  refine ⟨_, by rw [exec, execStepCancelSettled, hr, hp, decide_eq_true h]; exact occurs_true _ _, ?_⟩
  rw [State.chip_setChip_self]
  rfl

/-- Settles O11. -/
theorem frequencyStepTakesEffect : Obligations.FrequencyStepTakesEffect :=
  fun _ _ hr => ⟨exec_stepVoltageRaise hr, fun uv hp hc he => exec_stepRailCheck uv hr hp hc he, exec_stepSlewStart hr,
    fun _ hp hj h15 hd => exec_stepSubstep hr hp hj h15 hd, exec_stepSlewEnd hr, exec_stepLowerDone hr, exec_stepCancelSettled hr⟩

end Sys2Proof.Machine
end

section
/-! LEMMAS. Gangs and failed tiles (chapters 02 and 03), crossing calibration, fixed items and the isolation of a region (chapter 04).
Settles O12 and O13. -/

namespace Sys2Proof.Machine

-- In order, not in parallel: every elaborator thread that waits for another holds a stack within the check's memory limit.
set_option Elab.async false

/-! ## What events of gangs and queues leave of the regions -/

section
variable {α : Type} {g : Region → α}

theorem Chip.regionEq_resetQueue (hg : ∀ (x : Region) n, g { x with discard := n } = g x) (c : Chip) (q : Nat) :
    c.RegionEq g (c.resetQueue q) := by
  have count : ∀ (c : Chip) (e n : Nat), c.RegionEq g (c.countDiscard e n) := fun c e n => by
    unfold Chip.countDiscard
    split_ifs
    · exact .refl g c
    · exact .onRegion c e _ fun x => hg x _
    · exact fun _ => rfl
  have out : ∀ (c : Chip) (q : Nat) (w : Bool), c.RegionEq g (c.discardOut q w) := fun c q w => by
    unfold Chip.discardOut
    extract_lets x e held gone c1 c2
    have h1 : c.RegionEq g c1 := count c e _
    have h2 : c1.RegionEq g c2 := by
      clear_value held
      cases held
      · exact .refl g c1
      · exact .of_within (ps := [.tiles, .eps]) g (by simp [c2]) (by simp)
    clear_value gone
    cases gone with
    | nil => exact h1.trans h2
    | cons f l =>
      refine h1.trans (h2.trans ?_)
      simp only
      split <;> exact .refl g c2
  have inn : ∀ (c : Chip) (q : Nat) (w : Bool), c.RegionEq g (c.discardIn q w) := fun c q w => by
    unfold Chip.discardIn
    extract_lets e l x cut lostWr c1
    have h1 : c.RegionEq g c1 := (count c e _).trans (.foldl (f := fun c (f : Flit) => c.gotWr e f.msg.src) (fun _ _ _ => rfl) _ _)
    split
    · exact h1
    · exact h1
  have side : ∀ (c : Chip) (w : Bool), c.RegionEq g (c.resetSide q w) := fun c w => by
    unfold Chip.resetSide Chip.discardAt
    split
    · exact inn c q _
    · exact out c q _
  exact (side c true).trans (side _ false)

theorem Chip.regionEq_switchQueues (hg : ∀ (x : Region) n, g { x with discard := n } = g x) (c : Chip) (rs : List Nat)
    (single : Bool) : c.RegionEq g (c.switchQueues rs single) :=
  .foldl (fun c r => .foldl (f := fun c q => (c.resetQueue q).onQueue q (fun x => { x with single := single }))
    (fun c q => (c.regionEq_resetQueue hg q).trans (d := c.resetQueue q) fun _ => rfl) _ c) rs c

theorem Chip.regionEq_serveIfReady (hg : ∀ (x : Region) s w, g { x with status := s, awaitLock := w } = g x) (c : Chip) (r : Nat) :
    c.RegionEq g (c.serveIfReady r) := by
  unfold Chip.serveIfReady
  split
  · exact .onRegion c r _ fun x => hg x _ _
  · exact .refl g c

theorem Chip.regionEq_retire (c : Chip) (r : Nat) (hg : ∀ x : Region, g { x with
    cfg := { x.cfg with retire := true, partition := 31 }, status := .retired, retireLater := false, awaitLock := false } = g x) :
    c.RegionEq g (c.retire r) := by
  unfold Chip.retire
  extract_lets c0 f c1
  have h0 : c.RegionEq g (c0.hwSetB r f) := .of_within (ps := [.img]) _ (by simp [c0]) (by simp)
  have h1 : (c0.hwSetB r f).RegionEq g c1 := Chip.regionEq_changeRegion _ r _ (hg _)
  exact h0.trans (h1.trans (.of_within (ps := [.tiles, .mem, .seq, .hif]) _ (by simp) (by simp)))

end

/-! ## Gang skew -/

/-- With no item in the sequencer a region that goes OUT returns none. -/
theorem Chip.returnQueued_of_no_items {c : Chip} (h : c.seq.items.cells = []) (r : Nat) : c.returnQueued r = c := by
  simp [Chip.returnQueued, Bank.pick, h]

/-- The members of a gang go OUT: with no item in the sequencer nothing is logged. -/
theorem Chip.hif_goOut_members (ms : List Nat) (c : Chip) (h : c.seq.items.cells = []) :
    (ms.foldl (fun c x => (c.goOut x).onRegion x (fun g => { g with awaitLock := true })) c).hif = c.hif := by
  induction ms generalizing c with
  | nil => rfl
  | cons x ms ih =>
    have hx : c.goOut x = c.onRegion x (fun g => { g with status := if g.status = .serving then .out else g.status }) :=
      Chip.returnQueued_of_no_items (by exact h) x
    rw [List.foldl_cons, ih _ (by rw [hx]; exact h), hx]
    rfl

theorem Chip.startDissolve_none {c : Chip} {r : Nat} (h : c.dissolveOf (c.region r).cfg.gangMaster = none) :
    (c.startDissolve r).dissolves = c.dissolves ++ [{ master := (c.region r).cfg.gangMaster, members := c.gang r }] ∧
      (c.seq.items.cells = [] → (c.startDissolve r).hif = c.hif) := by
  have hany : c.dissolves.any (fun d => d.master == (c.region r).cfg.gangMaster) = false := by
    simpa [Chip.dissolveOf] using h
  have hd : ((c.gang r).foldl (fun c x => (c.goOut x).onRegion x (fun g => { g with awaitLock := true })) c).dissolves = c.dissolves :=
    Chip.Within.same (ps := [.regions, .tiles, .mem, .seq, .hif]) (by simp) .dissolves (by simp)
  unfold Chip.startDissolve
  extract_lets m ms c1
  rw [show (c.dissolves.any fun d => d.master == m) = false from hany, if_neg Bool.false_ne_true]
  exact ⟨by rw [show c1.dissolves = c.dissolves from hd], fun h => Chip.hif_goOut_members ms c h⟩

theorem Chip.startDissolve_some {c : Chip} {r : Nat} (h : c.dissolveOf (c.region r).cfg.gangMaster ≠ none) :
    c.startDissolve r = c := by
  have hany : c.dissolves.any (fun d => d.master == (c.region r).cfg.gangMaster) = true := by
    simpa [Chip.dissolveOf] using h
  exact if_pos hany

/-- Member `r` with its skew of `ps` and F-CLK-11 (R124). -/
def Chip.skewFaulted (c : Chip) (r ps : Nat) : Chip :=
  (c.onGen r (fun g => { g with skew := min 255 ps, deskewed := false, skewFault := true })).fault .clk 11 r

theorem exec_gangSkewFault {k : ChipId} {r : RegionId} {s : State} {ps cycles : Nat} (hr : (s.chip k).running = true)
    (hps : 20 < ps) (hcy : 256 ≤ cycles) (hs : ((s.chip k).gen r).state = .slaved) (hck : (s.chip k).clockRuns r = true)
    (hf : ((s.chip k).gen r).skewFault = false)
    (hj : ((s.chip k).gen r).deskewed = true ∨ 2000 ≤ ((s.chip k).gen r).slavedCycles) :
    let m := ((s.chip k).region r).cfg.gangMaster
    ∃ t, exec (.gangSkewFault k r ps cycles) s = .next t ∧
      ((s.chip k).dissolveOf m = none →
        (t.chip k).dissolves = (s.chip k).dissolves ++ [{ master := m, members := (s.chip k).gang r }] ∧
        ((s.chip k).seq.items.cells = [] →
          (t.chip k).hif.log.head? = some ⟨codeOf .clk 11, r.val, (s.chip k).time.epoch⟩)) ∧
      ((s.chip k).dissolveOf m ≠ none → (t.chip k).dissolves = (s.chip k).dissolves ∧
        (t.chip k).hif.log.head? = some ⟨codeOf .clk 11, r.val, (s.chip k).time.epoch⟩) := by
  have hj' : (((s.chip k).gen r).deskewed || decide (2000 ≤ ((s.chip k).gen r).slavedCycles)) = true := by simpa using hj
  refine ⟨s.setChip k (((s.chip k).skewFaulted r ps).startDissolve r), by
    rw [exec, execGangSkewFault, hr, hs, decide_eq_true hps, decide_eq_true hcy, hck, hf, hj']
    exact occurs_true _ _, ?_⟩
  rw [State.chip_setChip_self]
  refine ⟨fun hn => ?_, fun hn => ?_⟩
  · obtain ⟨hd, hh⟩ := Chip.startDissolve_none (c := (s.chip k).skewFaulted r ps) hn
    exact ⟨hd, fun hi => by rw [hh hi]; rfl⟩
  · rw [Chip.startDissolve_some (c := (s.chip k).skewFaulted r ps) hn]
    exact ⟨rfl, rfl⟩

theorem exec_gangSkewHalt {k : ChipId} {r : RegionId} {s : State} {ps : Nat} (pos : Nat) (cycles : List Nat)
    (hr : (s.chip k).running = true) (hps : 50 < ps) (hs : ((s.chip k).gen r).state = .slaved)
    (hck : (s.chip k).clockRuns r = true) :
    ∃ t, exec (.gangSkewHalt k r ps pos cycles) s = .next t ∧
      ((t.chip k).gen ((s.chip k).region r).cfg.gangMaster).state = .halted ∧
      ((t.chip k).gen ((s.chip k).region r).cfg.gangMaster).halt = .skew ∧ ((t.chip k).gen r).skew = min 255 ps := by
  refine ⟨_, by
    rw [exec, execGangSkewHalt, hr, hs, decide_eq_true hps, hck]
    exact occurs_true _ _, ?_⟩
  rw [State.chip_setChip_self]
  simp only [Chip.onGen, Chip.haltGen, Chip.gen_setGen, if_true]
  refine ⟨?_, ?_, trivial⟩ <;> split
  · next h => rw [h]; simp [Gen.haltFor]
  · rfl
  · next h => rw [h]; simp [Gen.haltFor]
  · rfl

theorem exec_gangMemberDeskewed {k : ChipId} {r : RegionId} {s : State} {ps steps : Int} (hr : (s.chip k).running = true)
    (hl : (ps - 2 * steps).natAbs ≤ 20) (hs : ((s.chip k).gen r).state = .slaved) (hck : (s.chip k).clockRuns r = true) :
    ∃ t, exec (.gangMemberDeskewed k r ps steps) s = .next t ∧ ((t.chip k).gen r).deskewed = true ∧
      ((t.chip k).gen r).skew = (ps - 2 * steps).natAbs ∧ ((t.chip k).gen r).delay = ((s.chip k).gen r).delay + steps := by
  refine ⟨_, by
    rw [exec, execGangMemberDeskewed, hr, hs, decide_eq_true hl, hck]
    exact occurs_true _ _, ?_⟩
  rw [State.chip_setChip_self, Chip.gen_of_gens (Chip.gens_serveEach _ _), Chip.onGen, Chip.gen_setGen, if_pos rfl]
  exact ⟨rfl, rfl, rfl⟩

/-! ## The dissolution of a gang -/

theorem exec_gangDissolveTimeout {k : ChipId} {r : RegionId} {s : State} {d : Dissolve} (hr : (s.chip k).running = true)
    (hd : (s.chip k).dissolveOf r = some d) (ht : d.timedOut = false) (he : 50000 ≤ d.epochs) :
    ∃ t, exec (.gangDissolveTimeout k r) s = .next t ∧ (t.chip k).dissolveOf r = some { d with timedOut := true } := by
  refine ⟨_, by
    rw [exec, execGangDissolveTimeout]
    simp only [hd, hr, ht, decide_eq_true he, Bool.not_false, Bool.and_self]
    exact occurs_true _ _, ?_⟩
  rw [State.chip_setChip_self]
  have hkeep : (d.members.foldl (fun c r => if c.clockRuns r then c.returnQueued r else c.abortRegion r) (s.chip k)).dissolves =
      (s.chip k).dissolves :=
    Chip.Within.same (ps := [.tiles, .mem, .seq, .hif]) (by simp) .dissolves (by simp)
  have hmap : ∀ l : List Dissolve, (l.map (fun x => if x.master = d.master then { x with timedOut := true } else x)).find?
      (fun x => x.master == r.val) =
      (l.find? (fun x => x.master == r.val)).map (fun x => if x.master = d.master then { x with timedOut := true } else x) := by
    intro l
    rw [List.find?_map]
    congr 2
    funext x
    simp only [Function.comp]
    split <;> rfl
  rw [Chip.dissolveOf, hkeep, hmap, show (s.chip k).dissolves.find? (fun x => x.master == r.val) = some d from hd]
  simp

/-- A member becomes its own master (R126). -/
def Chip.ownMaster (c : Chip) (r : Nat) : Chip :=
  let c1 := (c.hwSetB r (fun b => { b with gangMaster := r })).onRegion r (fun x => { x with cfg := { x.cfg with gangMaster := r } })
  if (c.gen r).state == .slaved then c1.onGen r Gen.enterCal else c1

theorem Chip.gangMaster_ownMaster (c : Chip) (r x : Nat) :
    ((c.ownMaster r).region x).cfg.gangMaster = if x = r then r else (c.region x).cfg.gangMaster := by
  have h : ((c.hwSetB r (fun b => { b with gangMaster := r })).onRegion r (fun x => { x with cfg := { x.cfg with gangMaster := r } })).region x =
      if x = r then { c.region r with cfg := { (c.region r).cfg with gangMaster := r } } else c.region x :=
    Chip.region_setRegion _ _ _ _
  unfold Chip.ownMaster
  extract_lets c1
  have hr : (if (c.gen r).state == .slaved then c1.onGen r Gen.enterCal else c1).region x = c1.region x := by split <;> rfl
  rw [hr, h]
  split <;> rfl

theorem Chip.gangMaster_foldl_ownMaster (ms : List Nat) (c : Chip) (x : Nat)
    (h : x ∈ ms ∨ (c.region x).cfg.gangMaster = x) : ((ms.foldl Chip.ownMaster c).region x).cfg.gangMaster = x := by
  induction ms generalizing c with
  | nil => exact h.resolve_left (by simp)
  | cons r ms ih =>
    refine ih _ ?_
    rw [Chip.gangMaster_ownMaster]
    by_cases hx : x = r
    · exact .inr (by rw [if_pos hx, hx])
    · rw [if_neg hx]
      exact h.imp_left fun hm => (List.mem_cons.1 hm).resolve_left hx

/-- A dissolution applied (R126): it is over, and every member is its own master. -/
theorem Chip.applyDissolve_leaves (c : Chip) (d : Dissolve) :
    (c.applyDissolve d).dissolves = c.dissolves.filter (fun x => x.master != d.master) ∧
      ∀ x ∈ d.members, ((c.applyDissolve d).region x).cfg.gangMaster = x := by
  unfold Chip.applyDissolve
  extract_lets own snap c0 c1 c2
  have hown : own = Chip.ownMaster := rfl
  have h1 : ((d.members.foldl Chip.ownMaster c0).RegionEq (fun x => x.cfg.gangMaster) c1) :=
    Chip.regionEq_switchQueues (fun _ _ => rfl) _ _ _
  have h2 : c1.RegionEq (fun x => x.cfg.gangMaster) c2 :=
    .foldl (fun c r => c.regionEq_retire r fun _ => rfl) _ _
  have h3 : c2.RegionEq (fun x => x.cfg.gangMaster)
      (d.members.foldl (fun c r => if (c.region r).awaitLock then c.serveIfReady r else c) c2) :=
    .foldl (fun c r => by
      split
      · exact c.regionEq_serveIfReady (fun _ _ _ => rfl) r
      · exact .refl _ c) _ _
  constructor
  · have hd : (d.members.foldl (fun c r => if (c.region r).awaitLock then c.serveIfReady r else c) c2).dissolves = c0.dissolves :=
      Chip.Within.same (ps := [.gens, .regions, .tiles, .xng, .queues, .eps, .flying, .mem, .seq, .img, .hif])
        (by simp [c2, c1, own]) .dissolves (by simp)
    rw [hd]
    rfl
  · intro x hx
    exact (h3 x).trans ((h2 x).trans ((h1 x).trans (Chip.gangMaster_foldl_ownMaster _ _ _ (.inl hx))))

theorem exec_gangDissolveApply {k : ChipId} {r : RegionId} {s : State} {d : Dissolve} (hr : (s.chip k).running = true)
    (hd : (s.chip k).dissolveOf r = some d)
    (hm : ∀ x ∈ d.members, (s.chip k).drained x = true ∨ (d.timedOut = true ∧ (s.chip k).idleIn x = true)) :
    ∃ t, exec (.gangDissolveApply k r) s = .next t ∧ (t.chip k).dissolveOf r = none ∧
      ∀ x ∈ d.members, ((t.chip k).region x).cfg.gangMaster = x := by
  have hready : d.members.all (fun r => (s.chip k).drained r || (d.timedOut && (s.chip k).idleIn r)) = true :=
    List.all_eq_true.2 fun x hx => by simpa using hm x hx
  refine ⟨s.setChip k ((s.chip k).applyDissolve d), ?_, ?_⟩
  · rw [exec, execGangDissolveApply]
    simp only [hd, hr, hready, Bool.and_self, occurs_true]
  · rw [State.chip_setChip_self]
    obtain ⟨hdis, hown⟩ := (s.chip k).applyDissolve_leaves d
    have hmaster : d.master = r.val := by simpa using List.find?_some hd
    refine ⟨?_, hown⟩
    rw [Chip.dissolveOf, hdis, List.find?_eq_none]
    intro x hx
    have := (List.mem_filter.1 hx).2
    simpa [hmaster] using this

theorem exec_tileFailed {k : ChipId} {r : RegionId} {s : State} {q : PosId} (hr : (s.chip k).running = true)
    (hq : bit ((s.chip k).region r).posFail q = false) :
    ∃ t, exec (.tileFailed k r q) s = .next t ∧ bit ((t.chip k).region r).posFail q = true := by
  refine ⟨_, by rw [exec, execTileFailed, hr, hq]; exact occurs_true _ _, ?_⟩
  rw [State.chip_setChip_self]
  exact Chip.bit_posFail_failTile _ _ _

/-- Settles O12. -/
theorem gangEventsTakeEffect : Obligations.GangEventsTakeEffect :=
  fun _ _ _ hr => ⟨fun _ _ hps hcy hs hck hf hj => exec_gangSkewFault hr hps hcy hs hck hf hj,
    fun _ pos cycles hps hs hck => exec_gangSkewHalt pos cycles hr hps hs hck,
    fun _ _ hl hs hck => exec_gangMemberDeskewed hr hl hs hck, fun _ hd ht he => exec_gangDissolveTimeout hr hd ht he,
    fun _ hd hm => exec_gangDissolveApply hr hd hm, fun _ hq => exec_tileFailed hr hq⟩

/-! ## Calibration -/

theorem Chip.link_onLink (c : Chip) (r d a b : Nat) (f : OutLink → OutLink) :
    (c.onLink r d f).link a b = if 5 * a + b = 5 * r + d then f (c.link r d) else c.link a b := by
  simp only [Chip.onLink, Chip.link, Bank.get_set]

theorem hasLink_lt {r d : Nat} (h : hasLink r d = true) : d < 4 := by
  unfold hasLink at h
  match d with
  | 0 | 1 | 2 | 3 => decide
  | n + 4 => simp at h

/-- The probes of XNG_CALIBRATION on one directed link (R167, R168). -/
def Chip.probeLink (trips : List Nat) (c : Chip) (i : Nat) : Chip :=
  if hasLink (i / 4) (i % 4) then
    c.onLink (i / 4) (i % 4) (fun l => { l with linkT := min 65535 (ceilDiv (5 * trips.getD i 0) 2), flits := satAdd 64 l.flits 512 })
  else c

theorem Chip.linkT_foldl_probeLink (trips : List Nat) (c : Chip) {r : RegionId} {d : Nat} (h : hasLink r d = true) :
    (((List.range 288).foldl (Chip.probeLink trips) c).link r d).linkT =
      min 65535 (ceilDiv (5 * trips.getD (4 * r.val + d) 0) 2) := by
  have hd := hasLink_lt h
  have hr := r.isLt
  have key := foldl_own (fun (c : Chip) i => c.link (i / 4) (i % 4)) (f := Chip.probeLink trips)
    (g := fun i l => if hasLink (i / 4) (i % 4)
      then { l with linkT := min 65535 (ceilDiv (5 * trips.getD i 0) 2), flits := satAdd 64 l.flits 512 } else l)
    (fun c i => by
      unfold Chip.probeLink
      split
      · simp
      · rfl)
    (fun c i j hj => by
      unfold Chip.probeLink
      split
      · rw [Chip.link_onLink, if_neg (by omega)]
      · rfl)
    (List.nodup_range (n := 288)) c (4 * r.val + d)
  rw [if_pos (List.mem_range.2 (by omega)), show (4 * r.val + d) / 4 = r by omega, show (4 * r.val + d) % 4 = d by omega,
    if_pos h] at key
  exact congrArg OutLink.linkT key

theorem exec_xngCalibration {k : ChipId} {s : State} (trips : List Nat) (hr : (s.chip k).running = true)
    (hu : (s.chip k).xng.up = true) (he : (s.chip k).xng.ended = false) (hp : (s.chip k).xng.probing = false) :
    ∃ t, exec (.xngCalibration k trips) s = .next t ∧ (t.chip k).xng.probing = true ∧ (t.chip k).xng.epochs = 0 ∧
      ∀ (r : RegionId) d, hasLink r d = true →
        ((t.chip k).link r d).linkT = min 65535 (ceilDiv (5 * trips.getD (4 * r.val + d) 0) 2) := by
  refine ⟨s.setChip k (((List.range 288).foldl (Chip.probeLink trips) (s.chip k)).onXng (fun x =>
    { x with probing := true, epochs := 0 })), ?_, ?_⟩
  · rw [exec, execXngCalibration, hr, hu, he, hp]
    exact occurs_true _ _
  · rw [State.chip_setChip_self]
    exact ⟨rfl, rfl, fun r d h => by rw [Chip.link_onXng_frame, Chip.linkT_foldl_probeLink trips _ h]⟩

theorem Chip.pathPs_congr {c d : Chip} (h : d.links = c.links) (n a b : Nat) : d.pathPs n a b = c.pathPs n a b := by
  induction n generalizing a with
  | zero => rfl
  | succ n ih => simp only [Chip.pathPs, ih, Chip.link, h]

theorem exec_xngCalibrationDone {k : ChipId} {s : State} (hr : (s.chip k).running = true)
    (hp : (s.chip k).xng.probing = true) (he : (s.chip k).xng.epochs ≤ 100) :
    ∃ t, exec (.xngCalibrationDone k) s = .next t ∧ (t.chip k).xng.done = true ∧
      ∀ a b : RegionId, a ≠ b → (t.chip k).lat a b = latOf ((s.chip k).pathPs 15 a b) (s.chip k).xng.margin := by
  refine ⟨_, by rw [exec, execXngCalibrationDone, hr, hp, decide_eq_true he]; exact occurs_true _ _, ?_⟩
  rw [State.chip_setChip_self]
  have hw : ∀ c : Chip, c.Within [.hif] c.reportAllUnfixed := fun c => by simp [Chip.reportAllUnfixed]
  have hx := (hw ((s.chip k).onXng (fun x => { x with done := true, ended := true, probing := false, latKnown := true }))).same .xng
    (by simp)
  have hl := (hw ((s.chip k).onXng (fun x => { x with done := true, ended := true, probing := false, latKnown := true }))).same .links
    (by simp)
  refine ⟨congrArg Xng.done hx, fun a b hab => ?_⟩
  have hne : (a.val != b.val) = true := bne_iff_ne.2 fun e => hab (Fin.ext e)
  rw [Chip.lat, hx, hne, Chip.pathPs_congr hl, Chip.onXng_xng_eq, Bool.and_self, if_pos rfl]
  exact congrArg (latOf · _) (Chip.pathPs_congr (Chip.onXng_links _ _) _ _ _)

theorem exec_xngCalibrationTimeout {k : ChipId} {s : State} (hr : (s.chip k).running = true)
    (hp : (s.chip k).xng.probing = true) (he : 100 ≤ (s.chip k).xng.epochs) :
    ∃ t, exec (.xngCalibrationTimeout k) s = .next t ∧ (t.chip k).xng.done = (s.chip k).xng.done ∧
      (t.chip k).xng.ended = true ∧
      (t.chip k).hif.log.head? = some ⟨codeOf .xng 5, noInstance, (s.chip k).time.epoch⟩ := by
  refine ⟨_, by rw [exec, execXngCalibrationTimeout, hr, hp, decide_eq_true he]; exact occurs_true _ _, ?_⟩
  rw [State.chip_setChip_self]
  exact ⟨rfl, rfl, rfl⟩

/-! ## Fixed items -/

/-- The reader pops the item at place `i` of queue `q`: the queue without it. -/
theorem Chip.items_popAt (c : Chip) (q i : Nat) : ((c.popAt q i).queue q).items = (c.queue q).items.eraseIdx i := by
  unfold Chip.popAt
  split
  next h => rw [List.eraseIdx_of_length_le (List.getElem?_eq_none_iff.1 h)]
  next f h =>
    rw [Chip.onEp, Chip.queue_setEp_frame, Chip.onQueue, Chip.queue_setQueue, if_pos rfl]
    simp only [Queue.take, h]

theorem Chip.region_popAt (c : Chip) (q i r : Nat) : (c.popAt q i).region r = c.region r := by
  unfold Chip.popAt
  split <;> rfl

theorem Chip.regions_at (c : Chip) (x : Moment) (d : Nat) : (c.at_ x d).regions = c.regions :=
  Chip.Within.same (ps := [.time, .xng]) (by simp) .regions (by simp)

theorem Chip.queue_at (c : Chip) (x : Moment) (d q : Nat) : (c.at_ x d).queue q = c.queue q := by
  have h : (c.at_ x d).queues = c.queues := Chip.Within.same (ps := [.time, .xng]) (by simp) .queues (by simp)
  rw [Chip.queue, h, Chip.queue]

theorem exec_fixedItemRelease {k : ChipId} {r : RegionId} {s : State} {lane : Lane} {src : EpId} {seen : Nat} {now : Moment}
    {f : Flit} {i : Nat} (hr : (s.chip k).running = true) (hck : (s.chip k).clockRuns r = true)
    (ho : ((((s.chip k).at_ now r).seeAt (ejQ r lane) seen).queue (ejQ r lane)).openFor false = true)
    (hf : firstFixed ((((s.chip k).at_ now r).seeAt (ejQ r lane) seen).queue (ejQ r lane)).seen src = some (f, i))
    (hh : (((s.chip k).at_ now r).seeAt (ejQ r lane) seen).reqHeld (ejQ r lane) i = false)
    (hd : ((((s.chip k).at_ now r).seeAt (ejQ r lane) seen).lat src r : Int) ≤
      fixedDelta ((((s.chip k).at_ now r).seeAt (ejQ r lane) seen).tv r) f.msg.stamp) :
    ∃ t, exec (.fixedItemRelease k r lane src seen now) s = .next t ∧
      ((t.chip k).queue (ejQ r lane)).items =
        ((((s.chip k).at_ now r).seeAt (ejQ r lane) seen).queue (ejQ r lane)).items.eraseIdx i ∧
      ((t.chip k).region r).detViol =
        (if f.late then satAdd 64 ((s.chip k).region r).detViol 1 else ((s.chip k).region r).detViol) := by
  refine ⟨_, by
    rw [exec]
    unfold execFixedItemRelease
    extract_lets c0 q c x
    rw [show firstFixed x.seen src = some (f, i) from hf]
    simp only [c0, hr, hck, show x.openFor false = true from ho, show c.reqHeld q i = false from hh,
      show (c.lat src r : Int) ≤ fixedDelta (c.tv r) f.msg.stamp from hd, decide_true, Bool.and_self, Bool.not_false]
    exact occurs_true _ _, ?_⟩
  rw [State.chip_setChip_self]
  have hreg : ∀ c : Chip, c.regions = (s.chip k).regions → c.region r = (s.chip k).region r := fun c h => by rw [Chip.region, h]; rfl
  have hc : (((s.chip k).at_ now r).seeAt (ejQ r lane) seen).region r = (s.chip k).region r := hreg _ (Chip.regions_at _ _ _)
  split
  next hl =>
    refine ⟨?_, ?_⟩
    · rw [Chip.queue_faultIf_frame, Chip.onRegion, Chip.queue_setRegion_frame, Chip.items_popAt]
    · rw [Chip.region_faultIf_frame, Chip.onRegion, Chip.region_setRegion, if_pos rfl, Chip.region_popAt, hc]
  next hl => exact ⟨Chip.items_popAt _ _ _, by rw [Chip.region_popAt, hc]⟩

/-! ## Isolation -/

theorem Chip.region_changeRegion_self (c : Chip) (r : Nat) (f : Region → Region) :
    (c.changeRegion r f).region r = f (c.region r) := by
  unfold Chip.changeRegion
  extract_lets x y p p' gone c1 c2 c3
  have h : (c3.faultIf (decide (p < 16) && p != p' && (c3.regionsOf p).isEmpty) .die 4 p).regions = c2.regions :=
    Chip.Within.same (ps := [.seq, .hif]) (by simp [c3]) .regions (by simp)
  rw [Chip.region, h]
  exact (Chip.region_setRegion c1 r r y).trans (if_pos rfl)

theorem Chip.region_isolate (c : Chip) (r : Nat) : ((c.isolate r).region r).isoSinkOn = true ∧
    ((c.isolate r).region r).status = if (c.region r).status = .retired then .retired else .isolated := by
  unfold Chip.isolate
  extract_lets c1 c2 c3 c4
  have h1 : (c1.region r).isoSinkOn = true ∧ (c1.region r).status = if (c.region r).status = .retired then .retired else .isolated := by
    rw [Chip.region_changeRegion_self]
    exact ⟨rfl, rfl⟩
  have h2 : c1.RegionEq (fun x => (x.isoSinkOn, x.status)) c2 := .foldl (fun c q => c.regionEq_resetQueue (fun _ _ => rfl) q) _ _
  have h3 : c2.RegionEq (fun x => (x.isoSinkOn, x.status)) (c4.onSeq (fun q => { q with waiters := q.waiters.filter (fun w => w.src != r) })) :=
    .of_within (ps := [.tiles, .eps, .mem, .seq, .hif]) _ (by simp [c4, c3]) (by simp)
  have h := (h3 r).trans (h2 r)
  rw [Prod.mk.injEq] at h
  exact ⟨h.1.trans h1.1, h.2.trans h1.2⟩

theorem exec_regionIsolate {k : ChipId} {r : RegionId} {s : State} (hr : (s.chip k).running = true)
    (ha : 100 ≤ ((s.chip k).region r).wdogAge) (hi : ((s.chip k).region r).isoSinkOn = false) :
    ∃ t, exec (.regionIsolate k r) s = .next t ∧ ((t.chip k).region r).isoSinkOn = true ∧
      ((t.chip k).region r).status = (if ((s.chip k).region r).status = .retired then .retired else .isolated) := by
  refine ⟨_, by rw [exec, execRegionIsolate, hr, decide_eq_true ha, hi]; exact occurs_true _ _, ?_⟩
  rw [State.chip_setChip_self]
  exact Chip.region_isolate _ _

/-! ### A flit sent -/

/-- What a port may send: a ready flit with room downstream. -/
theorem Chip.chosen_spec {c : Chip} {r d : Nat} {x : Candidate} (h : c.chosen r d = some x) :
    (∃ l, x ∈ c.ready r d l) ∧ c.roomFor r d x.flit = true := by
  have next : ∀ turn (cs : List Candidate), nextOf turn cs = some x → x ∈ cs := by
    intro turn cs h
    obtain ⟨i, -, hi⟩ := List.exists_of_findSome?_eq_some h
    exact List.mem_of_find?_eq_some hi
  have pick : ∀ (ls : List Lane), (ls.findSome? fun l =>
      nextOf ((c.link r d).turn.getD l.ix 0) ((c.ready r d l).filter (fun x => c.roomFor r d x.flit))) = some x →
      (∃ l, x ∈ c.ready r d l) ∧ c.roomFor r d x.flit = true := by
    intro ls h
    obtain ⟨l, -, hl⟩ := List.exists_of_findSome?_eq_some h
    obtain ⟨hm, hroom⟩ := List.mem_filter.1 (next _ _ hl)
    exact ⟨⟨l, hm⟩, hroom⟩
  unfold Chip.chosen at h
  extract_lets link pk aged at h
  split at h
  next y hy => cases h; exact pick aged hy
  next => exact pick allLanes h

/-- A ready flit leaves by the port at which it is ready. -/
theorem Chip.outSide_of_ready {c : Chip} {r d : Nat} {l : Lane} {x : Candidate} (h : x ∈ c.ready r d l) :
    outSide r x.flit.msg = d ∧ x.flit.msg.lane = l := by
  obtain ⟨i, -, hi⟩ := List.mem_filterMap.1 h
  split at hi
  · cases hi
  next f n rest hb =>
    split at hi
    next hc =>
      cases hi
      have hf : (f, n) ∈ c.buffer r i l := hb ▸ List.mem_cons_self
      have hfl := (List.mem_filter.1 hf).2
      simp only [Bool.and_eq_true, decide_eq_true_eq, beq_iff_eq] at hc hfl
      exact ⟨hc.1, hfl.2⟩
    next => cases hi

theorem routeSide_self (r : Nat) : routeSide r r = 4 := by simp [routeSide]

theorem edgeSide_eq_four {e : Nat} (h : edgeSide e = 4) : e < 72 := by
  unfold edgeSide at h
  split_ifs at h <;> omega

/-- A message that leaves by the local port of a router is for the region there. -/
theorem dst_of_outSide_eq_four {r : Nat} {m : Msg} (h : outSide r m = 4) : m.dst = r := by
  unfold outSide at h
  extract_lets d at h
  split at h
  next hd =>
    have he := edgeSide_eq_four h
    simp only [d, routeSide, routerOf, colOf, rowOf, he, if_true] at hd
    split_ifs at hd <;> omega
  next hd => exact absurd h hd

/-- The chip as port `d` of router `r` has sent candidate `x`, which nothing has taken yet (R206 to R208). -/
def Chip.sent (c : Chip) (r d : Nat) (x : Candidate) : Chip :=
  (if d < 4 && routeSide r (routerOf x.flit.msg.dst) = 4
    then ({ c.afterTransfer r d x with flying := c.flying.eraseIdx x.place } : Chip).countAux 2 1
    else { c.afterTransfer r d x with flying := c.flying.eraseIdx x.place }).onRegion r (fun g =>
      { g with flitEvents := g.flitEvents + 1 })

theorem Chip.transfer_eq (c : Chip) (r d : Nat) (x : Candidate) (poison : Bool) :
    c.transfer r d x poison = if (c.link r d).drop.getD x.flit.msg.lane.ix false then c.sent r d x
      else Chip.takeFlit r d (c.sent r d x) { x.flit with poison := x.flit.poison || poison } := rfl

theorem Chip.region_sent (c : Chip) (r d : Nat) (x : Candidate) (i : Nat) :
    (c.sent r d x).region i = if i = r then { c.region r with flitEvents := (c.region r).flitEvents + 1 } else c.region i := by
  unfold Chip.sent
  rw [Chip.onRegion, Chip.region_setRegion]
  split <;> split <;> rfl

theorem Chip.sinks_sent (c : Chip) (r d : Nat) (x : Candidate) (e : Nat) : (c.sent r d x).sinks e = c.sinks e := by
  simp only [Chip.sinks, Chip.region_sent]
  split
  next h => subst h; rfl
  next => rfl

/-- The sink of a region counts each message with its last flit (R174). -/
theorem Chip.isoSink_sinkFlit (c : Chip) (e : Nat) (f : Flit) :
    ((c.sinkFlit e f).region e).isoSink = if f.last then satAdd 64 (c.region e).isoSink 1 else (c.region e).isoSink := by
  unfold Chip.sinkFlit
  extract_lets c1 c2
  have h1 : c1.region e = c.region e := by
    simp only [c1]
    split <;> rfl
  split
  next =>
    have h2 : (c2.region e).isoSink = satAdd 64 (c.region e).isoSink 1 := by simp [c2, Chip.onRegion, h1]
    split
    · exact h2
    · exact h2
  next => rw [h1]

theorem exec_isolationSinkAccept {k : ChipId} {r : RegionId} {s : State} {lane : Lane} {x : Candidate}
    (hr : (s.chip k).running = true) (hx : (s.chip k).chosen r 4 = some x) (hs : (s.chip k).sinks r = true)
    (hl : x.flit.msg.lane = lane) (hd : ((s.chip k).link r 4).drop.getD lane.ix false = false) :
    ∃ t, exec (.isolationSinkAccept k r lane) s = .next t ∧
      ((t.chip k).region r).isoSink =
        (if x.flit.last then satAdd 64 ((s.chip k).region r).isoSink 1 else ((s.chip k).region r).isoSink) := by
  subst hl
  refine ⟨s.setChip k ((s.chip k).transfer r 4 x false), ?_, ?_⟩
  · rw [exec, execIsolationSinkAccept]
    simp only [hx, hr, hs, beq_self_eq_true, Bool.and_self, occurs_true]
  · obtain ⟨⟨l, hready⟩, -⟩ := Chip.chosen_spec hx
    have hdst : x.flit.msg.dst = r := dst_of_outSide_eq_four (Chip.outSide_of_ready hready).1
    have hrt : routeSide r (routerOf x.flit.msg.dst) = 4 := by
      rw [hdst, routerOf, if_pos r.isLt, routeSide_self]
    rw [State.chip_setChip_self, Chip.transfer_eq, hd, if_neg Bool.false_ne_true, Chip.takeFlit, if_pos hrt, hdst,
      Chip.sinks_sent, hs, if_pos rfl, Chip.isoSink_sinkFlit, Chip.region_sent, if_pos rfl]
    rfl

theorem exec_isolationEnd {k : ChipId} {r : RegionId} {s : State} (hr : (s.chip k).running = true)
    (hi : ((s.chip k).region r).isoSinkOn = true) (hs : ((s.chip k).region r).status = .isolated)
    (hl : (s.chip k).lockedFor r = true) (hq : (queuesOf r).all (fun q => ((s.chip k).queue q).isOpen) = true) :
    ∃ t, exec (.isolationEnd k r) s = .next t ∧ ((t.chip k).region r).isoSinkOn = false ∧
      ((t.chip k).region r).status = .out := by
  refine ⟨_, by rw [exec, execIsolationEnd, hr, hi, hl, hq]; exact occurs_true _ _, ?_⟩
  rw [State.chip_setChip_self, if_pos (by rw [hs]; rfl), Chip.region_changeRegion_self, hs]
  exact ⟨rfl, rfl⟩

/-- Settles O13. -/
theorem calibrationAndIsolationTakeEffect : Obligations.CalibrationAndIsolationTakeEffect :=
  ⟨fun _ _ hr => ⟨fun trips hu he hp => exec_xngCalibration trips hr hu he hp, exec_xngCalibrationDone hr,
      exec_xngCalibrationTimeout hr, fun _ _ _ _ _ _ _ hck ho hf hh hd => exec_fixedItemRelease hr hck ho hf hh hd⟩,
    fun _ _ _ hr => ⟨exec_regionIsolate hr, fun _ _ hx hs hl hd => exec_isolationSinkAccept hr hx hs hl hd, exec_isolationEnd hr⟩⟩

end Sys2Proof.Machine
end

section
/-! LEMMAS. The crossing queues: pushes, pops and the handshake (chapter 04). Settles O14. -/

namespace Sys2Proof.Machine

-- In order, not in parallel: every elaborator thread that waits for another holds a stack within the check's memory limit.
set_option Elab.async false

/-! ## The numbers of the queues -/

theorem laneIx_ofIx {n : Nat} (h : n < 4) : (Lane.ofIx n).ix = n := by
  match n with
  | 0 | 1 | 2 | 3 => rfl

theorem ejQ_queueEp {q : Nat} (h : isEject q = true) : ejQ (queueEp q) (queueLane q) = q := by
  simp only [isEject, decide_eq_true_eq] at h
  simp only [ejQ, queueEp, queueLane, laneIx_ofIx (show q % 8 / 2 < 4 by omega)]
  omega

theorem routeSide_routerOf_self (e : Nat) : routeSide (routerOf e) (routerOf e) = 4 := routeSide_self _

/-! ## A cycle of a domain: REF runs on, a copy of a pointer shows more -/

theorem Chip.up_at (c : Chip) (x : Moment) (d : Nat) : (c.at_ x d).xng.up = c.xng.up := by
  have feed : ∀ (c : Chip) b, (c.feedTo b).xng.up = c.xng.up := fun c b => by
    unfold Chip.feedTo
    split <;> rfl
  have pop : ∀ (c : Chip) d, (c.popFeed d).xng.up = c.xng.up := fun c d => by
    unfold Chip.popFeed
    split <;> rfl
  unfold Chip.at_
  extract_lets b fed now c1
  have h1 : c1.xng.up = c.xng.up := by
    simp only [c1]
    split
    · exact feed c b
    · rfl
  split
  · exact h1
  · rw [pop, h1]

theorem Chip.sinks_of_regions {c d : Chip} (h : d.regions = c.regions) (e : Nat) : d.sinks e = c.sinks e := by
  simp only [Chip.sinks, Chip.region, h]

theorem Chip.link_at (c : Chip) (x : Moment) (d a b : Nat) : (c.at_ x d).link a b = c.link a b := by
  have h : (c.at_ x d).links = c.links := Chip.Within.same (ps := [.time, .xng]) (by simp) .links (by simp)
  rw [Chip.link, h, Chip.link]

theorem Chip.flying_at (c : Chip) (x : Moment) (d : Nat) : (c.at_ x d).flying = c.flying :=
  Chip.Within.same (ps := [.time, .xng]) (by simp) .flying (by simp)

/-! ## Pushes -/

/-- The message that the head flit `f` leaves with (R156, R161); the flits after it carry the head's. -/
def Chip.headMsg (c : Chip) (e : Nat) (f : Flit) : Msg :=
  if f.head then { f.msg with mode := c.modeOf e f.msg.dst
                              stamp := if c.modeOf e f.msg.dst = .fixed then c.tv (domainOfEp e) else 0 } else f.msg

theorem Chip.headMsg_of_not_head {f : Flit} (c : Chip) (e : Nat) (h : f.head = false) : c.headMsg e f = f.msg := by
  rw [Chip.headMsg, h]
  rfl

theorem Chip.headMsg_of_head {f : Flit} (c : Chip) (e : Nat) (h : f.head = true) :
    (c.headMsg e f).sameAs f.msg = true ∧ (c.headMsg e f).mode = c.modeOf e f.msg.dst ∧
      ((c.headMsg e f).mode = .fixed → (c.headMsg e f).stamp = c.tv (domainOfEp e)) := by
  rw [Chip.headMsg, if_pos h]
  refine ⟨by simp [Msg.sameAs, Msg.normal], rfl, fun hm => ?_⟩
  exact if_pos hm

/-- A push into an injection queue without room is refused: nothing changes. -/
theorem Chip.pushNext_refused {c : Chip} {q : Nat} {f : Flit} {rest : List Flit} (hw : (c.queue q).waiting = f :: rest)
    (hr : (c.queue q).room (queueDepth q) = false) : c.pushNext q = c := by
  unfold Chip.pushNext
  simp only [hw, Queue.push, hr, Bool.false_eq_true, if_false]

/-- A push into a queue with room: the flit stands in the queue, the others of its message wait. -/
theorem Chip.pushNext_taken {c : Chip} {q : Nat} {f : Flit} {rest : List Flit} (hw : (c.queue q).waiting = f :: rest)
    (hr : (c.queue q).room (queueDepth q) = true) :
    (c.pushNext q).queue q = { c.queue q with
      items := (c.queue q).items ++ [{ f with msg := c.headMsg (queueEp q) f }]
      waiting := rest.map (fun g => { g with msg := c.headMsg (queueEp q) f }) } := by
  have hinj : ∀ (d : Chip) (m : Msg), (d.injected m).queue q = d.queue q := fun d m => by
    have h : (d.injected m).queues = d.queues := Chip.Within.same (ps := [.tiles, .eps]) (by simp) .queues (by simp)
    rw [Chip.queue, h, Chip.queue]
  have hcount : ∀ (d : Chip) (e : Nat), (d.countInjected e).queue q = d.queue q := fun d e => by
    unfold Chip.countInjected
    split <;> rfl
  simp only [Chip.pushNext, hw, Queue.push, hr, if_true]
  split
  · rw [hinj, hcount, Chip.queue_setQueue, if_pos rfl]; rfl
  · rw [hcount, Chip.queue_setQueue, if_pos rfl]; rfl

/-- The chip in the writer's cycle of queue `q` (R149, R150). -/
def Chip.writing (c : Chip) (q : Nat) (seen : Nat) (now : Moment) : Chip :=
  (c.at_ now (if isEject q then 72 else domainOfEp (queueEp q))).onQueue q (fun x => x.seeFreed seen)

theorem Chip.queue_writing (c : Chip) (q seen : Nat) (now : Moment) :
    (c.writing q seen now).queue q = (c.queue q).seeFreed seen := by
  rw [Chip.writing, Chip.onQueue, Chip.queue_setQueue, if_pos rfl, Chip.queue_at]

theorem exec_queuePush {k : ChipId} {q : QueueId} {s : State} (seen : Nat) (now : Moment) (hr : (s.chip k).running = true)
    (hs : (s.chip k).sideRuns q true = true) (hd : 0 < queueDepth q) :
    exec (.queuePush k q seen now) s = .next (s.setChip k
      (if isEject q then ((s.chip k).writing q seen now).deliver q else ((s.chip k).writing q seen now).offer q)) := by
  rw [exec, execQueuePush, hr, hs, decide_eq_true hd]
  exact occurs_true _ _

theorem queueDepth_of_inject {q : Nat} (h : isEject q = false) : queueDepth q = 8 := by
  rw [queueDepth, h]; rfl

theorem Chip.offer_waiting {c : Chip} {q : Nat} {f : Flit} {rest : List Flit} (hu : c.xng.up = true)
    (hw : (c.queue q).waiting = f :: rest) : c.offer q = c.pushNext q := by
  simp only [Chip.offer, hu, hw, Bool.not_true, Bool.false_eq_true, if_false, List.isEmpty_cons, Bool.not_false, if_true]

theorem exec_queuePush_inject {k : ChipId} {q : QueueId} {s : State} {seen : Nat} {now : Moment} {f : Flit} {rest : List Flit}
    (hr : (s.chip k).running = true) (hq : isEject q = false) (hs : (s.chip k).sideRuns q true = true)
    (hu : (s.chip k).xng.up = true) (hw : ((s.chip k).queue q).waiting = f :: rest) :
    exec (.queuePush k q seen now) s = .next (s.setChip k (((s.chip k).writing q seen now).pushNext q)) := by
  rw [exec_queuePush seen now hr hs (by rw [queueDepth_of_inject hq]; decide), hq, if_neg Bool.false_ne_true,
    Chip.offer_waiting (c := (s.chip k).writing q seen now) (f := f) (rest := rest) ((Chip.up_at _ _ _).trans hu) (by rw [Chip.queue_writing]; exact hw)]

/-- The router's push of a flit for an ejection queue (R151). -/
theorem Chip.deliver_items {c : Chip} {q : Nat} {x : Candidate} (hq : isEject q = true)
    (hx : c.chosen (routerOf (queueEp q)) (edgeSide (queueEp q)) = some x) (hdst : x.flit.msg.dst = queueEp q)
    (hlane : x.flit.msg.lane = queueLane q) (hs : c.sinks (queueEp q) = false)
    (hdrop : (c.link (routerOf (queueEp q)) (edgeSide (queueEp q))).drop.getD x.flit.msg.lane.ix false = false) :
    ((c.deliver q).queue q).items = (c.queue q).items ++ [x.flit] := by
  obtain ⟨-, hroom⟩ := Chip.chosen_spec hx
  rw [hlane] at hdrop
  have hrt : routeSide (routerOf (queueEp q)) (routerOf x.flit.msg.dst) = 4 := by rw [hdst, routeSide_self]
  simp only [Chip.roomFor, hlane, hdrop, Bool.false_eq_true, if_false, routeSide_self, if_true, hdst, hs, ejQ_queueEp hq] at hroom
  have hqueue : ∀ j, (c.sent (routerOf (queueEp q)) (edgeSide (queueEp q)) x).queue j = c.queue j := fun j => by
    unfold Chip.sent
    split <;> rfl
  have hflit : ({ x.flit with poison := x.flit.poison || false } : Flit) = x.flit := by rw [Bool.or_false]
  unfold Chip.deliver
  simp only [hx, hdst, hlane, hs, decide_true, beq_self_eq_true, Bool.not_false, Bool.and_self, if_true]
  rw [Chip.transfer_eq, hlane, hdrop, if_neg Bool.false_ne_true, hflit, Chip.takeFlit, if_pos hrt, hdst, Chip.sinks_sent, hs,
    if_neg Bool.false_ne_true, hlane, ejQ_queueEp hq, Chip.onQueue, Chip.queue_setQueue, if_pos rfl, hqueue, Queue.push,
    if_pos hroom]

/-- O14's push into an injection queue. -/
theorem queuePush_inject_takesEffect {k : ChipId} {q : QueueId} {s : State} {seen : Nat} {now : Moment} {f : Flit}
    {rest : List Flit} (hr : (s.chip k).running = true) (hq : isEject q = false) (hs : (s.chip k).sideRuns q true = true)
    (hu : (s.chip k).xng.up = true) (hw : ((s.chip k).queue q).waiting = f :: rest) :
    let c := ((s.chip k).at_ now (domainOfEp (queueEp q))).onQueue q (fun x => x.seeFreed seen)
    ((c.queue q).room 8 = true →
      ∃ t m, exec (.queuePush k q seen now) s = .next t ∧
        ((t.chip k).queue q).items = ((s.chip k).queue q).items ++ [{ f with msg := m }] ∧
        ((t.chip k).queue q).waiting.length = rest.length ∧ (f.head = false → m = f.msg) ∧
        (f.head = true → m.sameAs f.msg = true ∧ m.mode = c.modeOf (queueEp q) f.msg.dst ∧
          (m.mode = .fixed → m.stamp = c.tv (domainOfEp (queueEp q))))) ∧
    ((c.queue q).room 8 = false →
      ∃ t, exec (.queuePush k q seen now) s = .next t ∧
        ((t.chip k).queue q).items = ((s.chip k).queue q).items ∧ ((t.chip k).queue q).waiting = f :: rest) := by
  intro c
  have hc : (s.chip k).writing q seen now = c := by rw [Chip.writing, hq]; rfl
  have hcq : c.queue q = ((s.chip k).queue q).seeFreed seen := hc ▸ Chip.queue_writing _ _ _ _
  have hw' : (c.queue q).waiting = f :: rest := by rw [hcq]; exact hw
  have hex := exec_queuePush_inject (seen := seen) (now := now) hr hq hs hu hw
  rw [hc] at hex
  refine ⟨fun hroom => ⟨_, c.headMsg (queueEp q) f, hex, ?_⟩, fun hroom => ⟨_, hex, ?_⟩⟩
  · rw [State.chip_setChip_self, Chip.pushNext_taken hw' (by rw [queueDepth_of_inject hq]; exact hroom), hcq]
    exact ⟨rfl, List.length_map _, c.headMsg_of_not_head _, c.headMsg_of_head _⟩
  · rw [State.chip_setChip_self, Chip.pushNext_refused hw' (by rw [queueDepth_of_inject hq]; exact hroom), hcq]
    exact ⟨rfl, hw⟩

theorem exec_queuePush_eject {k : ChipId} {q : QueueId} {s : State} {seen : Nat} {now : Moment} {x : Candidate}
    (hr : (s.chip k).running = true) (hq : isEject q = true) (hd : 0 < queueDepth q)
    (hx : (((s.chip k).at_ now 72).onQueue q (fun x => x.seeFreed seen)).chosen (routerOf (queueEp q)) (edgeSide (queueEp q)) = some x)
    (hdst : x.flit.msg.dst = queueEp q) (hlane : x.flit.msg.lane = queueLane q) (hs : (s.chip k).sinks (queueEp q) = false)
    (hdrop : ((s.chip k).link (routerOf (queueEp q)) (edgeSide (queueEp q))).drop.getD x.flit.msg.lane.ix false = false) :
    ∃ t, exec (.queuePush k q seen now) s = .next t ∧
      ((t.chip k).queue q).items = ((s.chip k).queue q).items ++ [x.flit] := by
  have hside : (s.chip k).sideRuns q true = true := by simp [Chip.sideRuns, hq]
  have hc : (s.chip k).writing q seen now = ((s.chip k).at_ now 72).onQueue q (fun x => x.seeFreed seen) := by
    rw [Chip.writing, hq]; rfl
  refine ⟨_, exec_queuePush seen now hr hside hd, ?_⟩
  rw [State.chip_setChip_self, if_pos hq, hc, Chip.deliver_items hq hx hdst hlane
    ((Chip.sinks_of_regions (Chip.regions_at _ _ _) _).trans hs) (by rw [Chip.onQueue, Chip.link_setQueue_frame, Chip.link_at]; exact hdrop),
    ← hc, Chip.queue_writing]
  rfl

/-! ## Pops -/

theorem exec_queuePop_inject {k : ChipId} {q : QueueId} {s : State} {seen : Nat} {now : Moment} (hr : (s.chip k).running = true)
    (hq : isEject q = false) :
    exec (.queuePop k q seen now) s = .next (s.setChip k ((((s.chip k).at_ now 72).seeAt q seen).popInjection q)) := by
  have hside : (s.chip k).sideRuns q false = true := by simp [Chip.sideRuns, hq]
  have hd : 0 < queueDepth q := by rw [queueDepth_of_inject hq]; decide
  rw [exec, execQueuePop, hr, hside, decide_eq_true hd, hq]
  exact occurs_true _ _

/-- The router takes the oldest flit of an injection queue into its buffer (R205). -/
theorem Chip.popInjection_taken {c : Chip} {q : Nat} (hs : (c.queue q).seen ≠ []) (ho : (c.queue q).openFor false = true)
    (hb : c.bufferRoom (routerOf (queueEp q)) (inputSide (queueEp q)) (queueLane q) = true)
    (hn : queueEp q < 91 ∨ c.northAdmits (queueEp q) (queueLane q) = true) :
    (c.popInjection q).flying.length = c.flying.length + 1 ∧ ((c.popInjection q).queue q).items = (c.queue q).items.tail := by
  obtain ⟨f, l, hfl⟩ := List.exists_cons_of_ne_nil hs
  have hn' : (decide (91 ≤ queueEp q) && !c.northAdmits (queueEp q) (queueLane q)) = false := by
    rcases hn with h | h
    · simp [Nat.not_le.2 h]
    · simp [h]
  obtain ⟨g, items, hi⟩ := List.exists_cons_of_ne_nil (fun hnil : (c.queue q).items = [] => hs (by rw [Queue.seen, hnil, List.take_nil]))
  unfold Chip.popInjection
  extract_lets e lane x
  rw [show x.seen = f :: l from hfl]
  dsimp -zeta only
  simp -zeta only [show x.openFor false = true from ho, show c.bufferRoom (routerOf e) (inputSide e) lane = true from hb,
    show (decide (91 ≤ e) && !c.northAdmits e lane) = false from hn', Bool.not_true, Bool.or_self, Bool.false_eq_true, if_false]
  extract_lets c1 msg f1 c2 c3
  have htake : ((c.queue q).take 0).items = (c.queue q).items.tail := by simp [Queue.take, hi]
  have h1 : c1.queue q = c.queue q := by simp only [c1]; split <;> rfl
  have h2 : c2.queue q = (c.queue q).take 0 := by
    simp only [c2, Chip.onQueue, Chip.queue_setQueue, if_true]
    split <;> exact congrArg (Queue.take · 0) h1
  have h3 : c3.queue q = c2.queue q := by simp only [c3]; split <;> rfl
  have hf : c3.flying = c.flying := by
    simp only [c3, c2, c1]
    split_ifs <;> rfl
  constructor
  · rw [List.length_append, hf]
    rfl
  · exact (congrArg Queue.items (h3.trans h2)).trans htake

theorem exec_queuePop_eject {k : ChipId} {q : QueueId} {s : State} {seen : Nat} {now : Moment} {i : Nat}
    (hr : (s.chip k).running = true) (hq : isEject q = true) (hd : 0 < queueDepth q)
    (hs : (s.chip k).sideRuns q false = true)
    (hp : (((s.chip k).at_ now (domainOfEp (queueEp q))).seeAt q seen).poppable q = some i)
    (hh : (((s.chip k).at_ now (domainOfEp (queueEp q))).seeAt q seen).reqHeld q i = false)
    (hm : isMemoryEp (queueEp q) = true → ((s.chip k).chan (queueEp q - 72)).store.length < 128 ∧
      (queueLane q = .wr → ((s.chip k).ep (queueEp q)).popWr = []) ∧
      (queueLane q = .req → ((s.chip k).ep (queueEp q)).popReq = [])) :
    exec (.queuePop k q seen now) s =
      .next (s.setChip k ((((s.chip k).at_ now (domainOfEp (queueEp q))).seeAt q seen).popAt q i)) := by
  rw [exec, execQueuePop, hr, hs, decide_eq_true hd, hq]
  cases hmem : isMemoryEp (queueEp q)
  case false => simp only [hp, hh, if_true, Bool.not_true, Bool.false_eq_true, if_false, Bool.not_false, Bool.and_self,
    Bool.and_false, Bool.true_or, occurs_true]
  case true =>
    obtain ⟨hroom, hwr, hreq⟩ := hm hmem
    cases hl : queueLane q
    case wr => simp [hp, hh, hroom, hwr hl]
    case req => simp [hp, hh, hroom, hreq hl]
    all_goals simp [hp, hh, hroom]

/-! ## The handshake -/

theorem Queue.side_setSide (x : Queue) (w : Bool) (h : Handshake) : (x.setSide w h).side w = h := by cases w <;> rfl

theorem Queue.side_setSide_other (x : Queue) (w : Bool) (h : Handshake) : (x.setSide w h).side (!w) = x.side (!w) := by
  cases w <;> rfl

theorem Queue.items_setSide (x : Queue) (w : Bool) (h : Handshake) : (x.setSide w h).items = x.items := by cases w <;> rfl

theorem Queue.side_setSeesRip (x : Queue) (w v u : Bool) : (x.setSeesRip w v).side u = x.side u := by
  cases w <;> cases u <;> rfl

theorem Queue.items_setSeesRip (x : Queue) (w v : Bool) : (x.setSeesRip w v).items = x.items := by cases w <;> rfl

theorem Queue.side_setSeesAck (x : Queue) (w v u : Bool) : (x.setSeesAck w v).side u = x.side u := by
  cases w <;> cases u <;> rfl

theorem Chip.items_discardAt (c : Chip) (q : Nat) (w : Bool) : ((c.discardAt q w).queue q).items = [] := by
  rw [Chip.discardAt, Chip.onQueue, Chip.queue_setQueue, if_pos rfl]
  rfl

/-- The side that resets has no items and raises RIP; the other side's outputs stay (R177). -/
theorem Chip.queue_resetSide (c : Chip) (q : Nat) (w : Bool) : ((c.resetSide q w).queue q).items = [] ∧
    (((c.resetSide q w).queue q).side w).rip = true := by
  rw [Chip.resetSide, Chip.onQueue, Chip.queue_setQueue, if_pos rfl]
  exact ⟨(Queue.items_setSide _ _ _).trans (c.items_discardAt q w), by rw [Queue.side_setSide]⟩

theorem Chip.side_discardAt (c : Chip) (q : Nat) (w u : Bool) : ((c.discardAt q w).queue q).side u = (c.queue q).side u := by
  have out : ((c.discardOut q w).queue q).side u = (c.queue q).side u := by
    unfold Chip.discardOut
    extract_lets x e held gone c1 c2
    have h1 : (c1.queue q).side u = (c.queue q).side u := by
      have hc : (c.countDiscard e gone.length).queue q = c.queue q := by
        unfold Chip.countDiscard
        split_ifs <;> rfl
      simp only [c1, Chip.onQueue, Chip.queue_setQueue, if_true]
      rw [← hc]
      cases u <;> rfl
    have h2 : c2.queues = c1.queues := by
      clear_value held
      cases held with
      | nil => rfl
      | cons f l => exact Chip.Within.same (ps := [.tiles, .eps]) (by simp [c2]) .queues (by simp)
    have h3 : (c2.queue q).side u = (c.queue q).side u := by rw [← h1, Chip.queue, h2, Chip.queue]
    clear_value gone
    cases gone with
    | nil => exact h3
    | cons f l =>
      simp only
      split <;> exact h3
  have inn : ((c.discardIn q (!w)).queue q).side u = (c.queue q).side u := by
    have h : (c.discardIn q (!w)).queues = c.queues := Chip.Within.same (ps := [.regions, .xng, .eps]) (by simp) .queues (by simp)
    rw [Chip.queue, h, Chip.queue]
  rw [Chip.discardAt, Chip.onQueue, Chip.queue_setQueue, if_pos rfl]
  have he : ∀ x : Queue, x.empty_.side u = x.side u := fun x => by cases u <;> rfl
  rw [he]
  split
  · exact inn
  · exact out

/-- Both sides reset: no items, both RIP up (R180, R181). -/
theorem Chip.queue_resetQueue (c : Chip) (q : Nat) : ((c.resetQueue q).queue q).items = [] ∧
    (((c.resetQueue q).queue q).side true).rip = true ∧ (((c.resetQueue q).queue q).side false).rip = true := by
  obtain ⟨-, hw⟩ := c.queue_resetSide q true
  obtain ⟨hi, hr⟩ := (c.resetSide q true).queue_resetSide q false
  have hkeep : (((c.resetSide q true).resetSide q false).queue q).side true = ((c.resetSide q true).queue q).side true := by
    rw [Chip.resetSide, Chip.onQueue, Chip.queue_setQueue, if_pos rfl]
    exact (Queue.side_setSide_other _ false _).trans (Chip.side_discardAt _ q false true)
  rw [Chip.resetQueue, Chip.onQueue, Chip.queue_setQueue, if_pos rfl]
  exact ⟨hi, (congrArg Handshake.rip hkeep).trans hw, hr⟩

theorem exec_queueReset {k : ChipId} {q : QueueId} {s : State} {writer : Bool} (hr : (s.chip k).running = true)
    (hs : (s.chip k).sideRuns q writer = true) (hd : 0 < queueDepth q) :
    ∃ t, exec (.queueReset k q writer) s = .next t ∧ ((t.chip k).queue q).items = [] ∧
      (((t.chip k).queue q).side writer).rip = true := by
  refine ⟨_, by rw [exec, execQueueReset, hr, hs, decide_eq_true hd]; exact occurs_true _ _, ?_⟩
  rw [State.chip_setChip_self, Chip.onQueue, Chip.queue_setQueue, if_pos rfl]
  exact Chip.queue_resetSide _ q writer

theorem exec_queueRipSeen_rise {k : ChipId} {q : QueueId} {s : State} {writer : Bool} (hr : (s.chip k).running = true)
    (hs : (s.chip k).sideRuns q writer = true) (hd : 0 < queueDepth q)
    (hrip : (((s.chip k).queue q).side (!writer)).rip = true) (hsees : ((s.chip k).queue q).seesRip writer = false) :
    ∃ t, exec (.queueRipSeen k q writer) s = .next t ∧ ((t.chip k).queue q).items = [] ∧
      (((t.chip k).queue q).side writer).ack = true := by
  refine ⟨_, by rw [exec, execQueueRipSeen, hr, hs, decide_eq_true hd, hrip, hsees]; exact occurs_true _ _, ?_⟩
  rw [State.chip_setChip_self, if_pos rfl, Chip.onQueue, Chip.queue_setQueue, if_pos rfl, Queue.items_setSeesRip,
    Queue.items_setSide, Queue.side_setSeesRip, Queue.side_setSide]
  exact ⟨Chip.items_discardAt _ _ _, rfl⟩

theorem exec_queueRipSeen_fall {k : ChipId} {q : QueueId} {s : State} {writer : Bool} (hr : (s.chip k).running = true)
    (hs : (s.chip k).sideRuns q writer = true) (hd : 0 < queueDepth q)
    (hrip : (((s.chip k).queue q).side (!writer)).rip = false) (hsees : ((s.chip k).queue q).seesRip writer = true) :
    ∃ t, exec (.queueRipSeen k q writer) s = .next t ∧ ((t.chip k).queue q).items = ((s.chip k).queue q).items ∧
      (((t.chip k).queue q).side writer).ack = false := by
  refine ⟨_, by rw [exec, execQueueRipSeen, hr, hs, decide_eq_true hd, hrip, hsees]; exact occurs_true _ _, ?_⟩
  rw [State.chip_setChip_self, if_neg Bool.false_ne_true, Chip.onQueue, Chip.queue_setQueue, if_pos rfl,
    Queue.items_setSeesRip, Queue.items_setSide, Queue.side_setSeesRip, Queue.side_setSide]
  exact ⟨rfl, rfl⟩

theorem exec_queueAckSeen {k : ChipId} {q : QueueId} {s : State} {writer : Bool} (hr : (s.chip k).running = true)
    (hs : (s.chip k).sideRuns q writer = true) (hd : 0 < queueDepth q)
    (hack : (((s.chip k).queue q).side (!writer)).ack = true) (hsees : ((s.chip k).queue q).seesAck writer = false) :
    ∃ t, exec (.queueAckSeen k q writer) s = .next t ∧ (((t.chip k).queue q).side writer).rip = false := by
  refine ⟨_, by rw [exec, execQueueAckSeen, hr, hs, decide_eq_true hd, hack, hsees]; exact occurs_true _ _, ?_⟩
  rw [State.chip_setChip_self, Chip.queue_setQueue, if_pos rfl, if_pos rfl]
  exact congrArg Handshake.rip (Queue.side_setSide _ _ _)

theorem exec_handshakeTimeout {k : ChipId} {q : QueueId} {s : State} (hr : (s.chip k).running = true)
    (ho : ((s.chip k).queue q).isOpen = false) (ha : 1000 ≤ ((s.chip k).queue q).age) :
    ∃ t, exec (.handshakeTimeout k q) s = .next t ∧ ((t.chip k).queue q).items = [] ∧
      (((t.chip k).queue q).side true).rip = true ∧ (((t.chip k).queue q).side false).rip = true := by
  refine ⟨_, by rw [exec, execHandshakeTimeout, hr, ho, decide_eq_true ha]; exact occurs_true _ _, ?_⟩
  rw [State.chip_setChip_self, Chip.queue_fault_frame]
  exact Chip.queue_resetQueue _ _

/-- Settles O14. -/
theorem crossingQueuesTakeEffect : Obligations.CrossingQueuesTakeEffect := by
  intro k q s hr
  refine ⟨fun seen now f rest => fun hq hs hu hw => queuePush_inject_takesEffect hr hq hs hu hw,
    fun seen now x => fun hq hd hx hdst hlane hs hdrop => exec_queuePush_eject hr hq hd hx hdst hlane hs hdrop,
    fun seen now => fun hq hs ho hb hn => ⟨_, exec_queuePop_inject hr hq, ?_⟩,
    fun seen now i => fun hq hd hs hp hh hm => ⟨_, exec_queuePop_eject hr hq hd hs hp hh hm, ?_⟩,
    fun writer hs hd => ⟨exec_queueReset hr hs hd, exec_queueRipSeen_rise hr hs hd, exec_queueRipSeen_fall hr hs hd,
      exec_queueAckSeen hr hs hd⟩, exec_handshakeTimeout hr⟩
  · rw [State.chip_setChip_self]
    obtain ⟨hlen, hitems⟩ := Chip.popInjection_taken hs ho hb hn
    exact ⟨hlen.trans (congrArg (List.length · + 1) (Chip.flying_at _ _ _)), hitems⟩
  · rw [State.chip_setChip_self]
    exact Chip.items_popAt _ _ _

end Sys2Proof.Machine
end

section
/-! LEMMAS. The commit, the staged image path and the roll (chapter 07). Settles O16 and O17. -/

namespace Sys2Proof.Machine

-- In order, not in parallel: every elaborator thread that waits for another holds a stack within the check's memory limit.
set_option Elab.async false

variable {k : ChipId} {s : State}

@[simp] theorem Chip.img_fault (c : Chip) (f : Tag) (n i : Nat) : (c.fault f n i).img = c.img := rfl

@[simp] theorem Chip.img_onImg (c : Chip) (f : Img → Img) : (c.onImg f).img = f c.img := rfl

@[simp] theorem Chip.img_faultIf (c : Chip) (b : Bool) (f : Tag) (n i : Nat) : (c.faultIf b f n i).img = c.img := by
  cases b <;> rfl

/-! ## The commit -/

theorem exec_commit_accepted (hr : (s.chip k).running = true) (h : (s.chip k).commitFault = none) :
    ∃ t, exec (.commit k) s = .next t ∧ (t.chip k).img.pending = true ∧
      (t.chip k).img.snapE = (s.chip k).img.commitEpoch ∧ (t.chip k).img.snapA = (s.chip k).img.shadowA ∧
      (t.chip k).img.snapB = (s.chip k).img.shadowB := by
  refine ⟨_, by rw [exec, execCommit, hr]; exact occurs_true _ _, ?_⟩
  rw [State.chip_setChip_self]
  simp only [h, Chip.acceptCommit]
  split <;> exact ⟨rfl, rfl, rfl, rfl⟩

theorem exec_commit_refused {f : Tag} {n : Nat} (hr : (s.chip k).running = true)
    (h : (s.chip k).commitFault = some (f, n)) :
    ∃ t, exec (.commit k) s = .next t ∧ (t.chip k).img = (s.chip k).img ∧
      (t.chip k).hif.log.head? = some ⟨codeOf f n, noInstance, (s.chip k).time.epoch⟩ := by
  refine ⟨_, by rw [exec, execCommit, hr]; exact occurs_true _ _, ?_⟩
  rw [State.chip_setChip_self]
  simp only [h]
  exact ⟨rfl, rfl⟩

/-- What the end of a roll leaves of IMG. -/
@[simp] theorem Chip.img_endRoll (c : Chip) : c.endRoll.img = { c.img with
    rollActive := false, rollRegion := 255, rollPhase := .idle, rollNext := 0, rollCancel := false, rollWait := false
    rollTries := 0, rollApplied := false, commitCount := satAdd 32 c.img.commitCount 1 } := rfl

@[simp] theorem Chip.img_cancelStep (c : Chip) : c.cancelStep.img = c.img :=
  Chip.Within.same (ps := [.clk, .stew]) (by simp) .img (by simp)

/-- A commit cancel before E drops the pending commit and its step. -/
def Chip.uncommitted (c : Chip) : Chip :=
  if c.img.pending && decide (c.time.epoch < c.img.snapE) then
    (if c.img.snapA.step ≠ c.clk.mNow then c.cancelStep else c).onImg (fun i => { i with pending := false, snapStaged := false })
  else c

theorem Chip.img_uncommitted (c : Chip) :
    c.uncommitted.img.nowA = c.img.nowA ∧ c.uncommitted.img.rollActive = c.img.rollActive ∧
    c.uncommitted.img.pending = (c.img.pending && decide (c.img.snapE ≤ c.time.epoch)) := by
  unfold Chip.uncommitted
  split
  case isTrue h =>
    obtain ⟨hp, he⟩ := Bool.and_eq_true_iff.1 h
    have he : ¬ c.img.snapE ≤ c.time.epoch := by simpa using he
    split <;> simp [Chip.onImg, he]
  case isFalse h =>
    refine ⟨rfl, rfl, ?_⟩
    cases hp : c.img.pending with
    | false => rfl
    | true =>
      rw [hp, Bool.true_and, decide_eq_true_iff] at h
      simp [Nat.not_lt.1 h]

/-- A commit cancel ends a roll between its steps and asks a stepping one to end. -/
def Chip.commitCanceled (c : Chip) : Chip :=
  if !c.img.rollActive then c.uncommitted
  else if c.img.rollRegion = 255 then c.uncommitted.endRoll
  else c.uncommitted.onImg (fun i => { i with rollCancel := true })

theorem execCommitCancel_eq : execCommitCancel k s = occurs (s.chip k).running s (s.setChip k (s.chip k).commitCanceled) := rfl

theorem Chip.img_commitCanceled (c : Chip) :
    c.commitCanceled.img.nowA = c.img.nowA ∧
    c.commitCanceled.img.pending = (c.img.pending && decide (c.img.snapE ≤ c.time.epoch)) ∧
    (c.img.rollActive = true → c.commitCanceled.img.rollActive = decide (c.img.rollRegion ≠ 255) ∧
      (c.img.rollRegion ≠ 255 → c.commitCanceled.img.rollCancel = true)) := by
  obtain ⟨hA, hroll, hpend⟩ := c.img_uncommitted
  unfold Chip.commitCanceled
  split
  case isTrue h => exact ⟨hA, hpend, fun hn => by simp [hn] at h⟩
  case isFalse =>
    split
    case isTrue h255 => exact ⟨hA, hpend, fun _ => ⟨by simp [h255], fun h => absurd h255 h⟩⟩
    case isFalse h255 => exact ⟨hA, hpend, fun hn => ⟨by simpa [h255, Chip.onImg, hn] using hroll, fun _ => rfl⟩⟩

theorem exec_commitCancel (hr : (s.chip k).running = true) :
    ∃ t, exec (.commitCancel k) s = .next t ∧ (t.chip k).img.nowA = (s.chip k).img.nowA ∧
      (t.chip k).img.pending = ((s.chip k).img.pending && decide ((s.chip k).img.snapE ≤ (s.chip k).time.epoch)) ∧
      ((s.chip k).img.rollActive = true →
        (t.chip k).img.rollActive = decide ((s.chip k).img.rollRegion ≠ 255) ∧
        ((s.chip k).img.rollRegion ≠ 255 → (t.chip k).img.rollCancel = true)) := by
  refine ⟨_, by rw [exec, execCommitCancel_eq, hr]; exact occurs_true _ _, ?_⟩
  rw [State.chip_setChip_self]
  exact Chip.img_commitCanceled _

/-! ## Applying a commit -/

@[simp] theorem Chip.img_applyA (c : Chip) (a : ClassA) : (c.applyA a).img = { c.img with nowA := a } := by
  unfold Chip.applyA
  refine (foldl_keeps Chip.img (fun b h => ?_) _ _).trans (c.img_onImg _)
  rfl

/-- The staged image's COMMIT word is programmed, C_PENDING not yet judged. -/
def Chip.wordProgrammed (c : Chip) (ok : Bool) : Chip :=
  let i := c.img
  let b := slotBase i.stagedSlot
  let c1 := c.onImg (fun i => { i with staged := false, snapStaged := false })
  if ok then
    let gen := (readHeader c.flash b).generation
    let c2 := { c1 with flash := Memory.write c1.flash (b + 20) (natLE 4 0) }
    let c3 := c2.onImg (fun j => { j with useValid := true, useSlot := i.stagedSlot })
    c3.onBru (fun x => if i.stagedSlot = 0 then { x with genA := gen } else { x with genB := gen })
  else c1.fault .img 8 noInstance

theorem Chip.programCommitWord_eq (c : Chip) (ok : Bool) : c.programCommitWord ok =
    (c.wordProgrammed ok).onImg (fun j => { j with cPending := (c.wordProgrammed ok).committedC != j.nowC }) := rfl

/-- Programming the COMMIT word gives the staged image up and leaves the fields of the commit and of the roll. -/
theorem Chip.programCommitWord_leaves (c : Chip) (ok : Bool) :
    (c.programCommitWord ok).img.pending = c.img.pending ∧ (c.programCommitWord ok).img.nowA = c.img.nowA ∧
    (c.programCommitWord ok).img.appliedEpoch = c.img.appliedEpoch ∧ (c.programCommitWord ok).img.staged = false ∧
    (c.programCommitWord ok).img.rollActive = c.img.rollActive := by
  simp only [Chip.programCommitWord_eq, Chip.img_onImg]
  cases ok <;> simp [Chip.wordProgrammed, Chip.onBru]

@[simp] theorem Chip.img_checkLanes (c : Chip) (p : Nat) : (c.checkLanes p).img = c.img := by
  rw [Chip.checkLanes, Chip.img_faultIf]
  rfl

/-- The chip once class A has taken effect, the COMMIT word of a staged image is programmed and the lanes are checked. -/
def Chip.appliedA (c : Chip) (ok : Bool) : Chip :=
  let c1 := (c.applyA c.img.snapA).onImg (fun j => { j with pending := false, appliedEpoch := c.img.snapE })
  (List.range 16).foldl (fun c p => c.checkLanes p) (if c.img.snapStaged then c1.programCommitWord ok else c1)

theorem Chip.img_appliedA (c : Chip) (ok : Bool) :
    (c.appliedA ok).img.pending = false ∧ (c.appliedA ok).img.nowA = c.img.snapA ∧
    (c.appliedA ok).img.appliedEpoch = c.img.snapE ∧ (c.img.snapStaged = true → (c.appliedA ok).img.staged = false) ∧
    (c.appliedA ok).img.rollActive = c.img.rollActive := by
  have hlanes : (c.appliedA ok).img = _ := foldl_keeps Chip.img (fun c p => c.img_checkLanes p) _ _
  rw [hlanes]
  cases c.img.snapStaged with
  | false => simp
  | true =>
    obtain ⟨hp, hA, he, hs, hroll⟩ := Chip.programCommitWord_leaves
      ((c.applyA c.img.snapA).onImg (fun j => { j with pending := false, appliedEpoch := c.img.snapE })) ok
    exact ⟨hp, hA.trans (by simp), he, fun _ => hs, hroll.trans (by simp)⟩

/-- A commit that is applied starts the roll when none runs and one is needed. -/
def Chip.committed (c : Chip) (ok : Bool) : Chip :=
  if c.img.rollActive || !c.rollNeeded then
    (c.appliedA ok).onImg (fun j => { j with commitCount := satAdd 32 j.commitCount 1 })
  else (c.appliedA ok).onImg (fun j => { j with
    rollActive := true, rollB := c.img.snapB, rollPhase := .leaving, rollNext := 72, rollRegion := 255, skipped := 0
    rollTries := 0, rollWait := false, rollCancel := false, rollApplied := false })

theorem execCommitApply_eq {ok : Bool} : execCommitApply k ok s =
    occurs ((s.chip k).running && (s.chip k).img.pending && decide ((s.chip k).img.snapE ≤ (s.chip k).time.epoch)) s
      (s.setChip k (((s.chip k).committed ok).cause 17)) := rfl

theorem Chip.img_committed (c : Chip) (ok : Bool) :
    (c.committed ok).img.pending = false ∧ (c.committed ok).img.nowA = c.img.snapA ∧
    (c.committed ok).img.appliedEpoch = c.img.snapE ∧ (c.img.snapStaged = true → (c.committed ok).img.staged = false) ∧
    (c.img.rollActive = false → (c.committed ok).img.rollActive = c.rollNeeded) := by
  obtain ⟨hp, hA, he, hs, hroll⟩ := c.img_appliedA ok
  unfold Chip.committed
  split <;> simp only [Chip.img_onImg]
  case isTrue h =>
    refine ⟨hp, hA, he, hs, fun hn => hroll.trans ?_⟩
    rw [hn, Bool.false_or, Bool.not_eq_true'] at h
    rw [hn, h]
  case isFalse h =>
    refine ⟨hp, hA, he, hs, fun hn => ?_⟩
    rw [hn, Bool.false_or, Bool.not_eq_true', Bool.not_eq_false] at h
    rw [h]

theorem exec_commitApply {ok : Bool} (hr : (s.chip k).running = true) (hp : (s.chip k).img.pending = true)
    (he : (s.chip k).img.snapE ≤ (s.chip k).time.epoch) :
    ∃ t, exec (.commitApply k ok) s = .next t ∧ (t.chip k).img.pending = false ∧
      (t.chip k).img.nowA = (s.chip k).img.snapA ∧ (t.chip k).img.appliedEpoch = (s.chip k).img.snapE ∧
      ((s.chip k).img.snapStaged = true → (t.chip k).img.staged = false) ∧
      ((s.chip k).img.rollActive = false → (t.chip k).img.rollActive = (s.chip k).rollNeeded) := by
  refine ⟨_, by rw [exec, execCommitApply_eq, hr, hp, decide_eq_true he]; exact occurs_true _ _, ?_⟩
  rw [State.chip_setChip_self]
  exact Chip.img_committed _ _

/-! ## The staged image path -/

theorem exec_stage (hr : (s.chip k).running = true) (hp : (s.chip k).img.pending = false)
    (hroll : (s.chip k).img.rollActive = false) (hs : (s.chip k).img.staged = false)
    (hg : (s.chip k).img.staging = false) (hready : (s.chip k).bru.ready = true) :
    ∃ t, exec (.stage k) s = .next t ∧ (t.chip k).img.staging = true ∧
      (t.chip k).img.stagingSlot = (s.chip k).img.stageSlot := by
  refine ⟨_, by rw [exec, execStage, hr]; exact occurs_true _ _, ?_⟩
  rw [State.chip_setChip_self]
  simp only [hp, hroll, hs, hg, hready]
  exact ⟨rfl, rfl⟩

/-- The image that passes every check stands as the staged one; another is reported. -/
def Chip.stageEnded (c : Chip) : Chip :=
  let n := c.img.stagingSlot
  let v := imageValues (readHeader c.flash (slotBase n)).generation (imageRecords c.flash (slotBase n))
  let c1 := c.onImg (fun i => { i with staging := false, result := c.stageResult n })
  if c.stageResult n = 1 then
    c1.onImg (fun i => { i with
      shadowA := v.a, shadowB := v.b, staged := true, stagedSlot := n
      cPending := v.c != i.nowC || c.committedC != i.nowC })
  else (c1.faultIf (decide (c.stageResult n = 7) && !Machine.mapOk (classB v.b)) .die 1 noInstance).fault .img
    (if c.stageResult n = 8 then 4 else 1) noInstance

theorem execStageComplete_eq : execStageComplete k s = occurs ((s.chip k).running && (s.chip k).img.staging) s
    (s.setChip k ((s.chip k).stageEnded.cause 17)) := rfl

theorem Chip.img_stageEnded (c : Chip) :
    c.stageEnded.img.staging = false ∧ c.stageEnded.img.result = c.stageResult c.img.stagingSlot ∧
    (c.stageResult c.img.stagingSlot = 1 → c.stageEnded.img.staged = true) := by
  unfold Chip.stageEnded
  extract_lets n v c1
  have hc1 : c1.img = { c.img with staging := false, result := c.stageResult n } := c.img_onImg _
  split
  case isTrue => simp [hc1, n]
  case isFalse h => simp [hc1, n, h]

theorem exec_stageComplete (hr : (s.chip k).running = true) (hg : (s.chip k).img.staging = true) :
    ∃ t, exec (.stageComplete k) s = .next t ∧ (t.chip k).img.staging = false ∧
      (t.chip k).img.result = (s.chip k).stageResult (s.chip k).img.stagingSlot ∧
      ((s.chip k).stageResult (s.chip k).img.stagingSlot = 1 → (t.chip k).img.staged = true) := by
  refine ⟨_, by rw [exec, execStageComplete_eq, hr, hg]; exact occurs_true _ _, ?_⟩
  rw [State.chip_setChip_self]
  exact Chip.img_stageEnded _

theorem exec_abandon (hr : (s.chip k).running = true) (hs : (s.chip k).img.staged = true)
    (hf : ((s.chip k).img.pending && (s.chip k).img.snapStaged) = false) :
    ∃ t, exec (.abandon k) s = .next t ∧ (t.chip k).img.staged = false ∧
      (t.chip k).img.shadowA = (s.chip k).img.shadowA := by
  refine ⟨_, by rw [exec, execAbandon, hr, hs, hf]; exact occurs_true _ _, ?_⟩
  rw [State.chip_setChip_self]
  exact ⟨rfl, rfl⟩

/-- Settles O16. -/
theorem commitTakesEffect : Obligations.CommitTakesEffect := by
  unfold Obligations.CommitTakesEffect
  exact fun k s hr => ⟨exec_commit_accepted hr, fun _ _ => exec_commit_refused hr, exec_commitCancel hr,
    fun _ => exec_commitApply hr, exec_stage hr, exec_stageComplete hr, exec_abandon hr⟩

/-! ## The roll -/

theorem Chip.region_onRegion_self (c : Chip) (r : Nat) (f : Region → Region) : (c.onRegion r f).region r = f (c.region r) := by
  rw [Chip.onRegion, Chip.region_setRegion, if_pos rfl]

theorem Chip.region_onImg (c : Chip) (r : Nat) (f : Img → Img) : (c.onImg f).region r = c.region r := rfl

theorem bit_mark (n r : Nat) : bit (if bit n r then n else n + 2 ^ r) r = true := by
  split
  next h => exact h
  next h => exact bit_add_two_pow _ _ (by simpa using h)

theorem exec_rollStepStart {ph : RollPhase} {r : Nat} (hr : (s.chip k).running = true) (hroll : (s.chip k).img.rollActive = true)
    (hreg : (s.chip k).img.rollRegion = 255) (hw : (s.chip k).img.rollWait = false) (he : (s.chip k).img.rollEnded = false)
    (hs : (s.chip k).safetyHalt = false) (hn : (s.chip k).nextStep = some (ph, r)) :
    ∃ t, exec (.rollStepStart k) s = .next t ∧ (t.chip k).img.rollRegion = r ∧ (t.chip k).img.rollPhase = ph ∧
      ((t.chip k).region r).status ≠ .serving := by
  refine ⟨_, by rw [exec, execRollStepStart, hr, hroll, hreg, hw, he, hs]; exact occurs_true _ _, ?_⟩
  rw [State.chip_setChip_self]
  simp only [hn]
  refine ⟨rfl, rfl, ?_⟩
  rw [Chip.region_onImg, Chip.region_onRegion_self]
  by_cases h : ((s.chip k).region r).status = .serving <;> simp [h]

theorem Chip.stepping_some {c : Chip} {r : RegionId} (hroll : c.img.rollActive = true) (hreg : c.img.rollRegion = r.val)
    (ha : c.img.rollApplied = false) : c.stepping = some r.val := by
  rw [Chip.stepping, hroll, hreg, ha, decide_eq_true r.isLt]
  rfl

theorem Chip.cfg_leaveGang (c : Chip) (r : Nat) :
    ((c.leaveGang r).region r).cfg = { (c.region r).cfg with gangMaster := r } := by
  unfold Chip.leaveGang
  extract_lets others c1 c2
  have h1 : (c1.region r).cfg = { (c.region r).cfg with gangMaster := r } :=
    congrArg Region.cfg (c.region_onRegion_self r _)
  have h2 : c1.RegionEq Region.cfg c2 :=
    (Chip.regionEq_switchQueues (fun _ _ => rfl) c1 [r] false).trans (Chip.regionEq_switchQueues (fun _ _ => rfl) _ _ _)
  split
  · exact (h2 r).trans h1
  · exact (h2 r).trans h1

theorem Chip.cfg_joinGang (c : Chip) (r m : Nat) :
    ((c.joinGang r m).region r).cfg = { (c.region r).cfg with gangMaster := m } := by
  unfold Chip.joinGang
  extract_lets c1
  have h1 : (c1.region r).cfg = { (c.region r).cfg with gangMaster := m } :=
    congrArg Region.cfg (c.region_onRegion_self r _)
  exact (Chip.regionEq_switchQueues (g := Region.cfg) (fun _ _ => rfl) c1 _ true r).trans h1

theorem Chip.cfg_moveSpare (c : Chip) (r n : Nat) :
    ((c.moveSpare r n).region r).cfg = { (c.region r).cfg with spareFor := n } := by
  unfold Chip.moveSpare
  extract_lets old fromSpare fromNew c1 c2
  split
  next h => rw [← h]
  next h =>
    have h1 : c.RegionEq Region.cfg c1 := by
      simp only [c1]
      split <;> exact fun _ => rfl
    have h2 : c1.RegionEq Region.cfg c2 := by
      simp only [c2]
      split <;> exact fun _ => rfl
    rw [Chip.region_onRegion_self]
    exact congrArg (fun f : ClassB => { f with spareFor := n }) ((h1.trans h2) r)

theorem Chip.cfg_reportUnfixed (c : Chip) (s old new r : Nat) : ((c.reportUnfixed s old new).region r).cfg = (c.region r).cfg :=
  Chip.RegionEq.of_within (ps := [.hif]) Region.cfg (by simp) (by simp) r

/-- Of the roll's step, the change of a region's partition, retirement and fixed pairs. -/
def Chip.refielded (c1 c : Chip) (r : Nat) : Chip :=
  let now := (c.region r).cfg
  let new := classB c.img.rollB r
  (c1.changeRegion r (fun x => { x with
    cfg := { x.cfg with partition := new.partition, retire := new.retire, fixedTo := new.fixedTo }
    awaitModel := x.awaitModel || (new.partition != now.partition && decide (new.partition < 16))
    status := if new.retire then .retired else x.status })).reportUnfixed r now.fixedTo new.fixedTo

theorem Chip.cfg_refielded (c1 c : Chip) (r : Nat) : ((c1.refielded c r).region r).cfg = { (c1.region r).cfg with
    partition := (classB c.img.rollB r).partition, retire := (classB c.img.rollB r).retire
    fixedTo := (classB c.img.rollB r).fixedTo } := by
  unfold Chip.refielded
  rw [Chip.cfg_reportUnfixed, Chip.region_changeRegion_self]

theorem Chip.cfg_applyStep_leaving {c : Chip} (r : Nat) (copyUe : Bool) (hp : c.img.rollPhase = .leaving) :
    ((c.applyStep r copyUe).region r).cfg = { (c.region r).cfg with gangMaster := r } := by
  unfold Chip.applyStep
  extract_lets now new m moved c1 partMoved ca cb cc spared cd c2
  have hm : m = r := if_pos hp
  have h2 : c2 = c1 := if_pos hp
  rw [Chip.region_onImg, h2]
  by_cases hg : now.gangMaster = r
  · have hmoved : moved = false := by simp [moved, hm, hg]
    simp only [c1, hmoved, Bool.false_and, Bool.false_eq_true, if_false]
    exact congrArg (fun g => { now with gangMaster := g }) hg
  · have hmoved : (moved && now.gangMaster != r) = true := by simp [moved, hm, hg, Ne.symm hg]
    simp only [c1, hmoved, if_true]
    exact Chip.cfg_leaveGang _ _

theorem Chip.cfg_applyStep {c : Chip} (r : Nat) (copyUe : Bool) (hp : c.img.rollPhase ≠ .leaving) :
    ((c.applyStep r copyUe).region r).cfg = classB c.img.rollB r := by
  unfold Chip.applyStep
  extract_lets now new m moved c1 partMoved ca cb cc spared cd c2
  have hm : m = new.gangMaster := if_neg hp
  have hb : (cb.region r).cfg = { (c1.region r).cfg with
      partition := new.partition, retire := new.retire, fixedTo := new.fixedTo } := Chip.cfg_refielded c1 c r
  have h1 : (c1.region r).cfg = now ∧ (moved = false ∨ now.gangMaster = r) ∨
      (c1.region r).cfg = { now with gangMaster := r } := by
    cases hmv : moved with
    | false => exact .inl ⟨by simp [c1, hmv, now], .inl rfl⟩
    | true =>
      by_cases hg : now.gangMaster = r
      · exact .inl ⟨by simp [c1, hmv, hg, now], .inr hg⟩
      · refine .inr ?_
        simp only [c1, hmv, Bool.true_and, bne_iff_ne.2 hg, if_true]
        exact Chip.cfg_leaveGang _ _
  have hc : (cc.region r).cfg = { (cb.region r).cfg with gangMaster := new.gangMaster } := by
    simp only [cc]
    split
    · rw [hm]
      exact Chip.cfg_joinGang _ _ _
    next h =>
      have hgm : m = (cb.region r).cfg.gangMaster := by
        by_contra hne
        have hmr : m = r := by simpa [hne] using h
        rw [hb] at hne
        obtain ⟨h1, hno | hself⟩ | h1 := h1
        · exact hne (by rw [h1]; simpa [moved] using hno)
        · exact hne (by rw [h1, hmr]; exact hself.symm)
        · exact hne (by rw [h1]; exact hmr)
      rw [← hm, hgm]
  have hd : (cd.region r).cfg = { (cc.region r).cfg with spareFor := new.spareFor } := Chip.cfg_moveSpare _ _ _
  have h2 : (c2.region r).cfg = (cd.region r).cfg := by
    simp only [c2, if_neg hp]
    split
    · rw [Chip.region_onImg, Chip.region_onRegion_self]
    · rfl
  rw [Chip.region_onImg, h2, hd, hc, hb]

theorem exec_rollStepApply {r : RegionId} (hr : (s.chip k).running = true) (hroll : (s.chip k).img.rollActive = true)
    (hreg : (s.chip k).img.rollRegion = r.val) (ha : (s.chip k).img.rollApplied = false) (hd : (s.chip k).drained r = true)
    (hm : (s.chip k).stepMaster r ≠ ((s.chip k).region r).cfg.gangMaster → (s.chip k).clk.stepBusy = false) (copyUe : Bool) :
    ∃ t, exec (.rollStepApply k copyUe) s = .next t ∧ (t.chip k).img.rollApplied = true ∧
      ((s.chip k).img.rollPhase ≠ .leaving → ((t.chip k).region r).cfg = classB (s.chip k).img.rollB r) ∧
      ((s.chip k).img.rollPhase = .leaving →
        ((t.chip k).region r).cfg = { ((s.chip k).region r).cfg with gangMaster := r.val }) := by
  have hbusy : (((s.chip k).stepMaster r != ((s.chip k).region r).cfg.gangMaster) && (s.chip k).clk.stepBusy) = false := by
    rw [Bool.and_eq_false_iff]
    by_cases h : (s.chip k).stepMaster r = ((s.chip k).region r).cfg.gangMaster
    · exact .inl (by simp [h])
    · exact .inr (hm h)
  refine ⟨s.setChip k ((s.chip k).applyStep r copyUe), ?_, ?_⟩
  · simp only [exec, execRollStepApply, Chip.stepping_some hroll hreg ha, hr, hd, hbusy, Bool.not_false, Bool.and_self, occurs_true]
  rw [State.chip_setChip_self]
  exact ⟨rfl, Chip.cfg_applyStep _ _, Chip.cfg_applyStep_leaving _ _⟩

theorem exec_rollForcedDrain {r : RegionId} (hr : (s.chip k).running = true) (hroll : (s.chip k).img.rollActive = true)
    (hreg : (s.chip k).img.rollRegion = r.val) (ha : (s.chip k).img.rollApplied = false) (hd : (s.chip k).drained r = false)
    (h1 : (s.chip k).stepSingle r = false) (hf : (s.chip k).img.rollForced = false) (he : 50000 ≤ (s.chip k).img.rollEpochs) :
    ∃ t, exec (.rollForcedDrain k) s = .next t ∧ (t.chip k).img.rollForced = true ∧
      (t.chip k).hif.log.head? = some ⟨codeOf .img 5, r.val, (s.chip k).time.epoch⟩ := by
  refine ⟨s.setChip k ((((s.chip k).returnQueued r).onImg (fun i => { i with rollForced := true })).fault .img 5 r), ?_, ?_⟩
  · simp only [exec, execRollForcedDrain, Chip.stepping_some hroll hreg ha, hr, hd, h1, hf, decide_eq_true he, Bool.not_false,
      Bool.and_self, occurs_true]
  rw [State.chip_setChip_self]
  have ht : ((s.chip k).returnQueued r).time = (s.chip k).time :=
    Chip.Within.same (ps := [.tiles, .mem, .seq, .hif]) ((Chip.returnQueued_step _ r (by simp)).2 (.inl (.refl _ _))) .time (by simp)
  exact ⟨rfl, by rw [← ht]; rfl⟩

/-- What the roll does after its last attempt at a step. -/
theorem Chip.endRollIfDone_leaves (c : Chip) (hreg : c.img.rollRegion = 255) :
    c.endRollIfDone.img.rollRegion = 255 ∧ c.endRollIfDone.img.skipped = c.img.skipped ∧
    c.endRollIfDone.hif.log = c.hif.log ∧ c.endRollIfDone.regions = c.regions := by
  unfold Chip.endRollIfDone
  split
  · exact ⟨rfl, rfl, rfl, rfl⟩
  · exact ⟨hreg, rfl, rfl, rfl⟩

theorem exec_rollSingleTimeout_retry {r : RegionId} (hr : (s.chip k).running = true) (hroll : (s.chip k).img.rollActive = true)
    (hreg : (s.chip k).img.rollRegion = r.val) (ha : (s.chip k).img.rollApplied = false) (hd : (s.chip k).drained r = false)
    (h1 : (s.chip k).stepSingle r = true) (he : 4000 ≤ (s.chip k).img.rollEpochs) (ht : (s.chip k).img.rollTries < 7)
    (hc : (s.chip k).img.rollCancel = false) :
    ∃ t, exec (.rollSingleTimeout k) s = .next t ∧ (t.chip k).img.rollRegion = 255 ∧
      (t.chip k).img.rollWait = true ∧ (t.chip k).img.rollTries = (s.chip k).img.rollTries + 1 ∧
      (t.chip k).hif.log.head? = some ⟨codeOf .img 6, r.val, (s.chip k).time.epoch⟩ := by
  have hlast : ¬ 8 ≤ (s.chip k).img.rollTries + 1 := by omega
  refine ⟨s.setChip k ((((s.chip k).resume r).fault .img 6 r).onImg
    (fun i => { i with rollRegion := 255, rollWait := true, rollTries := i.rollTries + 1 })), ?_, ?_⟩
  · simp only [exec, execRollSingleTimeout, Chip.stepping_some hroll hreg ha, hr, hd, h1, hc, hlast, decide_eq_true he,
      decide_false, Bool.false_eq_true, if_false, Bool.not_false, Bool.and_self, occurs_true]
  rw [State.chip_setChip_self]
  exact ⟨rfl, rfl, rfl, rfl⟩

theorem exec_rollSingleTimeout_last {r : RegionId} (hr : (s.chip k).running = true) (hroll : (s.chip k).img.rollActive = true)
    (hreg : (s.chip k).img.rollRegion = r.val) (ha : (s.chip k).img.rollApplied = false) (hd : (s.chip k).drained r = false)
    (h1 : (s.chip k).stepSingle r = true) (he : 4000 ≤ (s.chip k).img.rollEpochs) (ht : 7 ≤ (s.chip k).img.rollTries) :
    ∃ t, exec (.rollSingleTimeout k) s = .next t ∧ (t.chip k).img.rollRegion = 255 ∧
      bit (t.chip k).img.skipped r = true ∧
      (t.chip k).hif.log.head? = some ⟨codeOf .img 7, r.val, (s.chip k).time.epoch⟩ := by
  have hlast : 8 ≤ (s.chip k).img.rollTries + 1 := by omega
  refine ⟨s.setChip k (((((s.chip k).resume r).fault .img 6 r).onImg (fun i => { (i.passRegion r) with
    skipped := if bit i.skipped r then i.skipped else i.skipped + 2 ^ r.val })).fault .img 7 r).endRollIfDone, ?_, ?_⟩
  · simp only [exec, execRollSingleTimeout, Chip.stepping_some hroll hreg ha, hr, hd, h1, hlast, decide_eq_true he,
      decide_true, if_true, Bool.not_false, Bool.and_self, occurs_true]
  rw [State.chip_setChip_self]
  obtain ⟨hreg', hskip, hlog, -⟩ := Chip.endRollIfDone_leaves (((((s.chip k).resume r).fault .img 6 r).onImg (fun i =>
    { (i.passRegion r) with skipped := if bit i.skipped r then i.skipped else i.skipped + 2 ^ r.val })).fault .img 7 r) rfl
  rw [hreg', hskip, hlog]
  exact ⟨rfl, bit_mark _ _, rfl⟩

theorem Chip.tilesWork_congr {c d : Chip} {r : Nat} (h : (d.region r).cfg = (c.region r).cfg)
    (hp : (d.region r).posFail = (c.region r).posFail) : d.tilesWork r = c.tilesWork r := by
  simp only [Chip.tilesWork, Chip.positionOf, h, hp]

theorem Chip.status_resume {c : Chip} {r : Nat} (hs : (c.region r).status = .out) :
    ((c.resume r).region r).status =
      if (c.region r).cfg.partition < 16 ∧ c.tilesWork r = true ∧ (c.region r).retireLater = false ∧
        (c.region r).isoSinkOn = false ∧ (c.region r).awaitTiles = [] ∧ (c.region r).awaitModel = false ∧
        (c.region r).awaitLock = false ∧ c.stew.coolantStop = false then .serving else .out := by
  rw [Chip.resume, Chip.region_onRegion_self, apply_ite Region.status, hs]
  refine if_congr ?_ rfl rfl
  simp [and_assoc]

theorem Chip.status_stepStatus (c : Chip) (r : Nat) : ((c.stepStatus r).region r).status =
    (if (c.region r).cfg.retire = true then .retired
     else if 15 < (c.region r).cfg.partition ∨ c.img.rollParted = true ∨ c.img.rollCopyUe = true then .out
     else if (c.region r).isoSinkOn = true then .isolated
     else if c.tilesWork r = true ∧ (c.region r).retireLater = false ∧ (c.region r).awaitTiles = [] ∧
       (c.region r).awaitModel = false ∧ (c.region r).awaitLock = false ∧ c.stew.coolantStop = false then .serving
     else .out) := by
  unfold Chip.stepStatus
  extract_lets x as c1
  have hx : c1.region r = x := Chip.region_faultIf_frame _ _ _ _ _ _
  have has : ∀ st, ((as c1 st).region r) = { x with status := st } := fun st => by
    simp only [as]
    rw [Chip.region_onRegion_self, hx]
  have hout : (decide (15 < x.cfg.partition) || c.img.rollParted || c.img.rollCopyUe) = true ↔
      15 < x.cfg.partition ∨ c.img.rollParted = true ∨ c.img.rollCopyUe = true := by simp [or_assoc]
  rw [apply_ite (fun d : Chip => (d.region r).status), apply_ite (fun d : Chip => (d.region r).status),
    apply_ite (fun d : Chip => (d.region r).status), has, has, has]
  refine if_congr Iff.rfl rfl (ite_congr (propext hout) (fun _ => rfl) fun h => ite_congr rfl (fun _ => rfl) fun hi => ?_)
  have hstew : (as c1 .out).stew = c.stew := Chip.Within.same (ps := [.regions, .hif]) (by simp [as, c1]) .stew (by simp)
  have hw : (as c1 .out).tilesWork r = c.tilesWork r := Chip.tilesWork_congr (by rw [has]) (by rw [has])
  rw [Chip.status_resume (by rw [has]), has, hw, hstew]
  refine if_congr ?_ rfl rfl
  have hp : x.cfg.partition < 16 := Nat.lt_succ_of_le (Nat.le_of_not_lt fun hlt => h (.inl hlt))
  simp [hp, hi, x]

theorem exec_rollStepEnd {r : RegionId} (hr : (s.chip k).running = true) (hroll : (s.chip k).img.rollActive = true)
    (hreg : (s.chip k).img.rollRegion = r.val) (ha : (s.chip k).img.rollApplied = true)
    (hm : (s.chip k).img.rollMoved = true → ((s.chip k).region r).cfg.retire = true ∨ ((s.chip k).region r).isoSinkOn = true ∨
      (if ((s.chip k).gen r).state = .slaved then ((s.chip k).gen r).deskewed else (s.chip k).lockedFor r) = true) :
    ∃ t, exec (.rollStepEnd k) s = .next t ∧ (t.chip k).img.rollRegion = 255 ∧
      ((t.chip k).region r).status =
        (if ((s.chip k).region r).cfg.retire = true then .retired
         else if 15 < ((s.chip k).region r).cfg.partition ∨ (s.chip k).img.rollParted = true ∨
           (s.chip k).img.rollCopyUe = true then .out
         else if ((s.chip k).region r).isoSinkOn = true then .isolated
         else if (s.chip k).tilesWork r = true ∧ ((s.chip k).region r).retireLater = false ∧
           ((s.chip k).region r).awaitTiles = [] ∧ ((s.chip k).region r).awaitModel = false ∧
           ((s.chip k).region r).awaitLock = false ∧ (s.chip k).stew.coolantStop = false then .serving
         else .out) := by
  have hresumes : (!(s.chip k).img.rollMoved || ((s.chip k).region r).cfg.retire || ((s.chip k).region r).isoSinkOn ||
      (if ((s.chip k).gen r).state = .slaved then ((s.chip k).gen r).deskewed else (s.chip k).lockedFor r)) = true := by
    cases h : (s.chip k).img.rollMoved with
    | false => rfl
    | true =>
      simp only [Bool.or_eq_true]
      obtain h | h | h := hm h
      · exact .inl (.inl (.inr h))
      · exact .inl (.inr h)
      · exact .inr h
  refine ⟨s.setChip k ((((s.chip k).stepStatus r).onImg (fun i => i.passRegion r)).endRollIfDone), ?_, ?_⟩
  · simp only [exec, execRollStepEnd, hreg, hr, hroll, ha, hresumes, decide_eq_true r.isLt, Bool.and_self, occurs_true]
  rw [State.chip_setChip_self]
  obtain ⟨hend, -, -, hregs⟩ := Chip.endRollIfDone_leaves (((s.chip k).stepStatus r).onImg (fun i => i.passRegion r)) rfl
  refine ⟨hend, ?_⟩
  rw [Chip.region, hregs]
  exact Chip.status_stepStatus _ _

/-- Settles O17. -/
theorem rollTakesEffect : Obligations.RollTakesEffect := by
  unfold Obligations.RollTakesEffect
  exact fun k s hr hroll => ⟨fun _ _ => exec_rollStepStart hr hroll,
    fun _ hreg ha => ⟨exec_rollStepApply hr hroll hreg ha, exec_rollForcedDrain hr hroll hreg ha,
      fun hd h1 he => ⟨exec_rollSingleTimeout_retry hr hroll hreg ha hd h1 he,
        exec_rollSingleTimeout_last hr hroll hreg ha hd h1 he⟩⟩,
    fun _ => exec_rollStepEnd hr hroll⟩

end Sys2Proof.Machine
end

section
/-! LEMMAS. The Spine (chapter 05). Refutes O15. -/

namespace Sys2Proof.Machine

-- In order, not in parallel: every elaborator thread that waits for another holds a stack within the check's memory limit.
set_option Elab.async false

/-- A chip whose region 0 takes the RSP of TAG 0, while a SEND of its tile 0 has a message on lane RSP for the region itself to issue.
Every clause about RSP_ARRIVE at the known TAG holds of its endpoint but for that message. -/
def loopedSend : Chip :=
  { powered := true, held := false
    gens := ({} : Bank Gen).set 0 { state := .locked }
    eps := ({} : Bank Endpoint).set 0 {
      popRsp := [{ lane := .rsp, src := 1, dst := 0 }], outstanding := [{ tag := 0, dst := 1, flits := 1 }] }
    tiles := ({} : Bank Tile).set 0 {
      issued := [{ off := 0, kind := .send 0 0 [{ msg := { lane := .rsp, src := 0, dst := 0 } }] }] } }

/-- The state with that chip in slot 0. -/
def loopedSendState : State := { chips := ({} : Bank Chip).set 0 loopedSend }

theorem loopedSend_running : (loopedSendState.chip 0).running = true := by decide

theorem loopedSend_popRsp : ∀ t, exec (.rspArrive 0 0) loopedSendState = .next t → ((t.chip 0).ep 0).popRsp.length = 1 := by
  intro t ht
  cases ht
  decide +kernel

/-- Refutes O15: the RSP is taken from a region's list, but the region's pending SEND issues at once its message to the region itself, which
stands on the list if its lane is RSP; no clause bounds the lanes of pending messages. -/
theorem not_spineEventsTakeEffect : ¬ Obligations.SpineEventsTakeEffect := by
  unfold Obligations.SpineEventsTakeEffect
  intro h
  obtain ⟨-, -, -, -, harrive, -⟩ := h 0 loopedSendState loopedSend_running
  obtain ⟨t, ht, hpop, -⟩ := harrive 0 { lane := .rsp, src := 1, dst := 0 } [] (by decide) (by decide) (by decide)
  have h1 := loopedSend_popRsp t ht
  rw [show ((t.chip 0).ep 0).popRsp = [] from hpop] at h1
  exact absurd h1 (by decide)

end Sys2Proof.Machine
end

section
/-! LEMMAS. The commands of a ring: completions, the session commands, reads and counters (chapter 11). Settles O30 and O31. -/

namespace Sys2Proof.Machine

-- In order, not in parallel: every elaborator thread that waits for another holds a stack within the check's memory limit.
set_option Elab.async false

variable {k : ChipId} {g : RingId} {s : State} {bs : List Byte}

/-! ## Completions -/

theorem Chip.hasPosted_complete (c : Chip) (g : Nat) (bs : List Byte) (status code res0 res1 : Nat) :
    (c.complete g bs status code res0 res1).hasPosted g (c.commandEntry bs status code res0 res1) := c.hasPosted_post g _

@[simp] theorem Chip.session_post (c : Chip) (g i : Nat) (x : Completion) : (c.post g x).session i = c.session i := by
  unfold Chip.post
  split
  · rfl
  · simp only [Chip.session, Chip.faultIf_seq]
    rfl

@[simp] theorem Chip.time_post (c : Chip) (g : Nat) (x : Completion) : (c.post g x).time = c.time := by
  unfold Chip.post
  split
  · rfl
  · exact Chip.faultIf_time _ _ _ _ _

@[simp] theorem Chip.ring_post (c : Chip) (g i : Nat) (x : Completion) : (c.post g x).ring i = c.ring i := by
  unfold Chip.post
  split
  · rfl
  · cases !c.seq.holdFault.contains g <;> rfl

@[simp] theorem Chip.session_complete (c : Chip) (g i : Nat) (bs : List Byte) (status code res0 res1 : Nat) :
    (c.complete g bs status code res0 res1).session i = c.session i := c.session_post g i _

@[simp] theorem Chip.ring_complete (c : Chip) (g i : Nat) (bs : List Byte) (status code res0 res1 : Nat) :
    (c.complete g bs status code res0 res1).ring i = c.ring i := c.ring_post g i _

@[simp] theorem Chip.session_frameCompletion (c : Chip) (i j status gen err flags epoch releases : Nat) (late spec : Bool) :
    (c.frameCompletion i status gen err flags late spec epoch releases).session j = c.session j := c.session_post _ j _

@[simp] theorem Chip.time_frameCompletion (c : Chip) (i status gen err flags epoch releases : Nat) (late spec : Bool) :
    (c.frameCompletion i status gen err flags late spec epoch releases).time = c.time := c.time_post _ _

@[simp] theorem Chip.session_popCommand (c : Chip) (g i : Nat) : (c.popCommand g).session i = c.session i := rfl

theorem Chip.handed_popCommand (c : Chip) (g : Nat) : ((c.popCommand g).ring g).handed = (c.ring g).handed.tail := by
  simp [Chip.popCommand]

/-- A command that a ring hands over runs. -/
theorem ringCommand_eq {op n : Nat} (f : Chip → List Byte → Chip) (h : (s.chip k).atCommand g op n bs) :
    ringCommand k g op n s f = .next (s.setChip k (f (s.chip k) bs)) := by
  obtain ⟨hr, hready, hroom, hf⟩ := h
  simp only [ringCommand, hf, hr, hready, hroom, Bool.and_self]
  exact occurs_true _ _

/-! ## Descriptors -/

theorem Chip.session_cacheSession (c : Chip) (i j : Nat) : (c.cacheSession i).session j = c.session j := by
  rw [Chip.session, c.sessions_cacheSession i, Chip.session]

theorem Chip.time_cacheSession (c : Chip) (i : Nat) : (c.cacheSession i).time = c.time :=
  Chip.Within.same (ps := [.mem, .seq]) (by simp) .time (by simp)

theorem Chip.hif_cacheSession (c : Chip) (i : Nat) : (c.cacheSession i).hif = c.hif :=
  Chip.Within.same (ps := [.mem, .seq]) (by simp) .hif (by simp)

theorem Chip.ring_cacheSession (c : Chip) (i j : Nat) : (c.cacheSession i).ring j = c.ring j := by
  rw [Chip.ring, c.hif_cacheSession i, Chip.ring]

theorem Chip.session_useSession_self (c : Chip) (i : Nat) (f : Session → Session) :
    (c.useSession i f).session i = f (c.session i) := by
  simp [Chip.useSession, Chip.session_cacheSession]

theorem Chip.ring_useSession (c : Chip) (i j : Nat) (f : Session → Session) : (c.useSession i f).ring j = c.ring j :=
  (Chip.ring_cacheSession c i j : _)

theorem Chip.time_useSession (c : Chip) (i : Nat) (f : Session → Session) : (c.useSession i f).time = c.time :=
  (Chip.time_cacheSession c i : _)

/-- An accepted command leaves its ring and posts an OK completion. -/
theorem Chip.accept_leaves (c : Chip) (g : Nat) (bs : List Byte) (res0 : Nat) :
    ((c.accept g bs res0).ring g).handed = (c.ring g).handed.tail ∧
    (c.accept g bs res0).hasPosted g (c.commandEntry bs 0 0 res0) ∧ ∀ i, (c.accept g bs res0).session i = c.session i := by
  refine ⟨?_, ?_, fun i => ?_⟩
  · rw [Chip.accept, Chip.ring_complete, Chip.handed_popCommand]
  · exact Chip.hasPosted_complete (c.popCommand g) g bs 0 0 res0 0
  · rw [Chip.accept, Chip.session_complete, Chip.session_popCommand]

theorem Chip.commandEntry_congr {c d : Chip} (h : d.time = c.time) (bs : List Byte) (status code res0 res1 : Nat) :
    d.commandEntry bs status code res0 res1 = c.commandEntry bs status code res0 res1 := by
  simp only [Chip.commandEntry, h]

/-! ## The session commands -/

theorem exec_openSession (h : (s.chip k).atCommand g 0x01 1 bs) (hg : entryField bs 13 1 = g.val)
    (hx : ((s.chip k).session (entrySession bs)).state = .free) (hb : openBad bs = false) :
    ∃ t, exec (.openSession k g) s = .next t ∧
      (t.chip k).session (entrySession bs) = ((s.chip k).session (entrySession bs)).opened bs ∧
      ((t.chip k).ring g).handed = ((s.chip k).ring g).handed.tail ∧
      (t.chip k).hasPosted g ((s.chip k).commandEntry bs 0 0) := by
  refine ⟨s.setChip k ((((s.chip k).useSession (entrySession bs) (fun x => x.opened bs))).accept g bs), ?_, ?_⟩
  · rw [exec, execOpenSession, ringCommand_eq _ h]
    simp only [hg, hx, hb, ne_eq, not_true_eq_false, decide_false, Bool.or_self, Bool.false_eq_true, if_false]
  rw [State.chip_setChip_self]
  obtain ⟨hring, hpost, hsess⟩ := ((s.chip k).useSession (entrySession bs) (fun x => x.opened bs)).accept_leaves g bs 0
  refine ⟨by rw [hsess, Chip.session_useSession_self], by rw [hring, Chip.ring_useSession], ?_⟩
  rwa [Chip.commandEntry_congr (Chip.time_useSession _ _ _)] at hpost

/-- An ARM that its ring hands over with this PREDICT. -/
theorem armOf_eq {predict : Bool} (h : (s.chip k).atCommand g 0x02 1 bs) (hp : (entryField bs 12 1 == 1) = predict) :
    armOf k g predict s = .next (s.setChip k ((s.chip k).armWith g bs predict)) := by
  obtain ⟨hr, hready, hroom, hf⟩ := h
  simp only [armOf, hf, hr, hready, hroom, hp, Bool.and_self, beq_self_eq_true]
  exact occurs_true _ _

/-- ARM of an OPEN session without run-ahead takes it to ARMED. -/
theorem Chip.session_armWith_armed {c : Chip} {predict : Bool} (hw : c.wrongRing g (entrySession bs) = false)
    (hx : (c.session (entrySession bs)).state = .open_)
    (hp : (predict && c.runaheadNow (c.session (entrySession bs)).partition) = false) :
    (c.armWith g bs predict).session (entrySession bs) = (c.session (entrySession bs)).armed (entryField bs 16 4) := by
  simp only [Chip.armWith, hw, hx, hp, Bool.false_eq_true, if_false, Chip.session_useSession_self, Chip.session_popCommand]

theorem exec_arm_open (h : (s.chip k).atCommand g 0x02 1 bs) (hp : entryField bs 12 1 ≠ 1)
    (hw : (s.chip k).wrongRing g (entrySession bs) = false)
    (hx : ((s.chip k).session (entrySession bs)).state = .open_) :
    ∃ t, exec (.arm k g) s = .next t ∧ ((t.chip k).session (entrySession bs)).state = .armed ∧
      ((t.chip k).session (entrySession bs)).audioLine =
        (if entryField bs 16 4 = 0 then ((s.chip k).session (entrySession bs)).audioLine else entryField bs 16 4) := by
  refine ⟨_, armOf_eq h (beq_false_of_ne hp), ?_⟩
  rw [State.chip_setChip_self, Chip.session_armWith_armed hw hx rfl]
  exact ⟨rfl, rfl⟩

theorem exec_arm_running (h : (s.chip k).atCommand g 0x02 1 bs) (hp : entryField bs 12 1 ≠ 1)
    (hw : (s.chip k).wrongRing g (entrySession bs) = false)
    (hx : ((s.chip k).session (entrySession bs)).state = .running)
    (ha : ((s.chip k).session (entrySession bs)).armPending = false) :
    ∃ t, exec (.arm k g) s = .next t ∧ ((t.chip k).session (entrySession bs)).state = .running ∧
      ((t.chip k).session (entrySession bs)).armPending = true := by
  refine ⟨_, armOf_eq h (beq_false_of_ne hp), ?_⟩
  rw [State.chip_setChip_self]
  simp only [Chip.armWith, hw, hx, ha, Bool.false_eq_true, if_false, Chip.session_useSession_self, Chip.session_popCommand]
  exact ⟨hx, rfl⟩

theorem exec_armPredict_ahead (h : (s.chip k).atCommand g 0x02 1 bs) (hp : entryField bs 12 1 = 1)
    (hw : (s.chip k).wrongRing g (entrySession bs) = false)
    (hx : ((s.chip k).session (entrySession bs)).state = .open_)
    (ha : (s.chip k).runaheadNow ((s.chip k).session (entrySession bs)).partition = true) :
    ∃ t, exec (.armPredict k g) s = .next t ∧ ((t.chip k).session (entrySession bs)).state = .ahead ∧
      ((t.chip k).session (entrySession bs)).confirmed = false ∧
      ((t.chip k).session (entrySession bs)).deadline =
        (s.chip k).nextTick + (s.chip k).classDeadline ((s.chip k).session (entrySession bs)).cls := by
  refine ⟨_, armOf_eq h (by rw [hp]; rfl), ?_⟩
  rw [State.chip_setChip_self]
  simp only [Chip.armWith, hw, hx, ha, Bool.false_eq_true, if_false, Bool.and_self, if_true]
  have hs : (((((s.chip k).popCommand g).useSession (entrySession bs)
      (fun x => (s.chip k).aheadSession x (entryField bs 16 4))).onSeq (fun q => { q with ahead := q.ahead + 1 })).session
        (entrySession bs)) = (s.chip k).aheadSession ((s.chip k).session (entrySession bs)) (entryField bs 16 4) :=
    Chip.session_useSession_self ((s.chip k).popCommand g) (entrySession bs) fun x =>
      (s.chip k).aheadSession x (entryField bs 16 4)
  rw [hs]
  exact ⟨rfl, rfl, rfl⟩

theorem exec_armPredict_armed (h : (s.chip k).atCommand g 0x02 1 bs) (hp : entryField bs 12 1 = 1)
    (hw : (s.chip k).wrongRing g (entrySession bs) = false)
    (hx : ((s.chip k).session (entrySession bs)).state = .open_)
    (ha : (s.chip k).runaheadNow ((s.chip k).session (entrySession bs)).partition = false) :
    ∃ t, exec (.armPredict k g) s = .next t ∧ ((t.chip k).session (entrySession bs)).state = .armed := by
  refine ⟨_, armOf_eq h (by rw [hp]; rfl), ?_⟩
  rw [State.chip_setChip_self, Chip.session_armWith_armed hw hx (by rw [ha]; rfl)]
  rfl

theorem exec_confirm (h : (s.chip k).atCommand g 0x03 1 bs)
    (hw : (s.chip k).wrongRing g (entrySession bs) = false)
    (hx : ((s.chip k).session (entrySession bs)).state = .ahead) :
    let x := (s.chip k).session (entrySession bs)
    (x.held = true → ∃ t, exec (.confirm k g) s = .next t ∧ ((t.chip k).session (entrySession bs)).state = .open_ ∧
      ((t.chip k).session (entrySession bs)).cur = (!x.cur) ∧
      ((t.chip k).session (entrySession bs)).frame = (x.frame + 1) % 2 ^ 32) ∧
    (x.held = false → x.inFlight = true → ∃ t, exec (.confirm k g) s = .next t ∧
      ((t.chip k).session (entrySession bs)).state = .ahead ∧ ((t.chip k).session (entrySession bs)).confirmed = true) ∧
    (x.held = false → x.inFlight = false → ∃ t, exec (.confirm k g) s = .next t ∧
      ((t.chip k).session (entrySession bs)).state = .armed) := by
  have hexec : ∃ c, exec (.confirm k g) s = .next (s.setChip k c) ∧ c =
      let c1 := ((s.chip k).popCommand g).cacheSession (entrySession bs)
      let x := (s.chip k).session (entrySession bs)
      let late := decide (x.deadline ≤ (s.chip k).time.epoch)
      if x.held then c1.confirmHeld (entrySession bs) late
      else if x.inFlight then
        c1.onSession (entrySession bs) (fun x => { x with confirmed := true, heldLate := x.heldLate || late })
      else c1.onSession (entrySession bs) (fun x => { x with state := .armed, confirmed := false, tickAt := 0 }) := by
    refine ⟨_, by rw [exec, execConfirm, ringCommand_eq _ h], ?_⟩
    simp only [hw, hx, Bool.false_eq_true, if_false, ne_eq, not_true_eq_false]
  obtain ⟨c, hexec, hc⟩ := hexec
  refine ⟨fun hh => ⟨_, hexec, ?_⟩, fun hh hi => ⟨_, hexec, ?_⟩, fun hh hi => ⟨_, hexec, ?_⟩⟩ <;>
    rw [State.chip_setChip_self, hc]
  · simp [hh, Chip.confirmHeld, Chip.session_cacheSession]
  · simp [hh, hi, Chip.session_cacheSession, hx]
  · simp [hh, hi, Chip.session_cacheSession]

theorem Chip.session_cancelAhead (c : Chip) (i : Nat) : (c.cancelAhead i).session i = { c.session i with
    state := .open_, held := false, confirmed := false, cancelled := false, readmit := false } := by
  simp [Chip.cancelAhead]

/-- A decided cancel waits for the item in flight, or takes the session to OPEN. -/
theorem Chip.session_decideCancel (c : Chip) (i : Nat) :
    ((c.session i).inFlight = true → (c.decideCancel i).session i = { c.session i with cancelled := true }) ∧
    ((c.session i).inFlight = false → (c.decideCancel i).session i = { c.session i with
      state := .open_, held := false, confirmed := false, cancelled := false, readmit := false }) := by
  refine ⟨fun h => ?_, fun h => ?_⟩
  · simp [Chip.decideCancel, h, Chip.session_cacheSession]
  · simp only [Chip.decideCancel, h, Bool.false_eq_true, if_false, Chip.session_cancelAhead, Chip.session_cacheSession]

theorem exec_cancel (h : (s.chip k).atCommand g 0x04 1 bs) (hw : (s.chip k).wrongRing g (entrySession bs) = false)
    (hx : ((s.chip k).session (entrySession bs)).state = .ahead) :
    let x := (s.chip k).session (entrySession bs)
    (x.inFlight = false → ∃ t, exec (.cancel k g) s = .next t ∧ ((t.chip k).session (entrySession bs)).state = .open_ ∧
      ((t.chip k).session (entrySession bs)).cur = x.cur) ∧
    (x.inFlight = true → ∃ t, exec (.cancel k g) s = .next t ∧ ((t.chip k).session (entrySession bs)).state = .ahead ∧
      ((t.chip k).session (entrySession bs)).cancelled = true) := by
  have hexec : exec (.cancel k g) s = .next (s.setChip k (((s.chip k).popCommand g).decideCancel (entrySession bs))) := by
    rw [exec, execCancel, ringCommand_eq _ h]
    simp only [hw, hx, Bool.false_eq_true, if_false, ne_eq, not_true_eq_false]
  obtain ⟨hflight, hidle⟩ := ((s.chip k).popCommand g).session_decideCancel (entrySession bs)
  refine ⟨fun hi => ⟨_, hexec, ?_⟩, fun hi => ⟨_, hexec, ?_⟩⟩ <;> rw [State.chip_setChip_self]
  · rw [hidle hi]
    exact ⟨rfl, rfl⟩
  · rw [hflight hi]
    exact ⟨hx, rfl⟩

/-- CLOSE of an idle session leaves it FREE, its completions posted. -/
theorem Chip.closeNow_leaves (c : Chip) (i releases : Nat) :
    ((c.closeNow i releases).session i).state = .free ∧ (c.closeNow i releases).time = c.time := by
  unfold Chip.closeNow
  extract_lets x c1 c2
  refine ⟨by simp, ?_⟩
  have h1 : c1.time = c.time := by
    simp only [c1]
    split <;> simp
  have h2 : c2.time = c1.time := by
    simp only [c2]
    split <;> simp
  exact h2.trans h1

theorem exec_close (h : (s.chip k).atCommand g 0x05 3 bs) (hw : (s.chip k).wrongRing g (entrySession bs) = false)
    (hx : ((s.chip k).session (entrySession bs)).state ≠ .free) :
    let x := (s.chip k).session (entrySession bs)
    (x.inFlight = false → ∃ t, exec (.close k g) s = .next t ∧ ((t.chip k).session (entrySession bs)).state = .free ∧
      (t.chip k).hasPosted g ((s.chip k).commandEntry bs 0 0)) ∧
    (x.inFlight = true → ∃ t, exec (.close k g) s = .next t ∧ ((t.chip k).session (entrySession bs)).state = x.state ∧
      ((t.chip k).session (entrySession bs)).closePending = true ∧
      (t.chip k).hasPosted g ((s.chip k).commandEntry bs 0 0)) := by
  refine ⟨fun hi => ⟨_, by rw [exec, execClose, ringCommand_eq _ h], ?_⟩,
    fun hi => ⟨_, by rw [exec, execClose, ringCommand_eq _ h], ?_⟩⟩ <;> rw [State.chip_setChip_self] <;>
    simp only [hw, hx, hi, Bool.false_eq_true, if_false, if_true]
  · obtain ⟨hfree, htime⟩ := ((s.chip k).cacheSession (entrySession bs)).closeNow_leaves (entrySession bs)
      ((s.chip k).session (entrySession bs)).reservedEntries
    obtain ⟨-, hpost, hsess⟩ := (((s.chip k).cacheSession (entrySession bs)).closeNow (entrySession bs)
      ((s.chip k).session (entrySession bs)).reservedEntries).accept_leaves g bs 0
    rw [hsess]
    exact ⟨hfree, by rwa [Chip.commandEntry_congr (htime.trans (Chip.time_cacheSession _ _))] at hpost⟩
  · obtain ⟨-, hpost, hsess⟩ := ((s.chip k).useSession (entrySession bs) (fun x => { x with closePending := true })).accept_leaves
      g bs 0
    rw [hsess, Chip.session_useSession_self]
    exact ⟨rfl, rfl, by rwa [Chip.commandEntry_congr (Chip.time_useSession _ _ _)] at hpost⟩

/-- One more fault leaves the newest entry of the log in it. -/
theorem Chip.mem_log_faultIf {c : Chip} {e : FaultEntry} (h : c.hif.log.head? = some e) (b : Bool) (t : Tag) (n i : Nat) :
    e ∈ (c.faultIf b t n i).hif.log := by
  obtain ⟨l, hl⟩ : ∃ l, c.hif.log = e :: l := by
    cases hc : c.hif.log with
    | nil => rw [hc] at h; cases h
    | cons a l => rw [hc] at h; cases h; exact ⟨l, rfl⟩
  cases b with
  | false => exact (congrArg (e ∈ ·) hl).mpr (List.mem_cons_self ..)
  | true =>
    change e ∈ (_ :: c.hif.log).take 256
    rw [hl]
    exact List.mem_cons_of_mem _ (List.mem_cons_self ..)

theorem Chip.mem_log_post {c : Chip} {e : FaultEntry} (h : c.hif.log.head? = some e) (g : Nat) (x : Completion) :
    e ∈ (c.post g x).hif.log := by
  unfold Chip.post
  split
  · exact List.mem_of_mem_head? h
  · exact Chip.mem_log_faultIf (c := c.onSeq _) h _ _ _ _

theorem Chip.decideCancel_leaves {c : Chip} {e : FaultEntry} (h : c.hif.log.head? = some e) (i : Nat) :
    e ∈ (c.decideCancel i).hif.log ∧ (c.decideCancel i).time = c.time := by
  have h1 : (c.cacheSession i).hif.log.head? = some e := by rw [Chip.hif_cacheSession, h]
  unfold Chip.decideCancel
  extract_lets c1
  split
  · exact ⟨List.mem_of_mem_head? h1, Chip.time_cacheSession _ _⟩
  · exact ⟨Chip.mem_log_post h1 _ _, (Chip.time_post c1 _ _).trans (Chip.time_cacheSession _ _)⟩

theorem exec_runaheadDeadline {j : Nat} (hr : (s.chip k).running = true) (hx : ((s.chip k).session j).state = .ahead)
    (hc : ((s.chip k).session j).confirmed = false) (hn : ((s.chip k).session j).cancelled = false)
    (hd : ((s.chip k).session j).deadline ≤ (s.chip k).time.epoch) (hres : 0 < ((s.chip k).session j).reservedEntries) :
    ∃ t, exec (.runaheadDeadline k j) s = .next t ∧ (t.chip k).logged .ses 8 ((s.chip k).session j).partition ∧
      (((s.chip k).session j).inFlight = true → ((t.chip k).session j).cancelled = true) ∧
      (((s.chip k).session j).inFlight = false → ((t.chip k).session j).state = .open_) := by
  refine ⟨_, by rw [exec, execRunaheadDeadline, hr, hx, hc, hn, decide_eq_true hd, decide_eq_true hres]; exact occurs_true _ _, ?_⟩
  rw [State.chip_setChip_self]
  obtain ⟨hlog, htime⟩ := Chip.decideCancel_leaves (c := (s.chip k).fault .ses 8 ((s.chip k).session j).partition) rfl j
  obtain ⟨hflight, hidle⟩ := ((s.chip k).fault .ses 8 ((s.chip k).session j).partition).session_decideCancel j
  refine ⟨?_, fun hi => by rw [hflight hi], fun hi => by rw [hidle hi]⟩
  rw [Chip.logged, htime]
  exact hlog

/-- Settles O30. -/
theorem sessionCommandsTakeEffect : Obligations.SessionCommandsTakeEffect := by
  unfold Obligations.SessionCommandsTakeEffect
  exact fun k g s bs => ⟨exec_openSession, fun h hp hw => ⟨exec_arm_open h hp hw, exec_arm_running h hp hw⟩,
    fun h hp hw hx => ⟨exec_armPredict_ahead h hp hw hx, exec_armPredict_armed h hp hw hx⟩,
    exec_confirm, exec_cancel, exec_close, fun _ => exec_runaheadDeadline⟩

/-! ## Reads -/

/-- What a command leaves that changes one chip and writes host memory. -/
theorem exec_chip_and_host {i : Instr} {c : Chip} {m : List Host.Cell} {x : Completion}
    (h : exec i s = .next { (s.setChip k c) with hostMem := m }) (hp : c.hasPosted g x) :
    ∃ t, exec i s = .next t ∧ (t.chip k).hasPosted g x ∧ t.hostMem = m :=
  ⟨_, h, (congrArg (Chip.hasPosted · g x) (s.chip_setChip_self k c)).mpr hp, rfl⟩

theorem exec_sessionRead (h : (s.chip k).atCommand g 0x06 1 bs) (hw : (s.chip k).wrongRing g (entrySession bs) = false) :
    ∃ t, exec (.sessionRead k g) s = .next t ∧ (t.chip k).hasPosted g ((s.chip k).commandEntry bs 0 0) ∧
      t.hostMem = Memory.write s.hostMem (entryField bs 16 8) ((s.chip k).session (entrySession bs)).bytes := by
  obtain ⟨hr, hready, hroom, hf⟩ := h
  refine exec_chip_and_host (c := (((s.chip k).cacheSession (entrySession bs)).countAux 1 1).accept g bs) ?_ ?_
  · simp only [exec, execSessionRead, hf, hr, hready, hroom, hw, Bool.false_eq_true, if_false, Bool.and_self]
    exact occurs_true _ _
  · obtain ⟨-, hpost, -⟩ := (((s.chip k).cacheSession (entrySession bs)).countAux 1 1).accept_leaves g bs 0
    have htime : (((s.chip k).cacheSession (entrySession bs)).countAux 1 1).time = (s.chip k).time := Chip.time_cacheSession _ _
    rwa [Chip.commandEntry_congr htime] at hpost

theorem exec_residencyRead (h : (s.chip k).atCommand g 0x12 1 bs) :
    ∃ t, exec (.residencyRead k g) s = .next t ∧ (t.chip k).hasPosted g ((s.chip k).commandEntry bs 0 0) ∧
      t.hostMem = Memory.write s.hostMem (entryField bs 16 8) ((s.chip k).residency (entryField bs 8 1)) := by
  obtain ⟨hr, hready, hroom, hf⟩ := h
  refine exec_chip_and_host (c := ((s.chip k).countAux 1 1).accept g bs) ?_ ?_
  · simp only [exec, execResidencyRead, hf, hr, hready, hroom, Bool.and_self]
    exact occurs_true _ _
  · obtain ⟨-, hpost, -⟩ := ((s.chip k).countAux 1 1).accept_leaves g bs 0
    exact hpost

theorem exec_nop (h : (s.chip k).atCommand g 0x50 1 bs) :
    ∃ t, exec (.nop k g) s = .next t ∧ (t.chip k).hasPosted g ((s.chip k).commandEntry bs 0 0 (s.chip k).time.epoch) ∧
      ((t.chip k).ring g).handed = ((s.chip k).ring g).handed.tail := by
  refine ⟨_, by rw [exec, execNop, ringCommand_eq _ h], ?_⟩
  rw [State.chip_setChip_self]
  obtain ⟨hring, hpost, -⟩ := (s.chip k).accept_leaves g bs (s.chip k).time.epoch
  exact ⟨hpost, hring⟩

/-! ## Counter commands -/

/-- A posted completion stays on its way while others are posted. -/
theorem Chip.hasPosted_post_other {c : Chip} {g : Nat} {x : Completion} (h : c.hasPosted g x) (g' : Nat) (y : Completion) :
    (c.post g' y).hasPosted g x := by
  unfold Chip.post
  split
  · refine h.imp (fun hm => ?_) id
    simp only [Chip.compQueue, Chip.onSeq, Bank.update, Bank.get_set] at hm ⊢
    split
    next hg =>
      subst hg
      exact List.mem_append_left _ hm
    · exact hm
  · rw [Chip.hasPosted, Chip.compQueue, Chip.faultIf_seq]
    exact h.imp id fun hm => List.mem_append_left _ hm

theorem Chip.hasPosted_answerWaiter {c : Chip} {g : Nat} {x : Completion} (h : c.hasPosted g x) (w : Waiter) (outcome : Nat) :
    (c.answerWaiter w outcome).hasPosted g x := by
  unfold Chip.answerWaiter
  split
  · have hs : ∀ m, (c.issueMsg m).seq = c.seq := fun m => by
      unfold Chip.issueMsg
      split <;> rfl
    rw [Chip.hasPosted, Chip.compQueue, hs]
    exact h
  · split
    · exact Chip.hasPosted_post_other (c := c.endBackground _ _) h _ _
    · exact h

theorem Chip.hasPosted_wakeCounter {c : Chip} {g : Nat} {x : Completion} (h : c.hasPosted g x) (n : Nat) :
    (c.wakeCounter n).hasPosted g x := by
  unfold Chip.wakeCounter
  extract_lets v met ws c1
  have hfold : ∀ (ws : List Waiter) (d : Chip), d.hasPosted g x → (ws.foldl (fun c w => c.answerWaiter w 0) d).hasPosted g x := by
    intro ws
    induction ws with
    | nil => exact fun _ h => h
    | cons w ws ih => exact fun d hd => ih _ (Chip.hasPosted_answerWaiter hd w 0)
  exact hfold ws c1 h

theorem Chip.hasPosted_addCounter {c : Chip} {g : Nat} {x : Completion} (h : c.hasPosted g x) (n v : Nat) :
    (c.addCounter n v).hasPosted g x := by
  refine Chip.hasPosted_wakeCounter ?_ n
  rw [Chip.hasPosted, Chip.compQueue, Chip.faultIf_seq]
  exact h

theorem Chip.hasPosted_setCounter {c : Chip} {g : Nat} {x : Completion} (h : c.hasPosted g x) (n v : Nat) :
    (c.setCounter n v).hasPosted g x :=
  Chip.hasPosted_wakeCounter (c := (c.countAux 3 1).onSeq (fun q => { q with ctr := q.ctr.set n v })) h n

/-- A COUNTER command of the OPC that runs. -/
theorem counterOp_eq {opc : Nat} {woken : Chip → List Byte → List Nat} (f : Chip → List Byte → Chip)
    (h : (s.chip k).atCommand g 0x40 1 bs) (ho : entryField bs 10 1 = opc)
    (hroom : (s.chip k).roomForAll (g.val :: woken (s.chip k) bs) = true) :
    counterOp k g opc s woken f = .next (s.setChip k (f (s.chip k) bs)) := by
  obtain ⟨hr, hready, -, hf⟩ := h
  simp only [counterOp, hf, hr, hready, ho, hroom, beq_self_eq_true, Bool.and_self]
  exact occurs_true _ _

/-- One completion's room is room for it alone. -/
theorem Chip.roomForAll_self {c : Chip} {g : Nat} (h : c.roomForCompletions g 1 = true) : c.roomForAll [g] = true := by
  simp [Chip.roomForAll, h]

@[simp] theorem Chip.ctr_counterDone (c : Chip) (g : Nat) (bs : List Byte) (v : Nat) : (c.counterDone g bs v).seq.ctr = c.seq.ctr := by
  unfold Chip.counterDone Chip.complete Chip.post
  split
  · rfl
  · rw [Chip.faultIf_seq]
    rfl

theorem Chip.hasPosted_counterDone (c : Chip) (g : Nat) (bs : List Byte) (v : Nat) :
    (c.counterDone g bs v).hasPosted g (c.commandEntry bs 0 0 0 v) := (c.popCommand g).hasPosted_complete g bs 0 0 0 v

theorem exec_counterAdd (h : (s.chip k).atCommand g 0x40 1 bs) (ho : entryField bs 10 1 = 0)
    (hroom : (s.chip k).roomForAll (g.val :: (s.chip k).ringsWoken (cnIndex bs) ((s.chip k).sumCounter (cnIndex bs) (cnValue bs))) = true) :
    ∃ t, exec (.counterAdd k g) s = .next t ∧
      (t.chip k).seq.ctr.get 0 (cnIndex bs) = (s.chip k).sumCounter (cnIndex bs) (cnValue bs) ∧
      (t.chip k).hasPosted g ((s.chip k).commandEntry bs 0 0 0 ((s.chip k).sumCounter (cnIndex bs) (cnValue bs))) := by
  refine ⟨_, by rw [exec, execCounterAdd, counterOp_eq _ h ho hroom], ?_⟩
  rw [State.chip_setChip_self]
  refine ⟨?_, Chip.hasPosted_addCounter (Chip.hasPosted_counterDone _ _ _ _) _ _⟩
  rw [Chip.ctr_addCounter, Chip.sumCounter, Chip.ctr_counterDone, Chip.sumCounter]

theorem exec_counterSet (h : (s.chip k).atCommand g 0x40 1 bs) (ho : entryField bs 10 1 = 1)
    (hroom : (s.chip k).roomForAll (g.val :: (s.chip k).ringsWoken (cnIndex bs) (cnValue bs)) = true) :
    ∃ t, exec (.counterSet k g) s = .next t ∧ (t.chip k).seq.ctr.get 0 (cnIndex bs) = cnValue bs ∧
      (t.chip k).hasPosted g ((s.chip k).commandEntry bs 0 0 0 (cnValue bs)) := by
  refine ⟨_, by rw [exec, execCounterSet, counterOp_eq _ h ho hroom], ?_⟩
  rw [State.chip_setChip_self]
  exact ⟨Chip.ctr_setCounter _ _ _, Chip.hasPosted_setCounter (Chip.hasPosted_counterDone _ _ _ _) _ _⟩

theorem exec_counterWaitGe_parked (h : (s.chip k).atCommand g 0x40 1 bs) (ho : entryField bs 10 1 = 2)
    (hv : (s.chip k).seq.ctr.get 0 (cnIndex bs) < cnValue bs) (hw : (s.chip k).seq.waiters.length < 4096) :
    ∃ t, exec (.counterWaitGe k g) s = .next t ∧
      (t.chip k).seq.waiters.length = (s.chip k).seq.waiters.length + 1 ∧
      ((t.chip k).ring g).background = ((s.chip k).ring g).background ++ ((s.chip k).ring g).handed.head?.toList := by
  refine ⟨_, exec_counterWaitGe_atCommand h ho, ?_⟩
  rw [State.chip_setChip_self]
  have hpark : ((s.chip k).toBackground g).waitCounter (waiterOfCommand g bs) =
      (((s.chip k).toBackground g).countAux 3 1).onSeq (fun q => { q with
        waiters := q.waiters ++ [{ waiterOfCommand g bs with order := q.parkNo }], parkNo := q.parkNo + 1
        waitPeak := max q.waitPeak (q.waiters.length + 1) }) :=
    (if_neg (Nat.not_le.2 hv)).trans (if_neg (Nat.not_le.2 hw))
  rw [hpark]
  refine ⟨List.length_append, ?_⟩
  exact congrArg Ring.background (((s.chip k).ring_setRing g g _).trans (if_pos rfl))

theorem exec_counterRead (h : (s.chip k).atCommand g 0x40 1 bs) (ho : entryField bs 10 1 = 3) :
    ∃ t, exec (.counterRead k g) s = .next t ∧ (t.chip k).seq.ctr = (s.chip k).seq.ctr ∧
      (t.chip k).hasPosted g ((s.chip k).commandEntry bs 0 0 0 ((s.chip k).seq.ctr.get 0 (cnIndex bs))) := by
  have ⟨_, _, hroom, _⟩ := h
  refine ⟨_, by rw [exec, execCounterRead, counterOp_eq _ h ho (Chip.roomForAll_self hroom)], ?_⟩
  rw [State.chip_setChip_self]
  exact ⟨Chip.ctr_counterDone _ _ _ _, Chip.hasPosted_counterDone _ _ _ _⟩

/-- Settles O31. -/
theorem readsAndCountersTakeEffect : Obligations.ReadsAndCountersTakeEffect := by
  unfold Obligations.ReadsAndCountersTakeEffect
  exact fun k g s bs => ⟨exec_sessionRead, exec_residencyRead, exec_nop,
    fun h => ⟨exec_counterAdd h, exec_counterSet h, exec_counterWaitGe_parked h, exec_counterRead h⟩⟩

end Sys2Proof.Machine
end

section
/-! LEMMAS. Admission, stages and item ends (chapter 11). Settles O33. -/

namespace Sys2Proof.Machine

-- In order, not in parallel: every elaborator thread that waits for another holds a stack within the check's memory limit.
set_option Elab.async false

variable {k : ChipId} {s : State}

/-! ## Stages -/

theorem Item.lane_setLane (x : Item) (l : Nat) (y : LaneRun) : (x.setLane l y).lane l = y := by
  unfold Item.setLane Item.lane
  split <;> rfl

theorem Item.ids_setLane (x : Item) (l : Nat) (y : LaneRun) :
    ((x.setLane l y).session, (x.setLane l y).gen) = (x.session, x.gen) := by
  unfold Item.setLane
  split <;> rfl

/-- Busy tiles stay busy while more become busy. -/
theorem Chip.seqIdle_busied {ts : List Nat} {x : Nat} : ∀ {c : Chip}, x ∈ ts ∨ (c.tile x).seqIdle = false →
    ((ts.foldl (fun c t => c.onTile t (fun x => { x with seqIdle := false })) c).tile x).seqIdle = false := by
  induction ts with
  | nil => exact fun h => h.elim (by simp) id
  | cons t ts ih =>
    intro c h
    refine ih ?_
    by_cases hx : x = t
    · exact .inr (by simp [hx])
    · exact h.imp (fun hm => by simpa [hx] using hm) fun hi => by simpa [hx] using hi

/-- A stage that starts: its lane waits for its tiles, which are busy; of SEQ only the item changes. -/
theorem Chip.startStage_leaves {c : Chip} {n l : Nat} {it : Item} (h : c.item n = some it) :
    let ts := c.stageTiles it.partition l (it.lane l).stage
    (c.startStage n l).seq = (c.setItem n (it.setLane l { it.lane l with started := true, waitEnds := ts })).seq ∧
    ∀ x ∈ ts, ((c.startStage n l).tile x).seqIdle = false := by
  unfold Chip.startStage
  simp only [h]
  refine ⟨?_, fun x hx => ?_⟩
  · refine (foldl_keeps Chip.seq (fun _ _ => ?_) _ _).trans (foldl_keeps Chip.seq (fun _ _ => ?_) _ _) <;> rfl
  · refine (congrArg Tile.seqIdle (foldl_keeps (fun c : Chip => c.tile x) (fun _ _ => ?_) _ _)).trans
      (Chip.seqIdle_busied (.inl hx))
    rfl

theorem exec_stageStart {n l : Nat} {it : Item} (hr : (s.chip k).running = true) (hi : (s.chip k).item n = some it)
    (hl : (s.chip k).readyLane it = some l) :
    ∃ t, exec (.stageStart k n) s = .next t ∧
      ((t.chip k).item n).map (fun y => ((y.lane l).started, (y.lane l).waitEnds)) =
        some (true, (s.chip k).stageTiles it.partition l (it.lane l).stage) ∧
      ∀ x ∈ (s.chip k).stageTiles it.partition l (it.lane l).stage, ((t.chip k).tile x).seqIdle = false := by
  refine ⟨s.setChip k ((s.chip k).startStage n l), ?_, ?_⟩
  · simp only [exec, execStageStart, hi, hl, hr, occurs_true]
  rw [State.chip_setChip_self]
  obtain ⟨hseq, hbusy⟩ := Chip.startStage_leaves (l := l) hi
  refine ⟨?_, hbusy⟩
  rw [Chip.item, hseq, ← Chip.item, Chip.item_setItem_self, Option.map_some, Item.lane_setLane]

/-! ## Admission -/

theorem Chip.items_cacheSession (c : Chip) (i : Nat) : (c.cacheSession i).seq.items = c.seq.items ∧
    (c.cacheSession i).seq.itemNo = c.seq.itemNo ∧ (c.cacheSession i).seq.reserved = c.seq.reserved := by
  unfold Chip.cacheSession
  split_ifs <;> exact ⟨rfl, rfl, rfl⟩

theorem Chip.freeItem_cacheSession (c : Chip) (i : Nat) : (c.cacheSession i).freeItem = c.freeItem := by
  obtain ⟨hitems, hno, -⟩ := c.items_cacheSession i
  obtain ⟨-, -, hslot⟩ : (c.cacheSession i).powered = c.powered ∧ (c.cacheSession i).held = c.held ∧ (c.cacheSession i).slotId = c.slotId :=
    Chip.Within.same (ps := [.mem, .seq]) (by simp) .power (by simp)
  simp only [Chip.freeItem, Chip.item, hitems, hno, hslot, Chip.time_cacheSession]

/-- What an admission leaves of its session, of the item taken and of the reservations. -/
structure Chip.Admitted (c d : Chip) (i n : Nat) : Prop where
  session : d.session i = { c.session i with
    gen := ((c.session i).gen + 1) % 256, inFlight := true
    state := if (c.session i).state = .ready then .running else (c.session i).state, readmit := false
    heldLate := false, heldFlags := 0 }
  item : (d.item n).map (fun it => (it.session, it.gen)) = some (i, (c.session i).gen)
  reserved : d.seq.reserved = if (c.session i).readmit then c.seq.reserved else c.seq.reserved + 2

/-- A stage that starts for an admitted item leaves what the admission left. -/
theorem Chip.Admitted.startStage {c d : Chip} {i n : Nat} (h : c.Admitted d i n) (l : Nat) : c.Admitted (d.startStage n l) i n := by
  obtain ⟨it, hit⟩ : ∃ it, d.item n = some it := by
    cases hi : d.item n with
    | none => have := h.item; rw [hi] at this; cases this
    | some it => exact ⟨it, rfl⟩
  obtain ⟨hseq, -⟩ := Chip.startStage_leaves (l := l) hit
  refine ⟨?_, ?_, ?_⟩
  · rw [Chip.session, hseq]
    exact h.session
  · have hids := h.item
    rw [hit, Option.map_some] at hids
    rw [Chip.item, hseq, ← Chip.item, Chip.item_setItem_self, Option.map_some, Item.ids_setLane]
    exact hids
  · rw [hseq]
    exact h.reserved

theorem Chip.admitted_admitItem (c : Chip) (i : Nat) (lanes : Bool × Bool) : c.Admitted (c.admitItem i lanes) i c.freeItem := by
  unfold Chip.admitItem
  extract_lets c0 x n it c1 c2 c3 c4
  have hx : x = c.session i := Chip.session_cacheSession _ _ _
  have hn : n = c.freeItem := Chip.freeItem_cacheSession _ _
  obtain ⟨-, -, hres⟩ := c.items_cacheSession i
  have h2 : c.Admitted c2 i c.freeItem := by
    refine ⟨?_, ?_, ?_⟩
    · rw [← hx]
      exact (c0.session_setSession i i _).trans (if_pos rfl)
    · rw [← hx, ← hn]
      exact congrArg (Option.map _) (c1.item_setItem_self n it)
    · rw [← hx, ← hres]
      rfl
  have h3 : c.Admitted c3 i c.freeItem := by
    simp only [c3]
    split
    · exact h2
    · exact ⟨h2.session, h2.item, h2.reserved⟩
  have h3' : c.Admitted (c3.countAux 3 1) i c.freeItem := ⟨h3.session, h3.item, h3.reserved⟩
  have h4 : c.Admitted c4 i c.freeItem := by
    simp only [c4, hn]
    split
    · exact h3'.startStage 0
    · exact h3'
  rw [hn]
  split
  · exact h4.startStage 1
  · exact h4

theorem exec_admission {p : RingId} {i : Nat} {lanes : Bool × Bool} (hr : (s.chip k).running = true)
    (hi : (s.chip k).nextToAdmit p = some i) (hl : (s.chip k).admitLanes p i = some lanes)
    (hm : (s.chip k).mayAdmit p i = true) :
    ∃ t, exec (.admission k p) s = .next t ∧ ((t.chip k).session i).inFlight = true ∧
      ((t.chip k).session i).gen = (((s.chip k).session i).gen + 1) % 256 ∧
      (((s.chip k).session i).state = .ready → ((t.chip k).session i).state = .running) ∧
      ((t.chip k).item (s.chip k).freeItem).map (fun it => (it.session, it.gen)) = some (i, ((s.chip k).session i).gen) ∧
      (t.chip k).seq.reserved =
        (if ((s.chip k).session i).readmit then (s.chip k).seq.reserved else (s.chip k).seq.reserved + 2) := by
  refine ⟨s.setChip k ((s.chip k).admitItem i lanes), ?_, ?_⟩
  · simp only [exec, execAdmission, hi, hl, hm, hr, Bool.and_self, occurs_true]
  rw [State.chip_setChip_self]
  obtain ⟨hsess, hitem, hres⟩ := (s.chip k).admitted_admitItem i lanes
  rw [hsess]
  exact ⟨rfl, rfl, fun h => if_pos h, hitem, hres⟩

/-! ## Item ends -/

/-- A report leaves its tile idle and SEQ's popped messages as they are. -/
theorem Chip.reported_leaves (c : Chip) (n t err fl : Nat) :
    (c.reported n t err fl).eps = c.eps ∧ ((c.reported n t err fl).tile t).seqIdle = true := by
  unfold Chip.reported
  extract_lets c1
  have h1 : c1.eps = c.eps ∧ (c1.tile t).seqIdle = true := ⟨rfl, by simp [c1]⟩
  split
  · exact h1
  split
  · have hw : ∀ {d : Chip}, c1.Within [.mem, .seq, .hif] d → d.eps = c.eps ∧ (d.tile t).seqIdle = true := fun hd => by
      have ht : _ = c1.tiles := hd.same .tiles (by simp)
      exact ⟨(hd.same .eps (by simp) : _).trans h1.1, by rw [Chip.tile, ht]; exact h1.2⟩
    exact hw (by simp)
  · exact h1

theorem exec_itemEndReport {m : Msg} {rest : List Msg} (hr : (s.chip k).running = true)
    (hm : ((s.chip k).ep epSeq).popWr = m :: rest) (hp : m.poison = false) (ho : m.op = 0x11) :
    ∃ t, exec (.itemEndReport k) s = .next t ∧ ((t.chip k).ep epSeq).popWr = rest ∧
      ((t.chip k).tile (tileIx (field m.arg 16 7) (field m.arg 12 4))).seqIdle = true := by
  have hhead : (s.chip k).headWr epSeq = some m := by rw [Chip.headWr, hm]; rfl
  refine ⟨s.setChip k (((s.chip k).dropWr epSeq).reported (field m.arg 0 12) (tileIx (field m.arg 16 7) (field m.arg 12 4))
    (field m.arg 23 4) (field m.arg 27 6)), ?_, ?_⟩
  · simp only [exec, execItemEndReport, hhead, hr, hp, ho, ne_eq, not_true_eq_false, decide_false, Bool.or_self, Bool.false_eq_true,
      if_false, occurs_true]
  rw [State.chip_setChip_self]
  obtain ⟨heps, hidle⟩ := ((s.chip k).dropWr epSeq).reported_leaves (field m.arg 0 12)
    (tileIx (field m.arg 16 7) (field m.arg 12 4)) (field m.arg 23 4) (field m.arg 27 6)
  refine ⟨?_, hidle⟩
  rw [Chip.ep, heps, ← Chip.ep]
  simp [Chip.dropWr, hm]

/-- Settles O33. -/
theorem itemsTakeEffect : Obligations.ItemsTakeEffect := by
  unfold Obligations.ItemsTakeEffect
  exact fun k s hr => ⟨fun _ _ _ => exec_admission hr, fun _ _ _ => exec_stageStart hr, fun _ _ => exec_itemEndReport hr⟩

end Sys2Proof.Machine
end

section
/-! LEMMAS. Session memory and its arbiters (chapter 12). Settles O34. -/

namespace Sys2Proof.Machine

-- In order, not in parallel: every elaborator thread that waits for another holds a stack within the check's memory limit.
set_option Elab.async false

variable {k : ChipId} {h : ChanId} {s : State}

/-! ## The memory ports -/

theorem Chip.chan_onChan_self (c : Chip) (h : Nat) (f : Channel → Channel) : (c.onChan h f).chan h = f (c.chan h) := by simp

/-- The group of a WRITE. -/
def writeGroup (i : Nat) (m : Msg) : Group :=
  { id := 0, req := i, src := m.src, tag := m.tag, write := true, addr := m.addr, lines := m.len, data := m.data, en := m.en }

/-- The group of a READ. -/
def readGroup (i : Nat) (q : Msg) : Group :=
  { id := 0, req := i, src := q.src, tag := q.tag, write := false, addr := q.addr, lines := q.rlen }

theorem exec_memoryWrite_enters {m : Msg} {i : Nat} (hr : (s.chip k).running = true)
    (hm : (s.chip k).headWr (epMem h) = some m) (hp : ((s.chip k).chan h).popsWr = true) (ho : m.op = 0x01)
    (hi : requesterOf m.src = some i) (hl : 1 ≤ m.len) (hl4 : m.len ≤ 4) (ha : portAddrOk h m.addr m.len = true)
    (ht : intoTable i m.addr = false) (hpo : m.poison = false) :
    ∃ t, exec (.memoryWrite k h) s = .next t ∧
      ((t.chip k).chan h).store = ((s.chip k).chan h).store ++ [{ writeGroup i m with id := ((s.chip k).chan h).nextId }] ∧
      ((t.chip k).ep (epMem h)).popWr = ((s.chip k).ep (epMem h)).popWr.tail ∧ (t.chip k).mem = (s.chip k).mem := by
  refine ⟨s.setChip k ((((s.chip k).dropWr (epMem h)).onChan h (fun x => x.enter (writeGroup i m))).tookWr h), ?_, ?_⟩
  · have h0 : m.len ≠ 0 := by omega
    have h4 : ¬ 4 < m.len := by omega
    simp only [exec, execMemoryWrite, hm, hr, hp, ho, hi, h0, h4, ha, ht, hpo, writeGroup]
    exact occurs_true _ _
  rw [State.chip_setChip_self]
  refine ⟨?_, ?_, rfl⟩
  · simp [Chip.tookWr, Channel.enter, Chip.dropWr]
  · simp [Chip.tookWr, Chip.dropWr]

theorem exec_memoryWrite_table {m : Msg} {i : Nat} (hr : (s.chip k).running = true)
    (hm : (s.chip k).headWr (epMem h) = some m) (hp : ((s.chip k).chan h).popsWr = true) (ho : m.op = 0x01)
    (hi : requesterOf m.src = some i) (ht : intoTable i m.addr = true) :
    ∃ t, exec (.memoryWrite k h) s = .next t ∧
      ((t.chip k).chan h).store = ((s.chip k).chan h).store ∧ (t.chip k).logged .arb 6 h := by
  refine ⟨s.setChip k ((((s.chip k).dropWr (epMem h)).fault .arb 6 h).tookWr h), ?_, ?_⟩
  · simp only [exec, execMemoryWrite, hm, hr, hp, ho, hi, ht, Bool.or_true, if_true]
    exact occurs_true _ _
  rw [State.chip_setChip_self]
  exact ⟨by simp [Chip.tookWr, Chip.dropWr], Chip.logged_fault _ _ _ _⟩

theorem exec_memoryRead_enters {q : Msg} {i : Nat} (hr : (s.chip k).running = true)
    (hq : (s.chip k).headReq (epMem h) = some q) (hp : ((s.chip k).chan h).popsReq = true) (ho : q.op = 0x02)
    (hi : requesterOf q.src = some i) (hlen : q.len = 0) (hl : 1 ≤ q.rlen) (hl4 : q.rlen ≤ 4)
    (ha : portAddrOk h q.addr q.rlen = true) (hpo : q.poison = false) :
    ∃ t, exec (.memoryRead k h) s = .next t ∧
      ((t.chip k).chan h).store = ((s.chip k).chan h).store ++ [{ readGroup i q with id := ((s.chip k).chan h).nextId }] ∧
      ((t.chip k).ep (epMem h)).popReq = ((s.chip k).ep (epMem h)).popReq.tail := by
  refine ⟨s.setChip k ((((s.chip k).onEp (epMem h) (fun x => { x with popReq := x.popReq.tail })).onChan h
    (fun x => x.enter (readGroup i q))).tookReq h), ?_, ?_⟩
  · have h0 : q.rlen ≠ 0 := by omega
    have h4 : ¬ 4 < q.rlen := by omega
    simp only [exec, execMemoryRead, hq, hr, hp, ho, hi, hlen, h0, h4, ha, hpo, readGroup]
    exact occurs_true _ _
  rw [State.chip_setChip_self]
  exact ⟨by simp [Chip.tookReq, Channel.enter], by simp [Chip.tookReq]⟩

theorem exec_void {m : Msg} {i : Nat} {g : Group} (hr : (s.chip k).running = true)
    (hm : (s.chip k).headWr (epMem h) = some m) (hp : ((s.chip k).chan h).popsWr = true) (ho : m.op = 0x05) (hl : m.len = 0)
    (hpo : m.poison = false) (hi : requesterOf m.src = some i)
    (hg : (((s.chip k).chan h).store ++ ((s.chip k).chan h).returning).find? (fun g => g.voidable i (field m.arg 0 8)) = some g) :
    ∃ t, exec (.void k h) s = .next t ∧
      (∀ y ∈ ((t.chip k).chan h).store ++ ((t.chip k).chan h).returning, y.id ≠ g.id) ∧
      ((t.chip k).chan h).deadCount = satAdd 64 ((s.chip k).chan h).deadCount g.granted ∧ (t.chip k).mem = (s.chip k).mem := by
  refine ⟨s.setChip k ((((s.chip k).dropWr (epMem h)).onChan h (fun x => x.withdraw i (field m.arg 0 8))).tookWr h), ?_, ?_⟩
  · simp only [exec, execVoid, hm, hr, hp, ho, hi, hl, hpo]
    exact occurs_true _ _
  rw [State.chip_setChip_self]
  have hx : (((((s.chip k).dropWr (epMem h)).onChan h (fun x => x.withdraw i (field m.arg 0 8))).tookWr h).chan h) =
      { (((s.chip k).chan h).withdraw i (field m.arg 0 8)) with wrTaken := true } := by
    simp [Chip.tookWr, Chip.dropWr]
  rw [hx]
  simp only [Channel.withdraw, hg]
  refine ⟨fun y hy => ?_, trivial, rfl⟩
  rcases List.mem_append.1 hy with hy | hy
  · simpa using (List.mem_filter.1 hy).2
  · simpa using (List.mem_filter.1 hy).2

theorem exec_readGroupComplete {g : Group} {rest : List Group} (hr : (s.chip k).running = true)
    (hg : ((s.chip k).chan h).returning = g :: rest) (hm : g.moving = false) :
    ∃ t, exec (.readGroupComplete k h) s = .next t ∧ ((t.chip k).chan h).returning = rest ∧
      ((t.chip k).ep (epMem h)).out = ((s.chip k).ep (epMem h)).out ++
        [{ lane := .rsp, src := epMem h, dst := g.src, tag := g.tag, status := if g.poison then 2 else 0
           len := g.lines, data := g.data }] := by
  refine ⟨s.setChip k (((s.chip k).onChan h (fun x => { x with returning := rest })).send
    { lane := .rsp, src := epMem h, dst := g.src, tag := g.tag, status := if g.poison then 2 else 0, len := g.lines, data := g.data }),
    ?_, ?_⟩
  · simp only [exec, execReadGroupComplete, hg, hm, hr]
    exact occurs_true _ _
  rw [State.chip_setChip_self]
  exact ⟨by simp [Chip.send], by simp [Chip.send]⟩

theorem Chip.logged_faultIf (c : Chip) (t : Tag) (nn i : Nat) {b : Bool} (hb : b = true) : (c.faultIf b t nn i).logged t nn i := by
  rw [Chip.faultIf, if_pos hb]
  exact Chip.logged_fault _ _ _ _

theorem exec_ecsRead (hr : (s.chip k).running = true) (ht : ((s.chip k).chan h).trained = true)
    (he : 86400000000 ≤ ((s.chip k).chan h).ecsEpochs) (n : Nat) :
    ∃ t, exec (.ecsRead k h n) s = .next t ∧ ((t.chip k).chan h).ecs = n % 2 ^ 32 ∧
      (((s.chip k).chan h).ecs + 64 < n % 2 ^ 32 → (t.chip k).logged .arb 7 h) := by
  refine ⟨_, by rw [exec, execEcsRead, hr, ht, decide_eq_true he]; exact occurs_true _ _, ?_⟩
  rw [State.chip_setChip_self]
  exact ⟨by simp, fun hlt => Chip.logged_faultIf _ _ _ _ (decide_eq_true hlt)⟩

theorem exec_repeatRateFault (hr : (s.chip k).running = true) (hn : 100 < ((s.chip k).chan h).repeats) :
    ∃ t, exec (.repeatRateFault k h) s = .next t ∧ ((t.chip k).chan h).repeats = 0 ∧ (t.chip k).logged .arb 4 h := by
  refine ⟨_, by rw [exec, execRepeatRateFault, hr, decide_eq_true hn]; exact occurs_true _ _, ?_⟩
  rw [State.chip_setChip_self]
  exact ⟨by simp, Chip.logged_fault _ _ _ _⟩

/-! ## A cycle of the arbiter -/

/-- Of channel `x`, what the losers' walk leaves as it is. -/
def Channel.steady (x : Channel) : Nat × Bank Nat × Nat := (x.cycle, x.grants, x.unavail)

theorem Channel.steady_lose (x : Channel) (i : Nat) (g : Group) (park pushed : Bool) : (x.lose i g park pushed).1.steady = x.steady := by
  unfold Channel.lose
  split_ifs <;> rfl

/-- The channel after the part of a turn that follows the wait: a back-off runs, or a candidate loses. -/
def Channel.lost (x1 : Channel) (i bo : Nat) (cand : Option Group) (park pushed : Bool) : Channel × Bool × Bool :=
  if 0 < bo then ({ x1 with bo := x1.bo.set i (bo - 1) }, pushed, false)
  else match cand with
    | some g => x1.lose i g park pushed
    | none => (x1, pushed, false)

theorem Channel.steady_lost (x : Channel) (i bo : Nat) (cand : Option Group) (park pushed : Bool) :
    (x.lost i bo cand park pushed).1.steady = x.steady := by
  unfold Channel.lost
  split
  · rfl
  · split
    · exact x.steady_lose _ _ _ _
    · rfl

/-- The channel of a loser whose wait has grown by a cycle. -/
def Channel.waited (x : Channel) (i : Nat) : Channel := { x with w := x.w.set i (min (x.w.get 0 i + 1) 65535) }

/-- A loser's turn: its wait has grown, and it has lost; that it may newly starve changes neither. -/
theorem LoseWalk.chan_turn (a : LoseWalk) (i : Nat) (cand : Option Group) (park : Bool) :
    let y := ((a.chan.waited i).lost i (a.chan.bo.get 0 i) cand park a.pushed).1
    (a.turn i cand park).chan.steady = y.steady ∧ (a.turn i cand park).chan.w = y.w := by
  intro y
  unfold LoseWalk.turn
  extract_lets x w x1 bo
  split
  next x2 pushed full hx2 =>
    have hl : (a.chan.waited i).lost i (a.chan.bo.get 0 i) cand park a.pushed = (x2, pushed, full) := by
      rw [← hx2]
      unfold Channel.lost
      split
      · rfl
      · cases cand <;> rfl
    have hy : y = x2 := congrArg Prod.fst hl
    rw [hy]
    dsimp only
    split <;> exact ⟨rfl, rfl⟩

theorem LoseWalk.steady_turn (a : LoseWalk) (i : Nat) (cand : Option Group) (park : Bool) :
    (a.turn i cand park).chan.steady = a.chan.steady :=
  (a.chan_turn i cand park).1.trans (Channel.steady_lost _ _ _ _ _ _)

/-- Without a candidate a loser waits one cycle more; no other requester's wait changes. -/
theorem LoseWalk.w_turn (a : LoseWalk) (i j : Nat) (park : Bool) :
    (a.turn i none park).chan.w.get 0 j = if j = i then min (a.chan.w.get 0 i + 1) 65535 else a.chan.w.get 0 j := by
  have hw : (a.turn i none park).chan.w = (a.chan.waited i).w := by
    rw [(a.chan_turn i none park).2, Channel.lost]
    split <;> rfl
  rw [hw, Channel.waited, Bank.get_set]

theorem perm_rankInsert (w : Bank Nat) (i : Nat) (l : List Nat) : (rankInsert w i l).Perm (i :: l) := by
  induction l with
  | nil => exact .refl _
  | cons j t ih =>
    unfold rankInsert
    split
    · exact .refl _
    · exact (ih.cons j).trans (.swap i j t)

theorem perm_rankAll (w : Bank Nat) (l : List Nat) : (rankAll w l).Perm l := by
  induction l with
  | nil => exact .refl _
  | cons i l ih => exact (perm_rankInsert w i _).trans (ih.cons i)

theorem nodup_rankAll_heads (x : Channel) : (rankAll x.w x.heads).Nodup :=
  (perm_rankAll _ _).nodup_iff.2 (List.nodup_range.filter _)

/-- The winner's channel: its waits are back at zero and its grant is counted, whatever else the burst does. -/
structure Channel.Granted (x y : Channel) (i : Nat) : Prop where
  cycle : y.cycle = x.cycle
  wait : y.w.get 0 i = 0
  backOff : y.bo.get 0 i = 0
  grants : y.grants.get 0 i = satAdd 64 (x.grants.get 0 i) 1
  last : y.last = some i

/-- A granted burst: the winner's waits are back at zero, its grant is counted, a WRITE's bytes are written. -/
theorem Chip.grantBurst_leaves (c : Chip) (h : Nat) (g : Group) (err : LinkErr) :
    (c.chan h).Granted ((c.grantBurst h g err).chan h) g.req ∧
    (c.grantBurst h g err).mem = if g.write then Memory.writeEnabled c.mem (g.addr + 64 * g.granted)
      ((g.data.drop (64 * g.granted)).take 64) ((g.en.drop (64 * g.granted)).take 64) else c.mem := by
  unfold Chip.grantBurst
  extract_lets a c1 bad again g1 last c2 c3
  have hc1 : c1.chan h = c.chan h := by
    simp only [c1]
    split <;> rfl
  have h2 : (c.chan h).Granted (c2.chan h) g.req := by
    simp only [c2, Chip.chan_onChan_self, hc1]
    split
    · exact ⟨rfl, by simp, by simp, by simp [Bank.update], rfl⟩
    · exact ⟨rfl, by simp [Channel.onGroup], by simp [Channel.onGroup], by simp [Channel.onGroup, Bank.update], rfl⟩
  have h3 : c3.chan h = c2.chan h ∧ c3.mem = c2.mem := by
    simp only [c3]
    split <;> exact ⟨rfl, rfl⟩
  have hout : ∀ d : Chip, d = (if isRegionEp g.src then
      c3.onRegion g.req (fun z => { z with memBursts := bumpHead z.memBursts 1 }) else c3) →
      d.chan h = c3.chan h ∧ d.mem = c3.mem := by
    rintro d rfl
    split <;> exact ⟨rfl, rfl⟩
  obtain ⟨hchan, hmem⟩ := hout _ rfl
  rw [hchan, hmem, h3.1, h3.2]
  refine ⟨h2, ?_⟩
  simp only [c2, c1]
  split <;> rfl

theorem Chip.switchTable_of_none {c : Chip} {h : Nat} (hn : (c.chan h).slotNext = none) : c.switchTable h = c := by
  unfold Chip.switchTable
  simp only [hn, ite_self]

/-- The losers of a cycle take their turns in the order of their waits. -/
theorem steady_walk (f : LoseWalk → Nat → LoseWalk) (hf : ∀ a i, (f a i).chan.steady = a.chan.steady) (l : List Nat) (x : Channel) :
    (l.foldl f { chan := x }).chan.steady = x.steady :=
  foldl_keeps (fun a : LoseWalk => a.chan.steady) hf l { chan := x }

/-- The faults of a cycle leave the channel that the walk has left, and session memory. -/
theorem Chip.chan_cycleFaults (c : Chip) (h : Nat) (x : Channel) (starving : List Nat) (full forced : Bool) :
    let d := ((starving.foldl (fun c _ => c.fault .arb 1 h) (c.setChan h x)).faultIf full .arb 3 h).faultIf forced .arb 2 h
    d.chan h = x ∧ d.mem = c.mem := by
  intro d
  have hd : d.chans = (c.setChan h x).chans ∧ d.mem = (c.setChan h x).mem := by
    have hf : (c.setChan h x).Within [.hif] (starving.foldl (fun c _ => c.fault .arb 1 h) (c.setChan h x)) :=
      (Chip.Within.refl _ _).foldl (f := fun c _ => c.fault .arb 1 h) (fun _ _ => by simp) _
    have hw : (c.setChan h x).Within [.hif] d := by simp [d, hf]
    exact ⟨hw.same .chans (by simp), hw.same .mem (by simp)⟩
  refine ⟨?_, hd.2⟩
  rw [Chip.chan, hd.1]
  exact (c.chan_setChan h h x).trans (if_pos rfl)

/-- A requester's candidate is one of its groups. -/
theorem Chip.req_cand {c : Chip} {h i : Nat} {g : Group} (hg : c.cand h i = some g) : g.req = i := by
  unfold Chip.cand at hg
  extract_lets x gs at hg
  obtain ⟨n, -, hn⟩ := List.exists_of_findSome?_eq_some hg
  have hm := (List.mem_filter.1 (List.mem_of_find?_eq_some hn)).2
  rw [Bool.and_eq_true, beq_iff_eq] at hm
  exact hm.1

/-- The channel one cycle on. -/
def Channel.next (x : Channel) : Channel := { x with cycle := x.cycle + 1 }

theorem Chip.arbitrate_grants {c : Chip} {h i : Nat} {f : Bool} {g : Group} (err : LinkErr)
    (hn : (c.chan h).slotNext = none) (hb : (c.chan h).forceBusy = false) (hw : c.winner h = some (i, f))
    (hg : c.cand h i = some g) :
    (c.chan h).next.Granted ((c.arbitrate h false err).chan h) i ∧
    (c.arbitrate h false err).mem = if g.write then Memory.writeEnabled c.mem (g.addr + 64 * g.granted)
      ((g.data.drop (64 * g.granted)).take 64) ((g.en.drop (64 * g.granted)).take 64) else c.mem := by
  unfold Chip.arbitrate
  rw [Chip.switchTable_of_none hn]
  extract_lets d x off win gid g' x0 walk forced src x1 c1 c2
  have hoff : off = false := hb
  have hwin : win = some (i, f) := (if_neg (by rw [hoff]; exact Bool.false_ne_true)).trans hw
  have hg' : g' = some g := (congrArg (Option.bind · _) hwin).trans hg
  have hwalk : walk.chan.steady = x0.steady := steady_walk _ (fun a j => by
    split
    · rfl
    · exact a.steady_turn _ _ _) _ _
  obtain ⟨hchan, hmem⟩ : c2.chan h = x1 ∧ c2.mem = c.mem := Chip.chan_cycleFaults _ _ _ _ _ _
  have hx1 : x1.cycle = x.cycle + 1 ∧ x1.grants = x.grants := by
    simp only [Channel.steady, Prod.mk.injEq] at hwalk
    exact ⟨hwalk.1, hwalk.2.1⟩
  have hreq : g.req = i := Chip.req_cand hg
  rw [hg']
  obtain ⟨hgr, hm⟩ := c2.grantBurst_leaves h g err
  rw [hreq, hchan] at hgr
  rw [hmem] at hm
  exact ⟨⟨hgr.cycle.trans hx1.1, hgr.wait, hgr.backOff, hgr.grants.trans (by rw [hx1.2]; rfl), hgr.last⟩, hm⟩

theorem Chip.arbitrate_unavailable {c : Chip} {h : Nat} (err : LinkErr) (hn : (c.chan h).slotNext = none) :
    ((c.arbitrate h true err).chan h).cycle = (c.chan h).cycle + 1 ∧
    ((c.arbitrate h true err).chan h).unavail = satAdd 64 (c.chan h).unavail 1 ∧ (c.arbitrate h true err).mem = c.mem ∧
    ((c.arbitrate h true err).chan h).grants = (c.chan h).grants ∧
    ∀ i ∈ (c.chan h).heads, ((c.arbitrate h true err).chan h).w.get 0 i = min ((c.chan h).w.get 0 i + 1) 65535 := by
  unfold Chip.arbitrate
  rw [Chip.switchTable_of_none hn]
  extract_lets d x off win gid g' x0 walk forced src x1 c1 c2
  have hwalk : walk.chan.steady = x0.steady := steady_walk _ (fun a j => by
    split
    · rfl
    · exact a.steady_turn _ _ _) _ _
  obtain ⟨hchan, hmem⟩ : c2.chan h = x1 ∧ c2.mem = c.mem := Chip.chan_cycleFaults _ _ _ _ _ _
  have hx1 : x1.cycle = x.cycle + 1 ∧ x1.grants = x.grants ∧ x1.unavail = satAdd 64 x.unavail 1 := by
    simp only [Channel.steady, Prod.mk.injEq] at hwalk
    exact hwalk
  have hg' : g' = none := rfl
  rw [hg']
  dsimp only
  rw [hchan, hmem]
  obtain ⟨hcycle, hgrants, hunavail⟩ := hx1
  refine ⟨hcycle, hunavail, rfl, hgrants, fun i hi => ?_⟩
  have hown := foldl_own (fun (a : LoseWalk) j => a.chan.w.get 0 j)
    (f := fun a i => if gid = some i then a else a.turn i none (c.img.nowA.loserAt i == 1)) (g := fun _ w => min (w + 1) 65535)
    (fun a n => by simp [gid, win, off, a.w_turn]) (fun a n j hj => by simp [gid, win, off, a.w_turn, hj])
    (nodup_rankAll_heads x) { chan := x0 } i
  rw [if_pos ((perm_rankAll _ _).mem_iff.2 hi)] at hown
  exact hown

theorem exec_arbiterCycle_grants {i : Nat} {f : Bool} {g : Group} {err : LinkErr} (hr : (s.chip k).running = true)
    (ht : ((s.chip k).chan h).trained = true) (hn : ((s.chip k).chan h).slotNext = none)
    (hb : ((s.chip k).chan h).forceBusy = false) (hw : (s.chip k).winner h = some (i, f)) (hg : (s.chip k).cand h i = some g) :
    ∃ t, exec (.arbiterCycle k h false err) s = .next t ∧ ((t.chip k).chan h).cycle = ((s.chip k).chan h).cycle + 1 ∧
      ((t.chip k).chan h).w.get 0 i = 0 ∧ ((t.chip k).chan h).bo.get 0 i = 0 ∧
      ((t.chip k).chan h).grants.get 0 i = satAdd 64 (((s.chip k).chan h).grants.get 0 i) 1 ∧
      ((t.chip k).chan h).last = some i ∧
      (g.write = true → (t.chip k).mem = Memory.writeEnabled (s.chip k).mem (g.addr + 64 * g.granted)
        ((g.data.drop (64 * g.granted)).take 64) ((g.en.drop (64 * g.granted)).take 64)) ∧
      (g.write = false → (t.chip k).mem = (s.chip k).mem) := by
  refine ⟨_, by rw [exec, execArbiterCycle, hr, ht]; exact occurs_true _ _, ?_⟩
  rw [State.chip_setChip_self]
  obtain ⟨hgr, hmem⟩ := Chip.arbitrate_grants err hn hb hw hg
  refine ⟨hgr.cycle, hgr.wait, hgr.backOff, hgr.grants, hgr.last, fun hwr => ?_, fun hwr => ?_⟩
  · rw [hmem, if_pos hwr]
  · rw [hmem, if_neg (by simp [hwr])]

theorem exec_arbiterCycle_unavailable {err : LinkErr} (hr : (s.chip k).running = true)
    (ht : ((s.chip k).chan h).trained = true) (hn : ((s.chip k).chan h).slotNext = none)
    (hm : ((s.chip k).chan h).mayMark = true) :
    ∃ t, exec (.arbiterCycle k h true err) s = .next t ∧ ((t.chip k).chan h).cycle = ((s.chip k).chan h).cycle + 1 ∧
      ((t.chip k).chan h).unavail = satAdd 64 ((s.chip k).chan h).unavail 1 ∧ (t.chip k).mem = (s.chip k).mem ∧
      ((t.chip k).chan h).grants = ((s.chip k).chan h).grants ∧
      ∀ i ∈ ((s.chip k).chan h).heads,
        ((t.chip k).chan h).w.get 0 i = min (((s.chip k).chan h).w.get 0 i + 1) 65535 := by
  refine ⟨_, by rw [exec, execArbiterCycle, hr, ht, hm]; exact occurs_true _ _, ?_⟩
  rw [State.chip_setChip_self]
  exact Chip.arbitrate_unavailable err hn

/-- Settles O34. -/
theorem sessionMemoryTakesEffect : Obligations.SessionMemoryTakesEffect := by
  unfold Obligations.SessionMemoryTakesEffect
  refine ⟨fun k h s hr => ⟨fun m i hm hp ho hi hl hl4 ha => ⟨fun ht hpo => exec_memoryWrite_enters hr hm hp ho hi hl hl4 ha ht hpo,
    fun ht => exec_memoryWrite_table hr hm hp ho hi ht⟩, fun q i => exec_memoryRead_enters hr, fun m i g => exec_void hr,
    fun g rest => exec_readGroupComplete hr, exec_ecsRead hr, exec_repeatRateFault hr⟩,
    fun k h err s hr ht hn => ⟨fun i f g => exec_arbiterCycle_grants hr ht hn, exec_arbiterCycle_unavailable hr ht hn⟩⟩

end Sys2Proof.Machine
end

section
/-! LEMMAS. The cap, heat, the coolant stop and the grants (chapter 13). Settles O35 and O36. -/

namespace Sys2Proof.Machine

-- In order, not in parallel: every elaborator thread that waits for another holds a stack within the check's memory limit.
set_option Elab.async false

variable {k : ChipId} {s : State}

/-! ## What an interrupt of the power status leaves -/

theorem Chip.stew_noting (c d : Chip) : (c.noting d).stew = d.stew := by
  unfold Chip.noting
  split <;> rfl

theorem Chip.region_noting (c d : Chip) (r : Nat) : (c.noting d).region r = d.region r := by
  unfold Chip.noting
  split <;> rfl

theorem Chip.gen_noting (c d : Chip) (r : Nat) : (c.noting d).gen r = d.gen r := by
  unfold Chip.noting
  split <;> rfl

theorem Chip.bru_noting (c d : Chip) : (c.noting d).bru = d.bru := by
  unfold Chip.noting
  split <;> rfl

/-! ## The evaluation of the cap -/

/-- Of the Steward, what an evaluation sets once: the due mark, the grant, the cap, the window and the latched sweeps. -/
def Stew.capped (w : Stew) : Bool × Nat × Nat × List ClassNj × List Sweep := (w.evalDue, w.grant, w.effCap, w.window, w.staged)

theorem Chip.capped_onRailGroups (c : Chip) (l : List Nat) (f : Nat → RailGroup → RailGroup) :
    (l.foldl (fun c g => c.onRailGroup g (f g)) c).stew.capped = c.stew.capped :=
  foldl_keeps (fun c : Chip => c.stew.capped) (fun _ _ => by rfl) l c

theorem Chip.capped_addInterval (c : Chip) (v : Interval) : (c.addInterval v).stew.capped = c.stew.capped :=
  c.capped_onRailGroups (List.range 5) fun g x =>
    { x with rawNow := x.rawNow + v.raws.getD g 0, estNow := x.estNow + v.cals.getD g 0 }

theorem Chip.stew_countIdle (c : Chip) (act : Activity) : (c.countIdle act).stew = c.stew :=
  Chip.Within.same (ps := [.gens]) (by simp) .stew (by simp)

/-- The regions whose charges an evaluation computes, each once. -/
theorem nodup_capRegions (c : Chip) (ec : List Nat) : ((c.capRegions ec).map (·.region)).Nodup := by
  have h : (c.capRegions ec).map (·.region) = allRegions.filter (fun r => c.clockRuns r) := by
    simp [Chip.capRegions, List.map_map, Function.comp_def]
  rw [h]
  exact allRegions_nodup.filter _

theorem regions_takeCut (d a : Nat → Nat) (acc : Nat × List CapRegion) (x : Nat) :
    (takeCut d a acc x).2.map (·.region) = acc.2.map (·.region) := by
  simp [takeCut, List.map_map, Function.comp_def]

theorem regions_charges (order : List Nat) (d a : Nat → Nat) (budget : Int) (rs : List CapRegion) :
    (charges order d a budget rs).map (·.region) = rs.map (·.region) := by
  unfold charges
  extract_lets need cut
  split
  · have hf : ((afterCompute order).foldl (takeCut d a) (cut, rs)).2.map (·.region) = rs.map (·.region) :=
      foldl_keeps (fun acc : Nat × List CapRegion => acc.2.map (·.region)) (fun acc x => regions_takeCut d a acc x) _ _
    simpa [List.map_map, Function.comp_def] using hf
  · rfl

/-- A region's step by the cap (R535, R539). -/
def Chip.capRegion (c : Chip) (y : CapRegion) : Chip :=
  c.onRegion y.region (fun x => { x with kCap := min y.step (x.kCap + 1) })

/-- The steps by the cap leave a region that they do not name, and take another's up by one at most. -/
theorem Chip.kCap_capRegions {out : List CapRegion} (hn : (out.map (·.region)).Nodup) (c : Chip) (r : Nat) :
    (r ∉ out.map (·.region) → (out.foldl Chip.capRegion c).region r = c.region r) ∧
    ((out.foldl Chip.capRegion c).region r).kCap ≤ (c.region r).kCap + 1 := by
  induction out generalizing c with
  | nil => exact ⟨fun _ => rfl, Nat.le_succ _⟩
  | cons y out ih =>
    obtain ⟨hy, hn⟩ := List.nodup_cons.1 hn
    obtain ⟨hsame, hle⟩ := ih hn (c.capRegion y)
    by_cases h : r = y.region
    · subst h
      refine ⟨fun hr => absurd List.mem_cons_self hr, ?_⟩
      rw [List.foldl_cons, hsame hy, Chip.capRegion, Chip.region_onRegion_self]
      exact Nat.min_le_right _ _
    · have hc : (c.capRegion y).region r = c.region r := by simp [Chip.capRegion, h]
      refine ⟨fun hr => ?_, ?_⟩
      · rw [List.foldl_cons, hsame fun hm => hr (List.mem_cons_of_mem _ hm), hc]
      · rw [List.foldl_cons, ← hc]
        exact hle

/-- The step by the cap leaves the cap in force, and each region's step rises by one at most. -/
theorem Chip.capStep_leaves (c : Chip) (v : Interval) :
    (c.capStep v).stew.capped = c.stew.capped ∧ ∀ r, ((c.capStep v).region r).kCap ≤ (c.region r).kCap + 1 := by
  unfold Chip.capStep
  extract_lets w a order d al clipped rs need other budget out c1 above c2
  have h1 : ∀ r, (c1.region r).kCap ≤ (c.region r).kCap + 1 := fun r =>
    (Chip.kCap_capRegions (by rw [regions_charges]; exact nodup_capRegions c v.ec) c r).2
  have hs : c1.stew = c.stew := Chip.Within.same (ps := [.regions])
    ((Chip.Within.refl _ c).foldl (fun d y => by simp) out) .stew (by simp)
  clear_value c1
  have hregs : c2.regions = c1.regions := rfl
  have hcap : c2.stew.capped = c1.stew.capped := rfl
  clear_value c2
  refine ⟨?_, fun r => ?_⟩
  · rw [Chip.faultIf_stew, Chip.faultIf_stew, hcap, hs]
  · rw [Chip.region_faultIf_frame, Chip.region_faultIf_frame, Chip.region, hregs]
    exact h1 r

/-- The heat of a region at an evaluation, and its issue step (R534, R547). -/
def Region.heated (x : Region) : Region :=
  let z := (if x.kNow < 16 then { x with throttled := satAdd 64 x.throttled 1 } else x).heatStep
  { z with kNow := min z.kCap z.kTherm }

theorem Region.kCap_heated (x : Region) : x.heated.kCap = x.kCap := by
  unfold Region.heated Region.heatStep
  split_ifs <;> rfl

theorem Chip.heatAll_leaves (c : Chip) :
    c.heatAll.stew.capped = c.stew.capped ∧ ∀ r : RegionId, c.heatAll.region r = (c.region r).heated := by
  unfold Chip.heatAll
  extract_lets c1 hot
  have h1 : ∀ r : RegionId, c1.region r = (c.region r).heated := fun r =>
    (Chip.region_forRegions (g := fun _ => Region.heated) (fun c r => Chip.region_onRegion_self _ _ _)
      (fun c r j hj => by simp [hj]) allRegions_nodup c r).trans (if_pos (mem_allRegions r))
  have hs : c1.stew = c.stew := Chip.Within.same (ps := [.regions])
    ((Chip.Within.refl _ c).foldl (fun d r => by simp) allRegions) .stew (by simp)
  clear_value c1 hot
  refine ⟨?_, fun r => ?_⟩
  · rw [Chip.faultIf_stew, ← hs]
    rfl
  · rw [Chip.region_faultIf_frame]
    exact h1 r

/-- The Stirrer changes its own part of the Steward's state. -/
theorem Chip.stir_leaves (c : Chip) (v : Interval) (fill : Nat) :
    (c.stir v fill).stew.capped = c.stew.capped ∧ (c.stir v fill).regions = c.regions ∧
    (c.img.nowA.stirMode = 0 → (c.stir v fill).stew.stirFloor = 0 ∧ (c.stir v fill).stew.stirFill = 0) := by
  unfold Chip.stir
  extract_lets w a
  split
  · exact ⟨rfl, rfl, fun _ => ⟨rfl, rfl⟩⟩
  next h => exact ⟨rfl, rfl, fun h0 => absurd (Bool.or_eq_true_iff.2 (.inl (decide_eq_true h0))) h⟩

theorem Chip.region_clearInterval (c : Chip) (r : Nat) :
    ((c.clearInterval.region r).kCap, (c.clearInterval.region r).kTherm, (c.clearInterval.region r).kNow) =
      ((c.region r).kCap, (c.region r).kTherm, (c.region r).kNow) := by
  simp only [Chip.clearInterval, Chip.region, Chip.onStew, Bank.get, Bank.look_mapCells]
  cases Bank.look c.regions.cells r <;> rfl

/-- Of the Stirrer, its floor and its fill. -/
def Stew.stirred (w : Stew) : Nat × Nat := (w.stirFloor, w.stirFill)

/-- A latched sweep joins the staged ones. -/
theorem Chip.latchSweep_leaves (c : Chip) : ∃ x, c.latchSweep.stew.capped =
      (c.stew.evalDue, c.stew.grant, c.stew.effCap, c.stew.window, c.stew.staged ++ [x]) ∧
    c.latchSweep.regions = c.regions ∧ c.latchSweep.stew.stirred = c.stew.stirred := by
  unfold Chip.latchSweep
  extract_lets sum sweep c1
  refine ⟨sweep, ?_, ?_, ?_⟩
  · exact (c1.capped_onRailGroups (List.range 5) fun _ x => { x with rawNow := 0, estNow := 0 }).trans rfl
  · exact (foldl_keeps Chip.regions (fun _ _ => by rfl) _ _).trans rfl
  · exact (foldl_keeps (fun c : Chip => c.stew.stirred) (fun _ _ => by rfl) _ _).trans rfl

/-- The evaluation up to the cap (R530, R537). -/
def Chip.capEvaluated (c : Chip) (act : Activity) : Chip :=
  ((((c.addInterval (c.interval act)).countIdle act).onStew (fun w => { w with evalDue := false })).takeCap.pushWindow
    (c.interval act)).capStep (c.interval act)

theorem Chip.capEvaluated_leaves (c : Chip) (act : Activity) :
    (c.capEvaluated act).stew.capped = (false, c.stew.grant, min c.img.nowA.cap c.stew.grant,
      ((c.interval act).nj :: c.stew.window).take 100, c.stew.staged) ∧
    ∀ r, ((c.capEvaluated act).region r).kCap ≤ (c.region r).kCap + 1 := by
  unfold Chip.capEvaluated
  have hw : c.Within [.gens, .stew] ((c.addInterval (c.interval act)).countIdle act) := by simp
  have himg : ((c.addInterval (c.interval act)).countIdle act).img = c.img := hw.same .img (by simp)
  have hregs : ((c.addInterval (c.interval act)).countIdle act).regions = c.regions := hw.same .regions (by simp)
  have hstew : ((c.addInterval (c.interval act)).countIdle act).stew.capped = c.stew.capped := by
    rw [Chip.stew_countIdle, Chip.capped_addInterval]
  generalize (c.addInterval (c.interval act)).countIdle act = d at himg hregs hstew
  obtain ⟨hcap, hk⟩ := ((d.onStew (fun w => { w with evalDue := false })).takeCap.pushWindow (c.interval act)).capStep_leaves
    (c.interval act)
  refine ⟨hcap.trans ?_, fun r => ?_⟩
  · simp only [Stew.capped, Prod.mk.injEq] at hstew ⊢
    obtain ⟨-, hgrant, -, hwin, hst⟩ := hstew
    rw [← himg, ← hgrant, ← hwin, ← hst]
    exact ⟨rfl, rfl, rfl, rfl, rfl⟩
  · rw [show c.region r = d.region r from by rw [Chip.region, Chip.region, hregs]]
    exact hk r

/-- The evaluation of the heat and of the Stirrer, at the end of the interval. -/
def Chip.heatEvaluated (c : Chip) (v : Interval) (fill : Nat) : Chip := (c.heatAll.stir v fill).clearInterval

/-- The evaluation after the frame of the Stirrer, where it ends. -/
def Chip.frameClosed (c : Chip) : Chip := if c.stew.frameEnd then c.closeFrame else c

theorem Chip.frameClosed_leaves (c : Chip) : c.frameClosed.stew.capped = c.stew.capped ∧ c.frameClosed.regions = c.regions ∧
    c.frameClosed.img = c.img := by
  unfold Chip.frameClosed
  cases c.stew.frameEnd
  · exact ⟨rfl, rfl, rfl⟩
  · exact ⟨rfl, rfl, rfl⟩

/-- What an evaluation leaves of the Steward, the Stirrer and the regions. -/
def Chip.evaluation (c : Chip) (act : Activity) : Chip :=
  if c.time.epoch % 100 = 0 then ((c.capEvaluated act).frameClosed.heatEvaluated (c.interval act) (c.capFill act)).latchSweep
  else (c.capEvaluated act).frameClosed.heatEvaluated (c.interval act) (c.capFill act)

theorem execPowerEvaluation_eq {act : Activity} : execPowerEvaluation k act s =
    occurs ((s.chip k).running && (s.chip k).stew.evaluating && (s.chip k).stew.evalDue) s
      (s.setChip k ((s.chip k).noting ((s.chip k).evaluation act))) := by
  unfold execPowerEvaluation Chip.evaluation Chip.heatEvaluated Chip.frameClosed Chip.capEvaluated
  rfl

theorem Chip.stew_clearInterval (c : Chip) : c.clearInterval.stew.capped = c.stew.capped ∧
    c.clearInterval.stew.stirred = c.stew.stirred := ⟨rfl, rfl⟩

theorem Chip.heatEvaluated_leaves (c : Chip) (v : Interval) (fill : Nat) :
    (c.heatEvaluated v fill).stew.capped = c.stew.capped ∧
    (∀ r : RegionId, ((c.heatEvaluated v fill).region r).kNow =
        min ((c.heatEvaluated v fill).region r).kCap ((c.heatEvaluated v fill).region r).kTherm ∧
      ((c.heatEvaluated v fill).region r).kCap = (c.region r).kCap) ∧
    (c.img.nowA.stirMode = 0 → (c.heatEvaluated v fill).stew.stirred = (0, 0)) := by
  obtain ⟨hcapH, hH⟩ := c.heatAll_leaves
  have himgH : c.heatAll.img = c.img := Chip.Within.same (ps := [.regions, .stew, .hif]) (by simp) .img (by simp)
  obtain ⟨hcapS, hregsS, hstir⟩ := c.heatAll.stir_leaves v fill
  obtain ⟨hcapC, hstirC⟩ := (c.heatAll.stir v fill).stew_clearInterval
  refine ⟨hcapC.trans (hcapS.trans hcapH), fun r => ?_, fun h0 => ?_⟩
  · obtain ⟨hkc, hkt, hkn⟩ : _ ∧ _ ∧ _ := by
      simpa only [Prod.mk.injEq] using Chip.region_clearInterval (c.heatAll.stir v fill) r
    have hr : (c.heatAll.stir v fill).region r = (c.region r).heated := by rw [Chip.region, hregsS, ← Chip.region, hH r]
    rw [hr] at hkc hkt hkn
    rw [Chip.heatEvaluated, hkn, hkc, hkt]
    exact ⟨rfl, Region.kCap_heated _⟩
  · obtain ⟨hfl, hfi⟩ := hstir (by rw [himgH]; exact h0)
    exact hstirC.trans (Prod.ext hfl hfi)

theorem Chip.evaluation_leaves (c : Chip) (act : Activity) :
    (c.evaluation act).stew.evalDue = false ∧ (c.evaluation act).stew.effCap = min c.img.nowA.cap c.stew.grant ∧
    (c.evaluation act).stew.window = ((c.interval act).nj :: c.stew.window).take 100 ∧
    (∀ r : RegionId, ((c.evaluation act).region r).kNow =
        min ((c.evaluation act).region r).kCap ((c.evaluation act).region r).kTherm ∧
      ((c.evaluation act).region r).kCap ≤ (c.region r).kCap + 1) ∧
    (c.evaluation act).stew.staged.length = c.stew.staged.length + (if c.time.epoch % 100 = 0 then 1 else 0) ∧
    (c.img.nowA.stirMode = 0 → (c.evaluation act).stew.stirFloor = 0 ∧ (c.evaluation act).stew.stirFill = 0) := by
  unfold Chip.evaluation
  obtain ⟨hcap2, hk2⟩ := c.capEvaluated_leaves act
  have himg2 : (c.capEvaluated act).img = c.img :=
    Chip.Within.same (ps := [.gens, .regions, .stew, .hif]) (by simp [Chip.capEvaluated]) .img (by simp)
  generalize c.capEvaluated act = c2 at hcap2 hk2 himg2
  generalize c.interval act = v at hcap2
  generalize c.capFill act = fill
  obtain ⟨hcap3, hregs3, himg3⟩ := c2.frameClosed_leaves
  generalize c2.frameClosed = c3 at hcap3 hregs3 himg3
  obtain ⟨hcap4, hreg4, hstir4⟩ := c3.heatEvaluated_leaves v fill
  generalize c3.heatEvaluated v fill = c4 at hcap4 hreg4 hstir4
  have hcap := hcap4.trans (hcap3.trans hcap2)
  have hend : ∀ (d : Chip) (l : List Sweep), d.stew.capped = (false, c.stew.grant, min c.img.nowA.cap c.stew.grant,
      (v.nj :: c.stew.window).take 100, c.stew.staged ++ l) → d.regions = c4.regions → d.stew.stirred = c4.stew.stirred →
      d.stew.evalDue = false ∧ d.stew.effCap = min c.img.nowA.cap c.stew.grant ∧
      d.stew.window = (v.nj :: c.stew.window).take 100 ∧
      (∀ r : RegionId, (d.region r).kNow = min (d.region r).kCap (d.region r).kTherm ∧
        (d.region r).kCap ≤ (c.region r).kCap + 1) ∧ d.stew.staged.length = c.stew.staged.length + l.length ∧
      (c.img.nowA.stirMode = 0 → d.stew.stirFloor = 0 ∧ d.stew.stirFill = 0) := fun d l hc hregs hs => by
    simp only [Stew.capped, Prod.mk.injEq] at hc
    obtain ⟨hd, -, hcap, hwin, hst⟩ := hc
    refine ⟨hd, hcap, hwin, fun r => ?_, by rw [hst, List.length_append], fun h0 => ?_⟩
    · rw [Chip.region, hregs]
      obtain ⟨hmin, hkeep⟩ := hreg4 r
      refine ⟨hmin, hkeep.trans_le ?_⟩
      rw [Chip.region, hregs3]
      exact hk2 r
    · have := hs.trans (hstir4 (by rw [himg3, himg2, h0]))
      simpa [Stew.stirred] using this
  split
  next h =>
    obtain ⟨x, hlatch, hregs, hst⟩ := c4.latchSweep_leaves
    simp only [Stew.capped, Prod.mk.injEq] at hcap
    obtain ⟨hd4, hg4, hcap4, hwin4, hst4⟩ := hcap
    exact hend _ [x] (by rw [hlatch, hd4, hg4, hcap4, hwin4, hst4]) hregs hst
  next h => exact hend _ [] (by rw [hcap, List.append_nil]) rfl rfl

theorem exec_powerEvaluation {act : Activity} (hr : (s.chip k).running = true) (he : (s.chip k).stew.evaluating = true)
    (hd : (s.chip k).stew.evalDue = true) : exec (.powerEvaluation k act) s =
      .next (s.setChip k ((s.chip k).noting ((s.chip k).evaluation act))) := by
  rw [exec, execPowerEvaluation_eq, hr, he, hd]
  exact occurs_true _ _

/-! ## Temperature samples and trips -/

/-- What a sample leaves of its region: the reading, bounded to the register; a trip keeps its mark. -/
theorem Region.sample_leaves (x : Region) (t : Int) : (x.sample t).1.temp = max (-2048) (min 2047 t) ∧
    (x.sample t).1.tripped = x.tripped ∧ (t < 440 → (x.sample t).1.hotRun = 0) := by
  unfold Region.sample
  extract_lets ok reading y
  split
  · exact ⟨rfl, rfl, fun _ => rfl⟩
  · split
    · exact ⟨rfl, rfl, fun _ => rfl⟩
    · exact ⟨rfl, rfl, fun h => if_neg (by omega)⟩

/-- A hot reading in range, close to the last one, counts on. -/
theorem Region.hotRun_sample {x : Region} {t : Int} (hot : 440 ≤ t) (hi : t ≤ 600) (hj : (t - x.temp).natAbs ≤ 80)
    (hb : x.sensorBad = false) : (x.sample t).1.hotRun = x.hotRun + 1 := by
  have hok : (decide (-80 ≤ t) && decide (t ≤ 600) && (!x.sampled || decide ((t - x.temp).natAbs ≤ 80))) = true := by
    simp [hi, hj]
    omega
  simp only [Region.sample, hok, hb, Bool.not_true, Bool.false_eq_true, if_false]
  exact if_pos hot

/-- The samples of every region. -/
def Chip.sampled (c : Chip) (temps : List Int) : Chip := c.forRegions allRegions (fun c r =>
  let (x, bad) := (c.region r).sample (temps.getD r (c.region r).temp)
  (c.setRegion r x).faultIf bad .pwr 6 r)

theorem Chip.region_sampled (c : Chip) (temps : List Int) (r : RegionId) :
    (c.sampled temps).region r = ((c.region r).sample (temps.getD r (c.region r).temp)).1 := by
  unfold Chip.sampled
  rw [Chip.region_forRegions (g := fun r x => (x.sample (temps.getD r x.temp)).1) (fun c r => ?_) (fun c r j h => ?_)
    allRegions_nodup, if_pos (mem_allRegions r)]
  · rw [Chip.region_faultIf_frame]
    exact (Chip.region_setRegion ..).trans (if_pos rfl)
  · rw [Chip.region_faultIf_frame]
    exact (Chip.region_setRegion ..).trans (if_neg h)

/-- The trips after the samples. -/
def Chip.tripHot (c : Chip) (pos : Nat) (cycles : List Nat) : Chip := c.forRegions allRegions (fun c r =>
  if 2 ≤ (c.region r).hotRun && !(c.region r).tripped then c.trip r pos cycles else c)

theorem execTempSample_eq {temps : List Int} {pos : Nat} {cycles : List Nat} : execTempSample k temps pos cycles s =
    occurs (s.chip k).running s
      (s.setChip k ((s.chip k).noting (((s.chip k).sampled temps).tripHot pos cycles))) := by
  unfold execTempSample Chip.sampled Chip.tripHot
  rfl

/-- Steps that change nothing at a state leave it. -/
theorem foldl_still {α β : Type} {f : β → α → β} {b : β} {l : List α} (h : ∀ a ∈ l, f b a = b) : l.foldl f b = b := by
  induction l with
  | nil => rfl
  | cons a l ih => rw [List.foldl_cons, h a List.mem_cons_self, ih fun x hx => h x (List.mem_cons_of_mem a hx)]

theorem Chip.tripHot_of_cool {c : Chip} (h : ∀ r : RegionId, (c.region r).hotRun = 0) (pos : Nat) (cycles : List Nat) :
    c.tripHot pos cycles = c :=
  foldl_still fun r hr => if_neg (by simp [h ⟨r, List.mem_range.1 hr⟩])

theorem exec_tempSample_cool {temps : List Int} {pos : Nat} {cycles : List Nat} {r : RegionId} (hr : (s.chip k).running = true)
    (hcool : ∀ x : RegionId, temps.getD x ((s.chip k).region x).temp < 440) :
    ∃ t, exec (.tempSample k temps pos cycles) s = .next t ∧
      ((t.chip k).region r).temp = max (-2048) (min 2047 (temps.getD r ((s.chip k).region r).temp)) ∧
      ((t.chip k).region r).tripped = ((s.chip k).region r).tripped := by
  refine ⟨_, by rw [exec, execTempSample_eq, hr]; exact occurs_true _ _, ?_⟩
  rw [State.chip_setChip_self, Chip.region_noting, Chip.tripHot_of_cool fun x => ?_, Chip.region_sampled]
  · exact ⟨(Region.sample_leaves _ _).1, (Region.sample_leaves _ _).2.1⟩
  · rw [Chip.region_sampled]
    exact (Region.sample_leaves _ _).2.2 (hcool x)

/-! ### A trip -/

theorem Chip.regionEq_isolate {α : Type} {g : Region → α} (hd : ∀ (x : Region) n, g { x with discard := n } = g x)
    (hs : ∀ (x : Region) s, g { x with status := s, isoSinkOn := true, awaitLock := false } = g x) (c : Chip) (r : Nat) :
    c.RegionEq g (c.isolate r) := by
  unfold Chip.isolate
  extract_lets c1 c2 c3 c4
  have h1 : c.RegionEq g c1 := Chip.regionEq_changeRegion c r _ (hs _ _)
  have h2 : c1.RegionEq g c2 := .foldl (fun c q => c.regionEq_resetQueue hd q) _ _
  exact h1.trans (h2.trans (.of_within (ps := [.tiles, .eps, .mem, .seq, .hif]) g (by simp [c4, c3]) (by simp)))

theorem Chip.regionEq_haltGen {α : Type} {g : Region → α} (hg : ∀ (x : Region) n, g { x with cycleEvents := n } = g x) (c : Chip)
    (m pos : Nat) (cycles : List Nat) (h : HaltCause) : c.RegionEq g (c.haltGen m pos cycles h) := by
  unfold Chip.haltGen
  refine Chip.RegionEq.trans (.foldl (fun c r => ?_) _ _) fun _ => rfl
  unfold Chip.closeLedger
  extract_lets n
  split
  · refine Chip.RegionEq.trans (d := c.onGen r _) (fun _ => rfl) (.onRegion _ r _ fun x => hg x _)
  · exact .refl g c

/-- A step that never takes back the trip mark of a region. -/
def Chip.HoldsTrip (r : Nat) (c d : Chip) : Prop := (c.region r).tripped = true → (d.region r).tripped = true

theorem Chip.RegionEq.holdsTrip {c d : Chip} (h : c.RegionEq Region.tripped d) (r : Nat) : c.HoldsTrip r d := fun ht =>
  (h r).trans ht

/-- What a trip leaves: the counts of hot samples, every earlier mark, and its own. -/
theorem Chip.trip_leaves (c : Chip) (r pos : Nat) (cycles : List Nat) : c.RegionEq Region.hotRun (c.trip r pos cycles) ∧
    (∀ x, c.HoldsTrip x (c.trip r pos cycles)) ∧
    ∀ x ∈ c.clockedBy (c.clockOwner r), ((c.trip r pos cycles).region x).tripped = true := by
  unfold Chip.trip
  extract_lets m rs c1 c2 c3
  have h1 : ∀ {α : Type} {g : Region → α}, (∀ (x : Region) n, g { x with cycleEvents := n } = g x) → c.RegionEq g c1 := by
    intro α g hg
    simp only [c1]
    split
    · exact .refl g c
    · exact c.regionEq_haltGen hg _ _ _ _
  have h2 : ∀ x, (c2.region x).tripped = if x ∈ rs then true else (c1.region x).tripped := fun x => by
    have h := Chip.region_forRegions (f := fun c x => c.onRegion x (fun y => { y with tripped := true }))
      (g := fun _ y => { y with tripped := true }) (l := rs) (fun c r => c.region_onRegion_self r fun y => { y with tripped := true })
      (fun c r j h => (Chip.region_setRegion ..).trans (if_neg h)) (allRegions_nodup.filter _) c1 x
    refine (congrArg Region.tripped h).trans ?_
    split <;> rfl
  have h3 : ∀ {α : Type} {g : Region → α}, (∀ (x : Region) n, g { x with discard := n } = g x) →
      (∀ (x : Region) s, g { x with status := s, isoSinkOn := true, awaitLock := false } = g x) →
      c2.RegionEq g (c3.fault .pwr 3 r) := fun {α g} hd hs => by
    refine Chip.RegionEq.trans (.foldl (fun c x => ?_) _ _) (.fault g _ _ _ _)
    split
    · exact .refl g c
    · exact c.regionEq_isolate hd hs x
  have hhot : c1.RegionEq Region.hotRun c2 := .foldl (f := fun c x => c.onRegion x (fun y => { y with tripped := true }))
    (fun c x => .onRegion c x _ fun _ => rfl) _ _
  have ht := h3 (g := Region.tripped) (fun _ _ => rfl) fun _ _ => rfl
  refine ⟨(h1 fun _ _ => rfl).trans (hhot.trans (h3 (fun _ _ => rfl) fun _ _ => rfl)), fun x hx => ?_, fun x hx => ?_⟩
  · rw [ht x, h2 x, h1 (g := Region.tripped) (fun _ _ => rfl) x, hx, ite_self]
  · rw [ht x, h2 x, if_pos hx]

/-- A region stands among those that its clock's owner clocks. -/
theorem Chip.mem_clockedBy_clockOwner (c : Chip) (r : RegionId) : r.val ∈ c.clockedBy (c.clockOwner r) := by
  refine List.mem_filter.2 ⟨mem_allRegions r, ?_⟩
  unfold Chip.clockOwner
  split
  next h => simp [h]
  next => simp

/-- After the trips every region with two hot samples is tripped. -/
theorem Chip.tripHot_tripped {c : Chip} {r : RegionId} (h : 2 ≤ (c.region r).hotRun) (pos : Nat) (cycles : List Nat) :
    ((c.tripHot pos cycles).region r).tripped = true := by
  have key : ∀ (l : List Nat) (c : Chip), 2 ≤ (c.region r).hotRun → (r.val ∈ l ∨ (c.region r).tripped = true) →
      ((c.forRegions l fun c r => if 2 ≤ (c.region r).hotRun && !(c.region r).tripped then c.trip r pos cycles else c).region
        r).tripped = true := by
    intro l
    induction l with
    | nil => exact fun c _ h => h.resolve_left List.not_mem_nil
    | cons x l ih =>
      intro c hot h
      obtain ⟨hhot, hold, own⟩ := c.trip_leaves x pos cycles
      refine ih _ ?_ ?_
      · dsimp only
        split
        · rw [hhot r]
          exact hot
        · exact hot
      · rcases h with h | h
        · rcases List.mem_cons.1 h with h | h
          · subst h
            right
            dsimp only
            split
            · exact own _ (c.mem_clockedBy_clockOwner r)
            next hn => simpa [hot] using hn
          · exact .inl h
        · right
          dsimp only
          split
          · exact hold r h
          · exact h
  exact key allRegions c h (.inl (mem_allRegions r))

theorem exec_tempSample_hot {temps : List Int} {pos : Nat} {cycles : List Nat} {r : RegionId} (hr : (s.chip k).running = true)
    (hot : 440 ≤ temps.getD r ((s.chip k).region r).temp) (hi : temps.getD r ((s.chip k).region r).temp ≤ 600)
    (hj : (temps.getD r ((s.chip k).region r).temp - ((s.chip k).region r).temp).natAbs ≤ 80)
    (hb : ((s.chip k).region r).sensorBad = false) (h1 : 1 ≤ ((s.chip k).region r).hotRun) :
    ∃ t, exec (.tempSample k temps pos cycles) s = .next t ∧ ((t.chip k).region r).tripped = true := by
  refine ⟨_, by rw [exec, execTempSample_eq, hr]; exact occurs_true _ _, ?_⟩
  rw [State.chip_setChip_self, Chip.region_noting, Chip.tripHot_tripped]
  rw [Chip.region_sampled, Region.hotRun_sample hot hi hj hb]
  omega

/-! ### The restart after a trip -/

theorem exec_tripRestart {r : RegionId} (hr : (s.chip k).running = true) (ht : ((s.chip k).region r).tripped = true)
    (ho : (s.chip k).clockOwner r = r.val) (hcold : ∀ x ∈ (s.chip k).clockedBy r, 100000 ≤ ((s.chip k).region x).coldRun)
    (hs : (s.chip k).stew.coolantStop = false) (hres : (s.chip k).stew.resuming = false)
    (hn : (s.tray.slot k).coolantN = false) (hg : ((s.chip k).gen r).state = .halted) :
    ∃ t, exec (.tripRestart k r) s = .next t ∧ ((t.chip k).gen r).state = .cal ∧
      ∀ x ∈ (s.chip k).clockedBy r, ((t.chip k).region x).tripped = false := by
  have hall : ((s.chip k).clockedBy r).all (fun x => decide (100000 ≤ ((s.chip k).region x).coldRun)) = true :=
    List.all_eq_true.2 fun x hx => decide_eq_true (hcold x hx)
  refine ⟨_, by rw [exec, execTripRestart]; simp only [hr, ht, ho, hall, hs, hres, hn, beq_self_eq_true]; exact occurs_true _ _, ?_⟩
  rw [State.chip_setChip_self]
  generalize s.chip k = c at hg
  have hnodup : (c.clockedBy r).Nodup := allRegions_nodup.filter _
  have hgen := Chip.gen_forRegions (f := fun c x => (c.onRegion x (fun y => { y with tripped := false })).onGen x Gen.reloop)
    (g := fun _ => Gen.reloop) (fun c r => (Chip.gen_setGen ..).trans (if_pos rfl))
    (fun c r j h => (Chip.gen_setGen ..).trans (if_neg h)) hnodup c r
  have hreg := Chip.region_forRegions (f := fun c x => (c.onRegion x (fun y => { y with tripped := false })).onGen x Gen.reloop)
    (g := fun _ y => { y with tripped := false }) (fun c r => c.region_onRegion_self r fun y => { y with tripped := false })
    (fun c r j h => (Chip.region_setRegion ..).trans (if_neg h)) hnodup c
  have hstate : ((c.forRegions (c.clockedBy r) fun c x =>
      (c.onRegion x (fun y => { y with tripped := false })).onGen x Gen.reloop).gen r).state = .halted := by
    rw [hgen]
    split <;> exact hg
  refine ⟨?_, fun x hx => ?_⟩
  · rw [Chip.gen_noting]
    exact (congrArg Gen.state ((Chip.gen_setGen ..).trans (if_pos rfl))).trans (congrArg Gen.state (if_pos hstate))
  · rw [Chip.region_noting]
    exact congrArg Region.tripped ((hreg x).trans (if_pos hx))

/-! ## The coolant stop -/

/-- The generators after a step of each, when the step leaves a generator at reset as it is. -/
theorem Chip.gen_mapGens_all {f : Gen → Gen} (hf : f {} = {}) (c : Chip) (r : Nat) :
    (c.mapGens fun _ => f).gen r = f (c.gen r) := by
  simp only [Chip.gen, Chip.mapGens, Bank.get, Bank.look_mapCells]
  cases Bank.look c.gens.cells r with
  | none => exact hf.symm
  | some g => rfl

theorem Gen.state_ledger (g : Gen) (st : GenState) (m pos n : Nat) : (g.ledger st m pos n).state = g.state := by
  unfold Gen.ledger
  split <;> rfl

theorem Chip.state_closeLedger (c : Chip) (x pos n r : Nat) : ((c.closeLedger x pos n).gen r).state = (c.gen r).state := by
  unfold Chip.closeLedger
  extract_lets m
  split
  · refine (congrArg Gen.state (Chip.gen_setGen ..)).trans ?_
    split
    next h =>
      rw [h]
      exact Gen.state_ledger ..
    next => rfl
  · rfl

theorem Gen.coolantHalt_leaves (g : Gen) : g.coolantHalt.state ≠ .locked ∧ (g.state = .locked → g.coolantHalt.state = .halted) := by
  unfold Gen.coolantHalt
  cases h : g.state <;> simp [Gen.haltFor, h]

/-- A region at a coolant stop: it serves no more, and waits for its lock. -/
def Region.coolantOut (x : Region) : Region :=
  match x.status with
  | .serving => { x with status := .out, awaitLock := true }
  | .out => { x with awaitLock := true }
  | .retired => x | .isolated => x

theorem Region.status_coolantOut (x : Region) : x.coolantOut.status ≠ .serving := by
  unfold Region.coolantOut
  cases h : x.status <;> simp [h]

/-- Of the Steward, what a coolant stop sets. -/
def Stew.stopped (w : Stew) : Bool × Nat := (w.coolantStop, w.stirFill)

/-- The Steward at a coolant stop. -/
def Chip.coolantMarked (c : Chip) : Chip :=
  c.onStew (fun w => { w with coolantStop := true, resuming := false, stirFloor := 0, stirFill := 0 })

/-- A coolant stop, up to the failure of a chip that is not READY. -/
def Chip.coolantStopped (c : Chip) (pos : Nat) (cycles : List Nat) : Chip :=
  (((((c.forRegions allRegions (fun d r => d.closeLedger r pos (cycles.getD r 0))).mapGens
    (fun _ => Gen.coolantHalt)).coolantMarked).fault .pwr 4 noInstance).abortAll).forRegions allRegions
    (fun c r => c.onRegion r Region.coolantOut)

/-- A chip that is not READY fails. -/
def Chip.failUnready (c : Chip) (ready : Bool) : Chip :=
  if ready then c else ((c.onBru (fun b => { b with phase := .failed, stuck := true })).fault .bru 11 noInstance).cause 18

theorem execCoolantStop_eq {ns pos : Nat} {cycles : List Nat} : execCoolantStop k ns pos cycles s =
    occurs ((s.chip k).running && (s.tray.slot k).coolantN && decide (1000 ≤ ns) && !(s.chip k).stew.coolantStop) s
      (s.setChip k ((s.chip k).noting (((s.chip k).coolantStopped pos cycles).failUnready (s.chip k).bru.ready))) := by
  unfold execCoolantStop Chip.coolantStopped Chip.coolantMarked Chip.failUnready
  rfl

theorem Chip.failUnready_leaves (c : Chip) (ready : Bool) : (c.failUnready ready).stew = c.stew ∧
    (c.failUnready ready).gens = c.gens ∧ (c.failUnready ready).regions = c.regions ∧
    (ready = false → (c.failUnready ready).bru.phase = .failed) := by
  unfold Chip.failUnready
  cases ready
  · exact ⟨rfl, rfl, rfl, fun _ => rfl⟩
  · exact ⟨rfl, rfl, rfl, fun h => nomatch h⟩

theorem Chip.coolantStopped_leaves (c : Chip) (pos : Nat) (cycles : List Nat) :
    (c.coolantStopped pos cycles).stew.coolantStop = true ∧ (c.coolantStopped pos cycles).stew.stirFill = 0 ∧
    ∀ r : RegionId, ((c.coolantStopped pos cycles).gen r).state ≠ .locked ∧
      ((c.coolantStopped pos cycles).region r).status ≠ .serving ∧
      ((c.gen r).state = .locked → ((c.coolantStopped pos cycles).gen r).state = .halted) := by
  unfold Chip.coolantStopped
  have hstate : ∀ r, ((c.forRegions allRegions fun d r => d.closeLedger r pos (cycles.getD r 0)).gen r).state =
      (c.gen r).state := fun r =>
    foldl_keeps (fun d : Chip => (d.gen r).state) (fun d x => d.state_closeLedger x pos _ r) allRegions c
  generalize c.forRegions allRegions (fun d r => d.closeLedger r pos (cycles.getD r 0)) = c0 at hstate
  have hmap := c0.gen_mapGens_all (f := Gen.coolantHalt) rfl
  generalize c0.mapGens (fun _ => Gen.coolantHalt) = c1 at hmap
  have hstop : c1.coolantMarked.stew.stopped = (true, 0) := rfl
  have hgens : c1.coolantMarked.gens = c1.gens := rfl
  generalize c1.coolantMarked = c2 at hstop hgens
  have hab : c2.Within [.tiles, .mem, .seq, .hif] ((c2.fault .pwr 4 noInstance).abortAll) := by simp
  have hgens3 := (hab.same .gens (by simp)).trans hgens
  have hstop3 := (congrArg Stew.stopped (hab.same .stew (by simp))).trans hstop
  generalize (c2.fault .pwr 4 noInstance).abortAll = c3 at hgens3 hstop3
  obtain ⟨hst, hfill⟩ : _ ∧ _ := by
    simpa only [Stew.stopped, Prod.mk.injEq] using
      (foldl_keeps (fun d : Chip => d.stew.stopped) (f := fun c r => c.onRegion r Region.coolantOut) (fun _ _ => by rfl) allRegions
        c3).trans hstop3
  refine ⟨hst, hfill, fun r => ?_⟩
  have hgen : (c3.forRegions allRegions fun c r => c.onRegion r Region.coolantOut).gen r = (c0.gen r).coolantHalt :=
    (Chip.gen_of_gens ((foldl_keeps Chip.gens (fun _ _ => by rfl) _ _).trans hgens3) r).trans (hmap r)
  rw [hgen, ← hstate r, Chip.region_forRegions (g := fun _ => Region.coolantOut) (fun c r => c.region_onRegion_self r _)
    (fun c r j h => (Chip.region_setRegion ..).trans (if_neg h)) allRegions_nodup, if_pos (mem_allRegions r)]
  exact ⟨(c0.gen r).coolantHalt_leaves.1, Region.status_coolantOut _, (c0.gen r).coolantHalt_leaves.2⟩

theorem exec_coolantStop {ns pos : Nat} {cycles : List Nat} (hr : (s.chip k).running = true) (hns : 1000 ≤ ns)
    (hn : (s.tray.slot k).coolantN = true) (hs : (s.chip k).stew.coolantStop = false) :
    ∃ t, exec (.coolantStop k ns pos cycles) s = .next t ∧ (t.chip k).stew.coolantStop = true ∧
      (t.chip k).stew.stirFill = 0 ∧
      (∀ r : RegionId, ((t.chip k).gen r).state ≠ .locked ∧ ((t.chip k).region r).status ≠ .serving ∧
        (((s.chip k).gen r).state = .locked → ((t.chip k).gen r).state = .halted)) ∧
      ((s.chip k).bru.ready = false → (t.chip k).bru.phase = .failed) := by
  refine ⟨_, by rw [exec, execCoolantStop_eq, hr, hn, decide_eq_true hns, hs]; exact occurs_true _ _, ?_⟩
  rw [State.chip_setChip_self, Chip.stew_noting, Chip.bru_noting]
  obtain ⟨hst, hfill, hreg⟩ := (s.chip k).coolantStopped_leaves pos cycles
  obtain ⟨hstew, hgens, hregs, hphase⟩ := ((s.chip k).coolantStopped pos cycles).failUnready_leaves (s.chip k).bru.ready
  refine ⟨by rw [hstew, hst], by rw [hstew, hfill], fun r => ?_, hphase⟩
  rw [Chip.gen_noting, Chip.region_noting, Chip.gen_of_gens hgens, Chip.region, hregs]
  exact hreg r

theorem exec_coolantStopRelease (hr : (s.chip k).running = true) (hs : (s.chip k).stew.coolantStop = true)
    (hn : (s.tray.slot k).coolantN = false) :
    ∃ t, exec (.coolantStopRelease k) s = .next t ∧ (t.chip k).stew.coolantStop = false ∧
      (t.chip k).stew.resuming = (if (s.chip k).bru.ready then true else (s.chip k).stew.resuming) := by
  refine ⟨_, by rw [exec, execCoolantStopRelease, hr, hs, hn]; exact occurs_true _ _, ?_⟩
  rw [State.chip_setChip_self, Chip.stew_noting]
  cases (s.chip k).bru.ready <;> exact ⟨rfl, rfl⟩

theorem exec_coolantResumeStart (hr : (s.chip k).running = true) (hs : (s.chip k).stew.resuming = true)
    (ha : 50 ≤ (s.chip k).stew.resumeAge) :
    ∃ t, exec (.coolantResumeStart k) s = .next t ∧ (t.chip k).stew.resuming = false ∧
      ∀ r : RegionId, ((s.chip k).gen r).state = .halted →
        ((t.chip k).gen r).state = (if ((s.chip k).gen r).halt = .trip then .halted else .cal) := by
  refine ⟨_, by rw [exec, execCoolantResumeStart, hr, hs, decide_eq_true ha]; exact occurs_true _ _, ?_⟩
  rw [State.chip_setChip_self]
  refine ⟨rfl, fun r h => ?_⟩
  refine (congrArg Gen.state (Chip.gen_mapGens _ (r := r) (by rw [h]; decide))).trans ?_
  simp only [h]
  split
  · exact h
  · rfl

/-- Settles O35. -/
theorem powerTakesEffect : Obligations.PowerTakesEffect := by
  unfold Obligations.PowerTakesEffect
  refine ⟨fun k act s hr he hd => ⟨_, exec_powerEvaluation hr he hd, ?_⟩, fun k s hr => ⟨?_, ?_, ?_, ?_, ?_, ?_⟩⟩
  · rw [State.chip_setChip_self, Chip.stew_noting]
    simp only [Chip.region_noting]
    exact (s.chip k).evaluation_leaves act
  · exact fun _ _ _ _ h => exec_tempSample_cool hr h
  · exact fun _ _ _ _ hot hi _ hj hb h1 => exec_tempSample_hot hr hot hi hj hb h1
  · exact fun _ ht ho hcold hs hres hn hg => exec_tripRestart hr ht ho hcold hs hres hn hg
  · exact fun _ _ _ hns hn hs => exec_coolantStop hr hns hn hs
  · exact fun hs hn => exec_coolantStopRelease hr hs hn
  · exact fun hs ha => exec_coolantResumeStart hr hs ha

/-! ## The grants of the tray budget -/

/-- What every round of R556 keeps: the slots in their order, and 150 W at least for each. -/
def GrantsFrom (xs ys : List Share) : Prop :=
  ys.map Share.slot = xs.map Share.slot ∧ ((∀ x ∈ xs, 150 ≤ x.g) → ∀ y ∈ ys, 150 ≤ y.g)

theorem GrantsFrom.refl (xs : List Share) : GrantsFrom xs xs := ⟨rfl, id⟩

theorem GrantsFrom.trans {xs ys zs : List Share} (h : GrantsFrom xs ys) (h' : GrantsFrom ys zs) : GrantsFrom xs zs :=
  ⟨h'.1.trans h.1, fun hx => h'.2 (h.2 hx)⟩

theorem GrantsFrom.cons {xs ys : List Share} (h : GrantsFrom xs ys) (x : Share) (n : Nat) :
    GrantsFrom (x :: xs) ({ x with g := x.g + n } :: ys) := by
  refine ⟨congrArg (x.slot :: ·) h.1, fun hx y hy => ?_⟩
  rcases List.mem_cons.1 hy with rfl | hy
  · exact (hx x List.mem_cons_self).trans (Nat.le_add_right _ _)
  · exact h.2 (fun z hz => hx z (List.mem_cons_of_mem x hz)) y hy

theorem grantsFrom_shareRound (p : Bool) (r0 ws : Nat) (xs : List Share) (rest : Nat) :
    GrantsFrom xs (shareRound p r0 ws xs rest).1 := by
  induction xs generalizing rest with
  | nil => exact .refl []
  | cons x t ih =>
    unfold shareRound
    split
    · exact (ih _).cons x _
    · exact (ih _).cons x 0

theorem grantsFrom_sharePass (fuel : Nat) (p : Bool) (xs : List Share) (rest : Nat) :
    GrantsFrom xs (sharePass fuel p xs rest).1 := by
  induction fuel generalizing xs rest with
  | zero => exact .refl xs
  | succ n ih =>
    unfold sharePass
    extract_lets act ws
    split
    · exact .refl xs
    · have h := grantsFrom_shareRound p rest ws xs rest
      split
      next xs' rest' hs =>
      rw [hs] at h
      split
      · exact .refl xs
      · exact h.trans (ih xs' rest')

theorem grantsFrom_grants (budget : Nat) (xs : List Share) : GrantsFrom xs (grants budget xs) :=
  (grantsFrom_sharePass _ true xs _).trans (grantsFrom_sharePass _ false _ _)

/-- The grant of slot `n` among shares: 0 for a slot without a share, 150 W at least for one with. -/
theorem grantOf_leaves {ys : List Share} (h : ∀ y ∈ ys, 150 ≤ y.g) (n : Nat) :
    (n ∉ ys.map Share.slot → ((ys.find? (fun x => x.slot == n)).map (fun x => x.g)).getD 0 = 0) ∧
    (n ∈ ys.map Share.slot → 150 ≤ ((ys.find? (fun x => x.slot == n)).map (fun x => x.g)).getD 0) := by
  cases hf : ys.find? (fun x => x.slot == n) with
  | none =>
    refine ⟨fun _ => rfl, fun hn => ?_⟩
    obtain ⟨y, hy, rfl⟩ := List.mem_map.1 hn
    simpa using List.find?_eq_none.1 hf y hy
  | some y =>
    have hy := List.mem_of_find?_eq_some hf
    refine ⟨fun hn => absurd (List.mem_map.2 ⟨y, hy, ?_⟩) hn, fun _ => h y hy⟩
    simpa using List.find?_some hf

theorem Tray.slot_exchange (t : Tray) (e : Nat) (n : SlotId) : ((t.exchange e t.poweredSlots).slot n).grantPrev = t.headerGrant n ∧
    ((t.slot n).counted = false → ((t.exchange e t.poweredSlots).slot n).grant = 0) ∧
    ((t.slot n).counted = true → 150 ≤ ((t.exchange e t.poweredSlots).slot n).grant) := by
  unfold Tray.exchange
  obtain ⟨hslots, hleast⟩ := grantsFrom_grants t.image.budget (t.poweredSlots.map t.share)
  have hmem : n.val ∈ (grants t.image.budget (t.poweredSlots.map t.share)).map Share.slot ↔ (t.slot n).counted = true := by
    rw [hslots, List.map_map, show Share.slot ∘ t.share = id from rfl, List.map_id]
    simp [Tray.poweredSlots]
  replace hleast := hleast fun x hx => by
    obtain ⟨m, -, rfl⟩ := List.mem_map.1 hx
    exact Nat.le_refl 150
  obtain ⟨hno, hyes⟩ := grantOf_leaves hleast n.val
  clear hslots hleast
  generalize grants t.image.budget (t.poweredSlots.map t.share) = gs at hmem hno hyes
  refine ⟨?_, fun h => ?_, fun h => ?_⟩
  · simp [Tray.slot]
  · simpa [Tray.slot] using hno fun hm => Bool.false_ne_true (h.symm.trans (hmem.1 hm))
  · simpa [Tray.slot] using hyes (hmem.2 h)

theorem exec_grantExchange {x : Side} (hx : s.tray.role = some x) (he : (s.tray.tmc x).time.epoch % 10000 = 0)
    (hn : s.tray.exch ≠ (s.tray.tmc x).time.epoch) (hp : s.tray.poweredSlots ≠ []) :
    exec .grantExchange s = .next (s.onTray fun t => t.exchange (s.tray.tmc x).time.epoch t.poweredSlots) := by
  have h1 : (s.tray.exch != (s.tray.tmc x).time.epoch) = true := bne_iff_ne.2 hn
  have h2 : s.tray.poweredSlots.isEmpty = false := by simpa using hp
  simp only [exec, execGrantExchange, hx, he, h1, h2]
  exact occurs_true _ _

theorem exec_grantFallApply {g x : Nat} (hr : (s.chip k).running = true) (hg : (s.chip k).stew.grantNew = some (g, x))
    (hf : g < (s.chip k).stew.grant) (hx : x + 2000 ≤ (s.chip k).time.epoch) :
    ∃ t, exec (.grantFallApply k) s = .next t ∧ (t.chip k).stew.grant = g ∧
      (t.chip k).stew.ack = x / 10000 % 256 ∧ (t.chip k).stew.grantNew = none := by
  refine ⟨s.setChip k ((s.chip k).onStew fun w => { w with grant := g, grantNew := none, ack := x / 10000 % 256 }), ?_, ?_⟩
  · simp only [exec, execGrantFallApply, hg, hr, hf, hx, decide_true, Bool.and_self, occurs_true]
  · rw [State.chip_setChip_self]
    exact ⟨rfl, rfl, rfl⟩

theorem exec_grantRiseApply {g x : Nat} (hr : (s.chip k).running = true) (hg : (s.chip k).stew.grantNew = some (g, x))
    (hf : (s.chip k).stew.grant ≤ g) (hx : x + 3000 ≤ (s.chip k).time.epoch) :
    ∃ t, exec (.grantRiseApply k) s = .next t ∧ (t.chip k).stew.grant = g ∧ (t.chip k).stew.ack = (s.chip k).stew.ack ∧
      (t.chip k).stew.grantNew = none := by
  refine ⟨s.setChip k ((s.chip k).onStew fun w => { w with grant := g, grantNew := none }), ?_, ?_⟩
  · simp only [exec, execGrantRiseApply, hg, hr, hf, hx, decide_true, Bool.and_self, occurs_true]
  · rw [State.chip_setChip_self]
    exact ⟨rfl, rfl, rfl⟩

theorem Chip.logged_noting {c d : Chip} {t : Tag} {nn inst : Nat} (h : d.logged t nn inst) : (c.noting d).logged t nn inst := by
  unfold Chip.noting
  split
  · exact h
  · exact h

theorem exec_grantStale (hr : (s.chip k).running = true) (ha : 30000 ≤ (s.chip k).stew.grantAge)
    (hs : (s.chip k).stew.grantStale = false) :
    ∃ t, exec (.grantStale k) s = .next t ∧ (t.chip k).stew.grantStale = true ∧
      (t.chip k).stew.grant = (s.chip k).stew.grant ∧ (t.chip k).logged .pwr 5 noInstance := by
  refine ⟨_, by rw [exec, execGrantStale, hr, decide_eq_true ha, hs]; exact occurs_true _ _, ?_⟩
  rw [State.chip_setChip_self, Chip.stew_noting]
  exact ⟨rfl, rfl, Chip.logged_noting (Chip.logged_fault _ _ _ _)⟩

/-- Settles O36. -/
theorem grantsTakeEffect : Obligations.GrantsTakeEffect := by
  unfold Obligations.GrantsTakeEffect
  exact fun k s => ⟨fun x hx he hn hp => ⟨_, exec_grantExchange hx he hn hp, rfl, fun n => s.tray.slot_exchange _ n⟩,
    fun hr g x hg => ⟨fun hf hx => exec_grantFallApply hr hg hf hx, fun hf hx => exec_grantRiseApply hr hg hf hx⟩,
    fun hr ha hs => exec_grantStale hr ha hs⟩

end Sys2Proof.Machine
end

section
/-! LEMMAS. The meter ring and the energy counters (chapter 14). Settles O37 and O38. -/

namespace Sys2Proof.Machine

-- In order, not in parallel: every elaborator thread that waits for another holds a stack within the check's memory limit.
set_option Elab.async false

variable {k : ChipId} {s : State}

/-! ## A sweep starts -/

theorem exec_sweepStart {x : Side} (hx : s.tray.role = some x) (he : (s.tray.tmc x).time.epoch % 100 = 0)
    (hs : s.tray.ring.sweeping = false) (hb : s.tray.ring.begun = true → s.tray.ring.boundary ≠ (s.tray.tmc x).time.epoch)
    (hn : s.tray.ring.begun = false → s.tray.ring.roleAt < (s.tray.tmc x).time.epoch)
    (hact : ∀ n : SlotId, ¬ ((s.tray.slot n).seq = .on ∧ (s.tray.slot n).pendReq = some false)) :
    exec .sweepStart s = .next (s.onTray fun t => t.startSweep (s.tray.tmc x).time.epoch) := by
  have hall : (List.range 8).all (fun n => !((s.tray.slot n).seq == .on && (s.tray.slot n).pendReq == some false)) = true := by
    refine List.all_eq_true.2 fun n hm => ?_
    simpa [imp_iff_not_or] using hact ⟨n, List.mem_range.1 hm⟩
  have hdue : (if s.tray.ring.begun then s.tray.ring.boundary != (s.tray.tmc x).time.epoch
      else decide (s.tray.ring.roleAt < (s.tray.tmc x).time.epoch)) = true := by
    cases hbeg : s.tray.ring.begun
    · simpa using hn hbeg
    · simpa using hb hbeg
  simp only [exec, execSweepStart, hx, he, hs, hdue, hall]
  exact occurs_true _ _

/-! ## A frame passes a node -/

theorem exec_meterFramePass_out {node : NodeId} {rev : Bool} {meas mv : List Nat} {ok : Bool} (hrole : s.tray.role.isSome = true)
    (hn : 0 < node.val) (h : s.tray.ring.passKind node rev = .out) :
    exec (.meterFramePass node rev meas mv ok) s = .next (s.passNode node rev true meas mv ok) := by
  obtain ⟨x, hx⟩ := Option.isSome_iff_exists.1 hrole
  simp only [exec, execMeterFramePass, hx, Nat.ne_of_gt hn, if_false, h]

theorem exec_meterFramePass_back {node : NodeId} {rev : Bool} {meas mv : List Nat} {ok : Bool} (hrole : s.tray.role.isSome = true)
    (hn : 0 < node.val) (h : s.tray.ring.passKind node rev = .back) :
    exec (.meterFramePass node rev meas mv ok) s = .next (s.passNode node rev false meas mv ok) := by
  obtain ⟨x, hx⟩ := Option.isSome_iff_exists.1 hrole
  simp only [exec, execMeterFramePass, hx, Nat.ne_of_gt hn, if_false, h]

/-- Of the ring, the nodes that the frames have passed. -/
def MeterRing.passes (r : MeterRing) : List Nat × List Nat × List Nat × List Nat := (r.passed, r.passedR, r.backF, r.backR)

/-- A pass marks its node; on its way back the frame fills no slot. -/
theorem State.passNode_leaves (s : State) (node : Nat) (rev out : Bool) (meas mv : List Nat) (ok : Bool) :
    (s.passNode node rev out meas mv ok).tray.ring.passes = (s.tray.ring.mark node rev out).passes ∧
    (out = false → (s.passNode node rev out meas mv ok).tray.ring = s.tray.ring.mark node rev out) := by
  unfold State.passNode
  extract_lets r r1 n c c1 c2
  clear_value c2
  split
  · cases out
    · exact ⟨rfl, fun _ => rfl⟩
    · exact ⟨rfl, fun h => nomatch h⟩
  · split
    · exact ⟨rfl, fun _ => rfl⟩
    · cases out
      · exact ⟨rfl, fun _ => rfl⟩
      · exact ⟨rfl, fun h => nomatch h⟩

theorem State.passNode_bank {node : Nat} (s : State) (rev : Bool) (meas mv : List Nat) (ok : Bool) (h : node % 2 = 1) :
    (s.passNode node rev true meas mv ok).tray.ring.bank.get [] node = meas.take 5 ++ [s.tray.ring.missed.get 0 node] ++ mv.take 4 ∧
    (s.passNode node rev true meas mv ok).tray.ring.missed.get 0 node = 0 := by
  unfold State.passNode
  extract_lets r r1
  have hmissed : r1.missed = s.tray.ring.missed := by cases rev <;> rfl
  rw [if_pos h, ← hmissed]
  exact ⟨Bank.get_set_self .., Bank.get_set_self ..⟩

theorem Chip.grantAge_readFrame (c : Chip) (r : MeterRing) (node : Nat) : (c.readFrame r node).stew.grantAge = 0 := by
  unfold Chip.readFrame
  extract_lets n c1
  have h1 : c1.stew.grantAge = 0 := congrArg Stew.grantAge (Chip.stew_noting c _)
  have hb : ∀ b slot, (c1.takeBank b slot).stew.grantAge = 0 := fun b slot => by
    unfold Chip.takeBank
    split
    · exact h1
    · exact h1
  clear_value c1
  split
  · split
    · exact hb _ _
    · exact h1
  · split
    · split
      · exact hb _ _
      · exact h1
    · exact h1

theorem State.passNode_chip {node : Nat} (s : State) (meas mv : List Nat) (ok : Bool) (h : node % 2 = 0)
    (hb : (s.tray.slot ((node - 2) / 2)).bypass = false) (hr : (s.chip ((node - 2) / 2)).running = true) :
    (s.passNode node false true meas mv ok).tray.ring.chipSlots.get [] ((node - 2) / 2) =
      (s.chip ((node - 2) / 2)).report s.tray.ring.boundary ∧
    (ok = true → ((s.passNode node false true meas mv ok).chip ((node - 2) / 2)).stew.grantAge = 0) := by
  unfold State.passNode
  extract_lets r r1 n c c1 c2
  rw [if_neg (by omega), hb, show c.running = true from hr]
  refine ⟨?_, fun hok => ?_⟩
  · exact Bank.get_set_self ..
  · refine (congrArg (fun c : Chip => c.stew.grantAge) (s.chip_setChip_self n c2)).trans ?_
    simp only [c2, hok, if_true]
    exact Chip.grantAge_readFrame ..

/-- The next node outbound of a full sweep. -/
theorem MeterRing.passKind_full {r : MeterRing} {n : Nat} (hs : r.sweeping = true) (hh : r.half = false) (hd : r.doneF = false)
    (hn : n = r.passed.length + 1) (hl : r.locked r.passed.length false = true) : r.passKind n false = .out := by
  simp [MeterRing.passKind, hs, hh, hd, hn, hl]

/-! ## A frame returns to the root -/

theorem Tray.ring_takeReports (t : Tray) : t.takeReports.ring = t.ring :=
  foldl_keeps Tray.ring (fun _ _ => by rfl) _ _

theorem Tray.reported_takeReports (t : Tray) : ∀ e ∈ t.ring.chipSlots.cells, (t.takeReports.slot e.1).reported = true := by
  have key : ∀ (l : List (Nat × List Nat)) (t : Tray) (n : Nat), (n ∈ l.map Prod.fst ∨ (t.slot n).reported = true) →
      ((l.foldl (fun t e => t.onSlot e.1 (fun x => { x with
        dem := e.2.getD 0 0, capRep := e.2.getD 1 0, urg := e.2.getD 2 0, ackRep := e.2.getD 3 0, reported := true })) t).slot
        n).reported = true := by
    intro l
    induction l with
    | nil => exact fun t n h => h.resolve_left List.not_mem_nil
    | cons e l ih =>
      intro t n h
      refine ih _ n ?_
      by_cases hn : n = e.1
      · right
        exact congrArg TraySlot.reported ((Tray.slot_setSlot ..).trans (if_pos hn))
      · rw [List.map_cons, List.mem_cons] at h
        refine h.elim (fun h => .inl (h.resolve_left hn)) fun h => .inr ?_
        exact (congrArg TraySlot.reported ((Tray.slot_setSlot ..).trans (if_neg hn))).trans h
  exact fun e he => key _ t e.1 (.inl (List.mem_map_of_mem he))

theorem Tray.endSweep_leaves (t : Tray) (epoch : Nat) : (t.endSweep epoch).ring.sweeping = false ∧
    (t.endSweep epoch).slots = t.slots := by
  unfold Tray.endSweep
  extract_lets r gone lock t1 t2
  have h2 : t2.ring.sweeping = false ∧ t2.slots = t.slots := by
    simp only [t2]
    clear_value gone
    split
    · exact ⟨rfl, rfl⟩
    · split
      · exact ⟨rfl, rfl⟩
      · exact ⟨rfl, rfl⟩
  exact h2

/-- The tray after a frame has come back to the root on TMC `x`. -/
def Tray.frameBack (t : Tray) (x : Side) (r : MeterRing) (ok : Bool) : Tray :=
  let t1 := if ok then ({ t with ring := r }).takeReports else ({ t with ring := r }).fault .nrg 6 noInstance
  if r.doneF && r.doneR then t1.endSweep (t1.tmc x).time.epoch else t1

theorem MeterRing.sweeping_return {r r1 : MeterRing} {rev : Bool} (h : r.return_ rev = some r1) : r1.sweeping = true := by
  unfold MeterRing.return_ at h
  cases hs : r.sweeping
  · simp [hs] at h
  · simp only [hs, Bool.not_true, Bool.false_eq_true, if_false] at h
    split_ifs at h <;> cases h <;> rfl

theorem Tray.sweeping_frameBack {t : Tray} {r r1 : MeterRing} {rev : Bool} (h : r.return_ rev = some r1) (x : Side) (ok : Bool) :
    (t.frameBack x r1 ok).ring.sweeping = !(r1.doneF && r1.doneR) := by
  unfold Tray.frameBack
  extract_lets t1
  cases hd : r1.doneF && r1.doneR
  · have h1 : t1.ring = r1 := by
      cases ok
      · rfl
      · exact Tray.ring_takeReports _
    exact (congrArg MeterRing.sweeping h1).trans (MeterRing.sweeping_return h)
  · exact (t1.endSweep_leaves _).1

theorem Tray.reported_frameBack {t : Tray} {r : MeterRing} (x : Side) (hd : (r.doneF && r.doneR) = true) :
    ∀ e ∈ r.chipSlots.cells, ((t.frameBack x r true).slot e.1).reported = true := fun e he => by
  unfold Tray.frameBack
  extract_lets t1
  rw [hd, if_pos rfl, Tray.slot, (t1.endSweep_leaves _).2]
  exact Tray.reported_takeReports { t with ring := r } e he

theorem exec_meterFramePass_root {x : Side} {rev ok : Bool} {r1 : MeterRing} {meas mv : List Nat} (hx : s.tray.role = some x)
    (h : s.tray.ring.return_ rev = some r1) :
    exec (.meterFramePass 0 rev meas mv ok) s = .next { s with tray := s.tray.frameBack x r1 ok } := by
  rw [exec]
  unfold execMeterFramePass
  split
  next hn => exact nomatch hn.symm.trans hx
  next y hy =>
  obtain rfl : y = x := Option.some_inj.1 (hy.symm.trans hx)
  rw [if_pos (show (0 : NodeId).val = 0 from rfl)]
  split
  next hn => exact nomatch hn.symm.trans h
  next r hr =>
  obtain rfl : r = r1 := Option.some_inj.1 (hr.symm.trans h)
  rfl

theorem exec_meterFramePass_whole {x : Side} {meas mv : List Nat} (hx : s.tray.role = some x) (hs : s.tray.ring.sweeping = true)
    (hh : s.tray.ring.half = false) (hd : s.tray.ring.doneF = false) (hr : s.tray.ring.doneR = true)
    (hp : s.tray.ring.passed.length = 16) (hl : s.tray.ring.locked 16 false = true) :
    ∃ t, exec (.meterFramePass 0 false meas mv true) s = .next t ∧ t.tray.ring.sweeping = false ∧
      ∀ e ∈ s.tray.ring.chipSlots.cells, e.1 < 8 → (t.tray.slot e.1).reported = true := by
  have hret : s.tray.ring.return_ false = some { s.tray.ring with doneF := true } := by
    simp [MeterRing.return_, hs, hh, hd, hp, hl]
  exact ⟨_, exec_meterFramePass_root hx hret, (Tray.sweeping_frameBack hret x true).trans (by simp [hr]),
    fun e he _ => Tray.reported_frameBack x (by simp [hr]) e he⟩

theorem exec_sweepBroken {x : Side} (hx : s.tray.role = some x) (hs : s.tray.ring.sweeping = true)
    (hb : s.tray.ring.boundary + 20 ≤ (s.tray.tmc x).time.epoch) :
    ∃ t, exec .sweepBroken s = .next t ∧ t.tray.ring.sweeping = false ∧ t.tray.ring.half = true ∧
      t.tray.faulty .nrg 1 noInstance = true := by
  refine ⟨_, by simp only [exec, execSweepBroken, hx, hs, hb, decide_true, Bool.and_self]; exact occurs_true _ _, rfl, rfl, ?_⟩
  exact Tray.faulty_fault_self ..

/-! ## The bytes of the frame -/

theorem length_framePart (bs : List Byte) : (framePart bs).length = bs.length + 2 := by simp [framePart]

theorem length_flatMap_natLE (l : List Nat) (n : Nat) (f : Nat → Nat) : (l.flatMap fun i => natLE n (f i)).length = l.length * n := by
  simp [List.length_flatMap]

theorem MeterRing.length_header (r : MeterRing) (rev : Bool) : (r.header rev).length = 32 := by
  simp [MeterRing.header, length_framePart, length_flatMap_natLE]

theorem length_bankSlot (x : List Nat) : (bankSlot x).length = 32 := by
  simp [bankSlot, length_framePart, length_flatMap_natLE]

theorem length_chipSlot (x : List Nat) : (chipSlot x).length = 32 := by
  simp [chipSlot, length_framePart, length_flatMap_natLE]

/-- Of parts of 64 bytes one after another, the bytes from `64 n` on start with part `n`. -/
theorem drop_flatMap_parts {f : Nat → List Byte} (hf : ∀ n, (f n).length = 64) {m n : Nat} (h : n < m) :
    ((List.range m).flatMap f).drop (64 * n) = f n ++ ((List.range m).drop (n + 1)).flatMap f := by
  have hlen : ((List.range m).take n |>.flatMap f).length = 64 * n := by
    rw [List.length_flatMap, List.map_congr_left fun a _ => hf a, List.map_const', List.sum_replicate, List.length_take,
      List.length_range, Nat.min_eq_left h.le, smul_eq_mul, Nat.mul_comm]
  conv_lhs => rw [← List.take_append_drop n (List.range m), List.flatMap_append, List.drop_left' hlen]
  rw [List.drop_eq_getElem_cons (by simpa using h), List.flatMap_cons, List.getElem_range]

theorem MeterRing.frame_leaves (r : MeterRing) (rev : Bool) : (r.frame rev).length = 576 ∧ (r.frame rev).take 32 = r.header rev ∧
    ∀ n : SlotId, ((r.frame rev).drop (96 + 64 * n.val)).take 32 = chipSlot (r.chipSlots.get [] n) := by
  have hpair : ∀ n, (bankSlot (r.bank.get [] (2 * n + 1)) ++ chipSlot (r.chipSlots.get [] n)).length = 64 := fun n => by
    rw [List.length_append, length_bankSlot, length_chipSlot]
  have hhead := r.length_header rev
  have hrelay := length_bankSlot (if r.relay = 0 then [] else r.prevBank.get [] r.relay)
  refine ⟨?_, ?_, fun n => ?_⟩
  · rw [MeterRing.frame, List.length_append, List.length_append, hhead, hrelay, List.length_flatMap,
      List.map_congr_left fun a _ => hpair a]
    rfl
  · rw [MeterRing.frame, List.append_assoc]
    exact List.take_left' hhead
  · have hstart : (r.header rev ++ bankSlot (if r.relay = 0 then [] else r.prevBank.get [] r.relay)).length = 64 := by
      rw [List.length_append, hhead, hrelay]
    rw [show 96 + 64 * n.val = 64 + (64 * n.val + 32) by omega, MeterRing.frame, ← List.drop_drop, List.drop_left' hstart,
      ← List.drop_drop, drop_flatMap_parts hpair n.isLt, List.append_assoc, List.drop_left' (length_bankSlot _)]
    exact List.take_left' (length_chipSlot _)

/-- Settles O37. -/
theorem meterRingTakesEffect : Obligations.MeterRingTakesEffect := by
  unfold Obligations.MeterRingTakesEffect
  intro s hrole
  obtain ⟨y, hy⟩ := Option.isSome_iff_exists.1 hrole
  refine ⟨?_, ?_, ?_, ?_, ?_, ?_, ?_⟩
  · intro x hx he hs hb hn hact
    refine ⟨_, exec_sweepStart hx he hs hb hn hact, rfl, rfl, rfl, fun hh => ?_⟩
    exact Bool.and_eq_false_iff.2 (.inl hh)
  · intro node meas mv ok hs hh hd hn hl
    have hpass := exec_meterFramePass_out (meas := meas) (mv := mv) (ok := ok) hrole (hn ▸ Nat.succ_pos _)
      (MeterRing.passKind_full hs hh hd hn hl)
    have hmark : (s.passNode node.val false true meas mv ok).tray.ring.passed = s.tray.ring.passed ++ [node.val] :=
      congrArg Prod.fst (s.passNode_leaves node.val false true meas mv ok).1
    exact ⟨fun hodd => ⟨_, hpass, hmark, s.passNode_bank false meas mv ok hodd⟩,
      fun heven hb hr => ⟨_, hpass, hmark, s.passNode_chip meas mv ok heven hb hr⟩⟩
  · intro node rev meas mv ok hn
    refine ⟨fun h => ⟨_, exec_meterFramePass_out hrole hn h, ?_⟩, fun h => ⟨_, exec_meterFramePass_back hrole hn h, ?_⟩⟩
    · have hp := (s.passNode_leaves node.val rev true meas mv ok).1
      refine ⟨(congrArg Prod.fst hp).trans ?_, (congrArg (fun p => p.2.1) hp).trans ?_⟩ <;> cases rev <;> rfl
    · have hp := (s.passNode_leaves node.val rev false meas mv ok).2 rfl
      rw [hp]
      cases rev <;> exact ⟨rfl, rfl, rfl, rfl⟩
  · exact fun rev ok r1 meas mv h => ⟨_, exec_meterFramePass_root hy h, Tray.sweeping_frameBack h y ok⟩
  · exact fun meas mv hs hh hd hr hp hl => exec_meterFramePass_whole hy hs hh hd hr hp hl
  · exact fun x hx hs hb => exec_sweepBroken hx hs hb
  · exact s.tray.ring.frame_leaves

/-! ## The bookings -/

/-- Of the Steward, what waits: the latched sweeps, the due gain and the energy reads. -/
def Stew.waits (w : Stew) : List Sweep × Bool × List Capture := (w.staged, w.gainDue, w.captures)

theorem Chip.railGroup_onRailGroup (c : Chip) (g j : Nat) (f : RailGroup → RailGroup) :
    (c.onRailGroup g f).railGroup j = if j = g then f (c.railGroup g) else c.railGroup j := by
  split
  next h => rw [h, Chip.railGroup_onRailGroup_self]
  next h => exact Bank.get_set_other _ _ _ _ _ h

theorem Chip.bookOne_leaves (c : Chip) (missing : Nat → Bool) (b : Booking) :
    (c.bookOne missing b).stew.waits = c.stew.waits ∧
    ∀ i, ((c.bookOne missing b).railGroup i).missing = (c.railGroup i).missing := by
  refine ⟨rfl, fun i => ?_⟩
  unfold Chip.bookOne
  extract_lets n c1
  rw [Chip.railGroup_onRailGroup]
  split
  next h =>
    subst h
    rfl
  next => rfl

theorem RailGroup.missing_close (g : RailGroup) (got : Option Nat) (raw : Nat) :
    (g.close got raw).missing = if got.isNone then satAdd 32 g.missing 1 else g.missing := by
  cases got <;> rfl

theorem Chip.bookSweep_leaves (c : Chip) (x : Sweep) : (c.bookSweep x).stew.staged = c.stew.staged.tail ∧
    (c.bookSweep x).stew.gainDue = (c.stew.gainDue || decide (x.at_ % 10000 = 0)) ∧
    ∀ i, i < 5 → ((c.bookSweep x).railGroup i).missing =
      if (x.got.getD i none).isNone then satAdd 32 (c.railGroup i).missing 1 else (c.railGroup i).missing := by
  unfold Chip.bookSweep
  extract_lets missing c1 c2
  have h1 : c1.stew.waits = c.stew.waits := foldl_keeps (fun d : Chip => d.stew.waits) (fun d b => (d.bookOne_leaves missing b).1) _ _
  have hm : ∀ i, (c1.railGroup i).missing = (c.railGroup i).missing := fun i =>
    foldl_keeps (fun d : Chip => (d.railGroup i).missing) (fun d b => (d.bookOne_leaves missing b).2 i) _ _
  clear_value c1
  have h2 : c2.stew.waits = c1.stew.waits := foldl_keeps (fun d : Chip => d.stew.waits) (fun _ _ => by rfl) _ _
  have hw := h2.trans h1
  have hg : ∀ i, c2.railGroup i = if i ∈ List.range 5 then (c1.railGroup i).close (x.got.getD i none) (x.raw.getD i 0)
      else c1.railGroup i := fun i =>
    foldl_own Chip.railGroup (f := fun c g => c.onRailGroup g (fun y => y.close (x.got.getD g none) (x.raw.getD g 0)))
      (g := fun g y => y.close (x.got.getD g none) (x.raw.getD g 0))
      (fun c n => (c.railGroup_onRailGroup n n _).trans (if_pos rfl))
      (fun c n j h => (c.railGroup_onRailGroup n j _).trans (if_neg h)) List.nodup_range c1 i
  clear_value c2
  simp only [Stew.waits, Prod.mk.injEq] at hw
  obtain ⟨hst, hdue, -⟩ := hw
  refine ⟨congrArg List.tail hst, congrArg (· || decide (x.at_ % 10000 = 0)) hdue, fun i hi => ?_⟩
  refine (congrArg RailGroup.missing ((hg i).trans (if_pos (List.mem_range.2 hi)))).trans ?_
  rw [RailGroup.missing_close, hm i]

theorem exec_energyBooking {x : Sweep} {rest : List Sweep} (hr : (s.chip k).running = true)
    (hx : (s.chip k).stew.staged = x :: rest) (ha : 200 ≤ x.age) (hc : (s.chip k).stew.captureBefore x.at_ = false)
    (hd : (s.chip k).stew.gainDue = false) :
    ∃ t, exec (.energyBooking k) s = .next t ∧ (t.chip k).stew.staged = rest ∧
      (t.chip k).stew.gainDue = decide (x.at_ % 10000 = 0) ∧
      ∀ i, i < 5 → ((t.chip k).railGroup i).missing =
        (if (x.got.getD i none).isNone then satAdd 32 ((s.chip k).railGroup i).missing 1 else ((s.chip k).railGroup i).missing) := by
  refine ⟨s.setChip k ((s.chip k).bookSweep x), ?_, ?_⟩
  · simp only [exec, execEnergyBooking, hx, hr, hc, hd, List.head?_cons, decide_eq_true ha]
    exact occurs_true _ _
  · rw [State.chip_setChip_self]
    obtain ⟨hst, hdue, hmiss⟩ := (s.chip k).bookSweep_leaves x
    exact ⟨by rw [hst, hx, List.tail_cons], by rw [hdue, hd, Bool.false_or], hmiss⟩

/-! ## The gains -/

theorem Chip.railGroup_fault (c : Chip) (t : Tag) (nn i j : Nat) : (c.fault t nn i).railGroup j = c.railGroup j := rfl

theorem Chip.railGroup_faultIf (c : Chip) (b : Bool) (t : Tag) (nn i j : Nat) : (c.faultIf b t nn i).railGroup j = c.railGroup j := by
  rw [Chip.railGroup, Chip.faultIf_stew, Chip.railGroup]

/-- A rail group after its update (R584). -/
def RailGroup.updated (g : RailGroup) (free : Nat) : RailGroup :=
  { g with gain := if g.ms < 50 then g.gain else min (max (rawGain g.m g.r free) 786432) 1310720, m := 0, r := 0, ms := 0 }

theorem Chip.updateGain_leaves (c : Chip) (i free : Nat) : (c.updateGain i free).railGroup i = (c.railGroup i).updated free ∧
    (∀ j, j ≠ i → (c.updateGain i free).railGroup j = c.railGroup j) := by
  unfold Chip.updateGain
  extract_lets g clear g0 out g1 jump
  split
  next h =>
    refine ⟨?_, fun j hj => (c.railGroup_onRailGroup i j _).trans (if_neg hj)⟩
    refine ((c.railGroup_onRailGroup i i _).trans (if_pos rfl)).trans ?_
    simp only [RailGroup.updated, show (c.railGroup i).ms < 50 from h, if_true]
    rfl
  next h =>
    simp only [Chip.railGroup_faultIf, Chip.railGroup_onRailGroup]
    refine ⟨?_, fun j hj => if_neg hj⟩
    simp only [RailGroup.updated, show ¬ (c.railGroup i).ms < 50 from h, if_true, if_false]
    rfl

theorem Chip.railGroup_updateGains {l : List Nat} (hl : l.Nodup) (free : Nat → Nat) (c : Chip) (i : Nat) :
    (l.foldl (fun c i => c.updateGain i (free i)) c).railGroup i = if i ∈ l then (c.railGroup i).updated (free i) else c.railGroup i :=
  foldl_own Chip.railGroup (g := fun i y => y.updated (free i)) (fun c i => (c.updateGain_leaves i (free i)).1)
    (fun c i j h => (c.updateGain_leaves i (free i)).2 j h) hl c i

/-- A fault moves an entry of the log one place on. -/
theorem Chip.mem_take_log_fault {c : Chip} {e : FaultEntry} {n : Nat} (h : e ∈ c.hif.log.take n) (hn : n < 256) (t : Tag) (nn i : Nat) :
    e ∈ (c.fault t nn i).hif.log.take (n + 1) := by
  change e ∈ ((_ :: c.hif.log).take 256).take (n + 1)
  rw [List.take_take, Nat.min_eq_left hn]
  exact List.mem_cons_of_mem _ h

theorem Chip.mem_take_log_faultIf {c : Chip} {e : FaultEntry} {n : Nat} (h : e ∈ c.hif.log.take n) (hn : n < 256) (b : Bool)
    (t : Tag) (nn i : Nat) : e ∈ (c.faultIf b t nn i).hif.log.take (n + 1) := by
  cases b
  · exact List.take_subset_take_left _ n.le_succ h
  · exact Chip.mem_take_log_fault h hn t nn i

theorem Chip.mem_take_log_updateGain {c : Chip} {e : FaultEntry} {n : Nat} (h : e ∈ c.hif.log.take n) (hn : n < 255) (i free : Nat) :
    e ∈ (c.updateGain i free).hif.log.take (n + 2) := by
  unfold Chip.updateGain
  extract_lets g clear g0 out g1 jump
  split
  · exact List.take_subset_take_left _ (Nat.le_succ _) (Chip.mem_take_log_fault (c := c.onRailGroup i clear) h (by omega) ..)
  · exact Chip.mem_take_log_faultIf (Chip.mem_take_log_faultIf (c := c.onRailGroup i _) h (by omega) ..) (by omega) ..

theorem Chip.mem_log_updateGains {e : FaultEntry} (free : Nat → Nat) (l : List Nat) : ∀ {c : Chip} {n : Nat},
    e ∈ c.hif.log.take n → n + 2 * l.length ≤ 256 → e ∈ (l.foldl (fun c i => c.updateGain i (free i)) c).hif.log := by
  induction l with
  | nil => exact fun h _ => List.mem_of_mem_take h
  | cons i l ih =>
    intro c n h hn
    rw [List.length_cons] at hn
    exact ih (Chip.mem_take_log_updateGain h (by omega) i (free i)) (by omega)

theorem Chip.time_updateGain (c : Chip) (i free : Nat) : (c.updateGain i free).time = c.time := by
  unfold Chip.updateGain
  extract_lets g clear g0 out g1 jump
  split
  · rfl
  · rw [Chip.faultIf_time, Chip.faultIf_time]
    rfl

/-- A group with fewer than 50 sweeps is reported (R584). -/
theorem Chip.logged_updateGains (c : Chip) (free : Nat → Nat) {i : Nat} (hi : i < 5) (hms : (c.railGroup i).ms < 50) :
    ((List.range 5).foldl (fun c i => c.updateGain i (free i)) c).logged .nrg 3 i := by
  obtain ⟨l, l', hl⟩ := List.append_of_mem (List.mem_range.2 hi)
  have hlen := congrArg List.length hl
  rw [List.length_range, List.length_append, List.length_cons] at hlen
  have hnodup : (l ++ i :: l').Nodup := hl ▸ List.nodup_range
  obtain ⟨hnl, -, hdis⟩ := List.nodup_append.1 hnodup
  have htime : ∀ (l : List Nat) (d : Chip), (l.foldl (fun c i => c.updateGain i (free i)) d).time = d.time := fun l d =>
    foldl_keeps Chip.time (fun d i => d.time_updateGain i (free i)) l d
  rw [Chip.logged, htime, hl, List.foldl_append, List.foldl_cons]
  have hg := Chip.railGroup_updateGains hnl free c i
  rw [if_neg fun hm => hdis i hm i List.mem_cons_self rfl] at hg
  have ht := htime l c
  generalize l.foldl (fun c i => c.updateGain i (free i)) c = d at hg ht
  refine Chip.mem_log_updateGains free l' (n := 1) ?_ (by omega)
  rw [← hg] at hms
  rw [Chip.updateGain, if_pos hms, ← ht]
  exact List.mem_cons_self

/-- The chip after the update of its five gains. -/
def Chip.gainsUpdated (c : Chip) (free : Nat → Nat) : Chip :=
  ((List.range 5).foldl (fun c i => c.updateGain i (free i)) c).onStew (fun w => { w with gainDue := false })

theorem Chip.gainsUpdated_leaves (c : Chip) (free : Nat → Nat) : (c.gainsUpdated free).stew.gainDue = false ∧
    ∀ i, i < 5 → ((c.gainsUpdated free).railGroup i).ms = 0 ∧
      ((c.railGroup i).ms < 50 → ((c.gainsUpdated free).railGroup i).gain = (c.railGroup i).gain ∧
        (c.gainsUpdated free).logged .nrg 3 i) ∧
      (50 ≤ (c.railGroup i).ms → 0 < (c.railGroup i).r → ((c.gainsUpdated free).railGroup i).gain =
        min (max (((c.railGroup i).m * 1048576 + (c.railGroup i).r / 2) / (c.railGroup i).r) 786432) 1310720) := by
  unfold Chip.gainsUpdated
  have hlog := fun i => c.logged_updateGains free (i := i)
  have hgroup := Chip.railGroup_updateGains List.nodup_range free c (l := List.range 5)
  generalize (List.range 5).foldl (fun c i => c.updateGain i (free i)) c = d at hlog hgroup
  refine ⟨rfl, fun i hi => ?_⟩
  have hg : d.railGroup i = (c.railGroup i).updated (free i) := (hgroup i).trans (if_pos (List.mem_range.2 hi))
  rw [show (d.onStew (fun w => { w with gainDue := false })).railGroup i = d.railGroup i from rfl, hg]
  refine ⟨rfl, fun hms => ⟨if_pos hms, hlog i hi hms⟩, fun hms h0 => (if_neg (by omega)).trans ?_⟩
  rw [rawGain, if_neg (by omega)]

theorem exec_gainUpdate (hr : (s.chip k).running = true) (hd : (s.chip k).stew.gainDue = true) :
    exec (.gainUpdate k) s =
      .next { (s.setChip k ((s.chip k).gainsUpdated fun i => Config.free (s.fresh + i))) with fresh := s.fresh + 5 } := by
  rw [exec, execGainUpdate, hr, hd]
  exact occurs_true _ _

/-! ## The energy reads -/

theorem Chip.captures_post (c : Chip) (g : Nat) (x : Completion) : (c.post g x).stew.captures = c.stew.captures := by
  unfold Chip.post
  split
  · rfl
  · rw [Chip.faultIf_stew]
    rfl

/-- An energy read that names its tick (R587). -/
theorem exec_energyRead_eq {g : RingId} {bs : List Byte} (h : (s.chip k).atCommand g 0x20 1 bs) (h0 : 0 < entryField bs 16 8) :
    exec (.energyRead k g) s = .next (s.setChip k (
      if entryField bs 16 8 ≤ (s.chip k).time.epoch || entryField bs 16 8 % (s.chip k).img.nowC.frameEpochs ≠ 0 then
        (s.chip k).refuse g bs .hif 3 g
      else ((s.chip k).toBackground g).onStew (fun w => { w with captures := w.captures ++
        [{ ring := g, tag := entryTag bs, first := entryField bs 8 4, count := entryField bs 12 4, tick := entryField bs 16 8
           clear := decide (entryField bs 24 1 = 1), dest := entryField bs 32 8 }] }))) := by
  rw [exec, execEnergyRead, ringCommand_eq _ h]
  simp only [Nat.ne_of_gt h0, if_false]

theorem exec_energyRead {g : RingId} {bs : List Byte} (h : (s.chip k).atCommand g 0x20 1 bs)
    (ht : (s.chip k).time.epoch < entryField bs 16 8) (hm : entryField bs 16 8 % (s.chip k).img.nowC.frameEpochs = 0)
    (h0 : 0 < entryField bs 16 8) :
    ∃ t, exec (.energyRead k g) s = .next t ∧ (t.chip k).stew.captures.length = (s.chip k).stew.captures.length + 1 ∧
      ((t.chip k).ring g).background = ((s.chip k).ring g).background ++ ((s.chip k).ring g).handed.head?.toList := by
  refine ⟨_, exec_energyRead_eq h h0, ?_⟩
  rw [State.chip_setChip_self, if_neg (by simp [hm, ht])]
  refine ⟨?_, ?_⟩
  · exact List.length_append
  · exact congrArg Ring.background ((Chip.ring_setRing ..).trans (if_pos rfl))

theorem exec_energyRead_past {g : RingId} {bs : List Byte} (h : (s.chip k).atCommand g 0x20 1 bs)
    (h0 : 0 < entryField bs 16 8) (ht : entryField bs 16 8 ≤ (s.chip k).time.epoch) :
    ∃ t, exec (.energyRead k g) s = .next t ∧ (t.chip k).stew.captures = (s.chip k).stew.captures ∧
      (t.chip k).hasPosted g ((s.chip k).commandEntry bs 1 (codeOf .hif 3)) := by
  refine ⟨_, exec_energyRead_eq h h0, ?_⟩
  rw [State.chip_setChip_self, if_pos (by simp [ht])]
  exact ⟨Chip.captures_post .., Chip.hasPosted_complete ..⟩

/-! ### The captures -/

theorem Bank.look_filter_key {α : Type} (p : Nat → Bool) (l : List (Nat × α)) (j : Nat) :
    Bank.look (l.filter fun e => p e.1) j = if p j then Bank.look l j else none := by
  induction l with
  | nil => simp [Bank.look]
  | cons e l ih =>
    by_cases hj : e.1 = j
    · subst hj
      cases hp : p e.1 <;> simp [List.filter_cons, Bank.look, hp, ih]
    · cases hp : p e.1 <;> simp [List.filter_cons, Bank.look, hp, ih, hj]

theorem Bank.get_filter_key {α : Type} (p : Nat → Bool) (b : Bank α) (d : α) (j : Nat) :
    (Bank.mk (b.cells.filter fun e => p e.1)).get d j = if p j then b.get d j else d := by
  simp only [Bank.get, Bank.look_filter_key]
  cases p j <;> rfl

/-- The counters after some of them were set to zero. -/
theorem Stew.counter_zero (w : Stew) (first count : Nat) {i : Nat} (hi : i < 65561) :
    (w.zero first count).counter i = if first ≤ i ∧ i < first + count then (0, 0) else w.counter i := by
  have hin : (decide (first ≤ i) && decide (i < first + count)) = decide (first ≤ i ∧ i < first + count) := by simp
  unfold Stew.zero Stew.counter
  extract_lets inside a a'
  by_cases h1 : i < 65536
  · have ha : a = if !inside i then a' else {} := Bank.get_filter_key (fun j => !inside j) w.accounts {} i
    simp only [h1, if_true, ha, inside, hin]
    by_cases h : first ≤ i ∧ i < first + count <;> simp [h]
  · by_cases h2 : i < 65552
    · have hp := Bank.get_filter_key (fun j => !inside (65536 + j)) w.parts {} (i - 65536)
      rw [Nat.add_sub_cancel' (Nat.le_of_not_lt h1)] at hp
      simp only [h1, h2, if_true, if_false, hp, inside, hin]
      by_cases h : first ≤ i ∧ i < first + count <;> simp [h]
    · by_cases h3 : i < 65560
      · have hp := Bank.get_filter_key (fun j => !inside (65552 + j)) w.classes {} (i - 65552)
        rw [Nat.add_sub_cancel' (Nat.le_of_not_lt h2)] at hp
        simp only [h1, h2, h3, if_true, if_false, hp, inside, hin]
        by_cases h : first ≤ i ∧ i < first + count <;> simp [h]
      · obtain rfl : i = 65560 := by omega
        simp only [h1, h2, h3, if_false, inside, hin]
        by_cases h : first ≤ 65560 ∧ 65560 < first + count <;> simp [h]

/-- The counters after the clears of a list of captures. -/
theorem Stew.zeros_leaves (l : List Capture) {i : Nat} (hi : i < 65561) : ∀ w : Stew,
    ((∃ x ∈ l, x.first ≤ i ∧ i < x.first + x.count) → (l.foldl (fun w x => w.zero x.first x.count) w).counter i = (0, 0)) ∧
    ((∀ x ∈ l, i < x.first ∨ x.first + x.count ≤ i) →
      (l.foldl (fun w x => w.zero x.first x.count) w).counter i = w.counter i) := by
  have still : ∀ (l : List Capture) (w : Stew), w.counter i = (0, 0) →
      (l.foldl (fun w x => w.zero x.first x.count) w).counter i = (0, 0) := fun l => by
    induction l with
    | nil => exact fun _ h => h
    | cons x l ih =>
      refine fun w h => ih _ ?_
      rw [Stew.counter_zero _ _ _ hi, h, ite_self]
  induction l with
  | nil => exact fun w => ⟨fun ⟨x, hx, _⟩ => absurd hx List.not_mem_nil, fun _ => rfl⟩
  | cons x l ih =>
    intro w
    obtain ⟨hin, hout⟩ := ih (w.zero x.first x.count)
    refine ⟨fun ⟨y, hy, hr⟩ => ?_, fun h => ?_⟩
    · rcases List.mem_cons.1 hy with rfl | hy
      · exact still l _ ((Stew.counter_zero _ _ _ hi).trans (if_pos hr))
      · exact hin ⟨y, hy, hr⟩
    · obtain ⟨hx, hl⟩ := List.forall_mem_cons.1 h
      rw [List.foldl_cons, hout hl, Stew.counter_zero _ _ _ hi, if_neg (by omega)]

theorem Stew.take_leaves (w : Stew) (tk : Nat) :
    (w.take tk).captures = w.captures.map (fun x => if x.taken = false ∧ x.tick = tk
      then { x with taken := true, rows := (List.range x.count).map (fun i => w.counter (x.first + i)) } else x) ∧
    ∀ i, i < 65561 →
      ((∃ x ∈ w.captures, x.taken = false ∧ x.tick = tk ∧ x.clear = true ∧ x.first ≤ i ∧ i < x.first + x.count) →
        (w.take tk).counter i = (0, 0)) ∧
      ((∀ x ∈ w.captures, x.taken = false → x.tick = tk → x.clear = true → i < x.first ∨ x.first + x.count ≤ i) →
        (w.take tk).counter i = w.counter i) := by
  unfold Stew.take
  extract_lets due w1
  have hmem : ∀ x, x ∈ w.captures.filter (fun x => due x && x.clear) ↔
      x ∈ w.captures ∧ x.taken = false ∧ x.tick = tk ∧ x.clear = true := fun x => by
    simp [due, and_assoc]
  refine ⟨(foldl_keeps Stew.captures (fun _ _ => by rfl) _ w1).trans (List.map_congr_left fun x _ => ?_), fun i hi => ?_⟩
  · simp [due]
  · obtain ⟨hin, hout⟩ := Stew.zeros_leaves (w.captures.filter fun x => due x && x.clear) hi w1
    refine ⟨fun ⟨x, hx, htk, ht, hc, hr⟩ => hin ⟨x, (hmem x).2 ⟨hx, htk, ht, hc⟩, hr⟩, fun h => (hout fun x hx => ?_).trans rfl⟩
    obtain ⟨hx, htk, ht, hc⟩ := (hmem x).1 hx
    exact h x hx htk ht hc

theorem exec_energyCapture {tk : Nat} (hr : (s.chip k).running = true) (hn : (s.chip k).stew.nextCapture = some tk)
    (ht : tk + 200 ≤ (s.chip k).time.epoch) (hst : ∀ y ∈ (s.chip k).stew.staged, tk < y.at_) :
    exec (.energyCapture k) s = .next (s.setChip k ((s.chip k).onStew fun w => w.take tk)) := by
  have hall : (s.chip k).stew.staged.all (fun x => decide (tk < x.at_)) = true :=
    List.all_eq_true.2 fun y hy => decide_eq_true (hst y hy)
  simp only [exec, execEnergyCapture, hn, hr, hall, decide_eq_true ht]
  exact occurs_true _ _

/-- The chip after the records of capture `x` were written. -/
def Chip.energyReadDone (c : Chip) (g : Nat) (x : Capture) (bs : List Byte) : Chip :=
  (((c.onStew (fun w => { w with captures := w.captures.erase x })).endBackground g 0x20).countAux 1
    (ceilDiv (x.rows.flatMap energyRecord).length 64)).complete g bs 0 0 x.tick

theorem Chip.energyReadDone_leaves (c : Chip) (g : Nat) (x : Capture) (bs : List Byte) :
    (c.energyReadDone g x bs).stew.captures = c.stew.captures.erase x ∧
    (c.energyReadDone g x bs).hasPosted g (c.commandEntry bs 0 0 x.tick) :=
  ⟨Chip.captures_post .., Chip.hasPosted_complete ..⟩

theorem exec_energyReadResult {g : RingId} {x : Capture} {bs : List Byte} (hr : (s.chip k).running = true)
    (hx : (s.chip k).stew.captures.find? (fun x => x.taken && x.ring == g.val) = some x)
    (hb : (s.chip k).background g 0x20 = some bs) (hroom : (s.chip k).roomForCompletions g 1 = true) :
    ∃ t, exec (.energyReadResult k g) s = .next t ∧ (t.chip k).stew.captures = (s.chip k).stew.captures.erase x ∧
      t.hostMem = Memory.write s.hostMem x.dest (x.rows.flatMap energyRecord) ∧
      (t.chip k).hasPosted g ((s.chip k).commandEntry bs 0 0 x.tick) := by
  have hexec : exec (.energyReadResult k g) s = .next { (s.setChip k ((s.chip k).energyReadDone g x bs)) with
      hostMem := Memory.write s.hostMem x.dest (x.rows.flatMap energyRecord) } := by
    simp only [exec, execEnergyReadResult, hx, hb, hr, hroom, Bool.and_self]
    exact occurs_true _ _
  obtain ⟨hcap, hpost⟩ := (s.chip k).energyReadDone_leaves g x bs
  generalize (s.chip k).energyReadDone g x bs = c at hexec hcap hpost
  generalize Memory.write s.hostMem x.dest (x.rows.flatMap energyRecord) = m at hexec
  have hchip : State.chip { (s.setChip k c) with hostMem := m } k = c := s.chip_setChip_self k c
  exact ⟨_, hexec, (congrArg (fun c : Chip => c.stew.captures) hchip).trans hcap, rfl,
    (congrArg (Chip.hasPosted · g ((s.chip k).commandEntry bs 0 0 x.tick)) hchip).mpr hpost⟩

/-- Settles O38. -/
theorem energyTakesEffect : Obligations.EnergyTakesEffect := by
  unfold Obligations.EnergyTakesEffect
  intro k g s
  refine ⟨fun hr x rest hx ha hc hd => exec_energyBooking hr hx ha hc hd, fun hr hd => ⟨_, exec_gainUpdate hr hd, ?_⟩,
    fun bs h => ⟨fun ht hm h0 => exec_energyRead h ht hm h0, fun h0 ht => exec_energyRead_past h h0 ht⟩,
    fun hr tk hn ht hst => ⟨_, exec_energyCapture hr hn ht hst, ?_⟩,
    fun hr x bs hx hb hroom => exec_energyReadResult hr hx hb hroom⟩
  · have h := (s.chip k).gainsUpdated_leaves fun i => Config.free (s.fresh + i)
    generalize (s.chip k).gainsUpdated (fun i => Config.free (s.fresh + i)) = c at h
    rw [show State.chip { (s.setChip k c) with fresh := s.fresh + 5 } k = c from s.chip_setChip_self k c]
    exact h
  · rw [State.chip_setChip_self]
    exact (s.chip k).stew.take_leaves tk

end Sys2Proof.Machine
end

section
/-! LEMMAS. Register accesses, the window of BAR2 and the rings of the host interface (chapter 15). Settles O39 and O40. -/

namespace Sys2Proof.Machine

-- In order, not in parallel: every elaborator thread that waits for another holds a stack within the check's memory limit.
set_option Elab.async false

variable {k : ChipId} {s : State}

theorem Chip.running_of_linkUp {c : Chip} (h : c.linkUp = true) : c.running = true := by
  simp only [Chip.linkUp, Bool.and_eq_true] at h
  exact h.1.1

/-! ## Register accesses -/

/-- The registers whose write does more than store a value. -/
def commandRegs : List Reg := [.bruCtrl, .clkRefCtrl, .clkEpochLoadArm, .imgCtrl, .hifRingCtrl, .hifFlashCtrl]

theorem State.writeReg_stored {r : Reg} (h : r ∉ commandRegs) (k : ChipId) (i2c : Bool) (i v : Nat) :
    s.writeReg k i2c r i v = s.onChip k (fun c => c.regStore r i v) := by
  unfold State.writeReg
  split
  iterate 6 exact absurd (by decide) h
  rfl

/-- A 4-byte write of a register of 4 bytes. -/
theorem State.writeBar0_word {off : Nat} {p : RegPlace} (ha : off % 4 = 0) (hp : regAt off = some p) (h4 : p.size = 4)
    (k : ChipId) (i2c : Bool) (v : Nat) : s.writeBar0 k i2c false off v = some (s.writeReg k i2c p.reg p.inst (v % 2 ^ 32)) := by
  simp only [State.writeBar0, Bool.false_eq_true, if_false, hp, ha, if_true, State.writeWord, h4]

theorem exec_bar0Write_word {off v : Nat} {p : RegPlace} (hl : (s.chip k).linkUp = true) (ha : off % 4 = 0)
    (hp : regAt off = some p) (h4 : p.size = 4) :
    exec (.bar0Write k off false v) s = .next (s.writeReg k false p.reg p.inst (v % 2 ^ 32)) := by
  rw [exec, execBar0Write, hl, State.writeBar0_word ha hp h4]
  exact occurs_true _ _

theorem exec_bar0Write_unassigned {off v : Nat} (hl : (s.chip k).linkUp = true) (hp : regAt off = none) :
    exec (.bar0Write k off false v) s = .next (s.onChip k Chip.badBar0) := by
  have h : s.writeBar0 k false false off v = none := by
    simp only [State.writeBar0, Bool.false_eq_true, if_false, hp]
  rw [exec, execBar0Write, hl, h]
  exact occurs_true _ _

/-- A 4-byte read of a register of 4 bytes. -/
theorem Chip.readBar0_word {off : Nat} {p : RegPlace} (ha : off % 4 = 0) (hp : regAt off = some p) (h4 : p.size = 4) (c : Chip)
    (i2c : Bool) : c.readBar0 i2c false off = some (c.regValue p.reg p.inst % 2 ^ 32, c.regClear p.reg p.inst) := by
  simp only [Chip.readBar0, Bool.false_eq_true, if_false, hp, ha, if_true, Chip.readWord, h4]

theorem exec_readWithClear_word {off : Nat} {p : RegPlace} (hl : (s.chip k).linkUp = true) (ha : off % 4 = 0)
    (hp : regAt off = some p) (h4 : p.size = 4) : exec (.readWithClear k off false) s =
      .next (s.setChip k (((s.chip k).regClear p.reg p.inst).onHif (fun h =>
        { h with lastHost := some (.regRead ((s.chip k).regValue p.reg p.inst % 2 ^ 32)) }))) := by
  rw [exec, execReadWithClear, hl, Chip.readBar0_word ha hp h4]
  exact occurs_true _ _

theorem exec_readWithClear_unassigned {off : Nat} (hl : (s.chip k).linkUp = true) (hp : regAt off = none) :
    exec (.readWithClear k off false) s =
      .next (s.setChip k ((s.chip k).badBar0.onHif (fun h => { h with lastHost := some (.regRead 0) }))) := by
  have h : (s.chip k).readBar0 false false off = none := by
    simp only [Chip.readBar0, Bool.false_eq_true, if_false, hp]
  rw [exec, execReadWithClear, hl, h]
  exact occurs_true _ _

theorem Chip.badBar0_leaves (c : Chip) : c.badBar0.logged .hif 1 noInstance ∧
    c.badBar0.hif.badAccess = satAdd 32 c.hif.badAccess 1 ∧ c.badBar0.img = c.img :=
  ⟨Chip.logged_fault (c.onHif (fun h => { h with badAccess := satAdd 32 h.badAccess 1 })) .hif 1 noInstance, rfl, rfl⟩

/-- The state after the offset of an access over the management I2C. -/
def State.i2cAddressed (s : State) (k off : Nat) : State := s.onChip k (fun c => c.onHif (fun h => { h with i2cOffset := off }))

theorem State.chip_i2cAddressed (s : State) (k off : Nat) :
    (s.i2cAddressed k off).chip k = (s.chip k).onHif (fun h => { h with i2cOffset := off }) := s.chip_setChip_self k _

theorem exec_mgmtI2cAccess_write {off v : Nat} {p : RegPlace} (hr : (s.chip k).running = true)
    (hi : (s.tray.slot k).i2c = true) (ha : off % 4 = 0) (hp : regAt off = some p) (h4 : p.size = 4) :
    exec (.mgmtI2cAccess k off (some v)) s = .next ((s.i2cAddressed k off).writeReg k true p.reg p.inst (v % 2 ^ 32)) := by
  have hrun : ((s.i2cAddressed k off).chip k).running = true := by rw [State.chip_i2cAddressed]; exact hr
  unfold State.i2cAddressed at hrun ⊢
  simp only [exec, execMgmtI2cAccess, hrun, hi, State.writeBar0_word ha hp h4]
  exact occurs_true _ _

theorem exec_mgmtI2cAccess_read {off : Nat} {p : RegPlace} (hr : (s.chip k).running = true)
    (hi : (s.tray.slot k).i2c = true) (ha : off % 4 = 0) (hp : regAt off = some p) (h4 : p.size = 4) :
    exec (.mgmtI2cAccess k off none) s = .next ((s.i2cAddressed k off).setChip k
      ((((s.i2cAddressed k off).chip k).regClear p.reg p.inst).onHif (fun h =>
        { h with i2cData := ((s.i2cAddressed k off).chip k).regValue p.reg p.inst % 2 ^ 32 }))) := by
  have hrun : ((s.i2cAddressed k off).chip k).running = true := by rw [State.chip_i2cAddressed]; exact hr
  unfold State.i2cAddressed at hrun ⊢
  simp only [exec, execMgmtI2cAccess, hrun, hi, Chip.readBar0_word ha hp h4]
  exact occurs_true _ _

theorem Chip.i2cOffset_regClear (c : Chip) (r : Reg) (i : Nat) : (c.regClear r i).hif.i2cOffset = c.hif.i2cOffset := by
  unfold Chip.regClear
  split <;> rfl

theorem Chip.ceCount_regClear {r : Reg} (h : r = .tilCe) (c : Chip) (i : Nat) : ((c.regClear r i).tile i).ceCount = 0 := by
  subst h
  exact congrArg Tile.ceCount ((Chip.tile_setTile ..).trans (if_pos rfl))

theorem Chip.bru_regClear {r : Reg} (h : r = .bruStatus) (c : Chip) (i : Nat) : (c.regClear r i).bru = c.bru := by
  subst h
  rfl

theorem bit_zero_mod {v : Nat} (h : v % 2 = 1) : bit (v % 2 ^ 32) 0 = true := by
  refine decide_eq_true ?_
  change v % 2 ^ 32 / 1 % 2 = 1
  omega

theorem exec_bar0Write_ringCtrl {off v : Nat} {p : RegPlace} (hl : (s.chip k).linkUp = true) (ha : off % 4 = 0)
    (hp : regAt off = some p) (h4 : p.size = 4) (hreg : p.reg = .hifRingCtrl) (hi : p.inst < 16) (hv : v % 2 = 1) :
    ∃ t, exec (.bar0Write k off false v) s = .next t ∧ ((t.chip k).ring p.inst).enable = true ∧
      ((t.chip k).ring p.inst).cmdHead = 0 ∧ ((t.chip k).ring p.inst).cplTail = 0 := by
  refine ⟨_, by rw [exec_bar0Write_word hl ha hp h4, hreg], ?_⟩
  have hring : (Fin.ofNat 16 p.inst).val = p.inst := Nat.mod_eq_of_lt hi
  simp only [State.writeReg, bit_zero_mod hv, if_true, execRingEnable, Chip.running_of_linkUp hl, occurs_true, stateOf, hring,
    State.chip_setChip_self, Chip.onRing_eq, Chip.ring_setRing, and_self]

/-! ## The window of BAR2 -/

theorem Chip.out_send (c : Chip) (m : Msg) (e : Nat) (h : m.src = e) : ((c.send m).ep e).out = (c.ep e).out ++ [m] := by
  subst h
  exact congrArg Endpoint.out ((Chip.ep_setEp ..).trans (if_pos rfl))

/-- Messages that an endpoint sends one after another join its output in their order. -/
theorem Chip.out_foldl_send {α : Type} {f : Chip → α → Chip} {g : α → Msg} {e : Nat} {l : List α}
    (hf : ∀ (c : Chip), ∀ a ∈ l, ((f c a).ep e).out = (c.ep e).out ++ [g a]) (c : Chip) :
    ((l.foldl f c).ep e).out = (c.ep e).out ++ l.map g := by
  induction l generalizing c with
  | nil => simp
  | cons a l ih =>
    obtain ⟨ha, hl⟩ := List.forall_mem_cons.1 (fun a ha => fun c => hf c a ha)
    rw [List.foldl_cons, ih fun c a h => hl a h c, ha, List.map_cons, List.append_assoc]
    rfl

theorem exec_bar2Write {off : Nat} {data : List Byte} {en : List Bool} (hl : (s.chip k).linkUp = true) :
    ∃ t, exec (.bar2Write k off data en) s = .next t ∧
      ((t.chip k).ep epHif).out = ((s.chip k).ep epHif).out ++
        ((tlpPieces ((s.chip k).hif.winAddr off) data.length).filter (fun p => decide (0x1000000 ≤ p.1))).map
          (bar2Wr ((s.chip k).hif.winAddr off) data en) ∧
      ((∃ p ∈ tlpPieces ((s.chip k).hif.winAddr off) data.length, p.1 < 0x1000000) → (t.chip k).logged .ses 9 noInstance) := by
  refine ⟨_, by rw [exec, execBar2Write, hl]; exact occurs_true _ _, ?_⟩
  rw [State.chip_setChip_self]
  generalize tlpPieces ((s.chip k).hif.winAddr off) data.length = ps
  generalize (s.chip k).hif.winAddr off = a
  refine ⟨?_, fun ⟨p, hp, hlow⟩ => Chip.logged_faultIf _ _ _ _ (decide_eq_true ?_)⟩
  · have hout : ∀ (c : Chip) (i n : Nat) (b : Bool), (((c.countAux i n).faultIf b .ses 9 noInstance).ep epHif).out =
        (c.ep epHif).out := fun c i n b => by cases b <;> rfl
    rw [hout, Chip.out_foldl_send (g := id), List.map_id]
    intro c m hm
    obtain ⟨p, -, rfl⟩ := List.mem_map.1 hm
    exact Chip.out_send c (bar2Wr a data en p) epHif rfl
  · refine List.length_filter_lt_length_iff_exists.2 ⟨p, hp, ?_⟩
    simpa using hlow

/-- The READ of one piece: its TAG, its first line and its lines (R607). -/
def windowRead (d : Nat × Nat × Nat) : Msg :=
  { lane := .req, src := epHif, dst := epMem (channelOf d.2.1), op := 0x02, tag := d.1, addr := d.2.1, rlen := d.2.2 }

theorem exec_bar2Read {off n : Nat} (hl : (s.chip k).linkUp = true)
    (hfree : (tlpPieces ((s.chip k).hif.winAddr off) n).length ≤ ((s.chip k).freeTags epHif).length) :
    ∃ t, exec (.bar2Read k off n) s = .next t ∧
      ((t.chip k).ep epHif).out.length = ((s.chip k).ep epHif).out.length + (tlpPieces ((s.chip k).hif.winAddr off) n).length ∧
      (t.chip k).hif.reads.length = (s.chip k).hif.reads.length + 1 := by
  have hlen : ((tlpPieces ((s.chip k).hif.winAddr off) n).zip ((s.chip k).freeTags epHif)).length =
      (tlpPieces ((s.chip k).hif.winAddr off) n).length := by rw [List.length_zip, Nat.min_eq_left hfree]
  refine ⟨_, by rw [exec, execBar2Read, hl]; simp only [hlen, beq_self_eq_true]; exact occurs_true _ _, ?_⟩
  rw [State.chip_setChip_self, ← hlen]
  generalize (tlpPieces ((s.chip k).hif.winAddr off) n).zip ((s.chip k).freeTags epHif) = ps
  refine ⟨?_, ?_⟩
  · refine (congrArg List.length (Chip.out_foldl_send (g := windowRead) (fun c d _ => Chip.out_send c (windowRead d) epHif rfl) (s.chip k))).trans ?_
    simp
  · refine List.length_append.trans ?_
    rw [foldl_keeps (fun c : Chip => c.hif.reads) (fun _ _ => by rfl)]
    rfl

/-- Settles O39. -/
theorem hostAccessesTakeEffect : Obligations.HostAccessesTakeEffect := by
  unfold Obligations.HostAccessesTakeEffect
  refine ⟨fun k off v s => ⟨fun hl ha p hp h4 => ⟨fun hreg => ⟨_, exec_bar0Write_word hl ha hp h4, ?_⟩,
      fun hreg hi hv => exec_bar0Write_ringCtrl hl ha hp h4 hreg hi hv, fun hreg => ⟨_, exec_bar0Write_word hl ha hp h4, ?_⟩,
      _, exec_readWithClear_word hl ha hp h4, ?_⟩,
    fun hl hp => ⟨⟨_, exec_bar0Write_unassigned hl hp, ?_⟩, _, exec_readWithClear_unassigned hl hp, ?_⟩,
    fun hr hi ha p hp h4 => ⟨fun hreg => ⟨_, exec_mgmtI2cAccess_write hr hi ha hp h4, ?_⟩,
      _, exec_mgmtI2cAccess_read hr hi ha hp h4, ?_⟩⟩,
    fun k off n data en s hl => ⟨exec_bar2Write hl, exec_bar2Read hl⟩⟩
  · rw [State.writeReg_stored hreg]
    exact s.chip_setChip_self k _
  · rw [hreg, State.writeReg_stored (by decide)]
    refine (congrArg (fun c : Chip => c.stew.urgency) (s.chip_setChip_self k _)).trans ?_
    change v % 2 ^ 32 % 256 = v % 256
    omega
  · rw [State.chip_setChip_self]
    have hce := fun hreg => (s.chip k).ceCount_regClear (r := p.reg) hreg p.inst
    have hbru := fun hreg => (s.chip k).bru_regClear (r := p.reg) hreg p.inst
    generalize (s.chip k).regClear p.reg p.inst = d at hce hbru
    exact ⟨rfl, hce, hbru⟩
  · rw [State.onChip, State.chip_setChip_self]
    exact (s.chip k).badBar0_leaves
  · rw [State.chip_setChip_self]
    exact ⟨(s.chip k).badBar0_leaves.1, rfl⟩
  · rw [hreg, State.writeReg_stored (by decide)]
    refine (congrArg (fun c : Chip => c.stew.urgency) (State.chip_setChip_self _ k _)).trans ?_
    change v % 2 ^ 32 % 256 = v % 256
    omega
  · rw [State.chip_setChip_self, State.chip_i2cAddressed]
    exact ⟨(Chip.i2cOffset_regClear ..).trans rfl, fun hreg => by rw [hreg]; rfl⟩

/-! ## The rings -/

theorem Chip.enable_of_ringOn {c : Chip} {g : Nat} (h : c.ringOn g = true) : (c.ring g).enable = true := by
  simp only [Chip.ringOn, Bool.and_eq_true] at h
  exact h.1

/-- The chip after a command was fetched. -/
def Chip.fetched (c : Chip) (g : Nat) (entry : List Byte) : Chip :=
  (c.onRing g (fun r => { r with cmdHead := (r.cmdHead + 1) % c.ringN, handed := [{ bytes := entry }] })).countAux 1 1

theorem Chip.ring_fetched (c : Chip) (g : Nat) (entry : List Byte) : (c.fetched g entry).ring g =
    { c.ring g with cmdHead := ((c.ring g).cmdHead + 1) % c.ringN, handed := [{ bytes := entry }] } :=
  (Chip.ring_setRing ..).trans (if_pos rfl)

theorem Chip.time_fetched (c : Chip) (g : Nat) (entry : List Byte) : (c.fetched g entry).time = c.time := rfl

theorem Chip.hasPosted_refuse (c : Chip) (g : Nat) (bs : List Byte) (t : Tag) (nn i : Nat) :
    (c.refuse g bs t nn i).hasPosted g (c.commandEntry bs 1 (codeOf t nn)) := Chip.hasPosted_complete ..

theorem exec_commandFetch {g : RingId} {entry : List Byte} (hl : (s.chip k).linkUp = true) (hb : (s.chip k).bru.ready = true)
    (ho : (s.chip k).ringOn g = true) (hp : 0 < (s.chip k).posted g) (hh : ((s.chip k).ring g).handed = [])
    (hf : (s.chip k).holdsFor g = false) (hfl : (s.chip k).hif.flushes = [])
    (hroom : (entryValid entry || (s.chip k).roomForCompletions g 1) = true) :
    exec (.commandFetch k g entry) s = .next (s.setChip k (if entryValid entry then (s.chip k).fetched g entry
      else ((s.chip k).fetched g entry).refuse g entry .hif 3 noInstance)) := by
  simp only [exec, execCommandFetch, hl, hb, ho, hh, hf, hfl, hroom, decide_eq_true hp]
  exact occurs_true _ _

theorem Chip.ring_refuse (c : Chip) (g : Nat) (bs : List Byte) (t : Tag) (nn i : Nat) :
    (c.refuse g bs t nn i).ring g = { c.ring g with handed := (c.ring g).handed.tail } := by
  unfold Chip.refuse
  rw [Chip.ring_complete]
  exact (Chip.ring_setRing ..).trans (if_pos rfl)

theorem exec_commandFetch_refused {g : RingId} {entry : List Byte} (hl : (s.chip k).linkUp = true)
    (hb : (s.chip k).bru.ready = true) (ho : (s.chip k).ringOn g = true) (hp : 0 < (s.chip k).posted g)
    (hh : ((s.chip k).ring g).handed = []) (hf : (s.chip k).holdsFor g = false) (hfl : (s.chip k).hif.flushes = [])
    (hv : entryValid entry = false) (hroom : (s.chip k).roomForCompletions g 1 = true) :
    ∃ t, exec (.commandFetch k g entry) s = .next t ∧ ((t.chip k).ring g).handed = [] ∧
      ((t.chip k).ring g).cmdHead = (((s.chip k).ring g).cmdHead + 1) % (s.chip k).ringN ∧
      (t.chip k).hasPosted g ((s.chip k).commandEntry entry 1 (codeOf .hif 3)) := by
  refine ⟨_, exec_commandFetch hl hb ho hp hh hf hfl (by rw [hroom, Bool.or_true]), ?_⟩
  rw [State.chip_setChip_self, hv, if_neg Bool.false_ne_true, Chip.ring_refuse, Chip.ring_fetched]
  refine ⟨rfl, rfl, ?_⟩
  rw [← Chip.commandEntry_congr (Chip.time_fetched (s.chip k) g entry)]
  exact Chip.hasPosted_refuse ..

/-- What a ring that is disabled leaves: nothing handed over, and its completions held (R616, R620). -/
theorem Chip.disableRing_leaves (c : Chip) (g : Nat) : ((c.disableRing g).ring g).enable = false ∧
    ((c.disableRing g).ring g).handed = [] ∧ (c.disableRing g).compQueue g = [] ∧
    (c.disableRing g).seq.hold = (c.compQueue g).map (fun x => (g, x)) ++ c.seq.hold := by
  have hring : (c.disableRing g).ring g = { (c.holdAll g).ring g with enable := false, handed := [] } :=
    (Chip.ring_setRing ..).trans (if_pos rfl)
  have hseq : (c.disableRing g).seq = (c.holdAll g).seq := rfl
  rw [Chip.compQueue, hring, hseq]
  unfold Chip.holdAll
  extract_lets xs
  refine ⟨rfl, rfl, ?_⟩
  split
  next h =>
    have hx : c.compQueue g = [] := List.isEmpty_iff.1 h
    exact ⟨hx, by rw [hx]; rfl⟩
  next =>
    rw [Chip.faultIf_seq]
    exact ⟨(Bank.get_erase ..).trans (if_pos rfl), rfl⟩

theorem exec_ringEnable {g : RingId} (hr : (s.chip k).running = true) :
    ∃ t, exec (.ringEnable k g) s = .next t ∧ ((t.chip k).ring g).enable = true ∧
      ((t.chip k).ring g).cmdHead = 0 ∧ ((t.chip k).ring g).cmdTail = 0 ∧ ((t.chip k).ring g).cplTail = 0 ∧
      ((t.chip k).ring g).cplHead = 0 ∧ ((t.chip k).ring g).phase = true := by
  refine ⟨_, by rw [exec, execRingEnable, hr]; exact occurs_true _ _, ?_⟩
  rw [State.chip_setChip_self, Chip.onRing_eq, Chip.ring_setRing, if_pos rfl]
  exact ⟨rfl, rfl, rfl, rfl, rfl, rfl⟩

theorem exec_ringDisable {g : RingId} (hr : (s.chip k).running = true) :
    exec (.ringDisable k g) s = .next (s.setChip k ((s.chip k).disableRing g)) := by
  rw [exec, execRingDisable, hr]
  exact occurs_true _ _

theorem exec_ringAccessError {g : RingId} (hl : (s.chip k).linkUp = true) (ho : (s.chip k).ringOn g = true) :
    ∃ t, exec (.ringAccessError k g) s = .next t ∧ ((t.chip k).ring g).enable = false ∧ (t.chip k).logged .hif 4 g := by
  refine ⟨_, by rw [exec, execRingAccessError, hl, ho]; exact occurs_true _ _, ?_⟩
  rw [State.chip_setChip_self]
  have h := ((s.chip k).disableRing_leaves g).1
  generalize (s.chip k).disableRing g = d at h
  exact ⟨h, d.logged_fault .hif 4 g⟩

/-- Settles O40. -/
theorem ringsTakeEffect : Obligations.RingsTakeEffect := by
  unfold Obligations.RingsTakeEffect
  intro k g s
  refine ⟨fun hl v => ⟨fun hv hb ho => ?_, fun hv => ?_⟩,
    fun entry hl hb ho hp hh hf hfl => ⟨fun hv => ⟨_, exec_commandFetch hl hb ho hp hh hf hfl (by rw [hv, Bool.true_or]), ?_⟩,
      fun hv hroom => exec_commandFetch_refused hl hb ho hp hh hf hfl hv hroom⟩,
    fun hr => ⟨exec_ringEnable hr, _, exec_ringDisable hr, ?_⟩, fun hl ho => exec_ringAccessError hl ho⟩
  · have hd := Chip.dropsDoorbell_eq_false hl hv hb (Chip.enable_of_ringOn ho)
    obtain ⟨t, ht, htail, -⟩ := cmdTailWrite_stored hl hd
    obtain ⟨u, hu, hhead, -⟩ := cplHeadWrite_stored hl hd
    exact ⟨⟨t, ht, htail⟩, u, hu, hhead⟩
  · have hd : (s.chip k).dropsDoorbell g v.toNat = true := (Chip.dropsDoorbell_iff hl g v.toNat).2 (.inl hv)
    exact ⟨dropped_of_exec g (by rw [exec_cmdTailWrite_linkUp g v hl, if_pos hd]),
      dropped_of_exec g (by rw [exec_cplHeadWrite_linkUp g v hl, if_pos hd])⟩
  · rw [State.chip_setChip_self, hv, if_pos rfl, Chip.ring_fetched]
    exact ⟨rfl, rfl⟩
  · rw [State.chip_setChip_self]
    exact (s.chip k).disableRing_leaves g

end Sys2Proof.Machine
end

section
/-! LEMMAS. Completions, interrupt messages, flash commands, contributions and the resets of the host interface (chapter 15).
Settles O41 to O43. -/

namespace Sys2Proof.Machine

-- In order, not in parallel: every elaborator thread that waits for another holds a stack within the check's memory limit.
set_option Elab.async false

variable {k : ChipId} {g : RingId} {s : State}

/-! ## Completions -/

/-- The chip after completion `x` was written into ring `g`. -/
def Chip.completionWritten (c : Chip) (g : Nat) (x : Completion) : Chip :=
  (c.setRing g { c.ring g with
    cplTail := ((c.ring g).cplTail + 1) % c.ringN
    phase := if ((c.ring g).cplTail + 1) % c.ringN = 0 then !(c.ring g).phase else (c.ring g).phase }).onSeq
    (fun q => { q with reserved := q.reserved - x.releases })

theorem State.writeCompletion_eq (s : State) (k g : Nat) (x : Completion) :
    s.writeCompletion k g x = { (s.setChip k ((s.chip k).completionWritten g x)) with
      hostMem := Memory.write s.hostMem (((s.chip k).ring g).cplBase + 64 * ((s.chip k).ring g).cplTail)
        (x.bytes ((s.chip k).ring g).phase ((s.chip k).ring g).cmdHead) } := by
  simp only [State.writeCompletion, Chip.completionWritten]

theorem State.chip_writeCompletion (s : State) (k g : Nat) (x : Completion) :
    (s.writeCompletion k g x).chip k = (s.chip k).completionWritten g x := by
  rw [State.writeCompletion_eq]
  generalize Memory.write s.hostMem _ _ = m
  generalize (s.chip k).completionWritten g x = c
  exact s.chip_setChip_self k c

theorem State.hostMem_writeCompletion (s : State) (k g : Nat) (x : Completion) :
    (s.writeCompletion k g x).hostMem = Memory.write s.hostMem (((s.chip k).ring g).cplBase + 64 * ((s.chip k).ring g).cplTail)
      (x.bytes ((s.chip k).ring g).phase ((s.chip k).ring g).cmdHead) := by
  rw [State.writeCompletion_eq]

theorem Chip.ring_completionWritten (c : Chip) (g : Nat) (x : Completion) : (c.completionWritten g x).ring g =
    { c.ring g with
      cplTail := ((c.ring g).cplTail + 1) % c.ringN
      phase := if ((c.ring g).cplTail + 1) % c.ringN = 0 then !(c.ring g).phase else (c.ring g).phase } :=
  (Chip.ring_setRing ..).trans (if_pos rfl)

/-- The chip without its oldest completion on its way to ring `g`. -/
def Chip.completionTaken (c : Chip) (g : Nat) (rest : List Completion) : Chip :=
  (c.onSeq (fun q => { q with compOut := q.compOut.set g rest })).countAux 1 1

/-- The chip without a held completion. -/
def Chip.holdTaken (c : Chip) (e : Nat × Completion) : Chip :=
  (c.onSeq (fun q => { q with hold := q.hold.erase e })).countAux 1 1

theorem exec_completionWrite {x : Completion} {rest : List Completion} (hq : (s.chip k).compQueue g = x :: rest)
    (hl : (s.chip k).linkUp = true) (ho : (s.chip k).ringOn g = true) (hf : (s.chip k).ringFull g = false) :
    exec (.completionWrite k g) s = .next ((s.setChip k ((s.chip k).completionTaken g rest)).writeCompletion k g x) := by
  simp only [exec, execCompletionWrite, hq, hl, ho, hf, Bool.not_false, Bool.and_self, if_true]
  exact occurs_true _ _

theorem exec_completionWrite_held {x : Completion} {rest : List Completion} (hq : (s.chip k).compQueue g = x :: rest)
    (hr : (s.chip k).running = true) (hf : ((s.chip k).ringOn g && !(s.chip k).ringFull g) = false) :
    exec (.completionWrite k g) s = .next (s.setChip k ((s.chip k).holdAll g)) := by
  simp only [exec, execCompletionWrite, hq, hr, hf, Bool.false_eq_true, if_false]
  exact occurs_true _ _

theorem exec_holdRelease {e : Nat × Completion} (he : (s.chip k).seq.hold.find? (fun e => e.1 == g.val) = some e)
    (hl : (s.chip k).linkUp = true) (ho : (s.chip k).ringOn g = true) (hf : (s.chip k).ringFull g = false)
    (hq : (s.chip k).compQueue g = []) :
    exec (.holdRelease k g) s = .next ((s.setChip k ((s.chip k).holdTaken e)).writeCompletion k g e.2) := by
  simp only [exec, execHoldRelease, he, hl, ho, hf, hq]
  exact occurs_true _ _

/-- All completions on their way to a ring enter the hold. -/
theorem Chip.holdAll_leaves (c : Chip) (g : Nat) : (c.holdAll g).compQueue g = [] ∧
    (c.holdAll g).seq.hold = (c.compQueue g).map (fun x => (g, x)) ++ c.seq.hold := by
  obtain ⟨-, -, hq, hh⟩ := c.disableRing_leaves g
  exact ⟨hq, hh⟩

theorem exec_msixMessage {v : Fin 128} (hl : (s.chip k).linkUp = true) (hv : v.val < 21) (hc : (s.chip k).causeHolds v = true)
    (hco : (s.chip k).coalesced v = true) :
    exec (.msixMessage k v) s = .next (s.setChip k ((s.chip k).onHif (fun h => { h with
      vectors := h.vectors.set v (if ((s.chip k).hif.vectors.get {} v).mask
        then { (s.chip k).hif.vectors.get {} v with pend := true, cause := false }
        else { (s.chip k).hif.vectors.get {} v with pend := false, cause := false, since := 0 })
      lastHost := if ((s.chip k).hif.vectors.get {} v).mask then h.lastHost
        else some (.msix v ((s.chip k).hif.vectors.get {} v).addr ((s.chip k).hif.vectors.get {} v).data) }))) := by
  simp only [exec, execMsixMessage, hl, hc, hco, decide_eq_true hv]
  exact occurs_true _ _

/-- Settles O41. -/
theorem completionsAndMessagesTakeEffect : Obligations.CompletionsAndMessagesTakeEffect := by
  unfold Obligations.CompletionsAndMessagesTakeEffect
  intro k g v s
  refine ⟨fun x rest hq => ⟨fun hl ho hf => ⟨_, exec_completionWrite hq hl ho hf, ?_⟩,
      fun hr hf => ⟨_, exec_completionWrite_held hq hr hf, ?_⟩⟩,
    fun e he hl ho hf hq => ⟨_, exec_holdRelease he hl ho hf hq, ?_⟩,
    fun hl hv hc hco => ⟨fun hm => ⟨_, exec_msixMessage hl hv hc hco, ?_⟩, fun hm => ⟨_, exec_msixMessage hl hv hc hco, ?_⟩⟩⟩
  · rw [State.chip_writeCompletion, State.hostMem_writeCompletion, State.chip_setChip_self, Chip.ring_completionWritten]
    exact ⟨Bank.get_set_self .., rfl, rfl, rfl⟩
  · rw [State.chip_setChip_self]
    obtain ⟨hcomp, hhold⟩ := (s.chip k).holdAll_leaves g
    exact ⟨hcomp, rfl, by rw [hhold, hq]⟩
  · rw [State.chip_writeCompletion, State.hostMem_writeCompletion, State.chip_setChip_self, Chip.ring_completionWritten]
    exact ⟨rfl, rfl, rfl⟩
  · rw [State.chip_setChip_self]
    simp only [hm, Bool.false_eq_true, if_false]
    exact ⟨rfl, congrArg Vector_.pend (Bank.get_set_self ..)⟩
  · rw [State.chip_setChip_self]
    simp only [hm, if_true]
    exact ⟨rfl, congrArg Vector_.pend (Bank.get_set_self ..)⟩

/-! ## Flash commands -/

theorem exec_flashProgram (hr : (s.chip k).running = true)
    (hu : ¬ ((s.chip k).img.useValid = true ∧ (s.chip k).img.useSlot = (s.chip k).hif.flashSlot))
    (hs : ¬ ((s.chip k).img.staged = true ∧ (s.chip k).img.stagedSlot = (s.chip k).hif.flashSlot))
    (hc : (s.chip k).hif.flashCmd = 0) : exec (.flashProgram k) s = .next (s.setChip k ((s.chip k).startFlash 1)) := by
  rw [exec, execFlashProgram, hr, if_neg (by simpa using hu), if_neg (by simpa using hs), if_neg (by simpa using hc)]
  exact occurs_true _ _

theorem exec_flashProgram_used (hr : (s.chip k).running = true) (hv : (s.chip k).img.useValid = true)
    (hu : (s.chip k).img.useSlot = (s.chip k).hif.flashSlot) :
    exec (.flashProgram k) s = .next (s.setChip k ((s.chip k).refuseFlash 1)) := by
  rw [exec, execFlashProgram, hr, if_pos (by simp [hv, hu])]
  exact occurs_true _ _

theorem Chip.refuseFlash_leaves (c : Chip) (reason : Nat) : (c.refuseFlash reason).hif.flashCmd = c.hif.flashCmd ∧
    (c.refuseFlash reason).hif.flashState = 3 ∧ (c.refuseFlash reason).hif.flashReason = reason ∧
    (c.refuseFlash reason).logged .hif 7 noInstance :=
  ⟨rfl, rfl, rfl, Chip.logged_fault (c.onHif (fun h => { h with flashState := 3, flashReason := reason })) .hif 7 noInstance⟩

theorem exec_flashRead (hr : (s.chip k).running = true) (hc : (s.chip k).hif.flashCmd = 0) :
    exec (.flashRead k) s = .next (s.setChip k ((s.chip k).startFlash 2)) := by
  rw [exec, execFlashRead, hr, if_neg (by simpa using hc)]
  exact occurs_true _ _

/-- HIF after a flash operation whose read-back failed, or passed. -/
def Chip.flashEnded (c : Chip) (failed : Bool) : Chip :=
  ((c.onHif (fun h => { h with
    flashCmd := 0, flashState := if failed then 3 else 2, flashReason := if failed then 3 else 0 })).faultIf failed .hif 7
    noInstance).cause 18

theorem Chip.flashEnded_leaves (c : Chip) (failed : Bool) : (c.flashEnded failed).hif.flashCmd = 0 ∧
    (c.flashEnded failed).hif.flashState = (if failed then 3 else 2) ∧
    (c.flashEnded failed).hif.flashReason = (if failed then 3 else 0) ∧ (c.flashEnded failed).flash = c.flash ∧
    (failed = true → (c.flashEnded failed).logged .hif 7 noInstance) := by
  cases failed
  · exact ⟨rfl, rfl, rfl, rfl, fun h => nomatch h⟩
  · exact ⟨rfl, rfl, rfl, rfl, fun _ => Chip.logged_fault (c.onHif (fun h => { h with
      flashCmd := 0, flashState := 3, flashReason := 3 })) .hif 7 noInstance⟩

/-- The chip after a program, or its failed read-back, which leaves bytes that the spec does not name. -/
def Chip.programmed (c : Chip) (ok : Bool) (fresh : Nat) : Chip :=
  { c with
    flash := Memory.write c.flash (sectorBase c.hif.opSlot c.hif.opSector)
      (if ok then Memory.read c.hif.flashBuf 0 65536 else natLE 65536 (Config.free fresh)) }

/-- The chip with `bytes` in FLASH_BUF. -/
def Chip.buffered (c : Chip) (bytes : List Byte) : Chip :=
  c.onHif (fun h => { h with flashBuf := Memory.ofCells (bytes.zipIdx.map (fun e => (e.2, e.1))) })

/-- The chip after a read of a sector. -/
def Chip.sectorRead (c : Chip) : Chip := c.buffered (Memory.read c.flash (sectorBase c.hif.opSlot c.hif.opSector) 65536)

theorem Chip.flash_buffered (c : Chip) (bytes : List Byte) : (c.buffered bytes).flash = c.flash := rfl

theorem Chip.flash_programmed (c : Chip) (fresh : Nat) : (c.programmed true fresh).flash =
    Memory.write c.flash (sectorBase c.hif.opSlot c.hif.opSector) (Memory.read c.hif.flashBuf 0 65536) := by
  simp only [Chip.programmed, if_true]

theorem Chip.flash_sectorRead (c : Chip) : c.sectorRead.flash = c.flash := by rw [Chip.sectorRead, Chip.flash_buffered]

theorem exec_flashDone_program {ok : Bool} (hr : (s.chip k).running = true) (hc : (s.chip k).hif.flashCmd = 1) :
    exec (.flashDone k ok) s =
      .next { (s.setChip k (((s.chip k).programmed ok s.fresh).flashEnded !ok)) with fresh := s.fresh + 1 } := by
  have hne : ((s.chip k).hif.flashCmd != 0) = true := by rw [hc]; rfl
  rw [exec, execFlashDone, hr, hne, Bool.and_self, occurs_true]
  simp only [hc, if_true, decide_true, Bool.true_and, Chip.programmed, Chip.flashEnded]

theorem exec_flashDone_read {ok : Bool} (hr : (s.chip k).running = true) (hc : (s.chip k).hif.flashCmd = 2) :
    exec (.flashDone k ok) s =
      .next { (s.setChip k ((s.chip k).sectorRead.flashEnded false)) with fresh := s.fresh + 1 } := by
  have hne : ((s.chip k).hif.flashCmd != 0) = true := by rw [hc]; rfl
  have h1 : ¬ (2 = 1) := by decide
  rw [exec, execFlashDone, hr, hne, Bool.and_self, occurs_true]
  simp only [hc, h1, if_false, decide_false, Bool.false_and, Chip.sectorRead, Chip.buffered, Chip.flashEnded]

theorem State.chip_fresh (s : State) (n : Nat) (j : Nat) : State.chip { s with fresh := n } j = s.chip j := rfl

/-! ## The resets of the host interface -/

/-- A ring after a reset of the host interface (R638). -/
def Ring.hifReset (r : Ring) : Ring :=
  { r with enable := false, handed := [], cmdBase := 0, cplBase := 0, cmdHead := 0, cmdTail := 0, cplTail := 0, cplHead := 0, phase := true }

theorem Chip.ring_voidReads (c : Chip) (j : Nat) : c.voidReads.ring j = c.ring j ∧ c.voidReads.hif.reads = [] ∧
    c.voidReads.hif.perst = c.hif.perst := by
  unfold Chip.voidReads
  extract_lets due waiting sent gone c1 c2
  have h2 : c2.hif = c1.hif := foldl_keeps Chip.hif (fun _ _ => by rfl) _ _
  have h1 : c1.hif = c.hif := rfl
  have h := h2.trans h1
  clear_value c2
  refine ⟨?_, rfl, ?_⟩
  · rw [Chip.ring, Chip.ring, ← h]
    rfl
  · rw [← h]
    rfl

theorem Chip.holdAll_hif (c : Chip) (g j : Nat) : (c.holdAll g).ring j = c.ring j ∧ (c.holdAll g).hif.perst = c.hif.perst := by
  unfold Chip.holdAll
  extract_lets xs
  split
  · exact ⟨rfl, rfl⟩
  · cases !c.seq.holdFault.contains g
    · exact ⟨rfl, rfl⟩
    · exact ⟨rfl, rfl⟩

/-- The chip after ring `g` was reset. -/
def Chip.resetRing (c : Chip) (g : Nat) : Chip := (c.disableRing g).onRing g (fun r =>
  { r with cmdBase := 0, cplBase := 0, cmdHead := 0, cmdTail := 0, cplTail := 0, cplHead := 0, phase := true })

theorem Chip.resetRing_leaves (c : Chip) (g : Nat) : (c.resetRing g).ring g = (c.ring g).hifReset ∧
    (∀ j, j ≠ g → (c.resetRing g).ring j = c.ring j) ∧ (c.resetRing g).hif.perst = c.hif.perst := by
  unfold Chip.resetRing Chip.disableRing
  have hold := c.holdAll_hif g
  generalize c.holdAll g = d at hold
  simp only [Chip.onRing_eq, Chip.ring_setRing, if_true]
  refine ⟨?_, fun j hj => ?_, ?_⟩
  · rw [(hold g).1]
    rfl
  · rw [if_neg hj, if_neg hj, (hold j).1]
  · exact (hold g).2

/-- What a reset of the host interface sets after its rings. -/
def Chip.hifCleared (c : Chip) : Chip :=
  c.voidReads.onHif (fun h => { h with
    winBase := 0, peers := {}, d3 := false, lastHost := none
    vectors := h.vectors.mapCells (fun _ x => { cause := x.cause, since := x.since })
    flushes := h.flushes.map (fun x => { x with rings := [] }) })

theorem Chip.resetHif_eq (c : Chip) : c.resetHif = ((List.range 16).foldl Chip.resetRing c).hifCleared := rfl

theorem Chip.hifCleared_leaves (c : Chip) : c.hifCleared.hif.winBase = 0 ∧ c.hifCleared.hif.reads = [] ∧
    c.hifCleared.hif.d3 = false ∧ c.hifCleared.hif.perst = c.hif.perst ∧ ∀ g, c.hifCleared.ring g = c.ring g := by
  have h := c.ring_voidReads
  unfold Chip.hifCleared
  generalize c.voidReads = d at h
  exact ⟨rfl, (h 0).2.1, rfl, (h 0).2.2, fun g => (h g).1⟩

theorem Chip.resetHif_leaves (c : Chip) : c.resetHif.hif.winBase = 0 ∧ c.resetHif.hif.reads = [] ∧ c.resetHif.hif.d3 = false ∧
    c.resetHif.hif.perst = c.hif.perst ∧ ∀ g : RingId, c.resetHif.ring g = (c.ring g).hifReset := by
  rw [Chip.resetHif_eq]
  have hperst : ((List.range 16).foldl Chip.resetRing c).hif.perst = c.hif.perst :=
    foldl_keeps (fun d : Chip => d.hif.perst) (fun d g => (d.resetRing_leaves g).2.2) _ c
  have hring : ∀ g : RingId, ((List.range 16).foldl Chip.resetRing c).ring g = (c.ring g).hifReset := fun g =>
    (foldl_own Chip.ring (g := fun _ => Ring.hifReset) (fun d g => (d.resetRing_leaves g).1)
      (fun d g j h => (d.resetRing_leaves g).2.1 j h) List.nodup_range c g).trans (if_pos (List.mem_range.2 g.isLt))
  generalize (List.range 16).foldl Chip.resetRing c = d at hperst hring
  obtain ⟨hwin, hreads, hd3, hp, hr⟩ := d.hifCleared_leaves
  exact ⟨hwin, hreads, hd3, hp.trans hperst, fun g => (hr g).trans (hring g)⟩

theorem exec_d3hotTransition {d : Bool} (hr : (s.chip k).running = true) (hp : (s.chip k).hif.perst = false) :
    exec (.d3hotTransition k d) s = .next (s.setChip k ((s.chip k).onHif (fun h => { h with d3 := d }))) := by
  rw [exec, execD3hotTransition, hr, hp]
  exact occurs_true _ _

theorem exec_hifReset {cause : HifCause} (hr : (s.chip k).running = true) (hp : (s.chip k).hif.perst = false) :
    exec (.hifReset k cause) s = .next ((s.onTray (fun t => t.onSlot k (fun x => { x with perst := x.perst || cause = .perst }))).setChip k
      ((s.chip k).resetHif.onHif (fun h => { h with perst := h.perst || cause = .perst }))) := by
  rw [exec, execHifReset, hr, hp]
  exact occurs_true _ _

/-- Settles O42. -/
theorem flashAndHifResetsTakeEffect : Obligations.FlashAndHifResetsTakeEffect := by
  unfold Obligations.FlashAndHifResetsTakeEffect
  intro k s hr
  refine ⟨fun hu hs hc => ⟨_, exec_flashProgram hr hu hs hc, ?_⟩, fun hv hu => ⟨_, exec_flashProgram_used hr hv hu, ?_⟩,
    fun hc => ⟨_, exec_flashRead hr hc, ?_⟩,
    fun hc => ⟨⟨_, exec_flashDone_program hr hc, ?_⟩, _, exec_flashDone_program hr hc, ?_⟩,
    fun hc ok => ⟨_, exec_flashDone_read hr hc, ?_⟩,
    fun hp => ⟨fun d => ⟨_, exec_d3hotTransition hr hp, ?_⟩, fun cause => ⟨_, exec_hifReset hr hp, ?_⟩⟩⟩
  · rw [State.chip_setChip_self]
    exact ⟨rfl, rfl, rfl⟩
  · rw [State.chip_setChip_self]
    exact (s.chip k).refuseFlash_leaves 1
  · rw [State.chip_setChip_self]
    exact ⟨rfl, rfl⟩
  · rw [State.chip_fresh, State.chip_setChip_self]
    obtain ⟨hcmd, hst, -, hfl, -⟩ := ((s.chip k).programmed true s.fresh).flashEnded_leaves false
    exact ⟨hcmd, hst, hfl.trans ((s.chip k).flash_programmed s.fresh)⟩
  · rw [State.chip_fresh, State.chip_setChip_self]
    obtain ⟨-, hst, hre, -, hlog⟩ := ((s.chip k).programmed false s.fresh).flashEnded_leaves true
    exact ⟨hst, hre, hlog rfl⟩
  · rw [State.chip_fresh, State.chip_setChip_self]
    obtain ⟨-, hst, -, hfl, -⟩ := (s.chip k).sectorRead.flashEnded_leaves false
    exact ⟨hst, hfl.trans (s.chip k).flash_sectorRead⟩
  · rw [State.chip_setChip_self]
    rfl
  · rw [State.chip_setChip_self]
    obtain ⟨hwin, hreads, hd3, hperst, hring⟩ := (s.chip k).resetHif_leaves
    generalize (s.chip k).resetHif = d at hwin hreads hd3 hperst hring
    refine ⟨hwin, hreads, hd3, (congrArg (· || decide (cause = .perst)) (hperst.trans hp)).trans (Bool.false_or _), fun g => ?_⟩
    rw [show (d.onHif (fun h => { h with perst := h.perst || cause = .perst })).ring g = d.ring g from rfl, hring g]
    exact ⟨rfl, rfl, rfl⟩

/-! ## Contributions between chips -/

/-- XDMA without its writes. -/
def Chip.xdmaWrDropped (c : Chip) : Chip := c.onEp epXdma (fun x => { x with popWr := [] })

theorem Chip.ep_xdmaWrDropped (c : Chip) : c.xdmaWrDropped.ep epXdma = { c.ep epXdma with popWr := [] } :=
  (Chip.ep_setEp ..).trans (if_pos rfl)

/-- The request that XDMA answers leaves its requests, and the answer goes out. -/
theorem Chip.ep_xdmaAnswer (c : Chip) {q : Msg} (hs : q.src ≠ epXdma) (status : Nat) :
    ((c.xdmaWrDropped.answer epXdma (rspTo epXdma q status 0 [])).ep epXdma).popReq = (c.ep epXdma).popReq.tail ∧
    ((c.xdmaWrDropped.answer epXdma (rspTo epXdma q status 0 [])).ep epXdma).out =
      (c.ep epXdma).out ++ [rspTo epXdma q status 0 []] := by
  have h := c.xdmaWrDropped.ep_answer (rspTo epXdma q status 0 []) hs
  rw [show (rspTo epXdma q status 0 []).src = epXdma from rfl, Chip.ep_xdmaWrDropped] at h
  rw [h]
  exact ⟨rfl, rfl⟩

theorem Chip.hif_answer (c : Chip) (e : Nat) (m : Msg) : (c.answer e m).hif = c.hif := (c.onlyEps_answer e m).hif

/-- The chip after XDMA has issued the peer write of `q` (R636). -/
def Chip.peerWritten (c : Chip) (q : Msg) : Chip :=
  ((c.xdmaWrDropped.answer epXdma (rspTo epXdma q 0 0 [])).onHif (fun h =>
    { h with p2pOut := h.p2pOut ++
        [(field q.arg 30 4, c.hif.peers.get 0 (field q.arg 30 4) + 0x800, contribution q)] })).countAux 1 4

theorem Chip.head_xdmaWrDropped {c : Chip} {q : Msg} {rest : List Msg} (h : (c.ep epXdma).popReq = q :: rest) :
    ((c.onEp epXdma (fun x => { x with popWr := [] })).ep epXdma).popReq.head? = some q := by
  refine (congrArg (fun x : Endpoint => x.popReq.head?) c.ep_xdmaWrDropped).trans ?_
  exact congrArg List.head? h

theorem exec_xdmaCollect {q : Msg} {rest : List Msg} (hr : (s.chip k).running = true) (hq : ((s.chip k).ep epXdma).popReq = q :: rest)
    (hp : q.poison = false) (ho : q.op = 0x03) (h1 : 1 ≤ q.len) (h3 : q.len ≤ 3) (hf : field q.arg 30 4 < 8)
    (hb : (s.chip k).hif.peers.get 0 (field q.arg 30 4) ≠ 0) (hl : (s.chip k).linkUp = true) :
    exec (.xdmaCollect k) s = .next (s.setChip k ((s.chip k).peerWritten q)) := by
  have h0 : q.len ≠ 0 := by omega
  have h3' : ¬ 3 < q.len := by omega
  have hl' : ((s.chip k).onEp epXdma (fun x => { x with popWr := [] })).linkUp = true := hl
  have hr' : ((s.chip k).onEp epXdma (fun x => { x with popWr := [] })).running = true := hr
  have hb' : ((s.chip k).onEp epXdma (fun x => { x with popWr := [] })).hif.peers.get 0 (field q.arg 30 4) ≠ 0 := hb
  simp only [exec, execXdmaCollect, Chip.head_xdmaWrDropped hq, hp, ho, h0, h3', hf, hb', hl', hr', if_true, if_false,
    Bool.false_eq_true, ne_eq, not_true, decide_false, decide_true, Bool.or_false, Bool.not_false, Bool.not_true, Bool.and_false,
    Bool.and_true]
  exact occurs_true _ _

theorem exec_xdmaCollect_noPeer {q : Msg} {rest : List Msg} (hr : (s.chip k).running = true)
    (hq : ((s.chip k).ep epXdma).popReq = q :: rest)
    (hp : q.poison = false) (ho : q.op = 0x03) (h1 : 1 ≤ q.len) (h3 : q.len ≤ 3) (hf : 8 ≤ field q.arg 30 4) :
    exec (.xdmaCollect k) s = .next (s.setChip k
      (((s.chip k).xdmaWrDropped.answer epXdma (rspTo epXdma q 3 0 [])).fault .hif 5 noInstance)) := by
  have h0 : q.len ≠ 0 := by omega
  have h3' : ¬ 3 < q.len := by omega
  have hf' : ¬ field q.arg 30 4 < 8 := by omega
  have hr' : ((s.chip k).onEp epXdma (fun x => { x with popWr := [] })).running = true := hr
  simp only [exec, execXdmaCollect, Chip.head_xdmaWrDropped hq, hp, ho, h0, h3', hf', hr', if_true, if_false,
    Bool.false_eq_true, ne_eq, not_true, decide_false, decide_true, Bool.or_false, Bool.not_false, Bool.not_true, Bool.and_false,
    Bool.and_true, bne_self_eq_false, Bool.false_and]
  exact occurs_true _ _

theorem Chip.peerWritten_leaves (c : Chip) {q : Msg} (hs : q.src ≠ epXdma) :
    ((c.peerWritten q).ep epXdma).popReq = (c.ep epXdma).popReq.tail ∧
    (c.peerWritten q).hif.p2pOut = c.hif.p2pOut ++
      [(field q.arg 30 4, c.hif.peers.get 0 (field q.arg 30 4) + 0x800, contribution q)] ∧
    ((c.peerWritten q).ep epXdma).out = (c.ep epXdma).out ++ [rspTo epXdma q 0 0 []] := by
  obtain ⟨hreq, hout⟩ := c.ep_xdmaAnswer hs 0
  have hhif := c.xdmaWrDropped.hif_answer epXdma (rspTo epXdma q 0 0 [])
  unfold Chip.peerWritten
  generalize c.xdmaWrDropped.answer epXdma (rspTo epXdma q 0 0 []) = d at hreq hout hhif
  generalize contribution q = bs
  exact ⟨hreq, congrArg (fun h : Hif => h.p2pOut ++ _) hhif, hout⟩

/-! ### The inbox -/

/-- Sending the contributions that wait for a tag leaves their number and which of them wait. -/
theorem Chip.waiting_pumpInbox (c : Chip) : c.pumpInbox.hif.inbox.map InboxEntry.waiting = c.hif.inbox.map InboxEntry.waiting := by
  have key : ∀ (l : List InboxEntry) (acc : Chip × List InboxEntry),
      (l.foldl (fun (acc : Chip × List InboxEntry) x =>
        if x.sent || x.waiting then (acc.1, acc.2 ++ [x])
        else match acc.1.freeTags epHif with
          | [] => (acc.1, acc.2 ++ [x])
          | t :: _ => (acc.1.send (x.collect t), acc.2 ++ [{ x with sent := true, tag := t }])) acc).2.map InboxEntry.waiting =
        acc.2.map InboxEntry.waiting ++ l.map InboxEntry.waiting := by
    intro l
    induction l with
    | nil => simp
    | cons x l ih =>
      intro acc
      rw [List.foldl_cons, ih]
      split
      · simp
      · split <;> simp
  exact key c.hif.inbox (c, [])

/-- The chip after the switch has delivered `data`. -/
def Chip.delivered (c : Chip) (data : List Byte) : Chip :=
  c.onHif (fun h => if h.p2pIn.head? = some data then { h with p2pIn := h.p2pIn.tail } else h)

theorem Chip.delivered_leaves (c : Chip) (data : List Byte) : (c.delivered data).hif.inbox = c.hif.inbox ∧
    (c.delivered data).hif.p2pDrop = c.hif.p2pDrop ∧ (c.delivered data).linkUp = c.linkUp := by
  simp only [Chip.delivered, Chip.linkUp, Chip.onHif]
  split <;> exact ⟨rfl, rfl, rfl⟩

theorem exec_inboxWrite_taken {data : List Byte} (hl : (s.chip k).linkUp = true) (hd : contributionOk data = true)
    (hn : (s.chip k).hif.inbox.length < 64) : exec (.inboxWrite k data) s = .next (s.setChip k
      (((((s.chip k).delivered data).onHif (fun h => { h with inbox := h.inbox ++ [{ bytes := data }] })).pumpInbox).countAux 1 4)) := by
  obtain ⟨hin, -, hlink⟩ := (s.chip k).delivered_leaves data
  unfold Chip.delivered at hin hlink ⊢
  have hroom : ¬ 64 ≤ (s.chip k).hif.inbox.length := by omega
  simp only [exec, execInboxWrite, hin, hlink, hl, hd, hroom, Bool.not_true, decide_false, Bool.or_self, Bool.false_eq_true, if_false]
  exact occurs_true _ _

theorem exec_inboxWrite_malformed {data : List Byte} (hl : (s.chip k).linkUp = true) (hd : contributionOk data = false) :
    exec (.inboxWrite k data) s = .next (s.setChip k (((s.chip k).delivered data).dropContribution.countAux 1 4)) := by
  obtain ⟨-, -, hlink⟩ := (s.chip k).delivered_leaves data
  unfold Chip.delivered at hlink ⊢
  simp only [exec, execInboxWrite, hlink, hl, hd, Bool.not_false, Bool.true_or, if_true]
  exact occurs_true _ _

/-- A contribution dropped is counted and logged (R637). -/
theorem Chip.dropContribution_leaves (c : Chip) : c.dropContribution.hif.inbox = c.hif.inbox ∧
    c.dropContribution.hif.p2pDrop = satAdd 32 c.hif.p2pDrop 1 ∧ c.dropContribution.logged .hif 5 noInstance :=
  ⟨rfl, rfl, Chip.logged_fault (c.onHif (fun h => { h with p2pDrop := satAdd 32 h.p2pDrop 1 })) .hif 5 noInstance⟩

theorem exec_inboxResend {i : Nat} {x : InboxEntry} (hr : (s.chip k).running = true) (hx : (s.chip k).hif.inbox[i]? = some x)
    (hw : x.waiting = true) : exec (.inboxResend k i) s = .next (s.setChip k
      ((s.chip k).onHif (fun h => { h with inbox := h.inbox.set i { x with waiting := false } })).pumpInbox) := by
  simp only [exec, execInboxResend, hx, hr, hw, Bool.and_self, occurs_true]

theorem exec_inboxExpire {i : Nat} {x : InboxEntry} (hr : (s.chip k).running = true) (hx : (s.chip k).hif.inbox[i]? = some x)
    (ha : 1000 ≤ x.age) : exec (.inboxExpire k i) s = .next (s.setChip k
      ((s.chip k).onHif (fun h => { h with inbox := h.inbox.eraseIdx i })).dropContribution) := by
  simp only [exec, execInboxExpire, hx, hr, ha, decide_true, Bool.and_self, occurs_true]

/-- Settles O43. -/
theorem contributionsTakeEffect : Obligations.ContributionsTakeEffect := by
  unfold Obligations.ContributionsTakeEffect
  intro k s hr
  refine ⟨fun q rest hq hp ho h1 h3 hs => ⟨fun hf hb hl => ⟨_, exec_xdmaCollect hr hq hp ho h1 h3 hf hb hl, ?_⟩,
      fun hf => ⟨_, exec_xdmaCollect_noPeer hr hq hp ho h1 h3 hf, ?_⟩⟩,
    fun hl data => ⟨fun hd hn => ⟨_, exec_inboxWrite_taken hl hd hn, ?_⟩, fun hd => ⟨_, exec_inboxWrite_malformed hl hd, ?_⟩⟩,
    fun i x hx => ⟨fun hw => ⟨_, exec_inboxResend hr hx hw, ?_⟩, fun ha => ⟨_, exec_inboxExpire hr hx ha, ?_⟩⟩⟩
  · rw [State.chip_setChip_self]
    obtain ⟨hreq, hpeer, hout⟩ := (s.chip k).peerWritten_leaves hs
    exact ⟨by rw [hreq, hq, List.tail_cons], hpeer, hout⟩
  · rw [State.chip_setChip_self]
    obtain ⟨-, hout⟩ := (s.chip k).ep_xdmaAnswer hs 3
    have hhif := (s.chip k).xdmaWrDropped.hif_answer epXdma (rspTo epXdma q 3 0 [])
    generalize (s.chip k).xdmaWrDropped.answer epXdma (rspTo epXdma q 3 0 []) = d at hout hhif
    exact ⟨(show (d.fault .hif 5 noInstance).hif.p2pOut = d.hif.p2pOut from rfl).trans (congrArg Hif.p2pOut hhif), hout, d.logged_fault .hif 5 noInstance⟩
  · rw [State.chip_setChip_self]
    have h := congrArg List.length (Chip.waiting_pumpInbox
      (((s.chip k).delivered data).onHif (fun h => { h with inbox := h.inbox ++ [{ bytes := data }] })))
    rw [List.length_map, List.length_map] at h
    refine h.trans (List.length_append.trans ?_)
    rw [((s.chip k).delivered_leaves data).1]
    rfl
  · rw [State.chip_setChip_self]
    obtain ⟨hin, hdrop, -⟩ := (s.chip k).delivered_leaves data
    obtain ⟨hinbox, hcount, hlog⟩ := ((s.chip k).delivered data).dropContribution_leaves
    rw [hin] at hinbox
    rw [hdrop] at hcount
    generalize ((s.chip k).delivered data).dropContribution = d at hinbox hcount hlog
    exact ⟨hinbox, hcount, hlog⟩
  · rw [State.chip_setChip_self, ← List.getElem?_map, Chip.waiting_pumpInbox]
    obtain ⟨hi, -⟩ := List.getElem?_eq_some_iff.1 hx
    simp [Chip.onHif, hi]
  · rw [State.chip_setChip_self]
    exact Chip.dropContribution_leaves _

end Sys2Proof.Machine
end

section
/-! LEMMAS. Management ports, the status commands and the commands on slots, units and lamps (chapter 16). Settles O44 and
O45. -/

namespace Sys2Proof.Machine

-- In order, not in parallel: every elaborator thread that waits for another holds a stack within the check's memory limit.
set_option Elab.async false

variable {q : MgmtReq} {s : State} {x : Side}

/-! ## The arrival of a command and its answer -/

/-- The tray when TMC `q.tmc` has taken the request `q`: its port is BUSY. -/
def Tray.taking (t : Tray) (q : MgmtReq) : Tray :=
  t.onTmc q.tmc (fun m => if q.port = .switchPort then { m with mstatus := 1 } else m)

/-- Of a TMC, all but its MSTATUS. -/
theorem Tray.tmc_taking (t : Tray) (q : MgmtReq) (y : Side) : ∃ n, (t.taking q).tmc y = { t.tmc y with mstatus := n } := by
  unfold Tray.taking
  rw [Tray.onTmc_eq, Tray.tmc_setTmc]
  split
  next h =>
    subst h
    split
    · exact ⟨1, rfl⟩
    · exact ⟨_, rfl⟩
  next => exact ⟨_, rfl⟩

theorem mgmt_eq (cmd : SvcCmd) (h : s.tray.canTake q = true) : mgmt q cmd s = .next (s.serve q cmd) := by
  rw [mgmt, h]
  exact occurs_true _ _

/-- The answer of a TMC, in its response buffer. -/
theorem Tray.response_respond (t : Tray) (q : MgmtReq) (op : Nat) (a : Answer) :
    ((t.respond q op a).tmc q.tmc).response = responseFrame op q.seq a := by
  simp [Tray.respond]

theorem Tray.noteRefusal_of_ne {a : Answer} (h : a.code ≠ codeOf .svc 9) (t : Tray) (y : Side) : t.noteRefusal y a = t := by
  rw [Tray.noteRefusal, beq_eq_false_iff_ne.2 h]
  rfl

/-! ## The status commands -/

/-- A status command is answered by the TMC that takes it. -/
theorem State.serve_status {cmd : SvcCmd} (he : cmd.either = true) (hr : ∀ g, cmd ≠ .roleSwap g)
    (hc : ∀ t : Tray, (t.statusAnswer q.tmc cmd).code = 0) :
    s.serve q cmd = s.onTray (fun t => (t.taking q).respond q cmd.opcode ((t.taking q).statusAnswer q.tmc cmd)) := by
  have hn : ∀ t : Tray, t.noteRefusal q.tmc (t.statusAnswer q.tmc cmd) = t := fun t =>
    Tray.noteRefusal_of_ne (by rw [hc]; decide) t q.tmc
  unfold State.serve
  extract_lets s0
  split
  next g => exact absurd rfl (hr g)
  next =>
    rw [if_pos he]
    refine (congrArg (fun t : Tray => State.mk t s0.chips s0.hostMem s0.pending s0.fresh) ?_ : _)
    exact congrArg (fun u : Tray => u.respond q cmd.opcode _) (hn s0.tray)

theorem Tray.statusData_taking (t : Tray) (q : MgmtReq) (y : Side) : (t.taking q).statusData y = t.statusData y := by
  obtain ⟨z, p, n⟩ := q
  cases z <;> cases p <;> cases y <;> rfl

theorem Tray.faultData_taking (t : Tray) (q : MgmtReq) (n : Nat) : (t.taking q).faultData n = t.faultData n := by
  simp only [Tray.faultData, Tray.taking, Tray.onTmc_eq, Tray.setTmc_log, Tray.setTmc_logCount]

theorem Tray.meterData_taking (t : Tray) (q : MgmtReq) : (t.taking q).meterData = t.meterData := by
  simp only [Tray.meterData, Tray.taking, Tray.onTmc_eq, Tray.setTmc_ring]

theorem Tray.lampData_taking (t : Tray) (q : MgmtReq) : (t.taking q).lampData = t.lampData := by
  simp only [Tray.lampData, Tray.taking, Tray.onTmc_eq, Tray.setTmc_lamps, Tray.setTmc_lampBoard]

theorem exec_trayStatus (h : s.tray.canTake q = true) :
    ∃ t, exec (.trayStatus q) s = .next t ∧
      (t.tray.tmc q.tmc).response = responseFrame 0x01 q.seq { data := s.tray.statusData q.tmc } := by
  refine ⟨_, mgmt_eq .trayStatus h, ?_⟩
  rw [State.serve_status rfl (fun _ h => SvcCmd.noConfusion h) fun _ => rfl, State.onTray_tray_eq, Tray.response_respond]
  simp only [Tray.statusAnswer, Tray.statusData_taking]
  rfl

theorem exec_faultLog (h : s.tray.canTake q = true) (n : Nat) :
    ∃ t, exec (.faultLog q n) s = .next t ∧
      (t.tray.tmc q.tmc).response = responseFrame 0x02 q.seq { data := s.tray.faultData n } := by
  refine ⟨_, mgmt_eq (.faultLog n) h, ?_⟩
  rw [State.serve_status rfl (fun _ h => SvcCmd.noConfusion h) fun _ => rfl, State.onTray_tray_eq, Tray.response_respond]
  simp only [Tray.statusAnswer, Tray.faultData_taking]
  rfl

theorem State.serve_meterStatus (s : State) (q : MgmtReq) : (((s.serve q .meterStatus).tray).tmc q.tmc).response =
    responseFrame 0x03 q.seq { data := s.tray.meterData } := by
  rw [State.serve_status rfl (fun _ h => SvcCmd.noConfusion h) fun _ => rfl, State.onTray_tray_eq, Tray.response_respond]
  simp only [Tray.statusAnswer, Tray.meterData_taking]
  rfl

theorem exec_lampStatus (h : s.tray.canTake q = true) :
    ∃ t, exec (.lampStatus q) s = .next t ∧
      (t.tray.tmc q.tmc).response = responseFrame 0x04 q.seq { data := s.tray.lampData } ∧
      (q.port = .switchPort → (t.tray.tmc q.tmc).mstatus = 2 ∧
        (t.tray.tmc q.tmc).signals = (s.tray.tmc q.tmc).signals + 1) := by
  refine ⟨_, mgmt_eq .lampStatus h, ?_⟩
  rw [State.serve_status rfl (fun _ h => SvcCmd.noConfusion h) fun _ => rfl, State.onTray_tray_eq, Tray.response_respond]
  refine ⟨?_, fun hp => ?_⟩
  · simp only [Tray.statusAnswer, Tray.lampData_taking]
    rfl
  · obtain ⟨n, hn⟩ := s.tray.tmc_taking q q.tmc
    simp [Tray.respond, hp, hn]

/-! ## ROLE_SWAP -/

theorem State.serve_roleSwap (s : State) (q : MgmtReq) (g : Nat) :
    s.serve q (.roleSwap g) = s.onTray (fun t => (t.taking q).roleSwap q g) := rfl

theorem Tray.roleGen_taking (t : Tray) (q : MgmtReq) (y : Side) : ((t.taking q).tmc y).roleGen = (t.tmc y).roleGen := by
  obtain ⟨n, hn⟩ := t.tmc_taking q y
  rw [hn]

theorem Tray.roleSwap_older {t : Tray} {g : Nat} (h : g < (t.tmc q.tmc).roleGen) : t.roleSwap q g = t.respond q 0x10 {} := if_pos h

theorem Tray.roleSwap_newer {t : Tray} {g : Nat} (h : (t.tmc q.tmc).roleGen < g) :
    t.roleSwap q g = (t.noteRefusal q.tmc (refusedBy 9)).respond q 0x10 (refusedBy 9) := by
  unfold Tray.roleSwap
  extract_lets m
  rw [if_neg (show ¬ g < m.roleGen from Nat.not_lt.2 h.le), if_pos h]

theorem Tray.roleSwap_current {t : Tray} {g : Nat} (h : g = (t.tmc q.tmc).roleGen) : t.roleSwap q g =
    if t.hand = .moved then { t with heldCmds := t.heldCmds ++ [(q, .roleSwap g)] }
    else if t.hand = .none then ({ t with swapWaiters := t.swapWaiters ++ [q] }).onTmc q.tmc (fun m => { m with swapReq := some g })
    else { t with swapWaiters := t.swapWaiters ++ [q] } := by
  unfold Tray.roleSwap
  extract_lets m t1
  rw [if_neg (show ¬ g < m.roleGen from Nat.not_lt.2 h.ge), if_neg (show ¬ m.roleGen < g from Nat.not_lt.2 h.le)]

theorem Tray.swapWaiters_respond (t : Tray) (q : MgmtReq) (op : Nat) (a : Answer) :
    (t.respond q op a).swapWaiters = t.swapWaiters := by simp [Tray.respond]

theorem exec_roleSwap (h : s.tray.canTake q = true) (g : Nat) :
    (g < (s.tray.tmc q.tmc).roleGen → ∃ t, exec (.roleSwap q g) s = .next t ∧ t.tray.swapWaiters = s.tray.swapWaiters ∧
      (t.tray.tmc q.tmc).response = responseFrame 0x10 q.seq {}) ∧
    ((s.tray.tmc q.tmc).roleGen < g → ∃ t, exec (.roleSwap q g) s = .next t ∧ t.tray.swapWaiters = s.tray.swapWaiters ∧
      (t.tray.tmc q.tmc).response = responseFrame 0x10 q.seq (refusedBy 9)) ∧
    (g = (s.tray.tmc q.tmc).roleGen → s.tray.hand ≠ .moved →
      ∃ t, exec (.roleSwap q g) s = .next t ∧ t.tray.swapWaiters = s.tray.swapWaiters ++ [q] ∧
      (s.tray.hand = .none → (t.tray.tmc q.tmc).swapReq = some g)) ∧
    (g = (s.tray.tmc q.tmc).roleGen → s.tray.hand = .moved →
      ∃ t, exec (.roleSwap q g) s = .next t ∧ t.tray.heldCmds = s.tray.heldCmds ++ [(q, .roleSwap g)]) := by
  have hgen := s.tray.roleGen_taking q q.tmc
  have hhand : (s.tray.taking q).hand = s.tray.hand := by simp [Tray.taking]
  have hwait : (s.tray.taking q).swapWaiters = s.tray.swapWaiters := by simp [Tray.taking]
  have hheld : (s.tray.taking q).heldCmds = s.tray.heldCmds := by simp [Tray.taking]
  have hexec : exec (.roleSwap q g) s = .next (s.onTray fun t => (t.taking q).roleSwap q g) :=
    (mgmt_eq (.roleSwap g) h).trans (congrArg _ (s.serve_roleSwap q g))
  rw [← hgen, ← hhand, ← hwait, ← hheld, hexec]
  generalize ht : s.tray.taking q = t
  refine ⟨fun hg => ⟨_, rfl, ?_⟩, fun hg => ⟨_, rfl, ?_⟩, fun hg hm => ⟨_, rfl, ?_⟩, fun hg hm => ⟨_, rfl, ?_⟩⟩ <;>
    rw [State.onTray_tray_eq, ht]
  · rw [Tray.roleSwap_older hg, Tray.swapWaiters_respond, Tray.response_respond]
    exact ⟨rfl, rfl⟩
  · rw [Tray.roleSwap_newer hg, Tray.swapWaiters_respond, Tray.response_respond]
    exact ⟨by simp [Tray.noteRefusal], rfl⟩
  · rw [Tray.roleSwap_current hg, if_neg hm]
    split
    next h0 => simp
    next h0 => exact ⟨rfl, fun h => absurd h h0⟩
  · rw [Tray.roleSwap_current hg, if_pos hm]

/-! ## The ways in: doorbell, connection and forwarding -/

/-- Of a TMC, all but its response buffer, MSTATUS and its messages. -/
theorem Tray.tmc_respond (t : Tray) (q : MgmtReq) (op : Nat) (a : Answer) (y : Side) :
    ∃ r n k, (t.respond q op a).tmc y = { t.tmc y with response := r, mstatus := n, signals := k } := by
  unfold Tray.respond
  rw [Tray.onTmc_eq, Tray.tmc_setTmc]
  split
  next h =>
    subst h
    exact ⟨_, _, _, rfl⟩
  next => exact ⟨_, _, _, rfl⟩

@[simp] theorem Tray.faulty_setTmc (t : Tray) (y : Side) (m : Tmc) (g : Tag) (nn i : Nat) :
    (t.setTmc y m).faulty g nn i = t.faulty g nn i := by simp [Tray.faulty]

@[simp] theorem Tray.faulty_respond (t : Tray) (q : MgmtReq) (op : Nat) (a : Answer) (g : Tag) (nn i : Nat) :
    (t.respond q op a).faulty g nn i = t.faulty g nn i := by simp [Tray.respond]

/-- The request that a doorbell of TMC `x` makes of its request buffer. -/
def doorbellRequest (x : Side) (frame : List Byte) : MgmtReq :=
  { tmc := x, port := .switchPort, seq := leNat ((frame.drop 4).take 4) }

theorem exec_mgmtDoorbell {frame : List Byte} {samples : List LampSense} {reads : List Bool} (hs : s.tray.standby = true)
    (hp : (s.tray.tmc x).present = true) (hc : (s.tray.tmc x).checked = true) :
    exec (.mgmtDoorbell x frame samples reads) s = .next
      (if (s.tray.tmc x).mstatus = 1 then s.onTray (fun t => t.onTmc x fun m => { m with request := frame })
        else (s.onTray fun t => t.onTmc x fun m => { m with request := frame }).serve (doorbellRequest x frame)
          (parseFrame frame samples reads)) := by
  rw [exec, execMgmtDoorbell, hs, hp, hc]
  exact occurs_true _ _

theorem State.serve_meterStatus_leaves (s : State) {q : MgmtReq} (hq : q.port = .switchPort) :
    ((s.serve q .meterStatus).tray.tmc q.tmc).request = (s.tray.tmc q.tmc).request ∧
    ((s.serve q .meterStatus).tray.tmc q.tmc).mstatus = 2 := by
  rw [State.serve_status rfl (fun _ h => SvcCmd.noConfusion h) fun _ => rfl, State.onTray_tray_eq]
  obtain ⟨n, hn⟩ := s.tray.tmc_taking q q.tmc
  simp [Tray.respond, hq, hn]

theorem exec_mgmtDoorbell_idle {frame : List Byte} {samples : List LampSense} {reads : List Bool} (hs : s.tray.standby = true)
    (hp : (s.tray.tmc x).present = true) (hc : (s.tray.tmc x).checked = true) (hm : (s.tray.tmc x).mstatus ≠ 1)
    (hf : parseFrame frame samples reads = .meterStatus) :
    ∃ t, exec (.mgmtDoorbell x frame samples reads) s = .next t ∧ (t.tray.tmc x).request = frame ∧
      (t.tray.tmc x).mstatus = 2 ∧
      (t.tray.tmc x).response = responseFrame 0x03 (leNat ((frame.drop 4).take 4)) { data := s.tray.meterData } := by
  refine ⟨_, (exec_mgmtDoorbell hs hp hc).trans (congrArg _ (if_neg hm)), ?_⟩
  rw [hf]
  generalize hs1 : s.onTray (fun t => t.onTmc x fun m => { m with request := frame }) = s1
  have hdata : s1.tray.meterData = s.tray.meterData := by subst hs1; simp [Tray.meterData]
  have hreq : (s1.tray.tmc x).request = frame := by subst hs1; simp
  obtain ⟨hr, hst⟩ := s1.serve_meterStatus_leaves (q := doorbellRequest x frame) rfl
  exact ⟨hr.trans hreq, hst, (s1.serve_meterStatus (doorbellRequest x frame)).trans (by rw [hdata]; rfl)⟩

theorem exec_mgmtDoorbell_busy {frame : List Byte} {samples : List LampSense} {reads : List Bool} (hs : s.tray.standby = true)
    (hp : (s.tray.tmc x).present = true) (hc : (s.tray.tmc x).checked = true) (hm : (s.tray.tmc x).mstatus = 1) :
    ∃ t, exec (.mgmtDoorbell x frame samples reads) s = .next t ∧ (t.tray.tmc x).mstatus = 1 ∧
      (t.tray.tmc x).response = (s.tray.tmc x).response := by
  refine ⟨_, (exec_mgmtDoorbell hs hp hc).trans (congrArg _ (if_pos hm)), ?_⟩
  simp [hm]

theorem exec_mgmtConnect (hs : s.tray.standby = true) (hp : (s.tray.tmc x).present = true) (hc : (s.tray.tmc x).checked = true)
    (chain : Option Nat) :
    ∃ t, exec (.mgmtConnect x chain) s = .next t ∧
      (t.tray.tmc x).conns = (if (match chain with
          | some n => (s.tray.tmc x).cas.cells.any (fun e => Config.chainsTo n e.2)
          | none => false) = true ∧ (s.tray.tmc x).conns < 4 then (s.tray.tmc x).conns + 1 else (s.tray.tmc x).conns) ∧
      (chain = none → t.tray.faulty .svc 9 x.ix = true) := by
  cases chain with
  | none => exact ⟨_, by simp only [exec, execMgmtConnect, hs, hp, hc]; exact occurs_true _ _, by simp, fun _ => by simp⟩
  | some n =>
    refine ⟨_, by simp only [exec, execMgmtConnect, hs, hp, hc]; exact occurs_true _ _, ?_, nofun⟩
    by_cases ht : (s.tray.tmc x).cas.cells.any (fun e => Config.chainsTo n e.2) = true
    · by_cases h : (s.tray.tmc x).conns < 4 <;> simp [ht, h]
    · simp [ht]

theorem exec_forwardTimeout {f : Forwarded} {rest : List Forwarded} (hf : (s.tray.tmc x).forwarded = f :: rest)
    (ha : 50000 ≤ f.age) (hp : (s.tray.tmc x).present = true) :
    ∃ t, exec (.forwardTimeout x) s = .next t ∧ (t.tray.tmc x).forwarded = rest ∧ t.tray.faulty .svc 1 x.ix = true ∧
      (t.tray.tmc f.req.tmc).response = responseFrame f.cmd.opcode f.req.seq { status := 2, code := codeOf .svc 1 } := by
  refine ⟨_, by simp only [exec, execForwardTimeout, hf, hp, decide_eq_true ha]; exact occurs_true _ _, ?_, ?_, ?_⟩
  · obtain ⟨r, n, k, h⟩ := Tray.tmc_respond ((s.tray.onTmc x fun m => { m with forwarded := rest }).fault .svc 1 x.ix) f.req
      f.cmd.opcode { status := 2, code := codeOf .svc 1 } x
    exact (congrArg Tmc.forwarded h).trans (by simp)
  · simp
  · exact Tray.response_respond _ _ _ _

/-- Settles O44. -/
theorem managementPortsTakeEffect : Obligations.ManagementPortsTakeEffect := by
  unfold Obligations.ManagementPortsTakeEffect
  intro q s
  refine ⟨fun h => ⟨exec_trayStatus h, exec_faultLog h, ⟨_, mgmt_eq .meterStatus h, s.serve_meterStatus q⟩,
    exec_lampStatus h, exec_roleSwap h⟩, fun frame samples reads hs hp hc => ?_, fun chain hs hp hc => ?_,
    fun f rest hf ha hp => exec_forwardTimeout hf ha hp⟩
  · exact ⟨exec_mgmtDoorbell_idle hs hp hc, exec_mgmtDoorbell_busy hs hp hc⟩
  · obtain ⟨t, ht, hconns, hfault⟩ := exec_mgmtConnect hs hp hc chain
    refine ⟨t, ht, ?_, hfault⟩
    cases chain <;> exact hconns

/-! ## A command that the active TMC runs -/

theorem mgmt_active {cmd : SvcCmd} (hq : s.tray.canTake q = true) (hr : s.tray.role = some x) (hh : s.tray.holding = false)
    (hp : (s.tray.tmc x).present = true) (he : cmd.either = false) :
    mgmt q cmd s = .next ((s.onTray fun t => t.taking q).execute x q cmd) := by
  rw [mgmt_eq cmd hq]
  unfold State.serve
  extract_lets s0
  split
  next => cases he
  next =>
    rw [if_neg (by rw [he]; exact Bool.false_ne_true), hr]
    dsimp only
    rw [hh, if_neg Bool.false_ne_true, if_pos hp]
    rfl

/-- A command that ends at once is answered with the code it ended with. -/
theorem State.execute_ended {cmd : SvcCmd} {s1 : State} {a : Answer} (h : s.runActive x q cmd = (s1, some a))
    (ha : a.code ≠ codeOf .svc 9) : s.execute x q cmd = s1.onTray (fun t => t.respond q cmd.opcode a) := by
  rw [State.execute, h]
  exact congrArg (fun f : Tray → Tray => s1.onTray f) (funext fun t => by rw [Tray.noteRefusal_of_ne ha])

theorem mgmt_ended {cmd : SvcCmd} {s1 : State} {a : Answer} (hq : s.tray.canTake q = true) (hr : s.tray.role = some x)
    (hh : s.tray.holding = false) (hp : (s.tray.tmc x).present = true) (he : cmd.either = false)
    (h : (s.onTray fun t => t.taking q).runActive x q cmd = (s1, some a)) (ha : a.code ≠ codeOf .svc 9) :
    mgmt q cmd s = .next (s1.onTray fun t => t.respond q cmd.opcode a) := by
  rw [mgmt_active hq hr hh hp he, State.execute_ended h ha]

/-! ## What the arrival and the answer of a command leave -/

@[simp] theorem Tray.setTmc_nvmWrite (t : Tray) (y : Side) (m : Tmc) : (t.setTmc y m).nvmWrite = t.nvmWrite := by
  cases y <;> rfl

@[simp] theorem Tray.trcDrives_setTmc (t : Tray) (y : Side) (m : Tmc) (z : Side) :
    (t.setTmc y m).trcDrives z = t.trcDrives z := by simp [Tray.trcDrives]

@[simp] theorem Tray.slot_respond (t : Tray) (q : MgmtReq) (op : Nat) (a : Answer) (n : Nat) :
    (t.respond q op a).slot n = t.slot n := by simp [Tray.respond]

@[simp] theorem Tray.prepared_respond (t : Tray) (q : MgmtReq) (op : Nat) (a : Answer) :
    (t.respond q op a).prepared = t.prepared := by simp [Tray.respond]

@[simp] theorem Tray.prepReady_respond (t : Tray) (q : MgmtReq) (op : Nat) (a : Answer) :
    (t.respond q op a).prepReady = t.prepReady := by simp [Tray.respond]

@[simp] theorem Tray.locate_respond (t : Tray) (q : MgmtReq) (op : Nat) (a : Answer) :
    (t.respond q op a).locate = t.locate := by simp [Tray.respond]

@[simp] theorem Tray.lamps_respond (t : Tray) (q : MgmtReq) (op : Nat) (a : Answer) :
    (t.respond q op a).lamps = t.lamps := by simp [Tray.respond]

@[simp] theorem Tray.lampLevel_respond (t : Tray) (q : MgmtReq) (op : Nat) (a : Answer) :
    (t.respond q op a).lampLevel = t.lampLevel := by simp [Tray.respond]

@[simp] theorem Tray.slot_taking (t : Tray) (q : MgmtReq) (n : Nat) : (t.taking q).slot n = t.slot n := by simp [Tray.taking]

@[simp] theorem Tray.prepared_taking (t : Tray) (q : MgmtReq) : (t.taking q).prepared = t.prepared := by simp [Tray.taking]

@[simp] theorem Tray.lampBoard_taking (t : Tray) (q : MgmtReq) : (t.taking q).lampBoard = t.lampBoard := by simp [Tray.taking]

theorem Tray.present_taking (t : Tray) (q : MgmtReq) (y : Side) : ((t.taking q).tmc y).present = (t.tmc y).present := by
  obtain ⟨n, hn⟩ := t.tmc_taking q y
  rw [hn]

/-! ## Preparing and resuming a unit -/

theorem Tray.unitPresent_taking (t : Tray) (q : MgmtReq) (typ i : Nat) : (t.taking q).unitPresent typ i = t.unitPresent typ i := by
  unfold Tray.unitPresent
  simp only [Tray.slot_taking, Tray.present_taking, Tray.lampBoard_taking]
  simp [Tray.taking]

theorem Tray.prepareBarred_taking (t : Tray) (q : MgmtReq) (typ i : Nat) :
    (t.taking q).prepareBarred typ i = t.prepareBarred typ i := by
  unfold Tray.prepareBarred
  split <;> simp [Tray.taking]

theorem Tray.prepareRefused_taking (t : Tray) (q : MgmtReq) (typ i : Nat) :
    (t.taking q).prepareRefused typ i = t.prepareRefused typ i := by
  simp only [Tray.prepareRefused, Tray.unitPresent_taking, Tray.prepareBarred_taking, Tray.prepared_taking]

theorem Tray.prepared_checkStandby (t : Tray) :
    t.checkStandby.prepared = t.prepared ∧ t.checkStandby.prepReady = t.prepReady := by
  unfold Tray.checkStandby
  split
  next => exact ⟨rfl, rfl⟩
  next =>
    dsimp only
    split <;> simp

theorem Tray.prepareUnit_leaves (t : Tray) (typ i : Nat) :
    (t.prepareUnit typ i).prepared = some (typ, i) ∧ (t.prepareUnit typ i).prepReady = false := by
  unfold Tray.prepareUnit
  extract_lets y t1
  exact Tray.prepared_checkStandby _

theorem Tray.last_testLamp (t : Tray) (e : Nat) (sense : LampSense) (j : Nat) : ((t.testLamp e sense).lamps.get {} j).last =
    if j = e then diagnosisOf sense e else (t.lamps.get {} j).last := by
  simp only [Tray.testLamp, Tray.setLamp]
  split
  next h =>
    subst h
    rw [Bank.get_update_self]
    split <;> simp
  next h =>
    rw [Bank.get_update_other _ _ _ _ _ _ h]
    simp [Bank.get_set_other _ _ _ _ _ h]

section
variable (hq : s.tray.canTake q = true) (hr : s.tray.role = some x) (hh : s.tray.holding = false)
  (hp : (s.tray.tmc x).present = true)
include hq hr hh hp

theorem exec_unitPrepare {typ i : Nat} (hk : UnitId.known typ i = true) :
    (s.tray.prepareRefused typ i = false → ∃ t, exec (.unitPrepare q typ i) s = .next t ∧
      t.tray.prepared = some (typ, i) ∧ t.tray.prepReady = false ∧
      (t.tray.tmc q.tmc).response = responseFrame 0x11 q.seq {}) ∧
    (s.tray.prepareRefused typ i = true → ∃ t, exec (.unitPrepare q typ i) s = .next t ∧
      t.tray.prepared = s.tray.prepared ∧ t.tray.faulty .svc 6 i = true ∧
      (t.tray.tmc q.tmc).response = responseFrame 0x11 q.seq (refusedBy 6)) := by
  have hrun : (s.onTray fun t => t.taking q).runActive x q (.unitPrepare typ i) =
      if s.tray.prepareRefused typ i = true
      then ({ s with tray := (s.tray.taking q).fault .svc 6 i }, some (refusedBy 6))
      else ((s.onTray fun t => t.taking q).followLines { s with tray := (s.tray.taking q).prepareUnit typ i }, some {}) := by
    rw [← s.tray.prepareRefused_taking q]
    unfold State.runActive
    dsimp only
    rw [if_neg (by rw [hk]; exact Bool.false_ne_true)]
    rfl
  refine ⟨fun hf => ?_, fun hf => ?_⟩
  · rw [hf, if_neg Bool.false_ne_true] at hrun
    refine ⟨_, mgmt_ended hq hr hh hp rfl hrun (by decide), ?_⟩
    obtain ⟨hprep, hready⟩ := (s.tray.taking q).prepareUnit_leaves typ i
    rw [State.onTray_tray_eq, State.followLines_tray, Tray.prepared_respond, Tray.prepReady_respond]
    exact ⟨hprep, hready, Tray.response_respond _ _ _ _⟩
  · rw [if_pos hf] at hrun
    refine ⟨_, mgmt_ended hq hr hh hp rfl hrun (by decide), ?_⟩
    exact ⟨by simp, by simp, Tray.response_respond _ _ _ _⟩

theorem exec_unitResume {typ i : Nat} (hprep : s.tray.prepared = some (typ, i)) :
    ∃ t, exec (.unitResume q typ i) s = .next t ∧ t.tray.prepared = none ∧
      (t.tray.tmc q.tmc).response = responseFrame 0x12 q.seq {} := by
  have hrun : (s.onTray fun t => t.taking q).runActive x q (.unitResume typ i) =
      ({ s with tray := (s.tray.taking q).resumeUnit typ i }, some {}) :=
    if_pos ((Tray.prepared_taking _ _).trans hprep)
  exact ⟨_, mgmt_ended hq hr hh hp rfl hrun (by decide), Tray.prepared_respond _ _ _ _, Tray.response_respond _ _ _ _⟩

/-! ## Slots, chips and lamps -/

theorem exec_slotPower_on {n : SlotId} (hprep : s.tray.prepared ≠ some (1, n.val)) :
    ∃ t, exec (.slotPower q n 1) s = .next t ∧ (t.tray.slot n).wantOn = true ∧
      (t.tray.tmc q.tmc).response = responseFrame 0x20 q.seq {} := by
  have hrun : (s.onTray fun t => t.taking q).runActive x q (.slotPower n 1) =
      ({ s with tray := (s.tray.taking q).onSlot n fun y => { y with wantOn := true, offHeld := false } }, some {}) := by
    have hn : ¬ 8 ≤ n.val := by omega
    have hpb : ((s.tray.taking q).prepared == some (1, n.val)) = false := by simpa using hprep
    simp only [State.runActive, Tray.slotPower, State.onTray_tray_eq, decide_eq_false hn, hpb, Bool.and_false, Bool.or_false,
      Nat.lt_irrefl, decide_false, Bool.false_eq_true, if_false, if_true]
    rfl
  refine ⟨_, mgmt_ended hq hr hh hp rfl hrun (by decide), ?_, Tray.response_respond _ _ _ _⟩
  simp

theorem exec_slotPower_off (n : SlotId) :
    ∃ t, exec (.slotPower q n 0) s = .next t ∧ (t.tray.slot n).wantOn = false ∧ (t.tray.slot n).offHeld = true := by
  have hrun : (s.onTray fun t => t.taking q).runActive x q (.slotPower n 0) =
      ({ s with tray := (s.tray.taking q).onSlot n fun y => { y with wantOn := false, offHeld := true } }, some {}) := by
    have hn : ¬ 8 ≤ n.val := by omega
    simp only [State.runActive, Tray.slotPower, decide_eq_false hn]
    rfl
  refine ⟨_, mgmt_ended hq hr hh hp rfl hrun (by decide), ?_⟩
  simp

theorem exec_slotReset (n : SlotId) :
    ∃ t, exec (.slotReset q n) s = .next t ∧ (t.tray.slot n).resetHeld = true ∧
      (t.tray.tmc q.tmc).response = responseFrame 0x21 q.seq {} := by
  have hrun : (s.onTray fun t => t.taking q).runActive x q (.slotReset n) =
      ({ s with tray := (s.tray.taking q).onSlot n fun y => { y with resetHeld := true } }, some {}) := if_pos n.isLt
  refine ⟨_, mgmt_ended hq hr hh hp rfl hrun (by decide), ?_, Tray.response_respond _ _ _ _⟩
  simp

theorem exec_chipRestart {n : SlotId} (hn : s.readable n = true) (hs : (s.chip n).bru.stuck = false) :
    ∃ t, exec (.chipRestart q n) s = .next t ∧ t.chip n = (s.chip n).restart 2 ∧ (t.chip n).bru.phase = .otp ∧
      (t.chip n).bru.cause = 2 := by
  have hn' : (s.onTray fun t => t.taking q).readable n = true := by simpa [State.readable] using hn
  have hrun : (s.onTray fun t => t.taking q).runActive x q (.chipRestart n) =
      ((s.onTray fun t => t.taking q).onChip n fun c => if c.bru.stuck then c else c.restart 2, some {}) := by
    have h8 : ¬ 8 ≤ n.val := by omega
    simp only [State.runActive, State.chipRestart, if_neg h8, hn', Bool.not_true, Bool.false_eq_true, if_false]
  refine ⟨_, mgmt_ended hq hr hh hp rfl hrun (by decide), ?_⟩
  have hchip : (((s.onTray fun t => t.taking q).onChip n fun c => if c.bru.stuck then c else c.restart 2).onTray
      fun t => t.respond q (SvcCmd.chipRestart n).opcode {}).chip n = (s.chip n).restart 2 := by
    rw [State.chip_onTray, State.chip_onChip_self, State.chip_onTray, if_neg (by rw [hs]; exact Bool.false_ne_true)]
  obtain ⟨hphase, hcause, _⟩ := (s.chip n).restart_leaves 2
  rw [hchip]
  exact ⟨rfl, hphase, hcause⟩

theorem exec_chipRestart_unreadable {n : SlotId} (hn : s.readable n = false) :
    ∃ t, exec (.chipRestart q n) s = .next t ∧ t.chip n = s.chip n ∧
      (t.tray.tmc q.tmc).response = responseFrame 0x22 q.seq { status := 2 } := by
  have hn' : (s.onTray fun t => t.taking q).readable n = false := by simpa [State.readable] using hn
  have hrun : (s.onTray fun t => t.taking q).runActive x q (.chipRestart n) =
      (s.onTray fun t => t.taking q, some { status := 2 }) := by
    have h8 : ¬ 8 ≤ n.val := by omega
    simp only [State.runActive, State.chipRestart, if_neg h8, hn', Bool.not_false, if_true]
  exact ⟨_, mgmt_ended hq hr hh hp rfl hrun (by decide), rfl, Tray.response_respond _ _ _ _⟩

theorem exec_locate {on : Nat} (hon : on ≤ 1) :
    ∃ t, exec (.locate q on) s = .next t ∧ t.tray.locate = decide (on = 1) := by
  have hrun : (s.onTray fun t => t.taking q).runActive x q (.locate on) =
      ({ s with tray := ({ s.tray.taking q with locate := decide (on = 1) }).drivePatterns }, some {}) :=
    if_neg (Nat.not_lt.2 hon)
  refine ⟨_, mgmt_ended hq hr hh hp rfl hrun (by decide), ?_⟩
  rw [State.onTray_tray_eq, Tray.locate_respond]
  unfold Tray.drivePatterns
  extract_lets t1
  split <;> rfl

theorem exec_lampTest (hb : s.tray.lampBoard = true) (samples : List LampSense) :
    ∃ t, exec (.lampTest q samples) s = .next t ∧
      ∀ e : LampId, (t.tray.lamps.get {} e).last = diagnosisOf (samples.getD e ⟨0, 0⟩) e := by
  have hrun : (s.onTray fun t => t.taking q).runActive x q (.lampTest samples) =
      ({ s with tray := (List.range 19).foldl (fun t e => t.testLamp e (samples.getD e ⟨0, 0⟩)) (s.tray.taking q) },
        some {}) := by
    unfold State.runActive
    dsimp only
    rw [Tray.lampTest, if_pos (show (s.onTray fun t => t.taking q).tray.lampBoard = true from (Tray.lampBoard_taking _ _).trans hb)]
    rfl
  refine ⟨_, mgmt_ended hq hr hh hp rfl hrun (by decide), fun e => ?_⟩
  rw [State.onTray_tray_eq, Tray.lamps_respond]
  exact (foldl_own (fun (t : Tray) j => (t.lamps.get {} j).last) (g := fun e _ => diagnosisOf (samples.getD e ⟨0, 0⟩) e)
    (fun t n => (t.last_testLamp n _ n).trans (if_pos rfl)) (fun t n j h => (t.last_testLamp n _ j).trans (if_neg h))
    List.nodup_range _ _).trans (if_pos (List.mem_range.2 e.isLt))

theorem exec_lampLevel {pct : Nat} (h1 : 1 ≤ pct) (h2 : pct ≤ 100) :
    ∃ t, exec (.lampLevel q pct) s = .next t ∧ t.tray.lampLevel = pct := by
  have hrun : (s.onTray fun t => t.taking q).runActive x q (.lampLevel pct) =
      ({ s with tray := { s.tray.taking q with lampLevel := pct } }, some {}) :=
    if_neg (by simp; omega)
  exact ⟨_, mgmt_ended hq hr hh hp rfl hrun (by decide), Tray.lampLevel_respond _ _ _ _⟩

end

/-- Settles O45. -/
theorem slotAndUnitCommandsTakeEffect : Obligations.SlotAndUnitCommandsTakeEffect := by
  unfold Obligations.SlotAndUnitCommandsTakeEffect
  intro q x s u hq hr hh hp
  refine ⟨fun typ i hk => exec_unitPrepare hq hr hh hp hk, fun typ i hprep => exec_unitResume hq hr hh hp hprep, fun n => ?_,
    fun on hon => exec_locate hq hr hh hp hon, fun samples hb => exec_lampTest hq hr hh hp hb samples,
    fun pct h1 h2 => exec_lampLevel hq hr hh hp h1 h2⟩
  exact ⟨exec_slotPower_on hq hr hh hp, exec_slotPower_off hq hr hh hp n, exec_slotReset hq hr hh hp n,
    exec_chipRestart hq hr hh hp, exec_chipRestart_unreadable hq hr hh hp⟩

end Sys2Proof.Machine
end

section
/-! LEMMAS. The commands on the tray image, the switch, the hall time and the authorities (chapter 16). Settles O46. -/

namespace Sys2Proof.Machine

-- In order, not in parallel: every elaborator thread that waits for another holds a stack within the check's memory limit.
set_option Elab.async false

variable {q : MgmtReq} {s : State} {x : Side}

/-! ## What the arrival and the answer of a command leave of the image -/

@[simp] theorem Tray.image_taking (t : Tray) (q : MgmtReq) : (t.taking q).image = t.image := by simp [Tray.taking]

@[simp] theorem Tray.haveImage_taking (t : Tray) (q : MgmtReq) : (t.taking q).haveImage = t.haveImage := by simp [Tray.taking]

@[simp] theorem Tray.nvmWrite_taking (t : Tray) (q : MgmtReq) : (t.taking q).nvmWrite = t.nvmWrite := by simp [Tray.taking]

@[simp] theorem Tray.nvm_taking (t : Tray) (q : MgmtReq) (y : Side) : (t.taking q).nvm y = t.nvm y := by simp [Tray.taking]

@[simp] theorem Tray.staging_taking (t : Tray) (q : MgmtReq) : (t.taking q).staging = t.staging := by simp [Tray.taking]

theorem Tray.stagedImage_taking (t : Tray) (q : MgmtReq) (len : Nat) : (t.taking q).stagedImage len = t.stagedImage len := by
  simp [Tray.stagedImage]

@[simp] theorem Tray.image_respond (t : Tray) (q : MgmtReq) (op : Nat) (a : Answer) :
    (t.respond q op a).image = t.image := by simp [Tray.respond]

@[simp] theorem Tray.haveImage_respond (t : Tray) (q : MgmtReq) (op : Nat) (a : Answer) :
    (t.respond q op a).haveImage = t.haveImage := by simp [Tray.respond]

@[simp] theorem Tray.nvmWrite_respond (t : Tray) (q : MgmtReq) (op : Nat) (a : Answer) :
    (t.respond q op a).nvmWrite = t.nvmWrite := by simp [Tray.respond]

@[simp] theorem Tray.staging_respond (t : Tray) (q : MgmtReq) (op : Nat) (a : Answer) :
    (t.respond q op a).staging = t.staging := by simp [Tray.respond]

@[simp] theorem Tray.heldCmds_respond (t : Tray) (q : MgmtReq) (op : Nat) (a : Answer) :
    (t.respond q op a).heldCmds = t.heldCmds := by simp [Tray.respond]

@[simp] theorem Tray.faultIf_nvmWrite (t : Tray) (b : Bool) (g : Tag) (nn i : Nat) : (t.faultIf b g nn i).nvmWrite = t.nvmWrite := by
  cases b <;> rfl

/-! ## The end of a write -/

/-- The two trays use the same image and hold the same commands. -/
def Tray.SameImage (t u : Tray) : Prop := u.image = t.image ∧ u.haveImage = t.haveImage ∧ u.heldCmds = t.heldCmds

theorem Tray.SameImage.trans {t u v : Tray} (h : t.SameImage u) (k : u.SameImage v) : t.SameImage v :=
  ⟨k.1.trans h.1, k.2.1.trans h.2.1, k.2.2.trans h.2.2⟩

theorem Tray.sameImage_setThreshold (t : Tray) : t.SameImage t.setThreshold := by
  unfold Tray.setThreshold
  split <;> exact ⟨rfl, rfl, rfl⟩

theorem Tray.sameImage_noteStanding (t : Tray) : t.SameImage t.noteStanding := by
  refine ⟨?_, t.noteStanding_haveImage, ?_⟩ <;> unfold Tray.noteStanding <;> split
  · exact (foldl_keeps Tray.image (fun t n => by split <;> simp) _ _).trans (by simp)
  · rfl
  · exact (foldl_keeps Tray.heldCmds (fun t n => by split <;> simp) _ _).trans (by simp)
  · rfl

theorem Tray.useImage_leaves (t : Tray) (im : List Host.Cell) :
    (t.useImage im).image = trayImageValues im ∧ (t.useImage im).haveImage = true ∧ (t.useImage im).heldCmds = t.heldCmds := by
  unfold Tray.useImage
  extract_lets v
  exact (Tray.sameImage_setThreshold _).trans (Tray.sameImage_noteStanding _)

theorem State.finishWrite_good (s : State) (x : Side) (im : List Host.Cell) :
    (s.finishWrite x im true).tray.image = trayImageValues im ∧ (s.finishWrite x im true).tray.haveImage = true ∧
    (s.finishWrite x im true).tray.nvmWrite = none ∧ (s.finishWrite x im true).tray.heldCmds = s.tray.heldCmds := by
  obtain ⟨himage, hhave, hheld⟩ := s.tray.useImage_leaves im
  exact ⟨himage, hhave, rfl, hheld⟩

/-! ## The steps of a write -/

/-- The state after the read-back of card `card`: where it is good the copy is valid, else it is spoilt. -/
def State.readBack (s : State) (card : Side) (len : Nat) (good : Bool) : State :=
  if good then s.onTray (fun t => (t.setNvm card { t.nvm card with valid := true }).clearFault .try_ 15 card.ix)
  else if (s.tray.nvm card).present then
    (s.spoilNvm card len).onTray (fun t => t.faultIf (!t.faulty .try_ 15 card.ix) .try_ 15 card.ix)
  else s

theorem State.sameImage_readBack (s : State) (card : Side) (len : Nat) (good : Bool) :
    s.tray.SameImage (s.readBack card len good).tray := by
  unfold State.readBack
  split
  · simp [Tray.SameImage]
  · split
    · simp [Tray.SameImage, State.spoilNvm]
    · exact ⟨rfl, rfl, rfl⟩

theorem Tray.sameImage_putImage (t : Tray) (y : Side) (w : NvmWrite) : t.SameImage (t.putImage y w) := by
  simp [Tray.SameImage, Tray.putImage]

/-- The read-back of the second card ends the write, whatever it finds (R276). -/
theorem State.continueWrite_second {w : NvmWrite} (hw : w.second = true) (ok : Bool) : s.continueWrite x w [ok] =
    ((s.readBack w.first.other w.len (ok && (s.tray.nvm w.first.other).writable)).finishWrite x w.image true, some {}) := by
  obtain ⟨first, second, image, len, req⟩ := w
  obtain rfl : second = true := hw
  rfl

/-- A first read-back that passes has the image adopted, whatever the second finds (R276). -/
theorem State.continueWrite_both {w : NvmWrite} (hw : w.second = false) (hc : (s.tray.nvm w.first).writable = true) (ok : Bool) :
    ∃ s1 : State, s.continueWrite x w [true, ok] = (s1.finishWrite x w.image true, some {}) := by
  simp only [State.continueWrite, hw, hc, Bool.and_true, Bool.not_true, Bool.false_eq_true, if_false, if_true]
  split <;> exact ⟨_, rfl⟩

/-- A first read-back that fails ends the write without the image. -/
theorem State.continueWrite_failed {w : NvmWrite} (hw : w.second = false) : s.continueWrite x w [false] =
    ((s.readBack w.first w.len false).finishWrite x w.image false, some { status := 2, code := codeOf .try_ 15 }) := by
  obtain ⟨first, second, image, len, req⟩ := w
  obtain rfl : second = false := hw
  rfl

/-! ## TRAY_IMAGE_ADOPT -/

/-- The image in the first `len` bytes of the staging buffer may be put in use (R275). -/
def Tray.adoptable (t : Tray) (x : Side) (len : Nat) : Bool :=
  trayImageOk (t.stagedImage len) (t.tmc x).keys (t.tmc x).revoked

theorem State.adopt_refused {len : Nat} (h : s.tray.adoptable x len = false) (reads : List Bool) :
    s.adopt x q len reads = (s, some (refusedBy 9)) := by
  unfold State.adopt
  extract_lets t im m v
  exact if_pos (by rw [show trayImageOk im m.keys m.revoked = false from h]; simp)

theorem State.adopt_writes {len : Nat} (hl : len ≤ 2 ^ 20) (hw : (s.tray.nvmA.writable || s.tray.nvmB.writable) = true)
    (hg : s.tray.haveImage = true → s.tray.image.generation < (trayImageValues (s.tray.stagedImage len)).generation)
    (h : s.tray.adoptable x len = true) (reads : List Bool) :
    ∃ first, (s.tray.nvm first).writable = true ∧ s.adopt x q len reads =
      (s.onTray fun t => t.putImage first { first := first, image := s.tray.stagedImage len, len := len, req := q }).continueWrite x
        { first := first, image := s.tray.stagedImage len, len := len, req := q } reads := by
  unfold State.adopt
  extract_lets t im m v useB first w
  have hok : trayImageOk im m.keys m.revoked = true := h
  have hgen : (t.haveImage && decide (v.generation ≤ t.image.generation)) = false := by
    cases hi : t.haveImage with
    | false => rfl
    | true => exact decide_eq_false (Nat.not_le.2 (hg hi))
  have hfirst : (t.nvm first).writable = true := by
    subst first useB
    revert hw
    change (t.nvmA.writable || t.nvmB.writable) = true → _
    cases hb : t.nvmB.writable <;> intro ha
    · simp at ha
      exact ha
    · split
      · exact hb
      · next hn =>
        simp at hn
        exact hn.1.1
  refine ⟨first, hfirst, ?_⟩
  rw [if_neg (by rw [hok, hgen, decide_eq_false (Nat.not_lt.2 hl)]; decide), if_neg (by rw [hfirst]; decide)]

theorem Tray.writable_putImage (t : Tray) (y : Side) (w : NvmWrite) : ((t.putImage y w).nvm y).writable = (t.nvm y).writable := by
  simp [Tray.putImage, Nvm.writable]

section
variable (hq : s.tray.canTake q = true) (hr : s.tray.role = some x) (hh : s.tray.holding = false)
  (hp : (s.tray.tmc x).present = true)
include hq hr hh hp

theorem exec_trayImageWrite {off : Nat} {data : List Byte} (hd : data.length ≤ 3968) (ho : off + data.length ≤ 2 ^ 20) :
    ∃ t, exec (.trayImageWrite q off data) s = .next t ∧ t.tray.staging = Memory.write s.tray.staging off data ∧
      t.tray.image = s.tray.image := by
  have hrun : (s.onTray fun t => t.taking q).runActive x q (.imageWrite off data) =
      ({ s with tray := { s.tray.taking q with staging := Memory.write (s.tray.taking q).staging off data } }, some {}) :=
    if_neg (by rw [decide_eq_false (Nat.not_lt.2 hd), decide_eq_false (Nat.not_lt.2 ho)]; decide)
  refine ⟨_, mgmt_ended hq hr hh hp rfl hrun (by decide), ?_, ?_⟩
  · rw [State.onTray_tray_eq, Tray.staging_respond, Tray.staging_taking]
  · rw [State.onTray_tray_eq, Tray.image_respond]
    exact Tray.image_taking _ _

theorem exec_trayImageAdopt (len : Nat) (reads : List Bool) :
    exec (.trayImageAdopt q len reads) s = .next ((s.onTray fun t => t.taking q).execute x q (.imageAdopt len reads)) := by
  have hw : s.tray.nvmWrite = none := by
    simp only [Tray.holding, Bool.or_eq_false_iff] at hh
    simpa using hh.2
  rw [exec, execTrayImageAdopt, hw]
  exact mgmt_active hq hr hh hp rfl

end

theorem Tray.adoptable_taking (t : Tray) (q : MgmtReq) (x : Side) (len : Nat) : (t.taking q).adoptable x len = t.adoptable x len := by
  obtain ⟨n, hn⟩ := t.tmc_taking q x
  rw [Tray.adoptable, Tray.adoptable, Tray.stagedImage_taking, hn]

/-- A refused TRAY_IMAGE_ADOPT. -/
theorem State.execute_adopt_refused {len : Nat} (h : s.tray.adoptable x len = false) (reads : List Bool) :
    (s.execute x q (.imageAdopt len reads)).tray.image = s.tray.image ∧
    (s.execute x q (.imageAdopt len reads)).tray.haveImage = s.tray.haveImage ∧
    (s.execute x q (.imageAdopt len reads)).tray.nvmWrite = s.tray.nvmWrite ∧
    ((s.execute x q (.imageAdopt len reads)).tray.tmc q.tmc).response = responseFrame 0x31 q.seq (refusedBy 9) := by
  have he : s.execute x q (.imageAdopt len reads) =
      s.onTray (fun t => (t.noteRefusal x (refusedBy 9)).respond q 0x31 (refusedBy 9)) := by
    rw [State.execute, State.runActive, State.adopt_refused h]
    rfl
  rw [he, State.onTray_tray_eq]
  exact ⟨by simp [Tray.noteRefusal], by simp [Tray.noteRefusal], by simp [Tray.noteRefusal], Tray.response_respond _ _ _ _⟩

section
variable {len : Nat} (hl : len ≤ 2 ^ 20) (hw : (s.tray.nvmA.writable || s.tray.nvmB.writable) = true)
  (hg : s.tray.haveImage = true → s.tray.image.generation < (trayImageValues (s.tray.stagedImage len)).generation)
include hl hw hg

/-- With both read-backs the image that may be put in use is. -/
theorem State.execute_adopt_both (h : s.tray.adoptable x len = true) (ok : Bool) :
    (s.execute x q (.imageAdopt len [true, ok])).tray.image = trayImageValues (s.tray.stagedImage len) ∧
    (s.execute x q (.imageAdopt len [true, ok])).tray.haveImage = true ∧
    (s.execute x q (.imageAdopt len [true, ok])).tray.nvmWrite = none := by
  obtain ⟨first, hfirst, hadopt⟩ := s.adopt_writes (q := q) hl hw hg h [true, ok]
  obtain ⟨s1, hs1⟩ := State.continueWrite_both (x := x) (s := s.onTray fun t => t.putImage first
      { first := first, image := s.tray.stagedImage len, len := len, req := q })
    (w := { first := first, image := s.tray.stagedImage len, len := len, req := q }) rfl
    ((Tray.writable_putImage _ _ _).trans hfirst) ok
  obtain ⟨himage, hhave, hnone, _⟩ := s1.finishWrite_good x (s.tray.stagedImage len)
  rw [State.execute_ended (cmd := .imageAdopt len _) (hadopt.trans hs1) (by decide), State.onTray_tray_eq, Tray.image_respond, Tray.haveImage_respond,
    Tray.nvmWrite_respond]
  exact ⟨himage, hhave, hnone⟩

/-- Without a read-back the write stays in progress. -/
theorem State.execute_adopt_waiting (h : s.tray.adoptable x len = true) :
    (s.execute x q (.imageAdopt len [])).tray.image = s.tray.image ∧
    (s.execute x q (.imageAdopt len [])).tray.nvmWrite.map (fun w => (w.image, w.req, w.second)) =
      some (s.tray.stagedImage len, q, false) := by
  obtain ⟨first, _, hadopt⟩ := s.adopt_writes (q := q) hl hw hg h []
  rw [State.execute, State.runActive, hadopt]
  exact ⟨(Tray.sameImage_putImage _ _ _).1, rfl⟩

/-- A first read-back that fails: no image is adopted, and the command has FAILED. -/
theorem State.execute_adopt_failed (h : s.tray.adoptable x len = true) :
    (s.execute x q (.imageAdopt len [false])).tray.image = s.tray.image ∧
    (s.execute x q (.imageAdopt len [false])).tray.haveImage = s.tray.haveImage ∧
    (s.execute x q (.imageAdopt len [false])).tray.nvmWrite = none ∧
    ((s.execute x q (.imageAdopt len [false])).tray.tmc q.tmc).response =
      responseFrame 0x31 q.seq { status := 2, code := codeOf .try_ 15 } := by
  obtain ⟨first, _, hadopt⟩ := s.adopt_writes (q := q) hl hw hg h [false]
  rw [State.execute_ended (cmd := .imageAdopt len _) (hadopt.trans (State.continueWrite_failed rfl)) (by decide), State.onTray_tray_eq, Tray.image_respond,
    Tray.haveImage_respond, Tray.nvmWrite_respond]
  obtain ⟨himage, hhave, _⟩ := (Tray.sameImage_putImage s.tray first
    { first := first, image := s.tray.stagedImage len, len := len, req := q }).trans
    (State.sameImage_readBack (s.onTray fun t => t.putImage first
      { first := first, image := s.tray.stagedImage len, len := len, req := q }) first len false)
  exact ⟨himage, hhave, rfl, Tray.response_respond _ _ _ _⟩

end

theorem exec_adopt (hq : s.tray.canTake q = true) (hr : s.tray.role = some x) (hh : s.tray.holding = false)
    (hp : (s.tray.tmc x).present = true) {len : Nat} (hl : len ≤ 2 ^ 20)
    (hw : (s.tray.nvmA.writable || s.tray.nvmB.writable) = true)
    (hg : s.tray.haveImage = true → s.tray.image.generation < (trayImageValues (s.tray.stagedImage len)).generation) :
    (∀ ok, ∃ t, exec (.trayImageAdopt q len [true, ok]) s = .next t ∧
      t.tray.image = (if s.tray.adoptable x len = true then trayImageValues (s.tray.stagedImage len) else s.tray.image) ∧
      t.tray.haveImage = (s.tray.adoptable x len || s.tray.haveImage) ∧ t.tray.nvmWrite = none) ∧
    (∃ t, exec (.trayImageAdopt q len []) s = .next t ∧ t.tray.image = s.tray.image ∧
      t.tray.nvmWrite.map (fun w => (w.image, w.req, w.second)) =
        (if s.tray.adoptable x len = true then some (s.tray.stagedImage len, q, false) else none)) ∧
    (∃ t, exec (.trayImageAdopt q len [false]) s = .next t ∧ t.tray.image = s.tray.image ∧
      t.tray.haveImage = s.tray.haveImage ∧ t.tray.nvmWrite = none ∧ (t.tray.tmc q.tmc).response =
        responseFrame 0x31 q.seq
          (if s.tray.adoptable x len = true then { status := 2, code := codeOf .try_ 15 } else refusedBy 9)) := by
  have hexec := exec_trayImageAdopt hq hr hh hp len
  have hnone : s.tray.nvmWrite = none := by simpa using (Bool.or_eq_false_iff.1 hh).2
  rw [← Tray.nvmWrite_taking _ q] at hnone
  rw [← s.tray.adoptable_taking q, ← s.tray.stagedImage_taking q, ← s.tray.image_taking q, ← s.tray.haveImage_taking q]
  have hw0 : (((s.onTray fun t => t.taking q).tray.nvmA.writable) || (s.onTray fun t => t.taking q).tray.nvmB.writable) = true := by
    simpa [Tray.taking] using hw
  have hg0 := hg
  rw [← s.tray.stagedImage_taking q, ← s.tray.image_taking q, ← s.tray.haveImage_taking q] at hg0
  generalize hs0 : (s.onTray fun t => t.taking q) = s0 at hexec hw0
  rw [show s.tray.taking q = s0.tray by rw [← hs0]; rfl] at hnone hg0 ⊢
  cases hok : s0.tray.adoptable x len with
  | false =>
    have hkept := fun reads => State.execute_adopt_refused (q := q) hok reads
    refine ⟨fun ok => ⟨_, hexec _, ?_⟩, ⟨_, hexec _, ?_⟩, ⟨_, hexec _, ?_⟩⟩
    · obtain ⟨himage, hhave, hwrite, _⟩ := hkept [true, ok]
      exact ⟨himage, hhave, hwrite.trans hnone⟩
    · obtain ⟨himage, _, hwrite, _⟩ := hkept []
      exact ⟨himage, by rw [hwrite, hnone]; rfl⟩
    · obtain ⟨himage, hhave, hwrite, hresp⟩ := hkept [false]
      exact ⟨himage, hhave, hwrite.trans hnone, hresp⟩
  | true =>
    exact ⟨fun ok => ⟨_, hexec _, State.execute_adopt_both hl hw0 hg0 hok ok⟩,
      ⟨_, hexec _, State.execute_adopt_waiting hl hw0 hg0 hok⟩, ⟨_, hexec _, State.execute_adopt_failed hl hw0 hg0 hok⟩⟩

/-! ## The switch, the hall time and the authorities -/

/-- TMC `m` with a load of `ep` armed, as its registers allow. -/
def Tmc.armLoad (m : Tmc) (ep : Nat) : Tmc := { m with time := ({ m.time with load := ep }).armLoad.1 }

/-- The tray with a load of `ep` armed on TMC `x` and its partner. -/
def Tray.armLoads (t : Tray) (x : Side) (ep : Nat) : Tray :=
  (t.onTmc x fun m => m.armLoad ep).onTmc x.other fun m => if m.present then m.armLoad ep else m

theorem Tray.timeLoad_arms {t : Tray} {ep : Nat} (hv : (t.tmc x).time.valid = false) (hs : ep % 1000000 = 0) (he : ep < 2 ^ 56) :
    t.timeLoad x ep = (t.armLoads x ep, {}) :=
  if_neg (by rw [hv, show ep % second = 0 from hs, decide_eq_false (Nat.not_le.2 he)]; decide)

theorem Tray.time_armLoads {t : Tray} {ep : Nat} (hv : (t.tmc x).time.valid = false) (hs : ep % 1000000 = 0) :
    ((t.armLoads x ep).tmc x).time.load = ep ∧ ((t.armLoads x ep).tmc x).time.arm = true := by
  have htmc : (t.armLoads x ep).tmc x = (t.tmc x).armLoad ep := by cases x <;> simp [Tray.armLoads, Side.other]
  rw [htmc]
  simp [Tmc.armLoad, TimeBase.armLoad, hv, second, hs]

section
variable (hq : s.tray.canTake q = true) (hr : s.tray.role = some x) (hh : s.tray.holding = false)
  (hp : (s.tray.tmc x).present = true)
include hq hr hh hp

theorem exec_switchUpstream {port : Nat} (hport : port ≤ 1) (hm : s.tray.modeInForce = false) :
    ∃ t, exec (.switchUpstream q port) s = .next t ∧ t.tray.activeUp = port ∧ ∀ n : SlotId, (t.tray.slot n).upstream = port := by
  have hm' : (s.onTray fun t => t.taking q).tray.modeInForce = false := by simpa [Tray.taking] using hm
  have hrun : (s.onTray fun t => t.taking q).runActive x q (.switchUpstream port) =
      (((s.onTray fun t => t.taking q).moveUpstream port).onTray
        (fun t => t.faultIf (port == 1 && (s.onTray fun t => t.taking q).tray.activeUp != 1) .try_ 14 noInstance), some {}) := by
    simp only [State.runActive, State.switchUpstream, hm', decide_eq_false (Nat.not_lt.2 hport), Bool.or_self,
      Bool.false_eq_true, if_false]
  refine ⟨_, mgmt_ended hq hr hh hp rfl hrun (by decide), ?_, fun n => ?_⟩
  · simp [Tray.respond, State.tray_moveUpstream]
  · rw [State.onTray_tray_eq, Tray.slot_respond, State.onTray_tray_eq, Tray.slot_faultIf_frame, State.tray_moveUpstream,
      Tray.slot, Bank.get_updateMany_range, if_pos n.isLt]

theorem exec_timeLoad {ep : Nat} (hv : (s.tray.tmc x).time.valid = false) (hs : ep % 1000000 = 0) (he : ep < 2 ^ 56) :
    ∃ t, exec (.timeLoad q ep) s = .next t ∧ (t.tray.tmc x).time.load = ep ∧ (t.tray.tmc x).time.arm = true := by
  obtain ⟨n, hn⟩ := s.tray.tmc_taking q x
  have hv' : ((s.tray.taking q).tmc x).time.valid = false := by rw [hn]; exact hv
  have hrun : (s.onTray fun t => t.taking q).runActive x q (.timeLoad ep) =
      ({ s with tray := (s.tray.taking q).armLoads x ep }, some {}) := by
    unfold State.runActive
    dsimp only
    rw [State.onTray_tray_eq, Tray.timeLoad_arms hv' hs he]
    rfl
  obtain ⟨r, k, j, hresp⟩ := Tray.tmc_respond ((s.tray.taking q).armLoads x ep) q (SvcCmd.timeLoad ep).opcode {} x
  refine ⟨_, mgmt_ended hq hr hh hp rfl hrun (by decide), ?_⟩
  obtain ⟨hload, harm⟩ := Tray.time_armLoads hv' hs
  exact ⟨(congrArg (fun m : Tmc => m.time.load) hresp).trans hload, (congrArg (fun m : Tmc => m.time.arm) hresp).trans harm⟩

end

/-- The authorities of a TMC with authority `i` installed or removed. -/
def putCa (i : Nat) (cert : Option (List Byte)) (b : Bank (List Byte)) : Bank (List Byte) :=
  match cert with | some c => b.set i c | none => b.erase i

theorem Tray.setCa_eq {t : Tray} (hq : q.port = .switchPort) (i : Fin 4) (cert : Option (List Byte))
    (hc : ∀ c, cert = some c → c.length ≤ 3000) :
    t.setCa q i cert = ((t.onTmc .a fun m => if m.present then { m with cas := putCa i cert m.cas } else m).onTmc .b
      fun m => if m.present then { m with cas := putCa i cert m.cas } else m, {}) := by
  have hi : ¬ 3 < i.val := by omega
  cases cert with
  | none => exact if_neg (by simp [hq, hi])
  | some c => exact if_neg (by simp [hq, hi, hc c rfl])

theorem Tray.cas_setCa {t : Tray} (hq : q.port = .switchPort) (hp : (t.tmc x).present = true) (i : Fin 4) (cert : Option (List Byte))
    (hc : ∀ c, cert = some c → c.length ≤ 3000) :
    (t.setCa q i cert).2 = {} ∧ ((t.setCa q i cert).1.tmc x).cas = putCa i cert (t.tmc x).cas := by
  rw [Tray.setCa_eq hq i cert hc]
  refine ⟨rfl, ?_⟩
  cases x <;> simp [hp]

section
variable (hq : s.tray.canTake q = true) (hr : s.tray.role = some x) (hh : s.tray.holding = false)
  (hp : (s.tray.tmc x).present = true)
include hq hr hh hp

theorem mgmt_ca {cmd : SvcCmd} {i : Fin 4} {cert : Option (List Byte)} (hport : q.port = .switchPort)
    (hc : ∀ c, cert = some c → c.length ≤ 3000) (he : cmd.either = false)
    (hrun : ∀ s : State, s.runActive x q cmd = s.onTrayWith (s.tray.setCa q i cert)) :
    ∃ t, mgmt q cmd s = .next t ∧ (t.tray.tmc x).cas = putCa i cert (s.tray.tmc x).cas := by
  obtain ⟨n, hn⟩ := s.tray.tmc_taking q x
  obtain ⟨hans, hcas⟩ := Tray.cas_setCa (t := s.tray.taking q) hport ((Tray.present_taking _ _ _).trans hp) i cert hc
  have hrun' : (s.onTray fun t => t.taking q).runActive x q cmd =
      ({ s with tray := ((s.tray.taking q).setCa q i cert).1 }, some ((s.tray.taking q).setCa q i cert).2) := hrun _
  rw [hans] at hrun'
  refine ⟨_, mgmt_ended hq hr hh hp he hrun' (by decide), ?_⟩
  obtain ⟨r, k, j, hresp⟩ := Tray.tmc_respond ((s.tray.taking q).setCa q i cert).1 q cmd.opcode {} x
  exact (congrArg Tmc.cas hresp).trans (hcas.trans (by rw [hn]))

theorem exec_caInstall {i : Fin 4} {cert : List Byte} (hport : q.port = .switchPort) (hc : cert.length ≤ 3000) :
    ∃ t, exec (.caInstall q i cert) s = .next t ∧ (t.tray.tmc x).cas.get [] i = cert := by
  obtain ⟨t, ht, hcas⟩ := mgmt_ca (cmd := .caInstall i cert) hq hr hh hp hport (i := i) (cert := some cert)
    (fun c h => by rw [← Option.some.inj h]; exact hc) rfl fun _ => rfl
  exact ⟨t, ht, by rw [hcas]; exact Bank.get_set_self _ _ _ _⟩

theorem exec_caRemove {i : Fin 4} (hport : q.port = .switchPort) :
    ∃ t, exec (.caRemove q i) s = .next t ∧ Bank.look (t.tray.tmc x).cas.cells i = none := by
  obtain ⟨t, ht, hcas⟩ := mgmt_ca (cmd := .caRemove i) hq hr hh hp hport (i := i) (cert := none) nofun rfl fun _ => rfl
  refine ⟨t, ht, ?_⟩
  rw [hcas, putCa, Bank.erase, Bank.look_filter]
  exact if_pos rfl

end

/-! ## A write that goes on -/

theorem State.runHeld_none (h : s.tray.heldCmds = []) (x : Side) : s.runHeld x = s.onTray fun t => { t with heldCmds := [] } := by
  rw [State.runHeld, h]
  rfl

theorem State.resumeWrite_ended {w : NvmWrite} {reads : List Bool} {s1 : State} {ans : Answer}
    (h : s.continueWrite x w reads = (s1, some ans)) : s.resumeWrite x w reads =
      if (s1.tray.respond w.req 0x31 ans).handing then s1.onTray fun t => t.respond w.req 0x31 ans
      else (s1.onTray fun t => t.respond w.req 0x31 ans).runHeld x := by
  rw [State.resumeWrite, h]
  rfl

theorem exec_trayImageAdopt_second {w : NvmWrite} (hn : s.tray.nvmWrite = some w) (hr : s.tray.role = some x)
    (hp : (s.tray.tmc x).present = true) (hheld : s.tray.heldCmds = []) (hw : w.second = true) (len : Nat) (ok : Bool) :
    ∃ t, exec (.trayImageAdopt w.req len [ok]) s = .next t ∧ t.tray.nvmWrite = none ∧ t.tray.haveImage = true ∧
      t.tray.image = trayImageValues w.image := by
  refine ⟨s.resumeWrite x w [ok], by
    simp only [exec, execTrayImageAdopt, hn, hr, if_true, hp]
    exact occurs_true _ _, ?_⟩
  rw [State.resumeWrite_ended (State.continueWrite_second hw ok)]
  generalize hs1 : s.readBack w.first.other w.len (ok && (s.tray.nvm w.first.other).writable) = s1
  have hheld1 : s1.tray.heldCmds = [] := by
    rw [← hs1]
    exact (s.sameImage_readBack _ _ _).2.2.trans hheld
  obtain ⟨himage, hhave, hnone, hkeep⟩ := s1.finishWrite_good x w.image
  generalize s1.finishWrite x w.image true = s2 at himage hhave hnone hkeep
  rw [State.runHeld_none (by rw [State.onTray_tray_eq, Tray.heldCmds_respond, hkeep, hheld1])]
  split <;> simp [himage, hhave, hnone]

/-- Settles O46. -/
theorem trayWideCommandsTakeEffect : Obligations.TrayWideCommandsTakeEffect := by
  unfold Obligations.TrayWideCommandsTakeEffect
  refine ⟨?_, fun x s w len ok hn hr hp hheld hw => exec_trayImageAdopt_second hn hr hp hheld hw len ok⟩
  intro q x s u hq hr hh hp
  exact ⟨fun off data hd ho => exec_trayImageWrite hq hr hh hp hd ho, fun len hl hw hg => exec_adopt hq hr hh hp hl hw hg,
    fun port hport hm => exec_switchUpstream hq hr hh hp hport hm, fun ep hv hs he => exec_timeLoad hq hr hh hp hv hs he,
    fun i cert hport hc => ⟨exec_caInstall hq hr hh hp hport hc, exec_caRemove hq hr hh hp hport⟩⟩

end Sys2Proof.Machine
end

section
/-! LEMMAS. The role of the active TMC, its heartbeats and the handover (chapter 16). Settles O47. -/

namespace Sys2Proof.Machine

-- In order, not in parallel: every elaborator thread that waits for another holds a stack within the check's memory limit.
set_option Elab.async false

variable {s : State} {x : Side}

/-! ## What the other duties of a tray leave of the handover and of the faults of the role -/

/-- Of `t` and `u` the handover, the commands held, the write in progress and the faults F-SVC-01 to F-SVC-06 are the same. -/
def Tray.SameDuty (t u : Tray) : Prop :=
  u.hand = t.hand ∧ u.heldCmds = t.heldCmds ∧ u.nvmWrite = t.nvmWrite ∧
  ∀ k, faultKey .svc 1 0 ≤ k → k < faultKey .svc 7 0 → (k ∈ u.inForce ↔ k ∈ t.inForce)

/-- The fault with key `k` is none of F-SVC-01 to F-SVC-06. -/
def OtherDuty (k : Nat) : Prop := k < faultKey .svc 1 0 ∨ faultKey .svc 7 0 ≤ k

theorem Tray.SameDuty.refl (t : Tray) : t.SameDuty t := ⟨rfl, rfl, rfl, fun _ _ _ => Iff.rfl⟩

theorem Tray.SameDuty.trans {t u v : Tray} (h : t.SameDuty u) (k : u.SameDuty v) : t.SameDuty v := by
  obtain ⟨hhand, hheld, hwrite, hforce⟩ := h
  obtain ⟨khand, kheld, kwrite, kforce⟩ := k
  exact ⟨khand.trans hhand, kheld.trans hheld, kwrite.trans hwrite, fun n h1 h7 => (kforce n h1 h7).trans (hforce n h1 h7)⟩

theorem Tray.SameDuty.foldl {α : Type} {f : Tray → α → Tray} {l : List α} (h : ∀ t, ∀ a ∈ l, Tray.SameDuty t (f t a)) (t : Tray) :
    t.SameDuty (l.foldl f t) := by
  induction l generalizing t with
  | nil => exact .refl t
  | cons a l ih =>
    exact (h t a List.mem_cons_self).trans (ih (fun t b hb => h t b (List.mem_cons_of_mem a hb)) (f t a))

theorem Tray.sameDuty_fault {g : Tag} {nn i : Nat} (h : OtherDuty (faultKey g nn i)) (t : Tray) : t.SameDuty (t.fault g nn i) := by
  refine ⟨rfl, rfl, rfl, fun k h1 h7 => (mem_insertOnce _ _ _).trans (or_iff_right fun e => ?_)⟩
  subst e
  exact h.elim (fun h => absurd h (Nat.not_lt.2 h1)) (fun h => absurd h7 (Nat.not_lt.2 h))

theorem Tray.sameDuty_faultIf {g : Tag} {nn i : Nat} (h : OtherDuty (faultKey g nn i)) (t : Tray) (b : Bool) :
    t.SameDuty (t.faultIf b g nn i) := by
  cases b
  · exact .refl t
  · exact Tray.sameDuty_fault h t

theorem Tray.sameDuty_clearFault {g : Tag} {nn i : Nat} (h : OtherDuty (faultKey g nn i)) (t : Tray) :
    t.SameDuty (t.clearFault g nn i) := by
  refine ⟨rfl, rfl, rfl, fun k h1 h7 => (mem_removeAll _ _ _).trans (and_iff_left fun e => ?_)⟩
  subst e
  exact h.elim (fun h => absurd h (Nat.not_lt.2 h1)) (fun h => absurd h7 (Nat.not_lt.2 h))

theorem Tray.sameDuty_setTmc (t : Tray) (y : Side) (m : Tmc) : t.SameDuty (t.setTmc y m) := by
  simp [Tray.SameDuty]

theorem Tray.sameDuty_setNvm (t : Tray) (y : Side) (m : Nvm) : t.SameDuty (t.setNvm y m) := by
  cases y <;> exact .refl t

theorem Tray.sameDuty_respond (t : Tray) (q : MgmtReq) (op : Nat) (a : Answer) : t.SameDuty (t.respond q op a) :=
  Tray.sameDuty_setTmc _ _ _

theorem Tray.sameDuty_setThreshold (t : Tray) : t.SameDuty t.setThreshold := by
  unfold Tray.setThreshold
  split <;> exact .refl t

theorem otherDuty_try {nn i : Nat} (hnn : nn ≤ 15) (hi : i < 2 ^ 16) : OtherDuty (faultKey .try_ nn i) :=
  .inl (by simp only [faultKey, codeOf, tagChapter]; omega)

theorem otherDuty_noStandby (y : Side) : OtherDuty (faultKey .svc 7 y.ix) :=
  .inr (by simp only [faultKey]; omega)

theorem Tray.sameDuty_noteStanding (t : Tray) : t.SameDuty t.noteStanding := by
  unfold Tray.noteStanding
  split
  · refine (Tray.sameDuty_faultIf (otherDuty_try (by decide) (by decide)) t _).trans (Tray.SameDuty.foldl (fun t n hn => ?_) _)
    have hkey : OtherDuty (faultKey .try_ 13 n) := otherDuty_try (by decide) (by have := List.mem_range.1 hn; omega)
    split
    · exact Tray.sameDuty_faultIf hkey t _
    · exact Tray.sameDuty_clearFault hkey t
  · exact .refl t

theorem Tray.sameDuty_checkStandby (t : Tray) : t.SameDuty t.checkStandby := by
  unfold Tray.checkStandby
  split
  · exact .refl t
  · next x _ =>
    extract_lets y t0
    have h0 : t.SameDuty t0 := Tray.sameDuty_clearFault (otherDuty_noStandby x) t
    split
    · exact h0.trans (Tray.sameDuty_clearFault (otherDuty_noStandby y) t0)
    · exact h0.trans (Tray.sameDuty_faultIf (otherDuty_noStandby y) t0 _)

theorem Tray.sameDuty_takeRole (t : Tray) (x : Side) : t.SameDuty (t.takeRole x) := by
  unfold Tray.takeRole
  extract_lets t1 t2 ring t3
  have h3 : t.SameDuty t3 :=
    ((Tray.sameDuty_setTmc t x _).trans (Tray.sameDuty_setTmc t1 x.other _)).trans (.refl t2)
  exact ((h3.trans (Tray.sameDuty_setThreshold t3)).trans (Tray.sameDuty_noteStanding _)).trans (Tray.sameDuty_checkStandby _)

theorem Tray.sameDuty_answerSwaps (t : Tray) (a : Answer) : t.SameDuty (t.answerSwaps a) :=
  Tray.SameDuty.foldl (fun t q _ => by
    split
    · exact Tray.sameDuty_respond _ _ _ _
    · exact .refl t) t

theorem Tray.sameDuty_readNvm (t : Tray) : t.SameDuty t.readNvm := by
  have hkey : ∀ nn, nn ≤ 15 → OtherDuty (faultKey .try_ nn noInstance) := fun nn h => otherDuty_try h (by decide)
  have hbad : ∀ y : Side, OtherDuty (faultKey .try_ 15 y.ix) := fun y => otherDuty_try (by decide) (by cases y <;> decide)
  unfold Tray.readNvm
  extract_lets va vb ga gb found t0 none7 src bad t1 t2 t3
  have h0 : t.SameDuty t0 := (Tray.sameDuty_setNvm t .a _).trans (Tray.sameDuty_setNvm _ .b _)
  split
  · exact h0.trans (Tray.sameDuty_faultIf (hkey 7 (by decide)) t0 _)
  · have h1 : t0.SameDuty t1 := Tray.sameDuty_clearFault (hkey 7 (by decide)) t0
    have h2 : t1.SameDuty t2 := Tray.sameDuty_faultIf (hkey 6 (by decide)) t1 _
    have h3 : t2.SameDuty t3 := Tray.sameDuty_faultIf (hbad bad) t2 _
    have h4 : t.SameDuty t3 := ((h0.trans h1).trans h2).trans h3
    clear_value t3
    have h5 : t3.SameDuty { t3 with image := trayImageValues src, imageBytes := src, haveImage := true } :=
      ⟨rfl, rfl, rfl, fun _ _ _ => Iff.rfl⟩
    exact (h4.trans h5).trans (Tray.sameDuty_noteStanding _)

theorem State.sameDuty_rewriteNvm (s : State) (y : Side) (ok : Bool) : s.tray.SameDuty (s.rewriteNvm y ok).tray := by
  have hbad : OtherDuty (faultKey .try_ 15 y.ix) := otherDuty_try (by decide) (by cases y <;> decide)
  cases ok
  · exact (Tray.sameDuty_setNvm s.tray y _).trans (Tray.sameDuty_faultIf hbad _ _)
  · exact (Tray.sameDuty_setNvm s.tray y _).trans (Tray.sameDuty_clearFault hbad _)

theorem State.sameDuty_readNvm (s : State) (ok : Bool) : s.tray.SameDuty (s.readNvm ok).tray := by
  have hread := s.tray.sameDuty_readNvm
  unfold State.readNvm
  extract_lets s1 t bad
  split
  · exact hread
  · split
    · exact hread.trans (s1.sameDuty_rewriteNvm bad ok)
    · exact hread

/-- A fault of F-SVC-01 to F-SVC-06 of a TMC stays in force. -/
theorem Tray.SameDuty.faulty {t u : Tray} (h : t.SameDuty u) {nn : Nat} (h1 : 1 ≤ nn) (h6 : nn ≤ 6) {y : Side}
    (hf : t.faulty .svc nn y.ix = true) : u.faulty .svc nn y.ix = true := by
  have hy : y.ix ≤ 1 := by cases y <;> decide
  obtain ⟨_, _, _, hforce⟩ := h
  simp only [Tray.faulty, List.contains_iff_mem] at hf ⊢
  exact (hforce _ (by simp only [faultKey, codeOf, tagChapter]; omega) (by simp only [faultKey, codeOf, tagChapter]; omega)).2 hf

/-! ## The role is granted and taken -/

theorem Tray.ready_takeRole (t : Tray) (x : Side) : ((t.takeRole x).tmc x.other).ready = false := by
  simp only [Tray.takeRole, Tray.checkStandby_tmc, Tray.noteStanding_tmc, Tray.setThreshold_tmc]
  cases x <;> rfl

theorem exec_roleGrant (hs : s.tray.standby = true) (he : s.tray.everHeld = false) (hp : (s.tray.tmc x).present = true)
    (hr : (s.tray.tmc x).ready = true) (ha : x = .b → s.tray.tmcA.ready = false) :
    exec (.roleGrant x) s = .next { s with tray := s.tray.takeRole x } := by
  have hfirst : (x == .a || !(s.tray.tmcA.present && s.tray.tmcA.ready)) = true := by
    cases x with
    | a => rfl
    | b => simp [ha rfl]
  simp only [exec, execRoleGrant, hs, he, hp, hr, hfirst]
  exact occurs_true _ _

theorem Tray.failWrite_leaves (t : Tray) : t.failWrite.hand = t.hand ∧ t.failWrite.heldCmds = t.heldCmds ∧
    t.failWrite.nvmWrite = none ∧ t.failWrite.inForce = t.inForce := by
  unfold Tray.failWrite
  split
  next h => exact ⟨rfl, rfl, h, rfl⟩
  next w h =>
    extract_lets t1
    split
    · simp [Tray.respond, t1]
    · exact ⟨rfl, rfl, rfl, rfl⟩

theorem State.failover_leaves (s : State) (y : Side) (ok : Bool) :
    (s.failover y ok).tray.hand = .none ∧ (s.failover y ok).tray.heldCmds = [] ∧ (s.failover y ok).tray.nvmWrite = none ∧
    (s.failover y ok).tray.faulty .svc 2 y.ix = true := by
  unfold State.failover
  extract_lets t lost t1 t2 t3 ring t4
  have h2 : t2.hand = .none ∧ t2.heldCmds = [] := by
    subst t2
    split <;> exact ⟨rfl, rfl⟩
  have h3 : t2.SameDuty t3 := (Tray.sameDuty_setTmc t2 y _).trans (Tray.sameDuty_takeRole _ y)
  obtain ⟨hhand, hheld⟩ := h2
  obtain ⟨h3hand, h3held, _, _⟩ := h3
  obtain ⟨whand, wheld, wnone, wforce⟩ := (t4.fault .svc 2 y.ix).failWrite_leaves
  have hend : (t4.fault .svc 2 y.ix).failWrite.SameDuty
      ((({ s with tray := (t4.fault .svc 2 y.ix).failWrite }).readNvm ok).onTray fun t => t.answerSwaps {}).tray :=
    (State.sameDuty_readNvm _ ok).trans (Tray.sameDuty_answerSwaps _ _)
  have hfault : (t4.fault .svc 2 y.ix).failWrite.faulty .svc 2 y.ix = true := by
    rw [Tray.faulty, wforce]
    exact t4.faulty_fault_self .svc 2 y.ix
  have hsvc2 := hend.faulty (by decide) (by decide) hfault
  obtain ⟨ehand, eheld, ewrite, _⟩ := hend
  exact ⟨ehand.trans (whand.trans (h3hand.trans hhand)), eheld.trans (wheld.trans (h3held.trans hheld)), ewrite.trans wnone,
    hsvc2⟩

theorem Side.other_other (x : Side) : x.other.other = x := by cases x <;> rfl

theorem exec_roleFailover (hs : s.tray.standby = true) (hr : s.tray.role = some x.other) (he : s.tray.everHeld = true)
    (ha : 1000 ≤ s.tray.aliveAge) (hp : (s.tray.tmc x).present = true) (hready : (s.tray.tmc x).ready = true) (ok : Bool) :
    exec (.roleFailover ok) s = .next (s.failover x ok) := by
  have hsucc : s.tray.successor = some x := by rw [Tray.successor, hr]; exact congrArg some (Side.other_other x)
  simp only [exec, execRoleFailover, hsucc, hs, he, decide_eq_true ha, hp, hready]
  exact occurs_true _ _

theorem exec_aliveToggle (hr : s.tray.role = some x) (hp : (s.tray.tmc x).present = true) :
    ∃ t, exec .aliveToggle s = .next t ∧ t.tray.alive = (!s.tray.alive) ∧ t.tray.aliveAge = 0 :=
  ⟨_, by simp only [exec, execAliveToggle, hr, hp]; exact occurs_true _ _, rfl, rfl⟩

/-! ## Heartbeats -/

theorem Tray.handAt_checkStandby (t : Tray) : t.checkStandby.handAt = t.handAt := by
  unfold Tray.checkStandby
  split
  · rfl
  · dsimp only
    split <;> simp

/-- The tray when TMC `x` has sent its heartbeat. -/
def Tray.beat (t : Tray) (x : Side) : Tray :=
  (t.onTmc x fun m => { m with sentAt := some (t.tmc x).time.epoch, swapReq := none }).onTmc x.other
    fun p => if p.present then { p with rx := some (t.mirrorOf x) } else p

theorem Tray.beat_leaves (t : Tray) (x : Side) : ((t.beat x).tmc x).sentAt = some (t.tmc x).time.epoch ∧
    ((t.tmc x.other).present = true → ((t.beat x).tmc x.other).rx = some (t.mirrorOf x)) := by
  unfold Tray.beat
  cases x
  · exact ⟨by simp [Side.other], fun h => by simp [Side.other] at h; simp [Side.other, h]⟩
  · exact ⟨by simp [Side.other], fun h => by simp [Side.other] at h; simp [Side.other, h]⟩

theorem exec_heartbeatSend (hs : s.tray.standby = true) (hb : (s.tray.tmc x).beating = true)
    (he : (s.tray.tmc x).time.epoch % 10000 = 5000) (hn : (s.tray.tmc x).sentAt ≠ some (s.tray.tmc x).time.epoch) :
    ∃ t, exec (.heartbeatSend x) s = .next t ∧ (t.tray.tmc x).sentAt = some (s.tray.tmc x).time.epoch ∧
      ((s.tray.tmc x.other).present = true → (t.tray.tmc x.other).rx = some (s.tray.mirrorOf x)) ∧
      ((s.tray.tmc x).swapReq = some (s.tray.tmc x).roleGen → s.tray.hand = .none → t.tray.hand = .scheduled ∧
        t.tray.handAt = (s.tray.tmc x).time.epoch + 10000) := by
  have hexec : exec (.heartbeatSend x) s = .next { s with tray :=
      (if (s.tray.tmc x).swapReq == some (s.tray.tmc x).roleGen && s.tray.hand == .none
        then { s.tray.beat x with hand := .scheduled, handAt := (s.tray.tmc x).time.epoch + 10000 }
        else s.tray.beat x).checkStandby } := by
    simp only [exec, execHeartbeatSend, hs, hb, decide_eq_true he, bne_iff_ne.2 hn]
    exact occurs_true _ _
  obtain ⟨hsent, hrx⟩ := s.tray.beat_leaves x
  refine ⟨_, hexec, ?_, fun hp => ?_, fun hswap hhand => ?_⟩
  · rw [Tray.checkStandby_tmc]
    split
    · exact (congrArg Tmc.sentAt (Tray.tmc_congr rfl rfl x)).trans hsent
    · exact hsent
  · rw [Tray.checkStandby_tmc]
    split
    · exact (congrArg Tmc.rx (Tray.tmc_congr rfl rfl x.other)).trans (hrx hp)
    · exact hrx hp
  · rw [if_pos (by simp [hswap, hhand])]
    exact ⟨(Tray.sameDuty_checkStandby _).1, Tray.handAt_checkStandby _⟩

/-- The certificate store of TMC `x` is not the one that the heartbeat `h` names. -/
def Tray.storeDiffers (t : Tray) (x : Side) (h : Mirror) : Bool := h.caHash != Config.caHash (t.tmc x).store

/-- The heartbeat `h` does not match what TMC `x` has (R655). -/
def Tray.mismatches (t : Tray) (x : Side) (h : Mirror) : Bool :=
  t.storeDiffers x h || (match h.trayGen with | some g => !t.hasCopy g | none => false)

/-- The tray when the standby TMC `x` has taken the heartbeat `h` as its state. -/
def Tray.follow (t : Tray) (x : Side) (h : Mirror) : Tray :=
  let u := (t.clearFault .svc 1 x.ix).setTmc x ((t.tmc x).takeMirror h (t.mismatches x h) (t.storeDiffers x h))
  if t.mismatches x h then u.faultIf (!(t.tmc x).mismatch) .svc 8 x.ix else u.clearFault .svc 8 x.ix

/-- The tray when TMC `x` has heard its partner's heartbeat `h` and keeps its own state. -/
def Tray.hear (t : Tray) (x : Side) (h : Mirror) : Tray :=
  let u := (t.clearFault .svc 1 x.ix).onTmc x fun m => { m with rx := none, missed := 0 }
  if t.role == some x && h.wantStore then u.onTmc x.other fun p => { p with cas := (t.tmc x).cas } else u

theorem Tray.tmc_follow (t : Tray) (x : Side) (h : Mirror) :
    (t.follow x h).tmc x = (t.tmc x).takeMirror h (t.mismatches x h) (t.storeDiffers x h) := by
  unfold Tray.follow
  extract_lets u
  split <;> simp [u]

theorem Tray.tmc_hear (t : Tray) (x : Side) (h : Mirror) :
    ((t.hear x h).tmc x).rx = none ∧ ((t.hear x h).tmc x).missed = 0 := by
  have hother : x ≠ x.other := by cases x <;> decide
  unfold Tray.hear
  extract_lets u
  split <;> simp [u, hother]

theorem exec_heartbeatReceive (hs : s.tray.standby = true) {h : Mirror} (hrx : (s.tray.tmc x).rx = some h)
    (hp : (s.tray.tmc x).present = true) (hc : (s.tray.tmc x).checked = true) :
    exec (.heartbeatReceive x) s = .next { s with tray :=
      (if h.active && s.tray.role != some x then s.tray.follow x h else s.tray.hear x h).checkStandby } := by
  simp only [exec, execHeartbeatReceive, hrx, hs, hp, hc]
  exact occurs_true _ _

theorem heartbeatReceive_leaves (hs : s.tray.standby = true) {h : Mirror} (hrx : (s.tray.tmc x).rx = some h)
    (hp : (s.tray.tmc x).present = true) (hc : (s.tray.tmc x).checked = true) :
    ∃ t, exec (.heartbeatReceive x) s = .next t ∧ (t.tray.tmc x).rx = none ∧ (t.tray.tmc x).missed = 0 ∧
      (h.active = true → s.tray.role ≠ some x → (t.tray.tmc x).mirror = some h ∧ (t.tray.tmc x).roleGen = h.roleGen) := by
  refine ⟨_, exec_heartbeatReceive hs hrx hp hc, ?_⟩
  rw [Tray.checkStandby_tmc]
  split
  · rw [Tray.tmc_follow]
    exact ⟨rfl, rfl, fun _ _ => ⟨rfl, rfl⟩⟩
  · next hn =>
    obtain ⟨hnone, hmissed⟩ := s.tray.tmc_hear x h
    exact ⟨hnone, hmissed, fun ha hr => absurd (by simp [ha, hr]) hn⟩

theorem exec_heartbeatLost (hs : s.tray.standby = true) (hp : (s.tray.tmc x).present = true)
    (hc : (s.tray.tmc x).checked = true) (hm : 3 ≤ (s.tray.tmc x).missed) (hrx : (s.tray.tmc x).rx = none)
    (hf : s.tray.faulty .svc 1 x.ix = false) :
    ∃ t, exec (.heartbeatLost x) s = .next t ∧ t.tray.faulty .svc 1 x.ix = true :=
  ⟨_, by
    simp only [exec, execHeartbeatLost, hs, hp, hc, decide_eq_true hm, hrx, hf]
    exact occurs_true _ _,
    (Tray.sameDuty_checkStandby _).faulty (nn := 1) (by decide) (by decide) (Tray.faulty_fault_self _ _ _ _)⟩

/-! ## The handover (Table SVC-2) -/

theorem exec_handover (hs : s.tray.standby = true) (hr : s.tray.role = some x) {s1 : State}
    (h : s.handoverStep x (s.tray.tmc x).time.epoch = some s1) : exec .handover s = .next s1 := by
  simp only [exec, execHandover, hr, h, hs]
  exact occurs_true _ _

theorem Tray.refuseHandover_leaves (t : Tray) (x : Side) :
    (t.refuseHandover x).hand = .none ∧ (t.refuseHandover x).faulty .svc 3 x.ix = true := by
  have h := Tray.sameDuty_answerSwaps (({ t with hand := .none, handMsg := none }).fault .svc 3 x.ix) (refusedBy 3)
  exact ⟨h.1, h.faulty (by decide) (by decide) (Tray.faulty_fault_self _ _ _ _)⟩

/-- The steps of the handover at H − 100 (R660, R680). -/
theorem State.handoverStep_scheduled {e : Nat} (hh : s.tray.hand = .scheduled) (he : s.tray.handAt ≤ e + 100) :
    s.handoverStep x e =
      if s.tray.nvmWrite.isSome then
        if s.tray.handDefer then none else some { s with tray := { s.tray with handDefer := true } }
      else if (s.tray.tmc x.other).present && (s.tray.tmc x.other).ready then some { s with tray := { s.tray with hand := .checked } }
      else some { s with tray := s.tray.refuseHandover x } := by
  simp only [State.handoverStep, hh, if_neg (Nat.not_lt.2 he)]

theorem State.handoverStep_checked {e : Nat} (hh : s.tray.hand = .checked) (he : s.tray.handAt ≤ e + 80)
    (hr : s.tray.ring.sweeping = false) :
    s.handoverStep x e = some { s with tray := { s.tray with hand := .sent, handMsg := some (s.tray.mirrorOf x) } } := by
  simp only [State.handoverStep, hh]
  exact if_neg (by simp [hr, he])

theorem State.handoverStep_acked {e : Nat} (hh : s.tray.hand = .acked) (he : s.tray.handAt ≤ e + 50) :
    s.handoverStep x e = some { s with tray := s.tray.handOver x.other } := by
  simp only [State.handoverStep, hh]
  exact if_neg (Nat.not_lt.2 he)

theorem State.handoverStep_moved {e : Nat} (hh : s.tray.hand = .moved) (he : s.tray.handAt ≤ e) (hheld : s.tray.heldCmds = []) :
    s.handoverStep x e = some { s with tray := { ({ s.tray with hand := .none }).answerSwaps {} with heldCmds := [] } } := by
  have hheld' : (({ s with tray := { s.tray with hand := .none } }).onTray fun t => t.answerSwaps {}).tray.heldCmds = [] :=
    (Tray.sameDuty_answerSwaps _ _).2.1.trans hheld
  simp only [State.handoverStep, hh, if_neg (Nat.not_lt.2 he)]
  rw [State.runHeld_none hheld']
  rfl

theorem exec_handoverMessage {h : Mirror} (hr : s.tray.role = some x) (hh : s.tray.hand = .sent) (hm : s.tray.handMsg = some h)
    (hp : (s.tray.tmc x.other).present = true) (hc : (s.tray.tmc x.other).checked = true)
    (he : (s.tray.tmc x.other).time.epoch + 55 ≤ s.tray.handAt) :
    ∃ t, exec .handoverMessage s = .next t ∧ t.tray.hand = .acked ∧ (t.tray.tmc x.other).mirror = some h := by
  have hexec : exec .handoverMessage s = .next { s with tray := { s.tray.onTmc x.other fun m =>
      { m with mirror := some h, roleGen := h.roleGen, time := m.time.takeTime h } with hand := .acked } } := by
    simp only [exec, execHandoverMessage, hr, hm, hh, hp, hc, decide_eq_true he]
    exact occurs_true _ _
  refine ⟨_, hexec, rfl, ?_⟩
  exact (congrArg Tmc.mirror (Tray.tmc_congr (t := s.tray.onTmc x.other fun m =>
    { m with mirror := some h, roleGen := h.roleGen, time := m.time.takeTime h }) rfl rfl x.other)).trans (by simp)

theorem handover_scheduled (hs : s.tray.standby = true) (hr : s.tray.role = some x) (hh : s.tray.hand = .scheduled)
    (he : s.tray.handAt ≤ (s.tray.tmc x).time.epoch + 100) (hw : s.tray.nvmWrite = none) :
    ((s.tray.tmc x.other).present = true → (s.tray.tmc x.other).ready = true →
      ∃ t, exec .handover s = .next t ∧ t.tray.hand = .checked) ∧
    ((s.tray.tmc x.other).ready = false →
      ∃ t, exec .handover s = .next t ∧ t.tray.hand = .none ∧ t.tray.role = some x ∧ t.tray.faulty .svc 3 x.ix = true) := by
  have hstep := State.handoverStep_scheduled (x := x) hh he
  rw [hw, if_neg (by decide)] at hstep
  refine ⟨fun hp hready => ⟨_, exec_handover hs hr (hstep.trans (if_pos (by rw [hp, hready]; rfl))), rfl⟩, fun hready => ?_⟩
  obtain ⟨hnone, hfault⟩ := s.tray.refuseHandover_leaves x
  exact ⟨_, exec_handover hs hr (hstep.trans (if_neg (by simp [hready]))), hnone, (Tray.refuseHandover_role _ _).trans hr, hfault⟩

/-- Settles O47. -/
theorem rolesTakeEffect : Obligations.RolesTakeEffect := by
  unfold Obligations.RolesTakeEffect
  intro x s hs u m
  refine ⟨fun he hp hr ha => ⟨_, exec_roleGrant hs he hp hr ha, u.takeRole_role x, u.takeRole_roleGen x, u.ready_takeRole x⟩,
    fun hr he ha hp hready ok => ?_, fun hr hp => exec_aliveToggle hr hp, fun hb he hn => exec_heartbeatSend hs hb he hn,
    fun h hrx hp hc => heartbeatReceive_leaves hs hrx hp hc, fun hp hc hm hrx hf => exec_heartbeatLost hs hp hc hm hrx hf,
    fun hr => ⟨fun hh he hw hd => ?_, fun hh he hw => handover_scheduled hs hr hh he hw, fun hh he hring => ?_, fun hh he => ?_,
      fun hh he hheld => ?_, fun h hh hm hp hc he => exec_handoverMessage hr hh hm hp hc he⟩⟩
  · obtain ⟨hrole, hgen⟩ := s.takesRole_failover x ok
    obtain ⟨hhand, hheld, hwrite, hfault⟩ := s.failover_leaves x ok
    exact ⟨_, exec_roleFailover hs hr he ha hp hready ok, hrole, hwrite, hgen, hhand, hheld, hfault⟩
  · have hstep := State.handoverStep_scheduled (x := x) hh he
    rw [if_pos hw, if_neg (by rw [hd]; decide)] at hstep
    exact ⟨_, exec_handover hs hr hstep, hh, rfl, hr⟩
  · exact ⟨_, exec_handover hs hr (State.handoverStep_checked hh he hring), rfl, rfl⟩
  · exact ⟨_, exec_handover hs hr (State.handoverStep_acked hh he), rfl, Tray.takeRole_role _ _⟩
  · refine ⟨_, exec_handover hs hr (State.handoverStep_moved hh he hheld), ?_, rfl, ?_⟩
    · exact (Tray.sameDuty_answerSwaps _ _).1
    · exact (Tray.answerSwaps_role _ _).trans hr

end Sys2Proof.Machine
end

section
/-! LEMMAS. The tray's units and lamps (chapter 16). Refutes O48. -/

namespace Sys2Proof.Machine

-- In order, not in parallel: every elaborator thread that waits for another holds a stack within the check's memory limit.
set_option Elab.async false

/-- An index far beyond the 112 phase modules: F-TRY-12 of this "module" has the key of F-SVC-07 of TMC B. -/
def strayModule : Nat := 97976321

theorem faultKey_strayModule : faultKey .try_ 12 strayModule = faultKey .svc 7 Side.b.ix := by decide

/-- The tray at reset but that TMC A holds the role, and that a unit of this index joins as a phase module and has waited 1 s. -/
def State.strayJoining : State := State.reset.onTray fun t =>
  { t with role := some .a, joining := [{ typ := 2, idx := strayModule, age := 1000000 }] }

theorem exec_unitJoin_stray : exec (.unitJoin 2 strayModule) State.strayJoining =
    .next (State.strayJoining.onTray fun t => t.joinUnit 2 strayModule) := by
  rfl

/-- No READY standby: F-SVC-07 of TMC B comes into force, and by its key F-TRY-12 of the module that has joined. -/
theorem faulty_joinUnit_stray : (State.strayJoining.tray.joinUnit 2 strayModule).faulty .try_ 12 strayModule = true := by
  decide

/-- Refutes O48: the fault keys of the model meet for an index beyond the tray. A unit that joins as phase module 97,976,321
ends its F-TRY-12, and the F-SVC-07 that the missing standby then raises has the same key. -/
theorem not_unitsAndLampsTakeEffect : ¬ Obligations.UnitsAndLampsTakeEffect := by
  unfold Obligations.UnitsAndLampsTakeEffect
  intro h
  obtain ⟨_, _, hjoin, _⟩ := h State.strayJoining
  obtain ⟨hjoins, _⟩ := hjoin 2 strayModule { typ := 2, idx := strayModule, age := 1000000 } (by decide) (by decide)
  obtain ⟨t, ht, _, hfault, _⟩ := hjoins (.inr (by decide))
  rw [exec_unitJoin_stray] at ht
  obtain rfl := Host.Outcome.next.inj ht
  exact Bool.false_ne_true ((hfault rfl).symm.trans faulty_joinUnit_stray)

end Sys2Proof.Machine
end
